-- ==== Sys2Proof/Word.lean ====
section
/-!
DEFINITION. Sys2Proof/Word.lean: the word types of the module (R48: registers are 32 bits wide; memory is bytes).
-/

namespace Sys2Proof

/-- A 32-bit register word. -/
abbrev Word := BitVec 32

/-- One byte of SRAM or MRAM. -/
abbrev Byte := BitVec 8

/-- A 64-bit module time (MTIME, R20) or an IEEE double. -/
abbrev DWord := BitVec 64

end Sys2Proof
end

