-- ==== Sys2Proof/Config.lean ====
section
/-!
DEFINITION. Sys2Proof/Config.lean: what the manual leaves open, as constants without a body: nothing in Lean can
evaluate them, so a statement about them holds whatever they are.
-/

namespace Sys2Proof

/-- DESIGN CHOICE (log 10). The value of a floating-point operation the manual gives no result for: 0 ÷ 0 and the
square root of a negative number, by the operands (R19). -/
opaque Config.floatInvalid : Word → Word → Word

/-- DESIGN CHOICE (log 10). The same for the binary64 arithmetic of the geometry unit. -/
opaque Config.doubleInvalid : DWord → DWord → DWord

/-- DESIGN CHOICE (log 11). Elementary functions of IEEE single values: the manual names the function and not the
rounding of its result (R338 to R341, R347). -/
opaque Config.fexp : Word → Word
opaque Config.fln : Word → Word
opaque Config.fpow : Word → Word → Word
opaque Config.fsin : Word → Word
opaque Config.fcos : Word → Word
opaque Config.fatan2 : Word → Word → Word

/-- DESIGN CHOICE (log 11). Elementary functions of binary64 values, for the pose and the footprints (R137, R146). -/
opaque Config.dsin : DWord → DWord
opaque Config.dcos : DWord → DWord
opaque Config.datan2 : DWord → DWord → DWord

/-- DESIGN CHOICE (log 12). A fresh value the manual leaves open, by the model's own counter `State.free`. -/
opaque Config.freeWord : Nat → Word

/-- DESIGN CHOICE (log 12). Likewise, by the counter `State.acc`: the clock of an access within its tick, where a helper
core stands as it halts, and bytes beyond an IMU transaction. -/
opaque Config.accessWord : Nat → Word

/-- DESIGN CHOICE (log 133). L's gain and offset relative to H as a pair of codes gives them: the manual names the
update and its weight, not the estimate (R285). -/
opaque Config.crossGain : Int → Int → Word
opaque Config.crossOffset : Int → Int → Word

/-- DESIGN CHOICE (log 134). The code of a ratiometric sample whose VS5 is measured as 0, by the input in µV (R298). -/
opaque Config.noSupply : Int → Int

/-- DESIGN CHOICE (log 14). What the manual leaves to each implementation: the revision of the block with a code (R46),
the module's grade and revision (R451). -/
opaque Config.blockRev : Nat → Byte
opaque Config.grade : Bool
opaque Config.moduleRev : Byte

end Sys2Proof
end

