-- ==== Sys2Proof/Machine/Regs.lean ====
section
/-!
DEFINITION. Sys2Proof/Machine/Regs.lean: the register map of the module as plain tables (R43 to R46 and the register
tables of every chapter): one constructor of `Reg` per register family, its access code, reset value, writable fields,
value rules and home address, the named bit fields, and the layout of each page.
-/

namespace Sys2Proof.Machine

/-- The access codes of the register tables. -/
inductive Acc where
  | ro | rc | rw | kw | w1 | wo | sn
deriving DecidableEq, Repr

/-- A register family of the manual; an instance is picked by an index beside it. -/
inductive Reg where
  | PAGE_ID | PAGE_CFG | PAGE_STAT | EVT_PEND | EVT_RAW | EVT_MASK | SNAP | GUARD_KEY | GUARD_STAT 
  | DOMAIN_RST | PR_OWNER | PR_FROZEN | PR_UNFREEZE | PR_VIOL_CNT | PR_VLOG_ADDR | PR_VLOG_INFO 
  | PR_VLOG_TIME_LO | PR_VLOG_TIME_HI | PR_GCLR | PR_MEM_BASE | PR_MEM_LIM | PR_MEM_ACC | PR_PAGE_ACC 
  | AX_PG_TIME_LO | AX_PG_TIME_HI | AX_YAW_CFG | AX_YAW_TRACK | AX_YAW_CAN | AX_YAW_CANID | AX_YAW_CANK 
  | AX_YAW_TO | AX_YAW | AX_YAW_STAT | AX_CFG | AX_SRC | AX_K0 | AX_K1 | AX_K2 | AX_PRE_LO | AX_PRE_HI 
  | AX_FALL | AX_GNSS | AX_APPLY | AX_MAINS | AX_STEP | AX_SOFT_V | AX_SOFT_A | AX_STAT | AX_POS_LO 
  | AX_POS_HI | AX_VEL | AX_ACC | AX_CORR_W | AX_CORR_R | AX_CNT | AX_GNSS_V | LN_CMD | LN_FORCE | LN_PUSH0 
  | LN_PUSH1 | LN_PUSH2 | LN_PUSH3 | LN_PUSH_GO | LN_PUSH_RES | LN_CNT_FLUSH | LN_CNT_FIRE | LN_CNT_ERR 
  | LN_LLOG_LANE | LN_LLOG_SHORT | LN_LLOG_TIME_LO | LN_LLOG_TIME_HI | LN_PROF | LN_TPL_CFG | LN_TPL_ID 
  | LN_TPL_DON | LN_TPL_DOFF | LN_CFG | LN_DON | LN_DOFF | LN_STAT | LN_LATE | LN_FLUSH | LN_RCFG | LN_RLATE 
  | LN_RFLUSH | GM_CTRL | GM_CFG | GM_WET | GM_VREF | GM_DUTY_LIM | GM_ORG_LAT | GM_ORG_LON | GM_ANT_X 
  | GM_ANT_Y | GM_GNSS_CFG | GM_BLEND | GM_FIX_TO | GM_JOB | GM_LOG | GM_STAT | GM_FIX | GM_FIX_GO 
  | GM_FIX_RES | GM_IMU_CFG | GM_IMU_CMD | GM_IMU_FMT | GM_IMU_K | GM_MAP_CMD | GM_MAP_ARG | GM_MAP_SRC 
  | GM_PX_LO | GM_PX_HI | GM_PY_LO | GM_PY_HI | GM_HEAD | GM_RESID | GM_MISS_TILE | GM_CNT_COV | GM_CNT_LAP 
  | GM_CNT_WET | GM_CNT_LOST | GM_CNT_ERR | GM_WANT | GM_WANT_DIST | GM_ZONE | GM_FLOW_SUM | GM_APP_SEL 
  | GM_APP_CFG | GM_APP_ARMX | GM_APP_ARMY | GM_APP_W | GM_APP_FLOW | GM_APP_STAT | GM_DEC | GM_OPEN 
  | GM_INHIB | GM_TC_STAT | GM_TC_CNT | GM_TC_EVICT | FB_CFG | FB_FILT | FB_OBS | FB_IDX | FB_ERR_CFG 
  | FB_SSI | FB_SSI2 | FB_CMP_CFG | FB_CMP | FB_CMP_SPACE | FB_CTRL | FB_EVT | FB_EVT_MASK | FB_STAT | FB_POS 
  | FB_VEL | FB_ACC | FB_EDGE_TIME_LO | FB_EDGE_TIME_HI | FB_CMP_TIME_LO | FB_CMP_TIME_HI | FB_CMP_CNT 
  | FB_ERRCNT | FB_LC | FB_IDX_POS | FB_SSI_RAW | FB_VP | FB_PG_TIME_LO | FB_PG_TIME_HI | FWD_CFG | FWD_EMU 
  | FWD_WID | FWD_STAT | VG_CFG | VG_BUDGET | VG_TEST | VG_CTRL | VG_TAMB | VG_STAT | VG_EVT | VG_EVT_MASK 
  | VG_VSUP | VG_IGRP | VG_GCNT | VG_DLAST | VG_PG_TIME_LO | VG_PG_TIME_HI | VG_CCFG | VG_CCUR | VG_CPEAKT 
  | VG_CDET | VG_CTHM | VG_CRREF | VG_CTREF | VG_CCTRL | VG_CSTAT | VG_CI | VG_CDON | VG_CDOFF | VG_CR 
  | VG_CT | VG_CAGE | VG_CCNT | VG_CDUTY | VG_DIE | VG_DIESTAT | VS_CFG | VS_PERIOD | VS_DUTY | VS_PHASE 
  | VS_AXPER | VS_ONREF | VS_CTRL | VS_STAT | VS_ON | VS_PER_ACT | VS_CNT | VS_CLIP | VS_CLIP_MASK | BP_CFG 
  | BP_PERIOD | BP_DUTY | BP_DT | BP_PHASE | BP_CTRL | BP_STAT | BP_ON | BP_PER_ACT | BP_CNT | PG_FLT_CFG 
  | PG_FLT_STAT | PG_FLT_CLR | PG_STAT | BP_EVT | BP_EVT_MASK | LS_CMD | LS_PIN | LS_SUP_STAT | LS_DIE 
  | LS_GCTRL | LS_VSUP01 | LS_VSUP23 | LS_SENSE_CFG | LS_ITOT | LS_CFG | LS_INR | LS_CTRL | LS_STAT | LS_EVT 
  | LS_EVT_MASK | LS_I | LS_TJ | LS_CNT | LS_TLAST_LO | LS_TLAST_HI | LS_PG_TIME_LO | LS_PG_TIME_HI | PC_ROT 
  | PC_ROT_STAT | PC_REF | PC_CFG | PC_ROFS | PC_LIM_LO | PC_LIM_HI | PC_CTRL | PC_STAT | PC_EVT 
  | PC_EVT_MASK | PC_RAW | PC_VAL | PC_FLAGS | PC_TIME_LO | PC_TIME_HI | PC_IEXC | PC_IMATCH | PC_CALAGE 
  | PC_CNT | PC_PG_TIME_LO | PC_PG_TIME_HI | GC_CFG | GC_GAIN | GC_OFS | GC_LIM_LO | GC_LIM_HI | GC_STAT 
  | GC_EVT | GC_EVT_MASK | GC_RAW | GC_VAL | GC_TIME_LO | GC_TIME_HI | GC_PG_TIME_LO | GC_PG_TIME_HI | ZC_CFG 
  | ZC_FREQ01 | ZC_FREQ23 | ZC_CSEL | ZC_K_RE | ZC_K_IM | ZC_Y0_RE | ZC_Y0_IM | ZC_STAT | ZC_G | ZC_B | ZC_T 
  | ZC_TIME_LO | ZC_TIME_HI | ZC_EVT | AO_CFG | AO_VAL | AO_SAFE | AO_LIM | AO_STAT | AO_CODE | AO_RB 
  | AO_EVT | ZC_PG_TIME_LO | ZC_PG_TIME_HI | LP_CFG | LP_SRC | LP_SRC2 | LP_PERIOD | LP_SP | LP_FF | LP_YK 
  | LP_SPK | LP_RLIM | LP_ALIM | LP_OMIN | LP_OMAX | LP_FRESH | LP_FROZ_DU | LP_FBVAL | LP_SLEW | LP_CTRL 
  | LP_STAT | LP_EVT | LP_EVT_MASK | LP_R | LP_Y | LP_V | LP_U | LP_I | LP_CNT | LP_BSEL | LP_KP | LP_KI 
  | LP_KD | LP_TF | LP_B | LP_C | LP_KT | LP_KFF | LP_GCFG | LP_GSLEW | LP_GSTAT0 | LP_GSTAT1 | LP_GSWAP 
  | TG_CFG | TG_AMP | TG_F0 | TG_F1 | TG_FSTEP | TG_CAP | TG_CTRL | TG_STAT | LP_PG_TIME_LO | LP_PG_TIME_HI 
  | DP_CFG | DP_GEOM | DP_SENS | DP_OUTOFS | DP_PRED_LO | DP_PRED_HI | DP_FMIN | DP_BIASCFG | DP_FILL 
  | DP_MSEED | DP_TARGET | DP_HEAT | DP_CTRL | DP_STAT | DP_EVT | DP_EVT_MASK | DP_ZCFG | DP_ZRH | DP_OUT 
  | DP_BIAS | DP_PARC | DP_CNT | DP_ZME | DP_ZK | DP_PG_TIME_LO | DP_PG_TIME_HI | DP_AMB | DP_SE_TO 
  | DP_KC_REQ | DP_CR_A | DP_CR_N | DP_CR_C | DP_CR_K1 | DP_CR_K2 | DP_CR_TAUG | DP_CR_A0 | DP_CR_A1 
  | DP_CR_A2 | DP_CR_A3 | DP_CR_A4 | DP_CR_TREF | DP_KC_CFG | DP_KC_PH | DP_KC_STAT | DP_KC_CNT | DP_SE_CFG 
  | DP_SE_K | DP_SE_VAL | DP_AE_CFG | DP_AE_LIM | DP_AE_ME | DP_AE_STAT | DP_ST_TIME_LO | DP_ST_TIME_HI 
  | CAN_CFG | CAN_NBT | CAN_DBT | CAN_TDC | CAN_CTRL | CAN_STAT | CAN_EVT | CAN_EVT_MASK | CAN_ERR | CAN_TDCR 
  | CAN_CNT_RX | CAN_CNT_TX | CAN_CNT_ERR | CAN_COLL_ID | CAN_PG_TIME_LO | CAN_PG_TIME_HI | CAN_STAMP_AX 
  | SB_CFG | SB_BAUD | SB_TIME | SB_CTRL | SB_TRIG0 | SB_TRIG1 | SB_STAT | SB_EVT | SB_EVT_MASK | SB_CNT 
  | SB_CNT2 | SB_PG_TIME_LO | SB_PG_TIME_HI | SB_PE_CFG | SB_PE_REQ0 | SB_PE_REQ1 | ER_RTE | ER_ACT 
  | ER_INTCFG | ER_INTSTAT | ER_CLAIM | ER_HSMASK | Q_BASE | Q_GEOM | Q_HEAD | Q_TAIL | Q_WMARK | Q_STAT 
  | Q_CNT | Q_CTRL | Q_EVT0 | Q_EVT1 | Q_EVT_MASK0 | Q_EVT_MASK1 | Q_PG_TIME_LO | Q_PG_TIME_HI | HL_PCFG 
  | HL_IP | HL_MASK | HL_UDP | HL_MAC_LO | HL_MAC_HI | HL_PSTAT | HL_PCNT | HL_SPI_CFG | HL_SPI_STAT 
  | HL_SPI_CNT | HL_EPOCH | HL_SCFG | HL_SPEER | HL_SPORT | HL_SSTAT | HL_SSEQ | HL_SSSEQ | HL_SCNT | HL_SREQ 
  | HC_RUN | HC_CFG | HC_STAT | HC_PC | HC_CAUSE | HC_TVAL | HC_WDT | HC_KICK | HC_PG_TIME_LO | HC_PG_TIME_HI 
  | MOD_ID | MOD_CTRL | MOD_STAT | MOD_RST_CAUSE | MOD_FAULT | MOD_IMG | MOD_TIME_LO | MOD_TIME_HI | SUP_STAT 
  | SUP_VBATL | SUP_TDIE | SUP_XDEV | SUP_CLR | MM_CMD | MM_SRC | MM_LEN | MM_STAT | MM_ECC | MM_OFS | RP_CFG 
  | RP_CTRL | RP_STAT | RP_EVT | RP_EVT_MASK | RP_T0_LO | RP_T0_HI | RP_REC_BASE | RP_REC_GEOM | RP_REC_HEAD 
  | RP_REC_TAIL | RP_CNT | RP_LATE | RP_OFS_LO | RP_OFS_HI | DG_CFG | DG_CTRL | DG_STAT
deriving DecidableEq, Repr

/-- A rule of a field table about the values a register takes: a field stored at the nearer end of its range, or a
value that receives an error response. -/
inductive FieldRule where
  | clamp (hi lo min max : Nat)
  | errEq (hi lo v : Nat)
  | errAbove (hi lo max : Nat)
  | errNotPos
  | errNeg
deriving DecidableEq, Repr

/-- One register family as its field table gives it. `wmask` holds the writable fields; `page`, `off`, `stride` and
`per` give the address of instance `i`: page `page + i / per` (`page` when `per` is 0), offset `off + stride * (i % per)`.
-/
structure RegInfo where
  acc : Acc
  reset : Word
  wmask : Word
  float : Bool
  rules : List FieldRule
  page : Nat
  off : Nat
  stride : Nat
  per : Nat
deriving DecidableEq, Repr

/-- The tables of the chapters, one line per register family. A reset the primer image supplies stands as 0 here. -/
def Reg.info : Reg → RegInfo
  | .PAGE_ID => ⟨.ro, 0#32, 0#32, false, [], 0x00, 0x000, 0, 1⟩
  | .PAGE_CFG => ⟨.rw, 0#32, 0#32, false, [], 0x00, 0x004, 0, 1⟩
  | .PAGE_STAT => ⟨.ro, 0#32, 0#32, false, [], 0x00, 0x008, 0, 1⟩
  | .EVT_PEND => ⟨.rc, 0#32, 0#32, false, [], 0x00, 0x00C, 0, 1⟩
  | .EVT_RAW => ⟨.ro, 0#32, 0#32, false, [], 0x00, 0x010, 0, 1⟩
  | .EVT_MASK => ⟨.rw, 0#32, 0xFFFFFFFF#32, false, [], 0x00, 0x014, 0, 1⟩
  | .SNAP => ⟨.w1, 0#32, 1#32, false, [], 0x00, 0x018, 0, 1⟩
  | .GUARD_KEY => ⟨.wo, 0#32, 0xFFFFFFFF#32, false, [], 0x00, 0x01C, 0, 1⟩
  | .GUARD_STAT => ⟨.ro, 0#32, 0#32, false, [], 0x00, 0x020, 0, 1⟩
  | .DOMAIN_RST => ⟨.kw, 0#32, 1#32, false, [], 0x00, 0x024, 0, 1⟩
  | .PR_OWNER => ⟨.ro, 0#32, 0#32, false, [], 0x01, 0x040, 4, 0⟩
  | .PR_FROZEN => ⟨.ro, 0#32, 0#32, false, [], 0x01, 0x044, 4, 0⟩
  | .PR_UNFREEZE => ⟨.w1, 0#32, 0xFFFFFFFF#32, false, [], 0x01, 0x048, 4, 0⟩
  | .PR_VIOL_CNT => ⟨.ro, 0#32, 0#32, false, [], 0x01, 0x04C, 4, 0⟩
  | .PR_VLOG_ADDR => ⟨.sn, 0#32, 0#32, false, [], 0x01, 0x050, 4, 0⟩
  | .PR_VLOG_INFO => ⟨.sn, 0#32, 0#32, false, [], 0x01, 0x054, 4, 0⟩
  | .PR_VLOG_TIME_LO => ⟨.sn, 0#32, 0#32, false, [], 0x01, 0x058, 4, 0⟩
  | .PR_VLOG_TIME_HI => ⟨.sn, 0#32, 0#32, false, [], 0x01, 0x05C, 4, 0⟩
  | .PR_GCLR => ⟨.wo, 0#32, 0xFF#32, false, [], 0x01, 0x060, 4, 0⟩
  | .PR_MEM_BASE => ⟨.rw, 0#32, 0xFFFFF000#32, false, [], 0x01, 0x080, 12, 0⟩
  | .PR_MEM_LIM => ⟨.rw, 0xFFF#32, 0xFFFFF000#32, false, [], 0x01, 0x084, 12, 0⟩
  | .PR_MEM_ACC => ⟨.rw, 0#32, 0x8000FFFF#32, false, [], 0x01, 0x088, 12, 0⟩
  | .PR_PAGE_ACC => ⟨.rw, 0#32, 0xFFFFFFFF#32, false, [], 0x01, 0x200, 4, 0⟩
  | .AX_PG_TIME_LO => ⟨.sn, 0#32, 0#32, false, [], 0x04, 0x040, 4, 1⟩
  | .AX_PG_TIME_HI => ⟨.sn, 0#32, 0#32, false, [], 0x04, 0x044, 4, 1⟩
  | .AX_YAW_CFG => ⟨.kw, 0#32, 0x3F77#32, false, [], 0x04, 0x048, 4, 0⟩
  | .AX_YAW_TRACK => ⟨.rw, 0x3F800000#32, 0xFFFFFFFF#32, true, [.errNotPos], 0x04, 0x04C, 4, 0⟩
  | .AX_YAW_CAN => ⟨.rw, 0x50000#32, 0xF3F07#32, false, [], 0x04, 0x050, 4, 0⟩
  | .AX_YAW_CANID => ⟨.rw, 0#32, 0x9FFFFFFF#32, false, [], 0x04, 0x054, 4, 0⟩
  | .AX_YAW_CANK => ⟨.rw, 0#32, 0xFFFFFFFF#32, true, [], 0x04, 0x058, 4, 0⟩
  | .AX_YAW_TO => ⟨.rw, 0x64#32, 0x3FF#32, false, [.clamp 9 0 1 1000], 0x04, 0x05C, 4, 0⟩
  | .AX_YAW => ⟨.sn, 0#32, 0#32, false, [], 0x04, 0x060, 4, 0⟩
  | .AX_YAW_STAT => ⟨.ro, 0#32, 0#32, false, [], 0x04, 0x064, 4, 0⟩
  | .AX_CFG => ⟨.kw, 2#32, 0x1F007B#32, false, [], 0x04, 0x080, 96, 8⟩
  | .AX_SRC => ⟨.kw, 0#32, 0x33F3F3F#32, false, [], 0x04, 0x084, 96, 8⟩
  | .AX_K0 => ⟨.rw, 0x3F800000#32, 0xFFFFFFFF#32, true, [], 0x04, 0x088, 96, 8⟩
  | .AX_K1 => ⟨.rw, 0x3F800000#32, 0xFFFFFFFF#32, true, [], 0x04, 0x08C, 96, 8⟩
  | .AX_K2 => ⟨.rw, 0x3F800000#32, 0xFFFFFFFF#32, true, [], 0x04, 0x090, 96, 8⟩
  | .AX_PRE_LO => ⟨.rw, 0#32, 0xFFFFFFFF#32, false, [], 0x04, 0x094, 96, 8⟩
  | .AX_PRE_HI => ⟨.rw, 0#32, 0xFFFF#32, false, [], 0x04, 0x098, 96, 8⟩
  | .AX_FALL => ⟨.rw, 0x1F43204#32, 0xFFFFF3F#32, false, [.clamp 27 16 0 2000, .clamp 15 8 10 200, .clamp 5 0 2 63], 0x04, 0x09C, 96, 8⟩
  | .AX_GNSS => ⟨.rw, 0x12C#32, 0x71FFF#32, false, [.clamp 12 0 50 5000], 0x04, 0x0A0, 96, 8⟩
  | .AX_APPLY => ⟨.rw, 0x532012C#32, 0x7FFF07FF#32, false, [.clamp 30 24 0 100, .clamp 10 0 100 1000], 0x04, 0x0A4, 96, 8⟩
  | .AX_MAINS => ⟨.rw, 0#32, 1#32, false, [], 0x04, 0x0A8, 96, 8⟩
  | .AX_STEP => ⟨.wo, 0#32, 0xFFFFFFFF#32, false, [], 0x04, 0x0AC, 96, 8⟩
  | .AX_SOFT_V => ⟨.rw, 0#32, 0xFFFFFFFF#32, true, [], 0x04, 0x0B0, 96, 8⟩
  | .AX_SOFT_A => ⟨.rw, 0#32, 0xFFFFFFFF#32, true, [], 0x04, 0x0B4, 96, 8⟩
  | .AX_STAT => ⟨.ro, 0x30#32, 0#32, false, [], 0x04, 0x0B8, 96, 8⟩
  | .AX_POS_LO => ⟨.sn, 0#32, 0#32, false, [], 0x04, 0x0BC, 96, 8⟩
  | .AX_POS_HI => ⟨.sn, 0#32, 0#32, false, [], 0x04, 0x0C0, 96, 8⟩
  | .AX_VEL => ⟨.sn, 0#32, 0#32, false, [], 0x04, 0x0C4, 96, 8⟩
  | .AX_ACC => ⟨.sn, 0#32, 0#32, false, [], 0x04, 0x0C8, 96, 8⟩
  | .AX_CORR_W => ⟨.sn, 0x3F800000#32, 0#32, false, [], 0x04, 0x0CC, 96, 8⟩
  | .AX_CORR_R => ⟨.sn, 0x3F800000#32, 0#32, false, [], 0x04, 0x0D0, 96, 8⟩
  | .AX_CNT => ⟨.sn, 0#32, 0#32, false, [], 0x04, 0x0D4, 96, 8⟩
  | .AX_GNSS_V => ⟨.sn, 0#32, 0#32, false, [], 0x04, 0x0D8, 96, 8⟩
  | .LN_CMD => ⟨.rw, 0#32, 0xFFFFFFFF#32, false, [], 0x08, 0x040, 4, 0⟩
  | .LN_FORCE => ⟨.ro, 0#32, 0#32, false, [], 0x08, 0x060, 4, 0⟩
  | .LN_PUSH0 => ⟨.rw, 0#32, 0xFFFFFFFF#32, false, [], 0x08, 0x080, 4, 0⟩
  | .LN_PUSH1 => ⟨.rw, 0#32, 0xFFFFFFFF#32, false, [], 0x08, 0x084, 4, 0⟩
  | .LN_PUSH2 => ⟨.rw, 0#32, 0xFFFFFFFF#32, false, [], 0x08, 0x088, 4, 0⟩
  | .LN_PUSH3 => ⟨.rw, 0#32, 0xFFFFFFFF#32, false, [], 0x08, 0x08C, 4, 0⟩
  | .LN_PUSH_GO => ⟨.wo, 0#32, 0x3FF#32, false, [], 0x08, 0x090, 4, 0⟩
  | .LN_PUSH_RES => ⟨.ro, 0#32, 0#32, false, [], 0x08, 0x094, 4, 0⟩
  | .LN_CNT_FLUSH => ⟨.sn, 0#32, 0#32, false, [], 0x08, 0x098, 4, 0⟩
  | .LN_CNT_FIRE => ⟨.sn, 0#32, 0#32, false, [], 0x08, 0x0A0, 4, 0⟩
  | .LN_CNT_ERR => ⟨.sn, 0#32, 0#32, false, [], 0x08, 0x0A4, 4, 0⟩
  | .LN_LLOG_LANE => ⟨.sn, 0#32, 0#32, false, [], 0x08, 0x0A8, 4, 0⟩
  | .LN_LLOG_SHORT => ⟨.sn, 0#32, 0#32, false, [], 0x08, 0x0AC, 4, 0⟩
  | .LN_LLOG_TIME_LO => ⟨.sn, 0#32, 0#32, false, [], 0x08, 0x0B0, 4, 0⟩
  | .LN_LLOG_TIME_HI => ⟨.sn, 0#32, 0#32, false, [], 0x08, 0x0B4, 4, 0⟩
  | .LN_PROF => ⟨.rw, 0#32, 0xFFFFFFFF#32, false, [], 0x08, 0x0C0, 4, 0⟩
  | .LN_TPL_CFG => ⟨.rw, 0#32, 0xFFFFF0FF#32, false, [], 0x08, 0x100, 16, 0⟩
  | .LN_TPL_ID => ⟨.rw, 0#32, 0x1FFFFFFF#32, false, [], 0x08, 0x104, 16, 0⟩
  | .LN_TPL_DON => ⟨.rw, 0#32, 0xFF1FFFFF#32, false, [.clamp 20 0 0 2000000], 0x08, 0x108, 16, 0⟩
  | .LN_TPL_DOFF => ⟨.rw, 0#32, 0x1FFFFF#32, false, [.clamp 20 0 0 2000000], 0x08, 0x10C, 16, 0⟩
  | .LN_CFG => ⟨.rw, 0#32, 0x7FFF1F05#32, false, [], 0x09, 0x040, 12, 64⟩
  | .LN_DON => ⟨.rw, 0#32, 0x1FFFFF#32, false, [], 0x09, 0x044, 12, 64⟩
  | .LN_DOFF => ⟨.rw, 0#32, 0x1FFFFF#32, false, [], 0x09, 0x048, 12, 64⟩
  | .LN_STAT => ⟨.ro, 0#32, 0#32, false, [], 0x09, 0x340, 4, 32⟩
  | .LN_LATE => ⟨.rc, 0#32, 0#32, false, [], 0x09, 0x3C0, 4, 2⟩
  | .LN_FLUSH => ⟨.w1, 0#32, 0xFFFFFFFF#32, false, [], 0x09, 0x3C8, 4, 2⟩
  | .LN_RCFG => ⟨.rw, 0#32, 0x5FFFF81#32, false, [], 0x0D, 0x040, 4, 192⟩
  | .LN_RLATE => ⟨.rc, 0#32, 0#32, false, [], 0x0D, 0x340, 4, 6⟩
  | .LN_RFLUSH => ⟨.w1, 0#32, 0xFFFFFFFF#32, false, [], 0x0D, 0x360, 4, 6⟩
  | .GM_CTRL => ⟨.rw, 0#32, 1#32, false, [], 0x10, 0x040, 4, 0⟩
  | .GM_CFG => ⟨.kw, 0x40A0000#32, 0x3FFF1F00#32, false, [.errEq 29 28 3, .errEq 23 22 3], 0x10, 0x044, 4, 0⟩
  | .GM_WET => ⟨.rw, 0x2000064#32, 0xFF0001FF#32, false, [.clamp 31 24 1 255, .clamp 8 0 0 500], 0x10, 0x048, 4, 0⟩
  | .GM_VREF => ⟨.rw, 0x40A00000#32, 0xFFFFFFFF#32, true, [.errNotPos], 0x10, 0x04C, 4, 0⟩
  | .GM_DUTY_LIM => ⟨.rw, 0x80000CCD#32, 0xFFFFFFFF#32, false, [.clamp 31 16 0 32768], 0x10, 0x050, 4, 0⟩
  | .GM_ORG_LAT => ⟨.kw, 0#32, 0xFFFFFFFF#32, false, [], 0x10, 0x054, 4, 0⟩
  | .GM_ORG_LON => ⟨.kw, 0#32, 0xFFFFFFFF#32, false, [], 0x10, 0x058, 4, 0⟩
  | .GM_ANT_X => ⟨.rw, 0#32, 0xFFFFFFFF#32, false, [], 0x10, 0x05C, 4, 0⟩
  | .GM_ANT_Y => ⟨.rw, 0#32, 0xFFFFFFFF#32, false, [], 0x10, 0x060, 4, 0⟩
  | .GM_GNSS_CFG => ⟨.rw, 0x1055#32, 0x3FF73FF#32, false, [.clamp 14 12 1 5, .clamp 7 4 0 7, .clamp 3 0 0 7], 0x10, 0x064, 4, 0⟩
  | .GM_BLEND => ⟨.rw, 0xC81432#32, 0xFFFFFFFF#32, false, [.clamp 31 16 1 65535, .clamp 15 8 1 255, .clamp 7 4 0 8, .clamp 3 0 0 8], 0x10, 0x068, 4, 0⟩
  | .GM_FIX_TO => ⟨.rw, 0x3E8#32, 0x3FFF#32, false, [.clamp 13 0 100 10000], 0x10, 0x06C, 4, 0⟩
  | .GM_JOB => ⟨.kw, 0#32, 0xFFFFFFFF#32, false, [], 0x10, 0x070, 4, 0⟩
  | .GM_LOG => ⟨.rw, 0x64#32, 0xFFFF#32, false, [], 0x10, 0x074, 4, 0⟩
  | .GM_STAT => ⟨.ro, 0#32, 0#32, false, [], 0x10, 0x078, 4, 0⟩
  | .GM_FIX => ⟨.rw, 0#32, 0xFFFFFFFF#32, false, [], 0x10, 0x080, 4, 0⟩
  | .GM_FIX_GO => ⟨.w1, 0#32, 1#32, false, [], 0x10, 0x0A0, 4, 0⟩
  | .GM_FIX_RES => ⟨.ro, 0#32, 0#32, false, [], 0x10, 0x0A4, 4, 0⟩
  | .GM_IMU_CFG => ⟨.rw, 0x644918#32, 0xFFFFFF1F#32, false, [.clamp 31 16 100 65535, .clamp 15 12 2 15, .clamp 11 8 4 15], 0x10, 0x0A8, 4, 0⟩
  | .GM_IMU_CMD => ⟨.rw, 0#32, 0xFFFFFFFF#32, false, [], 0x10, 0x0AC, 4, 0⟩
  | .GM_IMU_FMT => ⟨.rw, 0xD2#32, 0xFF#32, false, [.clamp 5 4 0 2], 0x10, 0x0B0, 4, 0⟩
  | .GM_IMU_K => ⟨.rw, 0#32, 0xFFFFFFFF#32, true, [], 0x10, 0x0B4, 4, 0⟩
  | .GM_MAP_CMD => ⟨.kw, 0#32, 7#32, false, [], 0x10, 0x0B8, 4, 0⟩
  | .GM_MAP_ARG => ⟨.rw, 0#32, 0xFFFFFFFF#32, false, [], 0x10, 0x0BC, 4, 0⟩
  | .GM_MAP_SRC => ⟨.rw, 0x1178000#32, 0xFFFFFFFF#32, false, [], 0x10, 0x0C0, 4, 0⟩
  | .GM_PX_LO => ⟨.sn, 0#32, 0#32, false, [], 0x10, 0x0D0, 4, 0⟩
  | .GM_PX_HI => ⟨.sn, 0#32, 0#32, false, [], 0x10, 0x0D4, 4, 0⟩
  | .GM_PY_LO => ⟨.sn, 0#32, 0#32, false, [], 0x10, 0x0D8, 4, 0⟩
  | .GM_PY_HI => ⟨.sn, 0#32, 0#32, false, [], 0x10, 0x0DC, 4, 0⟩
  | .GM_HEAD => ⟨.sn, 0#32, 0#32, false, [], 0x10, 0x0E0, 4, 0⟩
  | .GM_RESID => ⟨.sn, 0#32, 0#32, false, [], 0x10, 0x0E4, 4, 0⟩
  | .GM_MISS_TILE => ⟨.sn, 0#32, 0#32, false, [], 0x10, 0x0E8, 4, 0⟩
  | .GM_CNT_COV => ⟨.sn, 0#32, 0#32, false, [], 0x10, 0x0EC, 4, 0⟩
  | .GM_CNT_LAP => ⟨.sn, 0#32, 0#32, false, [], 0x10, 0x0F0, 4, 0⟩
  | .GM_CNT_WET => ⟨.sn, 0#32, 0#32, false, [], 0x10, 0x0F4, 4, 0⟩
  | .GM_CNT_LOST => ⟨.sn, 0#32, 0#32, false, [], 0x10, 0x0F8, 4, 0⟩
  | .GM_CNT_ERR => ⟨.sn, 0#32, 0#32, false, [], 0x10, 0x0FC, 4, 0⟩
  | .GM_WANT => ⟨.ro, 0xFFFFFFFF#32, 0#32, false, [], 0x10, 0x100, 4, 0⟩
  | .GM_WANT_DIST => ⟨.rw, 0x64#32, 0x1FF#32, false, [.clamp 8 0 0 500], 0x10, 0x120, 4, 0⟩
  | .GM_ZONE => ⟨.rw, 0#32, 0xFFFF0003#32, false, [], 0x10, 0x140, 4, 0⟩
  | .GM_FLOW_SUM => ⟨.sn, 0#32, 0#32, false, [], 0x10, 0x180, 4, 0⟩
  | .GM_APP_SEL => ⟨.rw, 0#32, 0x3FF#32, false, [.errAbove 9 0 639], 0x11, 0x040, 4, 0⟩
  | .GM_APP_CFG => ⟨.rw, 2#32, 0x1F#32, false, [], 0x11, 0x044, 4, 0⟩
  | .GM_APP_ARMX => ⟨.rw, 0#32, 0xFFFFFFFF#32, false, [], 0x11, 0x048, 4, 0⟩
  | .GM_APP_ARMY => ⟨.rw, 0#32, 0xFFFFFFFF#32, false, [], 0x11, 0x04C, 4, 0⟩
  | .GM_APP_W => ⟨.rw, 0x1F4#32, 0x1FFF#32, false, [.clamp 12 0 10 5000], 0x11, 0x050, 4, 0⟩
  | .GM_APP_FLOW => ⟨.rw, 0#32, 0xFFFFFFFF#32, true, [.errNeg], 0x11, 0x054, 4, 0⟩
  | .GM_APP_STAT => ⟨.ro, 0#32, 0#32, false, [], 0x11, 0x058, 4, 0⟩
  | .GM_DEC => ⟨.ro, 0#32, 0#32, false, [], 0x12, 0x040, 4, 0⟩
  | .GM_OPEN => ⟨.ro, 0#32, 0#32, false, [], 0x12, 0x090, 4, 0⟩
  | .GM_INHIB => ⟨.rw, 0#32, 0xFFFFFFFF#32, false, [], 0x12, 0x0E0, 4, 0⟩
  | .GM_TC_STAT => ⟨.ro, 0#32, 0#32, false, [], 0x13, 0x040, 4, 0⟩
  | .GM_TC_CNT => ⟨.sn, 0#32, 0#32, false, [], 0x13, 0x044, 4, 0⟩
  | .GM_TC_EVICT => ⟨.wo, 0#32, 0xFFFFFFFF#32, false, [], 0x13, 0x048, 4, 0⟩
  | .FB_CFG => ⟨.kw, 0#32, 0xFF#32, false, [], 0x14, 0x040, 256, 3⟩
  | .FB_FILT => ⟨.rw, 0x707#32, 0xFFFFFFFF#32, false, [], 0x14, 0x044, 256, 3⟩
  | .FB_OBS => ⟨.rw, 0x20C8#32, 0xFFFF3FFF#32, false, [.clamp 11 0 1 2000], 0x14, 0x048, 256, 3⟩
  | .FB_IDX => ⟨.rw, 0#32, 0xFFFFFFFF#32, false, [], 0x14, 0x04C, 256, 3⟩
  | .FB_ERR_CFG => ⟨.rw, 0x30004#32, 0xF03FF#32, false, [.clamp 19 16 1 15], 0x14, 0x050, 256, 3⟩
  | .FB_SSI => ⟨.rw, 0x506319#32, 0x3FFFFFF#32, false, [.clamp 25 18 1 255, .clamp 17 8 49 999, .clamp 5 0 10 32], 0x14, 0x054, 256, 3⟩
  | .FB_SSI2 => ⟨.rw, 0xA#32, 0xFFFFFFFF#32, false, [.clamp 15 0 1 65535], 0x14, 0x058, 256, 3⟩
  | .FB_CMP_CFG => ⟨.rw, 0#32, 7#32, false, [], 0x14, 0x05C, 256, 3⟩
  | .FB_CMP => ⟨.rw, 0#32, 0xFFFFFFFF#32, false, [], 0x14, 0x060, 256, 3⟩
  | .FB_CMP_SPACE => ⟨.rw, 1#32, 0xFFFFFFFF#32, false, [.clamp 31 0 1 1073741824], 0x14, 0x064, 256, 3⟩
  | .FB_CTRL => ⟨.w1, 0#32, 3#32, false, [], 0x14, 0x068, 256, 3⟩
  | .FB_EVT => ⟨.rc, 0#32, 0#32, false, [], 0x14, 0x06C, 256, 3⟩
  | .FB_EVT_MASK => ⟨.rw, 0x249#32, 0xFFF#32, false, [], 0x14, 0x070, 256, 3⟩
  | .FB_STAT => ⟨.ro, 0#32, 0#32, false, [], 0x14, 0x074, 256, 3⟩
  | .FB_POS => ⟨.sn, 0#32, 0#32, false, [], 0x14, 0x078, 256, 3⟩
  | .FB_VEL => ⟨.sn, 0#32, 0#32, false, [], 0x14, 0x07C, 256, 3⟩
  | .FB_ACC => ⟨.sn, 0#32, 0#32, false, [], 0x14, 0x080, 256, 3⟩
  | .FB_EDGE_TIME_LO => ⟨.sn, 0#32, 0#32, false, [], 0x14, 0x084, 256, 3⟩
  | .FB_EDGE_TIME_HI => ⟨.sn, 0#32, 0#32, false, [], 0x14, 0x088, 256, 3⟩
  | .FB_CMP_TIME_LO => ⟨.sn, 0#32, 0#32, false, [], 0x14, 0x08C, 256, 3⟩
  | .FB_CMP_TIME_HI => ⟨.sn, 0#32, 0#32, false, [], 0x14, 0x090, 256, 3⟩
  | .FB_CMP_CNT => ⟨.sn, 0#32, 0#32, false, [], 0x14, 0x094, 256, 3⟩
  | .FB_ERRCNT => ⟨.sn, 0#32, 0#32, false, [], 0x14, 0x098, 256, 3⟩
  | .FB_LC => ⟨.sn, 0#32, 0#32, false, [], 0x14, 0x09C, 256, 3⟩
  | .FB_IDX_POS => ⟨.sn, 0#32, 0#32, false, [], 0x14, 0x0A0, 256, 3⟩
  | .FB_SSI_RAW => ⟨.sn, 0#32, 0#32, false, [], 0x14, 0x0A4, 256, 3⟩
  | .FB_VP => ⟨.sn, 0#32, 0#32, false, [], 0x14, 0x0A8, 256, 3⟩
  | .FB_PG_TIME_LO => ⟨.sn, 0#32, 0#32, false, [], 0x14, 0x340, 4, 1⟩
  | .FB_PG_TIME_HI => ⟨.sn, 0#32, 0#32, false, [], 0x14, 0x344, 4, 1⟩
  | .FWD_CFG => ⟨.rw, 0#32, 0x7F17#32, false, [.errAbove 2 0 4], 0x1C, 0x040, 16, 0⟩
  | .FWD_EMU => ⟨.rw, 0xE10#32, 0xFFFF#32, false, [.clamp 15 0 1 65535], 0x1C, 0x044, 16, 0⟩
  | .FWD_WID => ⟨.rw, 0x64#32, 0x1FFFFF#32, false, [.clamp 20 0 1 2000000], 0x1C, 0x048, 16, 0⟩
  | .FWD_STAT => ⟨.ro, 0#32, 0#32, false, [], 0x1C, 0x04C, 16, 0⟩
  | .VG_CFG => ⟨.kw, 0x36#32, 0x3F#32, false, [.clamp 3 2 0 2], 0x20, 0x040, 4, 1⟩
  | .VG_BUDGET => ⟨.rw, 0x7D00200#32, 0xFFFF03FF#32, false, [.clamp 9 0 16 512], 0x20, 0x044, 4, 1⟩
  | .VG_TEST => ⟨.rw, 0x14050064#32, 0xFFFFFFFF#32, false, [.clamp 31 24 1 255, .clamp 23 16 1 255, .clamp 15 0 10 10000], 0x20, 0x048, 4, 1⟩
  | .VG_CTRL => ⟨.w1, 0#32, 0xF7#32, false, [], 0x20, 0x04C, 4, 1⟩
  | .VG_TAMB => ⟨.rw, 0x42200000#32, 0xFFFFFFFF#32, true, [], 0x20, 0x050, 4, 1⟩
  | .VG_STAT => ⟨.ro, 0x200000#32, 0#32, false, [], 0x20, 0x054, 4, 1⟩
  | .VG_EVT => ⟨.rc, 0#32, 0#32, false, [], 0x20, 0x058, 4, 1⟩
  | .VG_EVT_MASK => ⟨.rw, 0x1A63#32, 0x3FFF#32, false, [], 0x20, 0x05C, 4, 1⟩
  | .VG_VSUP => ⟨.sn, 0#32, 0#32, false, [], 0x20, 0x060, 4, 1⟩
  | .VG_IGRP => ⟨.sn, 0#32, 0#32, false, [], 0x20, 0x064, 4, 1⟩
  | .VG_GCNT => ⟨.sn, 0#32, 0#32, false, [], 0x20, 0x068, 4, 1⟩
  | .VG_DLAST => ⟨.sn, 0#32, 0#32, false, [], 0x20, 0x06C, 4, 1⟩
  | .VG_PG_TIME_LO => ⟨.sn, 0#32, 0#32, false, [], 0x20, 0x070, 4, 1⟩
  | .VG_PG_TIME_HI => ⟨.sn, 0#32, 0#32, false, [], 0x20, 0x074, 4, 1⟩
  | .VG_CCFG => ⟨.kw, 0x40A#32, 0xF0F#32, false, [.clamp 11 8 1 15], 0x20, 0x080, 96, 8⟩
  | .VG_CCUR => ⟨.rw, 0x301018#32, 0xFF7F7F#32, false, [.clamp 23 16 16 128, .clamp 14 8 4 127, .clamp 6 0 4 127], 0x20, 0x084, 96, 8⟩
  | .VG_CPEAKT => ⟨.rw, 0x12C#32, 0x7FF#32, false, [.clamp 10 0 1 2047], 0x20, 0x088, 96, 8⟩
  | .VG_CDET => ⟨.rw, 0x64200408#32, 0xFFFFFFFF#32, false, [.clamp 31 24 1 255, .clamp 15 8 1 255, .clamp 7 0 1 255], 0x20, 0x08C, 96, 8⟩
  | .VG_CTHM => ⟨.rw, 0xA58C0A3C#32, 0xFFFFFFFF#32, false, [.clamp 7 0 1 255], 0x20, 0x090, 96, 8⟩
  | .VG_CRREF => ⟨.rw, 0#32, 0xFFFFFFFF#32, true, [.errNeg], 0x20, 0x094, 96, 8⟩
  | .VG_CTREF => ⟨.rw, 0x41A00000#32, 0xFFFFFFFF#32, true, [], 0x20, 0x098, 96, 8⟩
  | .VG_CCTRL => ⟨.w1, 0#32, 0xF#32, false, [], 0x20, 0x09C, 96, 8⟩
  | .VG_CSTAT => ⟨.ro, 0#32, 0#32, false, [], 0x20, 0x0A0, 96, 8⟩
  | .VG_CI => ⟨.sn, 0#32, 0#32, false, [], 0x20, 0x0A4, 96, 8⟩
  | .VG_CDON => ⟨.sn, 0xFFFFFFFF#32, 0#32, false, [], 0x20, 0x0A8, 96, 8⟩
  | .VG_CDOFF => ⟨.sn, 0xFFFFFFFF#32, 0#32, false, [], 0x20, 0x0AC, 96, 8⟩
  | .VG_CR => ⟨.sn, 0#32, 0#32, false, [], 0x20, 0x0B0, 96, 8⟩
  | .VG_CT => ⟨.sn, 0x42200000#32, 0#32, false, [], 0x20, 0x0B4, 96, 8⟩
  | .VG_CAGE => ⟨.sn, 0xFFFFFFFF#32, 0#32, false, [], 0x20, 0x0B8, 96, 8⟩
  | .VG_CCNT => ⟨.sn, 0#32, 0#32, false, [], 0x20, 0x0BC, 96, 8⟩
  | .VG_CDUTY => ⟨.sn, 0#32, 0#32, false, [], 0x20, 0x0C0, 96, 8⟩
  | .VG_DIE => ⟨.sn, 0#32, 0#32, false, [], 0x20, 0x380, 4, 0⟩
  | .VG_DIESTAT => ⟨.ro, 0#32, 0#32, false, [], 0x20, 0x390, 4, 0⟩
  | .VS_CFG => ⟨.rw, 2#32, 0x1F0F#32, false, [], 0x30, 0x040, 48, 16⟩
  | .VS_PERIOD => ⟨.rw, 0xCB7355#32, 0xFFFFFFFF#32, false, [.clamp 31 0 2000000 200000000], 0x30, 0x044, 48, 16⟩
  | .VS_DUTY => ⟨.rw, 0#32, 0xFFFF#32, false, [], 0x30, 0x048, 48, 16⟩
  | .VS_PHASE => ⟨.rw, 0#32, 0xFFFFFFFF#32, false, [], 0x30, 0x04C, 48, 16⟩
  | .VS_AXPER => ⟨.rw, 0#32, 0xFFFFFFFF#32, false, [.clamp 31 0 0 2147483648], 0x30, 0x050, 48, 16⟩
  | .VS_ONREF => ⟨.rw, 0x1E8480#32, 0xFFFFFFFF#32, false, [], 0x30, 0x054, 48, 16⟩
  | .VS_CTRL => ⟨.w1, 0#32, 3#32, false, [], 0x30, 0x058, 48, 16⟩
  | .VS_STAT => ⟨.ro, 0#32, 0#32, false, [], 0x30, 0x05C, 48, 16⟩
  | .VS_ON => ⟨.sn, 0#32, 0#32, false, [], 0x30, 0x060, 48, 16⟩
  | .VS_PER_ACT => ⟨.sn, 0#32, 0#32, false, [], 0x30, 0x064, 48, 16⟩
  | .VS_CNT => ⟨.sn, 0#32, 0#32, false, [], 0x30, 0x068, 48, 16⟩
  | .VS_CLIP => ⟨.rc, 0#32, 0#32, false, [], 0x30, 0x380, 4, 1⟩
  | .VS_CLIP_MASK => ⟨.rw, 0#32, 0xFFFF#32, false, [], 0x30, 0x384, 4, 1⟩
  | .BP_CFG => ⟨.kw, 0#32, 0x7F#32, false, [], 0x38, 0x040, 64, 6⟩
  | .BP_PERIOD => ⟨.rw, 0x2710#32, 0xFFFFFFFF#32, false, [.clamp 31 0 200 20000000], 0x38, 0x044, 64, 6⟩
  | .BP_DUTY => ⟨.rw, 0#32, 0xFFFF#32, false, [], 0x38, 0x048, 64, 6⟩
  | .BP_DT => ⟨.kw, 0x140014#32, 0xFFF0FFF#32, false, [], 0x38, 0x04C, 64, 6⟩
  | .BP_PHASE => ⟨.rw, 0#32, 0xFFFFFFFF#32, false, [], 0x38, 0x050, 64, 6⟩
  | .BP_CTRL => ⟨.w1, 0#32, 3#32, false, [], 0x38, 0x054, 64, 6⟩
  | .BP_STAT => ⟨.ro, 0x80#32, 0#32, false, [], 0x38, 0x058, 64, 6⟩
  | .BP_ON => ⟨.sn, 0#32, 0#32, false, [], 0x38, 0x05C, 64, 6⟩
  | .BP_PER_ACT => ⟨.sn, 0#32, 0#32, false, [], 0x38, 0x060, 64, 6⟩
  | .BP_CNT => ⟨.sn, 0#32, 0#32, false, [], 0x38, 0x064, 64, 6⟩
  | .PG_FLT_CFG => ⟨.kw, 0x1304#32, 0xFFFFFF07#32, false, [], 0x38, 0x300, 4, 0⟩
  | .PG_FLT_STAT => ⟨.ro, 0#32, 0#32, false, [], 0x38, 0x320, 4, 0⟩
  | .PG_FLT_CLR => ⟨.w1, 0#32, 0xFF#32, false, [], 0x38, 0x324, 4, 0⟩
  | .PG_STAT => ⟨.ro, 1#32, 0#32, false, [], 0x38, 0x328, 4, 0⟩
  | .BP_EVT => ⟨.rc, 0#32, 0#32, false, [], 0x38, 0x380, 4, 1⟩
  | .BP_EVT_MASK => ⟨.rw, 0xAAA#32, 0xFFF#32, false, [], 0x38, 0x384, 4, 1⟩
  | .LS_CMD => ⟨.rw, 0#32, 0xFFFFFF#32, false, [], 0x3C, 0x040, 4, 0⟩
  | .LS_PIN => ⟨.ro, 0#32, 0#32, false, [], 0x3C, 0x044, 4, 0⟩
  | .LS_SUP_STAT => ⟨.ro, 0#32, 0#32, false, [], 0x3C, 0x048, 4, 0⟩
  | .LS_DIE => ⟨.ro, 2#32, 0#32, false, [], 0x3C, 0x04C, 4, 0⟩
  | .LS_GCTRL => ⟨.w1, 0#32, 3#32, false, [], 0x3C, 0x050, 4, 0⟩
  | .LS_VSUP01 => ⟨.sn, 0#32, 0#32, false, [], 0x3C, 0x058, 4, 0⟩
  | .LS_VSUP23 => ⟨.sn, 0#32, 0#32, false, [], 0x3C, 0x05C, 4, 0⟩
  | .LS_SENSE_CFG => ⟨.rw, 0#32, 0x3F#32, false, [.errAbove 4 0 23], 0x3C, 0x060, 4, 0⟩
  | .LS_ITOT => ⟨.sn, 0#32, 0#32, false, [], 0x3C, 0x070, 4, 0⟩
  | .LS_CFG => ⟨.kw, 0x700#32, 0x1F07#32, false, [.clamp 11 8 1 15], 0x3C, 0x080, 64, 8⟩
  | .LS_INR => ⟨.kw, 0x140064#32, 0xFF01FF#32, false, [.clamp 8 0 1 500], 0x3C, 0x084, 64, 8⟩
  | .LS_CTRL => ⟨.w1, 0#32, 7#32, false, [], 0x3C, 0x088, 64, 8⟩
  | .LS_STAT => ⟨.ro, 0#32, 0#32, false, [], 0x3C, 0x08C, 64, 8⟩
  | .LS_EVT => ⟨.rc, 0#32, 0#32, false, [], 0x3C, 0x090, 64, 8⟩
  | .LS_EVT_MASK => ⟨.rw, 0xAE#32, 0xFF#32, false, [], 0x3C, 0x094, 64, 8⟩
  | .LS_I => ⟨.sn, 0#32, 0#32, false, [], 0x3C, 0x098, 64, 8⟩
  | .LS_TJ => ⟨.sn, 0#32, 0#32, false, [], 0x3C, 0x09C, 64, 8⟩
  | .LS_CNT => ⟨.sn, 0#32, 0#32, false, [], 0x3C, 0x0A0, 64, 8⟩
  | .LS_TLAST_LO => ⟨.sn, 0#32, 0#32, false, [], 0x3C, 0x0A4, 64, 8⟩
  | .LS_TLAST_HI => ⟨.sn, 0#32, 0#32, false, [], 0x3C, 0x0A8, 64, 8⟩
  | .LS_PG_TIME_LO => ⟨.sn, 0#32, 0#32, false, [], 0x3C, 0x380, 4, 1⟩
  | .LS_PG_TIME_HI => ⟨.sn, 0#32, 0#32, false, [], 0x3C, 0x384, 4, 1⟩
  | .PC_ROT => ⟨.kw, 1#32, 1#32, false, [], 0x40, 0x040, 4, 0⟩
  | .PC_ROT_STAT => ⟨.ro, 0x8080003F#32, 0#32, false, [], 0x40, 0x044, 4, 0⟩
  | .PC_REF => ⟨.sn, 0#32, 0#32, false, [], 0x40, 0x048, 4, 0⟩
  | .PC_CFG => ⟨.kw, 0x47000000#32, 0xFFFFC001#32, false, [], 0x40, 0x080, 192, 4⟩
  | .PC_ROFS => ⟨.rw, 0#32, 0xFFFFFFFF#32, true, [], 0x40, 0x084, 192, 4⟩
  | .PC_LIM_LO => ⟨.rw, 0xFF800000#32, 0xFFFFFFFF#32, true, [], 0x40, 0x088, 192, 4⟩
  | .PC_LIM_HI => ⟨.rw, 0x7F800000#32, 0xFFFFFFFF#32, true, [], 0x40, 0x08C, 192, 4⟩
  | .PC_CTRL => ⟨.w1, 0#32, 7#32, false, [], 0x40, 0x090, 192, 4⟩
  | .PC_STAT => ⟨.ro, 0#32, 0#32, false, [], 0x40, 0x094, 192, 4⟩
  | .PC_EVT => ⟨.rc, 0#32, 0#32, false, [], 0x40, 0x098, 192, 4⟩
  | .PC_EVT_MASK => ⟨.rw, 0x45#32, 0xFF#32, false, [], 0x40, 0x09C, 192, 4⟩
  | .PC_RAW => ⟨.sn, 0#32, 0#32, false, [], 0x40, 0x0A0, 192, 4⟩
  | .PC_VAL => ⟨.sn, 0#32, 0#32, false, [], 0x40, 0x0A4, 192, 4⟩
  | .PC_FLAGS => ⟨.sn, 0x10#32, 0#32, false, [], 0x40, 0x0A8, 192, 4⟩
  | .PC_TIME_LO => ⟨.sn, 0#32, 0#32, false, [], 0x40, 0x0AC, 192, 4⟩
  | .PC_TIME_HI => ⟨.sn, 0#32, 0#32, false, [], 0x40, 0x0B0, 192, 4⟩
  | .PC_IEXC => ⟨.sn, 0#32, 0#32, false, [], 0x40, 0x0B4, 192, 4⟩
  | .PC_IMATCH => ⟨.sn, 0#32, 0#32, false, [], 0x40, 0x0B8, 192, 4⟩
  | .PC_CALAGE => ⟨.sn, 0xFFFF#32, 0#32, false, [], 0x40, 0x0BC, 192, 4⟩
  | .PC_CNT => ⟨.sn, 0#32, 0#32, false, [], 0x40, 0x0C0, 192, 4⟩
  | .PC_PG_TIME_LO => ⟨.sn, 0#32, 0#32, false, [], 0x40, 0x380, 4, 1⟩
  | .PC_PG_TIME_HI => ⟨.sn, 0#32, 0#32, false, [], 0x40, 0x384, 4, 1⟩
  | .GC_CFG => ⟨.kw, 0x70000000#32, 0xFF000001#32, false, [.clamp 31 28 0 10], 0x48, 0x080, 48, 8⟩
  | .GC_GAIN => ⟨.rw, 0x3F800000#32, 0xFFFFFFFF#32, true, [], 0x48, 0x084, 48, 8⟩
  | .GC_OFS => ⟨.rw, 0#32, 0xFFFFFFFF#32, true, [], 0x48, 0x088, 48, 8⟩
  | .GC_LIM_LO => ⟨.rw, 0xFF800000#32, 0xFFFFFFFF#32, true, [], 0x48, 0x08C, 48, 8⟩
  | .GC_LIM_HI => ⟨.rw, 0x7F800000#32, 0xFFFFFFFF#32, true, [], 0x48, 0x090, 48, 8⟩
  | .GC_STAT => ⟨.ro, 0#32, 0#32, false, [], 0x48, 0x094, 48, 8⟩
  | .GC_EVT => ⟨.rc, 0#32, 0#32, false, [], 0x48, 0x098, 48, 8⟩
  | .GC_EVT_MASK => ⟨.rw, 3#32, 0xF#32, false, [], 0x48, 0x09C, 48, 8⟩
  | .GC_RAW => ⟨.sn, 0x40000#32, 0#32, false, [], 0x48, 0x0A0, 48, 8⟩
  | .GC_VAL => ⟨.sn, 0#32, 0#32, false, [], 0x48, 0x0A4, 48, 8⟩
  | .GC_TIME_LO => ⟨.sn, 0#32, 0#32, false, [], 0x48, 0x0A8, 48, 8⟩
  | .GC_TIME_HI => ⟨.sn, 0#32, 0#32, false, [], 0x48, 0x0AC, 48, 8⟩
  | .GC_PG_TIME_LO => ⟨.sn, 0#32, 0#32, false, [], 0x48, 0x380, 4, 1⟩
  | .GC_PG_TIME_HI => ⟨.sn, 0#32, 0#32, false, [], 0x48, 0x384, 4, 1⟩
  | .ZC_CFG => ⟨.kw, 0x5000000#32, 0xFFFF0001#32, false, [.clamp 31 24 1 255], 0x4C, 0x040, 64, 0⟩
  | .ZC_FREQ01 => ⟨.rw, 0x1F401F4#32, 0xFFFFFFFF#32, false, [.clamp 31 16 100 2000, .clamp 15 0 100 2000], 0x4C, 0x044, 64, 0⟩
  | .ZC_FREQ23 => ⟨.rw, 0x1F401F4#32, 0xFFFFFFFF#32, false, [.clamp 31 16 100 2000, .clamp 15 0 100 2000], 0x4C, 0x048, 64, 0⟩
  | .ZC_CSEL => ⟨.rw, 0#32, 3#32, false, [], 0x4C, 0x04C, 64, 0⟩
  | .ZC_K_RE => ⟨.rw, 0x3F800000#32, 0xFFFFFFFF#32, true, [], 0x4C, 0x050, 64, 0⟩
  | .ZC_K_IM => ⟨.rw, 0#32, 0xFFFFFFFF#32, true, [], 0x4C, 0x054, 64, 0⟩
  | .ZC_Y0_RE => ⟨.rw, 0#32, 0xFFFFFFFF#32, true, [], 0x4C, 0x058, 64, 0⟩
  | .ZC_Y0_IM => ⟨.rw, 0#32, 0xFFFFFFFF#32, true, [], 0x4C, 0x05C, 64, 0⟩
  | .ZC_STAT => ⟨.ro, 0#32, 0#32, false, [], 0x4C, 0x060, 64, 0⟩
  | .ZC_G => ⟨.sn, 0#32, 0#32, false, [], 0x4C, 0x064, 64, 0⟩
  | .ZC_B => ⟨.sn, 0#32, 0#32, false, [], 0x4C, 0x068, 64, 0⟩
  | .ZC_T => ⟨.sn, 0x7FC00000#32, 0#32, false, [], 0x4C, 0x06C, 64, 0⟩
  | .ZC_TIME_LO => ⟨.sn, 0#32, 0#32, false, [], 0x4C, 0x070, 64, 0⟩
  | .ZC_TIME_HI => ⟨.sn, 0#32, 0#32, false, [], 0x4C, 0x074, 64, 0⟩
  | .ZC_EVT => ⟨.rc, 0#32, 0#32, false, [], 0x4C, 0x078, 64, 0⟩
  | .AO_CFG => ⟨.kw, 0#32, 7#32, false, [], 0x4C, 0x140, 32, 0⟩
  | .AO_VAL => ⟨.rw, 0#32, 0xFFFFFFFF#32, true, [], 0x4C, 0x144, 32, 0⟩
  | .AO_SAFE => ⟨.rw, 0#32, 0xFFFFFFFF#32, true, [], 0x4C, 0x148, 32, 0⟩
  | .AO_LIM => ⟨.rw, 0xFFFF0000#32, 0xFFFFFFFF#32, false, [], 0x4C, 0x14C, 32, 0⟩
  | .AO_STAT => ⟨.ro, 2#32, 0#32, false, [], 0x4C, 0x150, 32, 0⟩
  | .AO_CODE => ⟨.sn, 0#32, 0#32, false, [], 0x4C, 0x154, 32, 0⟩
  | .AO_RB => ⟨.sn, 0#32, 0#32, false, [], 0x4C, 0x158, 32, 0⟩
  | .AO_EVT => ⟨.rc, 0#32, 0#32, false, [], 0x4C, 0x15C, 32, 0⟩
  | .ZC_PG_TIME_LO => ⟨.sn, 0#32, 0#32, false, [], 0x4C, 0x380, 4, 0⟩
  | .ZC_PG_TIME_HI => ⟨.sn, 0#32, 0#32, false, [], 0x4C, 0x384, 4, 0⟩
  | .LP_CFG => ⟨.kw, 0x10#32, 0xFFF1F17#32, false, [], 0x50, 0x040, 104, 8⟩
  | .LP_SRC => ⟨.kw, 0#32, 0xFFF0FFF#32, false, [], 0x50, 0x044, 104, 8⟩
  | .LP_SRC2 => ⟨.kw, 0x200000#32, 0x7F0FFF#32, false, [], 0x50, 0x048, 104, 8⟩
  | .LP_PERIOD => ⟨.kw, 0x2710#32, 0xFFFFFFFF#32, false, [], 0x50, 0x04C, 104, 8⟩
  | .LP_SP => ⟨.rw, 0#32, 0xFFFFFFFF#32, true, [], 0x50, 0x050, 104, 8⟩
  | .LP_FF => ⟨.rw, 0#32, 0xFFFFFFFF#32, true, [], 0x50, 0x054, 104, 8⟩
  | .LP_YK => ⟨.rw, 0x3F800000#32, 0xFFFFFFFF#32, true, [], 0x50, 0x058, 104, 8⟩
  | .LP_SPK => ⟨.rw, 0x3F800000#32, 0xFFFFFFFF#32, true, [], 0x50, 0x05C, 104, 8⟩
  | .LP_RLIM => ⟨.rw, 0#32, 0xFFFFFFFF#32, true, [.errNeg], 0x50, 0x060, 104, 8⟩
  | .LP_ALIM => ⟨.rw, 0#32, 0xFFFFFFFF#32, true, [.errNeg], 0x50, 0x064, 104, 8⟩
  | .LP_OMIN => ⟨.rw, 0#32, 0xFFFFFFFF#32, true, [], 0x50, 0x068, 104, 8⟩
  | .LP_OMAX => ⟨.rw, 0x3F800000#32, 0xFFFFFFFF#32, true, [], 0x50, 0x06C, 104, 8⟩
  | .LP_FRESH => ⟨.rw, 0x300#32, 0xFFFF03#32, false, [.clamp 15 8 1 255], 0x50, 0x070, 104, 8⟩
  | .LP_FROZ_DU => ⟨.rw, 0x3C23D70A#32, 0xFFFFFFFF#32, true, [], 0x50, 0x074, 104, 8⟩
  | .LP_FBVAL => ⟨.rw, 0#32, 0xFFFFFFFF#32, true, [], 0x50, 0x078, 104, 8⟩
  | .LP_SLEW => ⟨.rw, 0#32, 0xFFFFFFFF#32, true, [.errNeg], 0x50, 0x07C, 104, 8⟩
  | .LP_CTRL => ⟨.w1, 0#32, 7#32, false, [], 0x50, 0x080, 104, 8⟩
  | .LP_STAT => ⟨.ro, 0x400#32, 0#32, false, [], 0x50, 0x084, 104, 8⟩
  | .LP_EVT => ⟨.rc, 0#32, 0#32, false, [], 0x50, 0x088, 104, 8⟩
  | .LP_EVT_MASK => ⟨.rw, 0x87#32, 0xFF#32, false, [], 0x50, 0x08C, 104, 8⟩
  | .LP_R => ⟨.sn, 0#32, 0#32, false, [], 0x50, 0x090, 104, 8⟩
  | .LP_Y => ⟨.sn, 0#32, 0#32, false, [], 0x50, 0x094, 104, 8⟩
  | .LP_V => ⟨.sn, 0#32, 0#32, false, [], 0x50, 0x098, 104, 8⟩
  | .LP_U => ⟨.sn, 0#32, 0#32, false, [], 0x50, 0x09C, 104, 8⟩
  | .LP_I => ⟨.sn, 0#32, 0#32, false, [], 0x50, 0x0A0, 104, 8⟩
  | .LP_CNT => ⟨.sn, 0#32, 0#32, false, [], 0x50, 0x0A4, 104, 8⟩
  | .LP_BSEL => ⟨.rw, 0#32, 0xF#32, false, [], 0x50, 0x380, 4, 1⟩
  | .LP_KP => ⟨.rw, 0#32, 0xFFFFFFFF#32, true, [], 0x50, 0x384, 4, 1⟩
  | .LP_KI => ⟨.rw, 0#32, 0xFFFFFFFF#32, true, [], 0x50, 0x388, 4, 1⟩
  | .LP_KD => ⟨.rw, 0#32, 0xFFFFFFFF#32, true, [], 0x50, 0x38C, 4, 1⟩
  | .LP_TF => ⟨.rw, 0#32, 0xFFFFFFFF#32, true, [], 0x50, 0x390, 4, 1⟩
  | .LP_B => ⟨.rw, 0x3F800000#32, 0xFFFFFFFF#32, true, [], 0x50, 0x394, 4, 1⟩
  | .LP_C => ⟨.rw, 0#32, 0xFFFFFFFF#32, true, [], 0x50, 0x398, 4, 1⟩
  | .LP_KT => ⟨.rw, 0#32, 0xFFFFFFFF#32, true, [], 0x50, 0x39C, 4, 1⟩
  | .LP_KFF => ⟨.rw, 0#32, 0xFFFFFFFF#32, true, [], 0x50, 0x3A0, 4, 1⟩
  | .LP_GCFG => ⟨.kw, 0#32, 0x1F31#32, false, [], 0x50, 0x3A4, 4, 8⟩
  | .LP_GSLEW => ⟨.rw, 0#32, 0xFFFFFFFF#32, true, [], 0x50, 0x3C4, 4, 8⟩
  | .LP_GSTAT0 => ⟨.ro, 0#32, 0#32, false, [], 0x50, 0x3E4, 4, 1⟩
  | .LP_GSTAT1 => ⟨.ro, 0#32, 0#32, false, [], 0x50, 0x3E8, 4, 1⟩
  | .LP_GSWAP => ⟨.w1, 0#32, 0xFF#32, false, [], 0x50, 0x3EC, 4, 1⟩
  | .TG_CFG => ⟨.kw, 0x90100#32, 0x3FFFFF01#32, false, [.clamp 15 8 1 255], 0x52, 0x3A4, 32, 2⟩
  | .TG_AMP => ⟨.rw, 0#32, 0xFFFFFFFF#32, true, [], 0x52, 0x3A8, 32, 2⟩
  | .TG_F0 => ⟨.rw, 0#32, 0xFFFFFFFF#32, true, [], 0x52, 0x3AC, 32, 2⟩
  | .TG_F1 => ⟨.rw, 0#32, 0xFFFFFFFF#32, true, [], 0x52, 0x3B0, 32, 2⟩
  | .TG_FSTEP => ⟨.rw, 0x3F800000#32, 0xFFFFFFFF#32, true, [], 0x52, 0x3B4, 32, 2⟩
  | .TG_CAP => ⟨.rw, 0x4000400#32, 0xFF003FFF#32, false, [.clamp 31 24 1 255, .clamp 13 0 1 8192], 0x52, 0x3B8, 32, 2⟩
  | .TG_CTRL => ⟨.w1, 0#32, 3#32, false, [], 0x52, 0x3BC, 32, 2⟩
  | .TG_STAT => ⟨.ro, 0#32, 0#32, false, [], 0x52, 0x3C0, 32, 2⟩
  | .LP_PG_TIME_LO => ⟨.sn, 0#32, 0#32, false, [], 0x50, 0x3F8, 4, 1⟩
  | .LP_PG_TIME_HI => ⟨.sn, 0#32, 0#32, false, [], 0x50, 0x3FC, 4, 1⟩
  | .DP_CFG => ⟨.kw, 0xA000000#32, 0xFF031FFB#32, false, [.clamp 31 24 1 255], 0x58, 0x040, 4, 1⟩
  | .DP_GEOM => ⟨.kw, 0x14#32, 0xFFFFF3FF#32, false, [.clamp 9 0 0 1000], 0x58, 0x044, 4, 1⟩
  | .DP_SENS => ⟨.kw, 0x4010#32, 0x7F73#32, false, [], 0x58, 0x048, 4, 1⟩
  | .DP_OUTOFS => ⟨.kw, 0#32, 0xFFFFF#32, false, [], 0x58, 0x04C, 4, 1⟩
  | .DP_PRED_LO => ⟨.rw, 0#32, 0xFFFFF#32, false, [], 0x58, 0x050, 4, 1⟩
  | .DP_PRED_HI => ⟨.rw, 0#32, 0xFFFFF#32, false, [], 0x58, 0x054, 4, 1⟩
  | .DP_FMIN => ⟨.rw, 0x3DCCCCCD#32, 0xFFFFFFFF#32, true, [.errNotPos], 0x58, 0x058, 4, 1⟩
  | .DP_BIASCFG => ⟨.rw, 0xC80003#32, 0xFFFF000F#32, false, [.clamp 3 0 0 8], 0x58, 0x05C, 4, 1⟩
  | .DP_FILL => ⟨.kw, 0#32, 0xFFFFF#32, false, [], 0x58, 0x060, 4, 1⟩
  | .DP_MSEED => ⟨.rw, 0x41800000#32, 0xFFFFFFFF#32, true, [], 0x58, 0x064, 4, 1⟩
  | .DP_TARGET => ⟨.rw, 0x41600000#32, 0xFFFFFFFF#32, true, [], 0x58, 0x068, 4, 1⟩
  | .DP_HEAT => ⟨.rw, 0#32, 0x7F#32, false, [], 0x58, 0x06C, 4, 1⟩
  | .DP_CTRL => ⟨.w1, 0#32, 0xF#32, false, [], 0x58, 0x070, 4, 1⟩
  | .DP_STAT => ⟨.ro, 0#32, 0#32, false, [], 0x58, 0x074, 4, 1⟩
  | .DP_EVT => ⟨.rc, 0#32, 0#32, false, [], 0x58, 0x078, 4, 1⟩
  | .DP_EVT_MASK => ⟨.rw, 0x3C4#32, 0x3FE#32, false, [], 0x58, 0x07C, 4, 1⟩
  | .DP_ZCFG => ⟨.kw, 0#32, 0xFFFFFFFF#32, false, [], 0x58, 0x080, 16, 4⟩
  | .DP_ZRH => ⟨.rw, 0x3DCCCCCD#32, 0xFFFFFFFF#32, true, [], 0x58, 0x084, 16, 4⟩
  | .DP_OUT => ⟨.sn, 0#32, 0#32, false, [], 0x58, 0x0C0, 4, 4⟩
  | .DP_BIAS => ⟨.sn, 0#32, 0#32, false, [], 0x58, 0x0D0, 4, 1⟩
  | .DP_PARC => ⟨.sn, 0#32, 0#32, false, [], 0x58, 0x0D4, 4, 1⟩
  | .DP_CNT => ⟨.sn, 0#32, 0#32, false, [], 0x58, 0x0D8, 4, 1⟩
  | .DP_ZME => ⟨.sn, 0#32, 0#32, false, [], 0x58, 0x0E0, 8, 4⟩
  | .DP_ZK => ⟨.sn, 0#32, 0#32, false, [], 0x58, 0x0E4, 8, 4⟩
  | .DP_PG_TIME_LO => ⟨.sn, 0#32, 0#32, false, [], 0x58, 0x100, 4, 1⟩
  | .DP_PG_TIME_HI => ⟨.sn, 0#32, 0#32, false, [], 0x58, 0x104, 4, 1⟩
  | .DP_AMB => ⟨.rw, 0#32, 0x9F1F#32, false, [], 0x5C, 0x040, 4, 0⟩
  | .DP_SE_TO => ⟨.rw, 0x258#32, 0xFFFF#32, false, [.clamp 15 0 1 65535], 0x5C, 0x044, 4, 0⟩
  | .DP_KC_REQ => ⟨.rw, 0#32, 0xFF#32, false, [], 0x5C, 0x048, 4, 0⟩
  | .DP_CR_A => ⟨.rw, 0#32, 0xFFFFFFFF#32, true, [], 0x5C, 0x060, 48, 0⟩
  | .DP_CR_N => ⟨.rw, 0x3F800000#32, 0xFFFFFFFF#32, true, [.errNotPos], 0x5C, 0x064, 48, 0⟩
  | .DP_CR_C => ⟨.rw, 0#32, 0xFFFFFFFF#32, true, [], 0x5C, 0x068, 48, 0⟩
  | .DP_CR_K1 => ⟨.rw, 0#32, 0xFFFFFFFF#32, true, [], 0x5C, 0x06C, 48, 0⟩
  | .DP_CR_K2 => ⟨.rw, 0#32, 0xFFFFFFFF#32, true, [], 0x5C, 0x070, 48, 0⟩
  | .DP_CR_TAUG => ⟨.rw, 0x447A0000#32, 0xFFFFFFFF#32, true, [.errNotPos], 0x5C, 0x074, 48, 0⟩
  | .DP_CR_A0 => ⟨.rw, 0#32, 0xFFFFFFFF#32, true, [], 0x5C, 0x078, 48, 0⟩
  | .DP_CR_A1 => ⟨.rw, 0#32, 0xFFFFFFFF#32, true, [], 0x5C, 0x07C, 48, 0⟩
  | .DP_CR_A2 => ⟨.rw, 0#32, 0xFFFFFFFF#32, true, [], 0x5C, 0x080, 48, 0⟩
  | .DP_CR_A3 => ⟨.rw, 0#32, 0xFFFFFFFF#32, true, [], 0x5C, 0x084, 48, 0⟩
  | .DP_CR_A4 => ⟨.rw, 0#32, 0xFFFFFFFF#32, true, [], 0x5C, 0x088, 48, 0⟩
  | .DP_CR_TREF => ⟨.rw, 0x41A00000#32, 0xFFFFFFFF#32, true, [], 0x5C, 0x08C, 48, 0⟩
  | .DP_KC_CFG => ⟨.kw, 0#32, 0x1F73#32, false, [], 0x5C, 0x120, 16, 0⟩
  | .DP_KC_PH => ⟨.rw, 0x4000#32, 0xFFFFFFFF#32, false, [], 0x5C, 0x124, 16, 0⟩
  | .DP_KC_STAT => ⟨.ro, 0#32, 0#32, false, [], 0x5C, 0x128, 16, 0⟩
  | .DP_KC_CNT => ⟨.sn, 0#32, 0#32, false, [], 0x5C, 0x12C, 16, 0⟩
  | .DP_SE_CFG => ⟨.rw, 0x1400000#32, 0x73FF3F07#32, false, [.clamp 23 22 0 2], 0x5C, 0x1A0, 8, 0⟩
  | .DP_SE_K => ⟨.rw, 0x3DCCCCCD#32, 0xFFFFFFFF#32, true, [], 0x5C, 0x1A4, 8, 0⟩
  | .DP_SE_VAL => ⟨.sn, 0x7FC00000#32, 0#32, false, [], 0x5C, 0x2A0, 4, 0⟩
  | .DP_AE_CFG => ⟨.rw, 0x1E1E00#32, 0xFFFF0F#32, false, [], 0x5C, 0x320, 16, 0⟩
  | .DP_AE_LIM => ⟨.rw, 0x28551432#32, 0xFFFFFFFF#32, false, [], 0x5C, 0x324, 16, 0⟩
  | .DP_AE_ME => ⟨.rw, 0x64004B0#32, 0xFFFFFFFF#32, false, [], 0x5C, 0x328, 16, 0⟩
  | .DP_AE_STAT => ⟨.ro, 4#32, 0#32, false, [], 0x5C, 0x32C, 16, 0⟩
  | .DP_ST_TIME_LO => ⟨.sn, 0#32, 0#32, false, [], 0x5C, 0x3A0, 4, 0⟩
  | .DP_ST_TIME_HI => ⟨.sn, 0#32, 0#32, false, [], 0x5C, 0x3A4, 4, 0⟩
  | .CAN_CFG => ⟨.kw, 0#32, 0xE31#32, false, [], 0x60, 0x040, 4, 1⟩
  | .CAN_NBT => ⟨.kw, 0x1F7E1F00#32, 0x7FFF7F1F#32, false, [], 0x60, 0x044, 4, 1⟩
  | .CAN_DBT => ⟨.kw, 0x40D0400#32, 0xF1F0F1F#32, false, [], 0x60, 0x048, 4, 1⟩
  | .CAN_TDC => ⟨.kw, 0xF00#32, 0xFF7F#32, false, [], 0x60, 0x04C, 4, 1⟩
  | .CAN_CTRL => ⟨.w1, 0#32, 7#32, false, [], 0x60, 0x050, 4, 1⟩
  | .CAN_STAT => ⟨.ro, 0#32, 0#32, false, [], 0x60, 0x054, 4, 1⟩
  | .CAN_EVT => ⟨.rc, 0#32, 0#32, false, [], 0x60, 0x058, 4, 1⟩
  | .CAN_EVT_MASK => ⟨.rw, 0x33E#32, 0xF7F#32, false, [], 0x60, 0x05C, 4, 1⟩
  | .CAN_ERR => ⟨.sn, 0#32, 0#32, false, [], 0x60, 0x060, 4, 1⟩
  | .CAN_TDCR => ⟨.sn, 0#32, 0#32, false, [], 0x60, 0x064, 4, 1⟩
  | .CAN_CNT_RX => ⟨.sn, 0#32, 0#32, false, [], 0x60, 0x068, 4, 1⟩
  | .CAN_CNT_TX => ⟨.sn, 0#32, 0#32, false, [], 0x60, 0x06C, 4, 1⟩
  | .CAN_CNT_ERR => ⟨.sn, 0#32, 0#32, false, [], 0x60, 0x070, 4, 1⟩
  | .CAN_COLL_ID => ⟨.sn, 0#32, 0#32, false, [], 0x60, 0x074, 4, 1⟩
  | .CAN_PG_TIME_LO => ⟨.sn, 0#32, 0#32, false, [], 0x60, 0x078, 4, 1⟩
  | .CAN_PG_TIME_HI => ⟨.sn, 0#32, 0#32, false, [], 0x60, 0x07C, 4, 1⟩
  | .CAN_STAMP_AX => ⟨.rw, 0#32, 0x1F#32, false, [], 0x60, 0x080, 4, 0⟩
  | .SB_CFG => ⟨.kw, 0#32, 0x1D#32, false, [], 0x68, 0x040, 4, 1⟩
  | .SB_BAUD => ⟨.kw, 0x5161#32, 0xFFFF#32, false, [.clamp 15 0 100 65535], 0x68, 0x044, 4, 1⟩
  | .SB_TIME => ⟨.rw, 0x3E8272C#32, 0xFFFFFFFF#32, false, [.clamp 31 16 1 65535, .clamp 15 8 1 255], 0x68, 0x048, 4, 1⟩
  | .SB_CTRL => ⟨.w1, 0#32, 1#32, false, [], 0x68, 0x04C, 4, 1⟩
  | .SB_TRIG0 => ⟨.w1, 0#32, 0xFFFFFFFF#32, false, [], 0x68, 0x050, 4, 1⟩
  | .SB_TRIG1 => ⟨.w1, 0#32, 0xFFFFFFFF#32, false, [], 0x68, 0x054, 4, 1⟩
  | .SB_STAT => ⟨.ro, 0#32, 0#32, false, [], 0x68, 0x058, 4, 1⟩
  | .SB_EVT => ⟨.rc, 0#32, 0#32, false, [], 0x68, 0x05C, 4, 1⟩
  | .SB_EVT_MASK => ⟨.rw, 0#32, 0xFF#32, false, [], 0x68, 0x060, 4, 1⟩
  | .SB_CNT => ⟨.sn, 0#32, 0#32, false, [], 0x68, 0x064, 4, 1⟩
  | .SB_CNT2 => ⟨.sn, 0#32, 0#32, false, [], 0x68, 0x068, 4, 1⟩
  | .SB_PG_TIME_LO => ⟨.sn, 0#32, 0#32, false, [], 0x68, 0x06C, 4, 1⟩
  | .SB_PG_TIME_HI => ⟨.sn, 0#32, 0#32, false, [], 0x68, 0x070, 4, 1⟩
  | .SB_PE_CFG => ⟨.rw, 0x10#32, 0xFFFFFFFD#32, false, [.clamp 15 8 0 240, .clamp 7 4 1 8], 0x68, 0x100, 12, 64⟩
  | .SB_PE_REQ0 => ⟨.rw, 0#32, 0xFFFFFFFF#32, false, [], 0x68, 0x104, 12, 64⟩
  | .SB_PE_REQ1 => ⟨.rw, 0#32, 0xFFFFFFFF#32, false, [], 0x68, 0x108, 12, 64⟩
  | .ER_RTE => ⟨.rw, 0#32, 0x7F7F7F7F#32, false, [], 0x02, 0x040, 4, 0⟩
  | .ER_ACT => ⟨.ro, 0#32, 0#32, false, [], 0x02, 0x140, 4, 0⟩
  | .ER_INTCFG => ⟨.rw, 0xFF00#32, 0xFFFF#32, false, [], 0x02, 0x160, 4, 0⟩
  | .ER_INTSTAT => ⟨.ro, 0#32, 0#32, false, [], 0x02, 0x164, 4, 0⟩
  | .ER_CLAIM => ⟨.ro, 0x100#32, 0#32, false, [], 0x02, 0x168, 4, 0⟩
  | .ER_HSMASK => ⟨.rw, 0#32, 0xF#32, false, [], 0x02, 0x16C, 4, 0⟩
  | .Q_BASE => ⟨.kw, 0#32, 0xFFFFFFF0#32, false, [], 0x6C, 0x040, 32, 12⟩
  | .Q_GEOM => ⟨.kw, 0#32, 0xF3701#32, false, [], 0x6C, 0x044, 32, 12⟩
  | .Q_HEAD => ⟨.rw, 0#32, 0xFFFF#32, false, [], 0x6C, 0x048, 32, 12⟩
  | .Q_TAIL => ⟨.rw, 0#32, 0xFFFF#32, false, [], 0x6C, 0x04C, 32, 12⟩
  | .Q_WMARK => ⟨.rw, 0#32, 0xFFFF#32, false, [], 0x6C, 0x050, 32, 12⟩
  | .Q_STAT => ⟨.ro, 1#32, 0#32, false, [], 0x6C, 0x054, 32, 12⟩
  | .Q_CNT => ⟨.sn, 0#32, 0#32, false, [], 0x6C, 0x058, 32, 12⟩
  | .Q_CTRL => ⟨.w1, 0#32, 3#32, false, [], 0x6C, 0x05C, 32, 12⟩
  | .Q_EVT0 => ⟨.rc, 0#32, 0#32, false, [], 0x6C, 0x3C0, 4, 1⟩
  | .Q_EVT1 => ⟨.rc, 0#32, 0#32, false, [], 0x6C, 0x3C4, 4, 1⟩
  | .Q_EVT_MASK0 => ⟨.rw, 0xFFF0000#32, 0xFFF0FFF#32, false, [], 0x6C, 0x3C8, 4, 1⟩
  | .Q_EVT_MASK1 => ⟨.rw, 0xFFF#32, 0xFFF0FFF#32, false, [], 0x6C, 0x3CC, 4, 1⟩
  | .Q_PG_TIME_LO => ⟨.sn, 0#32, 0#32, false, [], 0x6C, 0x3D0, 4, 1⟩
  | .Q_PG_TIME_HI => ⟨.sn, 0#32, 0#32, false, [], 0x6C, 0x3D4, 4, 1⟩
  | .HL_PCFG => ⟨.kw, 4#32, 5#32, false, [], 0x70, 0x040, 32, 0⟩
  | .HL_IP => ⟨.kw, 0#32, 0xFFFFFFFF#32, false, [], 0x70, 0x044, 32, 0⟩
  | .HL_MASK => ⟨.kw, 0#32, 0xFFFFFFFF#32, false, [], 0x70, 0x048, 32, 0⟩
  | .HL_UDP => ⟨.kw, 0#32, 0xFFFF#32, false, [], 0x70, 0x04C, 32, 0⟩
  | .HL_MAC_LO => ⟨.ro, 0#32, 0#32, false, [], 0x70, 0x050, 32, 0⟩
  | .HL_MAC_HI => ⟨.ro, 0#32, 0#32, false, [], 0x70, 0x054, 32, 0⟩
  | .HL_PSTAT => ⟨.ro, 0#32, 0#32, false, [], 0x70, 0x058, 32, 0⟩
  | .HL_PCNT => ⟨.sn, 0#32, 0#32, false, [], 0x70, 0x05C, 32, 0⟩
  | .HL_SPI_CFG => ⟨.kw, 0#32, 1#32, false, [], 0x70, 0x080, 4, 0⟩
  | .HL_SPI_STAT => ⟨.ro, 0#32, 0#32, false, [], 0x70, 0x084, 4, 0⟩
  | .HL_SPI_CNT => ⟨.sn, 0#32, 0#32, false, [], 0x70, 0x088, 4, 0⟩
  | .HL_EPOCH => ⟨.ro, 0#32, 0#32, false, [], 0x70, 0x08C, 4, 0⟩
  | .HL_SCFG => ⟨.kw, 0xA0000#32, 0xFF0007#32, false, [.clamp 23 16 1 255], 0x71, 0x040, 32, 0⟩
  | .HL_SPEER => ⟨.kw, 0#32, 0xFFFFFFFF#32, false, [], 0x71, 0x044, 32, 0⟩
  | .HL_SPORT => ⟨.kw, 0#32, 0xFFFF#32, false, [], 0x71, 0x048, 32, 0⟩
  | .HL_SSTAT => ⟨.ro, 0#32, 0#32, false, [], 0x71, 0x04C, 32, 0⟩
  | .HL_SSEQ => ⟨.sn, 0#32, 0#32, false, [], 0x71, 0x050, 32, 0⟩
  | .HL_SSSEQ => ⟨.sn, 0#32, 0#32, false, [], 0x71, 0x054, 32, 0⟩
  | .HL_SCNT => ⟨.sn, 0#32, 0#32, false, [], 0x71, 0x058, 32, 0⟩
  | .HL_SREQ => ⟨.sn, 0#32, 0#32, false, [], 0x71, 0x05C, 32, 0⟩
  | .HC_RUN => ⟨.kw, 0#32, 3#32, false, [], 0x72, 0x040, 4, 1⟩
  | .HC_CFG => ⟨.kw, 0#32, 2#32, false, [], 0x72, 0x044, 4, 1⟩
  | .HC_STAT => ⟨.ro, 0#32, 0#32, false, [], 0x72, 0x048, 4, 1⟩
  | .HC_PC => ⟨.sn, 0#32, 0#32, false, [], 0x72, 0x04C, 4, 1⟩
  | .HC_CAUSE => ⟨.sn, 0#32, 0#32, false, [], 0x72, 0x050, 4, 1⟩
  | .HC_TVAL => ⟨.sn, 0#32, 0#32, false, [], 0x72, 0x054, 4, 1⟩
  | .HC_WDT => ⟨.rw, 0#32, 0xFFFF#32, false, [], 0x72, 0x058, 4, 1⟩
  | .HC_KICK => ⟨.w1, 0#32, 1#32, false, [], 0x72, 0x05C, 4, 1⟩
  | .HC_PG_TIME_LO => ⟨.sn, 0#32, 0#32, false, [], 0x72, 0x060, 4, 1⟩
  | .HC_PG_TIME_HI => ⟨.sn, 0#32, 0#32, false, [], 0x72, 0x064, 4, 1⟩
  | .MOD_ID => ⟨.ro, 0x96800000#32, 0#32, false, [], 0x00, 0x040, 4, 0⟩
  | .MOD_CTRL => ⟨.kw, 0#32, 0x3101#32, false, [.errEq 13 12 3], 0x00, 0x044, 4, 0⟩
  | .MOD_STAT => ⟨.ro, 0x2010000#32, 0#32, false, [], 0x00, 0x048, 4, 0⟩
  | .MOD_RST_CAUSE => ⟨.ro, 1#32, 0#32, false, [], 0x00, 0x04C, 4, 0⟩
  | .MOD_FAULT => ⟨.ro, 0#32, 0#32, false, [], 0x00, 0x050, 4, 0⟩
  | .MOD_IMG => ⟨.ro, 0#32, 0#32, false, [], 0x00, 0x054, 4, 0⟩
  | .MOD_TIME_LO => ⟨.sn, 0#32, 0#32, false, [], 0x00, 0x058, 4, 0⟩
  | .MOD_TIME_HI => ⟨.sn, 0#32, 0#32, false, [], 0x00, 0x05C, 4, 0⟩
  | .SUP_STAT => ⟨.ro, 0#32, 0#32, false, [], 0x03, 0x040, 4, 0⟩
  | .SUP_VBATL => ⟨.sn, 0#32, 0#32, false, [], 0x03, 0x044, 4, 0⟩
  | .SUP_TDIE => ⟨.sn, 0#32, 0#32, false, [], 0x03, 0x048, 4, 0⟩
  | .SUP_XDEV => ⟨.sn, 0#32, 0#32, false, [], 0x03, 0x04C, 4, 0⟩
  | .SUP_CLR => ⟨.w1, 0#32, 1#32, false, [], 0x03, 0x050, 4, 0⟩
  | .MM_CMD => ⟨.kw, 0#32, 0x113#32, false, [], 0x74, 0x040, 4, 0⟩
  | .MM_SRC => ⟨.rw, 0x1178000#32, 0xFFFFFFFF#32, false, [], 0x74, 0x044, 4, 0⟩
  | .MM_LEN => ⟨.rw, 0#32, 0xFFFFFFFF#32, false, [], 0x74, 0x048, 4, 0⟩
  | .MM_STAT => ⟨.ro, 0#32, 0#32, false, [], 0x74, 0x04C, 4, 0⟩
  | .MM_ECC => ⟨.sn, 0#32, 0#32, false, [], 0x74, 0x050, 4, 0⟩
  | .MM_OFS => ⟨.rw, 0#32, 0xFFFFF#32, false, [], 0x74, 0x054, 4, 0⟩
  | .RP_CFG => ⟨.kw, 1#32, 0xF#32, false, [], 0x78, 0x040, 4, 0⟩
  | .RP_CTRL => ⟨.w1, 0#32, 1#32, false, [], 0x78, 0x044, 4, 0⟩
  | .RP_STAT => ⟨.ro, 0#32, 0#32, false, [], 0x78, 0x048, 4, 0⟩
  | .RP_EVT => ⟨.rc, 0#32, 0#32, false, [], 0x78, 0x04C, 4, 0⟩
  | .RP_EVT_MASK => ⟨.rw, 0x1F#32, 0x1F#32, false, [], 0x78, 0x050, 4, 0⟩
  | .RP_T0_LO => ⟨.rw, 0#32, 0xFFFFFFFF#32, false, [], 0x78, 0x054, 4, 0⟩
  | .RP_T0_HI => ⟨.rw, 0#32, 0xFFFFFFFF#32, false, [], 0x78, 0x058, 4, 0⟩
  | .RP_REC_BASE => ⟨.kw, 0x1178000#32, 0xFFFFFF80#32, false, [], 0x78, 0x05C, 4, 0⟩
  | .RP_REC_GEOM => ⟨.kw, 0xC#32, 0xF#32, false, [], 0x78, 0x060, 4, 0⟩
  | .RP_REC_HEAD => ⟨.rw, 0#32, 0xFFFF#32, false, [], 0x78, 0x064, 4, 0⟩
  | .RP_REC_TAIL => ⟨.ro, 0#32, 0#32, false, [], 0x78, 0x068, 4, 0⟩
  | .RP_CNT => ⟨.sn, 0#32, 0#32, false, [], 0x78, 0x06C, 4, 0⟩
  | .RP_LATE => ⟨.sn, 0#32, 0#32, false, [], 0x78, 0x070, 4, 0⟩
  | .RP_OFS_LO => ⟨.sn, 0#32, 0#32, false, [], 0x78, 0x074, 4, 0⟩
  | .RP_OFS_HI => ⟨.sn, 0#32, 0#32, false, [], 0x78, 0x078, 4, 0⟩
  | .DG_CFG => ⟨.ro, 0#32, 0#32, false, [], 0x7C, 0x040, 4, 0⟩
  | .DG_CTRL => ⟨.w1, 0#32, 7#32, false, [], 0x7C, 0x044, 4, 0⟩
  | .DG_STAT => ⟨.ro, 0#32, 0#32, false, [], 0x7C, 0x048, 4, 0⟩

/-- A bit field of a register: REGISTER.FIELD of the manual. -/
structure Field where
  reg : Reg
  hi : Nat
  lo : Nat
deriving DecidableEq, Repr

def PAGE_ID_BLOCK : Field := ⟨.PAGE_ID, 31, 16⟩
def PAGE_ID_INSTANCE : Field := ⟨.PAGE_ID, 15, 8⟩
def PAGE_ID_REV : Field := ⟨.PAGE_ID, 7, 0⟩
def PAGE_CFG_BLOCK_CFG : Field := ⟨.PAGE_CFG, 15, 0⟩
def PAGE_STAT_BLOCK_STAT : Field := ⟨.PAGE_STAT, 31, 16⟩
def PAGE_STAT_SNAP_CNT : Field := ⟨.PAGE_STAT, 15, 8⟩
def PAGE_STAT_DRST_BUSY : Field := ⟨.PAGE_STAT, 0, 0⟩
def SNAP_TAKE : Field := ⟨.SNAP, 0, 0⟩
def GUARD_STAT_VIOL_KIND : Field := ⟨.GUARD_STAT, 15, 12⟩
def GUARD_STAT_VIOL_MASTER : Field := ⟨.GUARD_STAT, 10, 8⟩
def GUARD_STAT_VIOL : Field := ⟨.GUARD_STAT, 7, 7⟩
def GUARD_STAT_OPEN_MASTER : Field := ⟨.GUARD_STAT, 5, 3⟩
def GUARD_STAT_OPEN : Field := ⟨.GUARD_STAT, 2, 2⟩
def GUARD_STAT_LOCKED : Field := ⟨.GUARD_STAT, 1, 1⟩
def GUARD_STAT_MODE : Field := ⟨.GUARD_STAT, 0, 0⟩
def DOMAIN_RST_GO : Field := ⟨.DOMAIN_RST, 0, 0⟩
def PR_OWNER_OWNER : Field := ⟨.PR_OWNER, 2, 0⟩
def PR_FROZEN_BITS : Field := ⟨.PR_FROZEN, 31, 7⟩
def PR_UNFREEZE_BITS : Field := ⟨.PR_UNFREEZE, 31, 7⟩
def PR_VIOL_CNT_DBG_CNT : Field := ⟨.PR_VIOL_CNT, 31, 16⟩
def PR_VIOL_CNT_CNT : Field := ⟨.PR_VIOL_CNT, 15, 0⟩
def PR_VLOG_INFO_KIND : Field := ⟨.PR_VLOG_INFO, 7, 4⟩
def PR_VLOG_INFO_WRITE : Field := ⟨.PR_VLOG_INFO, 3, 3⟩
def PR_VLOG_INFO_MASTER : Field := ⟨.PR_VLOG_INFO, 2, 0⟩
def PR_GCLR_PAGE : Field := ⟨.PR_GCLR, 7, 0⟩
def PR_MEM_BASE_BASE : Field := ⟨.PR_MEM_BASE, 31, 12⟩
def PR_MEM_LIM_LIMIT : Field := ⟨.PR_MEM_LIM, 31, 12⟩
def PR_MEM_ACC_EN : Field := ⟨.PR_MEM_ACC, 31, 31⟩
def PR_MEM_ACC_ACC : Field := ⟨.PR_MEM_ACC, 15, 0⟩
def AX_YAW_CFG_SIGN_INV : Field := ⟨.AX_YAW_CFG, 13, 13⟩
def AX_YAW_CFG_WAX : Field := ⟨.AX_YAW_CFG, 12, 8⟩
def AX_YAW_CFG_ALT : Field := ⟨.AX_YAW_CFG, 6, 4⟩
def AX_YAW_CFG_SRC : Field := ⟨.AX_YAW_CFG, 2, 0⟩
def AX_YAW_CAN_BE : Field := ⟨.AX_YAW_CAN, 19, 19⟩
def AX_YAW_CAN_SIGNED : Field := ⟨.AX_YAW_CAN, 18, 18⟩
def AX_YAW_CAN_LEN : Field := ⟨.AX_YAW_CAN, 17, 16⟩
def AX_YAW_CAN_OFS : Field := ⟨.AX_YAW_CAN, 13, 8⟩
def AX_YAW_CAN_CTRL : Field := ⟨.AX_YAW_CAN, 2, 0⟩
def AX_YAW_CANID_IDE : Field := ⟨.AX_YAW_CANID, 31, 31⟩
def AX_YAW_CANID_ID : Field := ⟨.AX_YAW_CANID, 28, 0⟩
def AX_YAW_TO_TO : Field := ⟨.AX_YAW_TO, 9, 0⟩
def AX_YAW_STAT_LOST : Field := ⟨.AX_YAW_STAT, 3, 3⟩
def AX_YAW_STAT_USED : Field := ⟨.AX_YAW_STAT, 2, 0⟩
def AX_CFG_SRC_AX : Field := ⟨.AX_CFG, 20, 16⟩
def AX_CFG_TYPE : Field := ⟨.AX_CFG, 6, 4⟩
def AX_CFG_DIR_INV : Field := ⟨.AX_CFG, 3, 3⟩
def AX_CFG_APPLY : Field := ⟨.AX_CFG, 1, 1⟩
def AX_CFG_EN : Field := ⟨.AX_CFG, 0, 0⟩
def AX_SRC_GNSS_SEL : Field := ⟨.AX_SRC, 25, 25⟩
def AX_SRC_GNSS_EN : Field := ⟨.AX_SRC, 24, 24⟩
def AX_SRC_RAD_EN : Field := ⟨.AX_SRC, 21, 21⟩
def AX_SRC_RAD : Field := ⟨.AX_SRC, 20, 16⟩
def AX_SRC_WR_EN : Field := ⟨.AX_SRC, 13, 13⟩
def AX_SRC_WR : Field := ⟨.AX_SRC, 12, 8⟩
def AX_SRC_WL_EN : Field := ⟨.AX_SRC, 5, 5⟩
def AX_SRC_WL : Field := ⟨.AX_SRC, 4, 0⟩
def AX_PRE_HI_PRE_HI : Field := ⟨.AX_PRE_HI, 15, 0⟩
def AX_FALL_COAST_TIME : Field := ⟨.AX_FALL, 27, 16⟩
def AX_FALL_STALE_VMIN : Field := ⟨.AX_FALL, 15, 8⟩
def AX_FALL_STALE_FACTOR : Field := ⟨.AX_FALL, 5, 0⟩
def AX_GNSS_SIGN_HDT : Field := ⟨.AX_GNSS, 18, 18⟩
def AX_GNSS_CORR_R : Field := ⟨.AX_GNSS, 17, 17⟩
def AX_GNSS_CORR_W : Field := ⟨.AX_GNSS, 16, 16⟩
def AX_GNSS_GNSS_TO : Field := ⟨.AX_GNSS, 12, 0⟩
def AX_APPLY_REV_DIST : Field := ⟨.AX_APPLY, 30, 24⟩
def AX_APPLY_HYST : Field := ⟨.AX_APPLY, 23, 16⟩
def AX_APPLY_CUTOFF : Field := ⟨.AX_APPLY, 10, 0⟩
def AX_MAINS_EDGE : Field := ⟨.AX_MAINS, 0, 0⟩
def AX_STAT_REJ : Field := ⟨.AX_STAT, 19, 16⟩
def AX_STAT_LOCK : Field := ⟨.AX_STAT, 14, 14⟩
def AX_STAT_REVERSE : Field := ⟨.AX_STAT, 13, 13⟩
def AX_STAT_LOWSPD : Field := ⟨.AX_STAT, 12, 12⟩
def AX_STAT_GNSS_OK : Field := ⟨.AX_STAT, 10, 10⟩
def AX_STAT_RADAR_OK : Field := ⟨.AX_STAT, 9, 9⟩
def AX_STAT_WHEEL_OK : Field := ⟨.AX_STAT, 8, 8⟩
def AX_STAT_ACTIVE : Field := ⟨.AX_STAT, 5, 4⟩
def AX_STAT_STATE : Field := ⟨.AX_STAT, 2, 0⟩
def AX_CNT_STALE_CNT : Field := ⟨.AX_CNT, 31, 16⟩
def AX_CNT_SW_CNT : Field := ⟨.AX_CNT, 15, 0⟩
def LN_PUSH_GO_LANE : Field := ⟨.LN_PUSH_GO, 9, 0⟩
def LN_PUSH_RES_SEQ : Field := ⟨.LN_PUSH_RES, 31, 24⟩
def LN_PUSH_RES_CODE : Field := ⟨.LN_PUSH_RES, 3, 0⟩
def LN_CNT_ERR_HW_DROP : Field := ⟨.LN_CNT_ERR, 31, 24⟩
def LN_CNT_ERR_MW_ERR : Field := ⟨.LN_CNT_ERR, 23, 16⟩
def LN_CNT_ERR_LATE : Field := ⟨.LN_CNT_ERR, 15, 0⟩
def LN_LLOG_LANE_TAG : Field := ⟨.LN_LLOG_LANE, 31, 24⟩
def LN_LLOG_LANE_ACT : Field := ⟨.LN_LLOG_LANE, 23, 20⟩
def LN_LLOG_LANE_HW : Field := ⟨.LN_LLOG_LANE, 19, 19⟩
def LN_LLOG_LANE_LANE : Field := ⟨.LN_LLOG_LANE, 9, 0⟩
def LN_PROF_OFF_OFS : Field := ⟨.LN_PROF, 31, 16⟩
def LN_PROF_ON_OFS : Field := ⟨.LN_PROF, 15, 0⟩
def LN_TPL_CFG_EN : Field := ⟨.LN_TPL_CFG, 31, 31⟩
def LN_TPL_CFG_CTRL : Field := ⟨.LN_TPL_CFG, 30, 28⟩
def LN_TPL_CFG_FIFO : Field := ⟨.LN_TPL_CFG, 27, 27⟩
def LN_TPL_CFG_FD : Field := ⟨.LN_TPL_CFG, 26, 26⟩
def LN_TPL_CFG_BRS : Field := ⟨.LN_TPL_CFG, 25, 25⟩
def LN_TPL_CFG_IDE : Field := ⟨.LN_TPL_CFG, 24, 24⟩
def LN_TPL_CFG_BMLEN : Field := ⟨.LN_TPL_CFG, 23, 22⟩
def LN_TPL_CFG_SEQ_EN : Field := ⟨.LN_TPL_CFG, 21, 21⟩
def LN_TPL_CFG_PFX_EN : Field := ⟨.LN_TPL_CFG, 20, 20⟩
def LN_TPL_CFG_MIN_GAP : Field := ⟨.LN_TPL_CFG, 19, 12⟩
def LN_TPL_CFG_REFRESH : Field := ⟨.LN_TPL_CFG, 7, 0⟩
def LN_TPL_ID_ID : Field := ⟨.LN_TPL_ID, 28, 0⟩
def LN_TPL_DON_PREFIX : Field := ⟨.LN_TPL_DON, 31, 24⟩
def LN_TPL_DON_D_ON : Field := ⟨.LN_TPL_DON, 20, 0⟩
def LN_TPL_DOFF_D_OFF : Field := ⟨.LN_TPL_DOFF, 20, 0⟩
def LN_CFG_HW : Field := ⟨.LN_CFG, 30, 28⟩
def LN_CFG_PROF : Field := ⟨.LN_CFG, 27, 24⟩
def LN_CFG_LSRC : Field := ⟨.LN_CFG, 23, 22⟩
def LN_CFG_FB_POL : Field := ⟨.LN_CFG, 21, 21⟩
def LN_CFG_FB : Field := ⟨.LN_CFG, 20, 16⟩
def LN_CFG_AX : Field := ⟨.LN_CFG, 12, 8⟩
def LN_CFG_APPLY : Field := ⟨.LN_CFG, 2, 2⟩
def LN_CFG_EN : Field := ⟨.LN_CFG, 0, 0⟩
def LN_DON_D_ON : Field := ⟨.LN_DON, 20, 0⟩
def LN_DOFF_D_OFF : Field := ⟨.LN_DOFF, 20, 0⟩
def LN_STAT_HOLD : Field := ⟨.LN_STAT, 11, 11⟩
def LN_STAT_FORCE : Field := ⟨.LN_STAT, 10, 10⟩
def LN_STAT_DEMAND : Field := ⟨.LN_STAT, 9, 9⟩
def LN_STAT_HEAD : Field := ⟨.LN_STAT, 8, 5⟩
def LN_STAT_FILL : Field := ⟨.LN_STAT, 4, 0⟩
def LN_RCFG_FILL : Field := ⟨.LN_RCFG, 31, 29⟩
def LN_RCFG_HEAD : Field := ⟨.LN_RCFG, 28, 27⟩
def LN_RCFG_CMD : Field := ⟨.LN_RCFG, 26, 26⟩
def LN_RCFG_FORCE : Field := ⟨.LN_RCFG, 25, 25⟩
def LN_RCFG_TMPL : Field := ⟨.LN_RCFG, 24, 20⟩
def LN_RCFG_SLOT : Field := ⟨.LN_RCFG, 19, 14⟩
def LN_RCFG_APPLY : Field := ⟨.LN_RCFG, 13, 13⟩
def LN_RCFG_AX : Field := ⟨.LN_RCFG, 12, 8⟩
def LN_RCFG_HW : Field := ⟨.LN_RCFG, 7, 7⟩
def LN_RCFG_EN : Field := ⟨.LN_RCFG, 0, 0⟩
def GM_CTRL_RUN : Field := ⟨.GM_CTRL, 0, 0⟩
def GM_CFG_POSSRC : Field := ⟨.GM_CFG, 29, 28⟩
def GM_CFG_HDT_SEL : Field := ⟨.GM_CFG, 27, 27⟩
def GM_CFG_LOSTOFF : Field := ⟨.GM_CFG, 26, 26⟩
def GM_CFG_MISS : Field := ⟨.GM_CFG, 25, 25⟩
def GM_CFG_BND : Field := ⟨.GM_CFG, 24, 24⟩
def GM_CFG_COV_RULE : Field := ⟨.GM_CFG, 23, 22⟩
def GM_CFG_SK : Field := ⟨.GM_CFG, 21, 20⟩
def GM_CFG_CELL : Field := ⟨.GM_CFG, 19, 18⟩
def GM_CFG_STEP : Field := ⟨.GM_CFG, 17, 16⟩
def GM_CFG_AX : Field := ⟨.GM_CFG, 12, 8⟩
def GM_WET_MIN_RUN : Field := ⟨.GM_WET, 31, 24⟩
def GM_WET_WET : Field := ⟨.GM_WET, 8, 0⟩
def GM_DUTY_LIM_DUTY_MAX : Field := ⟨.GM_DUTY_LIM, 31, 16⟩
def GM_DUTY_LIM_DUTY_MIN : Field := ⟨.GM_DUTY_LIM, 15, 0⟩
def GM_GNSS_CFG_LAT_MS : Field := ⟨.GM_GNSS_CFG, 25, 16⟩
def GM_GNSS_CFG_QMIN : Field := ⟨.GM_GNSS_CFG, 14, 12⟩
def GM_GNSS_CFG_PPS1_EN : Field := ⟨.GM_GNSS_CFG, 9, 9⟩
def GM_GNSS_CFG_PPS0_EN : Field := ⟨.GM_GNSS_CFG, 8, 8⟩
def GM_GNSS_CFG_BAUD1 : Field := ⟨.GM_GNSS_CFG, 7, 4⟩
def GM_GNSS_CFG_BAUD0 : Field := ⟨.GM_GNSS_CFG, 3, 0⟩
def GM_BLEND_DRAIN : Field := ⟨.GM_BLEND, 31, 16⟩
def GM_BLEND_JUMP_LIM : Field := ⟨.GM_BLEND, 15, 8⟩
def GM_BLEND_KH : Field := ⟨.GM_BLEND, 7, 4⟩
def GM_BLEND_KP : Field := ⟨.GM_BLEND, 3, 0⟩
def GM_FIX_TO_TO : Field := ⟨.GM_FIX_TO, 13, 0⟩
def GM_LOG_SUM_DIST : Field := ⟨.GM_LOG, 15, 0⟩
def GM_STAT_REJ : Field := ⟨.GM_STAT, 31, 28⟩
def GM_STAT_MAP_BUSY : Field := ⟨.GM_STAT, 27, 27⟩
def GM_STAT_FULL : Field := ⟨.GM_STAT, 26, 26⟩
def GM_STAT_DR_ONLY : Field := ⟨.GM_STAT, 25, 25⟩
def GM_STAT_POSE_OK : Field := ⟨.GM_STAT, 24, 24⟩
def GM_STAT_HDT_OK : Field := ⟨.GM_STAT, 23, 23⟩
def GM_FIX_GO_GO : Field := ⟨.GM_FIX_GO, 0, 0⟩
def GM_FIX_RES_SEQ : Field := ⟨.GM_FIX_RES, 31, 24⟩
def GM_FIX_RES_CODE : Field := ⟨.GM_FIX_RES, 3, 0⟩
def GM_IMU_CFG_PERIOD : Field := ⟨.GM_IMU_CFG, 31, 16⟩
def GM_IMU_CFG_LEN : Field := ⟨.GM_IMU_CFG, 15, 12⟩
def GM_IMU_CFG_CLKDIV : Field := ⟨.GM_IMU_CFG, 11, 8⟩
def GM_IMU_CFG_MODE : Field := ⟨.GM_IMU_CFG, 4, 3⟩
def GM_IMU_CFG_PORT : Field := ⟨.GM_IMU_CFG, 2, 1⟩
def GM_IMU_CFG_EN : Field := ⟨.GM_IMU_CFG, 0, 0⟩
def GM_IMU_FMT_SIGNED : Field := ⟨.GM_IMU_FMT, 7, 7⟩
def GM_IMU_FMT_BE : Field := ⟨.GM_IMU_FMT, 6, 6⟩
def GM_IMU_FMT_YLEN : Field := ⟨.GM_IMU_FMT, 5, 4⟩
def GM_IMU_FMT_OFS : Field := ⟨.GM_IMU_FMT, 3, 0⟩
def GM_MAP_CMD_CMD : Field := ⟨.GM_MAP_CMD, 2, 0⟩
def GM_MAP_ARG_TY : Field := ⟨.GM_MAP_ARG, 31, 16⟩
def GM_MAP_ARG_TX : Field := ⟨.GM_MAP_ARG, 15, 0⟩
def GM_MISS_TILE_TY : Field := ⟨.GM_MISS_TILE, 31, 16⟩
def GM_MISS_TILE_TX : Field := ⟨.GM_MISS_TILE, 15, 0⟩
def GM_CNT_ERR_MISS : Field := ⟨.GM_CNT_ERR, 31, 16⟩
def GM_CNT_ERR_CLIP : Field := ⟨.GM_CNT_ERR, 15, 0⟩
def GM_WANT_TY : Field := ⟨.GM_WANT, 31, 16⟩
def GM_WANT_TX : Field := ⟨.GM_WANT, 15, 0⟩
def GM_WANT_DIST_DIST : Field := ⟨.GM_WANT_DIST, 8, 0⟩
def GM_ZONE_RATE : Field := ⟨.GM_ZONE, 31, 16⟩
def GM_ZONE_NO_MARK : Field := ⟨.GM_ZONE, 1, 1⟩
def GM_ZONE_IGN_MASK : Field := ⟨.GM_ZONE, 0, 0⟩
def GM_APP_SEL_APP : Field := ⟨.GM_APP_SEL, 9, 0⟩
def GM_APP_CFG_FEN : Field := ⟨.GM_APP_CFG, 4, 4⟩
def GM_APP_CFG_FGRP : Field := ⟨.GM_APP_CFG, 3, 2⟩
def GM_APP_CFG_COV : Field := ⟨.GM_APP_CFG, 1, 1⟩
def GM_APP_CFG_EN : Field := ⟨.GM_APP_CFG, 0, 0⟩
def GM_APP_W_W : Field := ⟨.GM_APP_W, 12, 0⟩
def GM_APP_STAT_DUTY : Field := ⟨.GM_APP_STAT, 31, 16⟩
def GM_APP_STAT_ZONE : Field := ⟨.GM_APP_STAT, 11, 8⟩
def GM_APP_STAT_UNB : Field := ⟨.GM_APP_STAT, 4, 4⟩
def GM_APP_STAT_OPEN : Field := ⟨.GM_APP_STAT, 3, 3⟩
def GM_APP_STAT_LOWV : Field := ⟨.GM_APP_STAT, 2, 2⟩
def GM_APP_STAT_DEC : Field := ⟨.GM_APP_STAT, 1, 1⟩
def GM_TC_STAT_RSN : Field := ⟨.GM_TC_STAT, 31, 28⟩
def GM_TC_STAT_PINNED : Field := ⟨.GM_TC_STAT, 25, 16⟩
def GM_TC_STAT_CACHED : Field := ⟨.GM_TC_STAT, 9, 0⟩
def GM_TC_CNT_INST : Field := ⟨.GM_TC_CNT, 31, 16⟩
def GM_TC_CNT_REF : Field := ⟨.GM_TC_CNT, 15, 0⟩
def GM_TC_EVICT_TY : Field := ⟨.GM_TC_EVICT, 31, 16⟩
def GM_TC_EVICT_TX : Field := ⟨.GM_TC_EVICT, 15, 0⟩
def FB_CFG_IDX_EN : Field := ⟨.FB_CFG, 7, 7⟩
def FB_CFG_RES : Field := ⟨.FB_CFG, 6, 5⟩
def FB_CFG_DIR_INV : Field := ⟨.FB_CFG, 4, 4⟩
def FB_CFG_MODE : Field := ⟨.FB_CFG, 3, 1⟩
def FB_CFG_EN : Field := ⟨.FB_CFG, 0, 0⟩
def FB_FILT_DEB : Field := ⟨.FB_FILT, 31, 16⟩
def FB_FILT_ZFILT : Field := ⟨.FB_FILT, 15, 8⟩
def FB_FILT_FILT : Field := ⟨.FB_FILT, 7, 0⟩
def FB_OBS_STALE_MS : Field := ⟨.FB_OBS, 31, 16⟩
def FB_OBS_PAVG : Field := ⟨.FB_OBS, 13, 12⟩
def FB_OBS_BW : Field := ⟨.FB_OBS, 11, 0⟩
def FB_IDX_LC_TOL : Field := ⟨.FB_IDX, 31, 20⟩
def FB_IDX_LC_NOM : Field := ⟨.FB_IDX, 19, 0⟩
def FB_ERR_CFG_SSI_ELIM : Field := ⟨.FB_ERR_CFG, 19, 16⟩
def FB_ERR_CFG_LC_FAULT : Field := ⟨.FB_ERR_CFG, 9, 9⟩
def FB_ERR_CFG_FAULT_AUTO : Field := ⟨.FB_ERR_CFG, 8, 8⟩
def FB_ERR_CFG_ERR_LIM : Field := ⟨.FB_ERR_CFG, 7, 0⟩
def FB_SSI_TM : Field := ⟨.FB_SSI, 25, 18⟩
def FB_SSI_DIV : Field := ⟨.FB_SSI, 17, 8⟩
def FB_SSI_ZERO_CHK : Field := ⟨.FB_SSI, 7, 7⟩
def FB_SSI_GRAY : Field := ⟨.FB_SSI, 6, 6⟩
def FB_SSI_BITS : Field := ⟨.FB_SSI, 5, 0⟩
def FB_SSI2_JMAX : Field := ⟨.FB_SSI2, 31, 16⟩
def FB_SSI2_PERIOD : Field := ⟨.FB_SSI2, 15, 0⟩
def FB_CMP_CFG_AUTO : Field := ⟨.FB_CMP_CFG, 2, 2⟩
def FB_CMP_CFG_CMP_DIR : Field := ⟨.FB_CMP_CFG, 1, 1⟩
def FB_CMP_CFG_CMP_EN : Field := ⟨.FB_CMP_CFG, 0, 0⟩
def FB_CTRL_CCLR : Field := ⟨.FB_CTRL, 1, 1⟩
def FB_CTRL_FCLR : Field := ⟨.FB_CTRL, 0, 0⟩
def FB_EVT_QERR : Field := ⟨.FB_EVT, 11, 11⟩
def FB_EVT_FAULT_CLR : Field := ⟨.FB_EVT, 10, 10⟩
def FB_EVT_INPUT_OVER : Field := ⟨.FB_EVT, 9, 9⟩
def FB_EVT_SSI_JUMP : Field := ⟨.FB_EVT, 8, 8⟩
def FB_EVT_SSI_ERR : Field := ⟨.FB_EVT, 7, 7⟩
def FB_EVT_STALE : Field := ⟨.FB_EVT, 6, 6⟩
def FB_EVT_CMP_SKIP : Field := ⟨.FB_EVT, 5, 5⟩
def FB_EVT_CMP_HIT : Field := ⟨.FB_EVT, 4, 4⟩
def FB_EVT_LINE_COUNT : Field := ⟨.FB_EVT, 3, 3⟩
def FB_EVT_HALL_SKIP : Field := ⟨.FB_EVT, 2, 2⟩
def FB_EVT_HALL_INVALID : Field := ⟨.FB_EVT, 1, 1⟩
def FB_EVT_FAULT : Field := ⟨.FB_EVT, 0, 0⟩
def FB_EVT_MASK_MASK : Field := ⟨.FB_EVT_MASK, 11, 0⟩
def FB_STAT_REJ : Field := ⟨.FB_STAT, 11, 8⟩
def FB_STAT_SSI_OK : Field := ⟨.FB_STAT, 7, 7⟩
def FB_STAT_IDX_OK : Field := ⟨.FB_STAT, 6, 6⟩
def FB_STAT_STALE : Field := ⟨.FB_STAT, 5, 5⟩
def FB_STAT_FAULT : Field := ⟨.FB_STAT, 4, 4⟩
def FB_STAT_DIR : Field := ⟨.FB_STAT, 3, 3⟩
def FB_STAT_LVL : Field := ⟨.FB_STAT, 2, 0⟩
def FB_CMP_CNT_SKIP : Field := ⟨.FB_CMP_CNT, 31, 16⟩
def FB_CMP_CNT_HIT : Field := ⟨.FB_CMP_CNT, 15, 0⟩
def FB_ERRCNT_HALL : Field := ⟨.FB_ERRCNT, 31, 16⟩
def FB_ERRCNT_QERR : Field := ⟨.FB_ERRCNT, 15, 0⟩
def FWD_CFG_ZPASS : Field := ⟨.FWD_CFG, 14, 14⟩
def FWD_CFG_FMT : Field := ⟨.FWD_CFG, 13, 13⟩
def FWD_CFG_SRC : Field := ⟨.FWD_CFG, 12, 8⟩
def FWD_CFG_INV : Field := ⟨.FWD_CFG, 4, 4⟩
def FWD_CFG_MODE : Field := ⟨.FWD_CFG, 2, 0⟩
def FWD_EMU_PPHM : Field := ⟨.FWD_EMU, 15, 0⟩
def FWD_WID_WID : Field := ⟨.FWD_WID, 20, 0⟩
def FWD_STAT_PULSES : Field := ⟨.FWD_STAT, 31, 16⟩
def FWD_STAT_ERR : Field := ⟨.FWD_STAT, 3, 3⟩
def FWD_STAT_MODE : Field := ⟨.FWD_STAT, 2, 0⟩
def VG_CFG_HSON_EN : Field := ⟨.VG_CFG, 5, 5⟩
def VG_CFG_WIN_EN : Field := ⟨.VG_CFG, 4, 4⟩
def VG_CFG_LOG : Field := ⟨.VG_CFG, 3, 2⟩
def VG_CFG_SG_ACT : Field := ⟨.VG_CFG, 1, 1⟩
def VG_CFG_EN : Field := ⟨.VG_CFG, 0, 0⟩
def VG_BUDGET_DEFER_WARN : Field := ⟨.VG_BUDGET, 31, 16⟩
def VG_BUDGET_BUDGET : Field := ⟨.VG_BUDGET, 9, 0⟩
def VG_TEST_WIN_IDLE : Field := ⟨.VG_TEST, 31, 24⟩
def VG_TEST_TEST_IDLE : Field := ⟨.VG_TEST, 23, 16⟩
def VG_TEST_TEST_PER : Field := ⟨.VG_TEST, 15, 0⟩
def VG_CTRL_DIE_CLR : Field := ⟨.VG_CTRL, 7, 4⟩
def VG_CTRL_CCLR : Field := ⟨.VG_CTRL, 2, 2⟩
def VG_CTRL_TWIN : Field := ⟨.VG_CTRL, 1, 1⟩
def VG_CTRL_HS_CLR : Field := ⟨.VG_CTRL, 0, 0⟩
def VG_STAT_FORCED : Field := ⟨.VG_STAT, 22, 22⟩
def VG_STAT_DUST : Field := ⟨.VG_STAT, 21, 21⟩
def VG_STAT_WIN_ACTIVE : Field := ⟨.VG_STAT, 20, 20⟩
def VG_STAT_VSUP_LOW : Field := ⟨.VG_STAT, 19, 19⟩
def VG_STAT_SG_LATCH : Field := ⟨.VG_STAT, 18, 18⟩
def VG_STAT_HS_LATCH : Field := ⟨.VG_STAT, 17, 17⟩
def VG_STAT_HS_ON : Field := ⟨.VG_STAT, 16, 16⟩
def VG_STAT_WAITING : Field := ⟨.VG_STAT, 13, 13⟩
def VG_STAT_PEAK_SUM : Field := ⟨.VG_STAT, 9, 0⟩
def VG_EVT_TEST_DONE : Field := ⟨.VG_EVT, 13, 13⟩
def VG_EVT_VSUP_LOW : Field := ⟨.VG_EVT, 12, 12⟩
def VG_EVT_HS_TRIP : Field := ⟨.VG_EVT, 11, 11⟩
def VG_EVT_DEFER_WARN : Field := ⟨.VG_EVT, 10, 10⟩
def VG_EVT_T_TRIP : Field := ⟨.VG_EVT, 9, 9⟩
def VG_EVT_T_LIMIT : Field := ⟨.VG_EVT, 8, 8⟩
def VG_EVT_STUCK_CLR : Field := ⟨.VG_EVT, 7, 7⟩
def VG_EVT_STUCK : Field := ⟨.VG_EVT, 6, 6⟩
def VG_EVT_OFF_SS : Field := ⟨.VG_EVT, 5, 5⟩
def VG_EVT_OFF_SG : Field := ⟨.VG_EVT, 4, 4⟩
def VG_EVT_OFF_OPEN : Field := ⟨.VG_EVT, 3, 3⟩
def VG_EVT_OPEN_ON : Field := ⟨.VG_EVT, 2, 2⟩
def VG_EVT_SHORT_GND : Field := ⟨.VG_EVT, 1, 1⟩
def VG_EVT_SHORT_SUP : Field := ⟨.VG_EVT, 0, 0⟩
def VG_EVT_MASK_MASK : Field := ⟨.VG_EVT_MASK, 13, 0⟩
def VG_VSUP_MV : Field := ⟨.VG_VSUP, 15, 0⟩
def VG_IGRP_MA : Field := ⟨.VG_IGRP, 15, 0⟩
def VG_GCNT_WINDOWS : Field := ⟨.VG_GCNT, 31, 16⟩
def VG_GCNT_DEFERRALS : Field := ⟨.VG_GCNT, 15, 0⟩
def VG_DLAST_CH : Field := ⟨.VG_DLAST, 26, 24⟩
def VG_DLAST_CAUSE : Field := ⟨.VG_DLAST, 23, 22⟩
def VG_DLAST_DEFER : Field := ⟨.VG_DLAST, 20, 0⟩
def VG_CCFG_STUCK_N : Field := ⟨.VG_CCFG, 11, 8⟩
def VG_CCFG_DIAG_EN : Field := ⟨.VG_CCFG, 3, 3⟩
def VG_CCFG_THM_EN : Field := ⟨.VG_CCFG, 2, 2⟩
def VG_CCFG_DET_EN : Field := ⟨.VG_CCFG, 1, 1⟩
def VG_CCFG_EN : Field := ⟨.VG_CCFG, 0, 0⟩
def VG_CCUR_PEAK : Field := ⟨.VG_CCUR, 23, 16⟩
def VG_CCUR_HOLD_MIN : Field := ⟨.VG_CCUR, 14, 8⟩
def VG_CCUR_HOLD : Field := ⟨.VG_CCUR, 6, 0⟩
def VG_CPEAKT_PEAK_T : Field := ⟨.VG_CPEAKT, 10, 0⟩
def VG_CDET_REL_WIN : Field := ⟨.VG_CDET, 31, 24⟩
def VG_CDET_FLOOR : Field := ⟨.VG_CDET, 23, 16⟩
def VG_CDET_BUMP : Field := ⟨.VG_CDET, 15, 8⟩
def VG_CDET_DIP : Field := ⟨.VG_CDET, 7, 0⟩
def VG_CTHM_T_TRIP : Field := ⟨.VG_CTHM, 31, 24⟩
def VG_CTHM_T_LIMIT : Field := ⟨.VG_CTHM, 23, 16⟩
def VG_CTHM_T_HYST : Field := ⟨.VG_CTHM, 15, 8⟩
def VG_CTHM_TAU : Field := ⟨.VG_CTHM, 7, 0⟩
def VG_CCTRL_CCLR : Field := ⟨.VG_CCTRL, 3, 3⟩
def VG_CCTRL_RLEARN : Field := ⟨.VG_CCTRL, 2, 2⟩
def VG_CCTRL_SCLR : Field := ⟨.VG_CCTRL, 1, 1⟩
def VG_CCTRL_LCLR : Field := ⟨.VG_CCTRL, 0, 0⟩
def VG_CSTAT_LEARN_PEND : Field := ⟨.VG_CSTAT, 16, 16⟩
def VG_CSTAT_REJ : Field := ⟨.VG_CSTAT, 15, 12⟩
def VG_CSTAT_HSOFF_RES : Field := ⟨.VG_CSTAT, 11, 10⟩
def VG_CSTAT_HSON_RES : Field := ⟨.VG_CSTAT, 9, 8⟩
def VG_CSTAT_OPEN_ON : Field := ⟨.VG_CSTAT, 7, 7⟩
def VG_CSTAT_TLIM : Field := ⟨.VG_CSTAT, 6, 6⟩
def VG_CSTAT_STUCK : Field := ⟨.VG_CSTAT, 5, 5⟩
def VG_CSTAT_TT_LATCH : Field := ⟨.VG_CSTAT, 4, 4⟩
def VG_CSTAT_SS_LATCH : Field := ⟨.VG_CSTAT, 3, 3⟩
def VG_CSTAT_PHASE : Field := ⟨.VG_CSTAT, 2, 0⟩
def VG_CI_IPK : Field := ⟨.VG_CI, 25, 16⟩
def VG_CI_I : Field := ⟨.VG_CI, 9, 0⟩
def VG_CAGE_HSOFF_AGE : Field := ⟨.VG_CAGE, 31, 16⟩
def VG_CAGE_HSON_AGE : Field := ⟨.VG_CAGE, 15, 0⟩
def VG_CCNT_ACT : Field := ⟨.VG_CCNT, 31, 16⟩
def VG_CCNT_NODET : Field := ⟨.VG_CCNT, 15, 8⟩
def VG_CCNT_DEFER : Field := ⟨.VG_CCNT, 7, 0⟩
def VG_CDUTY_D : Field := ⟨.VG_CDUTY, 15, 0⟩
def VG_DIESTAT_HOT : Field := ⟨.VG_DIESTAT, 7, 4⟩
def VG_DIESTAT_SHUT : Field := ⟨.VG_DIESTAT, 3, 0⟩
def VS_CFG_AX : Field := ⟨.VS_CFG, 12, 8⟩
def VS_CFG_UPD : Field := ⟨.VS_CFG, 3, 3⟩
def VS_CFG_MODE : Field := ⟨.VS_CFG, 2, 1⟩
def VS_CFG_EN : Field := ⟨.VS_CFG, 0, 0⟩
def VS_DUTY_DUTY : Field := ⟨.VS_DUTY, 15, 0⟩
def VS_CTRL_CCLR : Field := ⟨.VS_CTRL, 1, 1⟩
def VS_CTRL_COMMIT : Field := ⟨.VS_CTRL, 0, 0⟩
def VS_STAT_REJ : Field := ⟨.VS_STAT, 15, 12⟩
def VS_STAT_PEND_P : Field := ⟨.VS_STAT, 4, 4⟩
def VS_STAT_PEND_ON : Field := ⟨.VS_STAT, 3, 3⟩
def VS_STAT_CPEND : Field := ⟨.VS_STAT, 2, 2⟩
def VS_STAT_RUN : Field := ⟨.VS_STAT, 1, 1⟩
def VS_STAT_OUT : Field := ⟨.VS_STAT, 0, 0⟩
def VS_CNT_PULSES : Field := ⟨.VS_CNT, 31, 16⟩
def VS_CNT_CLIPS : Field := ⟨.VS_CNT, 15, 0⟩
def VS_CLIP_CLIP : Field := ⟨.VS_CLIP, 15, 0⟩
def VS_CLIP_MASK_MASK : Field := ⟨.VS_CLIP_MASK, 15, 0⟩
def BP_CFG_SRC : Field := ⟨.BP_CFG, 6, 6⟩
def BP_CFG_LOW_OFF : Field := ⟨.BP_CFG, 5, 5⟩
def BP_CFG_POL_L : Field := ⟨.BP_CFG, 4, 4⟩
def BP_CFG_POL_H : Field := ⟨.BP_CFG, 3, 3⟩
def BP_CFG_ALIGN : Field := ⟨.BP_CFG, 2, 2⟩
def BP_CFG_UPD : Field := ⟨.BP_CFG, 1, 1⟩
def BP_CFG_EN : Field := ⟨.BP_CFG, 0, 0⟩
def BP_DUTY_DUTY : Field := ⟨.BP_DUTY, 15, 0⟩
def BP_DT_DT_F : Field := ⟨.BP_DT, 27, 16⟩
def BP_DT_DT_R : Field := ⟨.BP_DT, 11, 0⟩
def BP_CTRL_CCLR : Field := ⟨.BP_CTRL, 1, 1⟩
def BP_CTRL_COMMIT : Field := ⟨.BP_CTRL, 0, 0⟩
def BP_STAT_REJ : Field := ⟨.BP_STAT, 15, 12⟩
def BP_STAT_HIZ : Field := ⟨.BP_STAT, 7, 7⟩
def BP_STAT_DRIVEN : Field := ⟨.BP_STAT, 6, 6⟩
def BP_STAT_PEND_P : Field := ⟨.BP_STAT, 5, 5⟩
def BP_STAT_PEND_ON : Field := ⟨.BP_STAT, 4, 4⟩
def BP_STAT_CPEND : Field := ⟨.BP_STAT, 3, 3⟩
def BP_STAT_L : Field := ⟨.BP_STAT, 1, 1⟩
def BP_STAT_H : Field := ⟨.BP_STAT, 0, 0⟩
def BP_CNT_DT_CLIPS : Field := ⟨.BP_CNT, 31, 16⟩
def BP_CNT_DUTY_CLIPS : Field := ⟨.BP_CNT, 15, 0⟩
def PG_FLT_CFG_VGMASK : Field := ⟨.PG_FLT_CFG, 31, 16⟩
def PG_FLT_CFG_FILT : Field := ⟨.PG_FLT_CFG, 15, 8⟩
def PG_FLT_CFG_BP_EN : Field := ⟨.PG_FLT_CFG, 2, 2⟩
def PG_FLT_CFG_POL : Field := ⟨.PG_FLT_CFG, 1, 1⟩
def PG_FLT_CFG_EN : Field := ⟨.PG_FLT_CFG, 0, 0⟩
def PG_FLT_STAT_FORCED : Field := ⟨.PG_FLT_STAT, 31, 16⟩
def PG_FLT_STAT_LATCH : Field := ⟨.PG_FLT_STAT, 15, 8⟩
def PG_FLT_STAT_ASSERT : Field := ⟨.PG_FLT_STAT, 7, 0⟩
def PG_FLT_CLR_CLR : Field := ⟨.PG_FLT_CLR, 7, 0⟩
def PG_STAT_FLT_HIZ : Field := ⟨.PG_STAT, 2, 2⟩
def PG_STAT_HALT : Field := ⟨.PG_STAT, 1, 1⟩
def PG_STAT_DUST : Field := ⟨.PG_STAT, 0, 0⟩
def BP_EVT_CAUSE : Field := ⟨.BP_EVT, 11, 0⟩
def BP_EVT_MASK_MASK : Field := ⟨.BP_EVT_MASK, 11, 0⟩
def LS_CMD_CMD : Field := ⟨.LS_CMD, 23, 0⟩
def LS_PIN_PIN : Field := ⟨.LS_PIN, 23, 0⟩
def LS_SUP_STAT_UV : Field := ⟨.LS_SUP_STAT, 3, 0⟩
def LS_DIE_COLD : Field := ⟨.LS_DIE, 1, 1⟩
def LS_DIE_HB_LOST : Field := ⟨.LS_DIE, 0, 0⟩
def LS_GCTRL_COLD_CLR : Field := ⟨.LS_GCTRL, 1, 1⟩
def LS_GCTRL_HB_CLR : Field := ⟨.LS_GCTRL, 0, 0⟩
def LS_VSUP01_MV1 : Field := ⟨.LS_VSUP01, 31, 16⟩
def LS_VSUP01_MV0 : Field := ⟨.LS_VSUP01, 15, 0⟩
def LS_VSUP23_MV3 : Field := ⟨.LS_VSUP23, 31, 16⟩
def LS_VSUP23_MV2 : Field := ⟨.LS_VSUP23, 15, 0⟩
def LS_SENSE_CFG_EN : Field := ⟨.LS_SENSE_CFG, 5, 5⟩
def LS_SENSE_CFG_CH : Field := ⟨.LS_SENSE_CFG, 4, 0⟩
def LS_CFG_TH_MODE : Field := ⟨.LS_CFG, 12, 12⟩
def LS_CFG_RETRY_N : Field := ⟨.LS_CFG, 11, 8⟩
def LS_CFG_PIN_INV : Field := ⟨.LS_CFG, 2, 2⟩
def LS_CFG_CSRC : Field := ⟨.LS_CFG, 1, 0⟩
def LS_INR_REARM : Field := ⟨.LS_INR, 23, 16⟩
def LS_INR_INR_MS : Field := ⟨.LS_INR, 8, 0⟩
def LS_CTRL_CCLR : Field := ⟨.LS_CTRL, 2, 2⟩
def LS_CTRL_THCLR : Field := ⟨.LS_CTRL, 1, 1⟩
def LS_CTRL_OCCLR : Field := ⟨.LS_CTRL, 0, 0⟩
def LS_STAT_RC : Field := ⟨.LS_STAT, 31, 28⟩
def LS_STAT_OUT : Field := ⟨.LS_STAT, 15, 15⟩
def LS_STAT_SRCCMD : Field := ⟨.LS_STAT, 14, 14⟩
def LS_STAT_PIN : Field := ⟨.LS_STAT, 13, 13⟩
def LS_STAT_REG : Field := ⟨.LS_STAT, 12, 12⟩
def LS_STAT_TH_LATCH : Field := ⟨.LS_STAT, 9, 9⟩
def LS_STAT_OC_LATCH : Field := ⟨.LS_STAT, 8, 8⟩
def LS_STAT_STATE : Field := ⟨.LS_STAT, 2, 0⟩
def LS_EVT_DIE_COLD : Field := ⟨.LS_EVT, 7, 7⟩
def LS_EVT_UV_RESTART : Field := ⟨.LS_EVT, 6, 6⟩
def LS_EVT_UV_OFF : Field := ⟨.LS_EVT, 5, 5⟩
def LS_EVT_RESTART : Field := ⟨.LS_EVT, 4, 4⟩
def LS_EVT_TH_LATCH : Field := ⟨.LS_EVT, 3, 3⟩
def LS_EVT_TH_OFF : Field := ⟨.LS_EVT, 2, 2⟩
def LS_EVT_OC_LATCH : Field := ⟨.LS_EVT, 1, 1⟩
def LS_EVT_OC_TRIP : Field := ⟨.LS_EVT, 0, 0⟩
def LS_EVT_MASK_MASK : Field := ⟨.LS_EVT_MASK, 7, 0⟩
def LS_I_I : Field := ⟨.LS_I, 11, 0⟩
def LS_CNT_TRIPS : Field := ⟨.LS_CNT, 31, 16⟩
def LS_CNT_RESTARTS : Field := ⟨.LS_CNT, 15, 0⟩
def PC_ROT_ROT_EN : Field := ⟨.PC_ROT, 0, 0⟩
def PC_ROT_STAT_INIT : Field := ⟨.PC_ROT_STAT, 31, 31⟩
def PC_ROT_STAT_HALT : Field := ⟨.PC_ROT_STAT, 30, 30⟩
def PC_ROT_STAT_SLOT : Field := ⟨.PC_ROT_STAT, 29, 24⟩
def PC_ROT_STAT_SPARE : Field := ⟨.PC_ROT_STAT, 23, 18⟩
def PC_ROT_STAT_QDEPTH : Field := ⟨.PC_ROT_STAT, 17, 12⟩
def PC_ROT_STAT_FAILMOD : Field := ⟨.PC_ROT_STAT, 5, 0⟩
def PC_CFG_ODR : Field := ⟨.PC_CFG, 31, 28⟩
def PC_CFG_IEXC : Field := ⟨.PC_CFG, 27, 25⟩
def PC_CFG_SWAP : Field := ⟨.PC_CFG, 24, 24⟩
def PC_CFG_PATH : Field := ⟨.PC_CFG, 23, 22⟩
def PC_CFG_GAIN : Field := ⟨.PC_CFG, 21, 19⟩
def PC_CFG_WIRE : Field := ⟨.PC_CFG, 18, 17⟩
def PC_CFG_RTD1K : Field := ⟨.PC_CFG, 16, 16⟩
def PC_CFG_MEAS : Field := ⟨.PC_CFG, 15, 14⟩
def PC_CFG_EN : Field := ⟨.PC_CFG, 0, 0⟩
def PC_CTRL_CCLR : Field := ⟨.PC_CTRL, 2, 2⟩
def PC_CTRL_TESTREQ : Field := ⟨.PC_CTRL, 1, 1⟩
def PC_CTRL_CALREQ : Field := ⟨.PC_CTRL, 0, 0⟩
def PC_STAT_REJ : Field := ⟨.PC_STAT, 31, 28⟩
def PC_STAT_MOD : Field := ⟨.PC_STAT, 27, 22⟩
def PC_STAT_QUEUED : Field := ⟨.PC_STAT, 21, 21⟩
def PC_STAT_TEST : Field := ⟨.PC_STAT, 20, 19⟩
def PC_STAT_OPEN_NOW : Field := ⟨.PC_STAT, 18, 18⟩
def PC_STAT_PATH_NOW : Field := ⟨.PC_STAT, 17, 17⟩
def PC_EVT_CAL_DONE : Field := ⟨.PC_EVT, 7, 7⟩
def PC_EVT_TEST_FAIL : Field := ⟨.PC_EVT, 6, 6⟩
def PC_EVT_LIM_HI : Field := ⟨.PC_EVT, 5, 5⟩
def PC_EVT_LIM_LO : Field := ⟨.PC_EVT, 4, 4⟩
def PC_EVT_RANGE_SW : Field := ⟨.PC_EVT, 3, 3⟩
def PC_EVT_OVR : Field := ⟨.PC_EVT, 2, 2⟩
def PC_EVT_OPEN_CLR : Field := ⟨.PC_EVT, 1, 1⟩
def PC_EVT_OPEN : Field := ⟨.PC_EVT, 0, 0⟩
def PC_EVT_MASK_MASK : Field := ⟨.PC_EVT_MASK, 7, 0⟩
def PC_FLAGS_SEQ : Field := ⟨.PC_FLAGS, 31, 16⟩
def PC_FLAGS_FLAGS : Field := ⟨.PC_FLAGS, 7, 0⟩
def PC_CALAGE_AGE : Field := ⟨.PC_CALAGE, 15, 0⟩
def PC_CNT_RESULTS : Field := ⟨.PC_CNT, 31, 16⟩
def PC_CNT_OPEN : Field := ⟨.PC_CNT, 15, 0⟩
def GC_CFG_AVG : Field := ⟨.GC_CFG, 31, 28⟩
def GC_CFG_VSREF : Field := ⟨.GC_CFG, 27, 26⟩
def GC_CFG_RANGE : Field := ⟨.GC_CFG, 25, 24⟩
def GC_CFG_EN : Field := ⟨.GC_CFG, 0, 0⟩
def GC_STAT_SHUNT_OFF : Field := ⟨.GC_STAT, 1, 1⟩
def GC_STAT_OVR : Field := ⟨.GC_STAT, 0, 0⟩
def GC_EVT_LIM_HI : Field := ⟨.GC_EVT, 3, 3⟩
def GC_EVT_LIM_LO : Field := ⟨.GC_EVT, 2, 2⟩
def GC_EVT_SHUNT_OFF : Field := ⟨.GC_EVT, 1, 1⟩
def GC_EVT_OVR : Field := ⟨.GC_EVT, 0, 0⟩
def GC_EVT_MASK_MASK : Field := ⟨.GC_EVT_MASK, 3, 0⟩
def GC_RAW_SETTLING : Field := ⟨.GC_RAW, 18, 18⟩
def GC_RAW_SHUNT_OFF : Field := ⟨.GC_RAW, 17, 17⟩
def GC_RAW_OVR : Field := ⟨.GC_RAW, 16, 16⟩
def GC_RAW_CODE : Field := ⟨.GC_RAW, 15, 0⟩
def ZC_CFG_PERIOD : Field := ⟨.ZC_CFG, 31, 24⟩
def ZC_CFG_NF : Field := ⟨.ZC_CFG, 23, 22⟩
def ZC_CFG_TEMP_EN : Field := ⟨.ZC_CFG, 21, 21⟩
def ZC_CFG_PCREF : Field := ⟨.ZC_CFG, 20, 16⟩
def ZC_CFG_EN : Field := ⟨.ZC_CFG, 0, 0⟩
def ZC_FREQ01_F1 : Field := ⟨.ZC_FREQ01, 31, 16⟩
def ZC_FREQ01_F0 : Field := ⟨.ZC_FREQ01, 15, 0⟩
def ZC_FREQ23_F3 : Field := ⟨.ZC_FREQ23, 31, 16⟩
def ZC_FREQ23_F2 : Field := ⟨.ZC_FREQ23, 15, 0⟩
def ZC_CSEL_SLOT : Field := ⟨.ZC_CSEL, 1, 0⟩
def ZC_STAT_REJ : Field := ⟨.ZC_STAT, 31, 28⟩
def ZC_STAT_SLOT : Field := ⟨.ZC_STAT, 3, 2⟩
def ZC_STAT_NOTEMP : Field := ⟨.ZC_STAT, 1, 1⟩
def ZC_STAT_OVR : Field := ⟨.ZC_STAT, 0, 0⟩
def ZC_EVT_NOTEMP : Field := ⟨.ZC_EVT, 1, 1⟩
def ZC_EVT_OVR : Field := ⟨.ZC_EVT, 0, 0⟩
def AO_CFG_SRC : Field := ⟨.AO_CFG, 2, 2⟩
def AO_CFG_MODE : Field := ⟨.AO_CFG, 1, 1⟩
def AO_CFG_EN : Field := ⟨.AO_CFG, 0, 0⟩
def AO_LIM_HI : Field := ⟨.AO_LIM, 31, 16⟩
def AO_LIM_LO : Field := ⟨.AO_LIM, 15, 0⟩
def AO_STAT_FAULT : Field := ⟨.AO_STAT, 2, 2⟩
def AO_STAT_DUST : Field := ⟨.AO_STAT, 1, 1⟩
def AO_STAT_CLAMP : Field := ⟨.AO_STAT, 0, 0⟩
def AO_CODE_CODE : Field := ⟨.AO_CODE, 15, 0⟩
def AO_EVT_CLAMP : Field := ⟨.AO_EVT, 1, 1⟩
def AO_EVT_FAULT : Field := ⟨.AO_EVT, 0, 0⟩
def LP_CFG_GRP : Field := ⟨.LP_CFG, 27, 24⟩
def LP_CFG_GRP_EN : Field := ⟨.LP_CFG, 23, 23⟩
def LP_CFG_TGT_KIND : Field := ⟨.LP_CFG, 22, 21⟩
def LP_CFG_TGT_IDX : Field := ⟨.LP_CFG, 20, 16⟩
def LP_CFG_SMP_AX : Field := ⟨.LP_CFG, 12, 8⟩
def LP_CFG_BUMPLESS : Field := ⟨.LP_CFG, 4, 4⟩
def LP_CFG_SMODE : Field := ⟨.LP_CFG, 2, 1⟩
def LP_CFG_EN : Field := ⟨.LP_CFG, 0, 0⟩
def LP_SRC_SP_SRC : Field := ⟨.LP_SRC, 27, 16⟩
def LP_SRC_FB_SRC : Field := ⟨.LP_SRC, 11, 0⟩
def LP_SRC2_PERM_EN : Field := ⟨.LP_SRC2, 22, 22⟩
def LP_SRC2_PERM_LVL : Field := ⟨.LP_SRC2, 21, 21⟩
def LP_SRC2_PERM_FB : Field := ⟨.LP_SRC2, 20, 16⟩
def LP_SRC2_FF_SRC : Field := ⟨.LP_SRC2, 11, 0⟩
def LP_FRESH_FROZ_N : Field := ⟨.LP_FRESH, 23, 16⟩
def LP_FRESH_FRESH_TO : Field := ⟨.LP_FRESH, 15, 8⟩
def LP_FRESH_ACT : Field := ⟨.LP_FRESH, 1, 0⟩
def LP_CTRL_CCLR : Field := ⟨.LP_CTRL, 2, 2⟩
def LP_CTRL_FCLR : Field := ⟨.LP_CTRL, 1, 1⟩
def LP_CTRL_BSWAP : Field := ⟨.LP_CTRL, 0, 0⟩
def LP_STAT_REJ : Field := ⟨.LP_STAT, 31, 28⟩
def LP_STAT_FSTATE : Field := ⟨.LP_STAT, 10, 8⟩
def LP_STAT_BANK : Field := ⟨.LP_STAT, 7, 7⟩
def LP_STAT_BPEND : Field := ⟨.LP_STAT, 6, 6⟩
def LP_STAT_WIN : Field := ⟨.LP_STAT, 5, 5⟩
def LP_STAT_LIMITED : Field := ⟨.LP_STAT, 4, 4⟩
def LP_STAT_FROZEN : Field := ⟨.LP_STAT, 3, 3⟩
def LP_STAT_LOST : Field := ⟨.LP_STAT, 2, 2⟩
def LP_STAT_PERM_OK : Field := ⟨.LP_STAT, 1, 1⟩
def LP_STAT_RUN : Field := ⟨.LP_STAT, 0, 0⟩
def LP_EVT_SMP_OVER : Field := ⟨.LP_EVT, 7, 7⟩
def LP_EVT_BANK_SWAP : Field := ⟨.LP_EVT, 6, 6⟩
def LP_EVT_WIN_CHG : Field := ⟨.LP_EVT, 5, 5⟩
def LP_EVT_LIMITED : Field := ⟨.LP_EVT, 4, 4⟩
def LP_EVT_FB_BACK : Field := ⟨.LP_EVT, 3, 3⟩
def LP_EVT_PERM_DROP : Field := ⟨.LP_EVT, 2, 2⟩
def LP_EVT_FB_FROZEN : Field := ⟨.LP_EVT, 1, 1⟩
def LP_EVT_FB_LOST : Field := ⟨.LP_EVT, 0, 0⟩
def LP_EVT_MASK_MASK : Field := ⟨.LP_EVT_MASK, 7, 0⟩
def LP_CNT_SKIPPED : Field := ⟨.LP_CNT, 31, 16⟩
def LP_CNT_SAMPLES : Field := ⟨.LP_CNT, 15, 0⟩
def LP_BSEL_BANK : Field := ⟨.LP_BSEL, 3, 3⟩
def LP_BSEL_LOOP : Field := ⟨.LP_BSEL, 2, 0⟩
def LP_GCFG_TGT_IDX : Field := ⟨.LP_GCFG, 12, 8⟩
def LP_GCFG_TGT_KIND : Field := ⟨.LP_GCFG, 5, 4⟩
def LP_GCFG_EN : Field := ⟨.LP_GCFG, 0, 0⟩
def LP_GSWAP_SWAP : Field := ⟨.LP_GSWAP, 7, 0⟩
def TG_CFG_LOOP : Field := ⟨.TG_CFG, 29, 24⟩
def TG_CFG_POINT : Field := ⟨.TG_CFG, 23, 23⟩
def TG_CFG_SHAPE : Field := ⟨.TG_CFG, 22, 20⟩
def TG_CFG_ORDER : Field := ⟨.TG_CFG, 19, 16⟩
def TG_CFG_HOLD : Field := ⟨.TG_CFG, 15, 8⟩
def TG_CFG_EN : Field := ⟨.TG_CFG, 0, 0⟩
def TG_CAP_NCYC : Field := ⟨.TG_CAP, 31, 24⟩
def TG_CAP_N : Field := ⟨.TG_CAP, 13, 0⟩
def TG_CTRL_STOP : Field := ⟨.TG_CTRL, 1, 1⟩
def TG_CTRL_START : Field := ⟨.TG_CTRL, 0, 0⟩
def TG_STAT_DONE_N : Field := ⟨.TG_STAT, 31, 16⟩
def TG_STAT_DONE : Field := ⟨.TG_STAT, 2, 2⟩
def TG_STAT_RUN : Field := ⟨.TG_STAT, 1, 1⟩
def TG_STAT_ARMED : Field := ⟨.TG_STAT, 0, 0⟩
def DP_CFG_FILLBIN : Field := ⟨.DP_CFG, 31, 24⟩
def DP_CFG_CROP : Field := ⟨.DP_CFG, 17, 16⟩
def DP_CFG_AX : Field := ⟨.DP_CFG, 12, 8⟩
def DP_CFG_Q : Field := ⟨.DP_CFG, 7, 7⟩
def DP_CFG_NZ : Field := ⟨.DP_CFG, 6, 5⟩
def DP_CFG_START : Field := ⟨.DP_CFG, 4, 3⟩
def DP_CFG_MODE : Field := ⟨.DP_CFG, 1, 1⟩
def DP_CFG_EN : Field := ⟨.DP_CFG, 0, 0⟩
def DP_GEOM_VCOL : Field := ⟨.DP_GEOM, 31, 12⟩
def DP_GEOM_VP : Field := ⟨.DP_GEOM, 9, 0⟩
def DP_SENS_LVL_POL : Field := ⟨.DP_SENS, 14, 14⟩
def DP_SENS_LVL_EN : Field := ⟨.DP_SENS, 13, 13⟩
def DP_SENS_LVL_FB : Field := ⟨.DP_SENS, 12, 8⟩
def DP_SENS_OUT_EN : Field := ⟨.DP_SENS, 6, 6⟩
def DP_SENS_OUT_ZC : Field := ⟨.DP_SENS, 5, 4⟩
def DP_SENS_IN_ZC : Field := ⟨.DP_SENS, 1, 0⟩
def DP_OUTOFS_OFS : Field := ⟨.DP_OUTOFS, 19, 0⟩
def DP_PRED_LO_DEPTH : Field := ⟨.DP_PRED_LO, 19, 0⟩
def DP_PRED_HI_DEPTH : Field := ⟨.DP_PRED_HI, 19, 0⟩
def DP_BIASCFG_BLIM : Field := ⟨.DP_BIASCFG, 31, 16⟩
def DP_BIASCFG_BK : Field := ⟨.DP_BIASCFG, 3, 0⟩
def DP_FILL_FILL : Field := ⟨.DP_FILL, 19, 0⟩
def DP_HEAT_EN : Field := ⟨.DP_HEAT, 6, 6⟩
def DP_HEAT_POL : Field := ⟨.DP_HEAT, 5, 5⟩
def DP_HEAT_FB : Field := ⟨.DP_HEAT, 4, 0⟩
def DP_CTRL_CCLR : Field := ⟨.DP_CTRL, 3, 3⟩
def DP_CTRL_BCLR : Field := ⟨.DP_CTRL, 2, 2⟩
def DP_CTRL_UNLOAD : Field := ⟨.DP_CTRL, 1, 1⟩
def DP_CTRL_FULL : Field := ⟨.DP_CTRL, 0, 0⟩
def DP_STAT_REJ : Field := ⟨.DP_STAT, 15, 12⟩
def DP_STAT_ZLOST : Field := ⟨.DP_STAT, 11, 8⟩
def DP_STAT_BATCH_DONE : Field := ⟨.DP_STAT, 6, 6⟩
def DP_STAT_LOCKOUT : Field := ⟨.DP_STAT, 5, 5⟩
def DP_STAT_SEEDWIN : Field := ⟨.DP_STAT, 4, 4⟩
def DP_STAT_REV : Field := ⟨.DP_STAT, 3, 3⟩
def DP_STAT_STATE : Field := ⟨.DP_STAT, 2, 0⟩
def DP_EVT_LOCKOUT : Field := ⟨.DP_EVT, 9, 9⟩
def DP_EVT_INPUT_OVER : Field := ⟨.DP_EVT, 8, 8⟩
def DP_EVT_BIAS_LIM : Field := ⟨.DP_EVT, 7, 7⟩
def DP_EVT_ZONE_LOST : Field := ⟨.DP_EVT, 6, 6⟩
def DP_EVT_BATCH_DONE : Field := ⟨.DP_EVT, 5, 5⟩
def DP_EVT_FILL_DONE : Field := ⟨.DP_EVT, 4, 4⟩
def DP_EVT_REV : Field := ⟨.DP_EVT, 3, 3⟩
def DP_EVT_OUT_NONE : Field := ⟨.DP_EVT, 2, 2⟩
def DP_EVT_INLET_NONE : Field := ⟨.DP_EVT, 1, 1⟩
def DP_EVT_MASK_MASK : Field := ⟨.DP_EVT_MASK, 9, 0⟩
def DP_ZCFG_START : Field := ⟨.DP_ZCFG, 31, 12⟩
def DP_ZCFG_RHGC : Field := ⟨.DP_ZCFG, 11, 7⟩
def DP_ZCFG_RHMODE : Field := ⟨.DP_ZCFG, 6, 5⟩
def DP_ZCFG_TPC : Field := ⟨.DP_ZCFG, 4, 0⟩
def DP_PARC_TOP : Field := ⟨.DP_PARC, 25, 16⟩
def DP_PARC_COUNT : Field := ⟨.DP_PARC, 10, 0⟩
def DP_CNT_RECORDS : Field := ⟨.DP_CNT, 31, 16⟩
def DP_CNT_NOMEAS : Field := ⟨.DP_CNT, 15, 0⟩
def DP_AMB_EN : Field := ⟨.DP_AMB, 15, 15⟩
def DP_AMB_RHGC : Field := ⟨.DP_AMB, 12, 8⟩
def DP_AMB_TPC : Field := ⟨.DP_AMB, 4, 0⟩
def DP_SE_TO_TO : Field := ⟨.DP_SE_TO, 15, 0⟩
def DP_KC_REQ_REQ : Field := ⟨.DP_KC_REQ, 7, 0⟩
def DP_KC_CFG_LS : Field := ⟨.DP_KC_CFG, 12, 8⟩
def DP_KC_CFG_BIN : Field := ⟨.DP_KC_CFG, 6, 4⟩
def DP_KC_CFG_SRC : Field := ⟨.DP_KC_CFG, 1, 1⟩
def DP_KC_CFG_EN : Field := ⟨.DP_KC_CFG, 0, 0⟩
def DP_KC_PH_PH_OFF : Field := ⟨.DP_KC_PH, 31, 16⟩
def DP_KC_PH_PH_ON : Field := ⟨.DP_KC_PH, 15, 0⟩
def DP_KC_STAT_CLOSE_PH : Field := ⟨.DP_KC_STAT, 31, 16⟩
def DP_KC_STAT_REJ : Field := ⟨.DP_KC_STAT, 7, 4⟩
def DP_KC_STAT_NOCONF : Field := ⟨.DP_KC_STAT, 3, 3⟩
def DP_KC_STAT_UNTIMED : Field := ⟨.DP_KC_STAT, 2, 2⟩
def DP_KC_STAT_PEND : Field := ⟨.DP_KC_STAT, 1, 1⟩
def DP_KC_STAT_WANT : Field := ⟨.DP_KC_STAT, 0, 0⟩
def DP_KC_CNT_SW : Field := ⟨.DP_KC_CNT, 31, 16⟩
def DP_KC_CNT_UNT : Field := ⟨.DP_KC_CNT, 15, 0⟩
def DP_SE_CFG_BIN : Field := ⟨.DP_SE_CFG, 30, 28⟩
def DP_SE_CFG_BE : Field := ⟨.DP_SE_CFG, 25, 25⟩
def DP_SE_CFG_SIGNED : Field := ⟨.DP_SE_CFG, 24, 24⟩
def DP_SE_CFG_LEN : Field := ⟨.DP_SE_CFG, 23, 22⟩
def DP_SE_CFG_OFS : Field := ⟨.DP_SE_CFG, 21, 16⟩
def DP_SE_CFG_POLL : Field := ⟨.DP_SE_CFG, 13, 8⟩
def DP_SE_CFG_SB : Field := ⟨.DP_SE_CFG, 2, 1⟩
def DP_SE_CFG_EN : Field := ⟨.DP_SE_CFG, 0, 0⟩
def DP_AE_CFG_MIN_OFF : Field := ⟨.DP_AE_CFG, 23, 16⟩
def DP_AE_CFG_MIN_ON : Field := ⟨.DP_AE_CFG, 15, 8⟩
def DP_AE_CFG_CROP : Field := ⟨.DP_AE_CFG, 3, 2⟩
def DP_AE_CFG_HOT_FORCE : Field := ⟨.DP_AE_CFG, 1, 1⟩
def DP_AE_CFG_EN : Field := ⟨.DP_AE_CFG, 0, 0⟩
def DP_AE_LIM_ALARM : Field := ⟨.DP_AE_LIM, 31, 24⟩
def DP_AE_LIM_RH_MAX : Field := ⟨.DP_AE_LIM, 23, 16⟩
def DP_AE_LIM_DT_OFF : Field := ⟨.DP_AE_LIM, 15, 8⟩
def DP_AE_LIM_DT_ON : Field := ⟨.DP_AE_LIM, 7, 0⟩
def DP_AE_ME_ME_HI : Field := ⟨.DP_AE_ME, 31, 16⟩
def DP_AE_ME_ME_LO : Field := ⟨.DP_AE_ME, 15, 0⟩
def DP_AE_STAT_NSENS : Field := ⟨.DP_AE_STAT, 15, 8⟩
def DP_AE_STAT_NODATA : Field := ⟨.DP_AE_STAT, 2, 0⟩
def CAN_CFG_TERM : Field := ⟨.CAN_CFG, 11, 11⟩
def CAN_CFG_TXECHO : Field := ⟨.CAN_CFG, 10, 10⟩
def CAN_CFG_FD_EN : Field := ⟨.CAN_CFG, 9, 9⟩
def CAN_CFG_MODE : Field := ⟨.CAN_CFG, 5, 4⟩
def CAN_CFG_EN : Field := ⟨.CAN_CFG, 0, 0⟩
def CAN_NBT_NSJW : Field := ⟨.CAN_NBT, 30, 24⟩
def CAN_NBT_NSEG1 : Field := ⟨.CAN_NBT, 23, 16⟩
def CAN_NBT_NSEG2 : Field := ⟨.CAN_NBT, 14, 8⟩
def CAN_NBT_NBRP : Field := ⟨.CAN_NBT, 4, 0⟩
def CAN_DBT_DSJW : Field := ⟨.CAN_DBT, 27, 24⟩
def CAN_DBT_DSEG1 : Field := ⟨.CAN_DBT, 20, 16⟩
def CAN_DBT_DSEG2 : Field := ⟨.CAN_DBT, 11, 8⟩
def CAN_DBT_DBRP : Field := ⟨.CAN_DBT, 4, 0⟩
def CAN_TDC_TDC_EN : Field := ⟨.CAN_TDC, 15, 15⟩
def CAN_TDC_TDCO : Field := ⟨.CAN_TDC, 14, 8⟩
def CAN_TDC_TDCF : Field := ⟨.CAN_TDC, 6, 0⟩
def CAN_CTRL_CCLR : Field := ⟨.CAN_CTRL, 2, 2⟩
def CAN_CTRL_FLUSHB : Field := ⟨.CAN_CTRL, 1, 1⟩
def CAN_CTRL_FLUSHA : Field := ⟨.CAN_CTRL, 0, 0⟩
def CAN_STAT_REJ : Field := ⟨.CAN_STAT, 31, 28⟩
def CAN_STAT_STATE : Field := ⟨.CAN_STAT, 18, 16⟩
def CAN_STAT_EWARN : Field := ⟨.CAN_STAT, 8, 8⟩
def CAN_STAT_ACT : Field := ⟨.CAN_STAT, 1, 0⟩
def CAN_EVT_RX : Field := ⟨.CAN_EVT, 11, 11⟩
def CAN_EVT_TX_DONE : Field := ⟨.CAN_EVT, 10, 10⟩
def CAN_EVT_TX_BAD : Field := ⟨.CAN_EVT, 9, 9⟩
def CAN_EVT_RX_DROP : Field := ⟨.CAN_EVT, 8, 8⟩
def CAN_EVT_PROTO : Field := ⟨.CAN_EVT, 6, 6⟩
def CAN_EVT_TXD_TO : Field := ⟨.CAN_EVT, 5, 5⟩
def CAN_EVT_ID_COLL : Field := ⟨.CAN_EVT, 4, 4⟩
def CAN_EVT_BUSON : Field := ⟨.CAN_EVT, 3, 3⟩
def CAN_EVT_BUSOFF : Field := ⟨.CAN_EVT, 2, 2⟩
def CAN_EVT_PASSIVE : Field := ⟨.CAN_EVT, 1, 1⟩
def CAN_EVT_EWARN : Field := ⟨.CAN_EVT, 0, 0⟩
def CAN_EVT_MASK_MASK : Field := ⟨.CAN_EVT_MASK, 11, 0⟩
def CAN_ERR_TEC : Field := ⟨.CAN_ERR, 24, 16⟩
def CAN_ERR_REC : Field := ⟨.CAN_ERR, 15, 8⟩
def CAN_ERR_LEC_D : Field := ⟨.CAN_ERR, 7, 4⟩
def CAN_ERR_LEC_N : Field := ⟨.CAN_ERR, 3, 0⟩
def CAN_TDCR_DELAY : Field := ⟨.CAN_TDCR, 6, 0⟩
def CAN_CNT_TX_TXBAD : Field := ⟨.CAN_CNT_TX, 31, 24⟩
def CAN_CNT_TX_TX : Field := ⟨.CAN_CNT_TX, 23, 0⟩
def CAN_CNT_ERR_RXDROP : Field := ⟨.CAN_CNT_ERR, 31, 16⟩
def CAN_CNT_ERR_BUSOFF : Field := ⟨.CAN_CNT_ERR, 15, 8⟩
def CAN_CNT_ERR_COLL : Field := ⟨.CAN_CNT_ERR, 7, 0⟩
def CAN_COLL_ID_IDE : Field := ⟨.CAN_COLL_ID, 31, 31⟩
def CAN_COLL_ID_ID : Field := ⟨.CAN_COLL_ID, 28, 0⟩
def CAN_STAMP_AX_AX : Field := ⟨.CAN_STAMP_AX, 4, 0⟩
def SB_CFG_TERM : Field := ⟨.SB_CFG, 4, 4⟩
def SB_CFG_FMT : Field := ⟨.SB_CFG, 3, 2⟩
def SB_CFG_EN : Field := ⟨.SB_CFG, 0, 0⟩
def SB_BAUD_DIV : Field := ⟨.SB_BAUD, 15, 0⟩
def SB_TIME_TO : Field := ⟨.SB_TIME, 31, 16⟩
def SB_TIME_GAP : Field := ⟨.SB_TIME, 15, 8⟩
def SB_TIME_MIN_GAP : Field := ⟨.SB_TIME, 7, 0⟩
def SB_CTRL_CCLR : Field := ⟨.SB_CTRL, 0, 0⟩
def SB_STAT_REJ : Field := ⟨.SB_STAT, 31, 28⟩
def SB_STAT_DRIVING : Field := ⟨.SB_STAT, 9, 9⟩
def SB_STAT_BUSY : Field := ⟨.SB_STAT, 8, 8⟩
def SB_STAT_ENTRY : Field := ⟨.SB_STAT, 5, 0⟩
def SB_EVT_DONE : Field := ⟨.SB_EVT, 7, 7⟩
def SB_EVT_SKIP : Field := ⟨.SB_EVT, 6, 6⟩
def SB_EVT_STRAY : Field := ⟨.SB_EVT, 5, 5⟩
def SB_EVT_LONG : Field := ⟨.SB_EVT, 4, 4⟩
def SB_EVT_SHORT : Field := ⟨.SB_EVT, 3, 3⟩
def SB_EVT_FRAME : Field := ⟨.SB_EVT, 2, 2⟩
def SB_EVT_CRC : Field := ⟨.SB_EVT, 1, 1⟩
def SB_EVT_TIMEOUT : Field := ⟨.SB_EVT, 0, 0⟩
def SB_EVT_MASK_MASK : Field := ⟨.SB_EVT_MASK, 7, 0⟩
def SB_CNT_OK : Field := ⟨.SB_CNT, 31, 16⟩
def SB_CNT_ERR : Field := ⟨.SB_CNT, 15, 0⟩
def SB_CNT2_STRAY : Field := ⟨.SB_CNT2, 31, 16⟩
def SB_CNT2_SKIP : Field := ⟨.SB_CNT2, 15, 0⟩
def SB_PE_CFG_PERIOD : Field := ⟨.SB_PE_CFG, 31, 16⟩
def SB_PE_CFG_RLEN : Field := ⟨.SB_PE_CFG, 15, 8⟩
def SB_PE_CFG_QLEN : Field := ⟨.SB_PE_CFG, 7, 4⟩
def SB_PE_CFG_CRC_EN : Field := ⟨.SB_PE_CFG, 3, 3⟩
def SB_PE_CFG_END : Field := ⟨.SB_PE_CFG, 2, 2⟩
def SB_PE_CFG_EN : Field := ⟨.SB_PE_CFG, 0, 0⟩
def ER_RTE_B3 : Field := ⟨.ER_RTE, 31, 24⟩
def ER_RTE_B2 : Field := ⟨.ER_RTE, 23, 16⟩
def ER_RTE_B1 : Field := ⟨.ER_RTE, 15, 8⟩
def ER_RTE_B0 : Field := ⟨.ER_RTE, 7, 0⟩
def ER_INTCFG_OD : Field := ⟨.ER_INTCFG, 15, 8⟩
def ER_INTCFG_POL : Field := ⟨.ER_INTCFG, 7, 0⟩
def ER_INTSTAT_ACTIVE : Field := ⟨.ER_INTSTAT, 7, 0⟩
def ER_CLAIM_NONE : Field := ⟨.ER_CLAIM, 8, 8⟩
def ER_CLAIM_EVT : Field := ⟨.ER_CLAIM, 7, 0⟩
def ER_HSMASK_SESS : Field := ⟨.ER_HSMASK, 3, 0⟩
def Q_BASE_BASE : Field := ⟨.Q_BASE, 31, 4⟩
def Q_GEOM_ESIZE : Field := ⟨.Q_GEOM, 31, 24⟩
def Q_GEOM_LOG2N : Field := ⟨.Q_GEOM, 19, 16⟩
def Q_GEOM_POLICY : Field := ⟨.Q_GEOM, 13, 12⟩
def Q_GEOM_OWNER : Field := ⟨.Q_GEOM, 10, 8⟩
def Q_GEOM_EN : Field := ⟨.Q_GEOM, 0, 0⟩
def Q_HEAD_INDEX : Field := ⟨.Q_HEAD, 15, 0⟩
def Q_TAIL_INDEX : Field := ⟨.Q_TAIL, 15, 0⟩
def Q_WMARK_WMARK : Field := ⟨.Q_WMARK, 15, 0⟩
def Q_STAT_FILL : Field := ⟨.Q_STAT, 31, 16⟩
def Q_STAT_REJ : Field := ⟨.Q_STAT, 15, 12⟩
def Q_STAT_OVF : Field := ⟨.Q_STAT, 2, 2⟩
def Q_STAT_FULL : Field := ⟨.Q_STAT, 1, 1⟩
def Q_STAT_EMPTY : Field := ⟨.Q_STAT, 0, 0⟩
def Q_CNT_OVF : Field := ⟨.Q_CNT, 31, 16⟩
def Q_CNT_ERR : Field := ⟨.Q_CNT, 15, 0⟩
def Q_CTRL_FLUSH : Field := ⟨.Q_CTRL, 1, 1⟩
def Q_CTRL_CCLR : Field := ⟨.Q_CTRL, 0, 0⟩
def Q_EVT0_OVF : Field := ⟨.Q_EVT0, 27, 16⟩
def Q_EVT0_WM : Field := ⟨.Q_EVT0, 11, 0⟩
def Q_EVT1_EMPTY : Field := ⟨.Q_EVT1, 27, 16⟩
def Q_EVT1_ERR : Field := ⟨.Q_EVT1, 11, 0⟩
def Q_EVT_MASK0_OVF : Field := ⟨.Q_EVT_MASK0, 27, 16⟩
def Q_EVT_MASK0_WM : Field := ⟨.Q_EVT_MASK0, 11, 0⟩
def Q_EVT_MASK1_EMPTY : Field := ⟨.Q_EVT_MASK1, 27, 16⟩
def Q_EVT_MASK1_ERR : Field := ⟨.Q_EVT_MASK1, 11, 0⟩
def HL_PCFG_ICMP_EN : Field := ⟨.HL_PCFG, 2, 2⟩
def HL_PCFG_ROLE : Field := ⟨.HL_PCFG, 1, 1⟩
def HL_PCFG_EN : Field := ⟨.HL_PCFG, 0, 0⟩
def HL_UDP_PORT : Field := ⟨.HL_UDP, 15, 0⟩
def HL_MAC_HI_MAC : Field := ⟨.HL_MAC_HI, 15, 0⟩
def HL_PSTAT_SQI : Field := ⟨.HL_PSTAT, 18, 16⟩
def HL_PSTAT_LINK : Field := ⟨.HL_PSTAT, 0, 0⟩
def HL_PCNT_DROP : Field := ⟨.HL_PCNT, 31, 16⟩
def HL_PCNT_RX : Field := ⟨.HL_PCNT, 15, 0⟩
def HL_SPI_CFG_EN : Field := ⟨.HL_SPI_CFG, 0, 0⟩
def HL_SPI_STAT_INDEX : Field := ⟨.HL_SPI_STAT, 31, 16⟩
def HL_SPI_STAT_WSEQ : Field := ⟨.HL_SPI_STAT, 15, 8⟩
def HL_SPI_STAT_RESULT : Field := ⟨.HL_SPI_STAT, 7, 0⟩
def HL_SPI_CNT_BAD : Field := ⟨.HL_SPI_CNT, 31, 16⟩
def HL_SPI_CNT_FRAMES : Field := ⟨.HL_SPI_CNT, 15, 0⟩
def HL_SCFG_SRTO : Field := ⟨.HL_SCFG, 23, 16⟩
def HL_SCFG_STREAM_EN : Field := ⟨.HL_SCFG, 2, 2⟩
def HL_SCFG_PORT : Field := ⟨.HL_SCFG, 1, 1⟩
def HL_SCFG_EN : Field := ⟨.HL_SCFG, 0, 0⟩
def HL_SPORT_PORT : Field := ⟨.HL_SPORT, 15, 0⟩
def HL_SSTAT_OUT : Field := ⟨.HL_SSTAT, 2, 2⟩
def HL_SSTAT_FROZEN : Field := ⟨.HL_SSTAT, 1, 1⟩
def HL_SSTAT_BUSY : Field := ⟨.HL_SSTAT, 0, 0⟩
def HL_SCNT_BAD : Field := ⟨.HL_SCNT, 31, 24⟩
def HL_SCNT_AUTH : Field := ⟨.HL_SCNT, 23, 16⟩
def HL_SCNT_STALE : Field := ⟨.HL_SCNT, 15, 8⟩
def HL_SCNT_DUP : Field := ⟨.HL_SCNT, 7, 0⟩
def HC_RUN_RELOAD : Field := ⟨.HC_RUN, 1, 1⟩
def HC_RUN_RUN : Field := ⟨.HC_RUN, 0, 0⟩
def HC_CFG_TRAP_HALT : Field := ⟨.HC_CFG, 1, 1⟩
def HC_CFG_AUTOSTART : Field := ⟨.HC_CFG, 0, 0⟩
def HC_STAT_LOADING : Field := ⟨.HC_STAT, 3, 3⟩
def HC_STAT_STATE : Field := ⟨.HC_STAT, 2, 0⟩
def HC_WDT_TO : Field := ⟨.HC_WDT, 15, 0⟩
def HC_KICK_KICK : Field := ⟨.HC_KICK, 0, 0⟩
def MOD_ID_PART : Field := ⟨.MOD_ID, 31, 16⟩
def MOD_ID_GRADE : Field := ⟨.MOD_ID, 15, 15⟩
def MOD_ID_REV : Field := ⟨.MOD_ID, 7, 0⟩
def MOD_CTRL_RMODE : Field := ⟨.MOD_CTRL, 13, 12⟩
def MOD_CTRL_RESET : Field := ⟨.MOD_CTRL, 8, 8⟩
def MOD_CTRL_RELEASE : Field := ⟨.MOD_CTRL, 0, 0⟩
def MOD_STAT_BOOT : Field := ⟨.MOD_STAT, 31, 28⟩
def MOD_STAT_SLOT : Field := ⟨.MOD_STAT, 27, 27⟩
def MOD_STAT_RELEASED : Field := ⟨.MOD_STAT, 26, 26⟩
def MOD_STAT_DUST : Field := ⟨.MOD_STAT, 25, 25⟩
def MOD_STAT_HALT : Field := ⟨.MOD_STAT, 24, 24⟩
def MOD_STAT_RMODE : Field := ⟨.MOD_STAT, 23, 22⟩
def MOD_STAT_RLS_BLOCK : Field := ⟨.MOD_STAT, 20, 16⟩
def MOD_RST_CAUSE_COUNT : Field := ⟨.MOD_RST_CAUSE, 31, 16⟩
def MOD_RST_CAUSE_CAUSE : Field := ⟨.MOD_RST_CAUSE, 6, 0⟩
def MOD_FAULT_PROMISE : Field := ⟨.MOD_FAULT, 31, 31⟩
def MOD_FAULT_REACT : Field := ⟨.MOD_FAULT, 5, 0⟩
def SUP_STAT_DIE_HB : Field := ⟨.SUP_STAT, 8, 5⟩
def SUP_STAT_MRAM_OK : Field := ⟨.SUP_STAT, 4, 4⟩
def SUP_STAT_RAILS_OK : Field := ⟨.SUP_STAT, 3, 3⟩
def SUP_STAT_VBAT_OK : Field := ⟨.SUP_STAT, 2, 2⟩
def SUP_STAT_XTAL_OK : Field := ⟨.SUP_STAT, 1, 1⟩
def SUP_STAT_PLL_LOCK : Field := ⟨.SUP_STAT, 0, 0⟩
def SUP_VBATL_MV : Field := ⟨.SUP_VBATL, 15, 0⟩
def SUP_CLR_HBCLR : Field := ⟨.SUP_CLR, 0, 0⟩
def MM_CMD_SLOT : Field := ⟨.MM_CMD, 8, 8⟩
def MM_CMD_LAST : Field := ⟨.MM_CMD, 4, 4⟩
def MM_CMD_CMD : Field := ⟨.MM_CMD, 1, 0⟩
def MM_STAT_OPEN_SLOT : Field := ⟨.MM_STAT, 7, 7⟩
def MM_STAT_OPEN : Field := ⟨.MM_STAT, 6, 6⟩
def MM_STAT_B_OK : Field := ⟨.MM_STAT, 5, 5⟩
def MM_STAT_A_OK : Field := ⟨.MM_STAT, 4, 4⟩
def MM_STAT_RESULT : Field := ⟨.MM_STAT, 3, 1⟩
def MM_STAT_BUSY : Field := ⟨.MM_STAT, 0, 0⟩
def MM_ECC_UNCORR : Field := ⟨.MM_ECC, 31, 16⟩
def MM_ECC_CORR : Field := ⟨.MM_ECC, 15, 0⟩
def MM_OFS_OFS : Field := ⟨.MM_OFS, 19, 0⟩
def RP_CFG_QMASK : Field := ⟨.RP_CFG, 3, 0⟩
def RP_CTRL_GO : Field := ⟨.RP_CTRL, 0, 0⟩
def RP_STAT_REJ : Field := ⟨.RP_STAT, 31, 28⟩
def RP_STAT_STATE : Field := ⟨.RP_STAT, 2, 0⟩
def RP_EVT_END : Field := ⟨.RP_EVT, 4, 4⟩
def RP_EVT_SHADOW_FULL : Field := ⟨.RP_EVT, 3, 3⟩
def RP_EVT_REFUSED : Field := ⟨.RP_EVT, 2, 2⟩
def RP_EVT_LOSS : Field := ⟨.RP_EVT, 1, 1⟩
def RP_EVT_UNDERRUN : Field := ⟨.RP_EVT, 0, 0⟩
def RP_EVT_MASK_MASK : Field := ⟨.RP_EVT_MASK, 4, 0⟩
def RP_REC_BASE_BASE : Field := ⟨.RP_REC_BASE, 31, 7⟩
def RP_REC_GEOM_LOG2N : Field := ⟨.RP_REC_GEOM, 3, 0⟩
def RP_REC_HEAD_INDEX : Field := ⟨.RP_REC_HEAD, 15, 0⟩
def RP_REC_TAIL_INDEX : Field := ⟨.RP_REC_TAIL, 15, 0⟩
def RP_CNT_LOST : Field := ⟨.RP_CNT, 31, 16⟩
def RP_CNT_LATE : Field := ⟨.RP_CNT, 15, 0⟩
def DG_CFG_EN : Field := ⟨.DG_CFG, 0, 0⟩
def DG_CTRL_MRST : Field := ⟨.DG_CTRL, 2, 2⟩
def DG_CTRL_RESUME : Field := ⟨.DG_CTRL, 1, 1⟩
def DG_CTRL_HALT : Field := ⟨.DG_CTRL, 0, 0⟩
def DG_STAT_ATTACHED : Field := ⟨.DG_STAT, 1, 1⟩
def DG_STAT_HALT : Field := ⟨.DG_STAT, 0, 0⟩

/-- One row of a page's register list: `n` instances from offset `off`, `stride` bytes apart; on the row's pages
`page + j` they are the instances `base + j * per + i`. -/
structure LayRow where
  page0 : Nat
  page1 : Nat
  off : Nat
  stride : Nat
  n : Nat
  reg : Reg
  per : Nat
  base : Nat
deriving DecidableEq, Repr

def layoutPR : List LayRow := [
  ⟨0x01, 0x01, 0x040, 4, 1, .PR_OWNER, 0, 0⟩,
  ⟨0x01, 0x01, 0x044, 4, 1, .PR_FROZEN, 0, 0⟩,
  ⟨0x01, 0x01, 0x048, 4, 1, .PR_UNFREEZE, 0, 0⟩,
  ⟨0x01, 0x01, 0x04C, 4, 1, .PR_VIOL_CNT, 0, 0⟩,
  ⟨0x01, 0x01, 0x050, 4, 1, .PR_VLOG_ADDR, 0, 0⟩,
  ⟨0x01, 0x01, 0x054, 4, 1, .PR_VLOG_INFO, 0, 0⟩,
  ⟨0x01, 0x01, 0x058, 4, 1, .PR_VLOG_TIME_LO, 0, 0⟩,
  ⟨0x01, 0x01, 0x05C, 4, 1, .PR_VLOG_TIME_HI, 0, 0⟩,
  ⟨0x01, 0x01, 0x060, 4, 1, .PR_GCLR, 0, 0⟩,
  ⟨0x01, 0x01, 0x080, 12, 8, .PR_MEM_BASE, 0, 0⟩,
  ⟨0x01, 0x01, 0x084, 12, 8, .PR_MEM_LIM, 0, 0⟩,
  ⟨0x01, 0x01, 0x088, 12, 8, .PR_MEM_ACC, 0, 0⟩,
  ⟨0x01, 0x01, 0x200, 4, 128, .PR_PAGE_ACC, 0, 0⟩]
def layoutAX : List LayRow := [
  ⟨0x04, 0x07, 0x040, 4, 1, .AX_PG_TIME_LO, 1, 0⟩,
  ⟨0x04, 0x07, 0x044, 4, 1, .AX_PG_TIME_HI, 1, 0⟩,
  ⟨0x04, 0x04, 0x048, 4, 1, .AX_YAW_CFG, 0, 0⟩,
  ⟨0x04, 0x04, 0x04C, 4, 1, .AX_YAW_TRACK, 0, 0⟩,
  ⟨0x04, 0x04, 0x050, 4, 1, .AX_YAW_CAN, 0, 0⟩,
  ⟨0x04, 0x04, 0x054, 4, 1, .AX_YAW_CANID, 0, 0⟩,
  ⟨0x04, 0x04, 0x058, 4, 1, .AX_YAW_CANK, 0, 0⟩,
  ⟨0x04, 0x04, 0x05C, 4, 1, .AX_YAW_TO, 0, 0⟩,
  ⟨0x04, 0x04, 0x060, 4, 1, .AX_YAW, 0, 0⟩,
  ⟨0x04, 0x04, 0x064, 4, 1, .AX_YAW_STAT, 0, 0⟩,
  ⟨0x04, 0x07, 0x080, 96, 8, .AX_CFG, 8, 0⟩,
  ⟨0x04, 0x07, 0x084, 96, 8, .AX_SRC, 8, 0⟩,
  ⟨0x04, 0x07, 0x088, 96, 8, .AX_K0, 8, 0⟩,
  ⟨0x04, 0x07, 0x08C, 96, 8, .AX_K1, 8, 0⟩,
  ⟨0x04, 0x07, 0x090, 96, 8, .AX_K2, 8, 0⟩,
  ⟨0x04, 0x07, 0x094, 96, 8, .AX_PRE_LO, 8, 0⟩,
  ⟨0x04, 0x07, 0x098, 96, 8, .AX_PRE_HI, 8, 0⟩,
  ⟨0x04, 0x07, 0x09C, 96, 8, .AX_FALL, 8, 0⟩,
  ⟨0x04, 0x07, 0x0A0, 96, 8, .AX_GNSS, 8, 0⟩,
  ⟨0x04, 0x07, 0x0A4, 96, 8, .AX_APPLY, 8, 0⟩,
  ⟨0x04, 0x07, 0x0A8, 96, 8, .AX_MAINS, 8, 0⟩,
  ⟨0x04, 0x07, 0x0AC, 96, 8, .AX_STEP, 8, 0⟩,
  ⟨0x04, 0x07, 0x0B0, 96, 8, .AX_SOFT_V, 8, 0⟩,
  ⟨0x04, 0x07, 0x0B4, 96, 8, .AX_SOFT_A, 8, 0⟩,
  ⟨0x04, 0x07, 0x0B8, 96, 8, .AX_STAT, 8, 0⟩,
  ⟨0x04, 0x07, 0x0BC, 96, 8, .AX_POS_LO, 8, 0⟩,
  ⟨0x04, 0x07, 0x0C0, 96, 8, .AX_POS_HI, 8, 0⟩,
  ⟨0x04, 0x07, 0x0C4, 96, 8, .AX_VEL, 8, 0⟩,
  ⟨0x04, 0x07, 0x0C8, 96, 8, .AX_ACC, 8, 0⟩,
  ⟨0x04, 0x07, 0x0CC, 96, 8, .AX_CORR_W, 8, 0⟩,
  ⟨0x04, 0x07, 0x0D0, 96, 8, .AX_CORR_R, 8, 0⟩,
  ⟨0x04, 0x07, 0x0D4, 96, 8, .AX_CNT, 8, 0⟩,
  ⟨0x04, 0x07, 0x0D8, 96, 8, .AX_GNSS_V, 8, 0⟩]
def layoutLN : List LayRow := [
  ⟨0x08, 0x08, 0x040, 4, 8, .LN_CMD, 0, 0⟩,
  ⟨0x08, 0x08, 0x060, 4, 8, .LN_FORCE, 0, 0⟩,
  ⟨0x08, 0x08, 0x080, 4, 1, .LN_PUSH0, 0, 0⟩,
  ⟨0x08, 0x08, 0x084, 4, 1, .LN_PUSH1, 0, 0⟩,
  ⟨0x08, 0x08, 0x088, 4, 1, .LN_PUSH2, 0, 0⟩,
  ⟨0x08, 0x08, 0x08C, 4, 1, .LN_PUSH3, 0, 0⟩,
  ⟨0x08, 0x08, 0x090, 4, 1, .LN_PUSH_GO, 0, 0⟩,
  ⟨0x08, 0x08, 0x094, 4, 1, .LN_PUSH_RES, 0, 0⟩,
  ⟨0x08, 0x08, 0x098, 4, 1, .LN_CNT_FLUSH, 0, 0⟩,
  ⟨0x08, 0x08, 0x0A0, 4, 1, .LN_CNT_FIRE, 0, 0⟩,
  ⟨0x08, 0x08, 0x0A4, 4, 1, .LN_CNT_ERR, 0, 0⟩,
  ⟨0x08, 0x08, 0x0A8, 4, 1, .LN_LLOG_LANE, 0, 0⟩,
  ⟨0x08, 0x08, 0x0AC, 4, 1, .LN_LLOG_SHORT, 0, 0⟩,
  ⟨0x08, 0x08, 0x0B0, 4, 1, .LN_LLOG_TIME_LO, 0, 0⟩,
  ⟨0x08, 0x08, 0x0B4, 4, 1, .LN_LLOG_TIME_HI, 0, 0⟩,
  ⟨0x08, 0x08, 0x0C0, 4, 16, .LN_PROF, 0, 0⟩,
  ⟨0x08, 0x08, 0x100, 16, 32, .LN_TPL_CFG, 0, 0⟩,
  ⟨0x08, 0x08, 0x104, 16, 32, .LN_TPL_ID, 0, 0⟩,
  ⟨0x08, 0x08, 0x108, 16, 32, .LN_TPL_DON, 0, 0⟩,
  ⟨0x08, 0x08, 0x10C, 16, 32, .LN_TPL_DOFF, 0, 0⟩,
  ⟨0x09, 0x0C, 0x040, 12, 64, .LN_CFG, 64, 0⟩,
  ⟨0x09, 0x0C, 0x044, 12, 64, .LN_DON, 64, 0⟩,
  ⟨0x09, 0x0C, 0x048, 12, 64, .LN_DOFF, 64, 0⟩,
  ⟨0x09, 0x0C, 0x340, 4, 32, .LN_STAT, 32, 0⟩,
  ⟨0x09, 0x0C, 0x3C0, 4, 2, .LN_LATE, 2, 0⟩,
  ⟨0x09, 0x0C, 0x3C8, 4, 2, .LN_FLUSH, 2, 0⟩,
  ⟨0x0D, 0x0E, 0x040, 4, 192, .LN_RCFG, 192, 0⟩,
  ⟨0x0D, 0x0E, 0x340, 4, 6, .LN_RLATE, 6, 0⟩,
  ⟨0x0D, 0x0E, 0x360, 4, 6, .LN_RFLUSH, 6, 0⟩,
  ⟨0x0F, 0x0F, 0x040, 4, 128, .LN_RCFG, 0, 384⟩,
  ⟨0x0F, 0x0F, 0x340, 4, 4, .LN_RLATE, 0, 12⟩,
  ⟨0x0F, 0x0F, 0x360, 4, 4, .LN_RFLUSH, 0, 12⟩]
def layoutGM : List LayRow := [
  ⟨0x10, 0x10, 0x040, 4, 1, .GM_CTRL, 0, 0⟩,
  ⟨0x10, 0x10, 0x044, 4, 1, .GM_CFG, 0, 0⟩,
  ⟨0x10, 0x10, 0x048, 4, 1, .GM_WET, 0, 0⟩,
  ⟨0x10, 0x10, 0x04C, 4, 1, .GM_VREF, 0, 0⟩,
  ⟨0x10, 0x10, 0x050, 4, 1, .GM_DUTY_LIM, 0, 0⟩,
  ⟨0x10, 0x10, 0x054, 4, 1, .GM_ORG_LAT, 0, 0⟩,
  ⟨0x10, 0x10, 0x058, 4, 1, .GM_ORG_LON, 0, 0⟩,
  ⟨0x10, 0x10, 0x05C, 4, 1, .GM_ANT_X, 0, 0⟩,
  ⟨0x10, 0x10, 0x060, 4, 1, .GM_ANT_Y, 0, 0⟩,
  ⟨0x10, 0x10, 0x064, 4, 1, .GM_GNSS_CFG, 0, 0⟩,
  ⟨0x10, 0x10, 0x068, 4, 1, .GM_BLEND, 0, 0⟩,
  ⟨0x10, 0x10, 0x06C, 4, 1, .GM_FIX_TO, 0, 0⟩,
  ⟨0x10, 0x10, 0x070, 4, 1, .GM_JOB, 0, 0⟩,
  ⟨0x10, 0x10, 0x074, 4, 1, .GM_LOG, 0, 0⟩,
  ⟨0x10, 0x10, 0x078, 4, 1, .GM_STAT, 0, 0⟩,
  ⟨0x10, 0x10, 0x080, 4, 8, .GM_FIX, 0, 0⟩,
  ⟨0x10, 0x10, 0x0A0, 4, 1, .GM_FIX_GO, 0, 0⟩,
  ⟨0x10, 0x10, 0x0A4, 4, 1, .GM_FIX_RES, 0, 0⟩,
  ⟨0x10, 0x10, 0x0A8, 4, 1, .GM_IMU_CFG, 0, 0⟩,
  ⟨0x10, 0x10, 0x0AC, 4, 1, .GM_IMU_CMD, 0, 0⟩,
  ⟨0x10, 0x10, 0x0B0, 4, 1, .GM_IMU_FMT, 0, 0⟩,
  ⟨0x10, 0x10, 0x0B4, 4, 1, .GM_IMU_K, 0, 0⟩,
  ⟨0x10, 0x10, 0x0B8, 4, 1, .GM_MAP_CMD, 0, 0⟩,
  ⟨0x10, 0x10, 0x0BC, 4, 1, .GM_MAP_ARG, 0, 0⟩,
  ⟨0x10, 0x10, 0x0C0, 4, 1, .GM_MAP_SRC, 0, 0⟩,
  ⟨0x10, 0x10, 0x0D0, 4, 1, .GM_PX_LO, 0, 0⟩,
  ⟨0x10, 0x10, 0x0D4, 4, 1, .GM_PX_HI, 0, 0⟩,
  ⟨0x10, 0x10, 0x0D8, 4, 1, .GM_PY_LO, 0, 0⟩,
  ⟨0x10, 0x10, 0x0DC, 4, 1, .GM_PY_HI, 0, 0⟩,
  ⟨0x10, 0x10, 0x0E0, 4, 1, .GM_HEAD, 0, 0⟩,
  ⟨0x10, 0x10, 0x0E4, 4, 1, .GM_RESID, 0, 0⟩,
  ⟨0x10, 0x10, 0x0E8, 4, 1, .GM_MISS_TILE, 0, 0⟩,
  ⟨0x10, 0x10, 0x0EC, 4, 1, .GM_CNT_COV, 0, 0⟩,
  ⟨0x10, 0x10, 0x0F0, 4, 1, .GM_CNT_LAP, 0, 0⟩,
  ⟨0x10, 0x10, 0x0F4, 4, 1, .GM_CNT_WET, 0, 0⟩,
  ⟨0x10, 0x10, 0x0F8, 4, 1, .GM_CNT_LOST, 0, 0⟩,
  ⟨0x10, 0x10, 0x0FC, 4, 1, .GM_CNT_ERR, 0, 0⟩,
  ⟨0x10, 0x10, 0x100, 4, 8, .GM_WANT, 0, 0⟩,
  ⟨0x10, 0x10, 0x120, 4, 1, .GM_WANT_DIST, 0, 0⟩,
  ⟨0x10, 0x10, 0x140, 4, 16, .GM_ZONE, 0, 0⟩,
  ⟨0x10, 0x10, 0x180, 4, 4, .GM_FLOW_SUM, 0, 0⟩,
  ⟨0x11, 0x11, 0x040, 4, 1, .GM_APP_SEL, 0, 0⟩,
  ⟨0x11, 0x11, 0x044, 4, 1, .GM_APP_CFG, 0, 0⟩,
  ⟨0x11, 0x11, 0x048, 4, 1, .GM_APP_ARMX, 0, 0⟩,
  ⟨0x11, 0x11, 0x04C, 4, 1, .GM_APP_ARMY, 0, 0⟩,
  ⟨0x11, 0x11, 0x050, 4, 1, .GM_APP_W, 0, 0⟩,
  ⟨0x11, 0x11, 0x054, 4, 1, .GM_APP_FLOW, 0, 0⟩,
  ⟨0x11, 0x11, 0x058, 4, 1, .GM_APP_STAT, 0, 0⟩,
  ⟨0x12, 0x12, 0x040, 4, 20, .GM_DEC, 0, 0⟩,
  ⟨0x12, 0x12, 0x090, 4, 20, .GM_OPEN, 0, 0⟩,
  ⟨0x12, 0x12, 0x0E0, 4, 20, .GM_INHIB, 0, 0⟩,
  ⟨0x13, 0x13, 0x040, 4, 1, .GM_TC_STAT, 0, 0⟩,
  ⟨0x13, 0x13, 0x044, 4, 1, .GM_TC_CNT, 0, 0⟩,
  ⟨0x13, 0x13, 0x048, 4, 1, .GM_TC_EVICT, 0, 0⟩]
def layoutFB : List LayRow := [
  ⟨0x14, 0x1B, 0x040, 256, 3, .FB_CFG, 3, 0⟩,
  ⟨0x14, 0x1B, 0x044, 256, 3, .FB_FILT, 3, 0⟩,
  ⟨0x14, 0x1B, 0x048, 256, 3, .FB_OBS, 3, 0⟩,
  ⟨0x14, 0x1B, 0x04C, 256, 3, .FB_IDX, 3, 0⟩,
  ⟨0x14, 0x1B, 0x050, 256, 3, .FB_ERR_CFG, 3, 0⟩,
  ⟨0x14, 0x1B, 0x054, 256, 3, .FB_SSI, 3, 0⟩,
  ⟨0x14, 0x1B, 0x058, 256, 3, .FB_SSI2, 3, 0⟩,
  ⟨0x14, 0x1B, 0x05C, 256, 3, .FB_CMP_CFG, 3, 0⟩,
  ⟨0x14, 0x1B, 0x060, 256, 3, .FB_CMP, 3, 0⟩,
  ⟨0x14, 0x1B, 0x064, 256, 3, .FB_CMP_SPACE, 3, 0⟩,
  ⟨0x14, 0x1B, 0x068, 256, 3, .FB_CTRL, 3, 0⟩,
  ⟨0x14, 0x1B, 0x06C, 256, 3, .FB_EVT, 3, 0⟩,
  ⟨0x14, 0x1B, 0x070, 256, 3, .FB_EVT_MASK, 3, 0⟩,
  ⟨0x14, 0x1B, 0x074, 256, 3, .FB_STAT, 3, 0⟩,
  ⟨0x14, 0x1B, 0x078, 256, 3, .FB_POS, 3, 0⟩,
  ⟨0x14, 0x1B, 0x07C, 256, 3, .FB_VEL, 3, 0⟩,
  ⟨0x14, 0x1B, 0x080, 256, 3, .FB_ACC, 3, 0⟩,
  ⟨0x14, 0x1B, 0x084, 256, 3, .FB_EDGE_TIME_LO, 3, 0⟩,
  ⟨0x14, 0x1B, 0x088, 256, 3, .FB_EDGE_TIME_HI, 3, 0⟩,
  ⟨0x14, 0x1B, 0x08C, 256, 3, .FB_CMP_TIME_LO, 3, 0⟩,
  ⟨0x14, 0x1B, 0x090, 256, 3, .FB_CMP_TIME_HI, 3, 0⟩,
  ⟨0x14, 0x1B, 0x094, 256, 3, .FB_CMP_CNT, 3, 0⟩,
  ⟨0x14, 0x1B, 0x098, 256, 3, .FB_ERRCNT, 3, 0⟩,
  ⟨0x14, 0x1B, 0x09C, 256, 3, .FB_LC, 3, 0⟩,
  ⟨0x14, 0x1B, 0x0A0, 256, 3, .FB_IDX_POS, 3, 0⟩,
  ⟨0x14, 0x1B, 0x0A4, 256, 3, .FB_SSI_RAW, 3, 0⟩,
  ⟨0x14, 0x1B, 0x0A8, 256, 3, .FB_VP, 3, 0⟩,
  ⟨0x14, 0x1B, 0x340, 4, 1, .FB_PG_TIME_LO, 1, 0⟩,
  ⟨0x14, 0x1B, 0x344, 4, 1, .FB_PG_TIME_HI, 1, 0⟩]
def layoutFW : List LayRow := [
  ⟨0x1C, 0x1C, 0x040, 16, 8, .FWD_CFG, 0, 0⟩,
  ⟨0x1C, 0x1C, 0x044, 16, 8, .FWD_EMU, 0, 0⟩,
  ⟨0x1C, 0x1C, 0x048, 16, 8, .FWD_WID, 0, 0⟩,
  ⟨0x1C, 0x1C, 0x04C, 16, 8, .FWD_STAT, 0, 0⟩]
def layoutVG : List LayRow := [
  ⟨0x20, 0x2F, 0x040, 4, 1, .VG_CFG, 1, 0⟩,
  ⟨0x20, 0x2F, 0x044, 4, 1, .VG_BUDGET, 1, 0⟩,
  ⟨0x20, 0x2F, 0x048, 4, 1, .VG_TEST, 1, 0⟩,
  ⟨0x20, 0x2F, 0x04C, 4, 1, .VG_CTRL, 1, 0⟩,
  ⟨0x20, 0x2F, 0x050, 4, 1, .VG_TAMB, 1, 0⟩,
  ⟨0x20, 0x2F, 0x054, 4, 1, .VG_STAT, 1, 0⟩,
  ⟨0x20, 0x2F, 0x058, 4, 1, .VG_EVT, 1, 0⟩,
  ⟨0x20, 0x2F, 0x05C, 4, 1, .VG_EVT_MASK, 1, 0⟩,
  ⟨0x20, 0x2F, 0x060, 4, 1, .VG_VSUP, 1, 0⟩,
  ⟨0x20, 0x2F, 0x064, 4, 1, .VG_IGRP, 1, 0⟩,
  ⟨0x20, 0x2F, 0x068, 4, 1, .VG_GCNT, 1, 0⟩,
  ⟨0x20, 0x2F, 0x06C, 4, 1, .VG_DLAST, 1, 0⟩,
  ⟨0x20, 0x2F, 0x070, 4, 1, .VG_PG_TIME_LO, 1, 0⟩,
  ⟨0x20, 0x2F, 0x074, 4, 1, .VG_PG_TIME_HI, 1, 0⟩,
  ⟨0x20, 0x2F, 0x080, 96, 8, .VG_CCFG, 8, 0⟩,
  ⟨0x20, 0x2F, 0x084, 96, 8, .VG_CCUR, 8, 0⟩,
  ⟨0x20, 0x2F, 0x088, 96, 8, .VG_CPEAKT, 8, 0⟩,
  ⟨0x20, 0x2F, 0x08C, 96, 8, .VG_CDET, 8, 0⟩,
  ⟨0x20, 0x2F, 0x090, 96, 8, .VG_CTHM, 8, 0⟩,
  ⟨0x20, 0x2F, 0x094, 96, 8, .VG_CRREF, 8, 0⟩,
  ⟨0x20, 0x2F, 0x098, 96, 8, .VG_CTREF, 8, 0⟩,
  ⟨0x20, 0x2F, 0x09C, 96, 8, .VG_CCTRL, 8, 0⟩,
  ⟨0x20, 0x2F, 0x0A0, 96, 8, .VG_CSTAT, 8, 0⟩,
  ⟨0x20, 0x2F, 0x0A4, 96, 8, .VG_CI, 8, 0⟩,
  ⟨0x20, 0x2F, 0x0A8, 96, 8, .VG_CDON, 8, 0⟩,
  ⟨0x20, 0x2F, 0x0AC, 96, 8, .VG_CDOFF, 8, 0⟩,
  ⟨0x20, 0x2F, 0x0B0, 96, 8, .VG_CR, 8, 0⟩,
  ⟨0x20, 0x2F, 0x0B4, 96, 8, .VG_CT, 8, 0⟩,
  ⟨0x20, 0x2F, 0x0B8, 96, 8, .VG_CAGE, 8, 0⟩,
  ⟨0x20, 0x2F, 0x0BC, 96, 8, .VG_CCNT, 8, 0⟩,
  ⟨0x20, 0x2F, 0x0C0, 96, 8, .VG_CDUTY, 8, 0⟩,
  ⟨0x20, 0x20, 0x380, 4, 4, .VG_DIE, 0, 0⟩,
  ⟨0x20, 0x20, 0x390, 4, 1, .VG_DIESTAT, 0, 0⟩]
def layoutVS : List LayRow := [
  ⟨0x30, 0x37, 0x040, 48, 16, .VS_CFG, 16, 0⟩,
  ⟨0x30, 0x37, 0x044, 48, 16, .VS_PERIOD, 16, 0⟩,
  ⟨0x30, 0x37, 0x048, 48, 16, .VS_DUTY, 16, 0⟩,
  ⟨0x30, 0x37, 0x04C, 48, 16, .VS_PHASE, 16, 0⟩,
  ⟨0x30, 0x37, 0x050, 48, 16, .VS_AXPER, 16, 0⟩,
  ⟨0x30, 0x37, 0x054, 48, 16, .VS_ONREF, 16, 0⟩,
  ⟨0x30, 0x37, 0x058, 48, 16, .VS_CTRL, 16, 0⟩,
  ⟨0x30, 0x37, 0x05C, 48, 16, .VS_STAT, 16, 0⟩,
  ⟨0x30, 0x37, 0x060, 48, 16, .VS_ON, 16, 0⟩,
  ⟨0x30, 0x37, 0x064, 48, 16, .VS_PER_ACT, 16, 0⟩,
  ⟨0x30, 0x37, 0x068, 48, 16, .VS_CNT, 16, 0⟩,
  ⟨0x30, 0x37, 0x380, 4, 1, .VS_CLIP, 1, 0⟩,
  ⟨0x30, 0x37, 0x384, 4, 1, .VS_CLIP_MASK, 1, 0⟩]
def layoutBP : List LayRow := [
  ⟨0x38, 0x3B, 0x040, 64, 6, .BP_CFG, 6, 0⟩,
  ⟨0x38, 0x3B, 0x044, 64, 6, .BP_PERIOD, 6, 0⟩,
  ⟨0x38, 0x3B, 0x048, 64, 6, .BP_DUTY, 6, 0⟩,
  ⟨0x38, 0x3B, 0x04C, 64, 6, .BP_DT, 6, 0⟩,
  ⟨0x38, 0x3B, 0x050, 64, 6, .BP_PHASE, 6, 0⟩,
  ⟨0x38, 0x3B, 0x054, 64, 6, .BP_CTRL, 6, 0⟩,
  ⟨0x38, 0x3B, 0x058, 64, 6, .BP_STAT, 6, 0⟩,
  ⟨0x38, 0x3B, 0x05C, 64, 6, .BP_ON, 6, 0⟩,
  ⟨0x38, 0x3B, 0x060, 64, 6, .BP_PER_ACT, 6, 0⟩,
  ⟨0x38, 0x3B, 0x064, 64, 6, .BP_CNT, 6, 0⟩,
  ⟨0x38, 0x38, 0x300, 4, 8, .PG_FLT_CFG, 0, 0⟩,
  ⟨0x38, 0x38, 0x320, 4, 1, .PG_FLT_STAT, 0, 0⟩,
  ⟨0x38, 0x38, 0x324, 4, 1, .PG_FLT_CLR, 0, 0⟩,
  ⟨0x38, 0x38, 0x328, 4, 1, .PG_STAT, 0, 0⟩,
  ⟨0x38, 0x3B, 0x380, 4, 1, .BP_EVT, 1, 0⟩,
  ⟨0x38, 0x3B, 0x384, 4, 1, .BP_EVT_MASK, 1, 0⟩]
def layoutLS : List LayRow := [
  ⟨0x3C, 0x3C, 0x040, 4, 1, .LS_CMD, 0, 0⟩,
  ⟨0x3C, 0x3C, 0x044, 4, 1, .LS_PIN, 0, 0⟩,
  ⟨0x3C, 0x3C, 0x048, 4, 1, .LS_SUP_STAT, 0, 0⟩,
  ⟨0x3C, 0x3C, 0x04C, 4, 1, .LS_DIE, 0, 0⟩,
  ⟨0x3C, 0x3C, 0x050, 4, 1, .LS_GCTRL, 0, 0⟩,
  ⟨0x3C, 0x3C, 0x058, 4, 1, .LS_VSUP01, 0, 0⟩,
  ⟨0x3C, 0x3C, 0x05C, 4, 1, .LS_VSUP23, 0, 0⟩,
  ⟨0x3C, 0x3C, 0x060, 4, 4, .LS_SENSE_CFG, 0, 0⟩,
  ⟨0x3C, 0x3C, 0x070, 4, 1, .LS_ITOT, 0, 0⟩,
  ⟨0x3C, 0x3E, 0x080, 64, 8, .LS_CFG, 8, 0⟩,
  ⟨0x3C, 0x3E, 0x084, 64, 8, .LS_INR, 8, 0⟩,
  ⟨0x3C, 0x3E, 0x088, 64, 8, .LS_CTRL, 8, 0⟩,
  ⟨0x3C, 0x3E, 0x08C, 64, 8, .LS_STAT, 8, 0⟩,
  ⟨0x3C, 0x3E, 0x090, 64, 8, .LS_EVT, 8, 0⟩,
  ⟨0x3C, 0x3E, 0x094, 64, 8, .LS_EVT_MASK, 8, 0⟩,
  ⟨0x3C, 0x3E, 0x098, 64, 8, .LS_I, 8, 0⟩,
  ⟨0x3C, 0x3E, 0x09C, 64, 8, .LS_TJ, 8, 0⟩,
  ⟨0x3C, 0x3E, 0x0A0, 64, 8, .LS_CNT, 8, 0⟩,
  ⟨0x3C, 0x3E, 0x0A4, 64, 8, .LS_TLAST_LO, 8, 0⟩,
  ⟨0x3C, 0x3E, 0x0A8, 64, 8, .LS_TLAST_HI, 8, 0⟩,
  ⟨0x3C, 0x3E, 0x380, 4, 1, .LS_PG_TIME_LO, 1, 0⟩,
  ⟨0x3C, 0x3E, 0x384, 4, 1, .LS_PG_TIME_HI, 1, 0⟩]
def layoutPC : List LayRow := [
  ⟨0x40, 0x40, 0x040, 4, 1, .PC_ROT, 0, 0⟩,
  ⟨0x40, 0x40, 0x044, 4, 1, .PC_ROT_STAT, 0, 0⟩,
  ⟨0x40, 0x40, 0x048, 4, 1, .PC_REF, 0, 0⟩,
  ⟨0x40, 0x47, 0x080, 192, 4, .PC_CFG, 4, 0⟩,
  ⟨0x40, 0x47, 0x084, 192, 4, .PC_ROFS, 4, 0⟩,
  ⟨0x40, 0x47, 0x088, 192, 4, .PC_LIM_LO, 4, 0⟩,
  ⟨0x40, 0x47, 0x08C, 192, 4, .PC_LIM_HI, 4, 0⟩,
  ⟨0x40, 0x47, 0x090, 192, 4, .PC_CTRL, 4, 0⟩,
  ⟨0x40, 0x47, 0x094, 192, 4, .PC_STAT, 4, 0⟩,
  ⟨0x40, 0x47, 0x098, 192, 4, .PC_EVT, 4, 0⟩,
  ⟨0x40, 0x47, 0x09C, 192, 4, .PC_EVT_MASK, 4, 0⟩,
  ⟨0x40, 0x47, 0x0A0, 192, 4, .PC_RAW, 4, 0⟩,
  ⟨0x40, 0x47, 0x0A4, 192, 4, .PC_VAL, 4, 0⟩,
  ⟨0x40, 0x47, 0x0A8, 192, 4, .PC_FLAGS, 4, 0⟩,
  ⟨0x40, 0x47, 0x0AC, 192, 4, .PC_TIME_LO, 4, 0⟩,
  ⟨0x40, 0x47, 0x0B0, 192, 4, .PC_TIME_HI, 4, 0⟩,
  ⟨0x40, 0x47, 0x0B4, 192, 4, .PC_IEXC, 4, 0⟩,
  ⟨0x40, 0x47, 0x0B8, 192, 4, .PC_IMATCH, 4, 0⟩,
  ⟨0x40, 0x47, 0x0BC, 192, 4, .PC_CALAGE, 4, 0⟩,
  ⟨0x40, 0x47, 0x0C0, 192, 4, .PC_CNT, 4, 0⟩,
  ⟨0x40, 0x47, 0x380, 4, 1, .PC_PG_TIME_LO, 1, 0⟩,
  ⟨0x40, 0x47, 0x384, 4, 1, .PC_PG_TIME_HI, 1, 0⟩]
def layoutGC : List LayRow := [
  ⟨0x48, 0x4B, 0x080, 48, 8, .GC_CFG, 8, 0⟩,
  ⟨0x48, 0x4B, 0x084, 48, 8, .GC_GAIN, 8, 0⟩,
  ⟨0x48, 0x4B, 0x088, 48, 8, .GC_OFS, 8, 0⟩,
  ⟨0x48, 0x4B, 0x08C, 48, 8, .GC_LIM_LO, 8, 0⟩,
  ⟨0x48, 0x4B, 0x090, 48, 8, .GC_LIM_HI, 8, 0⟩,
  ⟨0x48, 0x4B, 0x094, 48, 8, .GC_STAT, 8, 0⟩,
  ⟨0x48, 0x4B, 0x098, 48, 8, .GC_EVT, 8, 0⟩,
  ⟨0x48, 0x4B, 0x09C, 48, 8, .GC_EVT_MASK, 8, 0⟩,
  ⟨0x48, 0x4B, 0x0A0, 48, 8, .GC_RAW, 8, 0⟩,
  ⟨0x48, 0x4B, 0x0A4, 48, 8, .GC_VAL, 8, 0⟩,
  ⟨0x48, 0x4B, 0x0A8, 48, 8, .GC_TIME_LO, 8, 0⟩,
  ⟨0x48, 0x4B, 0x0AC, 48, 8, .GC_TIME_HI, 8, 0⟩,
  ⟨0x48, 0x4B, 0x380, 4, 1, .GC_PG_TIME_LO, 1, 0⟩,
  ⟨0x48, 0x4B, 0x384, 4, 1, .GC_PG_TIME_HI, 1, 0⟩]
def layoutZC : List LayRow := [
  ⟨0x4C, 0x4C, 0x040, 64, 4, .ZC_CFG, 0, 0⟩,
  ⟨0x4C, 0x4C, 0x044, 64, 4, .ZC_FREQ01, 0, 0⟩,
  ⟨0x4C, 0x4C, 0x048, 64, 4, .ZC_FREQ23, 0, 0⟩,
  ⟨0x4C, 0x4C, 0x04C, 64, 4, .ZC_CSEL, 0, 0⟩,
  ⟨0x4C, 0x4C, 0x050, 64, 4, .ZC_K_RE, 0, 0⟩,
  ⟨0x4C, 0x4C, 0x054, 64, 4, .ZC_K_IM, 0, 0⟩,
  ⟨0x4C, 0x4C, 0x058, 64, 4, .ZC_Y0_RE, 0, 0⟩,
  ⟨0x4C, 0x4C, 0x05C, 64, 4, .ZC_Y0_IM, 0, 0⟩,
  ⟨0x4C, 0x4C, 0x060, 64, 4, .ZC_STAT, 0, 0⟩,
  ⟨0x4C, 0x4C, 0x064, 64, 4, .ZC_G, 0, 0⟩,
  ⟨0x4C, 0x4C, 0x068, 64, 4, .ZC_B, 0, 0⟩,
  ⟨0x4C, 0x4C, 0x06C, 64, 4, .ZC_T, 0, 0⟩,
  ⟨0x4C, 0x4C, 0x070, 64, 4, .ZC_TIME_LO, 0, 0⟩,
  ⟨0x4C, 0x4C, 0x074, 64, 4, .ZC_TIME_HI, 0, 0⟩,
  ⟨0x4C, 0x4C, 0x078, 64, 4, .ZC_EVT, 0, 0⟩,
  ⟨0x4C, 0x4C, 0x140, 32, 4, .AO_CFG, 0, 0⟩,
  ⟨0x4C, 0x4C, 0x144, 32, 4, .AO_VAL, 0, 0⟩,
  ⟨0x4C, 0x4C, 0x148, 32, 4, .AO_SAFE, 0, 0⟩,
  ⟨0x4C, 0x4C, 0x14C, 32, 4, .AO_LIM, 0, 0⟩,
  ⟨0x4C, 0x4C, 0x150, 32, 4, .AO_STAT, 0, 0⟩,
  ⟨0x4C, 0x4C, 0x154, 32, 4, .AO_CODE, 0, 0⟩,
  ⟨0x4C, 0x4C, 0x158, 32, 4, .AO_RB, 0, 0⟩,
  ⟨0x4C, 0x4C, 0x15C, 32, 4, .AO_EVT, 0, 0⟩,
  ⟨0x4C, 0x4C, 0x380, 4, 1, .ZC_PG_TIME_LO, 0, 0⟩,
  ⟨0x4C, 0x4C, 0x384, 4, 1, .ZC_PG_TIME_HI, 0, 0⟩]
def layoutLP : List LayRow := [
  ⟨0x50, 0x57, 0x040, 104, 8, .LP_CFG, 8, 0⟩,
  ⟨0x50, 0x57, 0x044, 104, 8, .LP_SRC, 8, 0⟩,
  ⟨0x50, 0x57, 0x048, 104, 8, .LP_SRC2, 8, 0⟩,
  ⟨0x50, 0x57, 0x04C, 104, 8, .LP_PERIOD, 8, 0⟩,
  ⟨0x50, 0x57, 0x050, 104, 8, .LP_SP, 8, 0⟩,
  ⟨0x50, 0x57, 0x054, 104, 8, .LP_FF, 8, 0⟩,
  ⟨0x50, 0x57, 0x058, 104, 8, .LP_YK, 8, 0⟩,
  ⟨0x50, 0x57, 0x05C, 104, 8, .LP_SPK, 8, 0⟩,
  ⟨0x50, 0x57, 0x060, 104, 8, .LP_RLIM, 8, 0⟩,
  ⟨0x50, 0x57, 0x064, 104, 8, .LP_ALIM, 8, 0⟩,
  ⟨0x50, 0x57, 0x068, 104, 8, .LP_OMIN, 8, 0⟩,
  ⟨0x50, 0x57, 0x06C, 104, 8, .LP_OMAX, 8, 0⟩,
  ⟨0x50, 0x57, 0x070, 104, 8, .LP_FRESH, 8, 0⟩,
  ⟨0x50, 0x57, 0x074, 104, 8, .LP_FROZ_DU, 8, 0⟩,
  ⟨0x50, 0x57, 0x078, 104, 8, .LP_FBVAL, 8, 0⟩,
  ⟨0x50, 0x57, 0x07C, 104, 8, .LP_SLEW, 8, 0⟩,
  ⟨0x50, 0x57, 0x080, 104, 8, .LP_CTRL, 8, 0⟩,
  ⟨0x50, 0x57, 0x084, 104, 8, .LP_STAT, 8, 0⟩,
  ⟨0x50, 0x57, 0x088, 104, 8, .LP_EVT, 8, 0⟩,
  ⟨0x50, 0x57, 0x08C, 104, 8, .LP_EVT_MASK, 8, 0⟩,
  ⟨0x50, 0x57, 0x090, 104, 8, .LP_R, 8, 0⟩,
  ⟨0x50, 0x57, 0x094, 104, 8, .LP_Y, 8, 0⟩,
  ⟨0x50, 0x57, 0x098, 104, 8, .LP_V, 8, 0⟩,
  ⟨0x50, 0x57, 0x09C, 104, 8, .LP_U, 8, 0⟩,
  ⟨0x50, 0x57, 0x0A0, 104, 8, .LP_I, 8, 0⟩,
  ⟨0x50, 0x57, 0x0A4, 104, 8, .LP_CNT, 8, 0⟩,
  ⟨0x50, 0x57, 0x380, 4, 1, .LP_BSEL, 1, 0⟩,
  ⟨0x50, 0x57, 0x384, 4, 1, .LP_KP, 1, 0⟩,
  ⟨0x50, 0x57, 0x388, 4, 1, .LP_KI, 1, 0⟩,
  ⟨0x50, 0x57, 0x38C, 4, 1, .LP_KD, 1, 0⟩,
  ⟨0x50, 0x57, 0x390, 4, 1, .LP_TF, 1, 0⟩,
  ⟨0x50, 0x57, 0x394, 4, 1, .LP_B, 1, 0⟩,
  ⟨0x50, 0x57, 0x398, 4, 1, .LP_C, 1, 0⟩,
  ⟨0x50, 0x57, 0x39C, 4, 1, .LP_KT, 1, 0⟩,
  ⟨0x50, 0x57, 0x3A0, 4, 1, .LP_KFF, 1, 0⟩,
  ⟨0x50, 0x51, 0x3A4, 4, 8, .LP_GCFG, 8, 0⟩,
  ⟨0x50, 0x51, 0x3C4, 4, 8, .LP_GSLEW, 8, 0⟩,
  ⟨0x50, 0x51, 0x3E4, 4, 1, .LP_GSTAT0, 1, 0⟩,
  ⟨0x50, 0x51, 0x3E8, 4, 1, .LP_GSTAT1, 1, 0⟩,
  ⟨0x50, 0x51, 0x3EC, 4, 1, .LP_GSWAP, 1, 0⟩,
  ⟨0x52, 0x53, 0x3A4, 32, 2, .TG_CFG, 2, 0⟩,
  ⟨0x52, 0x53, 0x3A8, 32, 2, .TG_AMP, 2, 0⟩,
  ⟨0x52, 0x53, 0x3AC, 32, 2, .TG_F0, 2, 0⟩,
  ⟨0x52, 0x53, 0x3B0, 32, 2, .TG_F1, 2, 0⟩,
  ⟨0x52, 0x53, 0x3B4, 32, 2, .TG_FSTEP, 2, 0⟩,
  ⟨0x52, 0x53, 0x3B8, 32, 2, .TG_CAP, 2, 0⟩,
  ⟨0x52, 0x53, 0x3BC, 32, 2, .TG_CTRL, 2, 0⟩,
  ⟨0x52, 0x53, 0x3C0, 32, 2, .TG_STAT, 2, 0⟩,
  ⟨0x50, 0x57, 0x3F8, 4, 1, .LP_PG_TIME_LO, 1, 0⟩,
  ⟨0x50, 0x57, 0x3FC, 4, 1, .LP_PG_TIME_HI, 1, 0⟩]
def layoutDP : List LayRow := [
  ⟨0x58, 0x5B, 0x040, 4, 1, .DP_CFG, 1, 0⟩,
  ⟨0x58, 0x5B, 0x044, 4, 1, .DP_GEOM, 1, 0⟩,
  ⟨0x58, 0x5B, 0x048, 4, 1, .DP_SENS, 1, 0⟩,
  ⟨0x58, 0x5B, 0x04C, 4, 1, .DP_OUTOFS, 1, 0⟩,
  ⟨0x58, 0x5B, 0x050, 4, 1, .DP_PRED_LO, 1, 0⟩,
  ⟨0x58, 0x5B, 0x054, 4, 1, .DP_PRED_HI, 1, 0⟩,
  ⟨0x58, 0x5B, 0x058, 4, 1, .DP_FMIN, 1, 0⟩,
  ⟨0x58, 0x5B, 0x05C, 4, 1, .DP_BIASCFG, 1, 0⟩,
  ⟨0x58, 0x5B, 0x060, 4, 1, .DP_FILL, 1, 0⟩,
  ⟨0x58, 0x5B, 0x064, 4, 1, .DP_MSEED, 1, 0⟩,
  ⟨0x58, 0x5B, 0x068, 4, 1, .DP_TARGET, 1, 0⟩,
  ⟨0x58, 0x5B, 0x06C, 4, 1, .DP_HEAT, 1, 0⟩,
  ⟨0x58, 0x5B, 0x070, 4, 1, .DP_CTRL, 1, 0⟩,
  ⟨0x58, 0x5B, 0x074, 4, 1, .DP_STAT, 1, 0⟩,
  ⟨0x58, 0x5B, 0x078, 4, 1, .DP_EVT, 1, 0⟩,
  ⟨0x58, 0x5B, 0x07C, 4, 1, .DP_EVT_MASK, 1, 0⟩,
  ⟨0x58, 0x5B, 0x080, 16, 4, .DP_ZCFG, 4, 0⟩,
  ⟨0x58, 0x5B, 0x084, 16, 4, .DP_ZRH, 4, 0⟩,
  ⟨0x58, 0x5B, 0x0C0, 4, 4, .DP_OUT, 4, 0⟩,
  ⟨0x58, 0x5B, 0x0D0, 4, 1, .DP_BIAS, 1, 0⟩,
  ⟨0x58, 0x5B, 0x0D4, 4, 1, .DP_PARC, 1, 0⟩,
  ⟨0x58, 0x5B, 0x0D8, 4, 1, .DP_CNT, 1, 0⟩,
  ⟨0x58, 0x5B, 0x0E0, 8, 4, .DP_ZME, 4, 0⟩,
  ⟨0x58, 0x5B, 0x0E4, 8, 4, .DP_ZK, 4, 0⟩,
  ⟨0x58, 0x5B, 0x100, 4, 1, .DP_PG_TIME_LO, 1, 0⟩,
  ⟨0x58, 0x5B, 0x104, 4, 1, .DP_PG_TIME_HI, 1, 0⟩]
def layoutMS : List LayRow := [
  ⟨0x5C, 0x5C, 0x040, 4, 1, .DP_AMB, 0, 0⟩,
  ⟨0x5C, 0x5C, 0x044, 4, 1, .DP_SE_TO, 0, 0⟩,
  ⟨0x5C, 0x5C, 0x048, 4, 1, .DP_KC_REQ, 0, 0⟩,
  ⟨0x5C, 0x5C, 0x060, 48, 4, .DP_CR_A, 0, 0⟩,
  ⟨0x5C, 0x5C, 0x064, 48, 4, .DP_CR_N, 0, 0⟩,
  ⟨0x5C, 0x5C, 0x068, 48, 4, .DP_CR_C, 0, 0⟩,
  ⟨0x5C, 0x5C, 0x06C, 48, 4, .DP_CR_K1, 0, 0⟩,
  ⟨0x5C, 0x5C, 0x070, 48, 4, .DP_CR_K2, 0, 0⟩,
  ⟨0x5C, 0x5C, 0x074, 48, 4, .DP_CR_TAUG, 0, 0⟩,
  ⟨0x5C, 0x5C, 0x078, 48, 4, .DP_CR_A0, 0, 0⟩,
  ⟨0x5C, 0x5C, 0x07C, 48, 4, .DP_CR_A1, 0, 0⟩,
  ⟨0x5C, 0x5C, 0x080, 48, 4, .DP_CR_A2, 0, 0⟩,
  ⟨0x5C, 0x5C, 0x084, 48, 4, .DP_CR_A3, 0, 0⟩,
  ⟨0x5C, 0x5C, 0x088, 48, 4, .DP_CR_A4, 0, 0⟩,
  ⟨0x5C, 0x5C, 0x08C, 48, 4, .DP_CR_TREF, 0, 0⟩,
  ⟨0x5C, 0x5C, 0x120, 16, 8, .DP_KC_CFG, 0, 0⟩,
  ⟨0x5C, 0x5C, 0x124, 16, 8, .DP_KC_PH, 0, 0⟩,
  ⟨0x5C, 0x5C, 0x128, 16, 8, .DP_KC_STAT, 0, 0⟩,
  ⟨0x5C, 0x5C, 0x12C, 16, 8, .DP_KC_CNT, 0, 0⟩,
  ⟨0x5C, 0x5C, 0x1A0, 8, 32, .DP_SE_CFG, 0, 0⟩,
  ⟨0x5C, 0x5C, 0x1A4, 8, 32, .DP_SE_K, 0, 0⟩,
  ⟨0x5C, 0x5C, 0x2A0, 4, 32, .DP_SE_VAL, 0, 0⟩,
  ⟨0x5C, 0x5C, 0x320, 16, 8, .DP_AE_CFG, 0, 0⟩,
  ⟨0x5C, 0x5C, 0x324, 16, 8, .DP_AE_LIM, 0, 0⟩,
  ⟨0x5C, 0x5C, 0x328, 16, 8, .DP_AE_ME, 0, 0⟩,
  ⟨0x5C, 0x5C, 0x32C, 16, 8, .DP_AE_STAT, 0, 0⟩,
  ⟨0x5C, 0x5C, 0x3A0, 4, 1, .DP_ST_TIME_LO, 0, 0⟩,
  ⟨0x5C, 0x5C, 0x3A4, 4, 1, .DP_ST_TIME_HI, 0, 0⟩]
def layoutCN : List LayRow := [
  ⟨0x60, 0x67, 0x040, 4, 1, .CAN_CFG, 1, 0⟩,
  ⟨0x60, 0x67, 0x044, 4, 1, .CAN_NBT, 1, 0⟩,
  ⟨0x60, 0x67, 0x048, 4, 1, .CAN_DBT, 1, 0⟩,
  ⟨0x60, 0x67, 0x04C, 4, 1, .CAN_TDC, 1, 0⟩,
  ⟨0x60, 0x67, 0x050, 4, 1, .CAN_CTRL, 1, 0⟩,
  ⟨0x60, 0x67, 0x054, 4, 1, .CAN_STAT, 1, 0⟩,
  ⟨0x60, 0x67, 0x058, 4, 1, .CAN_EVT, 1, 0⟩,
  ⟨0x60, 0x67, 0x05C, 4, 1, .CAN_EVT_MASK, 1, 0⟩,
  ⟨0x60, 0x67, 0x060, 4, 1, .CAN_ERR, 1, 0⟩,
  ⟨0x60, 0x67, 0x064, 4, 1, .CAN_TDCR, 1, 0⟩,
  ⟨0x60, 0x67, 0x068, 4, 1, .CAN_CNT_RX, 1, 0⟩,
  ⟨0x60, 0x67, 0x06C, 4, 1, .CAN_CNT_TX, 1, 0⟩,
  ⟨0x60, 0x67, 0x070, 4, 1, .CAN_CNT_ERR, 1, 0⟩,
  ⟨0x60, 0x67, 0x074, 4, 1, .CAN_COLL_ID, 1, 0⟩,
  ⟨0x60, 0x67, 0x078, 4, 1, .CAN_PG_TIME_LO, 1, 0⟩,
  ⟨0x60, 0x67, 0x07C, 4, 1, .CAN_PG_TIME_HI, 1, 0⟩,
  ⟨0x60, 0x60, 0x080, 4, 1, .CAN_STAMP_AX, 0, 0⟩]
def layoutSB : List LayRow := [
  ⟨0x68, 0x6B, 0x040, 4, 1, .SB_CFG, 1, 0⟩,
  ⟨0x68, 0x6B, 0x044, 4, 1, .SB_BAUD, 1, 0⟩,
  ⟨0x68, 0x6B, 0x048, 4, 1, .SB_TIME, 1, 0⟩,
  ⟨0x68, 0x6B, 0x04C, 4, 1, .SB_CTRL, 1, 0⟩,
  ⟨0x68, 0x6B, 0x050, 4, 1, .SB_TRIG0, 1, 0⟩,
  ⟨0x68, 0x6B, 0x054, 4, 1, .SB_TRIG1, 1, 0⟩,
  ⟨0x68, 0x6B, 0x058, 4, 1, .SB_STAT, 1, 0⟩,
  ⟨0x68, 0x6B, 0x05C, 4, 1, .SB_EVT, 1, 0⟩,
  ⟨0x68, 0x6B, 0x060, 4, 1, .SB_EVT_MASK, 1, 0⟩,
  ⟨0x68, 0x6B, 0x064, 4, 1, .SB_CNT, 1, 0⟩,
  ⟨0x68, 0x6B, 0x068, 4, 1, .SB_CNT2, 1, 0⟩,
  ⟨0x68, 0x6B, 0x06C, 4, 1, .SB_PG_TIME_LO, 1, 0⟩,
  ⟨0x68, 0x6B, 0x070, 4, 1, .SB_PG_TIME_HI, 1, 0⟩,
  ⟨0x68, 0x6B, 0x100, 12, 64, .SB_PE_CFG, 64, 0⟩,
  ⟨0x68, 0x6B, 0x104, 12, 64, .SB_PE_REQ0, 64, 0⟩,
  ⟨0x68, 0x6B, 0x108, 12, 64, .SB_PE_REQ1, 64, 0⟩]
def layoutER : List LayRow := [
  ⟨0x02, 0x02, 0x040, 4, 64, .ER_RTE, 0, 0⟩,
  ⟨0x02, 0x02, 0x140, 4, 8, .ER_ACT, 0, 0⟩,
  ⟨0x02, 0x02, 0x160, 4, 1, .ER_INTCFG, 0, 0⟩,
  ⟨0x02, 0x02, 0x164, 4, 1, .ER_INTSTAT, 0, 0⟩,
  ⟨0x02, 0x02, 0x168, 4, 1, .ER_CLAIM, 0, 0⟩,
  ⟨0x02, 0x02, 0x16C, 4, 1, .ER_HSMASK, 0, 0⟩]
def layoutQE : List LayRow := [
  ⟨0x6C, 0x6F, 0x040, 32, 12, .Q_BASE, 12, 0⟩,
  ⟨0x6C, 0x6F, 0x044, 32, 12, .Q_GEOM, 12, 0⟩,
  ⟨0x6C, 0x6F, 0x048, 32, 12, .Q_HEAD, 12, 0⟩,
  ⟨0x6C, 0x6F, 0x04C, 32, 12, .Q_TAIL, 12, 0⟩,
  ⟨0x6C, 0x6F, 0x050, 32, 12, .Q_WMARK, 12, 0⟩,
  ⟨0x6C, 0x6F, 0x054, 32, 12, .Q_STAT, 12, 0⟩,
  ⟨0x6C, 0x6F, 0x058, 32, 12, .Q_CNT, 12, 0⟩,
  ⟨0x6C, 0x6F, 0x05C, 32, 12, .Q_CTRL, 12, 0⟩,
  ⟨0x6C, 0x6F, 0x3C0, 4, 1, .Q_EVT0, 1, 0⟩,
  ⟨0x6C, 0x6F, 0x3C4, 4, 1, .Q_EVT1, 1, 0⟩,
  ⟨0x6C, 0x6F, 0x3C8, 4, 1, .Q_EVT_MASK0, 1, 0⟩,
  ⟨0x6C, 0x6F, 0x3CC, 4, 1, .Q_EVT_MASK1, 1, 0⟩,
  ⟨0x6C, 0x6F, 0x3D0, 4, 1, .Q_PG_TIME_LO, 1, 0⟩,
  ⟨0x6C, 0x6F, 0x3D4, 4, 1, .Q_PG_TIME_HI, 1, 0⟩]
def layoutHL : List LayRow := [
  ⟨0x70, 0x70, 0x040, 32, 2, .HL_PCFG, 0, 0⟩,
  ⟨0x70, 0x70, 0x044, 32, 2, .HL_IP, 0, 0⟩,
  ⟨0x70, 0x70, 0x048, 32, 2, .HL_MASK, 0, 0⟩,
  ⟨0x70, 0x70, 0x04C, 32, 2, .HL_UDP, 0, 0⟩,
  ⟨0x70, 0x70, 0x050, 32, 2, .HL_MAC_LO, 0, 0⟩,
  ⟨0x70, 0x70, 0x054, 32, 2, .HL_MAC_HI, 0, 0⟩,
  ⟨0x70, 0x70, 0x058, 32, 2, .HL_PSTAT, 0, 0⟩,
  ⟨0x70, 0x70, 0x05C, 32, 2, .HL_PCNT, 0, 0⟩,
  ⟨0x70, 0x70, 0x080, 4, 1, .HL_SPI_CFG, 0, 0⟩,
  ⟨0x70, 0x70, 0x084, 4, 1, .HL_SPI_STAT, 0, 0⟩,
  ⟨0x70, 0x70, 0x088, 4, 1, .HL_SPI_CNT, 0, 0⟩,
  ⟨0x70, 0x70, 0x08C, 4, 1, .HL_EPOCH, 0, 0⟩,
  ⟨0x71, 0x71, 0x040, 32, 4, .HL_SCFG, 0, 0⟩,
  ⟨0x71, 0x71, 0x044, 32, 4, .HL_SPEER, 0, 0⟩,
  ⟨0x71, 0x71, 0x048, 32, 4, .HL_SPORT, 0, 0⟩,
  ⟨0x71, 0x71, 0x04C, 32, 4, .HL_SSTAT, 0, 0⟩,
  ⟨0x71, 0x71, 0x050, 32, 4, .HL_SSEQ, 0, 0⟩,
  ⟨0x71, 0x71, 0x054, 32, 4, .HL_SSSEQ, 0, 0⟩,
  ⟨0x71, 0x71, 0x058, 32, 4, .HL_SCNT, 0, 0⟩,
  ⟨0x71, 0x71, 0x05C, 32, 4, .HL_SREQ, 0, 0⟩]
def layoutHC : List LayRow := [
  ⟨0x72, 0x73, 0x040, 4, 1, .HC_RUN, 1, 0⟩,
  ⟨0x72, 0x73, 0x044, 4, 1, .HC_CFG, 1, 0⟩,
  ⟨0x72, 0x73, 0x048, 4, 1, .HC_STAT, 1, 0⟩,
  ⟨0x72, 0x73, 0x04C, 4, 1, .HC_PC, 1, 0⟩,
  ⟨0x72, 0x73, 0x050, 4, 1, .HC_CAUSE, 1, 0⟩,
  ⟨0x72, 0x73, 0x054, 4, 1, .HC_TVAL, 1, 0⟩,
  ⟨0x72, 0x73, 0x058, 4, 1, .HC_WDT, 1, 0⟩,
  ⟨0x72, 0x73, 0x05C, 4, 1, .HC_KICK, 1, 0⟩,
  ⟨0x72, 0x73, 0x060, 4, 1, .HC_PG_TIME_LO, 1, 0⟩,
  ⟨0x72, 0x73, 0x064, 4, 1, .HC_PG_TIME_HI, 1, 0⟩]
def layoutMD : List LayRow := [
  ⟨0x00, 0x00, 0x040, 4, 1, .MOD_ID, 0, 0⟩,
  ⟨0x00, 0x00, 0x044, 4, 1, .MOD_CTRL, 0, 0⟩,
  ⟨0x00, 0x00, 0x048, 4, 1, .MOD_STAT, 0, 0⟩,
  ⟨0x00, 0x00, 0x04C, 4, 1, .MOD_RST_CAUSE, 0, 0⟩,
  ⟨0x00, 0x00, 0x050, 4, 1, .MOD_FAULT, 0, 0⟩,
  ⟨0x00, 0x00, 0x054, 4, 1, .MOD_IMG, 0, 0⟩,
  ⟨0x00, 0x00, 0x058, 4, 1, .MOD_TIME_LO, 0, 0⟩,
  ⟨0x00, 0x00, 0x05C, 4, 1, .MOD_TIME_HI, 0, 0⟩]
def layoutCS : List LayRow := [
  ⟨0x03, 0x03, 0x040, 4, 1, .SUP_STAT, 0, 0⟩,
  ⟨0x03, 0x03, 0x044, 4, 1, .SUP_VBATL, 0, 0⟩,
  ⟨0x03, 0x03, 0x048, 4, 1, .SUP_TDIE, 0, 0⟩,
  ⟨0x03, 0x03, 0x04C, 4, 1, .SUP_XDEV, 0, 0⟩,
  ⟨0x03, 0x03, 0x050, 4, 1, .SUP_CLR, 0, 0⟩]
def layoutMM : List LayRow := [
  ⟨0x74, 0x74, 0x040, 4, 1, .MM_CMD, 0, 0⟩,
  ⟨0x74, 0x74, 0x044, 4, 1, .MM_SRC, 0, 0⟩,
  ⟨0x74, 0x74, 0x048, 4, 1, .MM_LEN, 0, 0⟩,
  ⟨0x74, 0x74, 0x04C, 4, 1, .MM_STAT, 0, 0⟩,
  ⟨0x74, 0x74, 0x050, 4, 1, .MM_ECC, 0, 0⟩,
  ⟨0x74, 0x74, 0x054, 4, 1, .MM_OFS, 0, 0⟩]
def layoutRP : List LayRow := [
  ⟨0x78, 0x78, 0x040, 4, 1, .RP_CFG, 0, 0⟩,
  ⟨0x78, 0x78, 0x044, 4, 1, .RP_CTRL, 0, 0⟩,
  ⟨0x78, 0x78, 0x048, 4, 1, .RP_STAT, 0, 0⟩,
  ⟨0x78, 0x78, 0x04C, 4, 1, .RP_EVT, 0, 0⟩,
  ⟨0x78, 0x78, 0x050, 4, 1, .RP_EVT_MASK, 0, 0⟩,
  ⟨0x78, 0x78, 0x054, 4, 1, .RP_T0_LO, 0, 0⟩,
  ⟨0x78, 0x78, 0x058, 4, 1, .RP_T0_HI, 0, 0⟩,
  ⟨0x78, 0x78, 0x05C, 4, 1, .RP_REC_BASE, 0, 0⟩,
  ⟨0x78, 0x78, 0x060, 4, 1, .RP_REC_GEOM, 0, 0⟩,
  ⟨0x78, 0x78, 0x064, 4, 1, .RP_REC_HEAD, 0, 0⟩,
  ⟨0x78, 0x78, 0x068, 4, 1, .RP_REC_TAIL, 0, 0⟩,
  ⟨0x78, 0x78, 0x06C, 4, 1, .RP_CNT, 0, 0⟩,
  ⟨0x78, 0x78, 0x070, 4, 1, .RP_LATE, 0, 0⟩,
  ⟨0x78, 0x78, 0x074, 4, 1, .RP_OFS_LO, 0, 0⟩,
  ⟨0x78, 0x78, 0x078, 4, 1, .RP_OFS_HI, 0, 0⟩]
def layoutDG : List LayRow := [
  ⟨0x7C, 0x7C, 0x040, 4, 1, .DG_CFG, 0, 0⟩,
  ⟨0x7C, 0x7C, 0x044, 4, 1, .DG_CTRL, 0, 0⟩,
  ⟨0x7C, 0x7C, 0x048, 4, 1, .DG_STAT, 0, 0⟩]
def layoutHeader : List LayRow := [
  ⟨0x00, 0xFF, 0x000, 4, 1, .PAGE_ID, 1, 0⟩,
  ⟨0x00, 0xFF, 0x004, 4, 1, .PAGE_CFG, 1, 0⟩,
  ⟨0x00, 0xFF, 0x008, 4, 1, .PAGE_STAT, 1, 0⟩,
  ⟨0x00, 0xFF, 0x00C, 4, 1, .EVT_PEND, 1, 0⟩,
  ⟨0x00, 0xFF, 0x010, 4, 1, .EVT_RAW, 1, 0⟩,
  ⟨0x00, 0xFF, 0x014, 4, 1, .EVT_MASK, 1, 0⟩,
  ⟨0x00, 0xFF, 0x018, 4, 1, .SNAP, 1, 0⟩,
  ⟨0x00, 0xFF, 0x01C, 4, 1, .GUARD_KEY, 1, 0⟩,
  ⟨0x00, 0xFF, 0x020, 4, 1, .GUARD_STAT, 1, 0⟩,
  ⟨0x00, 0xFF, 0x024, 4, 1, .DOMAIN_RST, 1, 0⟩]

/-- The blocks of R44. -/
inductive Block where
  | MD | PR | ER | CS | AX | LN | GM | FB | FW | VG | VS | BP | LS | PC | GC | ZC | LP | DP | MS | CN | SB | QE | HL | HC
  | MM | RP | DG
deriving DecidableEq, Repr

/-- The block that holds a page and the block's first page (R44); none for a reserved page. -/
def blockOf (p : Nat) : Option (Block × Nat) :=
  if p = 0x00 then some (.MD, 0x00) else
  if p = 0x01 then some (.PR, 0x01) else
  if p = 0x02 then some (.ER, 0x02) else
  if p = 0x03 then some (.CS, 0x03) else
  if 0x04 ≤ p ∧ p ≤ 0x07 then some (.AX, 0x04) else
  if 0x08 ≤ p ∧ p ≤ 0x0F then some (.LN, 0x08) else
  if 0x10 ≤ p ∧ p ≤ 0x13 then some (.GM, 0x10) else
  if 0x14 ≤ p ∧ p ≤ 0x1B then some (.FB, 0x14) else
  if p = 0x1C then some (.FW, 0x1C) else
  if 0x20 ≤ p ∧ p ≤ 0x2F then some (.VG, 0x20) else
  if 0x30 ≤ p ∧ p ≤ 0x37 then some (.VS, 0x30) else
  if 0x38 ≤ p ∧ p ≤ 0x3B then some (.BP, 0x38) else
  if 0x3C ≤ p ∧ p ≤ 0x3E then some (.LS, 0x3C) else
  if 0x40 ≤ p ∧ p ≤ 0x47 then some (.PC, 0x40) else
  if 0x48 ≤ p ∧ p ≤ 0x4B then some (.GC, 0x48) else
  if p = 0x4C then some (.ZC, 0x4C) else
  if 0x50 ≤ p ∧ p ≤ 0x57 then some (.LP, 0x50) else
  if 0x58 ≤ p ∧ p ≤ 0x5B then some (.DP, 0x58) else
  if p = 0x5C then some (.MS, 0x5C) else
  if 0x60 ≤ p ∧ p ≤ 0x67 then some (.CN, 0x60) else
  if 0x68 ≤ p ∧ p ≤ 0x6B then some (.SB, 0x68) else
  if 0x6C ≤ p ∧ p ≤ 0x6F then some (.QE, 0x6C) else
  if 0x70 ≤ p ∧ p ≤ 0x71 then some (.HL, 0x70) else
  if 0x72 ≤ p ∧ p ≤ 0x73 then some (.HC, 0x72) else
  if p = 0x74 then some (.MM, 0x74) else
  if p = 0x78 then some (.RP, 0x78) else
  if p = 0x7C then some (.DG, 0x7C) else
  none

/-- PAGE_ID.BLOCK of a block (R44). -/
def Block.code : Block → Nat
  | .MD => 0x4D44
  | .PR => 0x5052
  | .ER => 0x4556
  | .CS => 0x4353
  | .AX => 0x4158
  | .LN => 0x4C4E
  | .GM => 0x474D
  | .FB => 0x4642
  | .FW => 0x4657
  | .VG => 0x5647
  | .VS => 0x5653
  | .BP => 0x4250
  | .LS => 0x4C53
  | .PC => 0x5043
  | .GC => 0x4743
  | .ZC => 0x5A43
  | .LP => 0x4C50
  | .DP => 0x4450
  | .MS => 0x4D53
  | .CN => 0x434E
  | .SB => 0x5342
  | .QE => 0x5145
  | .HL => 0x484C
  | .HC => 0x4843
  | .MM => 0x4D4D
  | .RP => 0x5250
  | .DG => 0x4447

/-- The register rows of a block's pages. -/
def Block.layout : Block → List LayRow
  | .MD => layoutMD
  | .PR => layoutPR
  | .ER => layoutER
  | .CS => layoutCS
  | .AX => layoutAX
  | .LN => layoutLN
  | .GM => layoutGM
  | .FB => layoutFB
  | .FW => layoutFW
  | .VG => layoutVG
  | .VS => layoutVS
  | .BP => layoutBP
  | .LS => layoutLS
  | .PC => layoutPC
  | .GC => layoutGC
  | .ZC => layoutZC
  | .LP => layoutLP
  | .DP => layoutDP
  | .MS => layoutMS
  | .CN => layoutCN
  | .SB => layoutSB
  | .QE => layoutQE
  | .HL => layoutHL
  | .HC => layoutHC
  | .MM => layoutMM
  | .RP => layoutRP
  | .DG => layoutDG

end Sys2Proof.Machine
end

