-- ==== Sys2Proof/Machine/Bits.lean ====
section
/-!
DEFINITION. Sys2Proof/Machine/Bits.lean: bit fields of words, sign extension, byte order and the saturating and
modular counters that the chapters name.
-/

namespace Sys2Proof.Machine

/-- Bits [hi:lo] of a word, as a number. -/
def bitsOf (w : Word) (hi lo : Nat) : Nat := w.toNat / 2 ^ lo % 2 ^ (hi + 1 - lo)

/-- Ones in bits [hi:lo]. -/
def maskOf (hi lo : Nat) : Word := BitVec.ofNat 32 ((2 ^ (hi + 1 - lo) - 1) * 2 ^ lo)

/-- The word with bits [hi:lo] replaced by `v` modulo the field's width. -/
def putBits (w : Word) (hi lo v : Nat) : Word :=
  (w &&& ~~~ maskOf hi lo) ||| (BitVec.ofNat 32 (v % 2 ^ (hi + 1 - lo) * 2 ^ lo))

/-- Bit `n` of a word. -/
def bitAt (w : Word) (n : Nat) : Bool := w.toNat / 2 ^ n % 2 == 1

def b2n (b : Bool) : Nat := if b then 1 else 0

/-- The word with bit `n` set to `b`. -/
def putBit (w : Word) (n : Nat) (b : Bool) : Word := putBits w n n (b2n b)

/-- A number of `n` bits read as two's complement. -/
def signed (n v : Nat) : Int := if v % 2 ^ n < 2 ^ (n - 1) then (v % 2 ^ n : Nat) else (v % 2 ^ n : Nat) - (2 ^ n : Nat)

/-- The `n`-bit two's complement image of an integer. -/
def unsig (n : Nat) (v : Int) : Nat := (v % (2 ^ n : Nat)).toNat

/-- A word as a signed number. -/
def wint (w : Word) : Int := signed 32 w.toNat

/-- An integer as a 32-bit word, modulo 2^32. -/
def intw (v : Int) : Word := BitVec.ofNat 32 (unsig 32 v)

/-- Wraps an integer into 48-bit two's complement (R16, R17). -/
def wrap48 (v : Int) : Int := signed 48 (unsig 48 v)

/-- The signed 48-bit difference by which positions are compared (R17). -/
def diff48 (a b : Int) : Int := wrap48 (a - b)

def clampN (lo hi v : Nat) : Nat := if v < lo then lo else if hi < v then hi else v

def clampI (lo hi v : Int) : Int := if v < lo then lo else if hi < v then hi else v

/-- A counter of `n` bits that saturates. -/
def satInc (n v : Nat) : Nat := if v + 1 < 2 ^ n then v + 1 else 2 ^ n - 1

/-- A counter of `n` bits, modulo 2^n. -/
def modInc (n v : Nat) : Nat := (v + 1) % 2 ^ n

/-- The low and high words of a 64-bit value. -/
def loW (t : Nat) : Word := BitVec.ofNat 32 t
def hiW (t : Nat) : Word := BitVec.ofNat 32 (t / 2 ^ 32)

/-- A word as four bytes, least significant byte first. -/
def wordBytes (w : Word) : List Byte :=
  [BitVec.ofNat 8 w.toNat, BitVec.ofNat 8 (w.toNat / 2 ^ 8), BitVec.ofNat 8 (w.toNat / 2 ^ 16),
   BitVec.ofNat 8 (w.toNat / 2 ^ 24)]

/-- The number a list of bytes spells, least significant byte first. -/
def bytesLE : List Byte → Nat
  | [] => 0
  | b :: bs => b.toNat + 256 * bytesLE bs

/-- The number a list of bytes spells, most significant byte first. -/
def bytesBE (bs : List Byte) : Nat := bytesLE bs.reverse

def bytesWord (bs : List Byte) : Word := BitVec.ofNat 32 (bytesLE bs)

/-- Division of integers rounded to nearest, ties to even; the divisor is positive. -/
def divRNE (a : Int) (b : Nat) : Int :=
  let q := a / (b : Int)
  let r := a % (b : Int)
  if 2 * r < (b : Int) then q
  else if (b : Int) < 2 * r then q + 1
  else if q % 2 = 0 then q else q + 1

/-- The numbers below `n`, in ascending order, that satisfy `p`. -/
def pick (n : Nat) (p : Nat → Bool) : List Nat := (List.range n).filter p

/-- A state transformer applied along a list, from the left. -/
def each {σ α : Type} (l : List α) (f : α → σ → σ) (s : σ) : σ := l.foldl (fun t a => f a t) s

/-- A transformer that acts only under a condition. -/
def when {σ : Type} (c : Bool) (f : σ → σ) (s : σ) : σ := if c then f s else s

/-- Bytes packed into words, first byte lowest. -/
def packBytes : List Byte → List Word
  | [] => []
  | a :: b :: c :: d :: r => bytesWord [a, b, c, d] :: packBytes r
  | l => [bytesWord l]

end Sys2Proof.Machine
end

