-- ==== Sys2Proof/Machine/Float.lean ====
section
/-!
DEFINITION. Sys2Proof/Machine/Float.lean: IEEE 754 arithmetic as R19 sets it: round to nearest with ties to even,
subnormals flushed to zero with their sign, overflow saturated to the largest finite value. Every operation is
computed exactly on integers and rounded once. `F` works on numbers that hold the bits of a format; `f32` and `f64`
are the single and the double precision of the module.
-/

namespace Sys2Proof.Machine

/-- A binary format: exponent bits and fraction bits. -/
structure Fmt where
  eb : Nat
  mb : Nat
deriving DecidableEq, Repr

def single : Fmt := ⟨8, 23⟩
def double : Fmt := ⟨11, 52⟩

/-- A finite value: `man * 2 ^ exp` with its sign. -/
structure Fin64 where
  neg : Bool
  man : Nat
  exp : Int
deriving DecidableEq, Repr

namespace F

def bias (f : Fmt) : Int := 2 ^ (f.eb - 1) - 1

/-- The value of a bit pattern; a subnormal reads as zero, an infinity as a value above every finite one. -/
def unpack (f : Fmt) (w : Nat) : Fin64 :=
  let e := w / 2 ^ f.mb % 2 ^ f.eb
  let s := w / 2 ^ (f.mb + f.eb) % 2 == 1
  if e = 0 then ⟨s, 0, 0⟩ else ⟨s, 2 ^ f.mb + w % 2 ^ f.mb, (e : Int) - bias f - f.mb⟩

def signBit (f : Fmt) (neg : Bool) : Nat := if neg then 2 ^ (f.mb + f.eb) else 0

/-- Rounds an exact value to the format (R19). -/
def pack (f : Fmt) (v : Fin64) : Nat :=
  if v.man = 0 then signBit f v.neg
  else
    let sh : Int := (v.man.log2 : Int) - f.mb
    let q : Nat := if sh ≤ 0 then v.man * 2 ^ (-sh).toNat else (divRNE (v.man : Int) (2 ^ sh.toNat)).toNat
    let c : Bool := q == 2 ^ (f.mb + 1)
    let q' := if c then 2 ^ f.mb else q
    let e : Int := v.exp + sh + f.mb + bias f + (if c then 1 else 0)
    if e ≤ 0 then signBit f v.neg
    else if (2 ^ f.eb - 1 : Int) ≤ e then signBit f v.neg + (2 ^ (f.mb + f.eb) - 2 ^ f.mb - 1)
    else signBit f v.neg + e.toNat * 2 ^ f.mb + (q' - 2 ^ f.mb)

/-- The signed integer of a value on the exponent `e`, not above the value's own. -/
def onExp (v : Fin64) (e : Int) : Int :=
  let m : Int := (v.man * 2 ^ (v.exp - e).toNat : Nat)
  if v.neg then -m else m

def add (f : Fmt) (a b : Fin64) : Nat :=
  if a.man = 0 ∧ b.man = 0 then signBit f (a.neg && b.neg)
  else if a.man = 0 then pack f b
  else if b.man = 0 then pack f a
  else
    let e := if a.exp ≤ b.exp then a.exp else b.exp
    let s := onExp a e + onExp b e
    pack f ⟨decide (s < 0), s.natAbs, e⟩

def mul (f : Fmt) (a b : Fin64) : Nat := pack f ⟨a.neg != b.neg, a.man * b.man, a.exp + b.exp⟩

/-- Quotient with enough bits and a sticky bit, rounded once; the divisor is not zero. -/
def div (f : Fmt) (a b : Fin64) : Nat :=
  let k := f.mb + 4 + b.man.log2
  let n := a.man * 2 ^ k
  let q := n / b.man
  let st := if n % b.man = 0 then 0 else 1
  pack f ⟨a.neg != b.neg, 2 * q + st, a.exp - b.exp - k - 1⟩

/-- Integer square root by Newton's iteration from above, with fuel. -/
def isqrtFrom (n : Nat) : Nat → Nat → Nat
  | 0, x => x
  | k + 1, x => let y := (x + n / x) / 2; if y < x then isqrtFrom n k y else x

def isqrt (n : Nat) : Nat := if n = 0 then 0 else isqrtFrom n 200 (2 ^ (n.log2 / 2 + 1))

def sqrt (f : Fmt) (a : Fin64) : Nat :=
  if a.man = 0 then signBit f a.neg
  else
    let k := 2 * (f.mb + 3)
    let odd := decide (a.exp % 2 = 1)
    let m := a.man * 2 ^ k * (if odd then 2 else 1)
    let e := (a.exp - k - (if odd then 1 else 0)) / 2
    let r := isqrt m
    let st := if r * r = m then 0 else 1
    pack f ⟨false, 2 * r + st, e - 1⟩

/-- Numeric order of two values. -/
def lt (a b : Fin64) : Bool :=
  let e := if a.exp ≤ b.exp then a.exp else b.exp
  decide (onExp a e < onExp b e)

/-- The value times `2 ^ k`, rounded to the nearest integer, ties to even (R21). -/
def toInt (v : Fin64) (k : Nat) : Int :=
  let e := v.exp + k
  let m : Int := if v.neg then -(v.man : Int) else v.man
  if 0 ≤ e then m * 2 ^ e.toNat else divRNE m (2 ^ (-e).toNat)

/-- The value times `2 ^ k`, rounded down. -/
def floor (v : Fin64) (k : Nat) : Int :=
  let e := v.exp + k
  let m : Int := if v.neg then -(v.man : Int) else v.man
  if 0 ≤ e then m * 2 ^ e.toNat else m / (2 ^ (-e).toNat : Nat)

/-- The bits of `v * 2 ^ e`. -/
def ofInt (f : Fmt) (v : Int) (e : Int) : Nat := pack f ⟨decide (v < 0), v.natAbs, e⟩

end F

namespace f32

def un (w : Word) : Fin64 := F.unpack single w.toNat
def mk (n : Nat) : Word := BitVec.ofNat 32 n

def isNaN (w : Word) : Bool := bitsOf w 30 23 == 255 && bitsOf w 22 0 != 0
/-- A NaN or an infinity (R19, R48). -/
def nonFinite (w : Word) : Bool := bitsOf w 30 23 == 255

/-- The quiet NaN the field tables reset to (R339, R357). -/
def nan : Word := 0x7FC00000#32
def one : Word := 0x3F800000#32
def maxv : Word := 0x7F7FFFFF#32

def add (a b : Word) : Word := if isNaN a || isNaN b then nan else mk (F.add single (un a) (un b))
def neg (a : Word) : Word := a ^^^ 0x80000000#32
def sub (a b : Word) : Word := add a (neg b)
def mul (a b : Word) : Word := if isNaN a || isNaN b then nan else mk (F.mul single (un a) (un b))
/-- DESIGN CHOICE (log 10): a nonzero value divided by zero gives the largest finite value with the sign of the
quotient; R19 names the overflow alone. -/
def div (a b : Word) : Word :=
  if isNaN a || isNaN b then nan
  else if (un b).man = 0 then
    if (un a).man = 0 then Config.floatInvalid a b
    else if (un a).neg != (un b).neg then neg maxv else maxv
  else mk (F.div single (un a) (un b))
def sqrt (a : Word) : Word :=
  if isNaN a then nan
  else if (un a).neg && (un a).man != 0 then Config.floatInvalid a a else mk (F.sqrt single (un a))
def abs (a : Word) : Word := a &&& 0x7FFFFFFF#32
def lt (a b : Word) : Bool := !isNaN a && !isNaN b && F.lt (un a) (un b)
def le (a b : Word) : Bool := !isNaN a && !isNaN b && !F.lt (un b) (un a)
def eq (a b : Word) : Bool := le a b && le b a
def isZero (a : Word) : Bool := !isNaN a && (un a).man == 0
def pos (a : Word) : Bool := lt 0#32 a
def isNeg (a : Word) : Bool := lt a 0#32
def min (a b : Word) : Word := if lt b a then b else a
def max (a b : Word) : Word := if lt a b then b else a
/-- `a` held between `lo` and `hi`. -/
def clamp (lo hi a : Word) : Word := if lt a lo then lo else if lt hi a then hi else a
def ofInt (v : Int) : Word := mk (F.ofInt single v 0)
/-- `v / 2 ^ k`, rounded. -/
def ofScaled (v : Int) (k : Nat) : Word := mk (F.ofInt single v (-(k : Int)))
/-- `p / q`, rounded once; `q` is not 0. -/
def ofRat (p : Int) (q : Nat) : Word :=
  mk (F.div single ⟨decide (p < 0), p.natAbs, 0⟩ ⟨false, q, 0⟩)
def toInt (a : Word) (k : Nat) : Int := F.toInt (un a) k
def floor (a : Word) (k : Nat) : Int := F.floor (un a) k
/-- `a * b + c`, with a rounding after each operation. -/
def mac (a b c : Word) : Word := add (mul a b) c
def sum : List Word → Word := fun l => l.foldl add 0#32
def exp (a : Word) : Word := if isZero a then one else Config.fexp a
def ln (a : Word) : Word := if a = one then 0#32 else Config.fln a
def pow (a b : Word) : Word := if b = one then a else Config.fpow a b
def sin (a : Word) : Word := if isZero a then a else Config.fsin a
def cos (a : Word) : Word := if isZero a then one else Config.fcos a
def atan2 (y x : Word) : Word := Config.fatan2 y x

end f32

namespace f64

def un (w : DWord) : Fin64 := F.unpack double w.toNat
def mk (n : Nat) : DWord := BitVec.ofNat 64 n
def zero : DWord := 0#64
def add (a b : DWord) : DWord := mk (F.add double (un a) (un b))
def neg (a : DWord) : DWord := a ^^^ 0x8000000000000000#64
def sub (a b : DWord) : DWord := add a (neg b)
def mul (a b : DWord) : DWord := mk (F.mul double (un a) (un b))
def div (a b : DWord) : DWord :=
  if (un b).man = 0 then Config.doubleInvalid a b else mk (F.div double (un a) (un b))
def sqrt (a : DWord) : DWord :=
  if (un a).neg && (un a).man != 0 then Config.doubleInvalid a a else mk (F.sqrt double (un a))
def abs (a : DWord) : DWord := a &&& 0x7FFFFFFFFFFFFFFF#64
def lt (a b : DWord) : Bool := F.lt (un a) (un b)
def le (a b : DWord) : Bool := !F.lt (un b) (un a)
def ofInt (v : Int) : DWord := mk (F.ofInt double v 0)
def ofScaled (v : Int) (k : Nat) : DWord := mk (F.ofInt double v (-(k : Int)))
def ofRat (p : Int) (q : Nat) : DWord :=
  mk (F.div double ⟨decide (p < 0), p.natAbs, 0⟩ ⟨false, q, 0⟩)
def ofSingle (a : Word) : DWord := mk (F.pack double (f32.un a))
def toSingle (a : DWord) : Word := f32.mk (F.pack single (un a))
def toInt (a : DWord) (k : Nat) : Int := F.toInt (un a) k
def floor (a : DWord) (k : Nat) : Int := F.floor (un a) k
/-- DESIGN CHOICE (log 13). π as the nearest binary64 value. -/
def pi : DWord := 0x400921FB54442D18#64
def halfPi : DWord := div pi (ofInt 2)
/-- Brings an angle into (−π, π], by whole turns and one rounding (R136). -/
def wrap (a : DWord) : DWord :=
  if lt pi a || le a (neg pi) then
    let p := toInt pi 60
    let r := toInt a 60 % (2 * p)
    ofRat (if p < r then r - 2 * p else r) (2 ^ 60)
  else a
def sin (a : DWord) : DWord := if (un a).man = 0 then a else Config.dsin a
def cos (a : DWord) : DWord := if (un a).man = 0 then ofInt 1 else Config.dcos a
def atan2 (y x : DWord) : DWord := Config.datan2 y x

end f64

end Sys2Proof.Machine
end

