-- ==== Sys2Proof/Machine/Map.lean ====
section
/-!
DEFINITION. Sys2Proof/Machine/Map.lean: sparse maps as plain data: a list of key and value pairs in one canonical
form, keys strictly rising and no entry equal to what an unlisted key reads as. Registers, memory and the numbered
parts of every block are held this way.
-/

namespace Sys2Proof.Machine

/-- A sparse map from numbers. -/
abbrev SMap (α : Type) := List (Nat × α)

namespace SMap
variable {α : Type}

/-- The value at a key; `d` is what an unlisted key reads as. -/
def get (d : α) (m : SMap α) (k : Nat) : α :=
  match m with
  | [] => d
  | (j, v) :: r => if j = k then v else get d r k

/-- Removes a key. -/
def erase (m : SMap α) (k : Nat) : SMap α :=
  match m with
  | [] => []
  | (j, v) :: r => if j = k then erase r k else (j, v) :: erase r k

/-- Lists a key with a value, in key order. -/
def insert (m : SMap α) (k : Nat) (v : α) : SMap α :=
  match m with
  | [] => [(k, v)]
  | (j, u) :: r =>
    if j = k then (k, v) :: r else if k < j then (k, v) :: (j, u) :: r else (j, u) :: insert r k v

/-- Writes a key, keeping the canonical form: the value an unlisted key reads as is not listed. -/
def set [DecidableEq α] (d : α) (m : SMap α) (k : Nat) (v : α) : SMap α :=
  if v = d then erase m k else insert m k v

/-- Every listed key lies above `n`. -/
def Above (n : Nat) (m : SMap α) : Prop := ∀ e ∈ m, n < e.1

/-- The keys rise strictly. -/
def Sorted : SMap α → Prop
  | [] => True
  | (j, _) :: r => (∀ e ∈ r, j < e.1) ∧ Sorted r

/-- The canonical form for the reading `d` of unlisted keys. -/
def Wf (d : Nat → α) (m : SMap α) : Prop := Sorted m ∧ ∀ e ∈ m, e.2 ≠ d e.1

/-- The canonical form as a test. -/
def wf [DecidableEq α] (d : Nat → α) : SMap α → Bool
  | [] => true
  | (j, v) :: r => (r.all fun e => decide (j < e.1)) && decide (v ≠ d j) && wf d r

end SMap

end Sys2Proof.Machine
end

