-- ==== Sys2Proof/Machine/Blocks.lean ====
section
/-!
DEFINITION. Sys2Proof/Machine/Blocks.lean: the state of each block that the manual names beside its registers: what an
axis, a lane, a feedback channel, a valve channel and every other numbered part holds from one step to the next.
Positions are in AU (R16), times in module-time clocks of 5 ns (R11), IEEE values as their 32 bits (R19).
-/

namespace Sys2Proof.Machine

/-- One source of a counted axis (R77): its last contribution in 2^-16 counts, the contribution and factor its product
is counted from, and the product so far in 2^-16 AU. -/
structure CountSrc where
  c : Int := 0
  base : Int := 0
  factor : Word := 0#32
  prod : Int := 0
  seen : Bool := false
deriving DecidableEq, Repr

/-- The recovery chain of a stale edge source (R84): edges counted and the stamp of the last. -/
structure Recov where
  n : Nat := 0
  t : Nat := 0
deriving DecidableEq, Repr

/-- A MAINS axis (R94 to R96): whether an edge has started an interval measurement, whether the axis has returned to
ACQUIRE, the frequency estimate in Hz, the stamp of the last accepted edge, the position in 2^-16 AU at the clock `tb`
from which it is interpolated, the lock counts, and whether the missing edges have been noted. -/
structure Mains where
  armed : Bool := false
  returned : Bool := false
  f : Word := 0#32
  last : Nat := 0
  base : Int := 0
  tb : Nat := 0
  small : Nat := 0
  large : Nat := 0
  missed : Bool := false
deriving DecidableEq, Repr

/-- What an axis holds beside its registers (R73 to R98): the start of its enable tick, the part of an AU carried, its
counted sources with their health and recovery, the signs held, the stamp of the last accepted speed sentence, its
course over ground in rad and whether it came since the source went stale, the start of a coast, the forward maximum,
the exact part of an AU of a DERIVED axis in units of 2^-200 AU, the MAINS estimate, the steps of a SOFT axis, the state
at the end of the tick before with the speed and acceleration that the present phase 2 left, and the tick of the last
change of the active source, and the position that stood at the end of the tick before its enable tick. -/
structure Axis where
  tEn : Nat := 0
  rem : Nat := 0
  left : CountSrc := {}
  right : CountSrc := {}
  radar : CountSrc := {}
  okL : Bool := false
  okR : Bool := false
  okRad : Bool := false
  okG : Bool := false
  recL : Recov := {}
  recR : Recov := {}
  recRad : Recov := {}
  signRad : Bool := false
  signG : Bool := false
  gT : Option Nat := none
  gCog : Option DWord := none
  gNew : Bool := false
  coastT : Nat := 0
  fwdMax : Int := 0
  exactRem : Int := 0
  mains : Mains := {}
  stepNew : Int := 0
  stepDue : Int := 0
  prevX : Int := 0
  prevV : Word := 0#32
  prevA : Word := 0#32
  endV : Word := 0#32
  endA : Word := 0#32
  chgTick : Nat := 0
  xOff : Int := 0
deriving DecidableEq, Repr

/-- The yaw unit (R89 to R92): the last sample of the IMU, CAN and host sources with its stamp. -/
structure Yaw where
  imu : Option (Word × Nat) := none
  can : Option (Word × Nat) := none
  host : Option (Word × Nat) := none
deriving DecidableEq, Repr

/-- A GNSS receiver as the axes and the geometry unit read it (R81, R140, R141): the latest GGA's quality and stamp, the
latest HDT heading in rad with its stamp, the stamp of a PPS edge that waits for its GGA second, and the last two paired
edges with their UTC second in clocks of the day. -/
structure Gnss where
  ggaQ : Nat := 0
  ggaT : Option Nat := none
  hdt : Option (DWord × Nat) := none
  pps : Option Nat := none
  paired : List (Nat × Nat) := []
deriving DecidableEq, Repr

/-- The SSI part of a feedback channel (R192, R193). -/
structure Ssi where
  ref : Option Nat := none
  rejects : Nat := 0
  busy : Bool := false
  latch : Nat := 0
  endT : Option Nat := none
  step : Nat := 0
deriving DecidableEq, Repr

/-- What a feedback channel holds beside its registers (R184 to R203): the count without wrap, the accepted level of a
plain input and the end of its blanking, whether lines A, B and Z stand at another level than the filtered one, the
latest edge taken with its stamp and its stamp under R12 (of an SSI sample the latch and the end of the word, R192,
R195), the count and the latter stamp of the latest edge that reversed the direction, the edges since the period
restarted, the observer's position in 2^-16 counts and gains, and the error block. -/
structure Fb where
  n : Int := 0
  tEn : Nat := 0
  accA : Bool := false
  rawA : Bool := false
  rawB : Bool := false
  rawZ : Bool := false
  blankEnd : Option Nat := none
  taken : Bool := false
  ce : Int := 0
  te : Nat := 0
  tin : Nat := 0
  rev : Option (Int × Nat) := none
  hist : List (Int × Nat) := []
  xh : Int := 0
  vEdge : Word := 0#32
  g1 : Word := 0#32
  g2 : Word := 0#32
  g3 : Word := 0#32
  hall : Option Nat := none
  hallInv : Bool := false
  blkN : Nat := 0
  blkErr : Nat := 0
  idxClean : Bool := false
  ssi : Ssi := {}
  ms : Nat := 0
  msN : Nat := 0
  msOver : Bool := false
deriving DecidableEq, Repr

/-- A forwarding port (R204 to R207): the settings in effect, those written and the tick from which they act, with
whether they restart the port, its lines before INV, whether its source could be used, the emulation phase and the
quadrature place, the end of a pulse in progress, the divisor still in use for one change, and line changes scheduled at
their clocks. -/
structure Fwd where
  cfg : Word := 0#32
  next : List (Nat × Bool × Word) := []
  up : Bool := false
  a : Bool := false
  b : Bool := false
  z : Bool := false
  phase : Int := 0
  quad : Nat := 0
  pulseEnd : Nat := 0
  holdN : Option Nat := none
  edges : List (Nat × Nat × Bool) := []
deriving DecidableEq, Repr

/-- A lane's FIFO and learning (R104 to R122): the ring slot of the head mark and the marks pending, whether the head has
been tested, the delay estimates in 1/8 µs with their rejection counts, whether each lead stands clamped, the
measurement that runs (true: of the on-delay) with its start, the measurements reported and not yet applied, a flush that
is due in the next tick's phase 1, and what the store block has not yet noted: the stamp of an edge that gave a
measurement, and that an actuation gave none (R359). The marks themselves stand in SRAM (R113). -/
structure Lane where
  head : Nat := 0
  fill : Nat := 0
  tested : Bool := false
  e8On : Nat := 0
  e8Off : Nat := 0
  rejOn : Nat := 0
  rejOff : Nat := 0
  clampOn : Bool := false
  clampOff : Bool := false
  meas : Option (Bool × Nat) := none
  reports : List (Bool × Nat × Nat) := []
  flushDue : Bool := false
  conf : Option Nat := none
  noConf : Bool := false
deriving DecidableEq, Repr

/-- A frame template (R126 to R129): frames queued since its enable, the tick of the enable, the tick of its last frame,
whether a frame waits for MIN_GAP, and whether something in this tick asks for a frame. -/
structure Tpl where
  seq : Nat := 0
  tEn : Nat := 0
  last : Option Nat := none
  waits : Bool := false
  asked : Bool := false
deriving DecidableEq, Repr

/-- A position, heading or position and heading fix that waits for its tick (R142 to R149): whether it is a GNSS one, its
epoch, its stamp, the reference point or (for GNSS) the antenna, in AU, and the heading with its rank: 0 HDT, 1 host,
2 course over ground. -/
structure Fix where
  gnss : Bool
  epoch : Nat
  stamp : Nat
  pos : Option (DWord × DWord) := none
  antenna : Bool := false
  head : Option (DWord × Nat) := none
deriving DecidableEq, Repr

/-- An entry of the pose history (R146): its clock, X, Y and heading. -/
structure PoseAt where
  t : Nat
  x : DWord
  y : DWord
  th : DWord
deriving DecidableEq, Repr

/-- What an applicator holds beside its registers (R151 to R160): its last evaluated point, the point of its last mark,
its decision, the duty queued last and the duty entries, and the zone read last. -/
structure Applic where
  lastG : Option Int := none
  lastMark : Option Int := none
  dec : Bool := false
  lastQ : Option Nat := none
  duties : List (Int × Nat) := []
  zone : Option Nat := none
  seg : Option ((Int × Int) × (Int × Int) × Int) := none
deriving DecidableEq, Repr

/-- A confirmed open interval by the module times of its ends (R174). -/
structure Ivl where
  t0 : Nat
  t1 : Option Nat := none
deriving DecidableEq, Repr

/-- The confirmed open intervals of a lane (R174, R175): the command ordered and its gate time, the intervals from the
latest back with whether the latest is open, whether a feedback edge is to open one, the gate time of an OFF whose
interval has no end yet, whether the opening of a pulse is awaited and its commanded start, whether the armature is
open, and where the last pulse ended. -/
structure Opens where
  on : Bool := false
  gate : Nat := 0
  ivls : List Ivl := []
  cur : Bool := false
  fbOpen : Bool := false
  endAt : Option Nat := none
  awaitOpen : Bool := false
  pst : Nat := 0
  vopen : Bool := false
  rel : Option Nat := none
deriving DecidableEq, Repr

/-- The results of a dispatched step (R153): marks (lane, point, ON), duty entries (applicator, point, duty), the
decisions and zones of the applicators, clipped duties, and whether its work overran. -/
structure GeoStep where
  n : Nat
  d : Nat
  marks : List (Nat × Int × Bool) := []
  duties : List (Nat × Int × Nat) := []
  pubs : List (Nat × Bool × Nat) := []
  clips : Nat := 0
  outrun : Bool := false
deriving DecidableEq, Repr

/-- The sweep of one applicator in a step (R175): axis positions and the left and right ends of its segment at the step
before and at this one, the heading, whether R176 suppresses it, and the axis position at which a coast began. -/
structure Sweep where
  app : Nat
  lane : Nat
  xa : Int
  xb : Int
  l0 : Int × Int
  r0 : Int × Int
  l1 : Int × Int
  r1 : Int × Int
  th : DWord
  held : Bool
  cut : Option Int
deriving DecidableEq, Repr

/-- A step whose coverage is not written yet, with the axis position, the wet edge in AU and the NO_MARK zones at its
dispatch, and the step with whose results it is written. -/
structure CovStep where
  n : Nat
  d : Nat
  x : Int
  sweeps : List Sweep
  wet : Nat
  noMark : Nat
  withN : Option Nat := none
  forced : Bool := false
deriving DecidableEq, Repr

/-- A run of lap or lost cells of an applicator (R178). -/
structure GeoRun where
  a : Int
  b : Int
  cells : Nat
  wet : Nat
  n : Nat
deriving DecidableEq, Repr

/-- A cached stencil tile (R163): its cells, four bits each, the step that read it last or installed it, and its place in
the cache. -/
structure STile where
  cells : BitVec 16384 := 0
  last : Nat := 0
  read : Bool := false
  place : Nat := 0
deriving DecidableEq, Repr

/-- A dirty masking tile of the working cache (R169): its cells, the steps dispatched by its last write, when it became
dirty, the step whose coverage was being written at its last write, and its place in the cache. -/
structure MTile where
  cells : BitVec 4096 := 0
  wrote : Nat := 0
  since : Nat := 0
  step : Option Nat := none
  place : Nat := 0
deriving DecidableEq, Repr

/-- The geometry unit (R136 to R181): the pose and its pending offset, the projection constants, the history, what has
been fixed since RUN, the refused fixes in a row, the headings' stamps, the position at RUN, the next step, the steps
dispatched, its work in points, the steps and coverage in hand, the fixes of the tick, the axis position at each tick
(latest first, with the tick of the latest), that position followed beyond the 48-bit range since RUN, the present
summary, the runs in progress, a pending MERGE, the tick of the last stencil element taken, and the step whose coverage
is the last one written. -/
structure Geo where
  x : DWord := 0
  y : DWord := 0
  th : DWord := 0
  ox : DWord := 0
  oy : DWord := 0
  n0 : DWord := 0
  m0 : DWord := 0
  hist : List PoseAt := []
  fix1 : Bool := false
  head1 : Bool := false
  refused : Nat := 0
  lastFix : Nat := 0
  hdtT : Option Nat := none
  hostT : Option Nat := none
  x0 : Int := 0
  next : Nat := 0
  disp : Nat := 0
  work : Nat := 0
  steps : List GeoStep := []
  covs : List CovStep := []
  fixes : List Fix := []
  axHist : List Int := []
  axTick : Nat := 0
  gx : Int := 0
  sum : Option (Int × Nat × Nat) := none
  lapRuns : SMap (Option GeoRun) := []
  lostRuns : SMap (Option GeoRun) := []
  merge : Option (Nat × BitVec 4096) := none
  intake : Option Nat := none
  covN : Option Nat := none
deriving DecidableEq, Repr

/-- The IMU template (R145): the tick its EN was set, whether a transaction runs, and the bytes it sends. -/
structure Imu where
  t0 : Nat := 0
  busy : Bool := false
  sent : List Byte := []
deriving DecidableEq, Repr

/-- A change that reaches a slice or a pair at its clock (R248): a period, a duty (by hardware or not), a phase, a
COMMIT. -/
inductive Upd where
  | period (v : Nat)
  | duty (v : Nat) (hw : Bool)
  | phase (v : Nat)
  | commit
deriving DecidableEq, Repr

/-- The shadows of a slice or a pair as they stand in its stage (R245, R248), with the changes on their way to it. -/
structure Shadow where
  per : Nat := 0
  on : Nat := 0
  phase : Nat := 0
  pendP : Bool := false
  pendOn : Bool := false
  commit : Bool := false
  ups : List (Nat × Upd) := []
deriving DecidableEq, Repr

/-- A valve slice (R243 to R248): its shadows, whether it follows a command, the end of the train's present pulse and of
a PULSE mark's, the next period start, the tick from which it follows its lane, whether an axis-paced train is ordered,
the axis position of the tick that ordered its last pulse and the axis-paced starts ordered, and the edges its valve
channel has not yet seen. -/
structure Slice where
  sh : Shadow := { per := 13333333 }
  cmd : Bool := false
  out : Bool := false
  trainEnd : Option Nat := none
  pulseEnd : Nat := 0
  nextP : Option Nat := none
  from' : Nat := 0
  ord : Bool := false
  xp : Int := 0
  axDue : List Nat := []
  edges : List (Nat × Bool) := []
deriving DecidableEq, Repr

/-- A bridge pair (R249, R250): its shadows, the start of the present and of the next period, since when it is driven,
S before the present period with its last edge, whether a loop's DUST action holds it, and the tick from which a pair
without carrier may leave the dust sheet. -/
structure Pair where
  sh : Shadow := { per := 10000 }
  p0 : Nat := 0
  nextP : Option Nat := none
  drivenAt : Option Nat := none
  prevS : Bool := false
  prevEdge : Nat := 0
  lpDust : Bool := false
  from' : Nat := 0
deriving DecidableEq, Repr

/-- The armature detection of an actuation (R223, R224) on sums of four samples: the last three samples, the running
maximum and minimum with the time of its first occurrence, the results, and the time of the latest sample. -/
structure Detect where
  buf : List Nat := []
  armed : Bool := false
  mx : Nat := 0
  dip : Bool := false
  mn : Nat := 0
  tm : Nat := 0
  openRes : Option (Option Nat) := none
  reached : Bool := false
  half : Bool := false
  ipk : Nat := 0
  rmn : Nat := 1023
  bump : Bool := false
  rmx : Nat := 0
  trm : Nat := 0
  relRes : Option (Option Nat) := none
  ts : Nat := 0
deriving DecidableEq, Repr

/-- A valve channel (R216 to R235): commanded start and off, a shifted off, the grant, the deferral with its cause, the
peak in effect and its end, the start of DECAY, the low side and its target, detection, the undetected windows in a row,
the hold periods of the resistance measurement with the sums of its window's samples, currents in LSB and supplies in
mV, and their numbers, the clocks for which the low side was on in it and the clock at which it last turned on, the
beginning of OFF, the clock from which the high-side-on test is allowed, the last test, and when each kind of test was
last completed. -/
structure Valve where
  cstart : Nat := 0
  coff : Nat := 0
  offAt : Option Nat := none
  grant : Nat := 0
  defer : Nat := 0
  dcause : Nat := 0
  pk : Nat := 0
  peakEnd : Nat := 0
  decayT : Nat := 0
  low : Bool := false
  target : Nat := 0
  det : Detect := {}
  act : Bool := false
  noOpen : Nat := 0
  noRel : Nat := 0
  holdN : Nat := 0
  sumI : Nat := 0
  numI : Nat := 0
  sumV : Nat := 0
  numV : Nat := 0
  sumOn : Nat := 0
  onT : Nat := 0
  measDone : Bool := false
  thm : Bool := false
  offSince : Nat := 0
  diagT : Nat := 0
  testT : Option Nat := none
  hsonT : Option Nat := none
  hsoffT : Option Nat := none
deriving DecidableEq, Repr

/-- A valve group (R221, R231, R233): when its high side turned on, the starts that wait in order, the start of its
window and of the last one, samples of excess current in a row, whether the die's own heartbeat dust sheet holds, and
the clock from which the head of the waiting order is to be tested. -/
structure VGroup where
  hsOnT : Nat := 0
  wait : List Nat := []
  winT : Nat := 0
  lastWin : Option Nat := none
  sgN : Nat := 0
  hbDust : Bool := false
  freeT : Nat := 0
deriving DecidableEq, Repr

/-- A load switch (R262 to R275): CSRC and PIN_INV in effect with the changes on their way, the clock from which the
output has been off (none: it has not been on since the die started), the tick that ends a running pause, the end of the
inrush window, whether the die's own oscillator times these two, and the off time, whether the channel is HOT, whether its
junction stands above the restart temperature since it reached 170 °C, and the average current of the latest tick in A. -/
structure Ls where
  src : Nat := 0
  due : List (Nat × Nat) := []
  offT : Option Int := none
  pause : Option Nat := none
  win : Option Nat := none
  loose : Bool := false
  offOsc : Bool := false
  hot : Bool := false
  maxed : Bool := false
  cur : Word := 0#32
deriving DecidableEq, Repr

/-- What the load-switch die holds while a replay computes its channels (R277): its parts and its registers. -/
structure LsHold where
  ls : SMap Ls := []
  regs : SMap Word := []
deriving DecidableEq, Repr

/-- A precision channel (R280 to R295): when its first period begins, the stamp of its latest result, the code of the
period before when that was good, the path in use (true: L), consecutive periods within 3/4 FS_H on L, results that
still carry SETTLING with whether the last of them shows a change of path, the comparators that are tripped, whether one
was in the present period, whether the conversion in progress is discarded, good conversions still wanted, the limits
exceeded, the latest valid result, the measured currents of the two sources with the IEXC setting they were measured at,
new ones and the takeover that wait for the next result, the last takeover shown, and a CAL flag that is due. -/
structure Pc where
  start : Nat := 0
  last : Option Nat := none
  prev : Option Int := none
  pathL : Bool := false
  inL : Nat := 0
  settle : Nat := 0
  sw : Bool := false
  tripA : Bool := false
  tripB : Bool := false
  tripped : Bool := false
  disc : Bool := false
  want : Nat := 0
  limLo : Bool := false
  limHi : Bool := false
  valid : Option (Word × Nat) := none
  ia : Word := 0#32
  ib : Word := 0#32
  iset : Nat := 3
  fresh : Option (Word × Word) := none
  freshT : Option Nat := none
  takeT : Option Nat := none
  cal : Bool := false
deriving DecidableEq, Repr

/-- The coefficients of a converter (R285, R295, R475): its offset in LSB of H, the gain of path H relative to nominal,
the gain of path L relative to path H, and L's offset relative to H in LSB of L. -/
structure PcCoef where
  off : Word := 0#32
  gainH : Word := 0x3F800000#32
  gainL : Word := 0x3D800000#32
  offL : Word := 0#32
deriving DecidableEq, Repr

/-- The rotation (R293 to R296): the slot in progress with its start, whether it has taken over and when, the converter
it retires and whether it tests; the next scheduled slot, the requests waiting (channel, with test), and a failed
converter to be calibrated first after a domain reset. -/
structure Rot where
  slot : Option Nat := none
  start : Nat := 0
  taken : Bool := false
  takenT : Nat := 0
  retired : Nat := 0
  test : Bool := false
  next : Nat := 0
  queue : List (Nat × Bool) := []
deriving DecidableEq, Repr

/-- A general channel (R298 to R300): whether a result has come since the enable, the stamp of the next one, the latest
valid result, and the limits exceeded. -/
structure Gc where
  seen : Bool := false
  due : Nat := 0
  valid : Option (Word × Nat) := none
  limLo : Bool := false
  limHi : Bool := false
deriving DecidableEq, Repr

/-- An impedance channel (R301): the place in its frequency list and the end of the tick of its enable. -/
structure Zc where
  idx : Nat := 0
  tEn : Nat := 0
deriving DecidableEq, Repr

/-- An analog output (R303 to R305): codes on their way with the tick of their T_(k+2), the code of AO_VAL that has
arrived last, the tick at which the dust sheet lets it go, whether a loop's DUST action holds it at AO_SAFE, the clock
from which the code at the converter asks for 0.5 mA or more, and the tick from which AO_RB has stood away from the code
(R477). -/
structure Ao where
  due : List (Nat × Nat) := []
  code : Nat := 0
  rel : Option Nat := none
  lpDust : Bool := false
  ask : Option Nat := none
  away : Option Nat := none
deriving DecidableEq, Repr

/-- A sample in progress (R317): its dispatch tick, interval in s, r, y, v and w, whether step 8 follows, whether it holds
the target in the dust-sheet state, Ki and Kt of its bank, the status it found (FSTATE, frozen, lost, permissive) with its
causes, and the values of the generators that drove it (generator, index, value). -/
structure LpSmp where
  k : Nat := 0
  ts : Option Word := none
  r : Word := 0#32
  y : Word := 0#32
  v : Word := 0#32
  w : Word := 0#32
  i : Word := 0#32
  integ : Bool := false
  dust : Bool := false
  ki : Word := 0#32
  kt : Word := 0#32
  fstate : Nat := 0
  frozen : Bool := false
  lost : Bool := false
  perm : Bool := false
  causes : List Nat := []
  tests : List (Nat × Nat × Word) := []
deriving DecidableEq, Repr

/-- A loop (R312 to R331): the tick of its enable, the tick of the last taken sample whatever its enable (R316), whether
its first sample is awaited, the tick of the last taken sample since the enable and of the last dispatch, the AXIS
reference, the last fresh feedback, the last applied w and whether it was a DUST one, the ramp, the derivative with the
e_d before it, the output travel (newest first), samples in a row not fresh, samples in a row with an identical y, that
y and the one held when it froze, fresh samples in a row, the action in effect (0 none), what the last sample found,
FCLR since the action began, release awaited, and the sample in progress. -/
structure Lp where
  en : Nat := 0
  taken : Option Nat := none
  first : Bool := true
  prev : Option Nat := none
  disp : Option Nat := none
  axRef : Int := 0
  yf : Option Word := none
  w : Option Word := none
  dustA : Bool := false
  r : Word := 0#32
  rd : Word := 0#32
  d : Word := 0#32
  ed : Word := 0#32
  dus : List Word := []
  nf : Nat := 0
  frun : Nat := 0
  ylb : Word := 0#32
  frzb : Word := 0#32
  good : Nat := 0
  st : Nat := 0
  lost : Bool := false
  frozen : Bool := false
  cntLost : Bool := false
  perm : Bool := true
  fclr : Bool := false
  await : Bool := true
  smp : Option LpSmp := none
deriving DecidableEq, Repr

/-- A min-select group (R323): its last output and winner, and the tick in which a member that held the target in its
dust-sheet state was disabled, until the first output of a member enabled since (R322). -/
structure Grp where
  last : Option Word := none
  win : Option Nat := none
  hold : Option Nat := none
deriving DecidableEq, Repr

/-- A test generator's run (R332, R333): the tick its start was applied in, the index of the next sample, the PRBS
stages, and phase and frequency of SINE in cycles. -/
structure Tg where
  armed : Nat := 0
  j : Nat := 0
  lfsr : Nat := 0
  phi : Word := 0#32
  f : Word := 0#32
deriving DecidableEq, Repr

/-- A log record on its way to Q38 or Q41: the phase that produces it, its instance, cause, event, stamp and detail
(R396). -/
structure LogRec where
  q : Nat
  phase : Nat
  inst : Nat
  cau : Nat
  evt : Nat
  stamp : Nat
  detail : List Word
deriving DecidableEq, Repr

/-- An occurrence of an event in the present tick, as its notice names it: instance, cause, and its stamp where it has one
(R396). -/
structure Occ where
  evt : Nat
  inst : Nat
  cau : Nat
  stamp : Option Nat
deriving DecidableEq, Repr

/-- When a value that phase 4 writes was last updated, with what it read before and its update before that (R312). -/
structure Upd4 where
  t : Nat := 0
  old : Word := 0#32
  before : Option Nat := none
deriving DecidableEq, Repr

/-- A parcel (R342 to R349) beside its SRAM record, which R346 lays out: its slot, sequence number and flags, P_c, and its
values; `zl` is a zone lost during residence. -/
structure Parcel where
  slot : Nat := 0
  seq : Nat := 0
  pc : Int := 0
  m : Word := 0#32
  mIn : Word := 0#32
  tg : Word := 0#32
  tgMax : Word := 0#32
  pred : Word := 0#32
  steps : Nat := 0
  outSum : Word := 0#32
  outN : Nat := 0
  seed : Bool := false
  filled : Bool := false
  noMeas : Bool := false
  dis : Bool := false
  zl : Bool := false
deriving DecidableEq, Repr

/-- What a model step gives one parcel, named by slot and sequence number (R347): new moisture and grain temperature where
its zone has air, its prediction, and whether its zone was lost. -/
structure ParcelStep where
  slot : Nat
  seq : Nat
  stepped : Option (Word × Word) := none
  pred : Option Word := none
  lost : Bool := false
deriving DecidableEq, Repr

/-- A model step in progress: its dispatch tick, the parcels, M_e and k of each zone that has air, and the predicted
seconds to target of each layer's zone are formed from them at application. -/
structure DpStep where
  k : Nat := 0
  res : List ParcelStep := []
  air : List (Option (Word × Word)) := []
deriving DecidableEq, Repr

/-- A drying path (R342 to R356): parcels in the column from the bottom up and those discharged, oldest first; the top
slot and the next sequence number; P0, the forward maximum, the next boundary, and the boundaries handled in the present
tick; inlet readings (position, moisture, temperature if any); the fill's bins (sum and count of moistures, sum and
count of temperatures), its start, bin length in clocks and seeded count; the step in progress; and an end of the fill
(1) or a start with a full column (2) that takes the axis position of the present tick (R350, R351). -/
structure Dp where
  col : List Parcel := []
  out : List Parcel := []
  top : Nat := 1023
  seq : Nat := 0
  p0 : Int := 0
  fmax : Int := 0
  nb : Int := 0
  nbTick : Nat := 0
  nbN : Nat := 0
  ins : List (Int × Word × Option Word) := []
  bins : List (Word × Nat × Word × Nat) := []
  ts : Nat := 0
  bin : Nat := 0
  seeds : Nat := 0
  last : Option (Word × Word) := none
  step : Option DpStep := none
  enter : Nat := 0
deriving DecidableEq, Repr

/-- A CAN frame as it is taken in (R370): formats, identifier, DLC as received, and its data bytes. -/
structure CanFrame where
  fdf : Bool := false
  rtr : Bool := false
  ide : Bool := false
  id : Nat := 0
  brs : Bool := false
  esi : Bool := false
  dlc : Nat := 0
  data : List Byte := []
deriving DecidableEq, Repr

/-- What a controller meets on its bus: the start of another node's frame, and a whole frame (R369, R389). -/
inductive CanBusIn where
  | start
  | frame (f : CanFrame)
deriving DecidableEq, Repr

/-- A frame that waits for phase 4 of its tick (R372): the frame, whether it is the controller's own, its tag, its stamp
and its sequence number. -/
structure CanRx where
  frame : CanFrame := {}
  echo : Bool := false
  tag : Nat := 0
  t : Nat := 0
  seq : Nat := 0
deriving DecidableEq, Repr

/-- A CAN controller (R365 to R380): frames that wait for phase 4, the FIFO whose head is in arbitration or transmission
(0 A, 1 B) with that element, the FIFO whose head is offered first after a bus-off, flushes that wait for the end of a
frame, and that the controller leaves its bus at the next idle. -/
structure Can where
  rx : List CanRx := []
  tx : Option (Nat × List Word) := none
  retry : Option Nat := none
  flushA : Bool := false
  flushB : Bool := false
  leave : Bool := false
deriving DecidableEq, Repr

/-- A serial transaction (R384): its entry, the clocks at which the driver turns on and off, the request bytes, the
entry's settings, the timeout, GAP and the clocks of a bit and of a character as they stood at its start, and whether
the driver has turned off. -/
structure SbTx where
  entry : Nat := 0
  onT : Nat := 0
  offT : Nat := 0
  req : List Byte := []
  cfg : Word := 0#32
  wait : Nat := 0
  gap : Nat := 0
  bit : Nat := 0
  char : Nat := 0
  off : Bool := false
deriving DecidableEq, Repr

/-- A serial bus (R381 to R386): the entries that are due, those that their period made due in the tick `perTick`, the
transaction, the end of the last one, the record sequence number, and records that wait for phase 4 of their tick. -/
structure Sb where
  due : List Nat := []
  perTick : Nat := 0
  per : List Nat := []
  tx : Option SbTx := none
  endT : Option Nat := none
  seq : Nat := 0
  recs : List (Nat × List Word) := []
deriving DecidableEq, Repr

/-- What the module sends on a link in one step (R403, R405, R410): a ZHA frame of a session, answers and requests of ARP,
an echo reply with its data, and the bytes of an SPI frame. -/
inductive OutFrame where
  | zha (sess : Nat) (bytes : List Byte)
  | arpReply (port : Nat)
  | arpRequest (port : Nat) (ip : Word)
  | arpAnnounce (port : Nat)
  | echo (port : Nat) (data : List Byte)
  | spi (bytes : List Byte)
deriving DecidableEq, Repr

/-- A ZHA session (R404 to R409) beside its registers: its key, the stored response to the last accepted request, the
outstanding stream frame with the time it was sent, and the stamp of its peer's ARP entry. -/
structure Session where
  key : List Byte := []
  stored : Option (List Byte) := none
  frame : List Byte := []
  outT : Nat := 0
  arp : Option Nat := none
deriving DecidableEq, Repr

/-- A 100BASE-T1 port (R403): the second of module time and the echo requests answered in it. -/
structure Port where
  sec : Nat := 0
  echoes : Nat := 0
deriving DecidableEq, Repr

/-- A helper core (R412 to R416) beside its registers on the pages: whether the primer image holds its program,
mtimecmp, whether the machine timer interrupt is pending, the program counter, the integer and the floating-point
registers that differ from 0, the CSRs, and the start of its watchdog's count. What it computes between its accesses is
not modelled (log 8): `pc`, `x`, `f` and the CSRs stand as its start, its traps and external debug leave them. -/
structure Hc where
  image : Bool := false
  mtimecmp : Nat := 0
  timer : Bool := true
  pc : Word := 0x10000000#32
  x : SMap Word := []
  f : SMap Word := []
  mstatus : Word := 0#32
  mie : Word := 0#32
  mtvec : Word := 0#32
  mscratch : Word := 0#32
  mepc : Word := 0#32
  mcause : Word := 0#32
  mtval : Word := 0#32
  fcsr : Word := 0#32
  wdtT : Nat := 0
deriving DecidableEq, Repr

/-- A UDP datagram to a port's address (R403, R405): the port, the sender's address and UDP port, the UDP port it names,
the payload. -/
structure ZhaFrame where
  port : Fin 2 := 0
  src : Word := 0#32
  sport : Nat := 0
  dport : Nat := 0
  payload : List Byte := []
deriving DecidableEq, Repr

/-- A received frame that is dropped: by the port's tests (R403) or by those of the sessions (R406). -/
inductive DropFrame where
  | eth (port : Fin 2)
  | zha (f : ZhaFrame)
deriving DecidableEq, Repr

/-- The resets and the start-up steps (R424 to R432, R435 to R440): which reset is in progress (0 none, 1 power-on reset
before the PLL locks, 2 pin reset while nRESET is low, 3 pin reset before the PLL locks, 4 a clock fault waiting for the
PLL), the tick at which a module reset ends, the class of the last reset (0 power-on, 1 pin, 2 module), the tick its
steps count from, the RMODE and the events that follow its end, whether VBAT_L stands below its warning level, the level
of DBG_HALT, whether the power dies hold nRST_OUT low, whether the helper cores have been released, the causes of the
reset that waits for the PLL, and the slot that was in use when the last module reset began. -/
structure Boot where
  rst : Nat := 1
  rstEnd : Option Nat := none
  cls : Nat := 0
  t0 : Nat := 0
  rmode : Nat := 0
  after : List Nat := []
  vbatLow : Bool := false
  dbgLow : Bool := false
  hbReset : Bool := false
  cores : Bool := false
  causes : Nat := 0
  slot : Nat := 0
deriving DecidableEq, Repr

/-- A primer image beyond what R426 lays out, whose body the manual does not give: whether the body meets the checks of
its format (R24, R427), the register values it supplies (address and value), the pages in STICKY mode, the session keys
(R404) and the helper cores' programs (R415). -/
structure Image where
  bodyOk : Bool := true
  regs : List (Nat × Word) := []
  sticky : List Nat := []
  keys : List (List Byte) := []
  cores : List (Option (List Byte)) := []
deriving DecidableEq, Repr

/-- The MRAM controller (R429): the command in progress (its CMD code, its slot, LAST), the MAGIC bytes held since OPEN
was set, the slots that have passed a verification since the last reset, and the masking tiles whose raster slot cannot
be read (R453). -/
structure Mm where
  cmd : Option (Nat × Nat × Bool) := none
  magic : List (Nat × Byte) := []
  passA : Bool := false
  passB : Bool := false
  bad : List Nat := []
deriving DecidableEq, Repr

/-- The recorder (R443): the records of the present tick, the order of its writes, the element sequence, and whether
elements were lost just before the next one. -/
structure Recorder where
  recs : List (List Word) := []
  ord : Nat := 0
  rseq : Nat := 0
  loss : Bool := false
deriving DecidableEq, Repr

/-- A replay queue (R449): the words taken and not yet merged, the stamp of the last record, and one more than the present
tick with the elements taken in it. -/
structure RpQueue where
  words : List Word := []
  last : Nat := 0
  tick : Nat := 0
  n : Nat := 0
deriving DecidableEq, Repr

/-- The replay unit (R447 to R450): the queues, one more than the tick of the last merge, whether an END record has come,
the module time counter less the replay time, whether GO waits for the end of its tick, and the source of the MERGE
command that comes next. -/
structure Replay where
  qs : SMap RpQueue := []
  merged : Nat := 0
  ended : Bool := false
  ofs : Int := 0
  go : Bool := false
  mergeSrc : Option (BitVec 4096) := none
deriving DecidableEq, Repr

end Sys2Proof.Machine
end

