-- ==== Sys2Proof/Machine/Operands.lean ====
section
/-!
DEFINITION. Sys2Proof/Machine/Operands.lean: operands of commands that are more than a number: what the pads, the analog
side and the links bring with an event.
-/

namespace Sys2Proof.Machine

/-- The edge and speed sources of a GROUND axis. -/
inductive AxSrc where
  | left | right | radar | gnss
deriving DecidableEq, Repr

/-- What ISO 11898-1 asks of an error beyond its code (R377): `ext` at a sender tells that the error is one of those
that leave TEC as it is (no dominant bit seen with a passive error flag after an ACK error, a stuff error in
arbitration), at a receiver that it counts eight (a dominant bit followed the error flag, or a bit error in a flag); and
the transmitter delay where the frame's was measured before the error (R368). -/
structure CanErrIn where
  ext : Bool := false
  delay : Option Nat := none
deriving DecidableEq, Repr

/-- What the monitors and converters read in a tick: currents in A and junctions in °C of the load switches (R271),
their supplies in mV, the read-back of the analog outputs with whether each stands at its compliance or current limit
(R304, R477), temperatures of the power dies, VBAT_L in mV, the main-die temperature and the crystal's deviation (R452),
whether the rails stand in range, and the reads of the MRAM that were corrected (R453). -/
structure TickIn where
  loads : List (Nat × Word × Word) := []
  supplies : List (Nat × Nat) := []
  outputs : List (Nat × Word × Bool) := []
  dies : List (Nat × Word) := []
  vbat : Nat := 0
  main : Word := 0#32
  xtal : Word := 0#32
  rails : Bool := true
  corrected : Nat := 0
deriving DecidableEq, Repr

/-- An uncorrectable MRAM read (R453): of a master, or of the geometry unit for a masking tile. -/
inductive MramRead where
  | access (m : Fin 8) (a : Word)
  | tile (tx ty : Fin 65536)
deriving DecidableEq, Repr

/-- A word of the bit-alias window (R51): a lane's command, or a load switch's. -/
inductive BitWord where
  | lane (n : Fin 256)
  | switch (n : Fin 24)
deriving DecidableEq, Repr

/-- An entry of the protection tables (R60 to R62): a region's base, limit or rights, or a word of page rights. -/
inductive TableEntry where
  | memBase (n : Fin 8)
  | memLim (n : Fin 8)
  | memAcc (n : Fin 8)
  | pageAcc (m : Fin 8) (k : Fin 16)
deriving DecidableEq, Repr

/-- What the valve drive measures (R220 to R234): coil currents of a channel in LSB, one a microsecond; its group's supply
in mV and current in mA; at the end of a hold measurement the duty of the low side over its window. -/
inductive ValveObs where
  | coil (codes : List Nat)
  | supply (mv ma : Nat)
  | hold
deriving DecidableEq, Repr

/-- An excitation source of a precision channel. -/
inductive Source where
  | a | b
deriving DecidableEq, Repr

/-- The compliance comparator of a source of precision channel `n` (R290). -/
structure Comparator where
  n : Fin 32
  src : Source
deriving DecidableEq, Repr

/-- A chopped sample as its modulator gives it (R281): the samples of the two halves of a chop period, 125 each, in half
LSB of the path. -/
structure Chop where
  first : List Int := []
  second : List Int := []
deriving DecidableEq, Repr

/-- What the initial calibration measures (R297): of converter `n` its coefficients, of channel `n` the currents of its
sources in µA. -/
structure CalIn where
  coef : PcCoef := {}
  ia : Word := 0#32
  ib : Word := 0#32
deriving DecidableEq, Repr

/-- A sample of a general channel (R298): its code, and on the ratiometric range its input in µV with VS5_0 to VS5_3 of
the same frame in µV. -/
structure GcSample where
  x : Int := 0
  vs5 : List Nat := []
deriving DecidableEq, Repr

/-- What arms a generator (R333): a write of TG_CTRL.START, or a CAPTURE mark of the present tick. -/
inductive TgArm where
  | write (m : Fin 8)
  | mark
deriving DecidableEq, Repr

/-- External debug of a helper core (R415): halted at an address, or resumed; and while it is halted so, a word of its
local memory or an integer register read or written (R413). -/
inductive HcOp where
  | halt (pc : Word)
  | resume
  | readMem (a : Word)
  | writeMem (a v : Word)
  | readReg (n : Fin 32)
  | writeReg (n : Fin 32) (v : Word)
deriving DecidableEq, Repr

end Sys2Proof.Machine
end

