-- ==== Sys2Proof/Syntax.lean ====
section
/-!
DEFINITION. Sys2Proof/Syntax.lean: the commands of the module, one constructor for each row of the opcode table. `m` is the
master that makes an access (0 and 1 the helper cores, 2 to 5 the ZHA sessions, 6 the SPI port, 7 the debug port, R50), `o` a
count of 5 ns clocks in the tick the event falls in, and `v` the word written.
-/

namespace Sys2Proof

open Machine

/-- A command. -/
inductive Instr where
  -- The tick and the accesses of masters: pages, guards, resets of domains, protection (R11 to R72)
  /-- AXIS_TICK (R13): the present tick ends and the next one runs its phases; `x` is what the monitors read in
  it. -/
  | axisTick (x : TickIn)
  /-- REGISTER_WRITE (R48): a write of `size` bytes by master `m` to any address. -/
  | registerWrite (m : Fin 8) (size : Nat) (a : Word) (v : DWord)
  /-- MRAM_FAULT (R453). -/
  | mramFault (k : MramRead)
  /-- REGISTER_READ_RC (R48, R52): a read of `size` bytes by master `m` from any address; an RC register's bits
  returned as 1 are cleared. -/
  | registerReadRc (m : Fin 8) (size : Nat) (a : Word)
  /-- ALIAS_WRITE (R49): a write through the SET, CLR or TGL view of page `p`. -/
  | aliasWrite (m : Fin 8) (k : Fin 3) (p off : Fin 256) (v : Word)
  /-- BIT_ALIAS_WRITE (R51). -/
  | bitAliasWrite (m : Fin 8) (w : BitWord) (v : Word)
  /-- SNAP_TAKE (R53). -/
  | snapTake (m : Fin 8) (p : Fin 256)
  /-- GUARD_KEY_WRITE (R55). -/
  | guardKeyWrite (m : Fin 8) (p : Fin 256) (v : Word)
  /-- DOMAIN_RESET (R47). -/
  | domainReset (m : Fin 8) (p : Fin 256)
  /-- DOMAIN_RESET_DONE (R47). -/
  | domainResetDone (p : Fin 256)
  /-- PR_UNFREEZE (R68). -/
  | prUnfreeze (m : Fin 8) (v : Word)
  /-- PR_GCLR (R56). -/
  | prGclr (m : Fin 8) (v : Word)
  /-- TABLE_EDIT (R63). -/
  | tableEdit (m : Fin 8) (e : TableEntry) (v : Word)
  -- Axes, yaw, receivers and the IMU (R73 to R99, R140 to R149)
  /-- AX_ENABLE (R74): AX_CFG written with EN 1. -/
  | axEnable (m : Fin 8) (i : Fin 32) (v : Word)
  /-- AX_DISABLE (R74): AX_CFG written with EN 0. -/
  | axDisable (m : Fin 8) (i : Fin 32) (v : Word)
  /-- AX_K_WRITE (R75). -/
  | axKWrite (m : Fin 8) (i : Fin 32) (k : Fin 3) (v : Word)
  /-- AX_STEP_WRITE (R98). -/
  | axStepWrite (m : Fin 8) (i : Fin 32) (v : Word)
  /-- SRC_STALE (R83). -/
  | srcStale (i : Fin 32) (k : AxSrc)
  /-- SRC_RECOVER (R84). -/
  | srcRecover (i : Fin 32) (k : AxSrc)
  /-- STOPPED (R86). -/
  | stopped (i : Fin 32)
  /-- SLIP_CORRECTION_UPDATE (R85). -/
  | slipCorrectionUpdate
  /-- MAINS_EDGE (R95): an edge at MPH`h`. -/
  | mainsEdge (h : Fin 3) (rising : Bool) (o : Fin 2000)
  /-- MAINS_MISSING_EDGES (R96). -/
  | mainsMissingEdges (i : Fin 32)
  /-- MAINS_GONE (R96). -/
  | mainsGone (i : Fin 32)
  /-- YAW_LOST (R90). -/
  | yawLost
  /-- GNSS_SENTENCE (R140): the bytes of a sentence up to its LF. -/
  | gnssSentence (r : Fin 2) (o : Fin 2000) (l : List Byte)
  /-- PPS_EDGE (R141). -/
  | ppsEdge (r : Fin 2) (o : Fin 2000)
  /-- GM_FIX_GO (R144). -/
  | gmFixGo (m : Fin 8)
  /-- IMU_TRANSACTION (R145). -/
  | imuTransaction
  /-- IMU_RECORD (R145): what the transaction read. -/
  | imuRecord (o : Fin 2000) (l : List Byte)
  -- Lanes, marks and frame templates (R104 to R135)
  /-- LN_PUSH_GO (R110). -/
  | lnPushGo (m : Fin 8) (v : Word)
  /-- TEMPLATE_REFRESH (R129). -/
  | templateRefresh (t : Fin 32)
  /-- TEMPLATE_GAP_FRAME (R129). -/
  | templateGapFrame (t : Fin 32)
  /-- LANE_ENABLE (R107): LN_CFG or LN_RCFG written with EN 1. -/
  | laneEnable (m : Fin 8) (n : Fin 768) (v : Word)
  /-- LANE_DISABLE (R107): the same with EN 0. -/
  | laneDisable (m : Fin 8) (n : Fin 768) (v : Word)
  /-- LN_FLUSH (R134): one bit a lane, 32 lanes a word. -/
  | lnFlush (m : Fin 8) (k : Fin 24) (v : Word)
  /-- LN_DELAY_WRITE (R119): LN_DON or LN_DOFF of a lane. -/
  | lnDelayWrite (m : Fin 8) (n : Fin 256) (on : Bool) (v : Word)
  /-- LEAD_MEASUREMENT (R119): the oldest report of the lane. -/
  | leadMeasurement (n : Fin 256)
  -- The geometry unit and the masking raster (R136 to R183)
  /-- GM_RUN_SET (R172): GM_CTRL.RUN written 1. -/
  | gmRunSet (m : Fin 8)
  /-- GM_RUN_CLEAR (R157): GM_CTRL.RUN written 0. -/
  | gmRunClear (m : Fin 8)
  /-- FIX_LOST (R149). -/
  | fixLost
  /-- SPATIAL_STEP_DISPATCH (R153). -/
  | spatialStepDispatch
  /-- STEP_RESULTS (R153). -/
  | stepResults
  /-- TILE_INTAKE (R162). -/
  | tileIntake
  /-- GM_TC_EVICT (R163). -/
  | gmTcEvict (m : Fin 8) (v : Word)
  /-- TILE_WANT (R166). -/
  | tileWant
  /-- MASK_WRITE_BACK (R169): a dirty tile. -/
  | maskWriteBack (tx ty : Fin 65536)
  /-- MAP_CLEAR (R171). -/
  | mapClear (m : Fin 8)
  /-- MAP_MERGE (R171). -/
  | mapMerge (m : Fin 8)
  /-- MAP_FLUSH (R171). -/
  | mapFlush (m : Fin 8)
  /-- MAP_ADOPT (R171). -/
  | mapAdopt (m : Fin 8)
  /-- MAP_DONE (R171). -/
  | mapDone
  -- Feedback channels and forwarding ports (R184 to R215)
  /-- FB_ENABLE (R211): FB_CFG written with EN 1. -/
  | fbEnable (m : Fin 8) (c : Fin 24) (v : Word)
  /-- FEEDBACK_EDGE (R184): for each line of the channel that changes, for how many samples its new level holds. -/
  | feedbackEdge (c : Fin 24) (o : Fin 2000) (ta tb tz : Option Nat)
  /-- BLANKING_END (R186): with the level of line A then. -/
  | blankingEnd (c : Fin 24) (a : Bool)
  /-- FB_CHANNEL_STALE (R201). -/
  | fbChannelStale (c : Fin 24)
  /-- FB_FCLR (R200). -/
  | fbFclr (m : Fin 8) (c : Fin 24)
  /-- FB_CCLR (R211). -/
  | fbCclr (m : Fin 8) (c : Fin 24)
  /-- FB_CMP_WRITE (R203): FB_CMP, or the enables of FB_CMP_CFG. -/
  | fbCmpWrite (m : Fin 8) (c : Fin 24) (cfg : Bool) (v : Word)
  /-- SSI_TRANSACTION_START (R192). -/
  | ssiTransactionStart (c : Fin 24)
  /-- SSI_SAMPLE (R192): the word read, the line before the first clock and after the last. -/
  | ssiSample (c : Fin 24) (w : Word) (high trail : Bool)
  /-- FWD_CFG_WRITE (R204). -/
  | fwdCfgWrite (m n : Fin 8) (v : Word)
  -- Valve channels, groups and power dies (R216 to R242, R251, R461)
  /-- VALVE_COMMAND_RISE (R218). -/
  | valveCommandRise (n : Fin 128)
  /-- START_GRANT (R221). -/
  | startGrant (g : Fin 16)
  /-- PEAK_END (R218). -/
  | peakEnd (n : Fin 128)
  /-- VALVE_COMMAND_FALL (R219). -/
  | valveCommandFall (n : Fin 128)
  /-- DECAY_END (R218). -/
  | decayEnd (n : Fin 128)
  /-- VALVE_OBSERVATION (R226): what the drive measures at a channel. -/
  | valveObservation (n : Fin 128) (o : Fin 2000) (x : ValveObs)
  /-- HSON_TEST (R230): the node while pulled down, then up. -/
  | hsonTest (n : Fin 128) (down up : Bool)
  /-- HSOFF_WINDOW (R231). -/
  | hsoffWindow (g : Fin 16)
  /-- VG_TWIN (R231). -/
  | vgTwin (m : Fin 8) (g : Fin 16)
  /-- TEST_DONE (R231): the nodes of the group's channels in the window. -/
  | testDone (g : Fin 16) (levels : BitVec 8)
  /-- HS_TRIP (R233). -/
  | hsTrip (g : Fin 16) (o : Fin 2000)
  /-- VSUP_LOW (R233). -/
  | vsupLow (g : Fin 16) (o : Fin 2000) (mv : Nat)
  /-- VSUP_RESTORED (R233). -/
  | vsupRestored (g : Fin 16) (mv : Nat)
  /-- COIL_COOLING (R235). -/
  | coilCooling (n : Fin 128)
  /-- VG_LCLR (R235). -/
  | vgLclr (m : Fin 8) (n : Fin 128)
  /-- VG_SCLR (R228). -/
  | vgSclr (m : Fin 8) (n : Fin 128)
  /-- VG_RLEARN (R234). -/
  | vgRlearn (m : Fin 8) (n : Fin 128)
  /-- VG_CCTRL_CCLR (R241). -/
  | vgCctrlCclr (m : Fin 8) (n : Fin 128)
  /-- VG_CTRL_CCLR (R241). -/
  | vgCtrlCclr (m : Fin 8) (g : Fin 16)
  /-- VG_HS_CLR (R233). -/
  | vgHsClr (m : Fin 8) (g : Fin 16)
  /-- VG_DIE_CLR (R237): VG_CTRL of page 0x20. -/
  | vgDieClr (m : Fin 8) (d : Fin 4)
  /-- VG_CHANNEL_ENABLE (R241): VG_CCFG written with EN 1. -/
  | vgChannelEnable (m : Fin 8) (n : Fin 128) (v : Word)
  /-- DIE_HOT (R237). -/
  | dieHot (d : Fin 4) (tj : Word)
  /-- DIE_SHUT (R237). -/
  | dieShut (d : Fin 4) (o : Fin 2000) (tj : Word)
  /-- DIE_COOL (R237). -/
  | dieCool (d : Fin 4) (tj : Word)
  /-- GROUND_OFFSET_TRIP (R461). -/
  | groundOffsetTrip (d : Fin 4) (o : Fin 2000)
  /-- REGULATION_PERIOD_START (R220). -/
  | regulationPeriodStart (n : Fin 128)
  -- Valve slices, bridge pairs and fault inputs (R243 to R259)
  /-- SLICE_ENABLE (R243): VS_CFG written with EN 1. -/
  | sliceEnable (m : Fin 8) (n : Fin 128) (v : Word)
  /-- SLICE_RELOAD (R244). -/
  | sliceReload (n : Fin 128)
  /-- VS_DUTY_WRITE (R245). -/
  | vsDutyWrite (m : Fin 8) (n : Fin 128) (v : Word)
  /-- VS_COMMIT (R248). -/
  | vsCommit (m : Fin 8) (n : Fin 128)
  /-- VS_CCLR (R258). -/
  | vsCclr (m : Fin 8) (n : Fin 128)
  /-- BP_ENABLE (R249): BP_CFG written with EN 1. -/
  | bpEnable (m : Fin 8) (n : Fin 24) (v : Word)
  /-- BRIDGE_PERIOD_START (R249). -/
  | bridgePeriodStart (n : Fin 24)
  /-- BP_COMMIT (R248). -/
  | bpCommit (m : Fin 8) (n : Fin 24)
  /-- BP_CCLR (R258). -/
  | bpCclr (m : Fin 8) (n : Fin 24)
  /-- FAULT_INPUT_ASSERT (R251). -/
  | faultInputAssert (n : Fin 8) (o : Fin 2000)
  /-- PG_FLT_CLR (R252). -/
  | pgFltClr (m : Fin 8) (v : Word)
  /-- FAULT_INPUT_DEASSERT (R252). -/
  | faultInputDeassert (n : Fin 8)
  -- Load switches (R260 to R279)
  /-- LS_SOURCE_COMMAND_CHANGE (R264). -/
  | lsSourceCommandChange (n : Fin 24) (o : Fin 2000)
  /-- LSIN_CHANGE (R262). -/
  | lsinChange (n : Fin 24) (lvl : Bool)
  /-- LS_TRIP (R265): at the current `i`. -/
  | lsTrip (n : Fin 24) (o : Fin 2000) (i : Word)
  /-- RETRY_PAUSE_END (R265). -/
  | retryPauseEnd (n : Fin 24)
  /-- INRUSH_WINDOW_END (R264). -/
  | inrushWindowEnd (n : Fin 24)
  /-- TH_OFF (R267). -/
  | thOff (n : Fin 24) (o : Fin 2000) (tj : Word)
  /-- LS_COOL_DOWN (R267). -/
  | lsCoolDown (n : Fin 24) (o : Fin 2000) (tj : Word)
  /-- UV_OFF (R268). -/
  | uvOff (g : Fin 4) (o : Fin 2000) (mv : Nat)
  /-- UV_RESTART (R268). -/
  | uvRestart (g : Fin 4) (o : Fin 2000) (mv : Nat)
  /-- HB_LOST (R273). -/
  | hbLost
  /-- DIE_COLD (R275). -/
  | dieCold (o : Fin 2000)
  /-- LS_OCCLR (R266). -/
  | lsOcclr (m : Fin 8) (n : Fin 24)
  /-- LS_THCLR (R267). -/
  | lsThclr (m : Fin 8) (n : Fin 24)
  /-- LS_CCLR (R278). -/
  | lsCclr (m : Fin 8) (n : Fin 24)
  /-- COLD_CLR (R278). -/
  | coldClr (m : Fin 8)
  /-- HB_CLR (R278). -/
  | hbClr (m : Fin 8)
  /-- LS_RETENTION_LOSS (R275). -/
  | lsRetentionLoss
  -- The sensor front end (R280 to R311)
  /-- PC_CONVERSION_END (R281): what the modulators of the high and the low path gave, and their overranges. -/
  | pcConversionEnd (n : Fin 32) (h l : List Chop) (ovH ovL : Bool)
  /-- OPEN_WIRE_TRIP (R290). -/
  | openWireTrip (x : Comparator) (o : Fin 2000)
  /-- OPEN_WIRE_RELEASE (R290). -/
  | openWireRelease (x : Comparator)
  /-- CAL_SLOT_START (R293). -/
  | calSlotStart
  /-- CAL_TAKEOVER (R295). -/
  | calTakeover
  /-- CAL_DONE (R295): the currents the calibration measured, the reference's deviation, the coefficients found, and
  whether a test passed. -/
  | calDone (ia ib dev : Word) (coef : PcCoef) (testOk : Bool)
  /-- PC_CALREQ (R294). -/
  | pcCalreq (m : Fin 8) (n : Fin 32)
  /-- PC_TESTREQ (R294). -/
  | pcTestreq (m : Fin 8) (n : Fin 32)
  /-- PC_CCLR (R310). -/
  | pcCclr (m : Fin 8) (n : Fin 32)
  /-- INIT_CAL_END (R297): the coefficients and currents measured, by converter and channel. -/
  | initCalEnd (cur : List CalIn)
  /-- GC_RESULT (R298): the samples averaged. -/
  | gcResult (n : Fin 32) (o : Fin 2000) (samples : List GcSample)
  /-- SHUNT_OFF (R299). -/
  | shuntOff (n : Fin 32) (o : Fin 2000)
  /-- SHUNT_RECONNECT (R299): with what the one sample showed. -/
  | shuntReconnect (n : Fin 32) (inRange : Bool)
  /-- ZC_MEASUREMENT (R301): the admittance of the window before correction. -/
  | zcMeasurement (z : Fin 4) (re im : Word) (ovr : Bool)
  /-- AO_VAL_WRITE (R303). -/
  | aoValWrite (m : Fin 8) (a : Fin 4) (v : Word)
  /-- AO_FAULT (R304). -/
  | aoFault (a : Fin 4) (o : Fin 2000)
  -- The control engine (R312 to R337)
  /-- LOOP_ENABLE (R336): LP_CFG written with EN 1. -/
  | loopEnable (m : Fin 8) (n : Fin 64) (v : Word)
  /-- LOOP_SAMPLE_DISPATCH (R314). -/
  | loopSampleDispatch (n : Fin 64)
  /-- LOOP_SAMPLE_APPLY (R317). -/
  | loopSampleApply (n : Fin 64)
  /-- LP_BSWAP (R326). -/
  | lpBswap (m : Fin 8) (n : Fin 64)
  /-- LP_GSWAP (R326). -/
  | lpGswap (m : Fin 8) (j : Fin 2) (v : Word)
  /-- LP_FCLR (R330). -/
  | lpFclr (m : Fin 8) (n : Fin 64)
  /-- LP_CCLR (R336). -/
  | lpCclr (m : Fin 8) (n : Fin 64)
  /-- TG_START (R333). -/
  | tgStart (t : Fin 4) (a : TgArm)
  /-- TG_STOP (R333). -/
  | tgStop (m : Fin 8) (t : Fin 4)
  -- Drying paths and the store (R338 to R364)
  /-- DP_ENABLE (R350): DP_CFG written with EN 1. -/
  | dpEnable (m : Fin 8) (p : Fin 4) (v : Word)
  /-- PARCEL_BOUNDARY (R344). -/
  | parcelBoundary (p : Fin 4)
  /-- MODEL_STEP_DISPATCH (R347). -/
  | modelStepDispatch
  /-- MODEL_STEP_APPLY (R347). -/
  | modelStepApply
  /-- PARCEL_DISCHARGE (R349). -/
  | parcelDischarge (p : Fin 4)
  /-- FILL_DONE (R351). -/
  | fillDone (p : Fin 4)
  /-- DP_FULL (R351). -/
  | dpFull (m : Fin 8) (p : Fin 4)
  /-- DP_UNLOAD (R353). -/
  | dpUnload (m : Fin 8) (p : Fin 4)
  /-- DP_BCLR (R349). -/
  | dpBclr (m : Fin 8) (p : Fin 4)
  /-- DP_CCLR (R362). -/
  | dpCclr (m : Fin 8) (p : Fin 4)
  /-- ZONE_LOST (R343). -/
  | zoneLost (p z : Fin 4)
  /-- LOCKOUT (R355). -/
  | lockout (p : Fin 4)
  /-- SE_STALE (R357). -/
  | seStale (n : Fin 32)
  /-- BIN_EVALUATION (R358). -/
  | binEvaluation
  -- CAN controllers and serial buses (R365 to R391)
  /-- CAN_ENABLE (R389): CAN_CFG written with EN 1. -/
  | canEnable (m c : Fin 8) (v : Word)
  /-- CAN_DISABLE (R389): CAN_CFG written with EN 0. -/
  | canDisable (m c : Fin 8) (v : Word)
  /-- INTEGRATION_END (R377). -/
  | integrationEnd (c : Fin 8)
  /-- CAN_FRAME_RECEIVED (R369). -/
  | canFrameReceived (c : Fin 8) (o : Fin 2000) (f : CanBusIn)
  /-- CAN_TX_OFFER (R374). -/
  | canTxOffer (c : Fin 8)
  /-- TX_DONE (R375): with the transmitter delay measured. -/
  | txDone (c : Fin 8) (o : Fin 2000) (delay : Nat)
  /-- CAN_PROTOCOL_ERROR (R377): the error's code, the phase, whether an own identifier collided, how the
  counters move. -/
  | canProtocolError (c : Fin 8) (o : Fin 2000) (code : Fin 8) (data coll : Bool) (mv : CanErrIn)
  /-- BUSON (R378). -/
  | buson (c : Fin 8) (o : Fin 2000)
  /-- TXD_TO (R380). -/
  | txdTo (c : Fin 8) (o : Fin 2000)
  /-- CAN_FLUSHA (R376). -/
  | canFlusha (m c : Fin 8)
  /-- CAN_FLUSHB (R376). -/
  | canFlushb (m c : Fin 8)
  /-- CAN_CCLR (R389). -/
  | canCclr (m c : Fin 8)
  /-- SB_ENTRY_DUE (R383). -/
  | sbEntryDue (b : Fin 4) (e : Fin 64)
  /-- SB_TRIG (R383): SB_TRIG0 or SB_TRIG1. -/
  | sbTrig (m : Fin 8) (b : Fin 4) (hi : Bool) (v : Word)
  /-- SB_TRANSACTION_START (R383). -/
  | sbTransactionStart (b : Fin 4)
  /-- SB_RESPONSE_END (R384): the delay to its start bit in clocks, whether a character was bad, the bytes. -/
  | sbResponseEnd (b : Fin 4) (o : Fin 2000) (delay : Nat) (bad : Bool) (d : List Byte)
  /-- SB_TIMEOUT (R384). -/
  | sbTimeout (b : Fin 4)
  /-- STRAY (R385). -/
  | stray (b : Fin 4)
  /-- SB_CCLR (R390). -/
  | sbCclr (m : Fin 8) (b : Fin 4)
  /-- SB_REQUEST_END (R384). -/
  | sbRequestEnd (b : Fin 4)
  -- Queues and the queue engine (R392 to R402, R420 to R422)
  /-- Q_ENABLE (R393): Q_GEOM written with EN 1. -/
  | qEnable (m : Fin 8) (q : Fin 48) (v : Word)
  /-- Q_TAIL_WRITE (R394). -/
  | qTailWrite (m : Fin 8) (q : Fin 48) (v : Word)
  /-- Q_HEAD_WRITE (R395). -/
  | qHeadWrite (m : Fin 8) (q : Fin 48) (v : Word)
  /-- Q_FLUSH (R395). -/
  | qFlush (m : Fin 8) (q : Fin 48)
  /-- Q_CCLR (R420). -/
  | qCclr (m : Fin 8) (q : Fin 48)
  /-- CMD_WRITES (R398). -/
  | cmdWrites (i : Fin 4)
  /-- CMD_REPLAY (R398). -/
  | cmdReplay (i : Fin 4)
  -- The host link: ZHA over Ethernet, and the SPI port (R403 to R412)
  /-- ZHA_READ (R407). -/
  | zhaRead (f : ZhaFrame)
  /-- ZHA_WRITE (R407). -/
  | zhaWrite (f : ZhaFrame)
  /-- ZHA_WRITE_LIST (R407). -/
  | zhaWriteList (f : ZhaFrame)
  /-- ZHA_CMDQ (R407). -/
  | zhaCmdq (f : ZhaFrame)
  /-- ZHA_STREAM_ACK (R409). -/
  | zhaStreamAck (f : ZhaFrame)
  /-- ZHA_PING (R407). -/
  | zhaPing (f : ZhaFrame)
  /-- STREAM_FRAME_SEND (R409). -/
  | streamFrameSend (i : Fin 4)
  /-- STREAM_RESEND (R409). -/
  | streamResend (i : Fin 4)
  /-- ARP_REQUEST (R403). -/
  | arpRequest (p : Fin 2) (ip : Word)
  /-- ICMP_ECHO (R403). -/
  | icmpEcho (p : Fin 2) (data : List Byte)
  /-- HL_LINK (R403). -/
  | hlLink (p : Fin 2) (up : Bool) (sqi : Fin 8)
  /-- SPI_WRITE (R411): the bytes of the frame. -/
  | spiWrite (l : List Byte)
  /-- SPI_READ (R410): the bytes of the frame, and how many words were read before nCS rose. -/
  | spiRead (l : List Byte) (made : Nat)
  /-- SPI_STATUS (R410). -/
  | spiStatus
  /-- SPI_ERR (R410): the command byte. -/
  | spiErr (c : Fin 256)
  /-- ZHA_FRAME_DROP (R406). -/
  | zhaFrameDrop (d : DropFrame)
  /-- ARP_REPLY (R403). -/
  | arpReply (p : Fin 2) (ip : Word)
  /-- ARP_ENTRY_EXPIRY (R403). -/
  | arpEntryExpiry (i : Fin 4)
  -- Helper cores (R413 to R419)
  /-- HC_RUN_START (R415): HC_RUN written with RUN 1. -/
  | hcRunStart (m : Fin 8) (i : Fin 2) (v : Word)
  /-- HC_RELOAD_DONE (R415). -/
  | hcReloadDone (i : Fin 2)
  /-- HC_RUN_HALT (R415): HC_RUN written with RUN 0. -/
  | hcRunHalt (m : Fin 8) (i : Fin 2)
  /-- HC_TRAP (R415). -/
  | hcTrap (i : Fin 2) (pc cause tval : Word)
  /-- HC_WDT (R416). -/
  | hcWdt (i : Fin 2)
  /-- HC_KICK (R416). -/
  | hcKick (m : Fin 8) (i : Fin 2)
  /-- HC_TIMER_INTERRUPT (R414). -/
  | hcTimerInterrupt (i : Fin 2)
  /-- HC_DEBUG (R415). -/
  | hcDebug (i : Fin 2) (x : HcOp)
  -- Resets, start-up, the supervisor, the MRAM controller and the debug port (R424 to R442)
  /-- POWER_ON_RESET (R431). -/
  | powerOnReset
  /-- PIN_RESET (R425). -/
  | pinReset
  /-- MOD_RESET (R431): MOD_CTRL.RESET written with RMODE 0. -/
  | modReset (m : Fin 8)
  /-- MOD_RESET_RECORD (R443): the same with RMODE 1. -/
  | modResetRecord (m : Fin 8)
  /-- MOD_RESET_REPLAY (R447): the same with RMODE 2. -/
  | modResetReplay (m : Fin 8)
  /-- PLL_LOCK (R424): with VBAT_L then. -/
  | pllLock (mv : Nat)
  /-- MRAM_READY (R424). -/
  | mramReady
  /-- BOOT_DONE (R427): what the slots hold beyond the layout of R426. -/
  | bootDone (a b : Image)
  /-- HELPER_CORE_AUTOSTART (R424). -/
  | helperCoreAutostart
  /-- RELEASE (R430). -/
  | release (m : Fin 8)
  /-- CLK_FAULT (R435). -/
  | clkFault (o : Fin 2000)
  /-- XTAL_DRIFT (R435). -/
  | xtalDrift (ppm : Word)
  /-- TICK_FAULT (R436). -/
  | tickFault
  /-- VBAT_L_LOW (R437). -/
  | vbatLLow (mv : Nat)
  /-- RAIL_FAULT (R437). -/
  | railFault
  /-- TEMP_MAIN (R437). -/
  | tempMain (tj : Word)
  /-- HEARTBEAT_LOST_DIE (R438). -/
  | heartbeatLostDie (d : Fin 4)
  /-- HEARTBEAT_RESET_REQUEST (R438). -/
  | heartbeatResetRequest
  /-- SUP_HBCLR (R452). -/
  | supHbclr (m : Fin 8)
  /-- MM_WRITE (R429): MM_CMD written with CMD 1. -/
  | mmWrite (m : Fin 8) (v : Word)
  /-- MM_VERIFY (R429): MM_CMD written with CMD 2. -/
  | mmVerify (m : Fin 8) (v : Word)
  /-- MM_INVALIDATE (R429): MM_CMD written with CMD 3. -/
  | mmInvalidate (m : Fin 8) (v : Word)
  /-- MM_COMMAND_DONE (R429): with what the slot it verifies holds beyond the layout of R426. -/
  | mmCommandDone (b : Image)
  /-- DBG_HALT_PIN (R440). -/
  | dbgHaltPin (low : Bool)
  /-- DG_HALT (R440). -/
  | dgHalt (m : Fin 8)
  /-- DG_RESUME (R440). -/
  | dgResume (m : Fin 8)
  /-- DG_MRST (R431). -/
  | dgMrst (m : Fin 8)
  /-- EXTEST (R440). -/
  | extest
  /-- NRESET_RELEASE (R425). -/
  | nresetRelease
  /-- VBAT_L_RESTORED (R437). -/
  | vbatLRestored (mv : Nat)
  -- Recording and replay (R443 to R450)
  /-- RP_REC_HEAD_WRITE (R443). -/
  | rpRecHeadWrite (m : Fin 8) (v : Word)
  /-- REPLAY_START_CHECK (R447). -/
  | replayStartCheck (i : Fin 4)
  /-- REPLAY_GO (R447). -/
  | replayGo (m : Fin 8)
  /-- REPLAY_RECORD_MERGE (R449). -/
  | replayRecordMerge
  /-- REPLAY_END (R450). -/
  | replayEnd
deriving DecidableEq, Repr

end Sys2Proof
end

