-- ==== Sys2Proof/Decode.lean ====
section
/-!
DEFINITION. Sys2Proof/Decode.lean: the commands that words spell. The opcode table gives no row any bits: a command of this
module is a transaction, a frame or an event, and none is read from an instruction word.
-/

namespace Sys2Proof

/-- The command a word of `nbits` bits spells by the table: none does. -/
def decodeTableWord (_nbits _w : Nat) : Option Instr := none

end Sys2Proof
end

