-- ==== Sys2Proof/Machine/State.lean ====
section
/-!
DEFINITION. Sys2Proof/Machine/State.lean: the state of the module as plain data, the state after reset, and the reasons
a step can stop. Registers live in one sparse map keyed by family and instance (`regs`); an SN register's source value
lives there too and its holding copy in `held` (R53). What a block holds beside its registers stands in the structures
of Blocks.lean, one sparse map per kind of part.
-/

namespace Sys2Proof.Machine

/-- Why a step stops with a fault. The model has none: every access the manual refuses is answered with an error
response, and every fault of the manual is an effect on the state. -/
inductive Fault where
  /-- Raised by no meaning. Safe: a stop proves nothing about a next state. -/
  | none
deriving DecidableEq, Repr

/-- Why a command is refused. -/
inductive Refusal where
  /-- A command that has no meaning in this model. Safe: nothing can be proved about a next state. -/
  | notModelled (mnemonic : String)
deriving DecidableEq, Repr

/-- The key of a register in the sparse maps: the instance, then the family, of which there are fewer than 1024. -/
def Reg.key (r : Reg) (i : Nat) : Nat := 1024 * i + r.ctorIdx

/-- The family and the instance of a key. -/
def Reg.ofKey (k : Nat) : Reg × Nat := (Reg.ofNat (k % 1024), k / 1024)

/-- The reset value of an instance, where it differs between the instances of a family: PC_STAT.MOD, LS_INR.INR_MS,
Q_GEOM.ESIZE and OWNER, and the per-page identity of R44. -/
def Reg.resetAt (r : Reg) (i : Nat) : Word :=
  match r with
  | .PC_STAT => putBits r.info.reset 27 22 i
  | .LS_INR => if i < 8 then r.info.reset else putBits r.info.reset 8 0 20
  | .Q_GEOM =>
    let es := if i < 8 then 6 else if i < 24 then 5 else if i < 28 then 16 else if i < 30 then 129 else
      if i < 34 then 8 else if i < 46 then 2 else 3
    let w := putBits r.info.reset 31 24 es
    if 30 ≤ i ∧ i < 38 then putBits w 10 8 (2 + (i - 30) % 4) else w
  | .GUARD_STAT => 0#32
  | _ => r.info.reset

/-- DESIGN CHOICE (log 3). What a byte of SRAM or MRAM that nothing has written reads as; the manual leaves the SRAM
contents undefined after power-on (R42) and names no first contents of the MRAM. -/
def unlistedByte : Byte := 0#8

/-- The answer of one access: data, an error response, or FROZEN (R48, R66, R67). -/
inductive Resp where
  | ok (v : Word)
  | error
  | frozen
deriving DecidableEq, Repr

/-- How an access is made: the master's identity; the set of staging and window registers it uses, its identity or 8 + q
for command queue q (R110); the clock at which it is made (log 12); whether the protection tables are consulted (not by
the WRITE records of a replay, R448); and whether it is an axis-marked write (R125). -/
structure Access where
  id : Nat
  set : Nat
  t : Nat := 0
  checked : Bool := true
  marked : Bool := false
deriving DecidableEq, Repr

/-- A write that has completed and waits for phase 1 of the next tick (R13); `refused` where it got an error response. -/
structure Waiting where
  acc : Access
  addr : Nat
  val : Word
  refused : Bool := false
deriving DecidableEq, Repr

/-- The module. -/
structure State where
  /-- The commands that are waiting, first in, first out. -/
  pending : List Instr := []
  /-- The index k of the axis tick begun last; tick k begins at module time 2000 k (R11). -/
  tick : Nat := 0
  /-- Register values that differ from their reset values. -/
  regs : SMap Word := []
  /-- The SN holding registers that differ from their reset values (R53). -/
  held : SMap Word := []
  /-- The reset values the primer image supplies (R427). -/
  img : SMap Word := []
  /-- SRAM and MRAM by address, in bytes (R38, R39). -/
  mem : SMap Byte := []
  /-- Register writes that have completed and wait for phase 1 of the next tick, in completion order (R13). -/
  writes : List Waiting := []
  /-- By page, one more than the clock of the violation that its GUARD_STAT records (R70). -/
  violT : SMap Nat := []
  /-- The answers of the accesses of the last command, in order. -/
  resp : List Resp := []
  /-- The model's own counters of free values, no state of the manual's: one of values that reach outputs and records,
  one of the clocks of accesses and of the cores' own doings (log 12). -/
  free : Nat := 0
  acc : Nat := 0
  /-- Pages whose snapshot is taken at the end of the coming tick, page 0x00 for all of them (R53). -/
  snapDue : List Nat := []
  /-- Record sequence numbers of the queues, and the log records of the present tick, which reach Q38 and Q41 in the
  order of R396: phases, events, instances; the phase of the work under way (R13). -/
  qseq : SMap Nat := []
  logs : List LogRec := []
  phase : Nat := 1
  /-- The occurrences of events in the present tick, for the notices (R396, R402). -/
  occs : List Occ := []
  /-- Elements carried by each stream queue's outstanding frame (R409), by queue. -/
  streamOut : SMap Nat := []
  /-- Axes (R73 to R98) and the yaw unit (R89). -/
  axes : SMap Axis := []
  yaw : Yaw := {}
  /-- GNSS receivers (R81, R140, R141). -/
  gnss : SMap Gnss := []
  /-- Rated inputs of the axes and the geometry unit: the second and the inputs counted in it (R99, R140). -/
  rates : SMap (Nat × Nat) := []
  /-- Feedback channels, forwarding ports, and the rating over all channels: the millisecond and its edges (R208). -/
  fbs : SMap Fb := []
  fwds : SMap Fwd := []
  fbAllMs : Nat := 0
  fbAllN : Nat := 0
  /-- Lanes and frame templates (R104 to R130). -/
  lanes : SMap Lane := []
  tpls : SMap Tpl := []
  /-- Effective commands of L000 to L255 as ordered by the end of the present tick and of the one before: the outputs at
  T_(k+2) and T_(k+1) (R116); those of the remote lanes at the end of the present tick (R129). -/
  eff1 : BitVec 256 := 0
  eff2 : BitVec 256 := 0
  effRem : BitVec 512 := 0
  /-- PULSE marks of valve lanes that wait for their T_(k+2): tick, lane and width in µs (R109). -/
  pulses : List (Nat × Nat × Nat) := []
  /-- Loops with a SAMPLE mark fired, and generators with a CAPTURE mark fired, in the present tick (R109). -/
  sampleReq : List Nat := []
  captureReq : List Nat := []
  /-- The geometry unit (R136 to R181): its working state, the applicators, the open intervals by lane, the stencil and
  masking caches by tile, the IMU template, and by tile its place in the masking shadow of replay (R448). -/
  geo : Geo := {}
  apps : SMap Applic := []
  opens : SMap Opens := []
  stiles : SMap (Option STile) := []
  mtiles : SMap (Option MTile) := []
  imu : Imu := {}
  shadow : SMap (Option Nat) := []
  /-- Valve slices, bridge pairs, valve channels and groups (R216 to R255). -/
  slices : SMap Slice := []
  pairs : SMap Pair := []
  valves : SMap Valve := []
  vgroups : SMap VGroup := []
  /-- The clock at which EN of a fault input was set, by input (R251). -/
  fltEn : SMap Nat := []
  /-- Records for Q40 that phase 4 of the coming tick writes, by channel (R226, R239). -/
  vrecs : List (Nat × List Word) := []
  /-- The tick of the last release (R255). -/
  relTick : Nat := 0
  /-- Load switches (R260 to R277), the SENSE pin voltages (R272), whether the die has lost its feed (R275), the
  physical state held during replay (R277), and whether the die is on its own oscillator, no tick arriving (R273). -/
  lss : SMap Ls := []
  sense : SMap Word := []
  lsDown : Bool := false
  lsHold : Option LsHold := none
  lsOsc : Bool := false
  /-- The sensor front end (R280 to R305), with the coefficients of its converters 0 to 32 (R285, R295). -/
  pcs : SMap Pc := []
  rot : Rot := {}
  coefs : SMap PcCoef := []
  gcs : SMap Gc := []
  zcs : SMap Zc := []
  aos : SMap Ao := []
  /-- The control engine (R312 to R337): loops, groups and generators, whether the module has been released (R331), the
  dust-sheet holds of targets on their way (tick, kind, index, on), and the updates of values that phase 4 writes. -/
  lps : SMap Lp := []
  grps : SMap Grp := []
  tgs : SMap Tg := []
  lpReleased : Bool := false
  lpDustDue : List (Nat × Nat × Nat × Bool) := []
  upd4 : SMap (Option Upd4) := []
  /-- Drying paths, stamps of the last response of each cable sensor that is not stale, the tick since which each bin's
  window has stood, and contactor demands that phase 3 of the next tick writes (R338 to R364). -/
  dps : SMap Dp := []
  sensT : SMap (Option Nat) := []
  aeSince : SMap Nat := []
  kcDue : SMap (Option Bool) := []
  /-- CAN controllers and serial buses (R365 to R391), and by transmit FIFO the head that stood there at the end of the
  last tick of a replay (R448). -/
  cans : SMap Can := []
  sbs : SMap Sb := []
  canSeen : SMap (Option Nat) := []
  /-- Whether the present tick has ended for the router and the snapshots: commands that belong to the next tick have
  begun. -/
  closed : Bool := true
  /-- By command queue, one more than the tick in which the queue engine took its last element (R398). -/
  cmdT : SMap Nat := []
  /-- Host link and helper cores (R403 to R416): sessions, ports, what the last step sent, the cores, their local memories
  and what the primer image holds for them, by 2^18 × core + offset. -/
  sess : SMap Session := []
  ports : SMap Port := []
  out : List OutFrame := []
  hcs : SMap Hc := []
  hcMem : SMap Byte := []
  hcImg : SMap Byte := []
  /-- Resets, start-up, the MRAM controller, recording and replay (R424 to R454), records for Q38 that wait until the
  queues run (R427); and the image key in one-time memory (R426). -/
  boot : Boot := {}
  mm : Mm := {}
  recorder : Recorder := {}
  replay : Replay := {}
  early : List LogRec := []
  imgKey : Option (List Byte) := none
deriving DecidableEq, Repr

/-- The module right after a reset is entered: nothing listed, every register at its table's reset value. -/
def State.reset : State := {}

end Sys2Proof.Machine
end

