-- ==== Sys2Proof/Machine/Ops.lean ====
section
/-!
DEFINITION. Sys2Proof/Machine/Ops.lean: the operations every block is written with: registers and their fields, memory,
events (R46, R103 and the event tables), causes, queue elements and log records (R393 to R397), departures from the
promise (R33), axis positions and the staged values of the identities.
-/

namespace Sys2Proof.Machine
namespace State

/-! ### Registers -/

/-- The live value of a register: its own value, or an SN register's source value (R53). -/
def get (s : State) (r : Reg) (i : Nat) : Word := SMap.get (r.resetAt i) s.regs (r.key i)

def put (s : State) (r : Reg) (i : Nat) (v : Word) : State :=
  { s with regs := SMap.set (r.resetAt i) s.regs (r.key i) v }

def fld (s : State) (f : Field) (i : Nat) : Nat := bitsOf (s.get f.reg i) f.hi f.lo

def flag (s : State) (f : Field) (i : Nat) : Bool := s.fld f i != 0

def setFld (s : State) (f : Field) (i v : Nat) : State := s.put f.reg i (putBits (s.get f.reg i) f.hi f.lo v)

def setFlag (s : State) (f : Field) (i : Nat) (b : Bool) : State := s.setFld f i (b2n b)

/-- Bit `b` of a register. -/
def rbit (s : State) (r : Reg) (i b : Nat) : Bool := bitAt (s.get r i) b

def setRbit (s : State) (r : Reg) (i b : Nat) (v : Bool) : State := s.put r i (putBit (s.get r i) b v)

/-- Replaces bits [hi:lo] of a register. -/
def setFldOf (s : State) (r : Reg) (i hi lo v : Nat) : State := s.put r i (putBits (s.get r i) hi lo v)

/-- Adds one to a counter field, saturating. -/
def incSat (s : State) (f : Field) (i : Nat) : State := s.setFld f i (satInc (f.hi + 1 - f.lo) (s.fld f i))

/-- Adds one to a counter field, modulo its width. -/
def incMod (s : State) (f : Field) (i : Nat) : State := s.setFld f i (s.fld f i + 1)

/-- Adds `n` to a counter field, modulo its width or saturating. -/
def addMod (s : State) (f : Field) (i n : Nat) : State := s.setFld f i (s.fld f i + n)
def addSat (s : State) (f : Field) (i n : Nat) : State :=
  s.setFld f i (min (s.fld f i + n) (2 ^ (f.hi + 1 - f.lo) - 1))

/-- A 64-bit value held in a LO and a HI register. -/
def get64 (s : State) (lo hi : Reg) (i : Nat) : Nat := (s.get lo i).toNat + 2 ^ 32 * (s.get hi i).toNat
def put64 (s : State) (lo hi : Reg) (i t : Nat) : State := (s.put lo i (loW t)).put hi i (hiW t)

/-- The value a register takes at a reset: the primer image's where it gives one (R427), else the table's. -/
def resetVal (s : State) (r : Reg) (i : Nat) : Word := SMap.get (r.resetAt i) s.img (r.key i)

/-- The page on which a register instance stands; the window registers of the loops are numbered by identity and loop. -/
def regPage (r : Reg) (i : Nat) : Nat :=
  let f := r.info
  match r with
  | .LP_BSEL => 0x50 + i % 8
  | .LP_KP | .LP_KI | .LP_KD | .LP_TF | .LP_B | .LP_C | .LP_KT | .LP_KFF => 0x50 + i / 16
  | _ => if f.per = 0 then f.page else f.page + i / f.per

/-! ### Time -/

/-- `T_k` of the present tick and of the coming one (R11). -/
def T (s : State) : Nat := 2000 * s.tick
def Tn (s : State) : Nat := 2000 * (s.tick + 1)

/-- Module time `ofs` clocks after the present tick began. -/
def clk (s : State) (ofs : Nat) : Nat := s.T + ofs

/-! ### Memory -/

def rdByte (s : State) (a : Nat) : Byte := SMap.get unlistedByte s.mem a
def wrByte (s : State) (a : Nat) (b : Byte) : State := { s with mem := SMap.set unlistedByte s.mem a b }

/-- `n` bytes from an address upward. -/
def rdBytes (s : State) (a : Nat) : Nat → List Byte
  | 0 => []
  | n + 1 => s.rdByte a :: rdBytes s (a + 1) n

def wrBytes (s : State) (a : Nat) : List Byte → State
  | [] => s
  | b :: bs => wrBytes (s.wrByte a b) (a + 1) bs

def rdWord (s : State) (a : Nat) : Word := bytesWord (s.rdBytes a 4)
def wrWord (s : State) (a : Nat) (w : Word) : State := s.wrBytes a (wordBytes w)

def wrWords (s : State) (a : Nat) : List Word → State
  | [] => s
  | w :: ws => wrWords (s.wrWord a w) (a + 4) ws

def rdWords (s : State) (a : Nat) : Nat → List Word
  | 0 => []
  | n + 1 => s.rdWord a :: rdWords s (a + 4) n

/-! ### Recording and replay (R443 to R448) -/

/-- The module runs a replay reset's session (MOD_STAT.RMODE 2, R447). -/
def inReplay (s : State) : Bool := s.fld MOD_STAT_RMODE 0 == 2

def recording (s : State) : Bool := s.fld RP_STAT_STATE 0 == 1

/-- Adds a record of the recording: its kind, index, stamp and body words (R446). -/
def recNote (rk inst stamp : Nat) (body : List Word) (s : State) : State :=
  if s.recording then
    let r := [BitVec.ofNat 32 (rk * 2 ^ 26 + inst % 1024 * 2 ^ 16 + 4 * body.length), loW stamp, hiW stamp] ++ body
    { s with recorder := { s.recorder with recs := s.recorder.recs ++ [r] } }
  else s

/-! ### Departures, events, causes -/

/-- A departure of R33: MOD_FAULT.PROMISE stands until the next reset. -/
def depart (s : State) : State := s.setFlag MOD_FAULT_PROMISE 0 true

/-- The page and the EVT_PEND bit of an event (the event table of each chapter). -/
def evtHome (e : Nat) : Nat × Nat :=
  if e < 8 then (0x00, e) else if e < 16 then (0x03, e - 8) else if e < 32 then (0x01, e - 16)
  else if e < 48 then (0x04, e - 32) else if e < 64 then (0x08, e - 48) else if e < 80 then (0x10, e - 64)
  else if e < 104 then (0x14 + (e - 80) / 3, (e - 80) % 3) else if e < 120 then (0x20 + (e - 104), 0)
  else if e < 128 then (0x20, 8 + (e - 120)) else if e < 136 then (0x38, e - 128)
  else if e < 160 then (0x3C + (e - 136) / 8, (e - 136) % 8) else if e < 168 then (0x40 + (e - 160), 0)
  else if e < 172 then (0x48 + (e - 168), 0) else if e < 180 then (0x4C, e - 172)
  else if e < 184 then (0x40, 8 + (e - 180)) else if e < 192 then (0x50 + (e - 184), 0)
  else if e < 200 then (0x50, 8 + (e - 192)) else if e < 204 then (0x58 + (e - 200), 0)
  else if e < 208 then (0x5C, e - 204) else if e < 224 then (0x60 + (e - 208) / 2, (e - 208) % 2)
  else if e < 228 then (0x68 + (e - 224), 0) else if e < 244 then (0x6C + (e - 228) / 4, (e - 228) % 4)
  else if e < 248 then (0x70, e - 244) else if e < 250 then (0x72 + (e - 248), 0)
  else if e < 252 then (0x72 + (e - 250), 1) else if e < 254 then (0x78, e - 252) else (0x7C, e - 254)

/-- The events of a page (the event table of each chapter). -/
def evtsOf (p : Nat) : List Nat := pick 256 fun e => (evtHome e).1 == p

/-- The event bits that a page has; the others are reserved and never set (R103, R242, R364, R391). -/
def evtBits (p : Nat) : Word := (evtsOf p).foldl (fun w e => putBit w (evtHome e).2 true) 0#32

/-- Raises an event: its EVT_PEND bit is set, and its EVT_RAW bit for the tick of the occurrence (R46). -/
def raise (e : Nat) (s : State) : State :=
  (s.setRbit .EVT_PEND (evtHome e).1 (evtHome e).2 true).setRbit .EVT_RAW (evtHome e).1 (evtHome e).2 true

/-- An occurrence of an event, for its notice. -/
def occur (e inst cau : Nat) (stamp : Option Nat) (s : State) : State :=
  { s with occs := s.occs ++ [{ evt := e, inst := inst, cau := cau, stamp := stamp }] }

/-- Raises an event of an instance that has no record. -/
def raiseOf (e inst cau : Nat) (s : State) : State := occur e inst cau none (s.raise e)

/-- The causes of an instance of a cause register that its mask enables. -/
def enabled (s : State) (er mr : Reg) (i : Nat) : Word := s.get er i &&& s.get mr i

/-- Whether any of `n` instances from `i` has an enabled cause. -/
def anyOf (s : State) (er mr : Reg) (i n : Nat) : Bool := (List.range n).any fun j => s.enabled er mr (i + j) != 0#32

/-- The present state of the condition behind an event, where the event stands for causes of a cause register (R46, R213,
R242, R279, R311, R337, R364, R391, R420); none for the others, which are of the occurrence type (log 129). -/
def evtLevel (s : State) (e : Nat) : Option Bool :=
  if e < 80 then none
  else if e < 104 then some (s.anyOf .FB_EVT .FB_EVT_MASK (e - 80) 1)
  else if e < 120 then some (s.anyOf .VG_EVT .VG_EVT_MASK (e - 104) 1)
  else if e = 128 then some (s.anyOf .VS_CLIP .VS_CLIP_MASK 0 8)
  else if e = 129 then some (s.anyOf .BP_EVT .BP_EVT_MASK 0 4)
  else if e < 136 then none
  else if e < 160 then some (s.anyOf .LS_EVT .LS_EVT_MASK (e - 136) 1)
  else if e < 168 then some (s.anyOf .PC_EVT .PC_EVT_MASK (4 * (e - 160)) 4)
  else if e < 172 then some (s.anyOf .GC_EVT .GC_EVT_MASK (8 * (e - 168)) 8)
  else if e < 176 then some (s.get .ZC_EVT (e - 172) != 0#32)
  else if e < 180 then some (s.get .AO_EVT (e - 176) != 0#32)
  else if e < 184 then none
  else if e < 192 then some (s.anyOf .LP_EVT .LP_EVT_MASK (8 * (e - 184)) 8)
  else if e < 200 then none
  else if e < 204 then some (s.anyOf .DP_EVT .DP_EVT_MASK (e - 200) 1)
  else if e < 208 then none
  else if e < 224 then
    let c := s.enabled .CAN_EVT .CAN_EVT_MASK ((e - 208) / 2)
    some (if e % 2 = 0 then bitsOf c 7 0 != 0 else bitsOf c 15 8 != 0)
  else if e < 228 then some (s.anyOf .SB_EVT .SB_EVT_MASK (e - 224) 1)
  else if e < 244 then
    let j := (e - 228) / 4
    let w := if e % 4 < 2 then s.enabled .Q_EVT0 .Q_EVT_MASK0 j else s.enabled .Q_EVT1 .Q_EVT_MASK1 j
    some (if e % 2 = 0 then bitsOf w 11 0 != 0 else bitsOf w 27 16 != 0)
  else if e = 252 then some (bitAt (s.enabled .RP_EVT .RP_EVT_MASK 0) 0)
  else if e = 253 then some (bitsOf (s.enabled .RP_EVT .RP_EVT_MASK 0) 4 1 != 0)
  else none

/-- EVT_RAW of a page: the conditions that stand, and the occurrences of the tick (R46). -/
def evtRaw (s : State) (p : Nat) : Word :=
  (evtsOf p).foldl (fun w e => match s.evtLevel e with
    | some b => putBit w (evtHome e).2 b
    | none => w) (s.get .EVT_RAW p)

/-- An event is asserted while its EVT_PEND and EVT_MASK bits are both 1 (R399). -/
def asserted (s : State) (e : Nat) : Bool :=
  s.rbit .EVT_PEND (evtHome e).1 (evtHome e).2 && s.rbit .EVT_MASK (evtHome e).1 (evtHome e).2

/-- Sets cause bit `b` of instance `i` of a cause register and raises `e` when the cause is enabled in the mask. -/
def cause (er mr : Reg) (i b e : Nat) (s : State) : State :=
  let s := s.setRbit er i b true
  if s.rbit mr i b then s.raiseOf e i b else s

/-! ### Queues (R392 to R397) -/

/-- Element size in bytes (R392). -/
def qSize (q : Nat) : Nat :=
  if q < 8 then 96 else if q < 24 then 80 else if q < 28 then 256 else if q < 30 then 2064
  else if q < 34 then 128 else if q < 46 then 32 else 48

def qN (s : State) (q : Nat) : Nat := 2 ^ s.fld Q_GEOM_LOG2N q
def qHead (s : State) (q : Nat) : Nat := s.fld Q_HEAD_INDEX q
def qTail (s : State) (q : Nat) : Nat := s.fld Q_TAIL_INDEX q
def qFill (s : State) (q : Nat) : Nat := (s.qTail q + 65536 - s.qHead q) % 65536
def qSlot (s : State) (q i : Nat) : Nat :=
  (bitsOf (s.get .Q_BASE q) 31 4) * 16 + qSize q * (i % s.qN q)

/-- Queues whose overflow leaves the promise (R32). -/
def qDet (q : Nat) : Bool := !(34 ≤ q && q ≤ 37)

/-- A cause of a queue: WM 0 and OVF 1 in Q_EVT0, ERR 2 and EMPTY 3 in Q_EVT1, each with its event (R420, R422). -/
def qCause (q c : Nat) (s : State) : State :=
  let j := q / 12
  let i := q % 12
  match c with
  | 0 => cause .Q_EVT0 .Q_EVT_MASK0 j i (228 + 4 * j) s
  | 1 => cause .Q_EVT0 .Q_EVT_MASK0 j (16 + i) (229 + 4 * j) s
  | 2 => cause .Q_EVT1 .Q_EVT_MASK1 j i (230 + 4 * j) s
  | _ => cause .Q_EVT1 .Q_EVT_MASK1 j (16 + i) (231 + 4 * j) s

/-- Q_STAT.FILL, FULL and EMPTY after a move of HEAD or TAIL. -/
def qStat (q : Nat) (s : State) : State :=
  let n := s.qFill q
  ((s.setFld Q_STAT_FILL q n).setFlag Q_STAT_FULL q (n == s.qN q)).setFlag Q_STAT_EMPTY q (n == 0)

/-- Moves TAIL to `t`; the WM cause is set when the fill rises from below Q_WMARK to it or above (R397). -/
def qSetTail (q t : Nat) (s : State) : State :=
  let f0 := s.qFill q
  let s := qStat q (s.setFld Q_TAIL_INDEX q t)
  let wm := s.fld Q_WMARK_WMARK q
  if wm != 0 && decide (f0 < wm) && decide (wm ≤ s.qFill q) then qCause q 0 s else s

/-- Queues whose consumer is hardware (R395). -/
def qHwCons (q : Nat) : Bool := (8 ≤ q && q ≤ 23) || (28 ≤ q && q ≤ 33)

/-- Queues whose producer is hardware (R392): a master write to their Q_TAIL is refused (R395). -/
def qHwProd (q : Nat) : Bool := q < 8 || (24 ≤ q && q ≤ 27) || 34 ≤ q

/-- Moves HEAD to `h`; the EMPTY cause of a queue consumed by hardware is set when its fill falls to 0 (R397). -/
def qSetHead (q h : Nat) (s : State) : State :=
  let f0 := s.qFill q
  let s := qStat q (s.setFld Q_HEAD_INDEX q h)
  if qHwCons q && f0 != 0 && s.qFill q == 0 then qCause q 3 s else s

def qSeq (s : State) (q : Nat) : Nat := SMap.get 0 s.qseq q
def qSeqInc (q : Nat) (s : State) : State := { s with qseq := SMap.set 0 s.qseq q (modInc 16 (s.qSeq q)) }

/-- Elements of a stream queue that an outstanding frame carries are never dropped (R394, R409). -/
def qHeld (s : State) (q : Nat) : Nat := SMap.get 0 s.streamOut q

/-- Puts an element, given as words, into the next slot; the queue has room. -/
def qPut (q : Nat) (ws : List Word) (s : State) : State :=
  qSetTail q ((s.qTail q + 1) % 65536) (s.wrWords (s.qSlot q (s.qTail q)) ws)

/-- A rejection: counted, shown and raised (R394). -/
def qReject (q n : Nat) (s : State) : State :=
  qCause q 1 ((s.addSat Q_CNT_OVF q n).setFlag Q_STAT_OVF q true)

/-- Drops the oldest element that no outstanding frame carries: HEAD advances, or behind a frame's elements the later
ones move up by one slot (R394). -/
def qDropOld (s : State) (q : Nat) : State :=
  if s.qHeld q = 0 then s.setFld Q_HEAD_INDEX q ((s.qHead q + 1) % 65536)
  else
    let n := s.qFill q
    let h := s.qHead q
    let s := (pick n fun k => s.qHeld q ≤ k && k + 1 < n).foldl (fun t k =>
      t.wrWords (t.qSlot q ((h + k) % 65536)) (t.rdWords (t.qSlot q ((h + k + 1) % 65536)) (qSize q / 4))) s
    s.setFld Q_TAIL_INDEX q ((s.qTail q + 65535) % 65536)

/-- Offers one element to a queue, without the Q38 record of a rejection: the new state and whether it was taken.
The element's words may use the record sequence number (R396). A DROP_OLD queue makes room by advancing HEAD (R394). -/
def qOfferRaw (q : Nat) (ws : Nat → List Word) (s : State) : State × Bool :=
  let w := ws (s.qSeq q)
  let s := qSeqInc q s
  if !s.flag Q_GEOM_EN q then (qReject q 1 s, false)
  else if s.qFill q < s.qN q then (qPut q w s, true)
  else if s.fld Q_GEOM_POLICY q == 1 && !qDet q && decide (s.qHeld q < s.qFill q) then
    (qPut q w (((s.qDropOld q).addSat Q_CNT_OVF q 1).setFlag Q_STAT_OVF q true), true)
  else (qReject q 1 s, false)

/-- The 32 B record of R396. -/
def record (typ inst cau evt stamp : Nat) (detail : List Word) (seq : Nat) : List Word :=
  [BitVec.ofNat 32 (typ % 16 * 2 ^ 28 + inst % 1024 * 2 ^ 14 + cau % 64 * 2 ^ 8 + evt % 256),
   loW stamp, hiW stamp, BitVec.ofNat 32 (seq * 2 ^ 16)] ++ (detail ++ List.replicate 4 0#32).take 4

/-- A record of the log `q`, on its way there. -/
def logTo (q inst cau evt stamp : Nat) (detail : List Word) (s : State) : State :=
  occur evt inst cau (some stamp)
    { s with logs := s.logs ++ [{ q := q, phase := s.phase, inst := inst, cau := cau, evt := evt, stamp := stamp,
                                  detail := detail }] }

/-- A fault-log record in Q38. Before the queues run a record waits for them (R427, log 80). -/
def log38 (inst cau evt stamp : Nat) (detail : List Word) (s : State) : State :=
  if s.fld MOD_STAT_BOOT 0 = 0 then
    { s with early := s.early ++ [{ q := 38, phase := 1, inst := inst, cau := cau, evt := evt, stamp := stamp,
                                    detail := detail }] }
  else logTo 38 inst cau evt stamp detail s

/-- What a rejection of a hardware producer's element gives beside the counts: one Q38 record, with the producer's own
details, and on a determinism-class queue a departure (R32, R33, R394). -/
def qLostBy (q stamp : Nat) (detail : List Word) (s : State) : State :=
  let s := if q = 38 then s else log38 q (16 + q % 12) (229 + 4 * (q / 12)) stamp detail s
  if qDet q then depart s else s

def qLost (q stamp : Nat) (s : State) : State := qLostBy q stamp [] s

/-- Offers one element of a hardware producer. -/
def qOffer (q stamp : Nat) (ws : Nat → List Word) (s : State) : State :=
  let r := qOfferRaw q ws s
  if r.2 then r.1 else qLost q stamp r.1

/-- A general-log record in Q41 (R396). -/
def log41 (inst cau evt stamp : Nat) (detail : List Word) (s : State) : State := logTo 41 inst cau evt stamp detail s

/-- The order of the records of one tick (R396). -/
def logKey (r : LogRec) : Nat := (r.phase * 256 + r.evt) * 1024 + r.inst

def logInsert (r : LogRec) : List LogRec → List LogRec
  | [] => [r]
  | x :: l => if logKey x ≤ logKey r then x :: logInsert r l else r :: x :: l

def logSort (l : List LogRec) : List LogRec := l.foldl (fun a r => logInsert r a) []

/-- Writes a record to its queue; a rejection by Q38 is counted and writes no further record (R394). -/
def logWrite (r : LogRec) (s : State) : State :=
  qOffer r.q r.stamp (record 1 r.inst r.cau r.evt r.stamp r.detail) s

/-- The log records of the tick so far reach Q41, then Q38, which also logs what Q41 rejects. -/
def logFlush (s : State) : State :=
  let g := logSort (s.logs.filter fun r => r.q == 41)
  let s := g.foldl (fun s r => logWrite r s) ({ s with logs := s.logs.filter fun r => r.q != 41 } : State)
  let l := logSort s.logs
  l.foldl (fun s r => logWrite r s) ({ s with logs := [] } : State)

/-- Raises an event with its record in Q38. -/
def raiseLog (e inst cau stamp : Nat) (detail : List Word) (s : State) : State :=
  log38 inst cau e stamp detail (s.raise e)

/-- Cause 0x3F: none (R396). -/
def noCause : Nat := 0x3F

/-- A 48-bit or 64-bit value in a record: two words, low word first (R396). -/
def pair48 (v : Int) : List Word := [loW (unsig 64 v), hiW (unsig 64 v)]

/-! ### Fault reactions (R439) -/

/-- A fault reaction sets its bit in MOD_FAULT, raises E004, writes a record and leaves the promise (R33). -/
def faultReact (b inst stamp : Nat) (s : State) : State :=
  depart <| raiseLog 4 inst b stamp [] (s.setFld MOD_FAULT_REACT 0 (s.fld MOD_FAULT_REACT 0 ||| 2 ^ b))

/-! ### Values that phase 4 writes and the control engine reads (R312) -/

/-- Updates a source of R312 in phase 4. -/
def put4 (r : Reg) (i : Nat) (v : Word) (s : State) : State :=
  let u : Upd4 := match SMap.get none s.upd4 (r.key i) with
    | some e => if e.t = s.tick then e else { t := s.tick, old := s.get r i, before := some e.t }
    | none => { t := s.tick, old := s.get r i }
  ({ s with upd4 := SMap.set none s.upd4 (r.key i) (some u) } : State).put r i v

/-- Such a value as it stands at the start of phase 4, with the tick of its last update. -/
def get4 (s : State) (r : Reg) (i : Nat) : Word × Option Nat :=
  match SMap.get none s.upd4 (r.key i) with
  | some e => if e.t = s.tick then (e.old, e.before) else (s.get r i, some e.t)
  | none => (s.get r i, none)

/-- A register family's updates are forgotten with the reset of its domain. -/
def clear4 (r : Reg) (s : State) : State :=
  { s with upd4 := s.upd4.filter fun e => e.1 % 1024 != r.ctorIdx }

/-- A fresh value that the manual leaves open (log 12). -/
def freeVal (s : State) : Word × State := (Config.freeWord s.free, { s with free := s.free + 1 })

/-! ### Answers of accesses -/

def answer (s : State) (a : Resp) : State := { s with resp := s.resp ++ [a] }

/-! ### Axes -/

def ax (s : State) (i : Nat) : Axis := SMap.get {} s.axes i
def setAx (s : State) (i : Nat) (a : Axis) : State := { s with axes := SMap.set {} s.axes i a }
def modAx (i : Nat) (f : Axis → Axis) (s : State) : State := s.setAx i (f (s.ax i))

/-- The position of an axis, a signed 48-bit number of AU (R16, R18). -/
def axPos (s : State) (i : Nat) : Int :=
  signed 48 ((s.get .AX_POS_LO i).toNat + 2 ^ 32 * (s.get .AX_POS_HI i).toNat)

def setAxPos (i : Nat) (x : Int) (s : State) : State :=
  let n := unsig 64 (wrap48 x)
  (s.put .AX_POS_LO i (loW n)).put .AX_POS_HI i (hiW n)

def axVel (s : State) (i : Nat) : Word := s.get .AX_VEL i
def axAcc (s : State) (i : Nat) : Word := s.get .AX_ACC i

/-- AX_STAT.STATE: 0 OFF, 1 RUN, 2 COAST, 3 STOPPED, 4 ACQUIRE, 5 HOLD. -/
def axState (s : State) (i : Nat) : Nat := s.fld AX_STAT_STATE i
def axEn (s : State) (i : Nat) : Bool := s.flag AX_CFG_EN i
def axType (s : State) (i : Nat) : Nat := s.fld AX_CFG_TYPE i

/-! ### Feedback channels -/

def fbc (s : State) (i : Nat) : Fb := SMap.get {} s.fbs i
def setFb (s : State) (i : Nat) (f : Fb) : State := { s with fbs := SMap.set {} s.fbs i f }
def modFb (i : Nat) (f : Fb → Fb) (s : State) : State := s.setFb i (f (s.fbc i))
def fwd (s : State) (i : Nat) : Fwd := SMap.get {} s.fwds i
def setFwd (s : State) (i : Nat) (f : Fwd) : State := { s with fwds := SMap.set {} s.fwds i f }
def modFwd (i : Nat) (f : Fwd → Fwd) (s : State) : State := s.setFwd i (f (s.fwd i))

end State
end Sys2Proof.Machine
end

