-- ==== Sys2Proof/Machine/Feedback.lean ====
section
/-!
DEFINITION. Sys2Proof/Machine/Feedback.lean: the feedback channels and forwarding ports (R184 to R215): filtered edges,
the counting modes, index and line count, periods and the tracking observer, channel faults and staleness, compare,
SSI, and the ports' lines.
-/

namespace Sys2Proof.Machine
namespace State

/-- FB_CFG.MODE: 0 quadrature, 1 Hall, 2 pulse/direction, 3 single pulse, 4 plain input, 5 SSI (R187). -/
def fbMode (s : State) (c : Nat) : Nat := s.fld FB_CFG_MODE c
def fbEn (s : State) (c : Nat) : Bool := s.flag FB_CFG_EN c
def fbInv (s : State) (c : Nat) : Bool := s.flag FB_CFG_DIR_INV c
def fbPos (s : State) (c : Nat) : Int := wint (s.get .FB_POS c)

/-- The direction of the latest edge taken: true is down (FB_STAT.DIR). -/
def fbDown (s : State) (c : Nat) : Bool := s.flag FB_STAT_DIR c

/-- A cause of a channel; E(080 + c) when it is enabled (R213). -/
def fbCause (c b : Nat) (s : State) : State := cause .FB_EVT .FB_EVT_MASK c b (80 + c) s

/-- A cause with its Q38 record: channel, cause, stamp and FB_POS (R213). -/
def fbCauseLog (c b t : Nat) (more : List Word) (s : State) : State :=
  log38 c b (80 + c) t (s.get .FB_POS c :: more) (s.fbCause c b)

/-- The channel enters fault (R200). -/
def fbFault (c t : Nat) (s : State) : State :=
  if s.flag FB_STAT_FAULT c then s else fbCauseLog c 0 t [] (s.setFlag FB_STAT_FAULT c true)

/-- The fault clears: a new block starts and the period restarts (R195, R199, R200). -/
def fbFaultClear (c : Nat) (s : State) : State :=
  if s.flag FB_STAT_FAULT c then
    fbCause c 10 ((s.setFlag FB_STAT_FAULT c false).modFb c fun f => { f with blkN := 0, blkErr := 0, hist := [] })
  else s

/-! ### Forwarding lines -/

/-- Puts a line change into a schedule, in order of its clock. -/
def schedule (e : Nat × Nat × Bool) : List (Nat × Nat × Bool) → List (Nat × Nat × Bool)
  | [] => [e]
  | d :: r => if d.2.1 ≤ e.2.1 then d :: schedule e r else e :: d :: r

/-- Schedules a line change of port `n` at a clock: line 0 A, 1 B, 2 Z. -/
def fwdEmit (n line t : Nat) (v : Bool) (s : State) : State :=
  s.modFwd n fun f => { f with edges := schedule (line, t, v) f.edges }

/-- A pulse of `w` clocks on line A of port `n` from the clock `t`: a new pulse while the line is high ends at the later
of the two ends (R207). -/
def fwdPulse (n t w : Nat) (s : State) : State :=
  s.modFwd n fun f =>
    if t < f.pulseEnd then
      { f with pulseEnd := max f.pulseEnd (t + w)
               edges := schedule (0, max f.pulseEnd (t + w), false)
                 (f.edges.filter fun e => !(e.1 == 0 && !e.2.2 && decide (t ≤ e.2.1))) }
    else { f with pulseEnd := t + w, edges := schedule (0, t + w, false) (schedule (0, t, true) f.edges) }

/-- MODE, SRC, FMT, INV and ZPASS of a port as they are in effect (R204). -/
def fwdMode (s : State) (n : Nat) : Nat := bitsOf (s.fwd n).cfg 2 0
def fwdSrc (s : State) (n : Nat) : Nat := bitsOf (s.fwd n).cfg 12 8
def fwdFmt (s : State) (n : Nat) : Bool := bitAt (s.fwd n).cfg 13
def fwdInv (s : State) (n : Nat) : Bool := bitAt (s.fwd n).cfg 4
def fwdZpass (s : State) (n : Nat) : Bool := bitAt (s.fwd n).cfg 14

/-- Ports in `mode` whose SRC names `src`. -/
def fwdPorts (s : State) (mode src : Nat) : List Nat := pick 8 fun n => s.fwdMode n == mode && s.fwdSrc n == src

/-- Pass-through of a filtered edge of line `l` (0 A, 1 B, 2 Z): it leaves (FILT + 2) or (ZFILT + 2) clocks after its
stamp (R205, R214). -/
def fwdPass (c l t : Nat) (v : Bool) (s : State) : State :=
  if s.fbEn c && s.fbMode c != 5 then
    each (s.fwdPorts 1 c) (fun n s =>
      if l == 2 && !s.fwdZpass n then s
      else fwdEmit n l (t + (if l == 2 then s.fld FB_FILT_ZFILT c else s.fld FB_FILT_FILT c) + 2) v s) s
  else s

/-! ### Compare -/

/-- Whether a value lies strictly beyond FB_POS `p` in CMP_DIR (R203). -/
def cmpAhead (down : Bool) (p v : Int) : Bool := if down then decide (signed 32 (unsig 32 (v - p)) < 0)
  else decide (0 < signed 32 (unsig 32 (v - p)))

/-- The hits of one count change from `p` to `q`, with the AUTO advance tested against the same change (R202). -/
def fbHits (c t : Nat) (p q : Int) : Nat → State → State
  | 0, s => s
  | k + 1, s =>
    let down := s.flag FB_CMP_CFG_CMP_DIR c
    let v := wint (s.get .FB_CMP c)
    if cmpAhead down p v && !cmpAhead down q v then
      let s := (s.put64 .FB_CMP_TIME_LO .FB_CMP_TIME_HI c t).incMod FB_CMP_CNT_HIT c
      let s := fbCause c 4 s
      let s := each (s.fwdPorts 4 c) (fun n s =>
        fwdPulse n (t + s.fld FB_FILT_FILT c + 2) (200 * s.fld FWD_WID_WID n) s) s
      if s.flag FB_CMP_CFG_AUTO c then
        let sp : Int := (s.get .FB_CMP_SPACE c).toNat
        fbHits c t p q k (s.put .FB_CMP c (intw (if down then v - sp else v + sp)))
      else s
    else s

/-- Moves FB_POS by `d` at the stamp `t` and tests the compare on a change in CMP_DIR (R187, R202). -/
def fbMove (c t : Nat) (d : Int) (s : State) : State :=
  let p := s.fbPos c
  let s := s.modFb c fun f => { f with n := f.n + d }
  let s := s.put .FB_POS c (intw (s.fbc c).n)
  if s.flag FB_CMP_CFG_CMP_EN c && s.fbMode c != 4 && d != 0 && (decide (d < 0) == s.flag FB_CMP_CFG_CMP_DIR c) then
    fbHits c t p (p + d) (d.natAbs + 1) s
  else s

/-- The value behind is advanced by whole SPACINGs, `floor (d / SPACING) + 1` of them (R203). -/
def fbAdvance (c : Nat) (s : State) : State :=
  let down := s.flag FB_CMP_CFG_CMP_DIR c
  let v := wint (s.get .FB_CMP c)
  if s.flag FB_CMP_CFG_CMP_EN c && s.flag FB_CMP_CFG_AUTO c && !cmpAhead down (s.fbPos c) v then
    let d := (signed 32 (unsig 32 (v - s.fbPos c))).natAbs
    let sp := (s.get .FB_CMP_SPACE c).toNat
    let n := d / sp + 1
    let s := s.put .FB_CMP c (intw (if down then v - (n * sp : Nat) else v + (n * sp : Nat)))
    fbCause c 5 (s.addSat FB_CMP_CNT_SKIP c n)
  else s

/-! ### Edges the observer takes -/

/-- Edges averaged: 1, 2, 4 or 8 (FB_OBS.PAVG). -/
def fbPavg (s : State) (c : Nat) : Nat := 2 ^ s.fld FB_OBS_PAVG c

/-- A counting edge of stamp `t`, taken in under R12 at `tin`, goes to the observer after FB_POS has moved: stamp,
direction and period (R195, R198, R201). DEDUCED (log 21): the first edge after a restart of the period gives v_p = 0.
-/
def fbTake (c t tin : Nat) (down : Bool) (s : State) : State :=
  let f := s.fbc c
  let rev := f.taken && (down != s.fbDown c)
  let stale := s.flag FB_STAT_STALE c
  let old := if rev || stale then [] else f.hist
  let n := min (s.fbPavg c) old.length
  let vp := if n = 0 then 0#32 else
    match old[n - 1]? with
    | some (c0, t0) => if t0 < t then f32.ofRat ((f.n - c0) * 200000000) (t - t0) else 0#32
    | none => 0#32
  let s := s.setFb c { f with taken := true, ce := f.n, te := t, tin := tin,
                              rev := if rev then some (f.n, tin) else f.rev,
                              hist := ((f.n, t) :: old).take 8, idxClean := f.idxClean && !rev }
  let s := (s.put .FB_VP c vp).setFlag FB_STAT_DIR c down
  (s.setFlag FB_STAT_STALE c false).put64 .FB_EDGE_TIME_LO .FB_EDGE_TIME_HI c t

/-- A withheld edge: c_e, t_e and s stay, and the period restarts (R188, R189, R198). -/
def fbWithhold (c : Nat) (s : State) : State := s.modFb c fun f => { f with hist := [] }

/-- An error of the present block: tallied; above ERR_LIM the channel enters fault (R199). -/
def fbTally (c t : Nat) (s : State) : State :=
  let s := s.modFb c fun f => { f with blkErr := f.blkErr + 1 }
  if s.fld FB_ERR_CFG_ERR_LIM c < (s.fbc c).blkErr then fbFault c t s else s

/-- `k` accepted line edges of the present block of 1024; a clean block clears the fault with FAULT_AUTO (R199, R200). -/
def fbBlock (c k : Nat) (s : State) : State :=
  let s := s.modFb c fun f => { f with blkN := f.blkN + k }
  let f := s.fbc c
  if 1024 ≤ f.blkN then
    let s := when (s.flag FB_ERR_CFG_FAULT_AUTO c && f.blkErr == 0) (fbFaultClear c) s
    s.modFb c fun f => { f with blkN := f.blkN % 1024, blkErr := 0 }
  else s

/-- The place of (A, B) in the forward sequence 00, 10, 11, 01 (R188). -/
def quadPlace (a b : Bool) : Nat := match a, b with
  | false, false => 0 | true, false => 1 | true, true => 2 | false, true => 3

/-- The place of a Hall state in the forward cycle, none for 0b000 and 0b111 (R189). -/
def hallPlace (h : Nat) : Option Nat := match h with
  | 1 => some 0 | 3 => some 1 | 2 => some 2 | 6 => some 3 | 4 => some 4 | 5 => some 5 | _ => none

/-- A count of `d` before DIR_INV, taken by the observer. -/
def fbStep (c t : Nat) (d : Int) (inv : Bool) (s : State) : State :=
  let e := if inv then -d else d
  fbTake c t t (decide (e < 0)) (fbMove c t e s)

/-- A quadrature change from (a, b) to (a', b') (R188). -/
def fbQuad (c t : Nat) (a b a' b' : Bool) (s : State) : State :=
  if a != a' && b != b' then
    let s := fbCause c 11 (s.incSat FB_ERRCNT_QERR c)
    fbTally c t (fbWithhold c (s.modFb c fun f => { f with idxClean := false }))
  else
    let up := (quadPlace a b + 1) % 4 == quadPlace a' b'
    let d : Int := if up then 1 else -1
    let res := s.fld FB_CFG_RES c
    let counts := res == 0 || (res == 1 && a != a') ||
      (res == 2 && ((quadPlace a b == 0 && quadPlace a' b' == 1) || (quadPlace a b == 1 && quadPlace a' b' == 0)))
    if counts then fbStep c t d (s.fbInv c) s else s

/-- A Hall change to the state `h` (R189). -/
def fbHall (c t h : Nat) (s : State) : State :=
  let f := s.fbc c
  match hallPlace h with
  | none =>
    fbTally c t (fbWithhold c (fbCause c 1 ((s.incSat FB_ERRCNT_HALL c).modFb c fun f => { f with hallInv := true })))
  | some p =>
    match f.hall with
    | none => s.modFb c fun f => { f with hall := some p, hallInv := false }
    | some p0 =>
      let s := s.modFb c fun f => { f with hall := some p, hallInv := false }
      let k := (p + 6 - p0) % 6
      let skip (s : State) := fbTally c t (fbCause c 2 (s.incSat FB_ERRCNT_HALL c))
      let go (d : Int) (s : State) := fbMove c t (if s.fbInv c then -d else d) s
      match k with
      | 0 => when f.hallInv (fbWithhold c) s
      | 1 => if f.hallInv then fbWithhold c (go 1 s) else fbStep c t 1 (s.fbInv c) s
      | 5 => if f.hallInv then fbWithhold c (go (-1) s) else fbStep c t (-1) (s.fbInv c) s
      | 2 => fbWithhold c (skip (go 2 s))
      | 4 => fbWithhold c (skip (go (-2) s))
      | _ => fbWithhold c (skip s)

/-- A rising Z edge with IDX_EN: index (R194). -/
def fbIndex (c t : Nat) (s : State) : State :=
  let f := s.fbc c
  let p := s.fbPos c
  if s.flag FB_STAT_IDX_OK c then
    let d := signed 32 (unsig 32 (p - wint (s.get .FB_IDX_POS c)))
    let s := s.put .FB_IDX_POS c (s.get .FB_POS c)
    if f.idxClean then
      let s := s.put .FB_LC c (intw d)
      let nom : Int := s.fld FB_IDX_LC_NOM c
      let tol : Int := s.fld FB_IDX_LC_TOL c
      if (d.natAbs : Int) < nom - tol ∨ nom + tol < (d.natAbs : Int) then
        let s := fbCauseLog c 3 t [intw d] s
        when (s.flag FB_ERR_CFG_LC_FAULT c) (fbFault c t) s
      else s
    else s.modFb c fun f => { f with idxClean := true }
  else
    ((s.put .FB_IDX_POS c (s.get .FB_POS c)).setFlag FB_STAT_IDX_OK c true).modFb c fun f => { f with idxClean := true }

/-- The rating of R208: accepted line edges per channel and over all channels within a millisecond. -/
def fbRate (c t k : Nat) (s : State) : State :=
  let m := t / 200000
  let s : State := if s.fbAllMs = m then s else { s with fbAllMs := m, fbAllN := 0 }
  let s := s.modFb c fun f => if f.ms = m then f else { f with ms := m, msN := 0, msOver := false }
  let s := s.modFb c fun f => { f with msN := f.msN + k }
  let s : State := { s with fbAllN := s.fbAllN + k }
  if 4000 < (s.fbc c).msN ∨ 24000 < s.fbAllN then
    let s := depart s
    if (s.fbc c).msOver then s else fbCauseLog c 9 t [] (s.modFb c fun f => { f with msOver := true })
  else s

/-- A filtered edge: lines A, B and Z take new levels at the stamp `t` (R184, R187 to R191). -/
def fbEdge (c t : Nat) (ta tb tz : Bool) (s : State) : State :=
  let lv := s.fld FB_STAT_LVL c
  let a := lv % 2 == 1
  let b := lv / 2 % 2 == 1
  let z := lv / 4 % 2 == 1
  let a' := a != ta
  let b' := b != tb
  let z' := z != tz
  let s := s.setFld FB_STAT_LVL c (b2n a' + 2 * b2n b' + 4 * b2n z')
  let s := recNote 3 c t [BitVec.ofNat 32 (s.fld FB_STAT_LVL c + 16 * (b2n ta + 2 * b2n tb + 4 * b2n tz)), 0#32] s
  let k := b2n ta + b2n tb + b2n tz
  let s := when ta (fwdPass c 0 t a') s
  let s := when tb (fwdPass c 1 t b') s
  let s := when tz (fwdPass c 2 t z') s
  if !s.fbEn c then s else
  let m := s.fbMode c
  let used := if m = 4 then b2n ta else if m = 3 then b2n ta else if m = 5 then 0 else k
  let s := if used = 0 then s else fbRate c t used s
  match m with
  | 0 =>
    let s := if ta || tb then fbQuad c t a b a' b' s else s
    let s := when (tz && z' && s.flag FB_CFG_IDX_EN c) (fbIndex c t) s
    fbBlock c k s
  | 1 => fbBlock c k (if k = 0 then s else fbHall c t (b2n a' + 2 * b2n b' + 4 * b2n z') s)
  | 2 =>
    let counts := ta && (a' || s.fld FB_CFG_RES c == 1)
    let s := when counts (fbStep c t (if b' then 1 else -1) (s.fbInv c)) s
    let s := when (tz && z' && s.flag FB_CFG_IDX_EN c) (fbIndex c t) s
    fbBlock c k s
  | 3 =>
    let counts := ta && (a' || s.fld FB_CFG_RES c == 1)
    fbBlock c used (when counts (fbStep c t 1 false) s)
  | _ => s

/-- A plain-input level is accepted at the stamp `t` and blanking starts (R186, R191). -/
def fbPlainTake (c t : Nat) (lvl : Bool) (s : State) : State :=
  let deb := s.fld FB_FILT_DEB c
  let s := s.modFb c fun f => { f with accA := lvl, taken := true, te := t, tin := t, ce := f.n,
                                       blankEnd := if deb = 0 then none else some (t + 200 * deb) }
  let s := s.put64 .FB_EDGE_TIME_LO .FB_EDGE_TIME_HI c t
  if lvl then fbMove c t 1 s else s

/-- Whether a plain-input channel accepts a change of line A to `lvl` at `t`. -/
def fbPlainAccepts (s : State) (c t : Nat) (lvl : Bool) : Bool :=
  s.fbEn c && s.fbMode c == 4 && (match (s.fbc c).blankEnd with
    | some e => decide (e ≤ t)
    | none => true) && ((s.fbc c).accA != lvl)

/-! ### SSI (R192, R193) -/

/-- The clocked time of a transaction (R192): from falling edge 1, the latch, to the rising edge half a period after
falling edge BITS + 1, or BITS + 2 with ZERO_CHK; half a period is DIV + 1 clocks. -/
def ssiTime (s : State) (c : Nat) : Nat :=
  (2 * (s.fld FB_SSI_BITS c + s.fld FB_SSI_ZERO_CHK c) + 1) * (s.fld FB_SSI_DIV c + 1)

/-- Gray to binary over `n` bits. -/
def grayToBin (n w : Nat) : Nat :=
  (List.range n).foldl (fun acc k => acc ^^^ (w >>> k)) 0

/-- A rejected sample (R193). -/
def ssiReject (c b t : Nat) (s : State) : State :=
  let s := (fbCause c b (s.incSat FB_ERRCNT_HALL c)).setFlag FB_STAT_SSI_OK c false
  let s := s.modFb c fun f => { f with ssi := { f.ssi with rejects := f.ssi.rejects + 1 } }
  if s.fld FB_ERR_CFG_SSI_ELIM c ≤ (s.fbc c).ssi.rejects then fbFault c t s else s

/-- A complete SSI word at the stamp `t` (R192, R193, R195). DESIGN CHOICE (log 144): its record marks a sample whose
line test failed by bit 4, the data line, so that a replay rejects it too (R209). -/
def ssiSample (c t w : Nat) (high trail : Bool) (s : State) : State :=
  let f := s.fbc c
  let n := s.fld FB_SSI_BITS c
  let s := s.modFb c fun f => { f with ssi := { f.ssi with busy := false } }
  let w := w % 2 ^ n
  let line := !high || (s.flag FB_SSI_ZERO_CHK c && trail)
  let s := recNote 3 c t [BitVec.ofNat 32 (0x80 + 0x10 * b2n line + s.fld FB_STAT_LVL c), BitVec.ofNat 32 w] s
  let v := if s.flag FB_SSI_GRAY c then grayToBin n w else w
  let jmax := s.fld FB_SSI2_JMAX c
  let d : Int := match f.ssi.ref with
    | some r => signed n (unsig n ((v : Int) - r))
    | none => 0
  if line then ssiReject c 7 t s
  else if jmax != 0 && f.ssi.ref.isSome && decide (jmax < d.natAbs) then ssiReject c 8 t s
  else
    let s := (s.put .FB_SSI_RAW c (BitVec.ofNat 32 v)).setFlag FB_STAT_SSI_OK c true
    let s := s.modFb c fun f => { f with ssi := { f.ssi with ref := some v, rejects := 0, step := d.natAbs } }
    let e := if s.fbInv c then -d else d
    let dn := if e = 0 then s.fbDown c else decide (e < 0)
    fbTake c f.ssi.latch t dn (fbMove c t e s)

/-! ### Observer (R196 to R198) -/

def dt10us : Word := 0x3727C5AC#32
def half : Word := 0x3F000000#32
def three : Word := 0x40400000#32
/-- DESIGN CHOICE (log 13). 2π as the nearest IEEE single value. -/
def twoPi : Word := 0x40C90FDB#32

/-- The gains of the bandwidth in FB_OBS.BW (R196, R197). -/
def fbGains (c : Nat) (s : State) : State :=
  let w := f32.mul twoPi (f32.ofInt (s.fld FB_OBS_BW c))
  let w2 := f32.mul w w
  s.modFb c fun f => { f with g1 := f32.mul (f32.mul three w) dt10us
                              g2 := f32.mul (f32.mul three w2) dt10us
                              g3 := f32.mul (f32.mul w2 w) dt10us }

/-- `v * Δt` exactly, for a speed in counts/s and a span in clocks: a numerator, and a denominator that holds the factor
2^16 when `v` has no fraction bits below it. -/
def spanNum (v : Word) (dt : Nat) : Int :=
  let u := f32.un v
  let m : Int := if u.neg then -(u.man : Int) else u.man
  m * dt * 2 ^ (max (u.exp + 16) 0).toNat
def spanDen (v : Word) : Nat := 200000000 * 2 ^ (max (-((f32.un v).exp + 16)) 0).toNat

/-- `v * Δt` in 2^-16 counts. -/
def countSpan (v : Word) (dt : Nat) : Int := divRNE (spanNum v dt) (spanDen v)

/-- The cap of the extrapolation: one count, or the size of the last SSI step (R196), in 2^-16 counts. -/
def fbCap (s : State) (c : Nat) : Int := if s.fbMode c = 5 then (s.fbc c).ssi.step * 65536 else 65536

/-- `x_m - x` at the clock `T`, `x` in 2^-16 counts: a numerator over 2^16 × `spanDen` of the period speed (R196). -/
def fbResidual (s : State) (c T : Nat) (x : Int) : Int :=
  let f := s.fbc c
  let v := f32.abs (s.get .FB_VP c)
  let d := spanDen v
  let e := if f.taken then min (spanNum v (T - f.te)) (s.fbCap c * d) else 0
  (f.ce * 65536 - x) * d + (if s.fbDown c then -e else e)

/-- `x_m` at the clock `T`, in 2^-16 counts. -/
def fbMeasured (s : State) (c T : Nat) : Int :=
  divRNE (s.fbResidual c T 0) (spanDen (f32.abs (s.get .FB_VP c)))

/-- One observer step at `T_k`. DEDUCED (log 23): the two products of the prediction are summed before they move `x̂`. -/
def fbObserve (T c : Nat) (s : State) : State :=
  if s.fbEn c && s.fbMode c != 4 then
    let f := s.fbc c
    let v := s.get .FB_VEL c
    let a := s.get .FB_ACC c
    let xp := f.xh + f32.toInt (f32.add (f32.mul v dt10us) (f32.mul (f32.mul half a) (f32.mul dt10us dt10us))) 16
    let vp := f32.add v (f32.mul a dt10us)
    let e := f32.ofRat (s.fbResidual c T xp) (65536 * spanDen (f32.abs (s.get .FB_VP c)))
    let v := f32.add vp (f32.mul f.g2 e)
    let ve := if T ≤ f.tin + 2000 then v else f.vEdge
    let s := s.setFb c { f with xh := xp + f32.toInt (f32.mul f.g1 e) 16, vEdge := ve }
    (s.put .FB_VEL c v).put .FB_ACC c (f32.add a (f32.mul f.g3 e))
  else s

/-- Phase 1 of a tick, after the merge: channels FB00 to FB23 in order (R196). -/
def fbObserveAll (s : State) : State := each (List.range 24) (fbObserve s.T) s

/-! ### Enable and configuration -/

/-- FB_CHANNEL_STALE: no edge for STALE_MS up to the start of the coming tick (R201). -/
def fbGoStale (c : Nat) (s : State) : State :=
  let n := s.fld FB_OBS_STALE_MS c
  if s.fbEn c && s.fbMode c != 4 && n != 0 && !s.flag FB_STAT_STALE c && decide ((s.fbc c).te + 200000 * n ≤ s.Tn) then
    let x := s.fbMeasured c s.Tn
    let s := (s.modFb c fun f => { f with xh := x }).setFlag FB_STAT_STALE c true
    fbCauseLog c 6 s.Tn [] ((s.put .FB_VEL c 0#32).put .FB_ACC c 0#32)
  else s

/-- SSI_TRANSACTION_START: every PERIOD ticks from the enable (log 89) a transaction is dispatched in the present tick
and latches at the next one's start, and its clocked time sets its end; one that falls due too early is skipped (R192,
R193). -/
def ssiStart (c : Nat) (s : State) : State :=
  let f := s.fbc c
  if s.fbEn c && s.fbMode c == 5 && decide (f.tEn ≤ s.T) && (s.tick - f.tEn / 2000) % s.fld FB_SSI2_PERIOD c == 0 then
    let soon := match f.ssi.endT with | some e => decide (s.Tn < e + 200 * s.fld FB_SSI_TM c) | none => false
    if soon then s.incSat FB_ERRCNT_QERR c
    else s.modFb c fun f => { f with ssi := { f.ssi with busy := true, latch := s.Tn, endT := some (s.Tn + s.ssiTime c) } }
  else s

/-- The refusal code of an enabling write of FB_CFG, 0 when it is accepted (R211). -/
def fbReject (c : Nat) (v : Word) : Nat :=
  let m := bitsOf v 3 1
  let res := bitsOf v 6 5
  if 6 ≤ m then 1 else if m = 5 ∧ c < 16 then 2
  else if m = 0 ∧ res = 3 then 3 else if (m = 2 ∨ m = 3) ∧ 1 < res then 3 else 0

/-- A channel starts (R195, R197 to R199). -/
def fbStart (c : Nat) (s : State) : State :=
  let f := s.fbc c
  let lv := s.fld FB_STAT_LVL c
  let s := s.setFb c { f with
    tEn := s.Tn, accA := lv % 2 == 1, blankEnd := none, taken := false, ce := f.n, te := s.Tn, tin := s.Tn, hist := [],
    xh := f.n * 65536, hall := hallPlace lv, hallInv := false, blkN := 0, blkErr := 0, idxClean := false, ssi := {} }
  let s := ((s.put .FB_VEL c 0#32).put .FB_ACC c 0#32).put .FB_VP c 0#32
  fbGains c ((s.setFlag FB_STAT_IDX_OK c false).setFlag FB_STAT_STALE c false)

/-- An accepted write of FB_CFG: the fields are stored, and EN takes effect or is refused (R211). -/
def fbCfgStore (c : Nat) (v : Word) (s : State) : State :=
  let was := s.fbEn c
  let s := s.put .FB_CFG c v
  if bitAt v 0 && !was then
    let r := fbReject c v
    if r = 0 then fbStart c (s.setFld FB_STAT_REJ c 0)
    else (s.setFlag FB_CFG_EN c false).setFld FB_STAT_REJ c r
  else if !bitAt v 0 && was then
    (s.put .FB_VEL c 0#32).put .FB_ACC c 0#32
  else s

/-- FB_CTRL (R200, R211). -/
def fbCtrl (c : Nat) (v : Word) (s : State) : State :=
  let s := when (bitAt v 0) (fbFaultClear c) s
  if bitAt v 1 then (s.put .FB_CMP_CNT c 0#32).put .FB_ERRCNT c 0#32 else s

/-- A write of FWD_CFG (R204): applied in the coming tick `k`, it acts on the lines from `T_(k+1)`; a change of MODE,
SRC or FMT restarts the port there. -/
def fwdCfgStore (n : Nat) (v : Word) (s : State) : State :=
  let o := s.get .FWD_CFG n
  let re := (o ^^^ v) &&& 0x3F07#32 != 0#32
  (s.put .FWD_CFG n v).modFwd n fun f =>
    let k := s.tick + 2
    { f with next := f.next.filter (fun e => e.1 != k) ++ [(k, re || f.next.any (fun e => e.1 == k && e.2.1), v)] }

/-- A write of FWD_EMU: the tick in which it is applied still uses the old divisor (R206). -/
def fwdEmuStore (n : Nat) (v : Word) (s : State) : State :=
  (s.put .FWD_EMU n v).modFwd n fun f =>
    { f with holdN := match f.holdN with | some k => some k | none => some (s.fld FWD_EMU_PPHM n) }

/-! ### Ports in a tick (R204 to R207) -/

/-- Whether a port's source cannot be used (R205, R206, R212). -/
def fwdErr (s : State) (n : Nat) : Bool :=
  let c := s.fwdSrc n
  match s.fwdMode n with
  | 1 => decide (24 ≤ c) || !s.fbEn c || s.fbMode c == 5
  | 2 => !s.axEn c
  | 4 => decide (24 ≤ c)
  | _ => false

/-- Sets a line at its clock; rising edges of line A are counted (FWD_STAT.PULSES). -/
def fwdLine (n line : Nat) (v : Bool) (s : State) : State :=
  let f := s.fwd n
  match line with
  | 0 => (when (v && !f.a) (incMod · FWD_STAT_PULSES n) s).modFwd n fun f => { f with a := v }
  | 1 => s.modFwd n fun f => { f with b := v }
  | _ => s.modFwd n fun f => { f with z := v }

/-- Line changes due by `T` are made, in order of their clocks. -/
def fwdDrain (T n : Nat) (s : State) : State :=
  let f := s.fwd n
  let due := f.edges.filter fun e => decide (e.2.1 ≤ T)
  let s := s.modFwd n fun f => { f with edges := f.edges.filter fun e => !decide (e.2.1 ≤ T) }
  each due (fun e s => fwdLine n e.1 e.2.2 s) s

/-- The settings that act from the present tick on; the lines of a restarted port are low (R204). -/
def fwdTake (n : Nat) (s : State) : State :=
  match (s.fwd n).next.find? fun e => decide (e.1 ≤ s.tick) with
  | some (k, re, v) =>
    let s := s.modFwd n fun f =>
      let f := { f with next := f.next.filter fun e => e.1 != k }
      if re then { cfg := v, next := f.next, holdN := f.holdN } else { f with cfg := v }
    s.setFld FWD_STAT_MODE n (s.fwdMode n)
  | none => s

/-- A port at the start of a tick: the settings in effect, and in pass-through the lines of a source that has become
usable, or of a new ZPASS, at the filtered levels, and low while the source is not usable (R204, R205). -/
def fwdSettle (n : Nat) (s : State) : State :=
  let z0 := s.fwdZpass n
  let s := fwdTake n s
  let up := !s.fwdErr n
  let lv := s.fld FB_STAT_LVL (s.fwdSrc n)
  let zl := s.fwdZpass n && lv / 4 % 2 == 1
  let s := if s.fwdMode n != 1 then s
    else if !up then s.modFwd n fun f => { f with a := false, b := false, z := false, edges := [] }
    else if !(s.fwd n).up then s.modFwd n fun f => { f with a := lv % 2 == 1, b := lv / 2 % 2 == 1, z := zl }
    else if z0 != s.fwdZpass n then s.modFwd n fun f =>
      { f with z := zl, edges := if zl || s.fwdZpass n then f.edges else f.edges.filter fun e => e.1 != 2 }
    else s
  (s.modFwd n fun f => { f with up := up }).setFlag FWD_STAT_ERR n (!up)

/-- The level of an output line of a port: 0 A, 1 B, 2 Z (R204). -/
def fwdPad (s : State) (n line : Nat) : Bool :=
  let f := s.fwd n
  (if line = 0 then f.a else if line = 1 then f.b else f.z) != s.fwdInv n

/-- The forward quadrature sequence of an emulating port, by its place. -/
def quadA (q : Nat) : Bool := q % 4 == 1 || q % 4 == 2
def quadB (q : Nat) : Bool := q % 4 == 2 || q % 4 == 3

/-- The boundaries of `B` crossed from `p` to `q`, each with its share of the change in clocks of the tick. DEDUCED (log
130): a multiple belongs to the span above it, so that it is crossed where an upward change reaches it and a downward
one leaves it. -/
def crossings (B : Int) (p q : Int) : List Nat :=
  let k0 := p / B
  let k1 := q / B
  let d := q - p
  if p < q then
    (List.range (k1 - k0).toNat).map fun (i : Nat) => (divRNE (2000 * ((k0 + 1 + (i : Int)) * B - p)) d.toNat).toNat
  else if q < p then
    (List.range (k0 - k1).toNat).map fun (i : Nat) => (divRNE (2000 * (p - (k0 - (i : Int)) * B)) (-d).toNat).toNat
  else []

/-- Emulation in phase 2 of a tick: the phase moves by N times the axis's change, and the edges go out in the next tick
(R206). `dx` is the axis's change in this tick and `T1` the start of the next tick. -/
def fwdEmulate (n T1 : Nat) (dx : Int) (s : State) : State :=
  let f := s.fwd n
  let N : Int := match f.holdN with | some k => (k : Int) | none => (s.fld FWD_EMU_PPHM n : Int)
  let d := N * dx
  let fmt := s.fwdFmt n
  let B : Int := if fmt then 25600000 else 51200000
  let p' := f.phase + d
  let ts := crossings B f.phase p'
  let s := s.setFwd n { f with phase := p' }
  if fmt then
    each ts (fun o s =>
      let q := (s.fwd n).quad
      let q' := if 0 ≤ d then (q + 1) % 4 else (q + 3) % 4
      let s := when (quadA q != quadA q') (fwdEmit n 0 (T1 + o) (quadA q')) s
      let s := when (quadB q != quadB q') (fwdEmit n 1 (T1 + o) (quadB q')) s
      s.modFwd n fun f => { f with quad := q' }) s
  else
    let s := if d = 0 then s else fwdEmit n 1 T1 (decide (0 ≤ d)) s
    each ts (fun o s =>
      let q := (s.fwd n).quad
      (fwdEmit n 0 (T1 + o) (q == 0) s).modFwd n fun f => { f with quad := 1 - q }) s

end State
end Sys2Proof.Machine
end

