-- ==== Sys2Proof/Machine/Axes.lean ====
section
/-!
DEFINITION. Sys2Proof/Machine/Axes.lean: the axis engine (R73 to R103): enable and its refusals, the counted sources,
GROUND sources with staleness, recovery, slip and coasting, low speed and reverse, yaw, DERIVED, MAINS, TIME and SOFT
axes, and the work of phase 2.
-/

namespace Sys2Proof.Machine

namespace State

/-- AX_CFG.TYPE codes (R73). -/
def tGround : Nat := 0
def tChannel : Nat := 1
def tDerived : Nat := 2
def tGrain : Nat := 3
def tMains : Nat := 4
def tTime : Nat := 5
def tSoft : Nat := 6

def axDirInv (s : State) (i : Nat) : Bool := s.flag AX_CFG_DIR_INV i

/-- The feedback channel of an edge source. -/
def axChan (s : State) (i : Nat) : AxSrc → Nat
  | .left => s.fld AX_SRC_WL i
  | .right => s.fld AX_SRC_WR i
  | _ => s.fld AX_SRC_RAD i

/-- Whether a source is configured (R79). -/
def axHas (s : State) (i : Nat) : AxSrc → Bool
  | .left => s.flag AX_SRC_WL_EN i
  | .right => s.flag AX_SRC_WR_EN i
  | .radar => s.flag AX_SRC_RAD_EN i
  | .gnss => s.flag AX_SRC_GNSS_EN i

def axOk (s : State) (i : Nat) : AxSrc → Bool
  | .left => (s.ax i).okL
  | .right => (s.ax i).okR
  | .radar => (s.ax i).okRad
  | .gnss => (s.ax i).okG

def setAxOk (i : Nat) (k : AxSrc) (b : Bool) (s : State) : State :=
  s.modAx i fun a => match k with
    | .left => { a with okL := b } | .right => { a with okR := b }
    | .radar => { a with okRad := b } | .gnss => { a with okG := b }

/-- The AX_K register of an edge source (R79). -/
def axK (s : State) (i : Nat) : AxSrc → Word
  | .left => s.get .AX_K0 i
  | .right => s.get .AX_K1 i
  | _ => s.get .AX_K2 i

/-- The recovery chain of a source; GNSS speed has none, and recovers with its next accepted sentence (R84). -/
def axRec (s : State) (i : Nat) : AxSrc → Recov
  | .left => (s.ax i).recL
  | .right => (s.ax i).recR
  | .radar => (s.ax i).recRad
  | .gnss => {}

def setAxRec (i : Nat) (k : AxSrc) (r : Recov) (s : State) : State :=
  s.modAx i fun a => match k with
    | .left => { a with recL := r } | .right => { a with recR := r }
    | .radar => { a with recRad := r } | .gnss => a

/-- The wheel source is healthy while every configured wheel channel is (R79). -/
def wheelOk (s : State) (i : Nat) : Bool :=
  s.axHas i .left && (s.ax i).okL && (!s.axHas i .right || (s.ax i).okR)
def radarOk (s : State) (i : Nat) : Bool := s.axHas i .radar && (s.ax i).okRad
def gnssOk (s : State) (i : Nat) : Bool := s.axHas i .gnss && (s.ax i).okG

/-- AX_STAT.WHEEL_OK, RADAR_OK and GNSS_OK. -/
def axOkBits (i : Nat) (s : State) : State :=
  ((s.setFlag AX_STAT_WHEEL_OK i (s.wheelOk i)).setFlag AX_STAT_RADAR_OK i (s.radarOk i)).setFlag AX_STAT_GNSS_OK i
    (s.gnssOk i)

/-- 1024.0 and other constants of the speed formulas. -/
def f1024 : Word := 0x44800000#32
def f1000 : Word := 0x447A0000#32

/-- A speed of a source in mm/s from its channel: counts/s times the mm per count. -/
def chanSpeed (s : State) (i : Nat) (k : AxSrc) : Word := f32.mul (s.get .FB_VEL (s.axChan i k)) (s.axK i k)

/-- The raw wheel speed in mm/s (R79). -/
def wheelSpeed (s : State) (i : Nat) : Word :=
  if s.axHas i .right then f32.mul (f32.add (s.chanSpeed i .left) (s.chanSpeed i .right)) half
  else s.chanSpeed i .left

/-- A source's speed in mm/s before slip correction and DIR_INV, with its sign (R79, R80). -/
def srcSpeed (s : State) (i : Nat) (active : Nat) : Word :=
  match active with
  | 0 => s.wheelSpeed i
  | 1 => if (s.ax i).signRad then f32.neg (s.chanSpeed i .radar) else s.chanSpeed i .radar
  | 2 => f32.mul (s.get .AX_GNSS_V i) f1000
  | _ => 0#32

/-- The slip correction of a source (R85). -/
def srcCorr (s : State) (i : Nat) (active : Nat) : Word :=
  match active with
  | 0 => if s.flag AX_GNSS_CORR_W i then s.get .AX_CORR_W i else f32.one
  | 1 => if s.flag AX_GNSS_CORR_R i then s.get .AX_CORR_R i else f32.one
  | _ => f32.one

/-- A source's speed with its slip correction (R85). -/
def corrSpeed (s : State) (i : Nat) (active : Nat) : Word := f32.mul (s.srcSpeed i active) (s.srcCorr i active)

/-- The slip correction of an edge source. -/
def chanCorr (s : State) (i : Nat) (k : AxSrc) : Word := s.srcCorr i (if k = .radar then 1 else 0)

/-- A store into AX_GNSS: with its enable bit at 0 a correction stays at 1.0 (R85). -/
def axGnssStore (i : Nat) (v : Word) (s : State) : State :=
  let s := s.put .AX_GNSS i v
  let s := if s.flag AX_GNSS_CORR_W i then s else s.put .AX_CORR_W i f32.one
  if s.flag AX_GNSS_CORR_R i then s else s.put .AX_CORR_R i f32.one

/-- Exact value of an IEEE single times an integer, in units of 2^-`k`, rounded to nearest. -/
def mulExact (w : Word) (n : Int) (k : Nat) : Int :=
  let v := f32.un w
  let m : Int := (if v.neg then -(v.man : Int) else v.man) * n
  let e := v.exp + k
  if 0 ≤ e then m * 2 ^ e.toNat else divRNE m (2 ^ (-e).toNat)

/-! ### Enable, disable, factors (R74, R75) -/

/-- Whether a feedback channel is enabled in one of the modes a type accepts (R75, R78, R79). -/
def axChanOk (s : State) (c : Nat) (modes : List Nat) : Bool :=
  decide (c < 24) && s.fbEn c && modes.contains (s.fbMode c)

/-- A factor a type accepts: finite and above 0, or not 0 for DERIVED (R75). -/
def axKOk (derived : Bool) (w : Word) : Bool :=
  !f32.nonFinite w && (if derived then !f32.isZero w else f32.pos w)

/-- The refusal code of an enabling write of AX_CFG, 0 when it is accepted (R75). DESIGN CHOICE (log 68): where several
conditions hold together, the code of the first in the table's order. -/
def axReject (s : State) (i : Nat) (v : Word) : Nat :=
  let ty := bitsOf v 6 4
  let hl := s.axHas i .left
  let hr := s.axHas i .right
  let hd := s.axHas i .radar
  if ty = 7 then 1
  else if ty = tDerived && decide (i ≤ bitsOf v 20 16) then 2
  else if (ty = tChannel && !s.axChanOk (s.axChan i .left) [0, 1, 2, 3, 5]) ||
      (ty = tGrain && !s.axChanOk (s.axChan i .left) [0, 2, 3]) ||
      (ty = tGround && ((hl && !s.axChanOk (s.axChan i .left) [0, 2]) || (hr && !s.axChanOk (s.axChan i .right) [0, 2]) ||
        (hd && !s.axChanOk (s.axChan i .radar) [3]))) ||
      (ty = tMains && s.fld AX_SRC_WL i % 4 == 3) then 3
  else if ty = tGround && ((!hl && !hd && !s.axHas i .gnss) || (hr && !hl)) then 4
  else if ty = tGround && ((hl && hr && s.axChan i .left == s.axChan i .right) ||
      (hl && hd && s.axChan i .left == s.axChan i .radar) ||
      (hr && hd && s.axChan i .right == s.axChan i .radar)) then 5
  else if (ty = tGround && ((hl && !axKOk false (s.get .AX_K0 i)) || (hr && !axKOk false (s.get .AX_K1 i)) ||
        (hd && !axKOk false (s.get .AX_K2 i)))) ||
      ((ty = tChannel || ty = tGrain) && !axKOk false (s.get .AX_K0 i)) ||
      (ty = tDerived && !axKOk true (s.get .AX_K0 i)) then 6
  else 0

/-- The preset (R74). -/
def axPreset (s : State) (i : Nat) : Int :=
  signed 48 ((s.get .AX_PRE_LO i).toNat + 2 ^ 32 * (s.get .AX_PRE_HI i).toNat)

/-- The healthy source of highest rank: 0 wheel, 1 radar, 2 GNSS, 3 none (R82). -/
def bestSrc (s : State) (i : Nat) : Nat :=
  if s.wheelOk i then 0 else if s.radarOk i then 1 else if s.gnssOk i then 2 else 3

/-- A counted source at an axis's enable: it stands at the channel's present count (R77). DESIGN CHOICE (log 145): that
is the counted position alone, without an extrapolated part. -/
def srcAtEnable (s : State) (c : Nat) : CountSrc :=
  let x := (s.fbc c).ce * 65536
  { c := x, base := x }

/-- An accepted enable, applied in phase 1 of the coming tick; the preset is taken in its phase 2 (R74). -/
def axStart (i : Nat) (s : State) : State :=
  let ty := s.axType i
  let x := s.axPreset i
  let a : Axis := {
    tEn := s.Tn
    left := s.srcAtEnable (s.axChan i .left), right := s.srcAtEnable (s.axChan i .right)
    radar := s.srcAtEnable (s.axChan i .radar)
    okL := s.axHas i .left, okR := s.axHas i .right, okRad := s.axHas i .radar, okG := false
    fwdMax := x, prevX := x
    mains := { base := (x - x % 65536) * 65536, tb := s.Tn } }
  let s := s.setAx i a
  let s := (s.put .AX_CORR_W i f32.one).put .AX_CORR_R i f32.one
  let b := if ty = tGround then s.bestSrc i else 3
  let st := if ty = tGround then (if b = 3 then 3 else 1) else if ty = tMains then 4 else 1
  let s := s.setFld AX_STAT_REJ i 0
  let s := (s.setFld AX_STAT_STATE i st).setFld AX_STAT_ACTIVE i b
  let s := (s.setFlag AX_STAT_LOWSPD i (ty == tGround && s.flag AX_CFG_APPLY i)).setFlag AX_STAT_REVERSE i false
  axOkBits i (s.setFlag AX_STAT_LOCK i false)

/-- A disable: STATE becomes OFF and the last values stay readable (R74). -/
def axStop (i : Nat) (s : State) : State :=
  (s.setFld AX_STAT_STATE i 0).modAx i fun a => { a with stepNew := 0, stepDue := 0 }

/-- A store into AX_CFG of an accepted access: enable, refusal or disable (R74, R75). -/
def axCfgStore (i : Nat) (v : Word) (s : State) : State :=
  let was := s.axEn i
  let r := s.axReject i v
  let s := s.put .AX_CFG i v
  if bitAt v 0 && !was then
    if r = 0 then axStart i s
    else raiseLog 32 i noCause s.Tn [] ((s.setFlag AX_CFG_EN i false).setFld AX_STAT_REJ i r)
  else if !bitAt v 0 && was then axStop i s else s

/-- Whether AX_K`k` is used by the type of an enabled axis, so that a value it does not accept is refused (R75). -/
def axKUsed (s : State) (i k : Nat) : Bool :=
  let ty := s.axType i
  s.axEn i && (if ty = tGround then
      (k == 0 && s.axHas i .left) || (k == 1 && s.axHas i .right) || (k == 2 && s.axHas i .radar)
    else k == 0 && (ty == tChannel || ty == tGrain || ty == tDerived))

def axKAccepts (s : State) (i k : Nat) (v : Word) : Bool :=
  !s.axKUsed i k || axKOk (s.axType i == tDerived) v

/-- A step of a SOFT axis, by an immediate write or by a mark in phase 3 (R98). -/
def axStep (i : Nat) (v : Word) (marked : Bool) (s : State) : State :=
  if s.axEn i && s.axType i == tSoft then
    s.modAx i fun a => if marked then { a with stepDue := a.stepDue + wint v } else { a with stepNew := a.stepNew + wint v }
  else s

/-! ### Staleness, recovery and selection (R82 to R86) -/

/-- STALE_VMIN in mm/s. -/
def axVmin (s : State) (i : Nat) : Word := f32.ofInt (10 * s.fld AX_FALL_STALE_VMIN i)

/-- Whether a channel has taken an edge since the axis's enable (R83). -/
def axEdgeSince (s : State) (i c : Nat) : Bool := (s.fbc c).taken && decide ((s.ax i).tEn ≤ (s.fbc c).tin)

/-- The observers as they stand at the start of the coming tick, for the inputs merged so far (R76, R196). -/
def axObs (s : State) : State := fbObserveAll { s with tick := s.tick + 1 }

/-- The speed an edge shows, mm/s, from its period (R84, R195). -/
def axShown (s : State) (i : Nat) (k : AxSrc) : Word :=
  if s.axEdgeSince i (s.axChan i k) then f32.abs (f32.mul (f32.mul (s.get .FB_VP (s.axChan i k)) (s.axK i k)) (s.chanCorr i k))
  else 0#32

/-- A source's own speed at its latest edge, mm/s. DEDUCED (log 22): its observer's at the tick that takes the edge. -/
def axOwn (s : State) (i : Nat) (k : AxSrc) : Word :=
  let c := s.axChan i k
  if s.axEdgeSince i c then f32.abs (f32.mul (f32.mul (s.fbc c).vEdge (s.axK i k)) (s.chanCorr i k)) else 0#32

/-- `v_ref`: the largest of a source's own speed at its latest edge and the speeds of the other healthy sources (R83),
each with its slip correction (R85). -/
def axVref (s : State) (i : Nat) (k : AxSrc) : Word :=
  let s := s.axObs
  let o := s.axOwn i k
  let w := if (k == .radar) && s.wheelOk i then f32.abs (s.corrSpeed i 0) else 0#32
  let r := if (k != .radar) && s.radarOk i then f32.abs (s.corrSpeed i 1) else 0#32
  let g := if s.gnssOk i then f32.abs (s.corrSpeed i 2) else 0#32
  f32.max (f32.max o w) (f32.max r g)

/-- Whether a span reaches STALE_FACTOR × pitch ÷ v_ref (R83). -/
def axBeyond (s : State) (i : Nat) (k : AxSrc) (vref : Word) (dt : Nat) : Bool :=
  f32.le (f32.mul (f32.ofInt (s.fld AX_FALL_STALE_FACTOR i)) (s.axK i k)) (f32.mul vref (f32.ofRat dt 200000000))

/-- A channel fault, or the channel disabled (R83, R201). -/
def axChanBad (s : State) (c : Nat) : Bool := s.flag FB_STAT_FAULT c || !s.fbEn c

/-- GNSS_TO in clocks. -/
def axGnssTo (s : State) (i : Nat) : Nat := 200000 * s.fld AX_GNSS_GNSS_TO i

/-- Whether a healthy source reaches its staleness limit in the coming tick (R83). -/
def axStaleDue (s : State) (i : Nat) (k : AxSrc) : Bool :=
  s.axEn i && s.axType i == tGround && s.axHas i k && s.axOk i k && decide ((s.ax i).tEn < s.Tn) &&
  (match k with
   | .gnss => (match (s.ax i).gT with
     | some t => decide (s.axGnssTo i ≤ s.Tn - t)
     | none => true)
   | _ =>
     let c := s.axChan i k
     let te := if s.axEdgeSince i c then (s.fbc c).te else (s.ax i).tEn
     let vr := s.axVref i k
     s.axChanBad c || (f32.le (s.axVmin i) vr && s.axBeyond i k vr (s.Tn - te)))

/-- Whether a stale source has completed its recovery (R84). -/
def axRecoverDue (s : State) (i : Nat) (k : AxSrc) : Bool :=
  s.axEn i && s.axType i == tGround && s.axHas i k && !s.axOk i k &&
  (match k with
   | .gnss => (match (s.ax i).gT with
     | some t => (s.ax i).gNew && decide (s.Tn - t < s.axGnssTo i)
     | none => false)
   | _ => decide (16 ≤ (s.axRec i k).n) && !s.axChanBad (s.axChan i k))

/-- Whether any further change of health is due in the tick: the selection of R82 is made once, after all of them. -/
def axMoreDue (s : State) (i : Nat) : Bool :=
  [AxSrc.left, .right, .radar, .gnss].any fun k => s.axStaleDue i k || s.axRecoverDue i k

/-- Selects the active source; a change is counted and raised, the loss of the last one starts the coast, and a
recovered one ends it (R82, R86). -/
def axSelect (i : Nat) (s : State) : State :=
  if s.axMoreDue i then s else
  let b := s.bestSrc i
  if b = s.fld AX_STAT_ACTIVE i then s else
  let s := ((s.setFld AX_STAT_ACTIVE i b).raiseOf 34 i noCause).incSat AX_CNT_SW_CNT i
  let s := s.modAx i fun a => { a with chgTick := s.tick + 1 }
  if b = 3 then
    raiseLog 36 i noCause s.Tn [] ((s.setFld AX_STAT_STATE i 2).modAx i fun a => { a with coastT := s.Tn })
  else s.setFld AX_STAT_STATE i 1

/-- A source goes stale (R83): E033 with its record when the source as a whole was healthy. -/
def axStale (i : Nat) (k : AxSrc) (s : State) : State :=
  let was := match k with | .radar => s.radarOk i | .gnss => s.gnssOk i | _ => s.wheelOk i
  let s := setAxRec i k {} (setAxOk i k false s)
  let s := when (k == .gnss) (modAx i fun a => { a with gNew := false }) s
  let s := if was then (raiseLog 33 i noCause s.Tn [] s).incSat AX_CNT_STALE_CNT i else s
  axSelect i (axOkBits i s)

/-- A source recovers (R84): E035 when the source as a whole becomes healthy. -/
def axRecover (i : Nat) (k : AxSrc) (s : State) : State :=
  let s := setAxRec i k {} (setAxOk i k true s)
  let now := match k with | .radar => s.radarOk i | .gnss => s.gnssOk i | _ => s.wheelOk i
  axSelect i (axOkBits i (when now (raiseOf 35 i noCause) s))

/-- The recovery chain of a stale source at an edge of its channel (R84). DESIGN CHOICE (log 147): the chain starts
empty when the source goes stale, also by a channel fault, so that the first edge after it has none before it and never
counts. -/
def axRecEdge (i : Nat) (k : AxSrc) (t : Nat) (s : State) : State :=
  if s.axEn i && s.axType i == tGround && s.axHas i k && !s.axOk i k && k != .gnss then
    let r := s.axRec i k
    let vr := s.axVref i k
    let own := s.axShown i k
    let inTime := r.t != 0 && (f32.isZero vr ||
      f32.le (f32.mul vr (f32.ofRat (t - r.t) 200000000)) (f32.mul (f32.ofInt (s.fld AX_FALL_STALE_FACTOR i)) (s.axK i k)))
    let act := s.fld AX_STAT_ACTIVE i
    let va := f32.abs (s.corrSpeed i act)
    let near := act == 3 || (f32.le (f32.mul 0x3F4CCCCD#32 va) own && f32.le own (f32.mul 0x3F99999A#32 va))
    setAxRec i k { n := if inTime && near then r.n + 1 else 0, t := t } s
  else s

/-- An edge taken by channel `c`, for the recovery of every axis that names it. -/
def axEdgeNote (c t : Nat) (s : State) : State :=
  each (List.range 32) (fun i s => each [AxSrc.left, .right, .radar] (fun k s =>
    if s.axChan i k = c then axRecEdge i k t s else s) s) s

/-- Whether COAST_TIME has run out in the coming tick (R86). -/
def axStopDue (s : State) (i : Nat) : Bool :=
  s.axEn i && s.axType i == tGround && s.axState i == 2 && s.bestSrc i == 3 &&
  decide (200000 * s.fld AX_FALL_COAST_TIME i ≤ s.Tn - (s.ax i).coastT)

/-- The stop declaration (R86). -/
def axStopped (i : Nat) (s : State) : State :=
  raiseLog 37 i noCause s.Tn [] (((s.setFld AX_STAT_STATE i 3).put .AX_VEL i 0#32).put .AX_ACC i 0#32)

/-- One slip update `c + (v_gnss / v_raw - c) / 16`, held to 0.80 to 1.20 (R85). -/
def slip (c vg vr : Word) : Word :=
  f32.clamp 0x3F4CCCCD#32 0x3F99999A#32
    (f32.add c (f32.mul (f32.sub (f32.div vg vr) c) 0x3D800000#32))

/-- The slip corrections of one axis at a whole second (R85). -/
def axSlip (i : Nat) (s : State) : State :=
  let o := s.axObs
  if s.axEn i && s.axType i == tGround && (s.ax i).chgTick != s.tick + 1 && s.gnssOk i &&
     f32.le f1000 (f32.abs (o.srcSpeed i 2)) && f32.le (f32.abs (s.get .AX_YAW 0)) 0x3CA3D70A#32 &&
     f32.le (f32.abs (s.get .AX_ACC i)) (f32.mul 0x43FA0000#32 f1024) then
    let s := if s.flag AX_GNSS_CORR_W i && s.wheelOk i && f32.le f1000 (f32.abs (o.srcSpeed i 0)) then
      s.put .AX_CORR_W i (slip (s.get .AX_CORR_W i) (o.srcSpeed i 2) (o.srcSpeed i 0)) else s
    if s.flag AX_GNSS_CORR_R i && s.radarOk i && f32.le f1000 (f32.abs (o.srcSpeed i 1)) then
      s.put .AX_CORR_R i (slip (s.get .AX_CORR_R i) (o.srcSpeed i 2) (o.srcSpeed i 1)) else s
  else s

/-! ### Phase 2 (R76, R77) -/

/-- The contribution of a channel at `T`, in 2^-16 counts, and the source with it (R77). The latest reversal of the tick
sets it to that edge's own counted position; edges that follow it in the tick move it on in the new direction. -/
def countUpdate (s : State) (i c T : Nat) (q : CountSrc) : CountSrc :=
  let f := s.fbc c
  if f.taken && decide ((s.ax i).tEn ≤ f.tin) then
    let dn := s.fbDown c
    let v := s.get .FB_VEL c
    let x := clampI 0 65536 (countSpan (if dn then f32.neg v else v) (T - f.te))
    let F := f.ce * 65536 + (if dn then -x else x)
    let on (c0 : Int) : Int := if dn then min F c0 else max F c0
    match f.rev with
    | some (cr, tr) =>
      if decide ((s.ax i).tEn ≤ tr) && decide (T ≤ tr + 2000) then
        { q with c := if tr = f.tin then f.ce * 65536 else on (cr * 65536), seen := true }
      else { q with c := on q.c, seen := true }
    | none => { q with c := on q.c, seen := true }
  else if q.seen then q
  else { q with c := f.ce * 65536, base := f.ce * 65536 }

/-- The product of a source with its factor moves to the new contribution; a new factor counts from the old one. The
answer is the increment in 2^-16 AU. `fac` in mm or L per count, `corr` the slip correction, `sh` halves it. -/
def countMove (q0 q : CountSrc) (fac corr : Word) (sh : Nat) : CountSrc × Int :=
  let f := f32.mul fac corr
  let r : CountSrc := if f = q0.factor then q else { q with base := q0.c, prod := 0, factor := f }
  let p := mulExact f (r.c - r.base) (10 - sh)
  ({ r with prod := p }, p - r.prod)

/-- `v` AU/s over one tick, in 2^-16 AU. -/
def tickSpan (v : Word) : Int := divRNE (f32.toInt v 16) 100000

/-- Moves an axis by an increment in 2^-16 AU; the part below 1 AU is carried (R77). -/
def axAdvance (i : Nat) (inc : Int) (s : State) : State :=
  let t := (s.ax i).rem + inc
  setAxPos i (s.axPos i + t / 65536) (s.modAx i fun a => { a with rem := (t % 65536).toNat })

def setVA (i : Nat) (v a : Word) (s : State) : State := (s.put .AX_VEL i v).put .AX_ACC i a

/-- The sign that the HDT heading gives GNSS speed at `T`: negative where the course over ground differs from it by more
than 90°; none without SIGN_HDT, a course, or a heading accepted within GNSS_TO (R80). DESIGN CHOICE (log 146): the
heading is that of the receiver which gives the axis its speed, GNSS_SEL. -/
def hdtSign (s : State) (i T : Nat) : Option Bool :=
  match (SMap.get {} s.gnss (s.fld AX_SRC_GNSS_SEL i)).hdt, (s.ax i).gCog with
  | some (h, th), some c =>
    if s.flag AX_GNSS_SIGN_HDT i && decide (T - th ≤ s.axGnssTo i) then
      some (f64.lt f64.halfPi (f64.abs (f64.wrap (f64.sub c h))))
    else none
  | _, _ => none

/-- Signs of radar and GNSS speed (R80): both follow the healthy wheel source and else hold the last sign; a sign from HDT
goes before, and is held like one from the wheels. DESIGN CHOICE (log 146): AX_GNSS_V shows the sign before DIR_INV. -/
def axSigns (i : Nat) (s : State) : State :=
  let v := s.wheelSpeed i
  let w := if s.wheelOk i && !f32.isZero v then some (f32.isNeg v) else none
  let a := s.ax i
  let g := ((s.hdtSign i s.T).or w).getD a.signG
  let s := s.setAx i { a with signRad := w.getD a.signRad, signG := g }
  let m := f32.abs (s.get .AX_GNSS_V i)
  if f32.isZero m then s else s.put .AX_GNSS_V i (if g then f32.neg m else m)

/-- LOWSPD and REVERSE of a GROUND axis with APPLY (R87, R88). -/
def axFlags (i : Nat) (s : State) : State :=
  if s.flag AX_CFG_APPLY i then
    let v := f32.abs (s.get .AX_VEL i)
    let low := s.flag AX_STAT_LOWSPD i
    let cut := f32.ofInt (1024 * (s.fld AX_APPLY_CUTOFF i))
    let up := f32.ofInt (1024 * (s.fld AX_APPLY_CUTOFF i + s.fld AX_APPLY_HYST i))
    let low' := if low then !f32.le up v else f32.lt v cut
    let s := if low' = low then s else (s.setFlag AX_STAT_LOWSPD i low').raiseOf 38 i noCause
    let rev := s.flag AX_STAT_REVERSE i
    let d := diff48 (s.axPos i) (s.ax i).fwdMax
    let dist : Int := 10240 * s.fld AX_APPLY_REV_DIST i
    let rev' := if rev then decide (d < 0) else decide (d < -dist)
    let s := if rev' = rev then s else (s.setFlag AX_STAT_REVERSE i rev').raiseOf 39 i noCause
    if !rev' && decide (0 < d) then s.modAx i fun a => { a with fwdMax := s.axPos i } else s
  else s

/-- A GROUND axis in phase 2 (R77, R79, R82, R86). DESIGN CHOICE (log 69): while GNSS speed is the active source the
manual gives no acceleration, and the axis has 0. -/
def axGround (i : Nat) (s : State) : State :=
  let s := axSigns i s
  let a := s.ax i
  let inv := s.axDirInv i
  let two := s.axHas i .right
  let l := s.countUpdate i (s.axChan i .left) s.T a.left
  let r := s.countUpdate i (s.axChan i .right) s.T a.right
  let d := s.countUpdate i (s.axChan i .radar) s.T a.radar
  let cw := s.srcCorr i 0
  let ml := countMove a.left l (s.axK i .left) cw (b2n two)
  let mr := countMove a.right r (s.axK i .right) cw 1
  let md := countMove a.radar d (s.axK i .radar) (s.srcCorr i 1) 0
  let s := s.modAx i fun a => { a with left := ml.1, right := mr.1, radar := md.1 }
  let act := s.fld AX_STAT_ACTIVE i
  let st := s.axState i
  let sg (x : Int) := if inv then -x else x
  let sgw (w : Word) := if inv then f32.neg w else w
  let c := s.srcCorr i act
  let v := f32.mul (f32.mul (s.srcSpeed i act) c) f1024
  let s := if st = 1 then
      match act with
      | 0 =>
        let acc := f32.mul (f32.mul (if two then f32.mul (f32.add (f32.mul (s.get .FB_ACC (s.axChan i .left)) (s.axK i .left))
            (f32.mul (s.get .FB_ACC (s.axChan i .right)) (s.axK i .right))) half
          else f32.mul (s.get .FB_ACC (s.axChan i .left)) (s.axK i .left)) c) f1024
        setVA i (sgw v) (sgw acc) (axAdvance i (sg (if two then ml.2 + mr.2 else ml.2)) s)
      | 1 =>
        let acc := f32.mul (f32.mul (f32.mul (s.get .FB_ACC (s.axChan i .radar)) (s.axK i .radar)) c) f1024
        let m := if a.signRad then -md.2 else md.2
        setVA i (sgw v) (sgw (if a.signRad then f32.neg acc else acc)) (axAdvance i (sg m) s)
      | 2 => setVA i (sgw v) 0#32 (axAdvance i (tickSpan (sgw v)) s)
      | _ => s
    else if st = 2 then (axAdvance i (tickSpan (s.get .AX_VEL i)) s).put .AX_ACC i 0#32
    else setVA i 0#32 0#32 s
  axFlags i s

/-- A CHANNEL or GRAIN axis in phase 2 (R77, R78). -/
def axCounted (i : Nat) (s : State) : State :=
  let a := s.ax i
  let c := s.axChan i .left
  let inv := s.axDirInv i
  let l := s.countUpdate i c s.T a.left
  let m := countMove a.left l (s.axK i .left) f32.one 0
  let k := f32.mul (s.axK i .left) f1024
  let v := f32.mul (s.get .FB_VEL c) k
  let ac := f32.mul (s.get .FB_ACC c) k
  let s := axAdvance i (if inv then -m.2 else m.2) (s.modAx i fun a => { a with left := m.1 })
  setVA i (if inv then f32.neg v else v) (if inv then f32.neg ac else ac) s

/-- A DERIVED axis in phase 2 (R93). DESIGN CHOICE (log 74): STATE is copied also while it is HOLD, so that an axis whose
source is itself in HOLD shows 5 without E046, and raises none when its own source is disabled after that. -/
def axDerived (i : Nat) (s : State) : State :=
  let j := s.fld AX_CFG_SRC_AX i
  if s.axEn j then
    let k := s.get .AX_K0 i
    let dx := if (s.ax j).tEn = s.T then 0 else diff48 (s.axPos j) (s.ax j).prevX
    let t := (s.ax i).exactRem + mulExact k dx 200
    let s := s.modAx i fun a => { a with exactRem := t % 2 ^ 200 }
    let s := setAxPos i (s.axPos i + t / 2 ^ 200) s
    let s := setVA i (f32.mul (s.axVel j) k) (f32.mul (s.axAcc j) k) s
    ((s.setFld AX_STAT_STATE i (s.axState j)).setFld AX_STAT_LOWSPD i (s.fld AX_STAT_LOWSPD j)).setFld AX_STAT_REVERSE i
      (s.fld AX_STAT_REVERSE j)
  else
    let s := when (s.axState i != 5) (raiseOf 46 i noCause) s
    setVA i 0#32 0#32 (s.setFld AX_STAT_STATE i 5)

/-- The position of a MAINS axis at a clock, in 2^-16 AU (R95). -/
def mainsAt (s : State) (i t : Nat) : Int :=
  let m := (s.ax i).mains
  m.base + divRNE (f32.toInt (s.axVel i) 16 * ((t : Int) - m.tb)) 200000000

/-- A MAINS axis in phase 2. -/
def axMains (i : Nat) (s : State) : State :=
  setAxPos i (s.mainsAt i s.T / 65536) s

/-- The enable tick: the preset with speed and acceleration 0 (R74); a TIME axis has its speed at once (R97). -/
def axAtEnable (i : Nat) (s : State) : State :=
  let x := s.axPreset i
  let x := if s.axType i = tMains then x - x % 65536 else x
  let s := setAxPos i x s
  let s := setVA i (if s.axType i = tTime then 0x49742400#32 else 0#32) 0#32 s
  let s := s.modAx i fun a => { a with
    xOff := a.prevX, prevX := x, prevV := 0#32, prevA := 0#32, stepDue := a.stepNew, stepNew := 0, fwdMax := x
    mains := { a.mains with base := x * 65536 } }
  if s.axType i = tDerived then
    let j := s.fld AX_CFG_SRC_AX i
    if s.axEn j then ((s.setFld AX_STAT_STATE i (s.axState j)).setFld AX_STAT_LOWSPD i
      (s.fld AX_STAT_LOWSPD j)).setFld AX_STAT_REVERSE i (s.fld AX_STAT_REVERSE j)
    else (s.setFld AX_STAT_STATE i 5).raiseOf 46 i noCause
  else s

/-- The work of one enabled axis in phase 2 of a tick (R76). DESIGN CHOICE (log 76): a TIME axis advances by 10 AU per
tick; read as AU, the formula of R97 would give 1. -/
def axWork (i : Nat) (s : State) : State :=
  if (s.ax i).tEn = s.T then axAtEnable i s else
  let ty := s.axType i
  if ty = tGround then axGround i s
  else if ty = tChannel ∨ ty = tGrain then axCounted i s
  else if ty = tDerived then axDerived i s
  else if ty = tMains then axMains i s
  else if ty = tTime then setAxPos i (s.axPos i + 10) s
  else
    let d := (s.ax i).stepDue
    let s := s.modAx i fun a => { a with stepDue := a.stepNew, stepNew := 0 }
    setVA i (s.get .AX_SOFT_V i) (s.get .AX_SOFT_A i) (setAxPos i (s.axPos i + d) s)

/-- One axis in phase 2 of a tick: what it held at the end of the tick before is kept for the late test (R122). -/
def axUpdate (i : Nat) (s : State) : State :=
  if !s.axEn i then s else
  let s := axWork i (s.modAx i fun a => { a with prevX := s.axPos i, prevV := a.endV, prevA := a.endA })
  s.modAx i fun a => { a with endV := s.axVel i, endA := s.axAcc i }

/-! ### Yaw (R89 to R92) -/

/-- The corrected, signed speed of a wheel in m/s. -/
def wheelMs (s : State) (i : Nat) (k : AxSrc) : Word :=
  let v := f32.div (f32.mul (s.chanSpeed i k) (s.srcCorr i 0)) f1000
  if s.axDirInv i then f32.neg v else v

/-- A yaw source's ω at `T`, none while it is not valid (R89, R90). DESIGN CHOICE (log 73): the manual does not say what
the last sample of the two-wheel source is; its speeds are computed in every tick, and no age test is made of it. -/
def yawOf (s : State) (T code : Nat) : Option Word :=
  let lim := 200000 * s.fld AX_YAW_TO_TO 0
  let aged (o : Option (Word × Nat)) : Option Word := match o with
    | some (w, t) => if T - t ≤ lim then some w else none
    | none => none
  match code with
  | 1 =>
    let i := s.fld AX_YAW_CFG_WAX 0
    if s.axEn i && s.axType i == tGround && s.axHas i .left && s.axHas i .right && s.wheelOk i then
      some (f32.div (f32.sub (s.wheelMs i .right) (s.wheelMs i .left)) (s.get .AX_YAW_TRACK 0))
    else none
  | 2 => aged s.yaw.imu
  | 3 => aged s.yaw.can
  | 4 => aged s.yaw.host
  | _ => none

/-- The source in use and its ω; none while a wanted yaw has no valid source (R90). -/
def yawPick (s : State) (T : Nat) : Option (Nat × Word) :=
  let a := s.fld AX_YAW_CFG_SRC 0
  if a = 0 then some (0, 0#32) else
  match s.yawOf T a with
  | some w => some (a, w)
  | none => match s.yawOf T (s.fld AX_YAW_CFG_ALT 0) with
    | some w => some (s.fld AX_YAW_CFG_ALT 0, w)
    | none => none

/-- The yaw rate after AX31 (R76, R89, R90). -/
def yawUpdate (s : State) : State :=
  match s.yawPick s.T with
  | some (c, w) =>
    let w := if s.flag AX_YAW_CFG_SIGN_INV 0 && c != 0 then f32.neg w else w
    ((s.put .AX_YAW 0 w).setFld AX_YAW_STAT_USED 0 c).setFlag AX_YAW_STAT_LOST 0 false
  | none => (s.put .AX_YAW 0 0#32).setFld AX_YAW_STAT_USED 0 0

/-- Yaw is lost in the coming tick (R90). -/
def yawLoss (s : State) : State :=
  if (s.yawPick s.Tn).isNone && !s.flag AX_YAW_STAT_LOST 0 then
    raiseLog 43 0 noCause s.Tn [] (((s.put .AX_YAW 0 0#32).setFld AX_YAW_STAT_USED 0 0).setFlag AX_YAW_STAT_LOST 0 true)
  else s

/-- Phase 2: AX00 to AX31 in index order, then yaw (R76). -/
def axesPhase (s : State) : State := yawUpdate (each (List.range 32) axUpdate s)

/-! ### Input ratings (R99) -/

/-- Counts an input against a rating per second of module time; true when it is beyond it. -/
def rateTake (key limit t : Nat) (s : State) : State × Bool :=
  let sec := t / 200000000
  let r := SMap.get (0, 0) s.rates key
  let n := if r.1 = sec then r.2 + 1 else 1
  ({ s with rates := SMap.set (0, 0) s.rates key (sec, n) }, decide (limit < n))

/-- An axis input beyond its rating: E045 with its record, and a departure (R99, R33). DESIGN CHOICE (log 148): INST of
the record, which belongs to no single axis, is the receiver or mains input, and 0 of the other inputs. -/
def axOver (inst t : Nat) (s : State) : State := depart (raiseLog 45 inst noCause t [] s)

/-! ### MAINS edges (R94 to R96) -/

def fLow : Word := 0x42340000#32
def fHigh : Word := 0x42820000#32
def f65536 : Word := 0x47800000#32
def mainsInRange (f : Word) : Bool := f32.le fLow f && f32.le f fHigh

/-- `n / f` in clocks is reached by the span `dt`. -/
def mainsSpan (f : Word) (num den : Nat) (dt : Nat) : Bool :=
  f32.le (f32.ofRat num den) (f32.mul f (f32.ofRat dt 200000000))

/-- Loss of lock (R95, R96). DESIGN CHOICE (log 75): the count of consecutive edges of small error goes on over a loss
of lock by missing edges, so that one more such edge gives the lock back. -/
def mainsUnlock (i t : Nat) (s : State) : State :=
  if s.flag AX_STAT_LOCK i then
    raiseLog 41 i noCause t [] ((s.setFlag AX_STAT_LOCK i false).incSat AX_CNT_SW_CNT i)
  else s

/-- An edge accepted in ACQUIRE (R94). -/
def mainsAcquire (i t : Nat) (s : State) : State :=
  let m := (s.ax i).mains
  if !m.armed then s.modAx i fun a => { a with mains := { a.mains with armed := true, last := t } }
  else
    let f := f32.ofRat 200000000 (t - m.last)
    if t ≤ m.last then s
    else if mainsInRange f then
      let x := if m.returned then (s.axPos i / 65536 + 1) * 65536 else m.base / 65536 + 65536
      let s := s.modAx i fun a => { a with mains := { f := f, last := t, base := x * 65536, tb := t } }
      (s.setFld AX_STAT_STATE i 1).put .AX_VEL i (f32.mul f65536 f)
    else s.modAx i fun a => { a with mains := { a.mains with last := t } }

/-- Returns a MAINS axis to ACQUIRE with its position held (R94, R96). -/
def mainsReturn (i t : Nat) (s : State) : State :=
  let x := s.mainsAt i t
  let s := s.modAx i fun a => { a with mains := { returned := true, base := x, tb := t } }
  setVA i 0#32 0#32 (s.setFld AX_STAT_STATE i 4)

/-- An edge in RUN (R95, R96). -/
def mainsRun (i t : Nat) (s : State) : State :=
  let m := (s.ax i).mains
  if !mainsSpan m.f 3 5 (t - m.last) then s.incSat AX_CNT_STALE_CNT i
  else
    let x := s.mainsAt i t
    let e := f32.ofScaled (signed 32 (unsig 32 x)) 32
    let f := f32.mul m.f (f32.sub f32.one (f32.mul e 0x3D800000#32))
    if !mainsInRange f then
      raiseLog 42 i noCause t [] (mainsReturn i t (mainsUnlock i t s))
    else
      let v := f32.mul (f32.mul f65536 f) (f32.sub f32.one (f32.mul e 0x3E800000#32))
      let a := f32.div (f32.sub v (s.axVel i)) (f32.ofRat (t - m.last) 200000000)
      let ae := f32.abs e
      let small := if f32.le ae 0x3B800000#32 then m.small + 1 else 0
      let large := if f32.lt 0x3D000000#32 ae then m.large + 1 else 0
      let s := s.modAx i fun x' => { x' with mains := { m with
        f := f, last := t, base := x, tb := t, small := min small 8, large := min large 3, missed := false } }
      let s := setVA i v a s
      let s := if 8 ≤ small && !s.flag AX_STAT_LOCK i then (s.setFlag AX_STAT_LOCK i true).raiseOf 40 i noCause else s
      if 3 ≤ large then mainsUnlock i t s else s

/-- A zero-cross edge at input `h` (R94 to R96, R99). -/
def mainsEdge (h : Nat) (rising : Bool) (t : Nat) (s : State) : State :=
  let r := rateTake (2 + h) 140 t (recNote 4 h t [BitVec.ofNat 32 (b2n rising)] s)
  if r.2 then axOver h t r.1 else
  each (List.range 32) (fun i s =>
    if s.axEn i && s.axType i == tMains && s.fld AX_SRC_WL i % 4 == h && (s.flag AX_MAINS_EDGE i != rising) &&
       decide ((s.ax i).tEn ≤ t) then
      match s.axState i with
      | 4 => mainsAcquire i t s
      | 3 => mainsAcquire i t (mainsReturn i t s)
      | 1 => mainsRun i t s
      | _ => s
    else s) r.1

/-- No edge accepted for 2 / f (R96). -/
def mainsMissing (i : Nat) (s : State) : State :=
  let m := (s.ax i).mains
  if s.axEn i && s.axType i == tMains && s.axState i == 1 && !m.missed && mainsSpan m.f 2 1 (s.Tn - m.last) then
    let x := s.mainsAt i s.Tn
    let s := s.modAx i fun a => { a with mains := { m with missed := true, base := x, tb := s.Tn } }
    mainsUnlock i s.Tn (setVA i (f32.mul f65536 m.f) 0#32 s)
  else s

/-- No edge accepted for 5 / f (R96). -/
def mainsGone (i : Nat) (s : State) : State :=
  let m := (s.ax i).mains
  if s.axEn i && s.axType i == tMains && s.axState i == 1 && mainsSpan m.f 5 1 (s.Tn - m.last) then
    let x := s.mainsAt i s.Tn
    let s := s.modAx i fun a => { a with mains := { m with base := x, tb := s.Tn } }
    setVA i 0#32 0#32 (s.setFld AX_STAT_STATE i 3)
  else s

end State
end Sys2Proof.Machine
end

