-- ==== Sys2Proof/Machine/Marks.lean ====
section
/-!
DEFINITION. Sys2Proof/Machine/Marks.lean: lanes and marks (R104 to R131): demand and force, the mark FIFOs in SRAM, the
fire rule, leads and their learning, late marks, the refusals of a push, and the frame templates.
-/

namespace Sys2Proof.Machine
namespace State

def lane (s : State) (n : Nat) : Lane := SMap.get {} s.lanes n
def setLane (s : State) (n : Nat) (l : Lane) : State := { s with lanes := SMap.set {} s.lanes n l }
def modLane (n : Nat) (f : Lane → Lane) (s : State) : State := s.setLane n (f (s.lane n))
def tpl (s : State) (t : Nat) : Tpl := SMap.get {} s.tpls t
def modTpl (t : Nat) (f : Tpl → Tpl) (s : State) : State := { s with tpls := SMap.set {} s.tpls t (f (s.tpl t)) }

/-! ### Configuration, demand and force (R104 to R107) -/

def lnEn (s : State) (n : Nat) : Bool := if n < 256 then s.flag LN_CFG_EN n else s.flag LN_RCFG_EN (n - 256)
def lnAx (s : State) (n : Nat) : Nat := if n < 256 then s.fld LN_CFG_AX n else s.fld LN_RCFG_AX (n - 256)
def lnApply (s : State) (n : Nat) : Bool :=
  if n < 256 then s.flag LN_CFG_APPLY n else s.flag LN_RCFG_APPLY (n - 256)
def lnHw (s : State) (n : Nat) : Nat := if n < 256 then s.fld LN_CFG_HW n else s.fld LN_RCFG_HW (n - 256)
def lnTpl (s : State) (n : Nat) : Nat := s.fld LN_RCFG_TMPL (n - 256)

def lnDepth (n : Nat) : Nat := if n < 256 then 16 else 4

def lnDemand (s : State) (n : Nat) : Bool :=
  if n < 256 then s.rbit .LN_CMD (n / 32) (n % 32) else s.flag LN_RCFG_CMD (n - 256)

def setDemand (n : Nat) (b : Bool) (s : State) : State :=
  if n < 256 then s.setRbit .LN_CMD (n / 32) (n % 32) b else s.setFlag LN_RCFG_CMD (n - 256) b

def lnForce (s : State) (n : Nat) : Bool :=
  if n < 256 then s.rbit .LN_FORCE (n / 32) (n % 32) else s.flag LN_RCFG_FORCE (n - 256)

def setForce (n : Nat) (b : Bool) (s : State) : State :=
  if n < 256 then s.setRbit .LN_FORCE (n / 32) (n % 32) b else s.setFlag LN_RCFG_FORCE (n - 256) b

/-- The effective command: the demand and not the force (R105). -/
def lnEff (s : State) (n : Nat) : Bool := s.lnDemand n && !s.lnForce n

/-- The force bit an apply lane has from its axis (R106). -/
def lnForced (s : State) (n : Nat) : Bool :=
  let i := s.lnAx n
  s.lnApply n && (!s.axEn i || s.axState i == 3 || s.flag AX_STAT_LOWSPD i || s.flag AX_STAT_REVERSE i)

/-- The force update at the start of phase 3 (R106). -/
def forceUpdate (s : State) : State := each (List.range 768) (fun n s => setForce n (s.lnForced n) s) s

/-! ### The mark FIFO (R108, R113) -/

def lnSlot (n slot : Nat) : Nat :=
  if n < 256 then 0x01120000 + 256 * n + 16 * slot else 0x01130000 + 64 * (n - 256) + 16 * slot

/-- A mark record: its four words (R108). -/
structure Mark where
  w0 : Word
  w1 : Word
  arg : Word
  data : Word
deriving DecidableEq, Repr

def mkPos (m : Mark) : Int := signed 48 (m.w0.toNat + 2 ^ 32 * bitsOf m.w1 31 16)
def mkAct (m : Mark) : Nat := bitsOf m.w1 15 12
def mkDown (m : Mark) : Bool := bitAt m.w1 11
def mkHw (m : Mark) : Bool := bitAt m.w1 10
def mkLead (m : Mark) : Nat := bitsOf m.w1 9 8
def mkTag (m : Mark) : Nat := bitsOf m.w1 7 0

/-- The record of a mark at position `x`. -/
def markOf (x : Int) (act : Nat) (down hw : Bool) (lead tag : Nat) (arg data : Word) : Mark :=
  { w0 := loW (unsig 48 x)
    w1 := BitVec.ofNat 32 (unsig 48 x / 2 ^ 32 * 2 ^ 16 + act * 2 ^ 12 + b2n down * 2 ^ 11 + b2n hw * 2 ^ 10 +
      lead * 2 ^ 8 + tag)
    arg := arg, data := data }

/-- The mark in ring slot `slot`. -/
def markAt (s : State) (n slot : Nat) : Mark :=
  let a := lnSlot n slot
  ⟨s.rdWord a, s.rdWord (a + 4), s.rdWord (a + 8), s.rdWord (a + 12)⟩

def headMark (s : State) (n : Nat) : Mark := s.markAt n (s.lane n).head

def lnFull (s : State) (n : Nat) : Bool := decide (lnDepth n ≤ (s.lane n).fill)

/-- Adds a mark at the tail; the lane has room. -/
def lnPut (n : Nat) (m : Mark) (s : State) : State :=
  let l := s.lane n
  let a := lnSlot n ((l.head + l.fill) % lnDepth n)
  (s.wrWords a [m.w0, m.w1, m.arg, m.data]).modLane n fun l =>
    { l with fill := l.fill + 1, tested := l.tested && l.fill != 0 }

/-- The head mark leaves. -/
def lnPop (n : Nat) (s : State) : State :=
  s.modLane n fun l => { l with head := (l.head + 1) % lnDepth n, fill := l.fill - 1, tested := false }

/-- Empties a lane's FIFO, counting its marks (R107, R131, R134). -/
def lnFlush (n : Nat) (s : State) : State :=
  let k := (s.lane n).fill
  let s := s.put .LN_CNT_FLUSH 0 (BitVec.ofNat 32 (min ((s.get .LN_CNT_FLUSH 0).toNat + k) (2 ^ 32 - 1)))
  s.modLane n fun l => { l with head := (l.head + l.fill) % lnDepth n, fill := 0, tested := false, flushDue := false }

/-- A flush ordered by an axis-marked write is made before anything else reaches the lane in the next tick (R134). -/
def lnFlushDue (n : Nat) (s : State) : State := when (s.lane n).flushDue (lnFlush n) s

def lnFlushAllDue (s : State) : State := each (s.lanes.map (·.1)) lnFlushDue s

/-- LN_FLUSH and LN_RFLUSH: bit `b` flushes lane `base + b`; an axis-marked write acts in the next tick (R134). -/
def lnFlushWrite (base : Nat) (v : Word) (marked : Bool) (s : State) : State :=
  each (pick 32 fun b => bitAt v b && decide (base + b < 768)) (fun b s =>
    if marked then s.modLane (base + b) fun l => { l with flushDue := true } else lnFlush (base + b) s) s

/-- A hardware producer places a mark in phase 4; a full lane drops it (R112). -/
def lnHwPlace (n : Nat) (m : Mark) (s : State) : State :=
  if s.lnFull n then
    depart (raiseLog 49 n noCause s.T [BitVec.ofNat 32 (mkTag m)] (s.incSat LN_CNT_ERR_HW_DROP 0))
  else lnPut n m s

/-- Lanes bound to a disabled axis lose their marks (R131). -/
def laneFlushAxis (i : Nat) (s : State) : State :=
  let l := pick 768 fun n => s.lnEn n && s.lnAx n == i
  if l.isEmpty then s else (each l lnFlush s).raise 50

/-! ### Leads (R117, R119, R130) -/

/-- A delay estimate in µs. -/
def estimate (e8 : Nat) : Nat := (e8 + 4) / 8

/-- The lead in µs before it is clamped. -/
def lnRawLead (s : State) (n : Nat) (on : Bool) : Int :=
  if n < 256 then
    let p := s.fld LN_CFG_PROF n
    if on then 20 + (estimate (s.lane n).e8On : Int) + signed 16 (s.fld LN_PROF_ON_OFS p)
    else 20 + (estimate (s.lane n).e8Off : Int) + signed 16 (s.fld LN_PROF_OFF_OFS p)
  else
    let t := s.lnTpl n
    if on then 20 + (s.fld LN_TPL_DON_D_ON t : Int) else 20 + (s.fld LN_TPL_DOFF_D_OFF t : Int)

/-- The lead in µs (R117). -/
def lnLead (s : State) (n : Nat) (on : Bool) : Nat := (clampI 0 2000000 (s.lnRawLead n on)).toNat

def lnClamped (s : State) (n : Nat) (on : Bool) : Bool :=
  decide (s.lnRawLead n on < 0) || decide (2000000 < s.lnRawLead n on)

/-- E053 when a lead of an enabled lane becomes clamped (R117). -/
def leadCheck (n : Nat) (s : State) : State :=
  let l := s.lane n
  let c := s.lnEn n && s.lnClamped n true
  let d := s.lnEn n && s.lnClamped n false
  let s := when ((c && !l.clampOn) || (d && !l.clampOff)) (raiseOf 53 n noCause) s
  s.modLane n fun l => { l with clampOn := c, clampOff := d }

/-- A write to LN_DON or LN_DOFF (R119). -/
def lnDelayStore (n : Nat) (on : Bool) (v : Word) (s : State) : State :=
  let e := 8 * bitsOf v 20 0
  leadCheck n (s.modLane n fun l => if on then { l with e8On := e, rejOn := 0 } else { l with e8Off := e, rejOff := 0 })

/-- LN_PROFp changes the leads of every lane that names it. -/
def lnProfStore (p : Nat) (v : Word) (s : State) : State :=
  each (pick 256 fun n => s.fld LN_CFG_PROF n == p) leadCheck (s.put .LN_PROF p v)

/-- A template's delays change the leads of its lanes (R130). -/
def tplDelayStore (r : Reg) (t : Nat) (v : Word) (s : State) : State :=
  each (pick 512 fun n => s.fld LN_RCFG_TMPL n == t) (fun n s => leadCheck (256 + n) s) (s.put r t v)

/-- Learning is held while the valve drive reports STUCK (R120). -/
def lnHold (s : State) (n : Nat) : Bool := decide (n < 128) && s.flag VG_CSTAT_STUCK n

/-- A measurement of `m` µs is tested against the estimate (R119). -/
def lnMeasure (n : Nat) (on : Bool) (m : Nat) (s : State) : State :=
  if s.lnHold n then s else
  let l := s.lane n
  let e := if on then l.e8On else l.e8Off
  let r := if on then l.rejOn else l.rejOff
  let set (e r : Nat) (s : State) : State := leadCheck n (s.modLane n fun l =>
    if on then { l with e8On := e, rejOn := r } else { l with e8Off := e, rejOff := r })
  if e = 0 then set (8 * m) 0 s
  else if 16 * m < e ∨ e < 4 * m then
    (if r + 1 = 8 then (set (8 * m) 0 s).raiseOf 52 n noCause else set e (r + 1) s).raiseOf 51 n noCause
  else set (e + m - e / 8) 0 s

/-- LEAD_MEASUREMENT: the oldest measurement reported for the lane takes effect in phase 1 of the tick that follows its
report (R118). -/
def lnApplyReport (n : Nat) (s : State) : State :=
  match (s.lane n).reports with
  | [] => s
  | (on, m, k) :: r =>
    if k ≤ s.tick then lnMeasure n on m (s.modLane n fun l => { l with reports := r }) else s

/-- Reports a measurement to the scheduler, in the coming tick: its direction, its µs and that tick. -/
def lnReport (n : Nat) (on : Bool) (m : Nat) (s : State) : State :=
  s.modLane n fun l => { l with reports := l.reports ++ [(on, m, s.tick + 1)] }

/-- A change of the effective command starts a feedback measurement and ends the one that runs (R118). -/
def lnMeasStart (n : Nat) (on : Bool) (s : State) : State :=
  if s.fld LN_CFG_LSRC n = 2 then
    s.modLane n fun l =>
      { l with noConf := l.noConf || l.meas.isSome,
               meas := if s.flag MOD_STAT_DUST 0 then none else some (on, s.T + 4000) }
  else s

/-- The clocks within which an edge gives a measurement (R118). -/
def lnMeasLimit (s : State) (n : Nat) (on : Bool) : Nat :=
  let est := estimate (if on then (s.lane n).e8On else (s.lane n).e8Off)
  200 * (if est = 0 then 2000000 else 4 * est)

/-- An edge of a plain-input channel ends the measurements that wait for it (R118); in the dust sheet none is taken
(R120). -/
def lnFbEdge (c t : Nat) (lvl : Bool) (s : State) : State :=
  each (pick 256 fun n => s.fld LN_CFG_LSRC n == 2 && s.fld LN_CFG_FB n == c) (fun n s =>
    match (s.lane n).meas with
    | some (on, t0) =>
      if t0 ≤ t ∧ lvl = (on == s.flag LN_CFG_FB_POL n) then
        let m := (divRNE ((t : Int) - t0) 200).toNat
        if t - t0 ≤ s.lnMeasLimit n on ∧ !s.flag MOD_STAT_DUST 0 then
          lnReport n on m (s.modLane n fun l => { l with meas := none, conf := some t })
        else s.modLane n fun l => { l with meas := none, noConf := true }
      else s
    | none => s) s

/-! ### Enable (R107) -/

/-- Classes that R104 gives a hardware producer: 1 geometry unit, 2 store block. -/
def lnHwOk (n hw : Nat) : Bool :=
  hw == 0 || (hw == 1 && (decide (n < 128) || decide (256 ≤ n))) || (hw == 2 && decide (152 ≤ n) && decide (n < 176))

/-- Bits of a template's bitmap (R128). -/
def tplBits (s : State) (t : Nat) : Nat := 8 * 2 ^ s.fld LN_TPL_CFG_BMLEN t

/-- Whether a write of LN_CFG meets an error response (R107). -/
def lnCfgErr (s : State) (n : Nat) (v : Word) : Bool :=
  let o := s.get .LN_CFG n
  let chg := (o ^^^ v) &&& 0x70FF1F04#32
  if bitAt o 0 then chg != 0#32
  else bitAt v 0 && (!lnHwOk n (bitsOf v 30 28) || bitsOf v 23 22 == 3 || (bitsOf v 23 22 == 1 && decide (128 ≤ n)) ||
    (bitsOf v 23 22 == 2 && decide (23 < bitsOf v 20 16)))

def lnRcfgErr (s : State) (n : Nat) (v : Word) : Bool :=
  let o := s.get .LN_RCFG (n - 256)
  let chg := (o ^^^ v) &&& 0x01FFFF80#32
  if bitAt o 0 then chg != 0#32
  else bitAt v 0 && decide (s.tplBits (bitsOf v 24 20) ≤ bitsOf v 19 14)

def lnCfgStore (n : Nat) (v : Word) (s : State) : State :=
  let was := s.lnEn n
  let s := s.put .LN_CFG n v
  leadCheck n (when (was && !bitAt v 0) (lnFlush n) s)

/-- LN_RCFG: FILL, HEAD and FORCE are the module's own. -/
def lnRcfgStore (n : Nat) (v : Word) (s : State) : State :=
  let was := s.lnEn n
  let f := s.lnForce n
  let s := setForce n f (s.put .LN_RCFG (n - 256) (v &&& 0x05FFFF81#32))
  leadCheck n (when (was && !bitAt v 0) (lnFlush n) s)

/-- LN_STAT of one lane: HOLD, FORCE, DEMAND, HEAD and FILL. -/
def lnStatHalf (s : State) (n : Nat) : Nat :=
  let l := s.lane n
  b2n (s.lnHold n) * 2048 + b2n (s.lnForce n) * 1024 + b2n (s.lnDemand n) * 512 + l.head * 32 + l.fill

/-! ### The fire rule (R114, R115, R122) -/

/-- Δ of a lead of `L` µs from speed and acceleration (R114). DESIGN CHOICE (log 57): the order of the single-precision
operations is (v·L) + ((a/2)·(L·L)) and −((v·v)/(2·a)). -/
def predictSpan (v a : Word) (L : Nat) : Int :=
  let t := f32.ofRat L 1000000
  let at' := f32.mul a t
  let opposed := (f32.pos v && f32.isNeg at') || (f32.isNeg v && f32.pos at')
  if opposed && f32.lt (f32.abs v) (f32.abs at') then
    f32.toInt (f32.neg (f32.div (f32.mul v v) (f32.mul 0x40000000#32 a))) 0
  else f32.toInt (f32.add (f32.mul v t) (f32.mul (f32.mul half a) (f32.mul t t))) 0

/-- The lead a mark selects, in µs (R108). -/
def markLead (s : State) (n : Nat) (m : Mark) : Nat :=
  match mkLead m with
  | 1 => s.lnLead n true
  | 2 => s.lnLead n false
  | 3 => 0
  | _ => match mkAct m with
    | 1 => s.lnLead n true
    | 3 => s.lnLead n true
    | 2 => s.lnLead n false
    | _ => 0

/-- How far a prediction lies past a mark in its direction. -/
def markPast (m : Mark) (p : Int) : Int := if mkDown m then diff48 (mkPos m) p else diff48 p (mkPos m)

/-- The predicted position of lane `n` for a lead (R114), and the one formed with the axis state of the tick before.
DESIGN CHOICE (log 150): a predicted distance beyond the 48-bit range is not saturated; the position wraps. -/
def predict (s : State) (n L : Nat) : Int :=
  let i := s.lnAx n
  wrap48 (s.axPos i + predictSpan (s.axVel i) (s.axAcc i) L)

def predictPrev (s : State) (n L : Nat) : Int :=
  let a := s.ax (s.lnAx n)
  wrap48 (a.prevX + predictSpan a.prevV a.prevA L)

/-- A mark that fires: its lane, whether it is late, and the distance past it. -/
structure Fire where
  lane : Nat
  late : Bool
  past : Int
deriving DecidableEq, Repr

/-- The test of a lane's head mark (R115, R122). -/
def lnTest (s : State) (n : Nat) : Option Fire :=
  let l := s.lane n
  if s.lnEn n && l.fill != 0 then
    let m := s.headMark n
    let L := s.markLead n m
    let d := markPast m (s.predict n L)
    if 0 ≤ d then some ⟨n, !l.tested && decide (0 ≤ markPast m (s.predictPrev n L)), d⟩ else none
  else none

/-- The lanes whose head fires in this tick, in ascending order; the other heads count as tested. -/
def lnFires (s : State) : List Fire := (s.lanes.map (·.1)).filterMap s.lnTest

def lnMarkTested (s : State) : State :=
  each (s.lanes.map (·.1)) (fun n s => if s.lnEn n && (s.lane n).fill != 0 then
    s.modLane n fun l => { l with tested := true } else s) s

/-- TAG, ACT, HW and lane as LN_LLOG_LANE lays them out. -/
def markWord (n : Nat) (m : Mark) : Word :=
  BitVec.ofNat 32 (mkTag m * 2 ^ 24 + mkAct m * 2 ^ 20 + b2n (mkHw m) * 2 ^ 19 + n)

/-- The record of a late mark (R122). DEDUCED (log 31): TAG, ACT and HW share the first detail word. -/
def markLate (n : Nat) (m : Mark) (past : Int) (s : State) : State :=
  let sh : Word := BitVec.ofNat 32 (min past.toNat (2 ^ 32 - 1))
  let s := if n < 256 then s.setRbit .LN_LATE (n / 32) (n % 32) true
    else s.setRbit .LN_RLATE ((n - 256) / 32) (n % 32) true
  let s := (s.put .LN_LLOG_LANE 0 (markWord n m)).put .LN_LLOG_SHORT 0 sh
  let s := (s.put64 .LN_LLOG_TIME_LO .LN_LLOG_TIME_HI 0 s.T).incSat LN_CNT_ERR_LATE 0
  depart (raiseLog 48 n noCause s.T (markWord n m :: pair48 (mkPos m) ++ [sh]) s)

/-- The action of a fired mark, but for WRITE (R109). A PULSE on a slice that is disabled or stopped by the dust sheet
is counted and has no other effect (R243, R247). -/
def markAct (n : Nat) (m : Mark) (s : State) : State :=
  match mkAct m with
  | 1 => when (decide (256 ≤ n)) (modTpl (s.lnTpl n) fun t => { t with asked := true }) (setDemand n true s)
  | 2 => when (decide (256 ≤ n)) (modTpl (s.lnTpl n) fun t => { t with asked := true }) (setDemand n false s)
  | 3 =>
    if n < 128 then
      if s.lnForce n then s
      else if !s.flag VS_CFG_EN n || s.flag PG_STAT_DUST 0 then s.incSat VS_CNT_CLIPS n
      else { s with pulses := s.pulses ++ [(s.tick + 2, n, bitsOf m.arg 20 0)] }
    else if s.fld FWD_STAT_MODE (n - 240) = 3 then fwdPulse (n - 240) (s.T + 4000) (200 * bitsOf m.arg 20 0) s
    else s
  | 4 => { s with sampleReq := s.sampleReq ++ [n - 176] }
  | 5 => log41 n noCause (56 + bitsOf m.arg 2 0) s.T [BitVec.ofNat 32 (mkTag m)] (s.raise (56 + bitsOf m.arg 2 0))
  | 6 => { s with captureReq := s.captureReq ++ [bitsOf m.arg 1 0] }
  | 7 => s.modTpl (bitsOf m.arg 4 0) fun t => { t with asked := true }
  | _ => s

/-- An axis-marked write without effect (R125). -/
def mwError (n : Nat) (m : Mark) (s : State) : State :=
  log41 n noCause 55 s.T [BitVec.ofNat 32 (mkTag m)] ((s.incSat LN_CNT_ERR_MW_ERR 0).raise 55)

/-- The head mark of a lane fires and is counted; `mw` carries out an axis-marked write and tells whether it had its
effect (R115, R122, R125). -/
def fireMark (mw : Word → Word → State → State × Bool) (f : Fire) (s : State) : State :=
  let n := f.lane
  let m := s.headMark n
  let s := lnPop n s
  let s := s.put .LN_CNT_FIRE 0 (s.get .LN_CNT_FIRE 0 + 1#32)
  let s := when f.late (markLate n m f.past) s
  if mkAct m = 8 then
    let r := mw m.arg m.data s
    if r.2 then r.1 else mwError n m s
  else markAct n m s

/-! ### Placing marks (R109 to R111) -/

/-- Whether a lane's class accepts an action with this argument: code 0x3 (R109). -/
def markActOk (n act : Nat) (arg : Word) : Bool :=
  if 256 ≤ n then decide (act ≤ 2)
  else match act with
    | 0 => true
    | 1 => true
    | 2 => true
    | 3 => (decide (n < 128) || (decide (240 ≤ n) && decide (n < 248))) && decide (1 ≤ arg.toNat) &&
        decide (arg.toNat ≤ 2000000)
    | 4 => decide (176 ≤ n) && decide (n < 240)
    | 5 => decide (arg.toNat < 8)
    | 6 => decide (240 ≤ n) && decide (arg.toNat < 4)
    | 7 => decide (240 ≤ n) && decide (arg.toNat < 32)
    | 8 => true
    | _ => false

/-- The refusal code of a staged record, 0 when it is accepted: the first test failed in the order 0x2, 0x4, 0x3, 0x5,
0x6, 0x1 (R110). `permitted` and `right` judge the target of a WRITE (R124, R65). -/
def pushCode (s : State) (n : Nat) (m : Mark) (permitted right : Bool) : Nat :=
  if 768 ≤ n then 2
  else if !s.lnEn n || !s.axEn (s.lnAx n) then 2
  else if s.lnHw n != 0 then 4
  else if !markActOk n (mkAct m) m.arg then 3
  else if mkAct m == 8 && !permitted then 5
  else if mkAct m == 8 && !right then 6
  else if s.lnFull n && !(s.lane n).flushDue then 1
  else 0

/-- An accepted push: the record joins the lane with HW clear (R108, R110). -/
def pushAccept (id n : Nat) (m : Mark) (s : State) : State :=
  let s := lnPut n { m with w1 := putBit m.w1 10 false } (lnFlushDue n s)
  (s.incMod LN_PUSH_RES_SEQ id).setFld LN_PUSH_RES_CODE id 0

/-! ### Frame templates (R126 to R130) -/

/-- The payload's length before padding (R128). -/
def tplLen (v : Word) : Nat := bitsOf v 20 20 + 2 ^ bitsOf v 23 22 + bitsOf v 21 21

/-- Whether a write of LN_TPL_CFG meets an error response (R128). DESIGN CHOICE (log 79): a write that would change a
barred field while EN is 1 gets one, as at the other registers locked while enabled, and so does such a write of
LN_TPL_ID. -/
def tplCfgErr (s : State) (t : Nat) (v : Word) : Bool :=
  let o := s.get .LN_TPL_CFG t
  (bitAt o 31 && ((o ^^^ v) &&& 0x7FF00000#32) != 0#32) || (bitAt v 31 && !bitAt v 26 && decide (8 < tplLen v))

def tplCfgStore (t : Nat) (v : Word) (s : State) : State :=
  let was := s.flag LN_TPL_CFG_EN t
  let s := s.put .LN_TPL_CFG t v
  if bitAt v 31 && !was then s.modTpl t fun _ => { tEn := s.tick + 1 } else s

/-- Data lengths of an FD frame by DLC (R370). -/
def dlcLen (dlc : Nat) : Nat := if dlc ≤ 8 then dlc else [12, 16, 20, 24, 32, 48, 64].getD (dlc - 9) 64

/-- The smallest DLC that holds `n` bytes. -/
def dlcOf (n : Nat) : Nat := ((List.range 16).find? fun d => decide (n ≤ dlcLen d)).getD 15

/-- The bitmap of a template: bit SLOT of each of its lanes holds the lane's effective command (R127). DESIGN CHOICE
(log 151): lanes that name one SLOT are ORed into its bit, and a SLOT beyond a bitmap that was shortened after the
lane's enable gives none. -/
def tplBitmap (s : State) (t : Nat) : Nat :=
  (pick 512 fun n => s.fld LN_RCFG_TMPL n == t && s.lnEff (256 + n)).foldl
    (fun b n => if s.fld LN_RCFG_SLOT n < s.tplBits t then b ||| 2 ^ s.fld LN_RCFG_SLOT n else b) 0

/-- The bytes of a number, lowest first. -/
def natBytes (v : Nat) : Nat → List Byte
  | 0 => []
  | n + 1 => BitVec.ofNat 8 v :: natBytes (v / 256) n

/-- The frame payload of a template (R128). -/
def tplPayload (s : State) (t : Nat) : List Byte :=
  (if s.flag LN_TPL_CFG_PFX_EN t then [BitVec.ofNat 8 (s.fld LN_TPL_DON_PREFIX t)] else []) ++
  natBytes (s.tplBitmap t) (s.tplBits t / 8) ++
  (if s.flag LN_TPL_CFG_SEQ_EN t then [BitVec.ofNat 8 (s.tpl t).seq] else [])

/-- The 80 B transmit element of a template frame (R373). -/
def tplElement (s : State) (t : Nat) : List Word :=
  let p := s.tplPayload t
  let fd := s.flag LN_TPL_CFG_FD t
  let ide := s.flag LN_TPL_CFG_IDE t
  let id := if ide then s.fld LN_TPL_ID_ID t else s.fld LN_TPL_ID_ID t % 2048
  let w0 := b2n fd * 2 ^ 31 + b2n ide * 2 ^ 29 + id
  let w1 := b2n (fd && s.flag LN_TPL_CFG_BRS t) * 16 + dlcOf p.length
  [BitVec.ofNat 32 w0, BitVec.ofNat 32 w1, 0#32, 0#32] ++ (packBytes p ++ List.replicate 16 0#32).take 16

/-- Queues one frame of a template; a full FIFO is a rejection and E054 (R129). DESIGN CHOICE: a frame that is rejected
counts as the template's last one for MIN_GAP and REFRESH (log 78), and E054, which has no record of its own, names the
template as the first detail word of the FIFO's rejection record (log 58). -/
def tplSend (t : Nat) (s : State) : State :=
  let q := 8 + 2 * s.fld LN_TPL_CFG_CTRL t + s.fld LN_TPL_CFG_FIFO t
  let e := s.tplElement t
  let r := qOfferRaw q (fun _ => e) s
  let s := r.1.modTpl t fun p => { p with last := some s.tick, waits := false, asked := false }
  if r.2 then s.modTpl t fun p => { p with seq := (p.seq + 1) % 256 } else
    qLostBy q s.T [BitVec.ofNat 32 t] (s.raise 54)

/-- Whether MIN_GAP has passed since the last frame. -/
def tplGapOk (s : State) (t : Nat) : Bool :=
  match (s.tpl t).last with
  | some k => decide (s.fld LN_TPL_CFG_MIN_GAP t ≤ s.tick - k)
  | none => true

/-- A frame due in this tick: queued at once, or in the tick MIN_GAP after the last (R129). -/
def tplDue (t : Nat) (s : State) : State :=
  if s.tplGapOk t then tplSend t s else s.modTpl t fun p => { p with waits := true, asked := false }

/-- Frames asked for by marks and command changes in phase 4 of a tick (R129). -/
def tplPhase (s : State) : State :=
  each (List.range 32) (fun t s =>
    if (s.tpl t).asked then (if s.flag LN_TPL_CFG_EN t then tplDue t s else s.modTpl t fun p => { p with asked := false })
    else s) s

/-- TEMPLATE_REFRESH: REFRESH × 10 ms since the last frame (R129). DESIGN CHOICE (log 77): of a template that has sent
none since its enable it counts from the enable, and a disable forgets the last frame, for MIN_GAP too. -/
def tplRefresh (t : Nat) (s : State) : State :=
  let r := s.fld LN_TPL_CFG_REFRESH t
  let k := (s.tpl t).last.getD (s.tpl t).tEn
  if s.flag LN_TPL_CFG_EN t && r != 0 && decide (1000 * r ≤ s.tick - k) then tplDue t s else s

/-- TEMPLATE_GAP_FRAME: the frame that waited for MIN_GAP (R129). -/
def tplGap (t : Nat) (s : State) : State :=
  if s.flag LN_TPL_CFG_EN t && (s.tpl t).waits && s.tplGapOk t then tplSend t s else s

/-- The effective commands of the local and the remote lanes, as bits. -/
def effBits (s : State) : BitVec 256 :=
  BitVec.ofNat 256 ((List.range 8).foldl (fun n w =>
    n + (s.get .LN_CMD w &&& ~~~ s.get .LN_FORCE w).toNat * 2 ^ (32 * w)) 0)

def effRemBits (s : State) : BitVec 512 :=
  BitVec.ofNat 512 ((pick 512 fun n => s.lnEff (256 + n)).foldl (fun b n => b + 2 ^ n) 0)

/-- Command changes of the tick: feedback measurements start, and templates of changed remote lanes are asked for
(R118, R129). -/
def effChanges (e : BitVec 256) (r : BitVec 512) (s : State) : State :=
  let s := each (pick 256 fun n => e.getLsbD n != s.eff1.getLsbD n) (fun n s => lnMeasStart n (e.getLsbD n) s) s
  each (pick 512 fun n => r.getLsbD n != s.effRem.getLsbD n) (fun n s =>
    s.modTpl (s.fld LN_RCFG_TMPL n) fun t => { t with asked := true }) s

/-- A reset of pages 0x08 to 0x0F, beside their registers (R133). -/
def lanesReset (s : State) : State := { s with lanes := [], tpls := [] }

end State
end Sys2Proof.Machine
end

