-- ==== Sys2Proof/Machine/Masking.lean ====
section
/-!
DEFINITION. Sys2Proof/Machine/Masking.lean: the masking raster (R139, R161 to R171): cells and tiles, the directory and
the journal in MRAM, slot allocation, the working cache with its write-backs, and the stencil tile cache.
-/

namespace Sys2Proof.Machine
namespace State

/-- A cause of the replay unit; UNDERRUN raises E252, the others E253, all but END with a record (R449, R454). -/
def rpCause (b stamp : Nat) (detail : List Word) (s : State) : State :=
  let e := if b = 0 then 252 else 253
  let s := cause .RP_EVT .RP_EVT_MASK 0 b e s
  if b = 4 then s else log38 0 b e stamp detail s

/-! ### Cells and tiles (R139) -/

/-- The masking cell in AU. -/
def cellSize (code : Nat) : Nat := [102400, 128000, 256000, 512000].getD code 102400
def gmCell (s : State) : Nat := cellSize (s.fld GM_CFG_CELL 0)
/-- The stencil cell in AU. -/
def gmStencil (s : State) : Nat := s.gmCell * 2 ^ s.fld GM_CFG_SK 0

/-- The key of a tile: TY and TX, 16 bits each. -/
def tileKey (tx ty : Int) : Nat := unsig 16 ty * 65536 + unsig 16 tx

/-- The tile and the cell in it, of a cell with indices (gx, gy) on the plane. -/
def tileOfCell (gx gy : Int) : Nat := tileKey (32768 + gx / 64) (32768 + gy / 64)
def cellInTile (gx gy : Int) : Nat := (64 * (gy % 64) + gx % 64).toNat

/-! ### Directory and raster in MRAM (R167, R168) -/

def dirBase : Nat := 0x02F00000
def slotAddr (q : Nat) : Nat := 0x02000000 + 512 * q
def dirFormat : Word := 0x4D534B01#32

/-- Searches the directory from entry `e`: the entry where it stops, and the tile's slot if it has one. -/
def dirGo (s : State) (key : Nat) : Nat → Nat → Nat × Option Nat
  | 0, e => (e, none)
  | k + 1, e =>
    let a := dirBase + 0x400 + 8 * e
    let w := s.rdWord (a + 4)
    if bitAt w 31 then
      if (s.rdWord a).toNat = key then (e, some (bitsOf w 14 0)) else dirGo s key k ((e + 1) % 32640)
    else (e, none)

def dirFind (s : State) (key : Nat) : Nat × Option Nat :=
  s.dirGo key 32640 ((key % 65536 * 40503 + key / 65536 * 9973) % 32640)

/-- The 512 B of a slot as cells: bit 64·cy + cx. -/
def slotCells (s : State) (q : Nat) : BitVec 4096 := BitVec.ofNat 4096 (bytesLE (s.rdBytes (slotAddr q) 512))

def tileBytes (c : BitVec 4096) : List Byte := natBytes c.toNat 512

/-- The header agrees with the registers (R172). -/
def headerOk (s : State) : Bool :=
  s.rdWord dirBase == dirFormat && s.rdWord (dirBase + 8) == s.get .GM_ORG_LAT 0 &&
  s.rdWord (dirBase + 0xC) == s.get .GM_ORG_LON 0 && (s.rdWord (dirBase + 0x10)).toNat % 4 == s.fld GM_CFG_CELL 0

/-- A place of the as-applied log store, where replay keeps the masking (R39, R41, R448). -/
def shadowAddr (q : Nat) : Nat := 0x02E00000 + 512 * q
def shadowCells (s : State) (q : Nat) : BitVec 4096 := BitVec.ofNat 4096 (bytesLE (s.rdBytes (shadowAddr q) 512))

/-- A tile outside the working cache: the shadow first in replay, then the raster; none without a slot (R155, R448). Every
cell of a tile whose slot cannot be read is 0 (R453). -/
def storedTile (s : State) (key : Nat) : Option (BitVec 4096) :=
  match (if s.inReplay then SMap.get none s.shadow key else none) with
  | some q => some (s.shadowCells q)
  | none => if s.mm.bad.contains key then some 0#4096 else (s.dirFind key).2.map s.slotCells

/-- A masking tile as the unit sees it. -/
def maskTile (s : State) (key : Nat) : Option (BitVec 4096) :=
  match SMap.get none s.mtiles key with
  | some t => some t.cells
  | none => s.storedTile key

/-- One masking cell; tiles without a slot count as 0 (R155). -/
def maskCell (s : State) (gx gy : Int) : Bool :=
  match s.maskTile (tileOfCell gx gy) with
  | some c => c.getLsbD (cellInTile gx gy)
  | none => false

/-- The masking at a point in AU. -/
def maskAt (s : State) (x y : Int) : Bool := s.maskCell (x / (s.gmCell : Int)) (y / (s.gmCell : Int))

/-- A write-back through the journal (R169); in replay into the shadow, lost when that is full (R448). -/
def writeBack (key : Nat) (s : State) : State :=
  match SMap.get none s.mtiles key with
  | none => s
  | some t =>
    let s : State := { s with mtiles := SMap.set none s.mtiles key none }
    if s.inReplay then
      match (SMap.get none s.shadow key).or (if s.shadow.length < 2048 then some s.shadow.length else none) with
      | some q => { s.wrBytes (shadowAddr q) (tileBytes t.cells) with shadow := SMap.set none s.shadow key (some q) }
      | none => rpCause 3 s.T [] s
    else
      match (s.dirFind key).2 with
      | some q =>
        let s := s.wrBytes (dirBase + 0x200) (tileBytes t.cells)
        let s := (s.wrWord (dirBase + 0x100) (BitVec.ofNat 32 key)).wrWord (dirBase + 0x104) (BitVec.ofNat 32 q)
        let s := s.wrWord (dirBase + 0x108) 1#32
        let s := s.wrBytes (slotAddr q) (tileBytes t.cells)
        let s := s.wrWord (dirBase + 0x108) 0#32
        { s with mm := { s.mm with bad := s.mm.bad.filter (· != key) } }
      | none => s

def writeBackAll (s : State) : State := each (s.mtiles.map (·.1)) writeBack s

/-- Whether the trigger of a dirty tile's write-back is due: 64 steps without a write, or a second (R169). -/
def writeBackDue (s : State) (key : Nat) : Bool :=
  match SMap.get none s.mtiles key with
  | some t => decide (t.wrote + 64 ≤ s.geo.disp) || decide (200000000 ≤ s.T - t.since)
  | none => false

/-- A valid journal is copied into its slot after a reset (R170). -/
def journalReplay (s : State) : State :=
  if (s.rdWord (dirBase + 0x108)).toNat % 2 = 1 then
    let q := bitsOf (s.rdWord (dirBase + 0x104)) 14 0
    let s := s.wrBytes (slotAddr q) (s.rdBytes (dirBase + 0x200) 512)
    raiseLog 78 0 noCause s.T [] (s.wrWord (dirBase + 0x108) 0#32)
  else s

/-- Whether a tile has no slot and none is left for it. In replay nothing is allocated: the shadow takes the tile. -/
def rasterFull (s : State) (key : Nat) : Bool :=
  !s.inReplay && (s.dirFind key).2.isNone && decide (24576 ≤ (s.rdWord (dirBase + 0x18)).toNat)

/-- Allocates a slot for a tile that has none: the tile with its first coverage, NEXT_SLOT and the entry, in that order
(R168). -/
def slotAlloc (key : Nat) (bits : BitVec 4096) (s : State) : State :=
  if s.inReplay then s else
  match s.dirFind key with
  | (_, some _) => s
  | (e, none) =>
    let q := (s.rdWord (dirBase + 0x18)).toNat
    let s := s.wrBytes (slotAddr q) (tileBytes bits)
    let s := s.wrWord (dirBase + 0x18) (BitVec.ofNat 32 (q + 1))
    let a := dirBase + 0x400 + 8 * e
    (s.wrWord a (BitVec.ofNat 32 key)).wrWord (a + 4) (BitVec.ofNat 32 (2 ^ 31 + q))

/-- Makes room in the working cache of 256 tiles: of the tiles not written in the present step the one written longest ago
is written back (R169; DESIGN CHOICE, log 33). False when every tile was written in the present step. -/
def cacheRoom (s : State) : State × Bool :=
  if s.mtiles.length < 256 then (s, true)
  else
    let old := s.mtiles.foldl (fun (b : Option (Nat × Nat)) e => match e.2 with
      | some t => if t.step.isSome && t.step == s.geo.covN then b else match b with
        | some (_, w) => if t.wrote < w then some (e.1, t.wrote) else b
        | none => some (e.1, t.wrote)
      | none => b) none
    match old with
    | some (k, _) => (writeBack k s, true)
    | none => (s, false)

/-- The lowest number that a list does not hold: a free place of a cache (DESIGN CHOICE, log 33). -/
def freePlace (l : List Nat) : Nat := ((List.range (l.length + 1)).find? fun k => !l.contains k).getD l.length

def mtilePlaces (s : State) : List Nat := s.mtiles.filterMap fun e => e.2.map (·.place)
def stilePlaces (s : State) : List Nat := s.stiles.filterMap fun e => e.2.map (·.place)

/-- Sets cells of a tile in the working cache: 0 written, 1 waiting for a place, 2 not written (raster full, R168). -/
def maskSet (key : Nat) (bits : BitVec 4096) (s : State) : State × Nat :=
  let n := s.geo.disp
  let by' := s.geo.covN
  match SMap.get none s.mtiles key with
  | some t =>
    ({ s with mtiles := SMap.set none s.mtiles key (some { t with cells := t.cells ||| bits, wrote := n, step := by' }) }, 0)
  | none =>
    if s.rasterFull key then
      (if s.flag GM_STAT_FULL 0 then s else raiseLog 71 0 noCause s.T [] (s.setFlag GM_STAT_FULL 0 true), 2)
    else
      let r := cacheRoom s
      if r.2 then
        let c := (r.1.storedTile key).getD 0
        let s := slotAlloc key bits r.1
        ({ s with mtiles := SMap.set none s.mtiles key (some ⟨c ||| bits, n, s.T, by', freePlace s.mtilePlaces⟩) }, 0)
      else (r.1, 1)

/-! ### Map commands (R171) -/

/-- CLEAR. -/
def mapClear (s : State) : State :=
  let s := s.wrBytes (dirBase + 0x400) (List.replicate (8 * 32640) 0#8)
  let s := s.wrBytes (dirBase + 0x18) (List.replicate 12 0#8)
  let s := s.wrBytes (dirBase + 0x100) (List.replicate 12 0#8)
  let s := (s.wrBytes (dirBase + 0x200) (List.replicate 512 0#8)).wrWord dirBase dirFormat
  let s := (s.wrWord (dirBase + 8) (s.get .GM_ORG_LAT 0)).wrWord (dirBase + 0xC) (s.get .GM_ORG_LON 0)
  let s := (s.wrWord (dirBase + 0x10) (BitVec.ofNat 32 (s.fld GM_CFG_CELL 0))).wrWord (dirBase + 0x14) (s.get .GM_JOB 0)
  { s.setFlag GM_STAT_FULL 0 false with mtiles := [] }

/-- ADOPT: the header's settings are loaded. -/
def mapAdopt (s : State) : State :=
  let s := writeBackAll s
  let s := (s.put .GM_ORG_LAT 0 (s.rdWord (dirBase + 8))).put .GM_ORG_LON 0 (s.rdWord (dirBase + 0xC))
  (s.setFld GM_CFG_CELL 0 (s.rdWord (dirBase + 0x10)).toNat).put .GM_JOB 0 (s.rdWord (dirBase + 0x14))

/-- MERGE takes its source; its bits serve from completion on. -/
def mapMerge (s : State) : State :=
  let k := (s.get .GM_MAP_ARG 0).toNat
  let c := BitVec.ofNat 4096 (bytesLE (s.rdBytes (s.get .GM_MAP_SRC 0).toNat 512))
  { s with geo := { s.geo with merge := some (k, c) } }

/-- MAP_DONE: the command completes (R171). A MERGE that finds no place in the working cache waits for one (R169). -/
def mapDone (s : State) : State :=
  let done (s : State) : State := (s.setFlag GM_STAT_MAP_BUSY 0 false).raise 75
  if s.flag GM_STAT_MAP_BUSY 0 then
    match s.geo.merge with
    | some (k, c) =>
      let r := maskSet k c s
      if r.2 = 1 then s else done { r.1 with geo := { r.1.geo with merge := none } }
    | none => done s
  else s

/-- Whether a write of GM_MAP_CMD meets an error response (R171). -/
def mapErr (s : State) (v : Word) : Bool :=
  let c := bitsOf v 2 0
  c != 0 && (s.flag GM_STAT_MAP_BUSY 0 || ((c == 1 || c == 4) && s.flag GM_CTRL_RUN 0) ||
    (c == 4 && s.rdWord dirBase != dirFormat))

/-- A map command starts. Codes 0 and 5 to 7 start nothing. -/
def mapStart (v : Word) (s : State) : State :=
  let busy (s : State) : State := s.setFlag GM_STAT_MAP_BUSY 0 true
  match bitsOf v 2 0 with
  | 1 => busy (mapClear s)
  | 2 => busy (mapMerge s)
  | 3 => busy (writeBackAll s)
  | 4 => busy (mapAdopt s)
  | _ => s

/-! ### The stencil cache (R161 to R165) -/

/-- CRC-32 of IEEE 802.3 over bytes. -/
def crcBit (c : BitVec 32) : BitVec 32 := if c.getLsbD 0 then (c >>> 1) ^^^ 0xEDB88320#32 else c >>> 1
def crcByte (c : BitVec 32) (b : Byte) : BitVec 32 :=
  (List.range 8).foldl (fun c _ => crcBit c) (c ^^^ b.setWidth 32)
def crc32 (l : List Byte) : Word := ~~~ (l.foldl crcByte 0xFFFFFFFF#32)

def stile (s : State) (key : Nat) : Option STile := SMap.get none s.stiles key

/-- A tile is pinned while an evaluation of the last 256 dispatched steps has read it (R163). -/
def stPinned (s : State) (t : STile) : Bool := t.read && decide (s.geo.disp < t.last + 256)

/-- A refusal of a tile (R163). -/
def tileRefuse (code : Nat) (s : State) : State :=
  (s.incSat GM_TC_CNT_REF 0).setFld GM_TC_STAT_RSN 0 code |>.raise 69

/-- Puts a tile into a free place or over the least recently read unpinned one; a tie goes to the lowest tile number.
DESIGN CHOICE (log 33): a tile not read yet counts as last read at the step of its installing. -/
def tileNew (key : Nat) (c : BitVec 16384) (s : State) : State :=
  let put (s : State) : State :=
    ({ s with stiles := SMap.set none s.stiles key (some ⟨c, s.geo.disp, false, freePlace s.stilePlaces⟩) } : State).incMod
      GM_TC_CNT_INST 0
  if s.stiles.length < 512 then put s
  else
    let old := s.stiles.foldl (fun (b : Option (Nat × Nat)) e => match e.2 with
      | some t => if s.stPinned t then b else match b with
        | some (_, l) => if t.last < l then some (e.1, t.last) else b
        | none => some (e.1, t.last)
      | none => b) none
    match old with
    | some (k, _) => put { s with stiles := SMap.set none s.stiles k none }
    | none => tileRefuse 1 s

/-- INSTALL and FILL (R163, R164). -/
def tileInstall (key : Nat) (c : BitVec 16384) (s : State) : State :=
  match s.stile key with
  | some t =>
    let live := s.stPinned t && t.cells != c
    let s : State := { s with stiles := SMap.set none s.stiles key (some { t with cells := c }) }
    let s := s.incMod GM_TC_CNT_INST 0
    if live then depart (raiseLog 70 0 noCause s.Tn [BitVec.ofNat 32 key] s) else s
  | none => tileNew key c s

/-- EVICT; `code` is what a pinned tile answers (R163). -/
def tileEvict (key : Nat) (s : State) : State × Bool :=
  match s.stile key with
  | some t => if s.stPinned t then (s, false) else ({ s with stiles := SMap.set none s.stiles key none }, true)
  | none => (s, true)

/-- One stencil element: header words and the 2048 tile bytes (R162, R163). -/
def tileElement (w0 w1 w3 : Word) (tile : List Byte) (s : State) : State :=
  let key := w0.toNat
  match bitsOf w1 31 24 with
  | 1 =>
    if bitAt w1 0 && crc32 tile != w3 then tileRefuse 2 s
    else tileInstall key (BitVec.ofNat 16384 (bytesLE tile)) s
  | 2 =>
    if bitAt w1 0 && crc32 tile != w3 then tileRefuse 2 s
    else tileInstall key (BitVec.ofNat 16384 (bytesLE (List.replicate 2048 (BitVec.ofNat 8 (17 * bitsOf w1 23 20))))) s
  | 3 =>
    if bitAt w1 0 && crc32 tile != w3 then tileRefuse 2 s
    else let r := tileEvict key s; if r.2 then r.1 else tileRefuse 4 r.1
  | _ => tileRefuse 3 s

/-- TILE_INTAKE: at most one element a tick, of Q28 or else of Q29 (R162); in replay the elements come from TILE records
(R448). -/
def tileIntake (s : State) : State :=
  let q := if s.qFill 28 != 0 then 28 else 29
  if s.inReplay || s.qFill q = 0 || s.geo.intake = some (s.tick + 1) then s else
  let s : State := { s with geo := { s.geo with intake := some (s.tick + 1) } }
  let a := s.qSlot q (s.qHead q)
  let t := s.rdBytes (a + 16) 2048
  qSetHead q ((s.qHead q + 1) % 65536) (tileElement (s.rdWord a) (s.rdWord (a + 4)) (s.rdWord (a + 12)) t s)

/-! ### The caches in SRAM (R38, R40) -/

/-- A byte of a tile with `cells` as its bits. -/
def cellByte {w : Nat} (cells : BitVec w) (k : Nat) : Byte := (cells >>> (8 * k)).setWidth 8

/-- What a master's read finds at an address: in the two caches the tiles at their places, elsewhere memory. -/
def seenByte (s : State) (a : Nat) : Byte :=
  if a < 0x01000000 ∨ 0x01120000 ≤ a then s.rdByte a
  else if a < 0x01100000 then
    match (s.stiles.filterMap (·.2)).find? fun t => t.place == (a - 0x01000000) / 2048 with
    | some t => cellByte t.cells ((a - 0x01000000) % 2048)
    | none => s.rdByte a
  else
    match (s.mtiles.filterMap (·.2)).find? fun t => t.place == (a - 0x01100000) / 512 with
    | some t => cellByte t.cells ((a - 0x01100000) % 512)
    | none => s.rdByte a

def seenWord (s : State) (a : Nat) : Word :=
  if a < 0x01000000 ∨ 0x01120000 ≤ a then s.rdWord a else bytesWord ((List.range 4).map fun k => s.seenByte (a + k))

/-- The tile of a plane point on the stencil, and its cell. -/
def stencilKey (s : State) (x y : Int) : Nat := tileOfCell (x / (s.gmStencil : Int)) (y / (s.gmStencil : Int))

/-- The zone at a point: none when its tile is not cached. -/
def zoneAt (s : State) (x y : Int) : Option Nat :=
  (s.stile (s.stencilKey x y)).map fun t =>
    t.cells.toNat / 2 ^ (4 * cellInTile (x / (s.gmStencil : Int)) (y / (s.gmStencil : Int))) % 16

/-- The same, as an evaluation reads it: the tile counts as read by the present step (R163). -/
def zoneRead (x y : Int) (s : State) : State × Option Nat :=
  let k := s.stencilKey x y
  match s.stile k with
  | some t => ({ s with stiles := SMap.set none s.stiles k (some { t with last := s.geo.disp, read := true }) }, s.zoneAt x y)
  | none => (s, none)

end State
end Sys2Proof.Machine
end

