-- ==== Sys2Proof/Machine/Nmea.lean ====
section
/-!
DEFINITION. Sys2Proof/Machine/Nmea.lean: NMEA 0183 sentences as R140 accepts them: framing, checksum, and the fields of
GGA, RMC, VTG and HDT. PRESUMED (log 32): the places of the fields are those of NMEA 0183, which the manual names and
does not print.
-/

namespace Sys2Proof.Machine

/-- A decimal number as digits without the point and the power of ten below it. -/
structure Dec where
  num : Nat
  den : Nat
deriving DecidableEq, Repr

namespace Nmea

def isDigit (b : Byte) : Bool := decide (48 ≤ b.toNat) && decide (b.toNat ≤ 57)

/-- Reads digits with at most one point. -/
def decGo : List Byte → Bool → Nat → Nat → Option Dec
  | [], _, n, d => some ⟨n, d⟩
  | b :: r, frac, n, d =>
    if isDigit b then decGo r frac (10 * n + (b.toNat - 48)) (if frac then 10 * d else d)
    else if b.toNat = 46 && !frac then decGo r true n d
    else none

def dec (l : List Byte) : Option Dec := if l.isEmpty then none else decGo l false 0 1

/-- A hexadecimal digit. -/
def hex (b : Byte) : Option Nat :=
  let n := b.toNat
  if 48 ≤ n ∧ n ≤ 57 then some (n - 48) else if 65 ≤ n ∧ n ≤ 70 then some (n - 55)
  else if 97 ≤ n ∧ n ≤ 102 then some (n - 87) else none

/-- The fields between commas. -/
def fieldsGo : List Byte → List Byte → List (List Byte)
  | [], acc => [acc.reverse]
  | b :: r, acc => if b.toNat = 44 then acc.reverse :: fieldsGo r [] else fieldsGo r (b :: acc)

/-- The text between `$` and `*`, when the framing and the checksum are right and the length is at most 82 (R140). -/
def body (l : List Byte) : Option (List Byte) :=
  if 82 < l.length then none else
  match l with
  | d :: r =>
    if d.toNat ≠ 36 then none else
    let t := r.takeWhile fun b => b.toNat != 42
    match r.drop t.length with
    | [_, h, k, cr, lf] =>
      match hex h, hex k with
      | some x, some y =>
        if cr.toNat = 13 ∧ lf.toNat = 10 ∧ (t.foldl (fun a b => a ^^^ b) 0#8).toNat = 16 * x + y then some t else none
      | _, _ => none
    | _ => none
  | [] => none

/-- The sentence types of R140 after the two characters of the talker: 0 GGA, 1 RMC, 2 VTG, 3 HDT. -/
def typeOf (l : List Byte) : Option Nat :=
  match l.map (·.toNat) with
  | [_, _, 71, 71, 65] => some 0
  | [_, _, 82, 77, 67] => some 1
  | [_, _, 86, 84, 71] => some 2
  | [_, _, 72, 68, 84] => some 3
  | _ => none

/-- A letter of either case. -/
def letter (b : Byte) : Bool :=
  (decide (65 ≤ b.toNat) && decide (b.toNat ≤ 90)) || (decide (97 ≤ b.toNat) && decide (b.toNat ≤ 122))

/-- The type of an address whose talker prefix is two letters (R140). -/
def kindOf (l : List Byte) : Option Nat := if (l.take 2).all letter then typeOf l else none

/-- The type that the first characters name, whatever else is wrong with the sentence. -/
def kindAt (l : List Byte) : Option Nat := typeOf ((l.drop 1).take 5)

/-- An accepted sentence: its type and its fields after the address (R140). -/
def parse (l : List Byte) : Option (Nat × List (List Byte)) :=
  match body l with
  | some t => match fieldsGo t [] with
    | a :: fs => (kindOf a).map fun k => (k, fs)
    | [] => none
  | none => none

def fieldAt (fs : List (List Byte)) (n : Nat) : List Byte := fs.getD n []

/-- Whether a field is the one letter. -/
def isLetter (l : List Byte) (c : Nat) : Bool := l.map (·.toNat) == [c]

/-- UTC as clocks of 5 ns of the day, from hhmmss with decimals. -/
def utc (l : List Byte) : Option Nat :=
  (dec l).map fun d =>
    let w := d.num / d.den
    (w / 10000 * 3600 + w / 100 % 100 * 60) * 200000000 +
      (divRNE ((d.num - w / 100 * 100 * d.den : Nat) * 200000000 : Int) d.den).toNat

/-- A latitude or longitude in degrees, from degrees and minutes: degrees + minutes ÷ 60 in binary64 (R137). -/
def angle (l h : List Byte) (neg : Nat) : Option DWord :=
  (dec l).map fun d =>
    let deg := d.num / d.den / 100
    let min := f64.ofRat ((d.num - deg * 100 * d.den : Nat) : Int) d.den
    let v := f64.add (f64.ofInt deg) (f64.div min (f64.ofInt 60))
    if isLetter h neg then f64.neg v else v

end Nmea

end Sys2Proof.Machine
end

