-- ==== Sys2Proof/Machine/Pose.lean ====
section
/-!
DEFINITION. Sys2Proof/Machine/Pose.lean: the local plane, GNSS sentences and PPS edges, host fixes, the IMU template, and
the pose with its fixes (R136 to R149).
-/

namespace Sys2Proof.Machine
namespace State

def modGeo (f : Geo → Geo) (s : State) : State := { s with geo := f s.geo }
def gmRun (s : State) : Bool := s.flag GM_CTRL_RUN 0
def gmAx (s : State) : Nat := s.fld GM_CFG_AX 0
def rcv (s : State) (r : Nat) : Gnss := SMap.get {} s.gnss r
def modRcv (r : Nat) (f : Gnss → Gnss) (s : State) : State :=
  { s with gnss := SMap.set {} s.gnss r (f (s.rcv r)) }

/-! ### The plane (R136, R137) -/

def degRad (d : DWord) : DWord := f64.div (f64.mul d f64.pi) (f64.ofInt 180)
/-- An angle of 10^-7 degree in rad. -/
def orgRad (w : Word) : DWord := degRad (f64.ofRat (wint w) 10000000)

/-- N0 and M0, computed once at RUN (R137). DESIGN CHOICE (log 57): `e²·sin²` is `(e²·sin)·sin`, and the power 1.5 of
`w` is `w·√w`, each operation rounded. -/
def planeRadii (s : State) : DWord × DWord :=
  let a := f64.ofInt 6378137
  let e2 := f64.ofRat 669437999014 100000000000000
  let sn := f64.sin (orgRad (s.get .GM_ORG_LAT 0))
  let w := f64.sub (f64.ofInt 1) (f64.mul (f64.mul e2 sn) sn)
  (f64.div a (f64.sqrt w), f64.div (f64.mul a (f64.sub (f64.ofInt 1) e2)) (f64.mul w (f64.sqrt w)))

/-- A geodetic position in degrees on the plane, in AU (R137). -/
def project (s : State) (lat lon : DWord) : DWord × DWord :=
  let p0 := orgRad (s.get .GM_ORG_LAT 0)
  let l0 := orgRad (s.get .GM_ORG_LON 0)
  let x := f64.mul (f64.mul s.geo.n0 (f64.cos p0)) (f64.sub (degRad lon) l0)
  let y := f64.mul s.geo.m0 (f64.sub (degRad lat) p0)
  let k := f64.ofInt 1024000
  (f64.ofInt (f64.toInt (f64.mul x k) 0), f64.ofInt (f64.toInt (f64.mul y k) 0))

/-- θ from a compass bearing in degrees (R142). -/
def bearing (d : Dec) : DWord := f64.wrap (f64.sub f64.halfPi (degRad (f64.ofRat d.num d.den)))

/-! ### GNSS sentences and PPS (R140 to R142, R81) -/

def day : Nat := 86400 * 200000000

/-- The epoch of a sentence with UTC time `tau` taken in at `t` (R141). -/
def gnssEpoch (s : State) (r t : Nat) (tau : Option Nat) : Nat :=
  let pps := if r = 0 then s.flag GM_GNSS_CFG_PPS0_EN 0 else s.flag GM_GNSS_CFG_PPS1_EN 0
  let plain := t - 200000 * s.fld GM_GNSS_CFG_LAT_MS 0
  match tau with
  | none => plain
  | some u =>
    match (if pps then (s.rcv r).paired else []).find? fun p => decide ((u + day - p.2) % day < 400000000) with
    | some p => min t (p.1 + (u + day - p.2) % day)
    | none => plain

/-- A GGA pairs the PPS edge before it (R141). -/
def ppsPair (r t : Nat) (tau : Option Nat) (s : State) : State :=
  match (s.rcv r).pps, tau with
  | some tp, some u =>
    if u % 200000000 = 0 ∧ tp < t ∧ t < tp + 200000000 then
      s.modRcv r fun g => { g with pps := none, paired := ((tp, u) :: g.paired).take 2 }
    else s
  | _, _ => s

def queueFix (f : Fix) (s : State) : State := when s.gmRun (modGeo fun g => { g with fixes := g.fixes ++ [f] }) s

/-- Speed in m/s and course from an RMC or VTG (R81). VTG gives km/h, or knots where that field is empty. -/
def speedOf (kind : Nat) (fs : List (List Byte)) : Option Word :=
  let kn (l : List Byte) := (Nmea.dec l).map fun d => f32.mul (f32.ofRat d.num d.den) (f32.ofRat 514444 1000000)
  if kind = 1 then kn (Nmea.fieldAt fs 6)
  else match Nmea.dec (Nmea.fieldAt fs 6) with
    | some d => some (f32.div (f32.ofRat d.num d.den) (f32.ofRat 36 10))
    | none => kn (Nmea.fieldAt fs 4)

/-- Whether a speed sentence is accepted for a wait of `lim` clocks (R81). -/
def speedOk (s : State) (r t lim kind : Nat) (fs : List (List Byte)) : Bool :=
  (match (s.rcv r).ggaT with
   | some g => decide (t - g ≤ lim)
   | none => false) && decide (1 ≤ (s.rcv r).ggaQ) &&
  (if kind = 1 then Nmea.isLetter (Nmea.fieldAt fs 1) 65
   else !(Nmea.fieldAt fs 8).isEmpty && !Nmea.isLetter (Nmea.fieldAt fs 8) 78) &&
  (speedOf kind fs).isSome

/-- A speed sentence for one axis that takes its GNSS speed from receiver `r` (R80, R81). -/
def speedAxis (r t kind : Nat) (fs : List (List Byte)) (i : Nat) (s : State) : State :=
  let lim := s.axGnssTo i
  match (if s.speedOk r t lim kind fs then speedOf kind fs else none) with
  | none => s.raise 44
  | some v =>
    let cog := (Nmea.dec (Nmea.fieldAt fs (if kind = 1 then 7 else 0))).map bearing
    let neg := (s.ax i).signG
    (s.put .AX_GNSS_V i (if neg then f32.neg v else v)).modAx i fun a => { a with gT := some t, gCog := cog, gNew := true }

/-- The course over ground of an accepted RMC or VTG as a heading: of the receiver that the ground axis names, whether
or not the axis takes its speed (R148; DESIGN CHOICE, log 56). -/
def courseTake (r t kind : Nat) (fs : List (List Byte)) (s : State) : State :=
  let i := s.gmAx
  let slow := match speedOf kind fs with | some v => !f32.le f32.one v | none => true
  if slow || s.fld AX_SRC_GNSS_SEL i != r || !s.speedOk r t (s.axGnssTo i) kind fs then s
  else match (Nmea.dec (Nmea.fieldAt fs (if kind = 1 then 7 else 0))).map bearing with
    | some c =>
      let c := if f32.isNeg (s.axVel i) then f64.wrap (f64.add c f64.pi) else c
      let tau := if kind = 1 then Nmea.utc (Nmea.fieldAt fs 0) else none
      queueFix { gnss := true, epoch := s.gnssEpoch r t tau, stamp := t, head := some (c, 2) } s
    | none => s

/-- An accepted and rated sentence. -/
def gnssTake (r t kind : Nat) (fs : List (List Byte)) (s : State) : State :=
  match kind with
  | 0 =>
    let q := match Nmea.dec (Nmea.fieldAt fs 5) with | some d => d.num / d.den | none => 0
    let tau := Nmea.utc (Nmea.fieldAt fs 0)
    let s := ppsPair r t tau (s.modRcv r fun g => { g with ggaQ := q, ggaT := some t })
    if s.fld GM_CFG_POSSRC 0 = r ∧ s.fld GM_GNSS_CFG_QMIN 0 ≤ q then
      match Nmea.angle (Nmea.fieldAt fs 1) (Nmea.fieldAt fs 2) 83, Nmea.angle (Nmea.fieldAt fs 3) (Nmea.fieldAt fs 4) 87 with
      | some la, some lo =>
        queueFix { gnss := true, epoch := s.gnssEpoch r t tau, stamp := t, pos := some (s.project la lo), antenna := true } s
      | _, _ => s.raise 64
    else s
  | 3 =>
    match Nmea.dec (Nmea.fieldAt fs 0) with
    | some d =>
      let h := bearing d
      let s := s.modRcv r fun g => { g with hdt := some (h, t) }
      if s.fld GM_CFG_HDT_SEL 0 = r then
        queueFix { gnss := true, epoch := s.gnssEpoch r t none, stamp := t, head := some (h, 0) } s
      else s
    | none => s.raise 64
  | k => courseTake r t k fs (each (pick 32 fun i => s.axEn i && s.axType i == tGround && s.axHas i .gnss &&
      s.fld AX_SRC_GNSS_SEL i == r) (speedAxis r t k fs) s)

/-- GNSS_SENTENCE: the bytes of a line, taken in at the stamp `t` (R140). -/
def gnssSentence (r t : Nat) (l : List Byte) (s : State) : State :=
  let s := recNote 6 r t (packBytes l) s
  match Nmea.parse l with
  | some (k, fs) =>
    let x := rateTake (8 + 4 * r + k) 20 t s
    if x.2 then axOver r t x.1 else gnssTake r t k fs x.1
  | none => match Nmea.kindAt l with
    | some 0 => s.raise 64
    | some 3 => s.raise 64
    | some _ => s.raise 44
    | none => s

/-- PPS_EDGE (R141). -/
def ppsEdge (r t : Nat) (s : State) : State := (recNote 5 r t [] s).modRcv r fun g => { g with pps := some t }

/-! ### Host fixes and the IMU (R143 to R145) -/

def fixWord (s : State) (id n : Nat) : Word :=
  s.get .GM_FIX (8 * id + n)

/-- A coordinate of 48 bits from its halves. -/
def coord (lo : Word) (hi : Nat) : DWord := f64.ofInt (signed 48 (lo.toNat + 2 ^ 32 * hi))

/-- The refusal code of a staged record (R144). -/
def fixCode (s : State) (w : Nat → Word) : Nat :=
  let k := bitsOf (w 0) 31 28
  if k = 0 ∨ 4 < k ∨ 1024000 < bitsOf (w 0) 23 0 then 1
  else if ((k = 2 ∨ k = 4) ∧ f32.nonFinite (w 4)) ∨ (k = 3 ∧ f32.nonFinite (w 5)) then 2
  else if !s.gmRun then 3 else 0

/-- A yaw-only record of the IMU template: rated at 1000 within a second, with those of hosts (R89, R92, R99). -/
def yawRecord (w : Word) (epoch t : Nat) (s : State) : State :=
  let x := rateTake 1 1000 t s
  if x.2 then axOver 0 t x.1 else { x.1 with yaw := { x.1.yaw with imu := some (w, epoch) } }

/-- The host-fix rating: 100 of KIND 0x1, 0x2 and 0x4 within a second, and the rating of yaw-only records; one over its
rating is refused with code 4 (R144). Key 20 of the rated inputs. -/
def hostFix (w : Nat → Word) (t : Nat) (s : State) : State × Nat :=
  let c := s.fixCode w
  if c != 0 then (s, c) else
  let k := bitsOf (w 0) 31 28
  let ep := t - 200 * bitsOf (w 0) 23 0
  if k = 3 then
    let x := rateTake 1 1000 t s
    if x.2 then (axOver 0 t x.1, 4) else ({ x.1 with yaw := { x.1.yaw with host := some (w 5, ep) } }, 0)
  else
    let x := rateTake 20 100 t s
    if x.2 then (depart (raiseLog 77 0 noCause t [] x.1), 4)
    else
      let p := (coord (w 1) (bitsOf (w 2) 15 0), coord (w 3) (bitsOf (w 2) 31 16))
      let f : Fix := { gnss := false, epoch := ep, stamp := t, pos := if k = 4 then none else some p,
                       head := if k = 1 then none else some (f64.wrap (f64.ofSingle (w 4)), 1) }
      (queueFix f x.1, 0)

/-- IMU_TRANSACTION: every PERIOD ticks (R145). -/
def imuStart (s : State) : State :=
  if s.flag GM_IMU_CFG_EN 0 && !s.imu.busy && (s.tick - s.imu.t0) % s.fld GM_IMU_CFG_PERIOD 0 == 0 then
    let n := s.fld GM_IMU_CFG_LEN 0
    { s with imu := { s.imu with busy := true, sent := (wordBytes (s.get .GM_IMU_CMD 0) ++ List.replicate 11 0#8).take n } }
  else s

/-- The yaw field of the received bytes. Bytes beyond the transaction are values the manual does not state. -/
def imuRaw (s : State) (l : List Byte) : Int :=
  let n := 2 ^ min (s.fld GM_IMU_FMT_YLEN 0) 2
  let o := s.fld GM_IMU_FMT_OFS 0
  let b := (List.range n).map fun k => l.getD (o + k) ((Config.accessWord (s.acc + k)).setWidth 8)
  let v := if s.flag GM_IMU_FMT_BE 0 then bytesBE b else bytesLE b
  if s.flag GM_IMU_FMT_SIGNED 0 then signed (8 * n) v else v

/-- IMU_RECORD: chip select is deasserted at `t` (R145). -/
def imuRecord (t : Nat) (l : List Byte) (s : State) : State :=
  if s.imu.busy then
    let l := l.take (s.fld GM_IMU_CFG_LEN 0)
    let w := f32.mul (f32.ofInt (s.imuRaw l)) (s.get .GM_IMU_K 0)
    let s := recNote 7 1 t [0x30000000#32, 0#32, 0#32, 0#32, 0#32, w, 0#32, 0#32] s
    yawRecord w t t { s with imu := { s.imu with busy := false }, acc := s.acc + 4 }
  else s

/-! ### Pose (R146 to R149) -/

/-- The pose at a clock, from the history and the present pose; none before the history (R147). -/
def poseAt (s : State) (t : Nat) : Option PoseAt :=
  let g := s.geo
  let mix (a b : PoseAt) : PoseAt :=
    if b.t ≤ a.t then b else
    let f := f64.ofRat ((t : Int) - a.t) (b.t - a.t)
    let lin (p q : DWord) : DWord := f64.add p (f64.mul (f64.sub q p) f)
    ⟨t, lin a.x b.x, lin a.y b.y, f64.wrap (f64.add a.th (f64.mul (f64.wrap (f64.sub b.th a.th)) f))⟩
  let now : PoseAt := ⟨s.T, g.x, g.y, g.th⟩
  match g.hist.getLast? with
  | none => none
  | some o =>
    if t < o.t then none
    else
      let after := g.hist.takeWhile fun e => decide (t < e.t)
      match g.hist.drop after.length with
      | a :: _ => some (mix a (after.getLast?.getD now))
      | [] => none

def mmAu : DWord := f64.ofInt 1024

/-- Distance of a plane vector. -/
def dist (x y : DWord) : DWord := f64.sqrt (f64.add (f64.mul x x) (f64.mul y y))

/-- Whether the jump test refuses a position correction: the fifth refusal in a row reseeds instead (R147, R149). -/
def fixJumps (s : State) (rx ry : DWord) : Bool :=
  s.geo.fix1 && f64.lt (f64.ofInt (102400 * s.fld GM_BLEND_JUMP_LIM 0)) (dist rx ry) && decide (s.geo.refused < 4)

/-- A position correction with residual (rx, ry) that the jump test lets through (R147, R149). -/
def posFix (rx ry : DWord) (s : State) : State :=
  let g := s.geo
  let r := dist rx ry
  let taken (s : State) : State :=
    (s.setFlag GM_STAT_DR_ONLY 0 false).modGeo fun g => { g with fix1 := true, lastFix := s.T }
  let resid (s : State) : State := s.put .GM_RESID 0 (f64.toSingle (f64.div r mmAu))
  let seed (s : State) : State := s.modGeo fun g =>
    { g with x := f64.add g.x rx, y := f64.add g.y ry, ox := f64.zero, oy := f64.zero, refused := 0 }
  if !g.fix1 then taken (seed s)
  else if f64.lt (f64.ofInt (102400 * s.fld GM_BLEND_JUMP_LIM 0)) r then
    taken (raiseLog 66 0 noCause s.T [] (seed s))
  else
    let k := f64.ofRat 1 (2 ^ s.fld GM_BLEND_KP 0)
    taken <| resid <| s.modGeo fun g =>
      { g with ox := f64.add g.ox (f64.mul rx k), oy := f64.add g.oy (f64.mul ry k), refused := 0 }

/-- A heading correction with residual `d` (R148, R149). -/
def headFix (d : DWord) (s : State) : State :=
  s.modGeo fun g =>
    let k := if g.head1 then f64.ofRat 1 (2 ^ s.fld GM_BLEND_KH 0) else f64.ofInt 1
    { g with th := f64.wrap (f64.add g.th (f64.mul d k)), head1 := true }

/-- Whether a heading of this rank is the preferred one: no better one within GNSS_TO of the ground axis (R148). -/
def headPreferred (s : State) (rank t : Nat) : Bool :=
  let lim := s.axGnssTo s.gmAx
  let fresh (o : Option Nat) : Bool := match o with | some u => decide (t - u ≤ lim) | none => false
  match rank with
  | 0 => true
  | 1 => !fresh s.geo.hdtT
  | _ => !fresh s.geo.hdtT && !fresh s.geo.hostT

/-- The residual of a fixed position against the pose `p`: the reference point less the pose (R142, R147). -/
def fixResidual (s : State) (f : Fix) (p : PoseAt) (x y : DWord) : DWord × DWord :=
  let c := f64.cos p.th
  let n := f64.sin p.th
  let arm (r : Reg) : DWord := f64.ofRat (wint (s.get r 0)) 64
  let ax := if f.antenna then arm .GM_ANT_X else f64.zero
  let ay := if f.antenna then arm .GM_ANT_Y else f64.zero
  (f64.sub (f64.sub x (f64.sub (f64.mul ax c) (f64.mul ay n))) p.x,
   f64.sub (f64.sub y (f64.add (f64.mul ax n) (f64.mul ay c))) p.y)

/-- The heading of a fix (R148). -/
def fixHead (f : Fix) (p : PoseAt) (s : State) : State :=
  match f.head with
  | none => s
  | some (h, rank) =>
    let s := s.modGeo fun g => match rank with
      | 0 => { g with hdtT := some f.stamp } | 1 => { g with hostT := some f.stamp } | _ => g
    if s.headPreferred rank f.stamp then headFix (f64.wrap (f64.sub h p.th)) s else s

/-- One fix of the tick: one whose position the jump test refuses is refused whole (R147 to R149). -/
def applyFix (f : Fix) (s : State) : State :=
  match s.poseAt f.epoch with
  | none => s.raise 64
  | some p =>
    match f.pos.map fun q => s.fixResidual f p q.1 q.2 with
    | some r =>
      if s.fixJumps r.1 r.2 then (s.modGeo fun g => { g with refused := g.refused + 1 }).raise 65
      else fixHead f p (posFix r.1 r.2 s)
    | none => fixHead f p s

/-- The fixes that belong to the tick, GNSS ones first (R14, R149). -/
def applyFixes (s : State) : State :=
  let l := s.geo.fixes
  let s := s.modGeo fun g => { g with fixes := [] }
  each (l.filter (·.gnss) ++ l.filter (!·.gnss)) applyFix s

/-- Dead reckoning and the pending offset over one tick (R146). -/
def deadReckon (s : State) : State :=
  let i := s.gmAx
  let ds := if (s.ax i).tEn = s.T then 0 else diff48 (s.axPos i) (s.ax i).prevX
  let w := f64.ofSingle (s.get .AX_YAW 0)
  s.modGeo fun g =>
    let dth := f64.mul w (f64.ofRat 1 100000)
    let thm := f64.add g.th (f64.div dth (f64.ofInt 2))
    let d := f64.ofInt ds
    let x := f64.add g.x (f64.mul d (f64.cos thm))
    let y := f64.add g.y (f64.mul d (f64.sin thm))
    let r := dist g.ox g.oy
    let lim := f64.ofRat (1024 * s.fld GM_BLEND_DRAIN 0) 100000
    let k := if f64.le r lim then f64.ofInt 1 else f64.div lim r
    let mx := f64.mul g.ox k
    let my := f64.mul g.oy k
    { g with th := f64.wrap (f64.add g.th dth), x := f64.add x mx, y := f64.add y my,
             ox := f64.sub g.ox mx, oy := f64.sub g.oy my }

/-- History at whole milliseconds, of the last 1024 ms (R146). -/
def poseHistory (s : State) : State :=
  if s.tick % 100 = 0 then
    s.modGeo fun g => { g with hist := (⟨s.T, g.x, g.y, g.th⟩ :: g.hist).take 1025 }
  else s

/-- The pose as the registers show it. -/
def poseShow (s : State) : State :=
  let g := s.geo
  let w (v : DWord) (lo hi : Reg) (s : State) : State :=
    let n := unsig 64 (wrap48 (f64.toInt v 0))
    (s.put lo 0 (loW n)).put hi 0 (hiW n)
  let s := w g.y .GM_PY_LO .GM_PY_HI (w g.x .GM_PX_LO .GM_PX_HI s)
  let s := s.put .GM_HEAD 0 (f64.toSingle g.th)
  s.setFlag GM_STAT_POSE_OK 0 (g.fix1 && g.head1)

/-- GM_STAT.HDT_OK: an HDT heading within GNSS_TO, whether or not the unit runs. -/
def hdtShow (s : State) : State :=
  s.setFlag GM_STAT_HDT_OK 0 (match (s.rcv (s.fld GM_CFG_HDT_SEL 0)).hdt with
    | some (_, t) => decide (s.T - t ≤ s.axGnssTo s.gmAx)
    | none => false)

/-- The geometry unit in phase 2 of a tick (R146). -/
def posePhase (s : State) : State :=
  hdtShow <| if s.gmRun then
    let x := s.axPos s.gmAx
    let s := s.modGeo fun g =>
      { g with axHist := (x :: g.axHist).take 300000, axTick := s.tick, gx := g.gx + diff48 x (wrap48 g.gx) }
    poseShow (applyFixes (poseHistory (deadReckon s)))
  else s

/-- FIX_LOST: no position fix for GM_FIX_TO since the last one or since RUN (R149). -/
def fixLost (s : State) : State :=
  if s.gmRun && !s.flag GM_STAT_DR_ONLY 0 &&
     decide (200000 * s.fld GM_FIX_TO_TO 0 ≤ s.Tn - s.geo.lastFix) then
    raiseLog 67 0 noCause s.Tn [] (s.setFlag GM_STAT_DR_ONLY 0 true)
  else s

end State
end Sys2Proof.Machine
end

