-- ==== Sys2Proof/Machine/Geometry.lean ====
section
/-!
DEFINITION. Sys2Proof/Machine/Geometry.lean: applicators, spatial steps and their evaluation, rate and duty, RUN and its
ends (R150 to R160, R166, R172, R173, R179).
-/

namespace Sys2Proof.Machine
namespace State

def app (s : State) (i : Nat) : Applic := SMap.get {} s.apps i
def modApp (i : Nat) (f : Applic → Applic) (s : State) : State := { s with apps := SMap.set {} s.apps i (f (s.app i)) }

/-- The lane of an applicator (R150). -/
def appLane (i : Nat) : Nat := if i < 128 then i else i + 128
def laneApp (n : Nat) : Nat := if n < 128 then n else n - 128

/-- A lane the geometry unit feeds (R150). -/
def gmFed (s : State) (n : Nat) : Bool := s.lnEn n && s.lnHw n == 1 && (decide (n < 128) || decide (256 ≤ n))

/-- The spatial step in AU (GM_CFG.STEP). -/
def gmStep (s : State) : Nat := 5120 * 2 ^ s.fld GM_CFG_STEP 0

/-! ### Positions of module times (R174) -/

/-- The ground axis position at a clock, interpolated between the two ticks around it. -/
def gmPosAt (s : State) (t : Nat) : Int :=
  let g := s.geo
  let k := t / 2000
  let at' (k : Nat) : Int := g.axHist.getD (g.axTick - k) (g.axHist.getLast?.getD 0)
  if g.axTick ≤ k then at' g.axTick
  else at' k + divRNE (diff48 (at' (k + 1)) (at' k) * (t % 2000 : Nat)) 2000

/-! ### Confirmed open intervals (R174) -/

def opn (s : State) (n : Nat) : Opens := SMap.get {} s.opens n
def modOpn (n : Nat) (f : Opens → Opens) (s : State) : State := { s with opens := SMap.set {} s.opens n (f (s.opn n)) }

/-- The learning source of a lane: 0 none (and every remote lane), 1 valve, 2 feedback. -/
def opnSrc (s : State) (n : Nat) : Nat := if n < 256 then s.fld LN_CFG_LSRC n else 0

/-- ON_OFS or OFF_OFS in clocks. -/
def opnOfs (s : State) (n : Nat) (on : Bool) : Int :=
  let p := s.fld LN_CFG_PROF n
  200 * signed 16 (if on then s.fld LN_PROF_ON_OFS p else s.fld LN_PROF_OFF_OFS p)

def opnBegin (t : Int) (o : Opens) : Opens :=
  if o.cur then o else { o with ivls := (⟨t.toNat, none⟩ :: o.ivls).take 64, cur := true }

def opnEnd (t : Int) (o : Opens) : Opens :=
  if o.cur then
    match o.ivls with
    | i :: r => { o with ivls := { i with t1 := some (max t.toNat i.t0) } :: r, cur := false }
    | [] => { o with cur := false }
  else o

/-- The interval of an OFF ordered before `t` ends at the OFF's gate time, as for an undetected release (R174). -/
def opnClose (t : Nat) (o : Opens) : Opens :=
  match o.endAt with
  | some g => if g ≤ t then opnEnd g { o with endAt := none } else o
  | none => o

/-- The lane's command changes; its gate time is `t` (R174). -/
def opnCommand (n : Nat) (on : Bool) (t : Nat) (s : State) : State :=
  let d : Int := 200 * (s.lnRawLead n on - 20)
  let src := s.opnSrc n
  s.modOpn n fun o =>
    let o := { o with on := on, gate := t }
    if src = 0 then (if on then opnBegin (t + d) o else opnEnd (t + d) o)
    else if on then { o with fbOpen := src == 2 }
    else
      let o := opnClose t { o with fbOpen := false }
      if o.cur || o.awaitOpen then { o with endAt := some t } else o

/-- An actuation of the lane's valve begins at the commanded start `t`, and its opening will be reported (R174). -/
def opnPulse (n t : Nat) (s : State) : State :=
  if s.opnSrc n = 1 then s.modOpn n fun o => { o with awaitOpen := true, pst := t } else s

/-- The valve drive reports an opening, detected at `t` or not detected (R174, R226). A pulse that starts after an OFF
whose interval still stands open belongs to the next interval. -/
def opnValveOpen (n : Nat) (t : Option Nat) (s : State) : State :=
  if s.opnSrc n = 1 then
    let d := s.opnOfs n true
    let now := s.T
    s.modOpn n fun o =>
      let o := opnClose o.pst { o with awaitOpen := false }
      match t with
      | some t => if o.on || o.endAt.isSome then opnBegin (t + d) { o with vopen := true, rel := none } else o
      | none => { opnEnd (o.rel.getD now) o with endAt := none }
  else s

/-- The valve drive reports a release, detected at `t`, or not detected for a pulse commanded off at `off` (R174). It
ends the interval of an OFF that has reached its gate, unless a later pulse before that gate is still to open. -/
def opnValveRel (n : Nat) (t : Option Nat) (off : Nat) (s : State) : State :=
  if s.opnSrc n = 1 then
    let d := s.opnOfs n false
    let now := s.Tn
    s.modOpn n fun o =>
      let o := { o with vopen := false, rel := some (match t with | some t => ((t : Int) + d).toNat | none => off) }
      match o.endAt with
      | some g =>
        if g ≤ now && !(o.awaitOpen && decide (o.pst < g)) then
          opnEnd (match t with | some t => t + d | none => (g : Int)) { o with endAt := none }
        else o
      | none => o
  else s

/-- A pulse train that an OFF meets between two pulses ends, at the OFF's gate time, where its last pulse ended (R174). -/
def opnSettle (n : Nat) (s : State) : State :=
  let o := s.opn n
  match o.endAt with
  | some g =>
    if s.opnSrc n == 1 && decide (g ≤ s.T) && !o.vopen && !o.awaitOpen then
      s.modOpn n fun o => opnEnd (o.rel.getD g) { o with endAt := none }
    else s
  | none => s

/-- A forced off ends the interval at its instant (R227, R174). -/
def opnForced (n t : Nat) (s : State) : State :=
  if s.opnSrc n = 0 then s else
  s.modOpn n fun o => opnEnd t { o with vopen := false, awaitOpen := false, rel := none, fbOpen := false, endAt := none }

/-- A plain-input edge of the lane's feedback channel (R174). -/
def opnFbEdge (c t : Nat) (lvl : Bool) (s : State) : State :=
  each (pick 128 fun n => s.opnSrc n == 2 && s.fld LN_CFG_FB n == c) (fun n s =>
    let on := lvl == s.flag LN_CFG_FB_POL n
    let d := s.opnOfs n on
    s.modOpn n fun o =>
      if on then
        if o.fbOpen && decide (o.gate ≤ t) then opnBegin (t + d) { o with fbOpen := false } else o
      else match o.endAt with
        | some g => if g ≤ t then opnEnd (t + d) { o with endAt := none } else o
        | none => o) s

/-- Whether the applicator stands in a confirmed open interval. -/
def opnNow (s : State) (n : Nat) : Bool :=
  (s.opn n).ivls.any fun i => decide (i.t0 ≤ s.T) && (match i.t1 with | some t => decide (s.T < t) | none => true)

/-- Whether the end of an actuation commanded off by the dispatch tick `d` is still awaited: it bounds the step (R175). -/
def opnWaits (s : State) (n d : Nat) : Bool :=
  match (s.opn n).endAt with
  | some g => decide (g ≤ 2000 * d + 4000)
  | none => false

/-- After 2.0 s an end not reported is taken as for an undetected release (R175). -/
def opnForce (n d : Nat) (s : State) : State := s.modOpn n (opnClose (2000 * d + 4000))

/-! ### Speed of an applicator (R152) -/

/-- m/s of a speed in AU/s. -/
def auMs (v : Word) : Word := f32.div v (f32.ofInt 1024000)

/-- `v_i` for an axis speed of `v` AU/s. -/
def appSpeed (s : State) (i : Nat) (v : Word) : Word :=
  f32.sub (auMs v) (f32.mul (s.get .AX_YAW 0) (f32.ofRat (wint (s.get .GM_APP_ARMY i)) 65536000))

/-- LOWV with the ground axis's cut-off and hysteresis. -/
def appLowv (i : Nat) (vi : Word) (s : State) : State :=
  let a := s.gmAx
  let c := s.fld AX_APPLY_CUTOFF a
  let low := s.flag GM_APP_STAT_LOWV i
  let low' := if low then !f32.le (f32.ofRat ((c + s.fld AX_APPLY_HYST a : Nat) : Int) 1000) vi
    else f32.lt vi (f32.ofRat c 1000)
  s.setFlag GM_APP_STAT_LOWV i low'

/-! ### Footprints and decisions (R154, R155) -/

/-- The footprint of an applicator at a point: its centre and the cosine and sine of its heading. -/
structure Foot where
  x : DWord
  y : DWord
  c : DWord
  n : DWord

/-- The ground axis position followed beyond the 48-bit range, on which the grid points `g·S` lie: it moves by the
signed 48-bit difference (R17, R153). -/
def gmX (s : State) : Int := s.geo.gx + diff48 (s.axPos s.gmAx) (wrap48 s.geo.gx)

/-- The point `d` AU ahead, `l` AU to the left of a footprint's centre. -/
def footAt (f : Foot) (d l : DWord) : Int × Int :=
  (f64.floor (f64.sub (f64.add f.x (f64.mul d f.c)) (f64.mul l f.n)) 0,
   f64.floor (f64.add (f64.add f.y (f64.mul d f.n)) (f64.mul l f.c)) 0)

/-- SQ15.16 mm in AU. -/
def armAu (w : Word) : DWord := f64.ofRat (wint w) 64

/-- The footprint of applicator `i` at the point `g`, from the pose (R154). DESIGN CHOICE (log 57): each formula in
binary64 from left to right as it is written, `(ω·d)/v` for the predicted heading. -/
def footprint (s : State) (i : Nat) (g : Int) : Foot :=
  let p := s.geo
  let a := s.gmAx
  let d := f64.ofInt (g * s.gmStep - s.gmX)
  let v := f64.ofSingle (s.axVel a)
  let thF := if f64.lt (f64.abs v) (f64.ofInt 10240) then p.th
    else f64.add p.th (f64.div (f64.mul (f64.ofSingle (s.get .AX_YAW 0)) d) v)
  let thm := f64.div (f64.add p.th thF) (f64.ofInt 2)
  let c := f64.cos thF
  let n := f64.sin thF
  let bx := armAu (s.get .GM_APP_ARMX i)
  let by' := armAu (s.get .GM_APP_ARMY i)
  { x := f64.sub (f64.add (f64.add p.x (f64.mul d (f64.cos thm))) (f64.mul bx c)) (f64.mul by' n)
    y := f64.add (f64.add (f64.add p.y (f64.mul d (f64.sin thm))) (f64.mul bx n)) (f64.mul by' c)
    c := c, n := n }

/-- Lateral samples: offsets to the left in AU (R154). -/
def laterals (s : State) (i : Nat) : List DWord :=
  let w := s.fld GM_APP_W_W i
  let cmm := s.gmCell / 1024
  let n := (clampI 1 16 (divRNE w cmm)).toNat
  (List.range n).map fun j => f64.ofRat (((2 * j + 1) * w * 1024 : Nat) - (n * w * 1024 : Nat)) (2 * n)

/-- A missed stencil tile: E068, its record and count, and a departure (R165). -/
def stencilMiss (i key : Nat) (s : State) : State :=
  let s := (s.put .GM_MISS_TILE 0 (BitVec.ofNat 32 key)).incSat GM_CNT_ERR_MISS 0
  depart (raiseLog 68 i noCause s.T [] s)

/-- The zone at a point as an applicator uses it, and the key of a tile that was missed (R165). -/
def appZone (i : Nat) (x y : Int) (s : State) : State × Nat × Option Nat :=
  let r := zoneRead x y s
  match r.2 with
  | some z => (r.1, z, none)
  | none => (r.1, if s.flag GM_CFG_MISS 0 then (s.app i).zone.getD 0 else 0, some (s.stencilKey x y))

/-- Uncovered lateral samples (R155). -/
def uncovered (s : State) (f : Foot) (l : List DWord) : Nat :=
  let e := f64.ofInt (1024 * s.fld GM_WET_WET 0)
  let covered (d o : DWord) : Bool := let p := footAt f d o; s.maskAt p.1 p.2
  (l.filter fun o => !(covered f64.zero o && covered e o && covered (f64.neg e) o)).length

/-- The decision at a point with its zone (R155). -/
def decide' (i : Nat) (vi : Word) (g : Int) (s : State) : State × Bool × Nat :=
  let f := s.footprint i g
  let c := footAt f f64.zero f64.zero
  let r := appZone i c.1 c.2 s
  let s := r.1
  let z := r.2.1
  let s := if r.2.2.isNone then s.modApp i fun a => { a with zone := some z } else s
  let lat := s.laterals i
  let off := s.rbit .GM_INHIB (i / 32) (i % 32) || s.flag GM_APP_STAT_LOWV i || !f32.pos vi ||
    !(s.geo.fix1 && s.geo.head1) || (s.flag GM_STAT_DR_ONLY 0 && s.flag GM_CFG_LOSTOFF 0)
  let dead := off || z == 0 || s.fld GM_ZONE_RATE z == 0
  let b : State × Bool × Option Nat :=
    if !dead && s.flag GM_CFG_BND 0 then
      lat.foldl (fun acc o =>
        let p := footAt f f64.zero o
        let q := appZone i p.1 p.2 acc.1
        (q.1, acc.2.1 || q.2.1 == 0, if acc.2.2.isSome then acc.2.2 else q.2.2)) (s, false, none)
    else (s, false, none)
  let s := b.1
  let miss := if r.2.2.isSome then r.2.2 else b.2.2
  let s := match miss with | some k => stencilMiss i k s | none => s
  let on := !dead && !b.2.1 && (s.flag GM_ZONE_IGN_MASK z ||
    (let u := s.uncovered f lat
     match s.fld GM_CFG_COV_RULE 0 with
     | 0 => decide (1 ≤ u)
     | 1 => decide (lat.length ≤ 2 * u)
     | _ => u == lat.length))
  (s, on, z)

/-! ### Duty (R159) -/

/-- A single converted to UQ1.15: rounded, and held between 0 and 0xFFFF (R21). -/
def uq15 (w : Word) : Nat := (clampI 0 0xFFFF (f32.toInt w 15)).toNat

/-- The duty at a point decided on, and whether it was clipped. -/
def dutyOf (s : State) (i z : Nat) : Nat × Bool :=
  let a := s.gmAx
  let lon := f32.ofRat (s.lnLead (appLane i) true) 1000000
  let v := s.axVel a
  let vp := f32.add v (f32.mul (s.axAcc a) lon)
  let vp := if f32.isNeg vp != f32.isNeg v && !f32.isZero v then 0#32 else vp
  let d := f32.div (f32.mul (f32.ofScaled (s.fld GM_ZONE_RATE z) 15) (s.appSpeed i vp)) (s.get .GM_VREF 0)
  let n := uq15 d
  let hi := s.fld GM_DUTY_LIM_DUTY_MAX 0
  let lo := min (s.fld GM_DUTY_LIM_DUTY_MIN 0) hi
  if hi < n then (hi, true) else if n < lo then (lo, true) else (n, false)

/-- A duty entry joins the pipeline; a full one has its newest entry overwritten (R159). -/
def dutyPut (e : Int × Nat) (l : List (Int × Nat)) : List (Int × Nat) :=
  if l.length < 16 then l ++ [e] else l.take 15 ++ [e]

/-! ### Steps (R153, R156) -/

/-- One evaluation point of an applicator: the decision with its minimum run, the mark and the duty go into the step's
results (R155, R156, R159). -/
def evalPoint (i : Nat) (g : Int) (r : State × GeoStep) : State × GeoStep :=
  let vi := r.1.appSpeed i (r.1.axVel r.1.gmAx)
  let d := decide' i vi g r.1
  let s := d.1
  let z := d.2.2
  let a := s.app i
  let n := appLane i
  let free := match a.lastMark with
    | some m => decide ((s.fld GM_WET_MIN_RUN 0 : Int) ≤ g - m)
    | none => true
  let change := d.2.1 != a.dec && free
  let fed := s.gmFed n
  let dec := if change then d.2.1 else a.dec
  let st := r.2
  let st := if change && fed then { st with marks := st.marks ++ [(n, g, dec)] } else st
  let s := s.modApp i fun a => { a with dec := dec, lastMark := if change && fed then some g else a.lastMark }
  let st := { st with pubs := st.pubs.filter (fun p => p.1 != i) ++ [(i, dec, z)] }
  if dec && decide (i < 128) then
    let q := s.dutyOf i z
    let st := if q.2 then { st with clips := st.clips + 1 } else st
    if a.lastQ = some q.1 then (s, st)
    else (s.modApp i fun a => { a with lastQ := some q.1 }, { st with duties := st.duties ++ [(i, g, q.1)] })
  else (s, st)

/-- The last grid point within an applicator's horizon (R153). -/
def horizon (s : State) (i : Nat) : Int :=
  let a := s.gmAx
  let n := appLane i
  let L := max (s.lnLead n true) (s.lnLead n false)
  let h := predictSpan (s.axVel a) (s.axAcc a) L + f32.floor (s.axVel a) 0 / 1000 + 2 * s.gmStep
  (s.gmX + h) / (s.gmStep : Int)

/-- The evaluation points of one applicator, as far as the unit's capacity reaches (R153, R179). -/
def evalApp (i : Nat) (r : State × GeoStep) : State × GeoStep :=
  let s := r.1
  let s := appLowv i (s.appSpeed i (s.axVel s.gmAx)) s
  let lim := s.horizon i
  match (s.app i).lastG with
  | none => (s.modApp i fun a => { a with lastG := some lim }, r.2)
  | some g0 =>
    let k := (lim - g0).toNat
    let room := 20 * (r.2.d + 64) - s.geo.work
    let m := min k room
    let s := (s.modApp i fun a => { a with lastG := some (max g0 lim) }).modGeo fun q => { q with work := q.work + m }
    let st := if m < k then { r.2 with outrun := true } else r.2
    (List.range m).foldl (fun r (j : Nat) => evalPoint i (g0 + 1 + (j : Int)) r) (s, st)

/-- The ends of an applicator's segment at the present pose, left and right (R154, R175). -/
def segment (s : State) (i : Nat) : (Int × Int) × (Int × Int) :=
  let p := s.geo
  let c := f64.cos p.th
  let n := f64.sin p.th
  let bx := armAu (s.get .GM_APP_ARMX i)
  let by' := armAu (s.get .GM_APP_ARMY i)
  let f : Foot := { x := f64.sub (f64.add p.x (f64.mul bx c)) (f64.mul by' n)
                    y := f64.add (f64.add p.y (f64.mul bx n)) (f64.mul by' c), c := c, n := n }
  let h := f64.ofInt (512 * s.fld GM_APP_W_W i)
  let rnd (l : DWord) : Int × Int :=
    (f64.toInt (f64.sub f.x (f64.mul l f.n)) 0, f64.toInt (f64.add f.y (f64.mul l f.c)) 0)
  (rnd h, rnd (f64.neg h))

/-- The sweep of an applicator since the step before (R175, R176). -/
def sweepOf (i : Nat) (r : State × List Sweep) : State × List Sweep :=
  let s := r.1
  if s.gmFed (appLane i) then
    let a := s.gmAx
    let x := s.axPos a
    let g := s.segment i
    let st := s.axState a
    let pose := s.geo.fix1 && s.geo.head1
    let cov := s.flag GM_APP_CFG_COV i
    let held := s.flag AX_STAT_REVERSE a || st == 2 || st == 3 || !pose || !cov
    let cut := if st == 2 && pose && cov && !s.flag AX_STAT_REVERSE a then some (s.gmPosAt (s.ax a).coastT) else none
    let s' := s.modApp i fun q => { q with seg := some (g.1, g.2, x) }
    match (s.app i).seg with
    | some (l0, r0, x0) => (s', r.2 ++ [⟨i, appLane i, x0, x, l0, r0, g.1, g.2, s.geo.th, held, cut⟩])
    | none => (s', r.2)
  else (s.modApp i fun q => { q with seg := none }, r.2)

def gmApps (s : State) : List Nat := pick 640 fun i => s.flag GM_APP_CFG_EN i

/-- LOWV of every applicator follows its speed from tick to tick while the unit runs (R152). -/
def lowvAll (s : State) : State :=
  if s.gmRun then each (List.range 640) (fun i s => appLowv i (s.appSpeed i (s.axVel s.gmAx)) s) s else s

/-- Steps whose interval ends have all been reported, or that are 2.0 s old, are written with this step's results, in
step order (R175). -/
def covReady (n : Nat) : List CovStep → State → State × List CovStep
  | [], s => (s, [])
  | c :: r, s =>
    if c.withN.isSome then let q := covReady n r s; (q.1, c :: q.2)
    else if !(c.sweeps.any fun w => s.opnWaits w.lane c.d) then
      let q := covReady n r s; (q.1, { c with withN := some n } :: q.2)
    else if 400000000 ≤ s.T - 2000 * c.d then
      let q := covReady n r (each c.sweeps (fun w s => opnForce w.lane c.d s) s)
      (q.1, { c with withN := some n } :: q.2)
    else (s, c :: r)

/-- SPATIAL_STEP_DISPATCH: the ground axis first reaches n·S, counted from RUN (R153). -/
def stepDispatch (s : State) : State :=
  let g := s.geo
  if s.gmRun && decide (0 ≤ diff48 (s.axPos s.gmAx) (wrap48 (g.x0 + (g.next * s.gmStep : Nat)))) then
    let n := g.next
    let s := s.modGeo fun g => { g with next := n + 1, disp := g.disp + 1, work := max g.work (20 * s.tick) }
    let l := s.gmApps
    let e := l.foldl (fun r i => evalApp i r) (s, ({ n := n, d := s.tick } : GeoStep))
    let w := l.foldl (fun r i => sweepOf i r) (e.1, ([] : List Sweep))
    let s := w.1
    let nm := (pick 16 fun z => s.flag GM_ZONE_NO_MARK z).foldl (fun b z => b + 2 ^ z) 0
    let c : CovStep := ⟨n, s.tick, s.axPos s.gmAx, w.2, 1024 * s.fld GM_WET_WET 0, nm, none, false⟩
    let r := covReady n (s.geo.covs ++ [c]) s
    r.1.modGeo fun g => { g with steps := g.steps ++ [e.2], covs := r.2 }
  else s

/-- GM_FLOW_SUM: the applied duty times FLOW over a group's applicators that are on (R160). DESIGN CHOICE (log 36): a
remote applicator, which has no duty, counts at full duty. -/
def flowSums (s : State) : State :=
  each (List.range 4) (fun g s =>
    let l := pick 640 fun i => s.flag GM_APP_CFG_FEN i && s.fld GM_APP_CFG_FGRP i == g && s.lnEff (appLane i)
    s.put4 .GM_FLOW_SUM g (f32.sum (l.map fun i =>
      f32.mul (if i < 128 then f32.ofScaled (s.fld GM_APP_STAT_DUTY i) 15 else f32.one) (s.get .GM_APP_FLOW i)))) s

/-- Duty entries of applicators whose lanes are enabled fire in phase 3 with the on-lead (R115); `put` hands a duty to
the valve slice (R159). -/
def dutyFire (put : Nat → Nat → State → State) (s : State) : State :=
  let a := s.gmAx
  if s.axEn a then
    each (pick 128 fun i => s.lnEn i && !(s.app i).duties.isEmpty) (fun i s =>
      match (s.app i).duties with
      | (m, d) :: r =>
        let L := s.lnLead i true
        if 0 ≤ diff48 (wrap48 (s.axPos a + predictSpan (s.axVel a) (s.axAcc a) L)) m then
          put i d ((s.modApp i fun q => { q with duties := r }).setFld GM_APP_STAT_DUTY i d)
        else s
      | [] => s) s
  else s

/-! ### The want list (R166) -/

/-- Twice the area of the triangle a, b, p: not negative where `p` lies left of the line from `a` to `b`. -/
def leftOf (a b p : Int × Int) : Int := (b.1 - a.1) * (p.2 - a.2) - (b.2 - a.2) * (p.1 - a.1)

/-- The stencil tiles of side `t` AU that a convex area with its corners in turn to the left meets: those of its
bounding box that no edge of the area parts from it. -/
def areaTiles (t : Int) (q : List (Int × Int)) : List Nat :=
  let span (f : Int × Int → Int) : List Int :=
    let l := q.map fun p => f p / t
    let lo := l.foldl min (l.headD 0)
    (List.range ((l.foldl max (l.headD 0)) - lo + 1).toNat).map fun (k : Nat) => lo + (k : Int)
  let edges := q.zip (q.drop 1 ++ q.take 1)
  let met (i j : Int) : Bool :=
    let cs := [(i * t, j * t), ((i + 1) * t, j * t), ((i + 1) * t, (j + 1) * t), (i * t, (j + 1) * t)]
    edges.all fun e => cs.any fun c => decide (0 ≤ leftOf e.1 e.2 c)
  (span (·.1)).flatMap fun i => ((span (·.2)).filter (met i)).map fun j => tileKey (32768 + i) (32768 + j)

/-- The area that an applicator's footprint sweeps straight ahead from `a` to `b` AU: its corners in turn to the left. -/
def aheadArea (s : State) (i a b : Nat) : List (Int × Int) :=
  let p := s.geo
  let c := f64.cos p.th
  let n := f64.sin p.th
  let bx := armAu (s.get .GM_APP_ARMX i)
  let by' := armAu (s.get .GM_APP_ARMY i)
  let f : Foot := { x := f64.sub (f64.add p.x (f64.mul bx c)) (f64.mul by' n)
                    y := f64.add (f64.add p.y (f64.mul bx n)) (f64.mul by' c), c := c, n := n }
  let h := f64.ofInt (512 * s.fld GM_APP_W_W i)
  let at' (d : Nat) (l : DWord) : Int × Int := footAt f (f64.ofInt (d : Nat)) l
  [at' a (f64.neg h), at' b (f64.neg h), at' b h, at' a h]

/-- The first eight uncached stencil tiles that the footprints of enabled applicators cross straight ahead, their ends
and corners included. The way is followed in half stencil cells; DESIGN CHOICE (log 34): in the order the footprints
reach them, then by applicator, tile column and tile row. -/
def wantTiles (s : State) : List Nat :=
  let len := 1024000 * s.fld GM_WANT_DIST_DIST 0
  let d := s.gmStencil / 2
  let l := (List.range (len / d + 1)).flatMap fun (k : Nat) => s.gmApps.flatMap fun i =>
    areaTiles (64 * s.gmStencil) (s.aheadArea i (k * d) (min len ((k + 1) * d)))
  l.foldl (fun acc k => if acc.length < 8 && !acc.contains k && (s.stile k).isNone then acc ++ [k] else acc) []

/-- TILE_WANT: every 100 ms of module time (R166). -/
def tileWant (s : State) : State :=
  if s.gmRun && s.tick % 10000 == 0 then
    let l := if s.fld GM_WANT_DIST_DIST 0 = 0 then [] else s.wantTiles
    let w (k : Nat) : Word := match l[k]? with | some v => BitVec.ofNat 32 v | none => 0xFFFFFFFF#32
    let ch := (List.range 8).any fun k => s.get .GM_WANT k != w k
    when ch (raise 76) (each (List.range 8) (fun k s => s.put .GM_WANT k (w k)) s)
  else s

/-! ### RUN (R172) -/

/-- The refusal code of a RUN request, 0 when it is accepted. -/
def runCode (s : State) : Nat :=
  let i := s.gmAx
  let la := wint (s.get .GM_ORG_LAT 0)
  let lo := wint (s.get .GM_ORG_LON 0)
  if !(s.axEn i && s.axType i == tGround) then 1
  else if 800000000 < la.natAbs ∨ 1800000000 < lo.natAbs then 2
  else if !s.headerOk then 3
  else if s.flag GM_STAT_MAP_BUSY 0 then 4 else 0

/-- GM_CTRL.RUN set: the unit starts, or is refused (R172, R149, R152, R153). An interval already open goes on (R174). -/
def runStart (s : State) : State :=
  let c := s.runCode
  if c = 0 then
    let r := s.planeRadii
    let s : State := { s with geo := { n0 := r.1, m0 := r.2, x0 := s.axPos s.gmAx, gx := s.axPos s.gmAx, disp := s.geo.disp,
                                       intake := s.geo.intake, work := 0, lastFix := s.Tn }
                              apps := [] }
    let s := each (List.range 640) (fun i s =>
      ((s.setFlag GM_APP_STAT_LOWV i true).setFlag GM_APP_STAT_DEC i false)) s
    let s := each [Reg.GM_CNT_COV, .GM_CNT_LAP, .GM_CNT_WET, .GM_CNT_LOST] (fun r s => s.put r 0 0#32) s
    let s := (s.setFlag GM_STAT_POSE_OK 0 false).setFlag GM_STAT_DR_ONLY 0 false
    s.setFlag GM_CTRL_RUN 0 true
  else raiseLog 72 0 noCause s.Tn [] ((s.setFlag GM_CTRL_RUN 0 false).setFld GM_STAT_REJ 0 c)

end State
end Sys2Proof.Machine
end

