-- ==== Sys2Proof/Machine/Coverage.lean ====
section
/-!
DEFINITION. Sys2Proof/Machine/Coverage.lean: coverage write-back (R174 to R178), the results of a step, and what the end
of RUN does (R157, R169, R173, R181).
-/

namespace Sys2Proof.Machine
namespace State

/-! ### Cells swept (R175) -/

/-- z of the cross product of two plane vectors. -/
def cross (a b : Int × Int) : Int := a.1 * b.2 - a.2 * b.1

/-- The segment's end `p` at axis position `x` of a sweep, scaled by the sweep's travel. -/
def sweepEnd (p q : Int × Int) (w : Sweep) (x : Int) : Int × Int :=
  let D := diff48 w.xb w.xa
  let k := diff48 x w.xa
  (p.1 * D + (q.1 - p.1) * k, p.2 * D + (q.2 - p.2) * k)

def minL (a : Int) (l : List Int) : Int := l.foldl min a
def maxL (a : Int) (l : List Int) : Int := l.foldl max a

/-- Whether a point lies in the quadrilateral that a segment sweeps from its ends `la`, `ra` to `lb`, `rb`: the back
boundary and the right end are inside, the front boundary and the left end outside (R175). DEDUCED (log 149): in a turn
an end may stand still or go backward; then the quadrilateral is a triangle, or the two triangles that the crossing back
and front boundaries make, in one of which the segment goes backward. -/
def inSweep (la ra lb rb p : Int × Int) : Bool :=
  let v (o q : Int × Int) : Int × Int := (q.1 - o.1, q.2 - o.2)
  let back := cross (v ra la) (v ra p)
  let front := cross (v rb lb) (v rb p)
  let mL := -cross (v ra la) (v la lb)
  let mR := -cross (v ra la) (v ra rb)
  let left := cross (v la lb) (v la p)
  let right := cross (v ra rb) (v ra p)
  (decide (back ≤ 0) && decide (0 < front) && (decide (0 < mL) || decide (0 < mR)) &&
    (decide (mR ≤ 0) || decide (0 ≤ right)) && (decide (mL ≤ 0) || decide (left < 0))) ||
  (decide (0 ≤ back) && decide (front < 0) && (decide (mL < 0) || decide (mR < 0)) &&
    (decide (0 ≤ mR) || decide (right ≤ 0)) && (decide (0 ≤ mL) || decide (0 < left)))

/-- Cells whose centre lies in the part of a sweep over the axis positions [a, b) (R175). -/
def sweptCells (cell : Nat) (w : Sweep) (a b : Int) : List (Int × Int) :=
  let D := diff48 w.xb w.xa
  if D ≤ 0 ∨ diff48 b a ≤ 0 then [] else
  let la := sweepEnd w.l0 w.l1 w a
  let ra := sweepEnd w.r0 w.r1 w a
  let lb := sweepEnd w.l0 w.l1 w b
  let rb := sweepEnd w.r0 w.r1 w b
  let c : Int := cell
  let lo (f : Int × Int → Int) := minL (f la) [f ra, f lb, f rb] / (c * D)
  let hi (f : Int × Int → Int) := maxL (f la) [f ra, f lb, f rb] / (c * D)
  let xs := (List.range (hi (·.1) - lo (·.1) + 1).toNat).map fun (k : Nat) => lo (·.1) + (k : Int)
  let ys := (List.range (hi (·.2) - lo (·.2) + 1).toNat).map fun (k : Nat) => lo (·.2) + (k : Int)
  (xs.flatMap fun x => ys.map fun y => (x, y)).filter fun g =>
    inSweep la ra lb rb ((2 * g.1 + 1) * c * D / 2, (2 * g.2 + 1) * c * D / 2)

/-- The parts of a sweep during which its lane stood in a confirmed open interval, as axis positions (R174, R175). -/
def openParts (s : State) (w : Sweep) : List (Int × Int) :=
  (s.opn w.lane).ivls.filterMap fun i =>
    let p := s.gmPosAt i.t0
    let a := if 0 ≤ diff48 p w.xa then p else w.xa
    let b := match i.t1 with
      | some t => let q := s.gmPosAt t; if 0 ≤ diff48 w.xb q then q else w.xb
      | none => w.xb
    if 0 < diff48 b a then some (a, b) else none

def addNew (l : List (Int × Int)) (g : Int × Int) : List (Int × Int) := if l.contains g then l else l ++ [g]

/-- NO_MARK at a cell's centre, by the zones of the step's dispatch (R176). -/
def cellNoMark (s : State) (c : CovStep) (g : Int × Int) : Bool :=
  let cs : Int := s.gmCell
  match s.zoneAt (g.1 * cs + cs / 2) (g.2 * cs + cs / 2) with
  | some z => c.noMark / 2 ^ z % 2 == 1
  | none => false

/-- The cells of one sweep: those kept, and how many are lost (R176). -/
def sweepCells (s : State) (c : CovStep) (all : Bool) (w : Sweep) : List (Int × Int) × Nat :=
  let parts := s.openParts w
  let cells := parts.foldl (fun l (p : Int × Int) => (sweptCells s.gmCell w p.1 p.2).foldl addNew l) []
  let free := match w.cut with
    | some x => parts.foldl (fun l (p : Int × Int) =>
        (sweptCells s.gmCell w p.1 (if 0 ≤ diff48 p.2 x then x else p.2)).foldl addNew l) []
    | none => []
  let keep := cells.filter fun g => !(all || (w.held && !free.contains g) || s.cellNoMark c g)
  (keep, cells.length - keep.length)

/-! ### Q39 (R178) -/

def q39Record (typ app : Nat) (r : GeoRun) : List Word :=
  let w (x : Int) : List Word := [loW (unsig 48 x), BitVec.ofNat 32 (unsig 48 x / 2 ^ 32)]
  [BitVec.ofNat 32 (typ * 2 ^ 28 + app)] ++ w r.a ++ w r.b ++
    [BitVec.ofNat 32 r.cells, BitVec.ofNat 32 r.wet, BitVec.ofNat 32 r.n]

def q39 (typ app : Nat) (r : GeoRun) (s : State) : State := qOffer 39 s.T (fun _ => q39Record typ app r) s

/-- Extends a run of lap or lost cells, or ends it with its record (R178). -/
def runStep (old : Option GeoRun) (go : Bool) (w : Sweep) (cells wet n : Nat) : Option GeoRun × Option GeoRun :=
  match old, go with
  | none, true => if cells = 0 then (none, none) else (some ⟨w.xa, w.xb, cells, wet, n⟩, none)
  | some r, true => (some ⟨r.a, w.xb, r.cells + cells, r.wet + wet, n⟩, none)
  | o, false => (none, o)

def lapStep (w : Sweep) (lap wet n : Nat) (s : State) : State :=
  let r := runStep (SMap.get none s.geo.lapRuns w.app) (lap != 0) w lap wet n
  let s := s.modGeo fun g => { g with lapRuns := SMap.set none g.lapRuns w.app r.1 }
  match r.2 with | some q => q39 1 w.app q s | none => s

def lostStep (w : Sweep) (lost n : Nat) (held : Bool) (s : State) : State :=
  let r := runStep (SMap.get none s.geo.lostRuns w.app) (lost != 0 || held) w lost 0 n
  let s := s.modGeo fun g => { g with lostRuns := SMap.set none g.lostRuns w.app r.1 }
  match r.2 with | some q => q39 3 w.app q s | none => s

/-- The runs of applicators that this step has no sweep of end with it (R178). -/
def runsEnd (c : CovStep) (s : State) : State :=
  let gone (rs : SMap (Option GeoRun)) : SMap (Option GeoRun) := rs.filter fun e => !(c.sweeps.any fun w => w.app == e.1)
  let fin (typ : Nat) (rs : SMap (Option GeoRun)) (s : State) : State :=
    each rs (fun e s => match e.2 with | some q => q39 typ e.1 q s | none => s) s
  let a := gone s.geo.lapRuns
  let b := gone s.geo.lostRuns
  let s := fin 3 b (fin 1 a s)
  s.modGeo fun g => { g with
    lapRuns := g.lapRuns.filter fun e => !(a.any fun x => x.1 == e.1)
    lostRuns := g.lostRuns.filter fun e => !(b.any fun x => x.1 == e.1) }

/-- SUMMARY every SUM_DIST of axis travel since RUN (R178). -/
def sumStep (c : CovStep) (cov wet : Nat) (s : State) : State :=
  let (a, k, m) := s.geo.sum.getD (s.geo.x0, 0, 0)
  let k := k + cov
  let m := m + wet
  let dst := 102400 * s.fld GM_LOG_SUM_DIST 0
  if dst != 0 && decide ((dst : Int) ≤ diff48 c.x a) then
    q39 2 0x3FF ⟨a, c.x, k, m, c.n⟩ (s.modGeo fun g => { g with sum := some (c.x, 0, 0) })
  else s.modGeo fun g => { g with sum := some (a, k, m) }

/-! ### Writing a step's coverage (R175 to R177) -/

/-- Adds to a counter register, saturating. -/
def addCnt (r : Reg) (n : Nat) (s : State) : State :=
  s.put r 0 (BitVec.ofNat 32 (min ((s.get r 0).toNat + n) (2 ^ 32 - 1)))

/-- The counts since CLEAR in the directory header (R167); nothing there changes in replay (R448). -/
def addTotal (off n : Nat) (s : State) : State :=
  if s.inReplay || n = 0 then s
  else s.wrWord (dirBase + off) (s.rdWord (dirBase + off) + BitVec.ofNat 32 n)

/-- Writes newly covered cells of a step: how many were written, and those that wait for a cache place. -/
def writeCells : List (Int × Int) → State → State × Nat × List (Int × Int)
  | [], s => (s, 0, [])
  | g :: r, s =>
    let q := maskSet (tileOfCell g.1 g.2) (BitVec.ofNat 4096 (2 ^ cellInTile g.1 g.2)) s
    let t := writeCells r q.1
    (t.1, if q.2 = 0 then t.2.1 + 1 else t.2.1, if q.2 = 1 then g :: t.2.2 else t.2.2)

/-- Writes the coverage of one step; `wait` are writes left over from the step before, and `all` holds back everything.
The answer names the writes that still wait for a place in the working cache (R169). -/
def covWrite (all : Bool) (c : CovStep) (wait : List (Int × Int)) (s : State) : State × List (Int × Int) :=
  let w0 := writeCells wait (s.modGeo fun g => { g with covN := some c.n })
  let s := w0.1
  let per := c.sweeps.map fun w => (w, s.sweepCells c all w)
  let e := f64.ofInt c.wet
  let cell : Int := s.gmCell
  let edge (w : Sweep) (g : Int × Int) : Bool :=
    let dx := f64.toInt (f64.mul e (f64.cos w.th)) 0
    let dy := f64.toInt (f64.mul e (f64.sin w.th)) 0
    let x := g.1 * cell + cell / 2
    let y := g.2 * cell + cell / 2
    !(s.maskAt (x + dx) (y + dy) && s.maskAt (x - dx) (y - dy))
  let stat := per.map fun p =>
    let old := p.2.1.filter fun g => s.maskCell g.1 g.2
    let wet := (old.filter (edge p.1)).length
    (p.1, old.length - wet, wet, p.2.2)
  let new := (per.flatMap fun p => p.2.1.filter fun g => !s.maskCell g.1 g.2).foldl addNew []
  let w1 := writeCells new s
  let cov := w0.2.1 + w1.2.1
  let tot (f : Sweep × Nat × Nat × Nat → Nat) := stat.foldl (fun n q => n + f q) 0
  let s := addCnt .GM_CNT_LAP (tot (·.2.1)) (addCnt .GM_CNT_WET (tot (·.2.2.1))
    (addCnt .GM_CNT_LOST (tot (·.2.2.2)) (addCnt .GM_CNT_COV cov w1.1)))
  let s := addTotal 0x20 (tot (·.2.1)) (addTotal 0x1C cov s)
  let s := runsEnd c s
  let s := each stat (fun q s => lostStep q.1 q.2.2.2 c.n (all || q.1.held) (lapStep q.1 q.2.1 q.2.2.1 c.n s)) s
  (sumStep c cov (tot (·.2.2.1)) s, w0.2.2 ++ w1.2.2)

/-- GEOM_OVER (R179). -/
def geomOver (n : Nat) (s : State) : State := depart (raiseLog 74 0 noCause s.T [BitVec.ofNat 32 n] s)

/-- The coverage written with the results of step `n`; writes still without a cache place at the end are not made, and
their cells are lost (R169, R175). -/
def covResults (n : Nat) (s : State) : State :=
  let due := s.geo.covs.takeWhile fun c => match c.withN with | some m => decide (m ≤ n) | none => false
  let s := s.modGeo fun g => { g with covs := g.covs.drop due.length }
  let r := due.foldl (fun (r : State × List (Int × Int)) c => covWrite false c r.2 r.1) (s, [])
  if r.2.isEmpty then r.1 else geomOver n (addCnt .GM_CNT_LOST r.2.length r.1)

/-- STEP_RESULTS: what step n left is applied in phase 4 of tick d_n + 64 (R153, R156, R159, R160, R175, R179). -/
def stepResults (s : State) : State :=
  match s.geo.steps with
  | [] => s
  | st :: r =>
    if s.tick < st.d + 64 then s else
    let s := s.modGeo fun g => { g with steps := r }
    let s := when st.outrun (geomOver st.n) s
    let S : Int := s.gmStep
    let s := each st.pubs (fun p s => (s.setFlag GM_APP_STAT_DEC p.1 p.2.1).setFld GM_APP_STAT_ZONE p.1 p.2.2) s
    let s := each st.marks (fun m s =>
      lnHwPlace m.1 (markOf (wrap48 (m.2.1 * S)) (if m.2.2 then 1 else 2) false true 0 (m.2.1 % 256).toNat 0#32 0#32) s) s
    let s := each st.duties (fun d s => s.modApp d.1 fun a =>
      { a with duties := dutyPut (wrap48 (d.2.1 * S), d.2.2) a.duties }) s
    let s := if st.clips = 0 then s else (s.addSat GM_CNT_ERR_CLIP 0 st.clips).raise 73
    covResults st.n (flowSums s)

/-! ### The end of RUN (R157, R169, R173) -/

/-- Steps in hand are discarded: the cells they would have covered are lost (R157). -/
def covDiscard (s : State) : State :=
  let l := s.geo.covs
  let s := s.modGeo fun g => { g with covs := [], steps := [] }
  let s := each l (fun c s => (covWrite true c [] s).1) s
  let fin (typ : Nat) (rs : SMap (Option GeoRun)) (s : State) : State :=
    each rs (fun e s => match e.2 with | some q => q39 typ e.1 q s | none => s) s
  let s := fin 3 s.geo.lostRuns (fin 1 s.geo.lapRuns s)
  s.modGeo fun g => { g with lapRuns := [], lostRuns := [], sum := none, covN := none }

/-- The clearing of RUN: lanes flushed and off, steps discarded, the masking written back, the pipelines emptied and the
pose lost (R157). -/
def runEnd (s : State) : State :=
  let s := each (pick 768 s.gmFed) (fun n s => setDemand n false (lnFlush n s)) s
  let s := writeBackAll (covDiscard s)
  let s := each (s.apps.map (·.1)) (fun i s => s.modApp i fun a => { a with duties := [] }) s
  let s : State := { s with geo := { s.geo with x := 0, y := 0, th := 0, ox := 0, oy := 0, hist := [], fix1 := false,
                                                head1 := false, refused := 0, hdtT := none, hostT := none, fixes := [] } }
  (s.setFlag GM_CTRL_RUN 0 false).setFlag GM_STAT_POSE_OK 0 false

/-- GM_CTRL store (R157, R172). -/
def gmCtrlStore (v : Word) (s : State) : State :=
  if bitAt v 0 then (if s.gmRun then s else runStart s) else if s.gmRun then runEnd s else s

/-- The ground axis is disabled while RUN is 1 (R173). -/
def gmAxisStop (i : Nat) (s : State) : State :=
  if s.gmRun && i == s.gmAx then
    raiseLog 72 0 noCause s.Tn [] ((runEnd s).setFld GM_STAT_REJ 0 1)
  else s

/-- A reset of pages 0x10 to 0x13, beside their registers (R181). -/
def geoReset (s : State) : State :=
  let s := if s.gmRun then runEnd s else writeBackAll s
  { s with geo := {}, apps := [], opens := [], stiles := [], mtiles := [], imu := {}, gnss := [] }

end State
end Sys2Proof.Machine
end

