-- ==== Sys2Proof/Machine/Pulse.lean ====
section
/-!
DEFINITION. Sys2Proof/Machine/Pulse.lean: the pulse generator (R243 to R257): valve slices with their time-paced and
axis-paced trains and single pulses, shadows and reloads, bridge pairs with dead times, fault inputs, and the dust sheet
of slices and pairs.
-/

namespace Sys2Proof.Machine

/-! ### Shadows (R245, R248) -/

namespace Shadow

/-- A change reaches the stage. `ref` is what a duty of 1.0 stands for: the shadow period, or ONREF in AXIS mode. -/
def take (paired : Bool) (ref : Option Nat) (s : Shadow) : Upd → Shadow
  | .period v => { s with per := v, pendP := true }
  | .duty v hw => { s with on := (divRNE ((v * ref.getD s.per : Nat) : Int) 32768).toNat, pendOn := true,
                           commit := s.commit || (hw && paired) }
  | .phase v => { s with phase := v }
  | .commit => { s with commit := true }

/-- The changes due at clocks that satisfy `p` reach the stage, in the order they were made. -/
def settle (paired : Bool) (ref : Option Nat) (p : Nat → Bool) (s : Shadow) : Shadow :=
  let t := (s.ups.filter fun u => p u.1).foldl (fun a u => take paired ref a u.2) { s with ups := [] }
  { t with ups := s.ups.filter fun u => !p u.1 }

/-- What a reload moves into effect: (period, on-time), from the ones in effect (R248). -/
def reload (paired : Bool) (s : Shadow) (per on : Nat) : Shadow × Nat × Nat :=
  if paired && !s.commit then (s, per, on)
  else ({ s with pendP := false, pendOn := false, commit := false },
        if s.pendP || s.commit then s.per else per, if s.pendOn || s.commit then s.on else on)

/-- A start takes the shadows as they stand, and a pending commit is complete (R248). -/
def clear (s : Shadow) : Shadow := { s with pendP := false, pendOn := false, commit := false }

end Shadow

namespace State

/-! ### Slices -/

def slice (s : State) (n : Nat) : Slice := SMap.get {} s.slices n
def modSlice (n : Nat) (f : Slice → Slice) (s : State) : State :=
  { s with slices := SMap.set {} s.slices n (f (s.slice n)) }
def pair (s : State) (n : Nat) : Pair := SMap.get {} s.pairs n
def modPair (n : Nat) (f : Pair → Pair) (s : State) : State := { s with pairs := SMap.set {} s.pairs n (f (s.pair n)) }

def vsEn (s : State) (n : Nat) : Bool := s.flag VS_CFG_EN n
/-- VS_CFG.MODE: 0 LEVEL, 1 TIME, 2 AXIS. -/
def vsMode (s : State) (n : Nat) : Nat := s.fld VS_CFG_MODE n
def vsPaired (s : State) (n : Nat) : Bool := s.flag VS_CFG_UPD n
def vsRef (s : State) (n : Nat) : Option Nat := if s.vsMode n = 2 then some (s.get .VS_ONREF n).toNat else none

/-- A change of a slice's shadow applied in the tick `k` takes effect at T_(k+2) (R248). -/
def sliceUpd (n k : Nat) (u : Upd) (s : State) : State :=
  s.modSlice n fun q => { q with sh := { q.sh with ups := q.sh.ups ++ [(2000 * (k + 2), u)] } }

/-- The changes due by clocks that satisfy `p` reach a slice; VS_STAT shows what is pending. -/
def sliceSettle (n : Nat) (p : Nat → Bool) (s : State) : State :=
  let pa := s.vsPaired n
  let r := s.vsRef n
  s.modSlice n fun q => { q with sh := q.sh.settle pa r p }

def slicePend (n : Nat) (s : State) : State :=
  let q := (s.slice n).sh
  ((s.setFlag VS_STAT_PEND_P n q.pendP).setFlag VS_STAT_PEND_ON n q.pendOn).setFlag VS_STAT_CPEND n q.commit

/-- DUTY_CLIP (R245, R246); E128 when enabled (R259). -/
def sliceClip (n : Nat) (s : State) : State :=
  cause .VS_CLIP .VS_CLIP_MASK (n / 16) (n % 16) 128 (s.incSat VS_CNT_CLIPS n)

/-- The output goes to a level at a clock; a rising edge is counted, and the valve channel will see the edge. -/
def sliceOut (n t : Nat) (v : Bool) (s : State) : State :=
  if (s.slice n).out = v then s else
  let s := s.modSlice n fun q => { q with out := v, edges := q.edges ++ [(t, v)] }
  when v (incMod · VS_CNT_PULSES n) (s.setFlag VS_STAT_OUT n v)

/-- Whether the train or a PULSE holds the output high at a clock. -/
def sliceHigh (s : State) (n t : Nat) : Bool :=
  let q := s.slice n
  decide (t < q.pulseEnd) || (q.cmd && (match q.trainEnd with
    | some e => decide (t < e)
    | none => s.vsMode n == 0))

/-- The first grid point `phase + j P` that is not before `2 G = x`. -/
def gridFrom (phase per x2 : Int) : Int :=
  -- the smallest G ≡ phase (mod per) with 2 G ≥ x2
  let d := x2 - 2 * phase
  phase + ((d + 2 * per - 1) / (2 * per)) * per

/-- A slice starts at the clock `t`, as at a rising command (R243, R244, R246, R248). -/
def sliceStart (n t : Nat) (s : State) : State :=
  let s := sliceSettle n (fun u => decide (u ≤ t)) s
  let sh := (s.slice n).sh
  let per := sh.per
  let on := sh.on
  let s := s.modSlice n fun q => { q with sh := q.sh.clear, cmd := true, nextP := none, trainEnd := none }
  let s := (s.put .VS_ON n (BitVec.ofNat 32 on)).put .VS_PER_ACT n (BitVec.ofNat 32 per)
  let s := s.setFlag VS_STAT_RUN n (s.vsMode n != 0)
  let s := match s.vsMode n with
    | 0 => s
    | 2 => s.modSlice n fun q => { q with trainEnd := some (t + on) }
    | _ =>
      let G := (gridFrom (sh.phase % per : Nat) per (2 * t + per : Nat)).toNat
      let len := (divRNE ((on * (G - t) : Nat) : Int) per).toNat
      let s := s.modSlice n fun q => { q with nextP := some G, trainEnd := some (t + len) }
      when (decide (per ≤ on)) (sliceClip n) s
  slicePend n (sliceOut n t (s.sliceHigh n t) s)

/-- The command falls at `t`: the output ends and the train stops, but for a PULSE that runs (R243, R247). Starts of a
train that has been ordered since then stand. -/
def sliceStop (n t : Nat) (s : State) : State :=
  let s := s.modSlice n fun q => { q with
    cmd := false, nextP := none, trainEnd := none, axDue := q.axDue.filter fun k => decide (t < 2000 * k) }
  sliceOut n t (s.sliceHigh n t) (s.setFlag VS_STAT_RUN n false)

/-- Stops a slice altogether: disable, dust sheet, debug halt. -/
def sliceKill (n t : Nat) (s : State) : State :=
  let s := s.modSlice n fun q => { q with pulseEnd := 0, ord := false, axDue := [] }
  sliceStop n t { s with pulses := s.pulses.filter fun p => p.2.1 != n }

/-- The clock of a slice's next reload within the present tick, if any. -/
def sliceNext (s : State) (n : Nat) : Option Nat :=
  let q := s.slice n
  if !q.cmd then none
  else if s.vsMode n = 2 then
    match q.axDue with
    | k :: _ => if k ≤ s.tick then some (2000 * k) else none
    | [] => none
  else match q.nextP with
    | some t => if t < s.Tn then some t else none
    | none => none

/-- SLICE_RELOAD: a period or an axis-paced pulse starts, and committed shadows take effect (R244 to R246, R248). -/
def sliceReload (n : Nat) (s : State) : State :=
  match s.sliceNext n with
  | none => s
  | some t =>
    let axis := s.vsMode n == 2
    let s := sliceSettle n (fun u => decide (u < t)) s
    let q := s.slice n
    let r := q.sh.reload (s.vsPaired n) (s.get .VS_PER_ACT n).toNat (s.get .VS_ON n).toNat
    let per := r.2.1
    let on := r.2.2
    let still := match q.trainEnd with | some e => decide (t < e) | none => false
    let s := (s.put .VS_ON n (BitVec.ofNat 32 on)).put .VS_PER_ACT n (BitVec.ofNat 32 per)
    let s := s.modSlice n fun q => { q with
      sh := r.1, trainEnd := some (t + on), nextP := if axis then none else some (t + per)
      axDue := if axis then q.axDue.drop 1 else [] }
    -- A write that takes effect in the clock of the reload stands in the stage behind it.
    let s := sliceSettle n (fun u => decide (u ≤ s.T)) s
    let s := when (if axis then still else decide (per ≤ on)) (sliceClip n) s
    slicePend n (sliceOut n t (s.sliceHigh n t) s)

/-- The phase of an axis-paced train's grid at T_k, with the writes of VS_PHASE that take effect by then (R248). -/
def slicePhase (s : State) (n : Nat) : Nat :=
  let sh := (s.slice n).sh
  (sh.ups.filter fun u => decide (u.1 ≤ s.T)).foldl (fun a u => match u.2 with | .phase v => v | _ => a) sh.phase

/-- An axis-paced train at the end of phase 3: it is ordered in the tick in which the slice's command rises, and from
the next tick on the grid is tested, a start being ordered for T_(k+2) (R246). With VS_AXPER written 0 while the slice
is enabled the grid has the one point VS_PHASE. -/
def sliceAxis (n : Nat) (s : State) : State :=
  let q := s.slice n
  if s.vsEn n && s.vsMode n == 2 && !s.flag PG_STAT_DUST 0 && decide (q.from' ≤ s.tick + 2) && s.lnEff n then
    let x := s.axPos (s.fld VS_CFG_AX n)
    let per : Int := (s.get .VS_AXPER n).toNat
    let Q := gridFrom (s.slicePhase n : Nat) per (2 * q.xp + per)
    if !q.ord then s.modSlice n fun q => { q with ord := true, xp := x }
    else if 0 ≤ diff48 x (wrap48 Q) ∧ (per ≠ 0 ∨ 0 < diff48 (wrap48 Q) q.xp) then
      s.modSlice n fun q => { q with xp := x, axDue := q.axDue ++ [s.tick + 2] }
    else s
  else if q.ord then s.modSlice n fun q => { q with ord := false } else s

/-- Phase 5 of a tick: lane commands ordered two ticks before and PULSE marks reach the slices at T_k (R116, R243). A
PULSE that starts in the clock of a rising or falling command leaves no gap (R247). -/
def slicesOut (s : State) : State :=
  let l := s.pulses.filter fun p => decide (p.1 ≤ s.tick)
  let s : State := { s with pulses := s.pulses.filter fun p => !decide (p.1 ≤ s.tick) }
  let s := each l (fun p s => s.modSlice p.2.1 fun q => { q with pulseEnd := max q.pulseEnd (s.T + 200 * p.2.2) }) s
  let s := each (List.range 128) (fun n s =>
    let want := s.vsEn n && !s.flag PG_STAT_DUST 0 && decide ((s.slice n).from' ≤ s.tick) && s.eff2.getLsbD n
    let q := s.slice n
    if want && !q.cmd then sliceStart n s.T s
    else if !want && q.cmd then sliceStop n s.T s else s) s
  each l (fun p s => sliceOut p.2.1 s.T (s.sliceHigh p.2.1 s.T) s) s

/-- The next falling edge of a slice's output within the present tick: the end of a pulse that nothing carries on. -/
def sliceFall (s : State) (n : Nat) : Option Nat :=
  let q := s.slice n
  if q.out && q.edges.isEmpty then
    let e : Option Nat := if q.cmd then (match q.trainEnd with
        | some e => some (max e q.pulseEnd)
        | none => if s.vsMode n = 0 then none else some q.pulseEnd)
      else some q.pulseEnd
    match e with
    | some e =>
      if e < s.Tn && (match s.sliceNext n with | some t => decide (e < t) | none => true) then some e else none
    | none => none
  else none

/-! ### Writes to slices (R243, R245, R248) -/

/-- The refusal code of an enabling write of VS_CFG. -/
def vsReject (s : State) (n : Nat) (v : Word) : Nat :=
  let m := bitsOf v 2 1
  if m = 3 then 1 else if m = 2 ∧ s.get .VS_AXPER n = 0#32 then 2
  else if m = 2 ∧ !s.axEn (bitsOf v 12 8) then 3 else 0

/-- A store into VS_CFG applied in the coming tick (R243). -/
def vsCfgStore (n : Nat) (v : Word) (s : State) : State :=
  let was := s.vsEn n
  let r := s.vsReject n v
  let s := s.put .VS_CFG n v
  if bitAt v 0 && !was then
    if r = 0 then
      (s.setFld VS_STAT_REJ n 0).modSlice n fun q => { q with from' := max q.from' (s.tick + 3) }
    else ((s.setFlag VS_CFG_EN n false).setFld VS_STAT_REJ n r).raiseOf 134 n noCause
  else if !bitAt v 0 && was then sliceKill n s.Tn s else s

/-- VS_PERIOD, VS_DUTY and VS_PHASE keep the value written; the stage takes it at T_(k+2) of the tick `k`. -/
def vsPeriodStore (n k : Nat) (v : Word) (s : State) : State := sliceUpd n k (.period v.toNat) (s.put .VS_PERIOD n v)
def vsPhaseStore (n k : Nat) (v : Word) (s : State) : State := sliceUpd n k (.phase v.toNat) (s.put .VS_PHASE n v)
def vsDutyStore (n k : Nat) (v : Word) (s : State) : State :=
  sliceUpd n k (.duty (bitsOf v 15 0) false) (s.put .VS_DUTY n (v &&& 0xFFFF#32))

/-- A duty entry of the geometry unit, in phase 3 of the present tick (R159, R248). -/
def sliceDuty (n d : Nat) (s : State) : State :=
  sliceUpd n s.tick (.duty d true) (s.setFld VS_DUTY_DUTY n d)

def vsCtrlStore (n k : Nat) (v : Word) (s : State) : State :=
  let s := when (bitAt v 1) (put · .VS_CNT n 0#32) s
  when (bitAt v 0) (sliceUpd n k .commit) s

/-! ### Bridge pairs (R249, R250) -/

def bpEn (s : State) (n : Nat) : Bool := s.flag BP_CFG_EN n
def bpPaired (s : State) (n : Nat) : Bool := s.flag BP_CFG_UPD n
def bpOn (s : State) (n : Nat) : Nat := (s.get .BP_ON n).toNat
def bpPer (s : State) (n : Nat) : Nat := (s.get .BP_PER_ACT n).toNat

/-- The end of S's low part before the centre of a centre-aligned period. -/
def bpRise (s : State) (n : Nat) : Nat := if s.flag BP_CFG_ALIGN n then (s.bpPer n - s.bpOn n) / 2 else 0

/-- S in the present period at a clock, with the clock of its last edge (R249). -/
def bpS (s : State) (n t : Nat) : Bool × Nat :=
  let q := s.pair n
  let on := s.bpOn n
  let per := s.bpPer n
  let r := q.p0 + s.bpRise n
  let up (v : Bool) (e : Nat) : Bool × Nat := (v, if v = q.prevS && e = q.p0 then q.prevEdge else e)
  if on = 0 then (if q.prevS then (false, q.p0) else (false, q.prevEdge))
  else if per ≤ on then (if q.prevS then (true, q.prevEdge) else (true, q.p0))
  else if t < r then up false q.p0
  else if t < r + on then (if r = q.p0 then up true r else (true, r))
  else (false, r + on)

/-- Whether a pair's outputs stand at high impedance. -/
def bpHiz (s : State) (n : Nat) : Bool := s.flag BP_STAT_HIZ n

/-- BPnnH and BPnnL active at a clock (R249, R250). -/
def bpH (s : State) (n t : Nat) : Bool :=
  match (s.pair n).drivenAt with
  | some d => let w := s.bpS n t
    !s.bpHiz n && w.1 && decide (max w.2 d + s.fld BP_DT_DT_R n ≤ t)
  | none => false

def bpL (s : State) (n t : Nat) : Bool :=
  match (s.pair n).drivenAt with
  | some d => let w := s.bpS n t
    !s.bpHiz n && !s.flag BP_CFG_LOW_OFF n && !w.1 && decide (max w.2 d + s.fld BP_DT_DT_F n ≤ t)
  | none => false

/-- What holds a pair at high impedance: the dust sheet, its power die's own (R438), a fault latch with BP_EN, or a loop's
DUST action (R252, R255). -/
def bpHeld (s : State) (n : Nat) : Bool :=
  s.flag PG_STAT_DUST 0 || s.flag PG_STAT_FLT_HIZ 0 || (s.pair n).lpDust ||
    (SMap.get {} s.vgroups (4 * (n / 6))).hbDust

/-- A pair without carrier leaves high impedance once nothing holds it (R255). -/
def bpLeave (n k : Nat) (s : State) : State :=
  if s.bpHiz n && !s.bpEn n && !s.bpHeld n && decide ((s.pair n).from' ≤ k) then s.setFlag BP_STAT_HIZ n false else s

def bpLeaveAll (k : Nat) (s : State) : State := each (List.range 24) (bpLeave · k) s

/-- The levels of the two pads of a pair at a clock, none at high impedance; POL_H and POL_L invert them (R249). -/
def bpPadH (s : State) (n t : Nat) : Option Bool :=
  if s.bpHiz n then none else some (s.bpH n t != s.flag BP_CFG_POL_H n)
def bpPadL (s : State) (n t : Nat) : Option Bool :=
  if s.bpHiz n then none else some (s.bpL n t != s.flag BP_CFG_POL_L n)

/-- All bridge outputs go to high impedance. -/
def bpAllHiz (s : State) : State := each (List.range 24) (fun n s => s.setFlag BP_STAT_HIZ n true) s

/-- The lane command and EN make a pair driven from a clock on (R249, R250). -/
def bpDrive (n t : Nat) (lane : Bool) (s : State) : State :=
  let d := s.bpEn n && lane
  (s.setFlag BP_STAT_DRIVEN n d).modPair n fun q =>
    { q with drivenAt := if d then some (q.drivenAt.getD t) else none }

/-- Phase 5: lane commands of the pairs (R116, R250). -/
def pairsOut (s : State) : State :=
  bpLeaveAll s.tick (each (List.range 24) (fun n s => bpDrive n s.T (s.eff2.getLsbD (128 + n)) s) s)

def bpPend (n : Nat) (s : State) : State :=
  let q := (s.pair n).sh
  ((s.setFlag BP_STAT_PEND_P n q.pendP).setFlag BP_STAT_PEND_ON n q.pendOn).setFlag BP_STAT_CPEND n q.commit

/-- DUTY_CLIP (bit 2i) or DT_CLIP (bit 2i + 1) of a pair (R250, R259). -/
def bpClip (n : Nat) (dt : Bool) (s : State) : State :=
  let s := if dt then s.incSat BP_CNT_DT_CLIPS n else s.incSat BP_CNT_DUTY_CLIPS n
  cause .BP_EVT .BP_EVT_MASK (n / 6) (2 * (n % 6) + b2n dt) 129 s

/-- A period begins at `t` with its period and on-time in effect. -/
def bpPeriod (n t per on : Nat) (sh : Shadow) (s : State) : State :=
  let w := s.bpS n t
  let first := (s.pair n).nextP.isNone
  let s := s.modPair n fun q => { q with sh := sh, prevS := !first && w.1, prevEdge := if first then t else w.2, p0 := t,
                                         nextP := some (t + per) }
  let s := (s.put .BP_ON n (BitVec.ofNat 32 on)).put .BP_PER_ACT n (BitVec.ofNat 32 per)
  let s := if s.bpHeld n then s else s.setFlag BP_STAT_HIZ n false
  let live := (s.pair n).drivenAt.isSome && !s.bpHiz n
  let s := when (live && decide (per ≤ on)) (bpClip n false) s
  let dr := s.fld BP_DT_DT_R n
  let df := s.fld BP_DT_DT_F n
  let s := when (live && ((decide (0 < on) && decide (on ≤ dr)) || (decide (on < per) && decide (per - on ≤ df))))
    (bpClip n true) s
  bpPend n s

/-- BRIDGE_PERIOD_START: a reload at the carrier's next period start (R248, R249). The first period of a carrier takes
the shadows as they stand. -/
def bpReload (n : Nat) (s : State) : State :=
  match (if s.bpEn n then (s.pair n).nextP else none) with
  | some t =>
    if t < s.Tn then
      let pa := s.bpPaired n
      let q := s.pair n
      let sh := q.sh.settle pa none (fun u => decide (u < t))
      let r := sh.reload pa (s.bpPer n) (s.bpOn n)
      let late (h : Shadow) : Shadow := h.settle pa none (fun u => decide (u ≤ s.T))
      if s.bpPer n = 0 then bpPeriod n t sh.per sh.on (late sh.clear) s
      else bpPeriod n t r.2.1 r.2.2 (late r.1) s
    else s
  | none => s

/-- A store into BP_CFG: EN starts the carrier, or is refused (R249, R258). -/
def bpCfgStore (n : Nat) (v : Word) (s : State) : State :=
  let was := s.bpEn n
  let s := s.put .BP_CFG n v
  let lane := s.eff2.getLsbD (128 + n)
  if bitAt v 0 && !was then
    if (s.get .BP_PERIOD n).toNat ≤ s.fld BP_DT_DT_R n + s.fld BP_DT_DT_F n then
      ((s.setFlag BP_CFG_EN n false).setFld BP_STAT_REJ n 1).raiseOf 134 n noCause
    else
      let sh := (s.pair n).sh.settle (s.bpPaired n) none (fun u => decide (u ≤ s.Tn))
      let t := (gridFrom (sh.phase % sh.per : Nat) sh.per (2 * s.Tn : Nat)).toNat
      let s := s.modPair n fun q => { q with sh := sh, nextP := some t, prevS := false, prevEdge := t }
      bpDrive n s.Tn lane ((s.put .BP_ON n 0#32).put .BP_PER_ACT n 0#32)
  else if !bitAt v 0 && was then
    bpLeave n s.tick (bpDrive n s.Tn lane (s.modPair n fun q => { q with nextP := none }))
  else s

def pairUpd (n k : Nat) (u : Upd) (s : State) : State :=
  s.modPair n fun q => { q with sh := { q.sh with ups := q.sh.ups ++ [(2000 * (k + 2), u)] } }

def bpPeriodStore (n k : Nat) (v : Word) (s : State) : State := pairUpd n k (.period v.toNat) (s.put .BP_PERIOD n v)
def bpPhaseStore (n k : Nat) (v : Word) (s : State) : State := pairUpd n k (.phase v.toNat) (s.put .BP_PHASE n v)
def bpDutyStore (n k : Nat) (v : Word) (s : State) : State :=
  pairUpd n k (.duty (bitsOf v 15 0) false) (s.put .BP_DUTY n (v &&& 0xFFFF#32))
/-- A duty written by the control engine (R248, R249). -/
def pairDuty (n k d : Nat) (s : State) : State := pairUpd n k (.duty d true) (s.setFld BP_DUTY_DUTY n d)
def bpCtrlStore (n k : Nat) (v : Word) (s : State) : State :=
  let s := when (bitAt v 1) (put · .BP_CNT n 0#32) s
  when (bitAt v 0) (pairUpd n k .commit) s

/-- What has taken effect in a stage by T_k stands in its shadows, and PEND shows it; a reload at T_k itself goes first,
and takes in what comes with it afterwards (R248). -/
def stagesSettle (s : State) : State :=
  let s := each (s.slices.map (·.1)) (fun n s =>
    let due (u : Nat) : Bool := decide (if s.sliceNext n = some s.T then u < s.T else u ≤ s.T)
    if (s.slice n).sh.ups.any (fun u => due u.1) then slicePend n (sliceSettle n due s) else s) s
  each (s.pairs.map (·.1)) (fun n s =>
    let due (u : Nat) : Bool := decide (if s.bpEn n && (s.pair n).nextP == some s.T then u < s.T else u ≤ s.T)
    if (s.pair n).sh.ups.any (fun u => due u.1) then
      let pa := s.bpPaired n
      bpPend n (s.modPair n fun q => { q with sh := q.sh.settle pa none due })
    else s) s

/-! ### Resets and the dust sheet (R253 to R257) -/

def sliceDomainReset (s : State) : State :=
  let s := each (List.range 128) (fun n s => sliceKill n s.Tn s) s
  { s with slices := s.slices.filterMap fun e =>
      if e.2.edges.isEmpty then none else some (e.1, { edges := e.2.edges }) }

/-- Pairs are disabled, with outputs driven inactive (R257); a hold by a loop's DUST action ends (R322). -/
def pairDomainReset (s : State) : State :=
  let l := s.pairs.filterMap fun e => if e.2.from' = 0 then none else some (e.1, ({ from' := e.2.from' } : Pair))
  { s with pairs := l, lpDustDue := s.lpDustDue.filter fun e => e.2.1 != 1 }

/-- Slices stop and pairs go to high impedance: the dust sheet's entry at the clock `t` (R253, R255). -/
def pgDust (t : Nat) (s : State) : State :=
  let s := s.setFlag PG_STAT_DUST 0 true
  bpAllHiz (each (List.range 128) (fun n s => sliceKill n t s) s)

/-- Release applied in the tick `k` (R255). -/
def pgRelease (k : Nat) (s : State) : State :=
  let s := (s.setFlag PG_STAT_DUST 0 false).setFlag PG_STAT_HALT 0 false
  let s := each (List.range 128) (fun n s => s.modSlice n fun q => { q with from' := k + 2 }) s
  each (List.range 24) (fun n s => s.modPair n fun q => { q with from' := k + 2 }) s

end State
end Sys2Proof.Machine
end

