-- ==== Sys2Proof/Machine/Valves.lean ====
section
/-!
DEFINITION. Sys2Proof/Machine/Valves.lean: the valve drive (R216 to R242): actuations and their phases, the peak-current
budget, armature detection, diagnostics, the thermal model, high sides, dies, and the fault inputs (R251, R252).
-/

namespace Sys2Proof.Machine
namespace State

def valve (s : State) (n : Nat) : Valve := SMap.get {} s.valves n
def modValve (n : Nat) (f : Valve → Valve) (s : State) : State :=
  { s with valves := SMap.set {} s.valves n (f (s.valve n)) }
def vgrp (s : State) (g : Nat) : VGroup := SMap.get {} s.vgroups g
def modVgrp (g : Nat) (f : VGroup → VGroup) (s : State) : State :=
  { s with vgroups := SMap.set {} s.vgroups g (f (s.vgrp g)) }
def modDet (n : Nat) (f : Detect → Detect) (s : State) : State := s.modValve n fun v => { v with det := f v.det }

/-- VG_CSTAT.PHASE: 0 OFF, 1 WAIT, 2 PEAK, 3 HOLD, 4 DECAY (R218). -/
def vPhase (s : State) (n : Nat) : Nat := s.fld VG_CSTAT_PHASE n
def setVPhase (n p : Nat) (s : State) : State := s.setFld VG_CSTAT_PHASE n p
def chans (g : Nat) : List Nat := (List.range 8).map fun c => 8 * g + c

/-- A cause of a group with its event; those the table marks have a Q38 record (R241, R242). -/
def vgCause (g b inst stamp : Nat) (s : State) : State :=
  let s := cause .VG_EVT .VG_EVT_MASK g b (104 + g) s
  if b = 7 ∨ b = 10 ∨ b = 13 then s else log38 inst b (104 + g) stamp [] s

/-! ### Timing log (R239) -/

/-- A record of Q40, written in phase 4 of the coming tick, in channel order (R226, R239). -/
def vRecord (n : Nat) (ws : List Word) (s : State) : State := { s with vrecs := s.vrecs ++ [(n, ws)] }

def optUs (o : Option (Option Nat)) (from' : Nat) : Word :=
  match o with
  | some (some t) => intw (divRNE ((t : Int) - from') 200)
  | _ => 0xFFFFFFFF#32

def isDet (o : Option (Option Nat)) : Bool := match o with | some (some _) => true | _ => false
def isMiss (o : Option (Option Nat)) : Bool := match o with | some none => true | _ => false

/-- The ACTUATION record at the end of a release window. `cut` tells that a rising command ended it (R225). -/
def vActRecord (n : Nat) (cut : Bool) (s : State) : State :=
  let v := s.valve n
  let lg := s.fld VG_CFG_LOG (n / 8)
  let except := v.dcause != 0 || isMiss v.det.openRes || (!cut && isMiss v.det.relRes)
  if v.act && (lg == 2 || (lg == 1 && except)) then
    vRecord n [BitVec.ofNat 32 (2 ^ 28 + b2n (isDet v.det.openRes) * 2 ^ 27 + b2n (isDet v.det.relRes) * 2 ^ 26
        + b2n v.det.reached * 2 ^ 25 + b2n v.thm * 2 ^ 24 + v.dcause * 2 ^ 22 + n),
      loW v.cstart, hiW v.cstart,
      BitVec.ofNat 32 (min v.defer 0xFFFF * 2 ^ 16 + v.det.ipk / 4 % 1024),
      optUs v.det.openRes v.cstart, optUs v.det.relRes v.coff,
      s.get .VG_CT n, if v.thm then s.get .VG_CR n else 0#32] s
  else s

/-- The TEST record of an off-state test: results 1 healthy, 2 open, 3 short to ground; in a window 0 no short, 3 short
to supply. -/
def vTestRecord (n t res : Nat) (win : Bool) (s : State) : State :=
  let lg := s.fld VG_CFG_LOG (n / 8)
  if lg = 2 ∨ (lg = 1 ∧ 2 ≤ res) then
    vRecord n [BitVec.ofNat 32 (2 * 2 ^ 28 + res * 2 ^ 8 + b2n win * 2 ^ 7 + n), loW t, hiW t, 0#32, 0xFFFFFFFF#32,
      0xFFFFFFFF#32, s.get .VG_CT n, 0#32] s
  else s

/-- Phase 4: the records of the tick in ascending channel order (R226, R239). -/
def vRecordsOut (s : State) : State :=
  let l := s.vrecs
  each (List.range 128) (fun n s => each (l.filter fun e => e.1 == n) (fun e s => qOffer 40 s.T (fun _ => e.2) s) s)
    ({ s with vrecs := [] } : State)

/-! ### Budget (R221) -/

/-- The peak-phase sum in 31.25 mA units. -/
def vSum (s : State) (g : Nat) : Nat :=
  ((chans g).filter fun n => s.vPhase n == 2).foldl (fun a n => a + (s.valve n).pk) 0

def vShow (g : Nat) (s : State) : State :=
  (s.setFld VG_STAT_PEAK_SUM g (s.vSum g)).setFlag VG_STAT_WAITING g (!(s.vgrp g).wait.isEmpty)

/-- A start fits the budget, or the channel's own peak exceeds it and no other channel is in PEAK. -/
def vFits (s : State) (n : Nat) : Bool :=
  let g := n / 8
  let pk := s.fld VG_CCUR_PEAK n
  let b := s.fld VG_BUDGET_BUDGET g
  decide (s.vSum g + pk ≤ b) || (decide (b < pk) && (chans g).all fun m => s.vPhase m != 2)

/-- The high side is ready for starts from 20 µs after it turned on (R233). -/
def vReady (s : State) (g t : Nat) : Bool := s.flag VG_STAT_HS_ON g && decide ((s.vgrp g).hsOnT + 4000 ≤ t)

/-- The sum fell or the waiting order moved: its head is tested from this clock on. -/
def vFreed (g t : Nat) (s : State) : State := vShow g (s.modVgrp g fun q => { q with freeT := max q.freeT t })

/-! ### Observations (R223 to R229) -/

/-- An observation is stamped at the end of the 1 µs sample that completes it (R226). -/
def sampleEnd (t : Nat) : Nat := (t + 199) / 200 * 200

/-- The opening window ends with a detected instant or without one (R223, R225, R228). -/
def vOpenRes (n t : Nat) (r : Option Nat) (s : State) : State :=
  let g := n / 8
  let v := s.valve n
  let s := s.modDet n fun d => { d with openRes := some r }
  let s := match r with
    | some tm => recNote 0xB n t [1#32, BitVec.ofNat 32 (t - tm)] s
    | none => recNote 0xB n t [3#32, 0#32] s
  match r with
  | some tm =>
    let us := (divRNE ((tm : Int) - v.cstart) 200).toNat
    let s := (s.put .VG_CDON n (BitVec.ofNat 32 us)).modValve n fun v => { v with noOpen := 0 }
    let s := when (s.fld LN_CFG_LSRC n == 1) (lnReport n true us) s
    opnValveOpen n (some tm) s
  | none =>
    let s := opnValveOpen n none ((s.incSat VG_CCNT_NODET n).modValve n fun v => { v with noOpen := v.noOpen + 1 })
    when (decide (s.fld VG_CCFG_STUCK_N n ≤ (s.valve n).noOpen) && !s.flag VG_CSTAT_STUCK n)
      (fun s => vgCause g 6 n t (s.setFlag VG_CSTAT_STUCK n true)) s

/-- The opening window ends undetected, if it is open. -/
def vOpenEnd (n t : Nat) (s : State) : State :=
  when (s.flag VG_CCFG_DET_EN n && (s.valve n).det.openRes.isNone && !s.inReplay) (vOpenRes n (sampleEnd t) none) s

/-- STUCK ends, with STUCK_CLR (R228). -/
def vUnstick (n t : Nat) (s : State) : State :=
  let s := s.modValve n fun v => { v with noOpen := 0, noRel := 0 }
  when (s.flag VG_CSTAT_STUCK n) (fun s => vgCause (n / 8) 7 n t (s.setFlag VG_CSTAT_STUCK n false)) s

/-- A completed release window: detected at an instant or run out undetected (R224, R225, R228). -/
def vRelRes (n t : Nat) (r : Option Nat) (s : State) : State :=
  let g := n / 8
  let v := s.valve n
  let s := s.modDet n fun d => { d with relRes := some r }
  let s := match r with
    | some tm => recNote 0xB n t [2#32, BitVec.ofNat 32 (t - tm)] s
    | none => recNote 0xB n t [3#32, 0#32] s
  let s := match r with
    | some tm =>
      let us := (divRNE ((tm : Int) - v.coff) 200).toNat
      let s := (s.put .VG_CDOFF n (BitVec.ofNat 32 us)).modValve n fun v => { v with noRel := 0 }
      let s := when (s.fld LN_CFG_LSRC n == 1) (lnReport n false us) s
      let s := opnValveRel n (some tm) v.coff s
      when (isDet v.det.openRes) (vUnstick n t) s
    | none =>
      let s := opnValveRel n none v.coff (s.modValve n fun v => { v with noRel := v.noRel + 1 })
      when (decide (s.fld VG_CCFG_STUCK_N n ≤ (s.valve n).noRel) && !s.flag VG_CSTAT_STUCK n)
        (fun s => vgCause g 6 n t (s.setFlag VG_CSTAT_STUCK n true)) s
  (vActRecord n false s).modValve n fun v => { v with act := false }

/-- The release window ends without a result, and no detection has failed: cut by a rising command (R219, R225) or by a
forced off (R227, R228). -/
def vRelCut (n : Nat) (rise : Bool) (s : State) : State :=
  let v := s.valve n
  if v.act then
    let s := vActRecord n true s
    let s := when (rise && s.flag VG_CCFG_DET_EN n) (opnValveRel n none v.coff) s
    s.modValve n fun v => { v with act := false }
  else s

/-! ### Phases (R218, R219) -/

/-- PEAK ended below half its target: OPEN_ON (R229). -/
def vOpenOn (n t : Nat) (s : State) : State :=
  vgCause (n / 8) 2 n t ((recNote 0xB n t [4#32] s).setFlag VG_CSTAT_OPEN_ON n true)

/-- PEAK ends: the open-load check and the largest current (R229). -/
def vPeakOver (n t : Nat) (s : State) : State :=
  let v := s.valve n
  let s := vOpenEnd n t (s.setFld VG_CI_IPK n (v.det.ipk / 4))
  let bad := !v.det.half && !s.flag VG_STAT_VSUP_LOW (n / 8) && !s.inReplay
  let s := s.setFlag VG_CSTAT_OPEN_ON n false
  when bad (vOpenOn n (sampleEnd t)) s

/-- The channel enters DECAY at the clock `t`; a PEAK that ends frees its part of the budget. -/
def vDecay (n t : Nat) (s : State) : State :=
  let pk := s.vPhase n == 2
  let s := when pk (vPeakOver n t) s
  let s := (setVPhase n 4 s).modValve n fun v => { v with
    decayT := t, low := false, offAt := none,
    det := { v.det with rmn := 4096, bump := false, rmx := 0, trm := 0, relRes := none } }
  when pk (vFreed (n / 8) t) s

/-- The hold target in LSB: HOLD, or with TLIM set HOLD_MIN where that is smaller (R220, R235). -/
def vHoldTarget (s : State) (n : Nat) : Nat :=
  let h := s.fld VG_CCUR_HOLD n
  2 * (if s.flag VG_CSTAT_TLIM n then min h (s.fld VG_CCUR_HOLD_MIN n) else h)

/-- The start is granted at the clock `t` (R221, R222). In a replay no coil sample comes, and the records of R446 hold
neither whether the peak target is reached nor the largest current: both are free values there (DESIGN CHOICE, log 139).
-/
def vGrant (n t : Nat) (s : State) : State :=
  let g := n / 8
  let f := if s.inReplay then s.freeVal else (0#32, s)
  let s := f.2
  let pk := s.fld VG_CCUR_PEAK n
  let d := (t - (s.valve n).cstart + 199) / 200
  let s := (setVPhase n 2 s).modValve n fun v => { v with
    grant := t, pk := pk, peakEnd := t + 2000 * s.fld VG_CPEAKT_PEAK_T n, low := true, target := 4 * pk, act := true,
    defer := d, dcause := if d = 0 then 0 else v.dcause, holdN := 0, measDone := false, thm := false,
    sumI := 0, numI := 0, sumV := 0, numV := 0, sumOn := 0, offAt := v.offAt.map fun c => t + (c - v.cstart),
    det := { buf := v.det.buf, ts := v.det.ts, reached := bitAt f.1 31, ipk := 4 * bitsOf f.1 9 0 } }
  let s := if d = 0 then s else
    let c := (s.valve n).dcause
    let s := (s.incSat VG_CCNT_DEFER n).incSat VG_GCNT_DEFERRALS g
    let s := s.put .VG_DLAST g (BitVec.ofNat 32 ((n % 8) * 2 ^ 24 + c * 2 ^ 22 + min d (2 ^ 21 - 1)))
    when (decide (s.fld VG_BUDGET_DEFER_WARN g < d)) (vgCause g 10 n t) s
  vShow g s

/-- START_GRANT: the head of a group's waiting order in the first clock in which it fits (R221). -/
def vStartGrant (g : Nat) (s : State) : State :=
  match (s.vgrp g).wait with
  | n :: r =>
    let q := s.vgrp g
    let t := max (max q.freeT (q.hsOnT + 4000)) (s.valve n).cstart
    if decide (t < s.Tn) && s.flag VG_STAT_HS_ON g && s.vFits n then
      vGrant n t (s.modVgrp g fun q => { q with wait := r })
    else s
  | [] => s

/-- A change of a group's budget or of a peak current, by a write of the coming tick: a waiting head that now fits has its
first fitting clock there (R221). -/
def vLimits (g : Nat) (f : State → State) (s : State) : State :=
  match (s.vgrp g).wait with
  | n :: _ => if s.vFits n then f s else vFreed g s.Tn (f s)
  | [] => f s

/-! ### Whether a channel can act (R217, R486) -/

def vgDark (s : State) (g : Nat) : Bool := s.flag VG_STAT_DUST g || s.flag VG_STAT_FORCED g
def vgLatched (s : State) (g : Nat) : Bool := s.flag VG_STAT_HS_LATCH g || s.flag VG_STAT_SG_LATCH g
def vAble (s : State) (n : Nat) : Bool :=
  let g := n / 8
  s.flag VG_CFG_EN g && s.flag VG_CCFG_EN n && !s.vgDark g && !s.vgLatched g &&
    !s.flag VG_CSTAT_SS_LATCH n && !s.flag VG_CSTAT_TT_LATCH n

/-- The level of the slice command as the channel has seen it. -/
def vCmd (s : State) (n : Nat) : Bool :=
  match (s.slice n).edges with
  | (_, v) :: _ => !v
  | [] => (s.slice n).out

/-- The high side turns on at `t`: starts follow 20 µs later (R233). -/
def vHsOn (g t : Nat) (s : State) : State :=
  (s.setFlag VG_STAT_HS_ON g true).modVgrp g fun q => { q with hsOnT := t }

/-- A start is requested at the commanded start `t` (R218, R219, R221). -/
def vRequest (n t : Nat) (s : State) : State :=
  let g := n / 8
  if s.vAble n && (s.vPhase n == 0 || s.vPhase n == 4) then
    let s := vRelCut n true s
    -- A start during a window ends it, without result, and turns the high side on (R231).
    let s := when (s.flag VG_STAT_WIN_ACTIVE g) (fun s =>
      let s := s.setFlag VG_STAT_WIN_ACTIVE g false
      if s.flag VG_STAT_HS_ON g then s else vHsOn g t s) s
    let s := (s.incMod VG_CCNT_ACT n).modValve n fun v =>
      { v with cstart := t, coff := t, offAt := none, defer := 0, dcause := 0 }
    let s := when (s.flag VG_CCFG_DET_EN n) (opnPulse n t) s
    if (s.vgrp g).wait.isEmpty && s.vReady g t && s.vFits n then vGrant n t s
    else
      let c := if s.vReady g t then 1 else 2
      let s := (setVPhase n 1 s).modValve n fun v => { v with dcause := c }
      vShow g (s.modVgrp g fun q => { q with wait := q.wait ++ [n] })
  else s

/-- VALVE_COMMAND_RISE: the channel takes the slice's next rising edge. -/
def vRise (n : Nat) (s : State) : State :=
  match (s.slice n).edges with
  | (t, true) :: r => vRequest n t (s.modSlice n fun q => { q with edges := r })
  | _ => s

/-- The command falls at `t` (R219). The first fall of a waiting actuation is its commanded off; the actuation keeps its
length, whatever the command does until the off has come. -/
def vFallAt (n t : Nat) (s : State) : State :=
  if (s.valve n).offAt.isSome then s
  else match s.vPhase n with
  | 1 => s.modValve n fun v => { v with coff := t, offAt := some t }
  | 2 | 3 => vDecay n t (s.modValve n fun v => { v with coff := t })
  | _ => s

/-- VALVE_COMMAND_FALL: the next falling edge of the slice, or a commanded off that a grant has shifted (R219). -/
def vFall (n : Nat) (s : State) : State :=
  let sh := match (s.valve n).offAt with
    | some t => if (s.vPhase n == 2 || s.vPhase n == 3) && decide (t < s.Tn) then some t else none
    | none => none
  let edge : Option (Nat × Bool) := match (s.slice n).edges with
    | (t, false) :: _ => some (t, true)
    | (_, true) :: _ => none
    | [] => (s.sliceFall n).map fun t => (t, false)
  match sh, edge with
  | some t, none => vDecay n t s
  | none, none => s
  | some a, some (t, kept) => if a ≤ t then vDecay n a s else take t kept s
  | none, some (t, kept) => take t kept s
where
  take (t : Nat) (kept : Bool) (s : State) : State :=
    let s := if kept then s else sliceOut n t false s
    vFallAt n t (s.modSlice n fun q => { q with edges := q.edges.drop 1 })

/-- PEAK_END: PEAK_T has run from the grant (R218). -/
def vPeakEnd (n : Nat) (s : State) : State :=
  let v := s.valve n
  if s.vPhase n = 2 ∧ v.peakEnd < s.Tn then
    let s := vPeakOver n v.peakEnd s
    vFreed (n / 8) v.peakEnd ((setVPhase n 3 s).modValve n fun v => { v with target := s.vHoldTarget n })
  else s

/-- DECAY_END: the release is confirmed and the current low, or REL_WIN has run (R218). In a replay the clock at which
the current is low is a free value (DESIGN CHOICE, log 139). -/
def vDecayEnd (n : Nat) (s : State) : State :=
  let v := s.valve n
  let off (t : Nat) (s : State) : State := (setVPhase n 0 s).modValve n fun v => { v with offSince := t }
  let win := v.decayT + 20000 * s.fld VG_CDET_REL_WIN n
  if s.vPhase n != 4 then s
  else if isDet v.det.relRes && decide (v.det.buf.foldl (· + ·) 0 < 4 * s.fld VG_CDET_FLOOR n) &&
      (!s.inReplay || decide (v.det.ts < s.Tn)) then off v.det.ts s
  else if win < s.Tn then
    let s := when (v.act && v.det.relRes.isNone)
      (fun s => if s.flag VG_CCFG_DET_EN n then if s.inReplay then s else vRelRes n (sampleEnd win) none s
        else (vActRecord n true s).modValve n fun v => { v with act := false }) s
    off win s
  else s

/-! ### Forced off, high side, latches (R227, R233, R236, R251) -/

/-- The channel is forced off at the clock `t`. -/
def vForce (n t : Nat) (s : State) : State :=
  match s.vPhase n with
  | 0 => opnForced n t s
  | 1 =>
    let s := (setVPhase n 0 s).modValve n fun v => { v with offAt := none, offSince := t }
    opnForced n t (vFreed (n / 8) t (s.modVgrp (n / 8) fun q => { q with wait := q.wait.filter (· != n) }))
  | 4 => opnForced n t (vRelCut n false s)
  | _ => opnForced n t (vRelCut n false (vDecay n t (s.modValve n fun v => { v with coff := t })))

/-- The high side turns off: every channel of the group is forced off (R233). -/
def vHsOff (g t : Nat) (s : State) : State := each (chans g) (vForce · t) (s.setFlag VG_STAT_HS_ON g false)

/-- The high side follows the enable, the dust sheet, the forcing and the latches. -/
def vgFollow (g t : Nat) (s : State) : State :=
  let want := s.flag VG_CFG_EN g && !s.vgDark g && !s.vgLatched g
  if want then
    if s.flag VG_STAT_HS_ON g || s.flag VG_STAT_WIN_ACTIVE g then s else vHsOn g t s
  else
    let s := s.setFlag VG_STAT_WIN_ACTIVE g false
    if s.flag VG_STAT_HS_ON g then vHsOff g t s else s

/-- A change at the clock `t` that may set or lift a block of a group's channels: the high side follows, and a channel
whose command stands high starts when its last block lifts (R486). -/
def vgChange (g t : Nat) (f : State → State) (s : State) : State :=
  let before := (chans g).filter s.vAble
  let s := vgFollow g t (f s)
  each (chans g) (fun n s => if s.vAble n && !before.contains n && s.vCmd n then vRequest n t s else s) s

/-- A high-side trip (R233, R461). -/
def vHsTrip (g t : Nat) (s : State) : State :=
  vgChange g t (fun s => vgCause g 11 g (sampleEnd t) (s.setFlag VG_STAT_HS_LATCH g true))
    (recNote 0xB (128 + g) (sampleEnd t) [7#32] s)

/-- The low side is off and the channel is forced off behind a latch (R229, R235). -/
def vLatch (n t b : Nat) (f : Field) (s : State) : State :=
  vForce n t (vgCause (n / 8) b n t (s.setFlag f n true))

/-- A short to supply (R229). -/
def vShortSup (n t : Nat) (s : State) : State := vLatch n t 0 VG_CSTAT_SS_LATCH (recNote 0xB n t [5#32] s)

/-- A short to ground of a group (R229). -/
def vShortGnd (g t : Nat) (s : State) : State :=
  vgChange g t (fun s => vgCause g 1 g t (when (s.flag VG_CFG_SG_ACT g) (setFlag · VG_STAT_SG_LATCH g true) s))
    (recNote 0xB (128 + g) t [6#32] s)

/-! ### Current samples (R220, R223, R224, R229) -/

/-- Opening detection on a new sum of four samples, in PEAK (R223). -/
def vDetOpen (n t sum : Nat) (top : Bool) (s : State) : State :=
  let d := (s.valve n).det
  if !s.flag VG_CCFG_DET_EN n || d.openRes.isSome then s
  else
    let d := if d.dip then d
      else if d.armed then
        let m := max d.mx sum
        if sum + 4 * s.fld VG_CDET_DIP n ≤ m then { d with mx := m, dip := true, mn := sum, tm := t } else { d with mx := m }
      else if 4 * s.fld VG_CDET_FLOOR n ≤ sum then { d with armed := true, mx := sum } else d
    let d := if d.dip && decide (sum < d.mn) then { d with mn := sum, tm := t } else d
    let s := s.modDet n fun _ => d
    if d.dip && decide (d.mn + 8 ≤ sum) then vOpenRes n t (some d.tm) s
    else if top then vOpenRes n t none s else s

/-- Release detection on a new sum of four samples, in DECAY (R224). -/
def vDetRel (n t sum : Nat) (s : State) : State :=
  let d := (s.valve n).det
  if !s.flag VG_CCFG_DET_EN n || d.relRes.isSome || !(s.valve n).act then s
  else if d.bump then
    let d := if d.rmx < sum then { d with rmx := sum, trm := t } else d
    let s := s.modDet n fun _ => d
    if sum + 8 ≤ d.rmx then vRelRes n t (some d.trm) s else s
  else
    let m := min d.rmn sum
    if m + 4 * s.fld VG_CDET_BUMP n ≤ sum then s.modDet n fun d => { d with rmn := m, bump := true, rmx := sum, trm := t }
    else s.modDet n fun d => { d with rmn := m }

/-- The measurement window of a channel in HOLD: 40 periods after the first 10 (R234). -/
def vInWindow (s : State) (n : Nat) : Bool :=
  s.vPhase n == 3 && decide (11 ≤ (s.valve n).holdN) && decide ((s.valve n).holdN ≤ 50)

/-- One sample of the coil current, in LSB, that ends at the clock `t` (R220). -/
def vSample (n t i : Nat) (s : State) : State :=
  let buf := (i :: (s.valve n).det.buf).take 4
  let sum := buf.foldl (· + ·) 0
  let s := (s.modDet n fun d => { d with buf := buf, ts := t }).setFld VG_CI_I n (sum / 4)
  let s := when (s.vInWindow n) (modValve n fun v => { v with sumI := v.sumI + i, numI := v.numI + 1 }) s
  let ph := s.vPhase n
  if ph = 2 ∨ ph = 3 then
    if 768 < i then vShortSup n t s
    else
      let v := s.valve n
      let top := decide (v.target ≤ i)
      let s := if ph = 2 then
          let s := s.modDet n fun d => { d with ipk := max d.ipk sum, half := d.half || decide (8 * v.pk ≤ sum) }
          vDetOpen n t sum (top && !v.det.reached) s
        else s
      let s := when (v.low && top && s.vInWindow n) (modValve n fun v => { v with sumOn := v.sumOn + (t - v.onT) }) s
      s.modValve n fun v => { v with low := v.low && !top, det := { v.det with reached := v.det.reached || (ph == 2 && top) } }
  else if ph = 4 then vDetRel n t sum s
  else s

/-- Samples of a channel, one every 1 µs, the first ending at `t`. -/
def vSamples (n : Nat) : Nat → List Nat → State → State
  | _, [], s => s
  | t, i :: r, s => vSamples n (t + 200) r (vSample n t i s)

/-- The group supply falls below 6.0 V, or returns above it by more than 0.5 V (R233). -/
def vSupLow (g t mv : Nat) (s : State) : State :=
  if mv < 6000 then
    let s := s.setFld VG_VSUP_MV g mv
    if s.flag VG_STAT_VSUP_LOW g then s else vgCause g 12 g t (s.setFlag VG_STAT_VSUP_LOW g true)
  else s

def vSupBack (g mv : Nat) (s : State) : State :=
  if 6500 < mv ∧ s.flag VG_STAT_VSUP_LOW g then (s.setFld VG_VSUP_MV g mv).setFlag VG_STAT_VSUP_LOW g false else s

/-- One sample of a group's supply in mV and current in mA (R229, R233, R234). -/
def vGroupSample (g t mv ma : Nat) (s : State) : State :=
  let s := vSupBack g mv (vSupLow g t mv ((s.setFld VG_VSUP_MV g mv).setFld VG_IGRP_MA g ma))
  let s := each ((chans g).filter s.vInWindow) (fun n s =>
    s.modValve n fun v => { v with sumV := v.sumV + mv, numV := v.numV + 1 }) s
  let lsb := (chans g).foldl (fun a n => a + (s.valve n).det.buf.headD 0) 0
  -- 7.8125 mA per LSB: 128 units of mA/128 are 1 mA.
  let bad := s.flag VG_STAT_HS_ON g && decide (1000 * lsb + 128 * 500 < 128 * ma)
  let k := if bad then (s.vgrp g).sgN + 1 else 0
  let s := s.modVgrp g fun q => { q with sgN := k }
  if k = 20 then vShortGnd g t s else s

/-- REGULATION_PERIOD_START: the channel's 50 µs period that begins within the present tick, if one does (R220). -/
def vPeriod (n : Nat) (s : State) : State :=
  let ph := (n % 8) * 1250
  let t := ph + ((s.T + 10000 - ph + 9999) / 10000) * 10000 - 10000
  let v := s.valve n
  if t < s.Tn then
    if s.vPhase n = 3 then
      let tg := s.vHoldTarget n
      let on := decide (v.det.buf.headD 0 < tg)
      let whole := if v.low && s.vInWindow n then t - v.onT else 0
      s.modValve n fun v => { v with
        target := tg, low := on, sumOn := v.sumOn + whole, onT := if on then t else v.onT,
        holdN := if !s.flag VG_CCFG_THM_EN n then 0 else if v.holdN = 0 then b2n on else v.holdN + 1 }
    else if s.vPhase n = 2 && v.det.reached then
      s.modValve n fun v => { v with low := decide (v.det.buf.headD 0 < v.target) }
    else s
  else s

/-! ### Thermal model (R234, R235) -/

/-- The value of a temperature limit in °C as an IEEE single. -/
def degC (n : Int) : Word := f32.ofInt n

/-- Limit and trip of the modelled temperature at the clock `t` (R235). -/
def vTherm (n t : Nat) (s : State) : State :=
  let T := s.get .VG_CT n
  let lim := s.fld VG_CTHM_T_LIMIT n
  let s :=
    if f32.lt (degC lim) T then
      if s.flag VG_CSTAT_TLIM n then s else vgCause (n / 8) 8 n t (s.setFlag VG_CSTAT_TLIM n true)
    else if f32.lt T (degC ((lim : Int) - s.fld VG_CTHM_T_HYST n)) then s.setFlag VG_CSTAT_TLIM n false else s
  if f32.lt (degC (s.fld VG_CTHM_T_TRIP n)) T && !s.flag VG_CSTAT_TT_LATCH n then vLatch n t 9 VG_CSTAT_TT_LATCH s
  else s

/-- A resistance result at the clock `t` from the averages of the window: supply in V, current in A, duty (R234). -/
def vThermResult (n t : Nat) (v i d : Word) (s : State) : State :=
  let s := recNote 0xB n t [9#32, d, v, i] s
  let r := f32.div (f32.mul v d) i
  let s := if s.flag VG_CSTAT_LEARN_PEND n then (s.put .VG_CRREF n r).setFlag VG_CSTAT_LEARN_PEND n false else s
  let q := f32.sub (f32.div r (s.get .VG_CRREF n)) f32.one
  let T := f32.add (s.get .VG_CTREF n) (f32.div q 0x3B80C73B#32)
  let s := ((s.put .VG_CR n r).put .VG_CT n T).setFld VG_CDUTY_D n (clampI 0 0xFFFF (f32.toInt d 15)).toNat
  vTherm n t (s.modValve n fun v => { v with thm := true })

/-- The averages of a measurement window: the group supply in V, the latest one where no sample of it came (DESIGN
CHOICE, log 140), and the current in A (R234). -/
def vAvgV (s : State) (n : Nat) : Word :=
  let q := s.valve n
  if q.numV = 0 then f32.ofRat (s.fld VG_VSUP_MV (n / 8)) 1000 else f32.ofRat q.sumV (1000 * q.numV)
def vAvgI (s : State) (n : Nat) : Word := f32.ofRat (s.valve n).sumI (128 * max 1 (s.valve n).numI)

/-- The duty of the window: the clocks for which the low side was on, over 40 periods of 50 µs (R234). -/
def vAvgD (s : State) (n : Nat) : Word := f32.ofRat (s.valve n).sumOn 400000

/-- A hold measurement ends at the clock `t`: after 10 and 40 periods from the first one in HOLD with the low side on,
with at least 8 LSB of current (R234). -/
def vHoldMeas (n t : Nat) (s : State) : State :=
  let q := s.valve n
  if s.flag VG_CCFG_THM_EN n && s.vPhase n == 3 && decide (51 ≤ q.holdN) && !q.measDone then
    let s := s.modValve n fun q => { q with measDone := true }
    if f32.le 0x3D800000#32 (s.vAvgI n) then vThermResult n t (s.vAvgV n) (s.vAvgI n) (s.vAvgD n) s else s
  else s

/-- COIL_COOLING: each 10 ms an idle coil cools (R235). -/
def vCool (n : Nat) (s : State) : State :=
  if s.tick % 1000 = 0 ∧ s.flag VG_CCFG_THM_EN n ∧ s.vPhase n = 0 then
    let a := s.get .VG_TAMB (n / 8)
    let k := f32.exp (f32.neg (f32.div 0x3C23D70A#32 (f32.ofInt (s.fld VG_CTHM_TAU n))))
    vTherm n s.T (s.put .VG_CT n (f32.add a (f32.mul (f32.sub (s.get .VG_CT n) a) k)))
  else s

/-! ### Off-state tests (R230, R231) -/

/-- A high-side-on test begun at `t0` ends at `t` with a result: 1 healthy, 2 open, 3 short to ground (R230). -/
def vHsonRes (n t0 t res : Nat) (s : State) : State :=
  let s := recNote 0xB n t [BitVec.ofNat 32 (8 + 256 * res)] s
  let s := (s.setFld VG_CSTAT_HSON_RES n res).modValve n fun v => { v with testT := some t0, hsonT := some t }
  let s := when (2 ≤ res) (vgCause (n / 8) (if res = 2 then 3 else 4) n t) s
  vTestRecord n t0 res false s

/-- The clock at which the next high-side-on test of a channel begins: TEST_IDLE into its stay in OFF, then every
TEST_PER, and not before the high side and the test's enables are on. -/
def vHsonDue (s : State) (n : Nat) : Nat :=
  let g := n / 8
  let v := s.valve n
  let t0 := v.offSince + 200000 * s.fld VG_TEST_TEST_IDLE g
  let t := match v.testT with
    | some p => if v.offSince ≤ p then p + 200000 * s.fld VG_TEST_TEST_PER g else t0
    | none => t0
  max t (max v.diagT (s.vgrp g).hsOnT)

/-- HSON_TEST with the levels after pull-down and pull-up: the test begins on the 1 µs grid (R230, log 48). -/
def vHsonTest (n : Nat) (down up : Bool) (s : State) : State :=
  let g := n / 8
  let t0 := sampleEnd (s.vHsonDue n)
  let t := t0 + (if down then 20000 else 40000)
  if s.flag VG_CFG_HSON_EN g && s.flag VG_STAT_HS_ON g && s.flag VG_CCFG_EN n && s.flag VG_CCFG_DIAG_EN n &&
      s.vPhase n == 0 && decide (t < s.Tn) && !s.inReplay then
    vHsonRes n t0 t (if down then 1 else if up then 2 else 3) s
  else s

/-- A high-side-off window begins at the clock `t`: the high side turns off, and what that ends ends (R231, R233). -/
def vWindow (g t : Nat) (s : State) : State :=
  ((vHsOff g t s).setFlag VG_STAT_WIN_ACTIVE g true).modVgrp g fun q =>
    { q with winT := t, lastWin := some t }

/-- HSOFF_WINDOW: an idle group takes its window (R231). -/
def vHsoffWindow (g : Nat) (s : State) : State :=
  let idle := (chans g).foldl (fun a n => max a (s.valve n).offSince) 0 + 200000 * s.fld VG_TEST_WIN_IDLE g
  let t := match (s.vgrp g).lastWin with | some p => max idle (p + 200000000) | none => idle
  let t := max t s.T
  if s.flag VG_CFG_WIN_EN g && s.flag VG_CFG_EN g && s.flag VG_STAT_HS_ON g && !s.flag VG_STAT_WIN_ACTIVE g &&
      (chans g).all (fun n => s.vPhase n == 0 && !s.flag VG_CSTAT_SS_LATCH n && !s.flag VG_CSTAT_TT_LATCH n) &&
      decide (t < s.Tn) then
    vWindow g t s
  else s

/-- The result of a window for one channel, 300 µs into it: `high` is short to supply, which latches the channel (R231).
-/
def vWindowRes (n t : Nat) (high : Bool) (s : State) : State :=
  if s.flag VG_CCFG_EN n && s.flag VG_CCFG_DIAG_EN n then
    let s := recNote 0xB n t [BitVec.ofNat 32 (8 + 256 * (if high then 3 else 0))] s
    let s := (s.setFld VG_CSTAT_HSOFF_RES n (if high then 2 else 1)).modValve n fun v => { v with hsoffT := some t }
    let s := when high (vLatch n t 5 VG_CSTAT_SS_LATCH) s
    vTestRecord n (t - 60000) (if high then 3 else 0) true s
  else s

/-- 300 µs into a window the levels are sampled, bit c of `levels` for channel c, and the high side turns on (R231). In a
replay the results come from the input record. -/
def vWindowSample (g : Nat) (levels : BitVec 8) (s : State) : State :=
  let t := (s.vgrp g).winT + 60000
  if s.flag VG_STAT_WIN_ACTIVE g && !s.flag VG_STAT_HS_ON g && decide (t < s.Tn) then
    let s := if s.inReplay then s
      else each (List.range 8) (fun c s => vWindowRes (8 * g + c) (sampleEnd t) (levels.getLsbD c) s) s
    vHsOn g t s
  else s

/-- TEST_DONE: what has come due of the window's end. At 300 µs the levels are sampled and the high side turns on; at
320 µs the high side is ready and the window ends (R231). -/
def vTestDone (g : Nat) (levels : BitVec 8) (s : State) : State :=
  let t := (s.vgrp g).winT + 64000
  let s := vWindowSample g levels s
  if s.flag VG_STAT_WIN_ACTIVE g && decide (t < s.Tn) then
    vgCause g 13 g t ((s.setFlag VG_STAT_WIN_ACTIVE g false).incMod VG_GCNT_WINDOWS g)
  else s

/-- VG_CAGE at the present tick: the ages of the two kinds of test in 0.1 s (R232). -/
def vAge (s : State) (n : Nat) : Word :=
  let a (o : Option Nat) : Nat := match o with | some t => min ((s.T - t) / 20000000) 0xFFFF | none => 0xFFFF
  BitVec.ofNat 32 (a (s.valve n).hsoffT * 65536 + a (s.valve n).hsonT)

/-! ### Dies (R237) -/

/-- VG_STAT.FORCED follows the fault latches and the die shutdowns. -/
def vgForcing (g t : Nat) (s : State) : State :=
  vgChange g t (fun s => s.setFlag VG_STAT_FORCED g
    (s.rbit .PG_FLT_STAT 0 (16 + g) || s.rbit .VG_DIESTAT 0 (g / 4))) s

def vgForcings (t : Nat) (s : State) : State := each (List.range 16) (vgForcing · t) s

/-- DIE_HOT: a power die crosses its warning threshold of 150 °C. -/
def dieHot (d : Nat) (temp : Word) (s : State) : State :=
  if f32.lt (degC 150) temp && !s.rbit .VG_DIESTAT 0 (4 + d) then
    ((s.put .VG_DIE d temp).setRbit .VG_DIESTAT 0 (4 + d) true).raiseOf (120 + d) d noCause
  else s

/-- DIE_COOL: it cools below the warning threshold. -/
def dieCool (d : Nat) (temp : Word) (s : State) : State :=
  if f32.lt temp (degC 150) then (s.put .VG_DIE d temp).setRbit .VG_DIESTAT 0 (4 + d) false else s

/-- DIE_SHUT: at 170 °C, beyond the warning threshold too, the die turns its four groups off (R237, R439). -/
def dieShut (d t : Nat) (temp : Word) (s : State) : State :=
  if f32.le (degC 170) temp && !s.rbit .VG_DIESTAT 0 d then
    let s := ((dieHot d temp s).put .VG_DIE d temp).setRbit .VG_DIESTAT 0 d true
    let s := each (List.range 4) (fun j s => vgForcing (4 * d + j) t s) s
    faultReact 3 d t (raiseLog 124 d noCause t [] s)
  else s

/-- A reading of a power die's temperature at the clock `t`, against both thresholds (R237). -/
def dieReads (d t : Nat) (temp : Word) (s : State) : State :=
  dieShut d t temp (dieCool d temp (dieHot d temp (s.put .VG_DIE d temp)))

/-! ### Writes (R228, R230, R231, R233, R235, R237, R241) -/

/-- Whether the high-side-on tests of a channel are enabled. -/
def vTests (s : State) (n : Nat) : Bool := s.flag VG_CFG_HSON_EN (n / 8) && s.flag VG_CCFG_EN n && s.flag VG_CCFG_DIAG_EN n

/-- A store of the coming tick into a group's or a channel's configuration: a test that it enables, or makes due, begins
there at the earliest (R230). -/
def vTestFrom (g : Nat) (f : State → State) (s : State) : State :=
  let was := (chans g).filter fun n => s.vTests n && decide (s.vHsonDue n < s.Tn)
  let s := f s
  each ((chans g).filter fun n => s.vTests n && !was.contains n && decide (s.vHsonDue n < s.Tn)) (fun n s =>
    s.modValve n fun v => { v with diagT := s.Tn }) s

def vgCfgStore (g : Nat) (v : Word) (s : State) : State := vTestFrom g (vgChange g s.Tn fun s => s.put .VG_CFG g v) s
def vgTestStore (g : Nat) (v : Word) (s : State) : State := vTestFrom g (fun s => s.put .VG_TEST g v) s

/-- The refusal code of an enabling write of VG_CCFG. -/
def vgReject (s : State) (n : Nat) (v : Word) : Nat :=
  if 2 * s.fld VG_CCUR_PEAK n < s.fld VG_CCUR_HOLD n then 1
  else if bitAt v 2 && !f32.pos (s.get .VG_CRREF n) then 2 else 0

/-- A store into VG_CCFG: enabling is accepted or refused; disabling turns the low side off (R217, R241). -/
def vgCcfgStore (n : Nat) (v : Word) (s : State) : State := vTestFrom (n / 8) (store n v) s
where
  store (n : Nat) (v : Word) (s : State) : State :=
    let was := s.flag VG_CCFG_EN n
    if bitAt v 0 && !was then
      let r := s.vgReject n v
      if r = 0 then
        vgChange (n / 8) s.Tn (fun s => (s.put .VG_CCFG n v).setFld VG_CSTAT_REJ n 0)
          (s.modValve n fun q => { q with offSince := s.Tn })
      else ((s.put .VG_CCFG n (putBit v 0 false)).setFld VG_CSTAT_REJ n r).raiseOf 126 n noCause
    else if !bitAt v 0 && was then
      let idle := s.vPhase n == 0
      (setVPhase n 0 ((vForce n s.Tn s).put .VG_CCFG n v)).modValve n fun q =>
        { q with offSince := if idle then q.offSince else s.Tn }
    else s.put .VG_CCFG n v

/-- A forced window is refused while a channel is not in OFF (R231). -/
def vgTwinErr (s : State) (g : Nat) : Bool := (chans g).any fun n => s.vPhase n != 0

/-- A store into VG_CTRL. -/
def vgCtrlStore (g : Nat) (v : Word) (s : State) : State :=
  let s := when (bitAt v 0) (vgChange g s.Tn fun s =>
    (s.setFlag VG_STAT_HS_LATCH g false).setFlag VG_STAT_SG_LATCH g false) s
  let s := when (bitAt v 1 && s.flag VG_STAT_HS_ON g && !s.flag VG_STAT_WIN_ACTIVE g) (vWindow g s.Tn) s
  let s := when (bitAt v 2) (fun s => each (chans g) (fun n s => s.put .VG_CCNT n 0#32) (s.put .VG_GCNT g 0#32)) s
  if g = 0 then
    each (pick 4 fun d => bitAt v (4 + d) && !s.rbit .VG_DIESTAT 0 (4 + d)) (fun d s =>
      let s := s.setRbit .VG_DIESTAT 0 d false
      each (List.range 4) (fun j s => vgForcing (4 * d + j) s.Tn s) s) s
  else s

/-- LCLR is refused while a thermally latched coil is still hot (R235). -/
def vgLclrErr (s : State) (n : Nat) : Bool :=
  s.flag VG_CSTAT_TT_LATCH n &&
    f32.lt (degC ((s.fld VG_CTHM_T_LIMIT n : Int) - s.fld VG_CTHM_T_HYST n)) (s.get .VG_CT n)

/-- A store into VG_CCTRL. -/
def vgCctrlStore (n : Nat) (v : Word) (s : State) : State :=
  let s := when (bitAt v 0) (fun s => vTherm n s.Tn (vgChange (n / 8) s.Tn (fun s =>
    (s.setFlag VG_CSTAT_TT_LATCH n false).setFlag VG_CSTAT_SS_LATCH n false) s)) s
  let s := when (bitAt v 1) (vUnstick n s.Tn) s
  let s := when (bitAt v 2) (setFlag · VG_CSTAT_LEARN_PEND n true) s
  when (bitAt v 3) (put · .VG_CCNT n 0#32) s

/-! ### Fault inputs (R251, R252) -/

/-- Inputs latched with BP_EN hold the bridges, those with VGMASK bits force groups. -/
def fltHiz (s : State) : Bool := (List.range 8).any fun n => s.rbit .PG_FLT_STAT 0 (8 + n) && s.flag PG_FLT_CFG_BP_EN n
def fltGroup (s : State) (g : Nat) : Bool :=
  (List.range 8).any fun n => s.rbit .PG_FLT_STAT 0 (8 + n) && s.rbit .PG_FLT_CFG n (16 + g)

/-- The responses of the latches as they stand, at the clock `t` of the tick `k`. -/
def fltFollow (t k : Nat) (s : State) : State :=
  let hiz := s.fltHiz
  let s := s.setFlag PG_STAT_FLT_HIZ 0 hiz
  let s := if hiz then bpAllHiz s else bpLeaveAll k s
  let s := each (List.range 16) (fun g s => s.setRbit .PG_FLT_STAT 0 (16 + g) (s.fltGroup g)) s
  vgForcings t s

/-- The first clock at which an enabled input can count as asserted: FILT + 1 samples after EN was set (R251). -/
def fltReady (s : State) (n : Nat) : Nat := SMap.get 0 s.fltEn n + s.fld PG_FLT_CFG_FILT n + 1

/-- FAULT_INPUT_ASSERT: an enabled input has held the level POL for FILT + 1 samples at the clock `t`. -/
def fltAssert (n t : Nat) (s : State) : State :=
  if s.flag PG_FLT_CFG_EN n && !s.rbit .PG_FLT_STAT 0 n && decide (s.fltReady n ≤ t) then
    let was := s.rbit .PG_FLT_STAT 0 (8 + n)
    let s := (s.setRbit .PG_FLT_STAT 0 n true).setRbit .PG_FLT_STAT 0 (8 + n) true
    if was then s else
    let s := fltFollow t s.tick s
    let s := when (s.flag PG_FLT_CFG_BP_EN n) (fun s => faultReact 4 n t (raiseLog 130 n noCause t [] s)) s
    when (s.fld PG_FLT_CFG_VGMASK n != 0) (fun s => faultReact 4 n t (raiseLog 131 n noCause t [] s)) s
  else s

def fltDeassert (n : Nat) (s : State) : State := s.setRbit .PG_FLT_STAT 0 n false

/-- A clear that names an input still asserted is refused. -/
def fltClrErr (s : State) (v : Word) : Bool := (List.range 8).any fun n => bitAt v n && s.rbit .PG_FLT_STAT 0 n

def fltClrStore (v : Word) (s : State) : State :=
  let l := pick 8 fun n => bitAt v n && s.rbit .PG_FLT_STAT 0 (8 + n)
  if l.isEmpty then s
  else fltFollow s.Tn s.tick (each l (fun n s => s.setRbit .PG_FLT_STAT 0 (8 + n) false) (s.raise 132))

/-- A store into PG_FLT_CFG. With EN set the filter counts from the first sample after it; an input is not asserted
before, nor once its asserted level has been changed (DESIGN CHOICE, log 141). -/
def fltCfgStore (n : Nat) (v : Word) (s : State) : State :=
  let o := s.get .PG_FLT_CFG n
  let s := s.put .PG_FLT_CFG n v
  let s : State := if bitAt v 0 && !bitAt o 0 then { s with fltEn := SMap.set 0 s.fltEn n s.Tn } else s
  let s := if bitAt v 0 && bitAt o 1 == bitAt v 1 then s else s.setRbit .PG_FLT_STAT 0 n false
  if s.rbit .PG_FLT_STAT 0 (8 + n) then fltFollow s.Tn s.tick s else s

/-! ### Dust sheet and resets (R236, R238, R438) -/

/-- VG_STAT.DUST of a group follows the module's dust sheet and its die's own. -/
def vgDustFollow (g t : Nat) (s : State) : State :=
  vgChange g t (fun s => s.setFlag VG_STAT_DUST g (s.flag PG_STAT_DUST 0 || (s.vgrp g).hbDust)) s

/-- The valve channels enter the dust sheet at `t`: E125 (R236, R242). -/
def vgDust (t : Nat) (s : State) : State :=
  raiseLog 125 0 noCause t [] (each (List.range 16) (vgDustFollow · t) s)

/-- A valve die enters the dust sheet on its own: E125 where its channels do not stand in it (R236, R242, R438). -/
def vgDieDust (d t : Nat) (on : Bool) (s : State) : State :=
  let s := when (on && (List.range 4).any fun j => !s.flag VG_STAT_DUST (4 * d + j)) (raiseLog 125 d noCause t []) s
  each (List.range 4) (fun j s => vgDustFollow (4 * d + j) t (s.modVgrp (4 * d + j) fun q => { q with hbDust := on })) s

/-- Release: the high sides of enabled groups turn on (R233, R236). -/
def vgRelease (t : Nat) (s : State) : State := each (List.range 16) (vgDustFollow · t) s

/-- A group's domain reset, before its registers return to reset values (R238). -/
def vgResetStart (g t : Nat) (s : State) : State :=
  let s := s.setFlag VG_CFG_EN g false
  vgFollow g t s

/-- ... and after them: the hidden state of the group restarts; the dust sheet and the forcing stand. -/
def vgResetEnd (g t : Nat) (s : State) : State :=
  let hb := (s.vgrp g).hbDust
  let s := each (chans g) (fun n s => s.modValve n fun _ => { offSince := t }) s
  let s := s.modVgrp g fun _ => { hbDust := hb, freeT := t }
  vgForcing g t (vgDustFollow g t s)

end State
end Sys2Proof.Machine
end

