-- ==== Sys2Proof/Machine/LoadSwitches.lean ====
section
/-!
DEFINITION. Sys2Proof/Machine/LoadSwitches.lean: the load switches (R260 to R279): source commands, inrush windows,
trips and retry pauses, thermal and under-voltage turn-off, latches and restarts, sense values, cold start.
-/

namespace Sys2Proof.Machine
namespace State

def lsc (s : State) (m : Nat) : Ls := SMap.get {} s.lss m
def modLs (m : Nat) (f : Ls → Ls) (s : State) : State := { s with lss := SMap.set {} s.lss m (f (s.lsc m)) }

/-- The supply group of a channel, and the channels of a group (R261). -/
def lsGroup (m : Nat) : Nat := if m < 4 then 0 else if m < 8 then 1 else if m < 16 then 2 else 3
def lsOf (g : Nat) : List Nat := pick 24 fun m => lsGroup m == g

def lsUv (s : State) (m : Nat) : Bool := s.rbit .LS_SUP_STAT 0 (lsGroup m)
def lsLatched (s : State) (m : Nat) : Bool := s.flag LS_STAT_OC_LATCH m || s.flag LS_STAT_TH_LATCH m

/-- What holds a channel off (R269). -/
def lsHeld (s : State) (m : Nat) : Bool :=
  s.lsLatched m || (s.lsc m).hot || s.lsUv m || (s.lsc m).pause.isSome

/-- LS_STAT.STATE: 0 OFF, 1 INRUSH, 2 ON, 3 PAUSE, 4 UV, 5 HOT, 6 LATCHED (R270). -/
def lsState (s : State) (m : Nat) : Nat :=
  if s.lsLatched m then 6 else if (s.lsc m).hot then 5 else if s.lsUv m then 4
  else if (s.lsc m).pause.isSome then 3 else if !s.flag LS_STAT_OUT m then 0
  else if (s.lsc m).win.isSome then 1 else 2

/-- Thresholds in A (R260). -/
def lsLim (m : Nat) : Word := f32.ofInt (if m < 8 then 20 else 8)
/-- LS_I reads 0xFFF (R271). -/
def lsFault (s : State) (m : Nat) : Bool :=
  s.lsLatched m || (s.flag LS_STAT_SRCCMD m && s.lsHeld m)

/-- The die as it physically stands: in replay what it held when replay began (R277, R448). -/
def lsPhys (s : State) : State :=
  match s.lsHold with
  | some h => { s with lss := h.ls, regs := h.regs }
  | none => s

/-- The voltage of SENSE pin `n`: the channel it carries as it physically stands (R272, R277). -/
def lsPinV (s : State) (n : Nat) : Word :=
  if s.flag LS_SENSE_CFG_EN n then
    let m := s.fld LS_SENSE_CFG_CH n
    if s.lsPhys.lsFault m then 0x4099999A#32
    else f32.div (f32.mul (f32.ofInt 4) (f32.min (s.lsc m).cur (lsLim m))) (lsLim m)
  else 0#32

/-- The SENSE pins follow their channels. -/
def lsPins (s : State) : State :=
  each (List.range 4) (fun n s => { s with sense := SMap.set 0#32 s.sense n (s.lsPinV n) }) s

/-- A channel's state shows. The SENSE pins follow it at the end of the tick, or where no tick comes at once (R272). -/
def lsShow (m : Nat) (s : State) : State :=
  let s := s.setFld LS_STAT_STATE m (s.lsState m)
  when (s.lsOsc || s.boot.rst != 0) lsPins s

/-- A cause of a channel with its event and, where the table has one, its Q38 record (R278, R279): RC, LS_TJ, and for
UV_OFF the supply group and its voltage. -/
def lsCause (m b t mv : Nat) (s : State) : State :=
  let s := cause .LS_EVT .LS_EVT_MASK m b (136 + m) s
  if b = 0 ∨ b = 4 ∨ b = 6 then s
  else log38 m b (136 + m) t ([BitVec.ofNat 32 (s.fld LS_STAT_RC m), s.get .LS_TJ m] ++
    (if b = 5 then [BitVec.ofNat 32 (lsGroup m), BitVec.ofNat 32 mv] else [])) s

def lsInr (m : Nat) : Word := f32.ofInt (if m < 8 then 48 else 18)
def lsThreshold (s : State) (m : Nat) : Word := if (s.lsc m).win.isSome then lsInr m else lsLim m

/-! ### Switching (R264) -/

/-- The output turns on at `t`, with or without an inrush window. -/
def lsOn (m t : Nat) (win : Bool) (s : State) : State :=
  let e := t + 200000 * s.fld LS_INR_INR_MS m
  lsShow m ((s.setFlag LS_STAT_OUT m true).modLs m fun c =>
    { c with win := if win then some e else none, loose := if win then s.lsOsc else c.loose })

/-- The output is off from `t` on; a window ends. -/
def lsOff (m t : Nat) (s : State) : State :=
  let was := s.flag LS_STAT_OUT m
  lsShow m ((s.setFlag LS_STAT_OUT m false).modLs m fun c =>
    { c with win := none, offT := if was then some (t : Int) else c.offT, offOsc := if was then s.lsOsc else c.offOsc })

/-- Whether a channel that turns on at `t` has been off for REARM (R264). Of an off time that the die's own oscillator
times, wholly or in part, what module time does not show is a free value: DESIGN CHOICE (log 131). -/
def lsLong (m t : Nat) (s : State) : Bool × State :=
  match (s.lsc m).offT with
  | some o =>
    let long := decide (o + 200000 * s.fld LS_INR_REARM m ≤ (t : Int))
    if (s.lsOsc || (s.lsc m).offOsc) && !long then (let f := s.freeVal; (bitAt f.1 0, f.2)) else (long, s)
  | none => (true, s)

/-- A restart with a fresh window, when nothing holds the channel and its source command is 1 (R269): `b` is its cause,
4 after a pause or a cool-down, 6 after an under-voltage. -/
def lsRestart (m t : Nat) (b : Option Nat) (s : State) : State :=
  if s.flag LS_STAT_SRCCMD m && !s.lsHeld m && !s.flag LS_STAT_OUT m then
    let s := match b with
      | some b => lsCause m b t 0 (s.incSat LS_CNT_RESTARTS m)
      | none => s
    lsOn m t true s
  else lsShow m s

/-- The source command formed from the register and the pin command (R262). -/
def lsSrc (s : State) (m : Nat) : Bool :=
  let r := s.flag LS_STAT_REG m
  let p := s.flag LS_STAT_PIN m
  match (s.lsc m).src % 4 with
  | 0 => r
  | 1 => p
  | 2 => r || p
  | _ => r && p

/-- LS_SOURCE_COMMAND_CHANGE: the output follows a source command that rises or falls at `t` (R264, R266). -/
def lsCommand (m t : Nat) (s : State) : State :=
  let c := s.lsSrc m
  if s.lsDown || c == s.flag LS_STAT_SRCCMD m then s
  else
    let s := s.setFlag LS_STAT_SRCCMD m c
    if c then
      if s.lsHeld m then lsShow m s
      else
        let x := lsLong m t s
        lsOn m t x.1 x.2
    else lsOff m t (s.setFld LS_STAT_RC m 0)

/-- The pin command after PIN_INV. -/
def lsPinShow (m : Nat) (s : State) : State :=
  s.setFlag LS_STAT_PIN m (s.rbit .LS_PIN 0 m != ((s.lsc m).src / 4 == 1))

/-- LSIN_CHANGE: a level that has held for 1 µs is taken (R262); in replay the pins are not taken (R448). -/
def lsinChange (m : Nat) (lvl : Bool) (s : State) : State :=
  if s.lsDown || s.inReplay then s else lsPinShow m (s.setRbit .LS_PIN 0 m lvl)

/-- The die takes the register commands: not in the dust sheet, and from T_(k+2) of a release applied in tick k (R430,
R434). -/
def lsFollows (s : State) : Bool := !s.flag MOD_STAT_DUST 0 && decide (s.relTick + 2 ≤ s.tick)

/-- The settings of CSRC and PIN_INV due by the tick `k` take effect (R263). -/
def lsSettle (m k : Nat) (s : State) : State :=
  let l := (s.lsc m).due
  match (l.filter fun e => decide (e.1 ≤ k)).getLast? with
  | some e => lsPinShow m (s.modLs m fun c => { c with src := e.2, due := l.filter fun e => !decide (e.1 ≤ k) })
  | none => s

/-- Phase 5: register commands ordered two ticks before and new settings of CSRC and PIN_INV reach the die (R262, R263).
-/
def lsPhase (s : State) : State :=
  if s.lsDown then s else
  each (List.range 24) (fun m s =>
    let s := lsSettle m s.tick s
    when (s.lsFollows) (setFlag · LS_STAT_REG m (s.eff2.getLsbD (152 + m))) s) s

/-! ### Protection (R265 to R269) -/

/-- The retry pause in ticks after the trip that made the retry count `rc` (R265). -/
def lsPause (rc : Nat) : Nat := 800 * 2 ^ (min rc 9 - 1)

/-- A trip at the clock `t`, as the die or a replay record tells it. -/
def lsTrips (m t : Nat) (s : State) : State :=
  if s.flag LS_STAT_OUT m then
    let s := recNote 0xC m t [1#32] s
    let rc := min (s.fld LS_STAT_RC m + 1) 15
    let s := lsOff m t ((s.setFld LS_STAT_RC m rc).incSat LS_CNT_TRIPS m)
    let s := lsCause m 0 t 0 (s.put64 .LS_TLAST_LO .LS_TLAST_HI m t)
    if s.fld LS_CFG_RETRY_N m ≤ rc then lsShow m (lsCause m 1 t 0 (s.setFlag LS_STAT_OC_LATCH m true))
    else lsShow m (s.modLs m fun c => { c with pause := some (s.tick + 1 + lsPause rc), loose := s.lsOsc })
  else s

/-- LS_TRIP: the current `i`, in A, reaches the present threshold at the clock `t`; a replay takes it from its records. -/
def lsTrip (m t : Nat) (i : Word) (s : State) : State :=
  if !s.inReplay && f32.le (s.lsThreshold m) i then lsTrips m t s else s

/-- RETRY_PAUSE_END: a pause ends at its tick boundary (R265), or by the die's own oscillator where it times it (R273,
log 131). -/
def lsPauseEnd (m : Nat) (s : State) : State :=
  match (s.lsc m).pause with
  | some k =>
    if k ≤ s.tick || (s.lsc m).loose then lsRestart m s.T (some 4) (s.modLs m fun c => { c with pause := none }) else s
  | none => s

/-- INRUSH_WINDOW_END: the threshold becomes I_LIM (R264), timed as a pause is without ticks (R273, log 131). -/
def lsWindowEnd (m : Nat) (s : State) : State :=
  match (s.lsc m).win with
  | some e => if e < s.Tn || (s.lsc m).loose then lsShow m (s.modLs m fun c => { c with win := none }) else s
  | none => s

/-- A thermal shutdown at the clock `t`: the junction reaches 170 °C anew, whatever latch already holds the channel. -/
def lsThOffs (m t : Nat) (s : State) : State :=
  if !(s.lsc m).maxed then
    let s := s.modLs m fun c => { c with maxed := true }
    let s := lsCause m 2 t 0 (lsOff m t (recNote 0xC m t [2#32] s))
    if s.flag LS_CFG_TH_MODE m then lsShow m (lsCause m 3 t 0 (s.setFlag LS_STAT_TH_LATCH m true))
    else lsShow m (s.modLs m fun c => { c with hot := true })
  else s

/-- TH_OFF: the junction reaches 170 °C at `t` (R267). -/
def lsThOff (m t : Nat) (tj : Word) (s : State) : State :=
  if !s.inReplay && f32.le (degC 170) tj then lsThOffs m t (s.put .LS_TJ m tj) else s

/-- A cool-down at the clock `t`, an observation of a latched channel too (R276); a HOT one restarts. -/
def lsCools (m t : Nat) (s : State) : State :=
  let c := s.lsc m
  if c.maxed then
    let s := (recNote 0xC m t [3#32] s).modLs m fun c => { c with hot := false, maxed := false }
    if c.hot then lsRestart m t (some 4) s else s
  else s

/-- LS_COOL_DOWN: the junction has cooled to 150 °C at `t` (R267). -/
def lsCool (m t : Nat) (tj : Word) (s : State) : State :=
  if !s.inReplay && f32.le tj (degC 150) then lsCools m t (s.put .LS_TJ m tj) else s

/-- The voltage of a supply group, in mV. -/
def lsVsup (g mv : Nat) (s : State) : State :=
  match g with
  | 0 => s.setFld LS_VSUP01_MV0 0 mv
  | 1 => s.setFld LS_VSUP01_MV1 0 mv
  | 2 => s.setFld LS_VSUP23_MV2 0 mv
  | _ => s.setFld LS_VSUP23_MV3 0 mv

/-- The voltage of a supply group as it reads. -/
def lsMv (s : State) (g : Nat) : Nat :=
  match g with
  | 0 => s.fld LS_VSUP01_MV0 0
  | 1 => s.fld LS_VSUP01_MV1 0
  | 2 => s.fld LS_VSUP23_MV2 0
  | _ => s.fld LS_VSUP23_MV3 0

/-- A supply group goes off at the clock `t`. -/
def lsUvOffs (g t mv : Nat) (s : State) : State :=
  if s.rbit .LS_SUP_STAT 0 g then s
  else each (lsOf g) (fun m s => lsCause m 5 t mv (lsOff m t s))
    ((recNote 0xC (24 + g) t [4#32] s).setRbit .LS_SUP_STAT 0 g true)

/-- UV_OFF: the group has stood below 5.0 V for 2 µs at `t` (R268). -/
def lsUvOff (g t mv : Nat) (s : State) : State :=
  if mv < 5000 ∧ s.inReplay = false then lsUvOffs g t mv (lsVsup g mv s) else s

/-- A supply group comes back at the clock `t`. -/
def lsUvBacks (g t : Nat) (s : State) : State :=
  if s.rbit .LS_SUP_STAT 0 g then
    each (lsOf g) (fun m s => lsRestart m t (some 6) s) ((recNote 0xC (24 + g) t [5#32] s).setRbit .LS_SUP_STAT 0 g false)
  else s

/-- UV_RESTART: the group reaches 5.5 V at `t` (R268). -/
def lsUvBack (g t mv : Nat) (s : State) : State :=
  if 5500 ≤ mv ∧ s.inReplay = false then lsUvBacks g t (lsVsup g mv s) else s

/-! ### Writes (R263, R266, R267, R278) -/

def lsCfgStore (m : Nat) (v : Word) (s : State) : State :=
  let k := s.tick + 3
  (s.put .LS_CFG m v).modLs m fun c => { c with due := c.due ++ [(k, bitsOf v 2 0)] }

/-- THCLR is refused while the junction is above 150 °C (R267). -/
def lsThclrErr (s : State) (m : Nat) : Bool := f32.lt (degC 150) (s.get .LS_TJ m)

/-- A store into LS_CTRL at the clock `t`: clearing the last latch restarts a commanded channel (R266, R270). -/
def lsCtrlStore (m t : Nat) (v : Word) (s : State) : State :=
  let was := s.lsLatched m
  let s := when (bitAt v 0) (setFlag · LS_STAT_OC_LATCH m false) s
  let s := when (bitAt v 1) (setFlag · LS_STAT_TH_LATCH m false) s
  let s := when (bitAt v 2) (put · .LS_CNT m 0#32) s
  when (was && !s.lsLatched m) (lsRestart m t none) s

def lsGctrlStore (v : Word) (s : State) : State :=
  let s := when (bitAt v 1) (setFlag · LS_DIE_COLD 0 false) s
  when (bitAt v 0) (setFlag · LS_DIE_HB_LOST 0 false) s

/-! ### Sense values (R271, R272) -/

/-- A nonnegative single times `p / q`, rounded down. -/
def floorMul (w : Word) (p q : Nat) : Nat :=
  let v := f32.un w
  if v.neg then 0
  else if 0 ≤ v.exp then v.man * p * 2 ^ v.exp.toNat / q else v.man * p / (q * 2 ^ (-v.exp).toNat)

/-- LS_I of a channel: 16 mA or 6 mA per LSB. -/
def lsSenseI (s : State) (m : Nat) : Nat :=
  if s.lsFault m then 0xFFF
  else min 0xFFE (if m < 8 then floorMul (s.lsc m).cur 125 2 else floorMul (s.lsc m).cur 500 3)

/-- The averages of the tick (channel, current in A, junction in °C) and the supplies (group, mV). -/
def lsMeasure (l : List (Nat × Word × Word)) (v : List (Nat × Nat)) (s : State) : State :=
  if s.lsDown then s else
  let s := each l (fun e s => (s.put .LS_TJ e.1 e.2.2).modLs e.1 fun c => { c with cur := e.2.1 }) s
  each v (fun e s => lsVsup e.1 e.2 s) s

/-- The end of a tick: LS_I, LS_ITOT and the SENSE pins as the channels stand then (R271). -/
def lsSense (s : State) : State :=
  let s := each (List.range 24) (fun m s => s.setFld LS_I_I m (s.lsSenseI m)) s
  lsPins (s.put .LS_ITOT 0 (f32.sum ((List.range 24).map fun m => (s.lsc m).cur)))

/-! ### Cold start and resets (R274, R275, R277) -/

def lsChanRegs : List Reg := [.LS_CFG, .LS_INR, .LS_CTRL, .LS_STAT, .LS_EVT, .LS_EVT_MASK, .LS_I, .LS_TJ, .LS_CNT,
  .LS_TLAST_LO, .LS_TLAST_HI]
def lsGlobRegs : List Reg := [.LS_PIN, .LS_SUP_STAT, .LS_DIE, .LS_VSUP01, .LS_VSUP23, .LS_ITOT]

/-- Whether a key is of a register of pages 0x3C to 0x3E. -/
def lsPaged (k : Nat) : Bool :=
  let p := regPage (Reg.ofKey k).1 (Reg.ofKey k).2
  decide (0x3C ≤ p) && decide (p ≤ 0x3E)

/-- Every register of pages 0x3C to 0x3E returns to its reset value, the copies of SN registers, the header and the
commands LS_CMD among them (R275). -/
def lsRegsReset (s : State) : State :=
  let s : State := { s with regs := s.regs.filter fun e => !lsPaged e.1, held := s.held.filter fun e => !lsPaged e.1 }
  let s := each (s.img.filter fun e => lsPaged e.1) (fun e s => let r := Reg.ofKey e.1; s.put r.1 r.2 (s.resetVal r.1 r.2)) s
  (s.put .LN_CMD 4 (putBits (s.get .LN_CMD 4) 31 24 0)).put .LN_CMD 5 (putBits (s.get .LN_CMD 5) 15 0 0)

/-- LS_RETENTION_LOSS: the die loses its logic, latches and outputs. -/
def lsLoss (s : State) : State := lsPins { lsRegsReset s with lss := [], lsDown := true, lsHold := none }

/-- DIE_COLD: the die starts cold (R275). -/
def lsCold (t : Nat) (s : State) : State :=
  let s : State := { lsRegsReset s with lss := [], lsDown := false, lsHold := none }
  lsPins (each (List.range 24) (fun m s => lsCause m 7 t 0 s) (s.setFlag LS_DIE_COLD 0 true))

/-- HB_LOST: the die holds its commands and times pauses and windows on its own oscillator (R273). -/
def switchesLost (s : State) : State :=
  each (List.range 24) (modLs · fun c => { c with loose := true, offOsc := true })
    { s.setFlag LS_DIE_HB_LOST 0 true with lsOsc := true }

/-- The times of a channel on a clock whose zero stands `d` clocks later. -/
def lsShift (d : Int) (l : Ls) : Ls :=
  { l with offT := l.offT.map (· - d), win := l.win.map fun t => (t - d).toNat
           pause := l.pause.map fun k => (k - d / 2000).toNat, due := l.due.map fun e => (((e.1 : Int) - d / 2000).toNat, e.2) }

/-- A pin or power-on reset in the die: its timers run on by its own oscillator, and a setting on its way arrives (R263,
R274, log 131). -/
def lsThrough (d : Int) (s : State) : State :=
  let s := each (List.range 24) (fun m s => lsSettle m (s.tick + 4) s) s
  { s with lss := s.lss.map fun e => (e.1, { lsShift d e.2 with loose := true, offOsc := true }), lsOsc := true }

/-- The registers that R274 names among those every reset of the main die and the domain reset return to reset values. -/
def lsResetRegs : List Reg := [.LS_CNT, .LS_TLAST_LO, .LS_TLAST_HI, .LS_EVT, .LS_EVT_MASK]

/-- What every reset of the main die and the domain reset return to reset values (R274), with the copies that snapshots
took of it; of the header EVT_PEND and EVT_RAW (R47, log 98). -/
def lsDomainReset (s : State) : State :=
  let gone (k : Nat) : Bool := lsPaged k && (Reg.EVT_PEND :: Reg.EVT_RAW :: lsResetRegs).contains (Reg.ofKey k).1
  let s : State := { s with regs := s.regs.filter fun e => !gone e.1, held := s.held.filter fun e => !gone e.1 }
  lsPins <| each (List.range 4) (fun n s => s.put .LS_SENSE_CFG n (s.resetVal .LS_SENSE_CFG n)) s

/-- The registers of the die, by their keys. -/
def lsRegs (s : State) : SMap Word :=
  s.regs.filter fun e => (lsChanRegs ++ lsGlobRegs).contains (Reg.ofKey e.1).1

/-- Replay begins: the physical state of the die is kept aside (R277, R448). -/
def lsReplayStart (s : State) : State := { s with lsHold := some { ls := s.lss, regs := s.lsRegs } }

/-- Replay ends: the channels are where they physically are. -/
def lsReplayEnd (s : State) : State :=
  match s.lsHold with
  | some h =>
    let s := each (lsRegs s) (fun e s => let p := Reg.ofKey e.1; s.put p.1 p.2 (p.1.resetAt p.2)) s
    let s := each h.regs (fun e s => let p := Reg.ofKey e.1; s.put p.1 p.2 e.2) s
    { s with lss := h.ls, lsHold := none }
  | none => s

end State
end Sys2Proof.Machine
end

