-- ==== Sys2Proof/Machine/Sensors.lean ====
section
/-!
DEFINITION. Sys2Proof/Machine/Sensors.lean: the sensor front end (R280 to R311): precision channels with their flags,
paths and open-wire handling, the rotating spare, general channels, impedance channels and analog outputs.
-/

namespace Sys2Proof.Machine
namespace State

def pc (s : State) (n : Nat) : Pc := SMap.get {} s.pcs n
def modPc (n : Nat) (f : Pc → Pc) (s : State) : State := { s with pcs := SMap.set {} s.pcs n (f (s.pc n)) }
def gc (s : State) (n : Nat) : Gc := SMap.get {} s.gcs n
def modGc (n : Nat) (f : Gc → Gc) (s : State) : State := { s with gcs := SMap.set {} s.gcs n (f (s.gc n)) }
def zc (s : State) (z : Nat) : Zc := SMap.get {} s.zcs z
def modZc (z : Nat) (f : Zc → Zc) (s : State) : State := { s with zcs := SMap.set {} s.zcs z (f (s.zc z)) }
def ao (s : State) (a : Nat) : Ao := SMap.get {} s.aos a
def modAo (a : Nat) (f : Ao → Ao) (s : State) : State := { s with aos := SMap.set {} s.aos a (f (s.ao a)) }
def coef (s : State) (c : Nat) : PcCoef := SMap.get {} s.coefs c
def setCoef (c : Nat) (x : PcCoef) (s : State) : State := { s with coefs := SMap.set {} s.coefs c x }
def modRot (f : Rot → Rot) (s : State) : State := { s with rot := f s.rot }

/-! ### Precision channels (R280 to R292) -/

/-- The conversion period in clocks, by ODR (R282). -/
def odrPeriod (odr : Nat) : Nat :=
  25000 * [800, 400, 320, 200, 160, 100, 80, 40, 20, 16, 10, 8, 4, 2].getD odr 800

def pcPeriod (s : State) (n : Nat) : Nat := odrPeriod (s.fld PC_CFG_ODR n)

/-- The setting of IEXC in µA (R286); 0b111 is reserved. -/
def iexcSetting (i : Nat) : Option Nat := ([10, 50, 100, 250, 500, 750, 1000] : List Nat)[i]?

/-- Stage 1 of the filter: the sum of a half chop period without its first 16 modulator samples (R281). -/
def chopSum (l : List Int) : Int := (l.drop 16).foldl (· + ·) 0

/-- Both stages: the mean of the chopped samples of a period, each the average of 109 modulator samples of one half less
that of the other, as a fraction (R281). DEDUCED (log 132): nothing is rounded before the code. -/
def pcMean (l : List Chop) : DWord :=
  f64.ofRat (l.foldl (fun a c => a + (chopSum c.first - chopSum c.second)) 0) (109 * max 1 l.length)

/-- The calibrated code of path H, and of path L scaled to the LSB of H, by the coefficients of the converter that
serves the channel (R283, R285, R295). DEDUCED (log 132): in binary64, rounded to nearest. -/
def pcCodeH (s : State) (n : Nat) (l : List Chop) : Int :=
  let c := s.coef (s.fld PC_STAT_MOD n)
  f64.toInt (f64.div (f64.sub (pcMean l) (f64.ofSingle c.off)) (f64.ofSingle c.gainH)) 0

def pcCodeL (s : State) (n : Nat) (l : List Chop) : Int :=
  let c := s.coef (s.fld PC_STAT_MOD n)
  f64.toInt (f64.div (f64.sub (pcMean l) (f64.ofSingle c.offL)) (f64.mul (f64.ofSingle c.gainH) (f64.ofSingle c.gainL))) 0

/-- A coefficient moves towards an estimate with weight 2^-8 (R285). -/
def crossStep (old est : Word) : Word := f32.add old (f32.mul (f32.ofScaled 1 8) (f32.sub est old))

/-- The cross-calibration of path L after a conversion in dual mode with both codes within 7/8 FS_H (R285). DESIGN CHOICE
(log 133): the estimates are free values of the two codes. -/
def pcCross (n : Nat) (h l : Int) (ov : Bool) (s : State) : State :=
  if s.fld PC_CFG_PATH n = 0 ∧ ov = false ∧ 8 * h.natAbs ≤ 7 * 2 ^ 23 ∧ 8 * l.natAbs ≤ 7 * 2 ^ 23 then
    let m := s.fld PC_STAT_MOD n
    let c := s.coef m
    s.setCoef m { c with gainL := crossStep c.gainL (Config.crossGain h l), offL := crossStep c.offL (Config.crossOffset h l) }
  else s

/-- A cause of a precision channel; OPEN and TEST_FAIL have a record, with the converter serving (R310, R311). -/
def pcCause (n b t : Nat) (s : State) : State :=
  let s := cause .PC_EVT .PC_EVT_MASK n b (160 + n / 4) s
  if b = 0 ∨ b = 6 then log38 n b (160 + n / 4) t [BitVec.ofNat 32 (s.fld PC_STAT_MOD n)] s else s

/-- The limits of R300: the first valid result beyond a limit sets its cause, again only after one within both. -/
def limitTest (v lo hi : Word) (outLo outHi : Bool) : Bool × Bool × Bool × Bool :=
  let below := f32.lt v lo
  let above := f32.lt hi v
  if !below && !above then (false, false, false, false)
  else (outLo || below, outHi || above, below && !outLo, above && !outHi)

/-- The currents in use: Ī in µA and the mismatch in ppm (R288, R310). -/
def pcIbar (s : State) (n : Nat) : Word :=
  let p := s.pc n
  if s.flag PC_CFG_SWAP n then f32.div (f32.add p.ia p.ib) (f32.ofInt 2) else p.ia

def pcShowI (n : Nat) (s : State) : State :=
  let i := s.pcIbar n
  (s.put .PC_IEXC n i).put .PC_IMATCH n
    (if f32.isZero i then 0#32
     else f32.mul (f32.div (f32.sub (s.pc n).ia (s.pc n).ib) i) (f32.ofInt 1000000))

/-- The input-referred voltage of a code as a fraction: V = PC_RAW × 2.5 V ÷ (G × 2^23) (R283). -/
def pcVolt (s : State) (n : Nat) (raw : Int) : Word := f32.ofScaled (5 * raw) (24 + s.fld PC_CFG_GAIN n)

/-- V ÷ Ī + PC_ROFS in Ω, in binary64 (R288, R289). -/
def pcOhm (s : State) (n : Nat) (raw : Int) (ibar : Word) : DWord :=
  f64.add (f64.div (f64.ofRat (2500000 * raw) (2 ^ (23 + s.fld PC_CFG_GAIN n))) (f64.ofSingle ibar))
    (f64.ofSingle (s.get .PC_ROFS n))

def rtdA : DWord := f64.ofRat 39083 (10 ^ 7)
def rtdB : DWord := f64.ofRat (-5775) (10 ^ 10)
def rtdC : DWord := f64.ofRat (-4183) (10 ^ 15)

/-- The quadratic branch of IEC 60751 at q = R ÷ R0. -/
def rtdHigh (q : DWord) : DWord :=
  let d := f64.sub (f64.mul rtdA rtdA) (f64.mul (f64.mul (f64.ofInt 4) rtdB) (f64.sub (f64.ofInt 1) q))
  f64.div (f64.add (f64.neg rtdA) (f64.sqrt d)) (f64.mul (f64.ofInt 2) rtdB)

/-- One Newton step on q = 1 + A T + B T² + C (T − 100) T³. -/
def rtdNewton (q t : DWord) : DWord :=
  let t2 := f64.mul t t
  let t3 := f64.mul t2 t
  let f := f64.sub (f64.add (f64.add (f64.add (f64.ofInt 1) (f64.mul rtdA t)) (f64.mul rtdB t2))
    (f64.mul (f64.mul rtdC (f64.sub t (f64.ofInt 100))) t3)) q
  let d := f64.add (f64.add rtdA (f64.mul (f64.mul (f64.ofInt 2) rtdB) t))
    (f64.mul rtdC (f64.sub (f64.mul (f64.ofInt 4) t3) (f64.mul (f64.ofInt 300) t2)))
  f64.sub t (f64.div f d)

def iterate {α : Type} (f : α → α) : Nat → α → α
  | 0, a => a
  | k + 1, a => iterate f k (f a)

/-- Temperature of a resistance, and whether it lies outside −200 °C to +850 °C (R289). DESIGN CHOICE (log 40): eight
Newton steps. -/
def rtdTemp (q : DWord) : Word × Bool :=
  if f64.lt q (f64.ofRat 1852008 (10 ^ 7)) then (f32.ofInt (-200), true)
  else if f64.lt (f64.ofRat 390481125 (10 ^ 8)) q then (f32.ofInt 850, true)
  else if f64.lt q (f64.ofInt 1) then (f64.toSingle (iterate (rtdNewton q) 8 (rtdHigh q)), false)
  else (f64.toSingle (rtdHigh q), false)

/-- PC_VAL of a code, and whether the RTD range is left (R288, R289). -/
def pcValue (s : State) (n : Nat) (raw : Int) (ibar : Word) : Word × Bool :=
  match s.fld PC_CFG_MEAS n with
  | 0 => (s.pcVolt n raw, false)
  | 2 =>
    rtdTemp (f64.div (s.pcOhm n raw ibar) (f64.ofInt (if s.flag PC_CFG_RTD1K n then 1000 else 100)))
  | _ =>
    let v := f32.ofRat (2500000 * raw) (2 ^ (23 + s.fld PC_CFG_GAIN n))
    (f32.add (f32.div v ibar) (s.get .PC_ROFS n), false)

/-- A result of a precision channel becomes its registers, causes and limits: from its code, flags and Ī (R283, R300,
R306, R307). `live` tells a conversion from a replay record. -/
def pcResult (n t : Nat) (raw : Int) (flags : Nat) (ibar : Word) (live : Bool) (s : State) : State :=
  let disc := flags / 2 % 2 == 1
  let was := s.fld PC_FLAGS_FLAGS n % 2 == 1
  let v := if disc then (s.get .PC_VAL n, false) else s.pcValue n raw ibar
  let flags := if v.2 && flags / 4 % 2 == 0 then flags + 4 else flags
  let opn := flags % 2 == 1
  let s := (s.put .PC_RAW n (if disc then 0#32 else intw raw)).put .PC_VAL n v.1
  let s := recNote 8 n t [s.get .PC_RAW n, BitVec.ofNat 32 flags, ibar] s
  let s := ((s.setFld PC_FLAGS_FLAGS n flags).incMod PC_FLAGS_SEQ n).put64 .PC_TIME_LO .PC_TIME_HI n t
  let s := (s.incMod PC_CNT_RESULTS n).setFld PC_STAT_PATH_NOW n (flags / 64)
  let s := when opn (incSat · PC_CNT_OPEN n) s
  let s := when (opn && !was && !live) (pcCause n 0 t) s
  let s := when (was && !opn) (pcCause n 1 t) s
  let s := when (flags / 4 % 2 == 1) (pcCause n 2 t) s
  let s := when (flags / 8 % 2 == 1) (pcCause n 3 t) s
  if flags % 8 = 0 ∧ flags / 16 % 2 = 0 then
    let p := s.pc n
    let l := limitTest v.1 (s.get .PC_LIM_LO n) (s.get .PC_LIM_HI n) p.limLo p.limHi
    let s := s.modPc n fun p => { p with valid := some (v.1, t), limLo := l.1, limHi := l.2.1 }
    when l.2.2.2 (pcCause n 5 t) (when l.2.2.1 (pcCause n 4 t) s)
  else s

/-- The path of the result and of the next one (R284): code, flags RANGE_SW, SETTLING and OVR, and the channel after. -/
def pcPath (mode : Nat) (p : Pc) (h l : Int) (ovH ovL : Bool) : Int × Nat × Pc :=
  let fs : Int := 2 ^ 23
  let hOk := decide (8 * h.natAbs ≤ 7 * fs.natAbs) && !ovH
  let ovr := if decide (16 * fs.natAbs < l.natAbs) || ovL then 4 else 0
  let inL := if p.pathL && decide (4 * l.natAbs ≤ 3 * fs.natAbs) then p.inL + 1 else 0
  let settle := if p.settle = 0 then 0 else 16
  let rsw := if p.settle = 1 ∧ p.sw then 8 else 0
  let p1 := { p with settle := p.settle - 1, sw := p.sw && decide (1 < p.settle), inL := inL }
  match mode with
  | 0 =>
    let toL := !hOk || (p.pathL && !decide (2 ≤ inL))
    (if toL then l else h, ovr + settle + (if toL = p.pathL then 0 else 8) + (if toL then 64 else 0), { p1 with pathL := toL })
  | 1 =>
    let turn := if p.pathL then decide (2 ≤ inL) else !hOk
    let p1 := if turn then { p1 with pathL := !p.pathL, settle := 3, sw := true, inL := 0 } else p1
    (if p.pathL then l else h, (if p.pathL then ovr else 0) + settle + rsw + (if p.pathL then 64 else 0), p1)
  | 2 => (h, (if decide (fs.natAbs < h.natAbs) || ovH then 4 else 0) + settle, { p1 with pathL := false })
  | _ => (l, ovr + settle + 64, { p1 with pathL := true })

/-- The chopped samples of a period: N = 8000 ÷ ODR of them, each of two halves of 125 modulator samples (R281). -/
def chopsFit (s : State) (n : Nat) (l : List Chop) : Bool :=
  l.length == s.pcPeriod n / 25000 && l.all fun c => c.first.length == 125 && c.second.length == 125

/-- The loops that convert hold what a period gives: both in dual mode, the one in use in single mode (R281, R284). -/
def pcFit (s : State) (n : Nat) (xh xl : List Chop) : Bool :=
  match s.fld PC_CFG_PATH n with
  | 0 => s.chopsFit n xh && s.chopsFit n xl
  | 1 => s.chopsFit n (if (s.pc n).pathL then xl else xh)
  | 2 => s.chopsFit n xh
  | _ => s.chopsFit n xl

/-- PC_CONVERSION_END: the conversion period of channel `n` that ends at T_k, with what the modulators of its paths gave
and whether each overloaded (R281 to R292). -/
def pcConversion (n : Nat) (xh xl : List Chop) (ovH ovL : Bool) (s : State) : State :=
  let per := s.pcPeriod n
  let p := s.pc n
  let h := s.pcCodeH n xh
  let l := s.pcCodeL n xl
  if s.flag PC_CFG_EN n && !s.flag PC_ROT_STAT_INIT 0 && s.T % per == 0 && decide (p.start + per ≤ s.T) &&
      p.last != some s.T && !s.inReplay && s.pcFit n xh xl then
    let r := pcPath (s.fld PC_CFG_PATH n) p h l ovH ovL
    let p1 := r.2.2
    let open' := s.flag PC_STAT_OPEN_NOW n
    let good := !(p.tripped || open')
    let want := if good then p.want - 1 else 2
    let opn := !good || decide (1 < p.want)
    let code := if s.flag PC_CFG_SWAP n then
        match p.prev with
        | some q => if good then divRNE (q + r.1) 2 else r.1
        | none => r.1
      else r.1
    let flags := r.2.1 + (if opn then 1 else 0) + (if p.disc then 2 else 0) + (if p.cal then 32 else 0)
    -- New coefficients take effect with this result (R295).
    let p1 := match p.fresh with
      | some (a, b) => { p1 with ia := a, ib := b, fresh := none }
      | none => p1
    let p1 := { p1 with takeT := p.freshT.or p.takeT, freshT := none }
    let t := s.T
    let s := (pcCross n h l (ovH || ovL) s).modPc n fun _ => { p1 with
      last := some t, prev := if good then some r.1 else none, want := want, tripped := open', disc := false, cal := false }
    pcResult n t code flags (s.pcIbar n) true (pcShowI n s)
  else s

/-- Seconds since the last takeover, saturating (R310). -/
def pcAge (s : State) (n : Nat) : Word :=
  match (s.pc n).takeT with
  | some t => BitVec.ofNat 32 (min ((s.T - t) / 200000000) 0xFFFF)
  | none => 0xFFFF#32

/-- A conversion is in progress at the clock `t`: the first period of the channel has begun. -/
def pcRuns (s : State) (n t : Nat) : Bool :=
  s.flag PC_CFG_EN n && !s.flag PC_ROT_STAT_INIT 0 && decide ((s.pc n).start ≤ t)

/-- A source is in use: B only with SWAP (R287). -/
def pcInUse (s : State) (n : Nat) : Source → Bool
  | .a => true
  | .b => s.flag PC_CFG_SWAP n

def pcTripped (s : State) (n : Nat) : Source → Bool
  | .a => (s.pc n).tripA
  | .b => (s.pc n).tripB

/-- A comparator moves; OPEN_NOW shows whether one is tripped (R290). -/
def pcCompare (n : Nat) (src : Source) (on : Bool) (s : State) : State :=
  let s := s.modPc n fun p => match src with
    | .a => { p with tripA := on }
    | .b => { p with tripB := on }
  s.setFlag PC_STAT_OPEN_NOW n ((s.pc n).tripA || (s.pc n).tripB)

/-- OPEN_WIRE_TRIP at the clock `t`: the conversion in progress, if there is one, is discarded (R290). -/
def pcTrip (n : Nat) (src : Source) (t : Nat) (s : State) : State :=
  if s.flag PC_CFG_EN n && s.fld PC_CFG_MEAS n != 0 && s.pcInUse n src && !s.pcTripped n src then
    let runs := s.pcRuns n t
    let s := (pcCompare n src true s).modPc n fun p =>
      { p with tripped := p.tripped || runs, disc := p.disc || runs, want := if runs then 2 else p.want }
    pcCause n 0 t s
  else s

/-- OPEN_WIRE_RELEASE: the comparator was tripped in the period in progress (R290, R291). -/
def pcRelease (n : Nat) (src : Source) (s : State) : State :=
  let hit := s.flag PC_STAT_OPEN_NOW n && s.pcRuns n s.T
  (pcCompare n src false s).modPc n fun p => { p with tripped := p.tripped || hit }

/-! ### Enable (R310) -/

/-- The refusal code of an enabling write of PC_CFG. -/
def pcReject (v : Word) : Nat :=
  let meas := bitsOf v 15 14
  let wire := bitsOf v 18 17
  if 14 ≤ bitsOf v 31 28 then 1
  else if (meas = 0 ∧ wire ≠ 0) ∨ ((meas = 1 ∨ meas = 2) ∧ wire = 0) then 2
  else if meas = 3 ∨ bitsOf v 27 25 = 7 then 3 else 0

/-- A store into PC_CFG. Currents never measured at the new setting of IEXC are free values (log 41). -/
def pcCfgStore (n : Nat) (v : Word) (s : State) : State :=
  let was := s.flag PC_CFG_EN n
  if bitAt v 0 && !was then
    let r := pcReject v
    if r = 0 then
      let per := odrPeriod (bitsOf v 31 28)
      let s := (s.put .PC_CFG n v).setFld PC_STAT_REJ n 0
      let t := s.Tn
      let s := s.modPc n fun p => { p with
        start := (t + per - 1) / per * per, prev := none, pathL := false, inL := 0, settle := 1, sw := false,
        tripped := false, disc := false, want := 0, cal := false }
      let i := bitsOf v 27 25
      let s := if (s.pc n).iset = i then s else
        let a := s.freeVal
        let b := a.2.freeVal
        b.2.modPc n fun p => { p with iset := i, ia := a.1, ib := b.1, fresh := none }
      pcShowI n s
    else (s.put .PC_CFG n (putBit v 0 false)).setFld PC_STAT_REJ n r
  else s.put .PC_CFG n v

/-! ### The rotating spare (R293 to R297) -/

def rotShow (s : State) : State := s.setFld PC_ROT_STAT_QDEPTH 0 s.rot.queue.length

/-- The spare takes over channel `n`: converters are exchanged. -/
def rotExchange (n : Nat) (s : State) : State :=
  let old := s.fld PC_STAT_MOD n
  let s := s.setFld PC_STAT_MOD n (s.fld PC_ROT_STAT_SPARE 0)
  let t := s.T
  s.modRot fun r => { r with taken := true, takenT := t, retired := old }

/-- A slot of its own calibrates converter 32, the spare, where a domain reset found it failed (R309; DESIGN CHOICE, log
155). -/
def rotSpareSlot (s : State) : State :=
  let t := s.T
  s.modRot fun r => { r with taken := true, takenT := t, retired := 32 }

/-- CAL_SLOT_START: at each multiple of 2 s a slot ends and, while the rotation runs, the next starts (R293, R294). -/
def rotSlotStart (s : State) : State :=
  if s.T % 400000000 = 0 ∧ !s.flag PC_ROT_STAT_INIT 0 ∧ !(s.rot.slot.isSome && s.rot.start == s.T) then
    let s := when (s.rot.slot == some 32 && !s.rot.taken) (raise 181) s
    let t := s.T
    if s.flag PC_ROT_ROT_EN 0 && !s.flag PC_ROT_STAT_HALT 0 then
      let r := s.rot
      let pick : Nat × Bool × Nat × List (Nat × Bool) := match r.queue with
        | (n, test) :: q => (n, test, r.next, q)
        | [] => (r.next, false, (r.next + 1) % 33, [])
      let n := pick.1
      let s := s.modRot fun _ =>
        { slot := some n, start := t, taken := false, retired := 0, test := pick.2.1, next := pick.2.2.1, queue := pick.2.2.2 }
      let s := rotShow (s.setFld PC_ROT_STAT_SLOT 0 n)
      if n = 32 then when (!r.queue.isEmpty) rotSpareSlot s
      else
        let s := s.setFlag PC_STAT_QUEUED n (pick.2.2.2.any fun q => q.1 == n)
        when (!s.flag PC_CFG_EN n) (rotExchange n) s
    else s.modRot fun r => { r with slot := none }
  else s

/-- CAL_TAKEOVER: at the channel's first period end at or after one period from the slot start (R295). -/
def rotTakeover (s : State) : State :=
  match s.rot.slot with
  | some n =>
    let per := s.pcPeriod n
    if n < 32 ∧ !s.rot.taken ∧ (!s.flag PC_CFG_EN n ∨ (s.T % per = 0 ∧ s.rot.start + per ≤ s.T)) then
      (rotExchange n s).modPc n fun p => { p with cal := true }
    else s
  | none => s

/-- Whether a measured value lies within `p / q` of its nominal one, `lim` being that distance. -/
def nearBy (x nom lim : DWord) : Bool := f64.le (f64.abs (f64.sub x nom)) lim

/-- The limits of R475 on a converter's coefficients, and on a source measured at a setting of IEXC; at the reserved
setting there is none to hold it to. -/
def coefOk (c : PcCoef) : Bool :=
  nearBy (f64.ofSingle c.off) f64.zero (f64.ofRat (5 * 2 ^ 23) 10000) &&
  nearBy (f64.ofSingle c.gainH) (f64.ofInt 1) (f64.ofRat 3 1000) &&
  nearBy (f64.mul (f64.ofInt 16) (f64.ofSingle c.gainL)) (f64.ofInt 1) (f64.ofRat 3 1000)

def sourceOk (iexc : Nat) (i : Word) : Bool :=
  match iexcSetting iexc with
  | some u => nearBy (f64.ofSingle i) (f64.ofInt u) (f64.ofRat u 100)
  | none => true

/-- CAL_DONE: at 1.9 s the coefficients of the retired converter are checked (R295, R296, R475). `ia` and `ib` are the
measured currents, `dev` the deviation of the reference in ppm. -/
def rotDone (ia ib dev : Word) (c : PcCoef) (testOk : Bool) (s : State) : State :=
  let r := s.rot
  let t := s.T
  match r.slot with
  | some n =>
    if r.start + 380000000 ≤ t ∧ t < r.start + 380002000 then
      if n = 32 ∧ !r.taken then
        when (f32.lt (f32.ofInt 100) (f32.abs dev)) (raiseLog 182 0 noCause t [dev]) (s.put .PC_REF 0 dev)
      else if !r.taken then s
      else
        let i := s.fld PC_CFG_IEXC n
        let chan := decide (n < 32)
        let s := when r.test (fun s =>
          let s := s.setFld PC_STAT_TEST n (if testOk then 1 else 2)
          when (!testOk) (pcCause n 6 t) s) s
        if coefOk c && (!chan || sourceOk i ia && sourceOk i ib) then
          let s := (s.setFld PC_ROT_STAT_SPARE 0 r.retired).setCoef r.retired c
          when chan (fun s => pcCause n 7 t (s.modPc n fun p =>
            { p with fresh := some (ia, ib), freshT := some r.takenT, iset := i })) s
        else
        let s := (s.setFlag PC_ROT_STAT_HALT 0 true).setFld PC_ROT_STAT_FAILMOD 0 r.retired
        let s := raiseLog 180 n noCause t [BitVec.ofNat 32 (if chan then s.fld PC_STAT_MOD n else 32)] s
        s.modRot fun r => { r with slot := none }
    else s
  | none => s

/-- PC_CTRL.CALREQ or TESTREQ (R294). -/
def rotRequest (n : Nat) (test : Bool) (s : State) : State :=
  let r := s.rot
  if r.slot = some n ∧ !r.taken then s.modRot fun r => { r with test := r.test || test }
  else if r.queue.any fun q => q.1 == n then
    s.modRot fun r => { r with queue := r.queue.map fun q => if q.1 = n then (n, q.2 || test) else q }
  else rotShow ((s.modRot fun r => { r with queue := r.queue ++ [(n, test)] }).setFlag PC_STAT_QUEUED n true)

def pcCtrlStore (n : Nat) (v : Word) (s : State) : State :=
  let s := when (bitAt v 0) (rotRequest n false) s
  let s := when (bitAt v 1) (rotRequest n true) s
  when (bitAt v 2) (put · .PC_CNT n 0#32) s

/-- INIT_CAL_END: the initial calibration ends; `cur` gives the coefficients of each converter and the measured currents
of each channel in µA (R297). -/
def initCalEnd (cur : List CalIn) (s : State) : State :=
  if s.flag PC_ROT_STAT_INIT 0 then
    let t := s.T
    let s := s.setFlag PC_ROT_STAT_INIT 0 false
    let s := s.modRot fun r => { r with slot := none, next := 0 }
    let s := each (List.range 33) (fun c s => s.setCoef c (cur.getD c {}).coef) s
    each (List.range 32) (fun n s =>
      let c := cur.getD n {}
      let per := s.pcPeriod n
      pcShowI n (s.modPc n fun p => { p with ia := c.ia, ib := c.ib, iset := s.fld PC_CFG_IEXC n,
                                             start := (t + per - 1) / per * per })) s
  else s

/-! ### General channels (R298 to R300) -/

def gcCause (n b t : Nat) (s : State) : State :=
  let s := cause .GC_EVT .GC_EVT_MASK n b (168 + n / 8) s
  if b = 1 then log38 n b (168 + n / 8) t [BitVec.ofNat 32 (n / 8)] s else s

/-- The physical value of a code (R298). DEDUCED (log 42): the LSB is the span over 65 536. -/
def gcPhysical (range : Nat) (code : Int) : Word :=
  match range with
  | 0 => f32.ofRat (25 * code) 131072
  | 1 => f32.ofRat (25 * code) 65536
  | 2 => f32.ofRat (25 * code) 65536
  | _ => f32.ofRat (5 * code) 262144

/-- A result of a general channel: its averaged code and its flags (bit 0 OVR, bit 1 SHUNT_OFF, bit 2 SETTLING). A
replay knows of a disconnected shunt by the first result that shows it, and raises the cause there (R307). -/
def gcValue (n t : Nat) (code : Int) (flags : Nat) (s : State) : State :=
  let s := when (flags / 2 % 2 == 1 && !s.flag GC_STAT_SHUNT_OFF n) (gcCause n 1 t) s
  let v := f32.mac (gcPhysical (s.fld GC_CFG_RANGE n) code) (s.get .GC_GAIN n) (s.get .GC_OFS n)
  let s := (s.put .GC_RAW n (BitVec.ofNat 32 (flags % 8 * 65536 + unsig 16 code))).put .GC_VAL n v
  let s := recNote 9 n t [s.get .GC_RAW n] s
  let s := (s.put64 .GC_TIME_LO .GC_TIME_HI n t).setFlag GC_STAT_OVR n (flags % 2 == 1)
  let s := s.setFlag GC_STAT_SHUNT_OFF n (flags / 2 % 2 == 1)
  let s := when (flags % 2 == 1) (gcCause n 0 t) s
  if flags % 8 = 0 then
    let g := s.gc n
    let l := limitTest v (s.get .GC_LIM_LO n) (s.get .GC_LIM_HI n) g.limLo g.limHi
    let s := s.modGc n fun g => { g with valid := some (v, t), limLo := l.1, limHi := l.2.1 }
    when l.2.2.2 (gcCause n 3 t) (when l.2.2.1 (gcCause n 2 t) s)
  else s

/-- An end of the code range that marks an input beyond the range (R299). -/
def gcEnd (range : Nat) (c : Int) : Bool :=
  if range = 1 then decide (c = -32768) || decide (c = 32767) else decide (c = 65535)

/-- The code of a sample: on the ratiometric range its input divided by the VS5 that VSREF selects, in 65 536 steps of
1.25 × VS5; with a VS5 of 0 a free value (R298; DESIGN CHOICE, log 134). -/
def gcCode (s : State) (n : Nat) (x : GcSample) : Int :=
  if s.fld GC_CFG_RANGE n = 3 then
    let v := x.vs5.getD (s.fld GC_CFG_VSREF n) 0
    clampI 0 65535 (if v = 0 then Config.noSupply x.x else divRNE (x.x * 262144) (5 * v))
  else x.x

/-- The clocks between the results of a channel: 2^AVG samples, one each 8 µs (R298). -/
def gcPeriod (s : State) (n : Nat) : Nat := 1600 * 2 ^ s.fld GC_CFG_AVG n

/-- The stamp of a channel's first result after an enable in effect from the clock `t`: its first sample lies on the grid
8 µs × m + c × 1 µs; DEDUCED (log 138): a conversion takes 1 µs (R298). -/
def gcFirst (s : State) (n t : Nat) : Nat :=
  let c := 200 * (n % 8)
  (t + 1599 - c) / 1600 * 1600 + c + s.gcPeriod n - 1400

/-- Whether a result of the channel ends at the clock `t`. -/
def gcDue (s : State) (n t : Nat) : Bool :=
  decide ((s.gc n).due ≤ t) && (t - (s.gc n).due) % s.gcPeriod n == 0

/-- GC_RESULT: the mean of 2^AVG samples, stamped at the end of the last (R298, R299). -/
def gcResult (n t : Nat) (samples : List GcSample) (s : State) : State :=
  if s.flag GC_CFG_EN n && samples.length == 2 ^ s.fld GC_CFG_AVG n && s.gcDue n t && !s.inReplay then
    let codes := samples.map (s.gcCode n)
    let code := divRNE (codes.foldl (· + ·) 0) codes.length
    let ovr := codes.any (gcEnd (s.fld GC_CFG_RANGE n))
    let flags := b2n ovr + 2 * s.fld GC_STAT_SHUNT_OFF n + 4 * b2n (!(s.gc n).seen)
    let next := t + s.gcPeriod n
    (gcValue n t code flags s).modGc n fun g => { g with seen := true, due := next }
  else s

/-- SHUNT_OFF: the shunt current exceeds 32 mA (R299). -/
def shuntOff (n t : Nat) (s : State) : State :=
  if s.flag GC_CFG_EN n && s.fld GC_CFG_RANGE n == 2 && !s.flag GC_STAT_SHUNT_OFF n then
    gcCause n 1 t (s.setFlag GC_STAT_SHUNT_OFF n true)
  else s

/-- SHUNT_RECONNECT: each 100 ms; a sample within range keeps the shunt connected (R299). -/
def shuntReconnect (n : Nat) (inRange : Bool) (s : State) : State :=
  if s.tick % 10000 = 0 ∧ inRange then s.setFlag GC_STAT_SHUNT_OFF n false else s

def gcCfgStore (n : Nat) (v : Word) (s : State) : State :=
  let was := s.flag GC_CFG_EN n
  let s := s.put .GC_CFG n v
  if bitAt v 0 && !was then s.modGc n fun g => { g with seen := false, due := s.gcFirst n s.Tn } else s

/-! ### Impedance channels (R301, R302) -/

/-- A cause of an impedance channel; OVR has a record (R310, R311). -/
def zcCause (z b t : Nat) (s : State) : State :=
  let s := raiseOf (172 + z) z b (s.setRbit .ZC_EVT z b true)
  if b = 0 then log38 z b (172 + z) t [BitVec.ofNat 32 z] s else s

/-- A result from a raw admittance, its frequency slot and over-range (R301, R302). -/
def zcResult (z t : Nat) (re im : Word) (slot : Nat) (ovr : Bool) (s : State) : State :=
  let s := recNote 0xA z t [re, im, BitVec.ofNat 32 (slot + 4 * b2n ovr)] s
  let k := z * 4 + slot
  let a := s.get .ZC_K_RE k
  let b := s.get .ZC_K_IM k
  let c := f32.sub re (s.get .ZC_Y0_RE k)
  let d := f32.sub im (s.get .ZC_Y0_IM k)
  let s := s.put .ZC_G z (f32.sub (f32.mul a c) (f32.mul b d))
  let s := s.put .ZC_B z (f32.add (f32.mul a d) (f32.mul b c))
  let tmp : Option Word :=
    if s.flag ZC_CFG_TEMP_EN z then
      match (s.pc (s.fld ZC_CFG_PCREF z)).valid with
      | some (v, u) => if u ≤ t ∧ t ≤ u + 400000000 then some v else none
      | none => none
    else none
  let no := s.flag ZC_CFG_TEMP_EN z && tmp.isNone
  let s := s.put .ZC_T z (tmp.getD f32.nan)
  let s := ((s.setFld ZC_STAT_SLOT z slot).setFlag ZC_STAT_NOTEMP z no).setFlag ZC_STAT_OVR z ovr
  let s := s.put64 .ZC_TIME_LO .ZC_TIME_HI z t
  when no (zcCause z 1 t) (when ovr (zcCause z 0 t) s)

/-- Whether a measurement window of channel `z` ends at T_k. -/
def zcDue (s : State) (z : Nat) : Bool :=
  s.flag ZC_CFG_EN z && !s.inReplay && decide (4000000 + (s.zc z).tEn ≤ s.T) &&
    (s.T - 4000000) % (s.fld ZC_CFG_PERIOD z * 4000000) == 0

/-- ZC_MEASUREMENT: the window that ends at T_k (R301). -/
def zcMeasure (z : Nat) (re im : Word) (ovr : Bool) (s : State) : State :=
  if s.zcDue z then
    let i := (s.zc z).idx
    let s := s.modZc z fun c => { c with idx := if s.fld ZC_CFG_NF z ≤ i then 0 else i + 1 }
    zcResult z s.T re im i ovr s
  else s

def zcCfgStore (z : Nat) (v : Word) (s : State) : State :=
  let was := s.flag ZC_CFG_EN z
  if bitAt v 0 && !was then
    -- PCREF has five bits: no value of it lies above 31.
    (s.put .ZC_CFG z v).modZc z fun _ => { idx := 0, tEn := s.Tn }
  else s.put .ZC_CFG z v

/-! ### Analog outputs (R303 to R305) -/

def aoCause (a b t : Nat) (s : State) : State :=
  let s := raiseOf (176 + a) a b (s.setRbit .AO_EVT a b true)
  if b = 0 then log38 a b (176 + a) t [BitVec.ofNat 32 a] s else s

/-- The code of a value by MODE, and whether it was limited (R303). -/
def aoCode (s : State) (a : Nat) (v : Word) : Nat × Bool :=
  let u := f32.un v
  let k : Nat := if s.flag AO_CFG_MODE a then 16384 else 8192
  let raw : Int := if u.neg then 0 else
    if 0 ≤ u.exp then divRNE ((u.man * k * 2 ^ u.exp.toNat : Nat) : Int) 3
    else divRNE ((u.man * k : Nat) : Int) (3 * 2 ^ (-u.exp).toNat)
  let hi := s.fld AO_LIM_HI a
  let lo := min (s.fld AO_LIM_LO a) hi
  let c := (clampI lo hi (clampI 0 65535 raw)).toNat
  (c, decide ((c : Int) ≠ raw))

/-- The code of a value is on its way to the converter from the tick `k` (R303). -/
def aoSend (a k : Nat) (v : Word) (s : State) : State :=
  let c := s.aoCode a v
  let s := s.setFlag AO_STAT_CLAMP a c.2
  let s := when c.2 (aoCause a 1 (2000 * k)) s
  s.modAo a fun o => { o with due := o.due ++ [(k + 2, c.1)] }

def aoDusty (s : State) (a : Nat) : Bool := s.flag AO_STAT_DUST a || (s.ao a).lpDust

/-- A value is applied to AO_VAL in the tick `k`. -/
def aoWrite (a k : Nat) (v : Word) (s : State) : State := aoSend a k v (s.put .AO_VAL a v)

/-- A code that asks a current output for 0.5 mA or more (R477). -/
def aoAsks (c : Nat) : Bool := decide (4096 ≤ 3 * c)

/-- A code stands at the converter. -/
def aoDrive (a c : Nat) (s : State) : State :=
  let t := s.T
  (s.setFld AO_CODE_CODE a c).modAo a fun o => { o with ask := if aoAsks c then some (o.ask.getD t) else none }

/-- AO_SAFE is in effect at once, for an enabled output: converted as in R303, so that one that is limited sets CLAMP
and its cause, dated at the tick (R305). -/
def aoSafeNow (a : Nat) (s : State) : State :=
  if s.flag AO_CFG_EN a then
    let c := s.aoCode a (s.get .AO_SAFE a)
    let s := (aoDrive a c.1 s).setFlag AO_STAT_CLAMP a c.2
    when c.2 (aoCause a 1 s.T) s
  else s

/-- A store of AO_SAFE, AO_LIM or an enable moves an output that stands at AO_SAFE (log 43). -/
def aoResafe (a : Nat) (s : State) : State := when (s.flag AO_STAT_DUST a) (aoSafeNow a) s

/-- The dust sheet takes effect (R305). -/
def aoDust (s : State) : State :=
  each (List.range 4) (fun a s => aoSafeNow a ((s.setFlag AO_STAT_DUST a true).modAo a fun o => { o with rel := none })) s

/-- Release applied in the tick `k`: AO_VAL returns at T_(k+2) (R305). -/
def aoRelease (k : Nat) (s : State) : State :=
  each (List.range 4) (fun a s => s.modAo a fun o => { o with rel := some (k + 2) }) s

/-- Phase 5: codes that reach their converters at T_k. -/
def aoPhase (s : State) : State :=
  each (List.range 4) (fun a s =>
    let o := s.ao a
    let free := match o.rel with | some k => decide (k ≤ s.tick) && !o.lpDust && !s.inReplay | none => false
    let s := when free (fun s =>
      ((s.setFlag AO_STAT_DUST a false).setFlag AO_STAT_CLAMP a (s.aoCode a (s.get .AO_VAL a)).2).modAo a fun o =>
        { o with rel := none }) s
    let now := (o.due.filter fun e => decide (e.1 ≤ s.tick)).getLast?
    let code := (now.map (·.2)).getD o.code
    let s := s.modAo a fun o => { o with due := o.due.filter fun e => !decide (e.1 ≤ s.tick), code := code }
    if !s.flag AO_CFG_EN a then aoDrive a 0 s
    else if !s.flag AO_STAT_DUST a && (now.isSome || free) then aoDrive a code s else s) s

/-- A loop's DUST action takes the output to AO_SAFE, and lets it go (R329). -/
def aoLoopDust (a k : Nat) (on : Bool) (s : State) : State :=
  if (s.ao a).lpDust = on then s
  else if on then aoSafeNow a ((s.setFlag AO_STAT_DUST a true).modAo a fun o => { o with lpDust := true })
  else s.modAo a fun o => { o with lpDust := false, rel := if s.flag MOD_STAT_DUST 0 then o.rel else some (k + 2) }

/-- FAULT is set with its cause, unless it stands (R304). -/
def aoFails (a t : Nat) (s : State) : State :=
  if s.flag AO_STAT_FAULT a then s else aoCause a 0 t (s.setFlag AO_STAT_FAULT a true)

/-- AO_FAULT at the clock `t`: the output has stood at its compliance or its current limit for 1 ms. In current mode it
fails to follow its code only where the code has asked for 0.5 mA or more for as long (R304, R477). -/
def aoFault (a t : Nat) (s : State) : State :=
  let asks := match (s.ao a).ask with | some u => decide (u + 200000 ≤ t) | none => false
  when (s.flag AO_CFG_EN a && (s.flag AO_CFG_MODE a || asks)) (aoFails a t) s

/-- A voltage output reads back more than 2 % of 12 V away from the value of its code (R477). -/
def aoAway (s : State) (a : Nat) (rb : Word) : Bool :=
  s.flag AO_CFG_MODE a &&
    !nearBy (f64.ofSingle rb) (f64.ofRat (3 * s.fld AO_CODE_CODE a) 16384) (f64.ofRat 24 100)

/-- AO_RB of the tick, and whether the output stands at its compliance or current limit: a voltage output that has read
back away from its code for 1 ms fails, and FAULT ends with its condition (R304, R477). -/
def aoReadback (l : List (Nat × Word × Bool)) (s : State) : State :=
  each l (fun e s =>
    let a := e.1
    let s := s.put .AO_RB a e.2.1
    let away := s.flag AO_CFG_EN a && s.aoAway a e.2.1
    let k := s.tick
    let s := s.modAo a fun o => { o with away := if away then some (o.away.getD k) else none }
    let long := match (s.ao a).away with | some j => decide (j + 100 ≤ k) | none => false
    if long then aoFails a s.T s
    else if away || s.flag AO_CFG_EN a && e.2.2 && (s.flag AO_CFG_MODE a || (s.ao a).ask.isSome) then s
    else s.setFlag AO_STAT_FAULT a false) s

def aoCfgStore (a : Nat) (v : Word) (s : State) : State :=
  let was := s.flag AO_CFG_EN a
  let s := s.put .AO_CFG a v
  if bitAt v 0 && !was then aoResafe a (aoSend a (s.tick + 1) (s.get .AO_VAL a) s) else s

/-- AO_LIM moves the code of the present value; AO_SAFE moves the output while the dust sheet holds (log 43). -/
def aoLimStore (a : Nat) (v : Word) (s : State) : State :=
  let s := s.put .AO_LIM a v
  aoResafe a (aoSend a (s.tick + 1) (s.get .AO_VAL a) s)

def aoSafeStore (a : Nat) (v : Word) (s : State) : State := aoResafe a (s.put .AO_SAFE a v)

/-! ### Reset domains (R309) -/

def pcDomainReset (s : State) : State :=
  let keep := s.pcs.map fun e => (e.1, ({ ia := e.2.ia, ib := e.2.ib, iset := e.2.iset } : Pc))
  { s with pcs := keep.filter fun e => e.2 != {}, rot := {} }

def gcDomainReset (s : State) : State := { s with gcs := [] }

def zcDomainReset (s : State) : State :=
  { s with zcs := [], aos := [], lpDustDue := s.lpDustDue.filter fun e => e.2.1 != 2 }

end State
end Sys2Proof.Machine
end

