-- ==== Sys2Proof/Machine/Control.lean ====
section
/-!
DEFINITION. Sys2Proof/Machine/Control.lean: the control engine (R312 to R337): sources, sampling, supervision of the
feedback, the loop equation, application to targets and groups, coefficient banks, generators and capture.
-/

namespace Sys2Proof.Machine
namespace State

def lp (s : State) (n : Nat) : Lp := SMap.get {} s.lps n
def modLp (n : Nat) (f : Lp → Lp) (s : State) : State := { s with lps := SMap.set {} s.lps n (f (s.lp n)) }
def grp (s : State) (g : Nat) : Grp := SMap.get {} s.grps g
def modGrp (g : Nat) (f : Grp → Grp) (s : State) : State := { s with grps := SMap.set {} s.grps g (f (s.grp g)) }
def tg (s : State) (t : Nat) : Tg := SMap.get {} s.tgs t
def modTg (t : Nat) (f : Tg → Tg) (s : State) : State := { s with tgs := SMap.set {} s.tgs t (f (s.tg t)) }

def lpEn (s : State) (n : Nat) : Bool := s.flag LP_CFG_EN n

/-- Enabled members of a group (R323). -/
def grpMembers (s : State) (g : Nat) : List Nat :=
  pick 64 fun m => s.lpEn m && s.flag LP_CFG_GRP_EN m && s.fld LP_CFG_GRP m == g

/-- The target of a group: kind and index. DESIGN CHOICE (log 156): a group whose retarget was refused, its EN reading
0, acts on none. -/
def grpTarget (s : State) (g : Nat) : Nat × Nat :=
  if s.flag LP_GCFG_EN g then (s.fld LP_GCFG_TGT_KIND g, s.fld LP_GCFG_TGT_IDX g) else (0, 0)

/-- The target that a loop acts on, its own or its group's: kind and index (R322). -/
def lpTarget (s : State) (n : Nat) : Nat × Nat :=
  if s.flag LP_CFG_GRP_EN n then s.grpTarget (s.fld LP_CFG_GRP n)
  else (s.fld LP_CFG_TGT_KIND n, s.fld LP_CFG_TGT_IDX n)

/-- A cause of a loop with the record of R337: T_k of the dispatch tick `k`, y and u. -/
def lpCause (n b k : Nat) (s : State) : State :=
  let s := cause .LP_EVT .LP_EVT_MASK n b (184 + n / 8) s
  when (b == 0 || b == 1 || b == 2 || b == 7)
    (log38 n b (184 + n / 8) s.T [loW (2000 * k), hiW (2000 * k), s.get .LP_Y n, s.get .LP_U n]) s

/-! ### Sources (R312, R313) -/

/-- Whether a source's update at tick `t` came after the loop's previous sample's reading. -/
def lpNew (prev t : Option Nat) : Bool :=
  match t, prev with
  | none, _ => false
  | some _, none => true
  | some t, some p => decide (p ≤ t)

/-- Whether a stamp falls after the loop's previous sample's reading. -/
def lpNewT (prev : Option Nat) (t : Nat) : Bool :=
  match prev with
  | none => true
  | some p => decide (2000 * p ≤ t)

/-- The latest valid result of a channel; a channel that has never had one gives a free value (log 12). -/
def lpResult (prev : Option Nat) (v : Option (Word × Nat)) (s : State) : (Word × Bool) × State :=
  match v with
  | some (w, t) => ((w, lpNewT prev t), s)
  | none => let f := s.freeVal; ((f.1, false), f.2)

/-- A source's value and whether it is fresh as feedback; `own` is the loop's own register. -/
def lpSource (code : Nat) (own : Word) (prev : Option Nat) (s : State) : (Word × Bool) × State :=
  let ix := code % 256
  let late (r : Reg) : (Word × Bool) × State :=
    let p := s.get4 r ix
    ((p.1, lpNew prev p.2), s)
  match code / 256 with
  | 1 => lpResult prev (s.pc ix).valid s
  | 2 => lpResult prev (s.gc ix).valid s
  | 3 => late .LP_U
  | 4 => ((s.axVel ix, s.axState ix == 1), s)
  | 5 =>
    let t := s.get64 .FB_EDGE_TIME_LO .FB_EDGE_TIME_HI ix
    ((s.get .FB_VEL ix, (s.fbc ix).taken && lpNewT prev t && !s.flag FB_STAT_STALE ix && !s.flag FB_STAT_FAULT ix), s)
  | 6 => late .GM_FLOW_SUM
  | 7 => late .DP_OUT
  | 8 => ((s.get .AO_RB ix, true), s)
  | _ => ((own, false), s)

/-- Whether a source code names a class and an index that exist (R312, R336). -/
def lpCodeOk (n code : Nat) (feedback : Bool) : Bool :=
  let ix := code % 256
  match code / 256 with
  | 0 => !feedback
  | 1 => decide (ix < 32)
  | 2 => decide (ix < 32)
  | 3 => decide (ix < 64) && ix != n
  | 4 => decide (ix < 32)
  | 5 => decide (ix < 24)
  | 6 => decide (ix < 4)
  | 7 => decide (ix < 16)
  | 8 => decide (ix < 4)
  | _ => false

/-! ### The ramp (R320) -/

/-- sign(a) × v, with sign(0) at 0. -/
def signTimes (a v : Word) : Word := if f32.pos a then v else if f32.isNeg a then f32.neg v else 0#32

def signOf (a : Word) : Int := if f32.pos a then 1 else if f32.isNeg a then -1 else 0

/-- Position and rate of the ramp after a sample with the interval `ts`. -/
def lpRamp (rlim alim rt ts r rd : Word) : Word × Word :=
  let d := f32.sub rt r
  let at' := f32.mul alim ts
  if f32.isZero rlim then (rt, 0#32)
  else if f32.isZero alim then
    let rd := f32.clamp (f32.neg rlim) rlim (f32.div d ts)
    (f32.add r (f32.mul rd ts), rd)
  else
    let h := f32.div at' 0x40000000#32
    let root := f32.sqrt (f32.add (f32.mul (f32.mul 0x40000000#32 alim) (f32.abs d)) (f32.mul h h))
    let vmax := f32.min (f32.min rlim (f32.div (f32.abs d) ts)) (f32.sub root h)
    let rd := f32.add rd (f32.clamp (f32.neg at') at' (f32.sub (signTimes d vmax) rd))
    let r := f32.add r (f32.mul rd ts)
    if signOf (f32.sub rt r) ≠ signOf d ∧ f32.le (f32.abs rd) at' then (rt, 0#32) else (r, rd)

/-! ### Generators (R332, R333) -/

/-- The feedback taps of the maximal-length sequence of an order, as stage numbers. -/
def prbsTaps (order : Nat) : List Nat :=
  match order with
  | 7 => [7, 6]
  | 8 => [8, 6, 5, 4]
  | 9 => [9, 5]
  | 10 => [10, 7]
  | 11 => [11, 9]
  | 12 => [12, 11, 10, 4]
  | 13 => [13, 12, 11, 8]
  | 14 => [14, 13, 12, 2]
  | _ => [15, 14]

/-- One shift: the sum of the tapped stages enters stage 1. DESIGN CHOICE (log 51): the last stage is the output. -/
def prbsStep (order x : Nat) : Nat :=
  let b := ((prbsTaps order).filter fun k => x / 2 ^ (k - 1) % 2 == 1).length % 2
  (2 * x + b) % 2 ^ order

/-- The value of a run at its present sample, and the run moved on by one sample. -/
def tgValue (s : State) (t : Nat) : Word × Tg :=
  let g := s.tg t
  let amp := s.get .TG_AMP t
  let hold := s.fld TG_CFG_HOLD t
  let n := s.fld TG_CFG_ORDER t
  let g' := { g with j := g.j + 1 }
  match s.fld TG_CFG_SHAPE t with
  | 0 =>
    (if g.lfsr / 2 ^ (n - 1) % 2 = 1 then amp else f32.neg amp,
      if (g.j + 1) % hold = 0 then { g' with lfsr := prbsStep n g.lfsr } else g')
  | 1 =>
    let v := f32.mul amp (f32.sin (f32.mul 0x40C90FDB#32 g.phi))
    let phi := f32.add g.phi g.f
    let cyc := f32.ofInt (s.fld TG_CAP_NCYC t)
    (v, if f32.le cyc phi then
          { g' with phi := f32.sub phi cyc, f := f32.min (f32.mul g.f (s.get .TG_FSTEP t)) (s.get .TG_F1 t) }
        else { g' with phi := phi })
  | 2 => (if g.j / hold % 2 = 0 then amp else f32.neg amp, g')
  | _ => (amp, g')

/-- Whether a generator drives a loop's sample in the present tick (R333). -/
def tgDrives (s : State) (t n : Nat) : Bool :=
  s.flag TG_CFG_EN t && s.fld TG_CFG_LOOP t == n &&
    (s.flag TG_STAT_RUN t || (s.flag TG_STAT_ARMED t && decide ((s.tg t).armed < s.tick)))

/-- The generators of a sample: what each gives, at which point. -/
def tgSample (n : Nat) (s : State) : List (Nat × Nat × Word) × State :=
  (pick 4 fun t => s.tgDrives t n).foldl (fun p t =>
    let s := p.2
    let v := s.tgValue t
    (p.1 ++ [(t, (s.tg t).j, v.1)],
      ((s.modTg t fun _ => v.2).setFlag TG_STAT_ARMED t false).setFlag TG_STAT_RUN t true)) ([], s)

/-- TG_START: an enabled generator is armed in the tick `k`; a running one ignores it (R333). -/
def tgStart (t k : Nat) (s : State) : State :=
  if s.flag TG_CFG_EN t && !s.flag TG_STAT_RUN t && !s.flag TG_STAT_ARMED t then
    (s.put .TG_STAT t 1#32).modTg t fun _ =>
      { armed := k, lfsr := 2 ^ s.fld TG_CFG_ORDER t - 1, f := s.get .TG_F0 t }
  else s

/-- TG_STOP: the run ends at once, without a DONE event (R333). -/
def tgStop (t : Nat) (s : State) : State := (s.setFlag TG_STAT_RUN t false).setFlag TG_STAT_ARMED t false

/-- A run ends when TG_CAP.N records are written (R333). -/
def tgEnough (t : Nat) (s : State) : State :=
  if s.flag TG_STAT_RUN t && decide (s.fld TG_CAP_N t ≤ s.fld TG_STAT_DONE_N t) then
    raise (192 + t) ((s.setFlag TG_STAT_RUN t false).setFlag TG_STAT_DONE t true)
  else s

/-- One capture record of a sample applied in the present tick (R333). -/
def captureRecord (n : Nat) (e : LpSmp) (t : Nat × Nat × Word) (s : State) : State :=
  if s.flag TG_STAT_RUN t.1 then
    let tk := 2000 * e.k
    let u := s.get .LP_U n
    let r := qOfferRaw (42 + t.1) (fun _ =>
      [BitVec.ofNat 32 (2 ^ 28 + n * 2 ^ 22 + t.1 * 2 ^ 20 + t.2.1 % 2 ^ 13), loW tk, hiW tk, t.2.2, e.r, e.y, e.v, u]) s
    if r.2 then tgEnough t.1 (incMod r.1 TG_STAT_DONE_N t.1)
    else raiseLog 196 n noCause s.T [loW tk, hiW tk, e.y, u] (qLost (42 + t.1) s.T r.1)
  else s

/-! ### Supervision (R327 to R330) -/

/-- What a sample finds: the loop's supervision after it, the causes it sets, and whether it returns from its action,
which is LP_FRESH.ACT as it stands at the sample (R329). While the release is awaited no action begins (R331). DEDUCED
(log 52): PERM_DROP is set when the permissive goes. -/
def lpWatch (s : State) (n : Nat) (y : Word) (fresh perm first : Bool) (l : Lp) : Lp × List Nat × Bool :=
  let fn := s.fld LP_FRESH_FROZ_N n
  let frun := if !first && y == l.ylb then min (l.frun + 1) 255 else 0
  let nf := if fresh then 0 else min (l.nf + 1) 255
  let cnt := decide (s.fld LP_FRESH_FRESH_TO n ≤ nf)
  let frozen := fn != 0 && decide (fn ≤ frun) && f32.lt (s.get .LP_FROZ_DU n) (f32.sum (l.dus.take fn).reverse)
  let causes := (if cnt && !l.cntLost then [0] else []) ++ (if frozen && !l.frozen then [1] else []) ++
    (if !perm && l.perm then [2] else [])
  let lost := cnt || !perm
  let good := if fresh && perm then l.good + 1 else 0
  let frzb := if frozen && !l.frozen then y else l.frzb
  let act := s.fld LP_FRESH_ACT n + 1
  let l' := { l with ylb := y, frun := frun, nf := nf, cntLost := cnt, perm := perm, frzb := frzb }
  if l.st = 0 then
    let l' := { l' with lost := lost, frozen := frozen }
    if (lost || frozen) && !l.await then
      ({ l' with st := act, good := 0, fclr := false }, causes, false)
    else (l', causes, false)
  else
    let l' := { l' with lost := l.lost || lost, frozen := l.frozen || frozen, good := good, st := act }
    if 2 ≤ good ∧ !(l'.frozen && y == frzb) ∧ (act ≠ 3 ∨ l.fclr) then
      ({ l' with st := 0, lost := false, frozen := false, fclr := false }, causes ++ [3], true)
    else (l', causes, false)

/-! ### Sampling (R314 to R318) -/

/-- The interval Ts of a sample that is not the first (R315). -/
def lpTs (s : State) (n : Nat) (prev : Nat) : Word :=
  if s.fld LP_CFG_SMODE n = 0 then f32.ofRat (s.get .LP_PERIOD n).toNat 1000000
  else f32.min f32.one (f32.ofRat ((s.tick - prev : Nat) : Int) 100000)

/-- The target's present value: the duty in BP_DUTY, AO_VAL, or 0 (R318). -/
def lpPresent (s : State) (n : Nat) : Word :=
  match s.lpTarget n with
  | (1, i) => f32.ofScaled (s.fld BP_DUTY_DUTY i) 15
  | (2, i) => s.get .AO_VAL i
  | _ => 0#32

/-- A sample taken in the present tick: steps 1 to 6 of R318, to be applied eight ticks on (R317). -/
def lpSample (n : Nat) (s : State) : State :=
  let l := s.lp n
  let first := l.first
  let ts := if first then none else l.prev.map (s.lpTs n)
  let swap := s.flag LP_STAT_BPEND n
  let s := when swap (fun s => (s.setFlag LP_STAT_BPEND n false).setFlag LP_STAT_BANK n (!s.flag LP_STAT_BANK n)) s
  let b := n * 2 + s.fld LP_STAT_BANK n
  let sp := lpSource (s.fld LP_SRC_SP_SRC n) (s.get .LP_SP n) l.prev s
  let ffs := lpSource (s.fld LP_SRC2_FF_SRC n) (s.get .LP_FF n) l.prev sp.2
  let fb := lpSource (s.fld LP_SRC_FB_SRC n) 0#32 l.prev ffs.2
  let tests := tgSample n fb.2
  let s := tests.2
  let inj (p : Nat) (w : Word) : Word :=
    (tests.1.filter fun e => s.fld TG_CFG_POINT e.1 == p).foldl (fun a e => f32.add a e.2.2) w
  let fresh := fb.1.2
  let raw := if fresh then fb.1.1 else l.yf.getD fb.1.1
  let y := f32.mul (s.get .LP_YK n) raw
  let perm := !s.flag LP_SRC2_PERM_EN n ||
    (s.fld FB_STAT_LVL (s.fld LP_SRC2_PERM_FB n) % 2 == 1) == s.flag LP_SRC2_PERM_LVL n
  let target := (s.lpTarget n).1 != 0
  let resume := l.await && s.lpReleased
  let l := { l with yf := if fresh then some fb.1.1 else l.yf, await := l.await && !s.lpReleased }
  let held := l.await && target
  let wt := lpWatch s n y fresh perm first { l with await := held }
  let l := { wt.1 with await := l.await }
  let rt := f32.mul (s.get .LP_SPK n) sp.1.1
  let ramp := match ts with
    | none => (rt, 0#32)
    | some t => lpRamp (s.get .LP_RLIM n) (s.get .LP_ALIM n) rt t l.r l.rd
  let r := inj 0 ramp.1
  let P := f32.mul (s.get .LP_KP b) (f32.sub (f32.mul (s.get .LP_B b) r) y)
  let ed := f32.sub (f32.mul (s.get .LP_C b) r) y
  let tf := s.get .LP_TF b
  let kd := s.get .LP_KD b
  let D := match ts with
    | none => 0#32
    | some t =>
      if f32.isZero tf && f32.isZero kd then 0#32 else
        let den := f32.add tf t
        f32.add (f32.mul (f32.div tf den) l.d) (f32.mul (f32.div kd den) (f32.sub ed l.ed))
  let ff := f32.mul (s.get .LP_KFF b) ffs.1.1
  let base := f32.add (f32.add P D) ff
  -- A loop with a target resumes at its first sample after release as it returns from its action, with FB_BACK (R330, R331).
  let back := wt.2.2 || (resume && target)
  let iv : Word × Option Word :=
    if first then (f32.sub (s.lpPresent n) (inj 1 base), some (s.lpPresent n))
    else if back then (f32.sub (s.get .LP_U n) (inj 1 base), some (s.get .LP_U n))
    else if swap && s.flag LP_CFG_BUMPLESS n then (f32.sub (s.get .LP_V n) base, some (inj 1 (s.get .LP_V n)))
    else (s.get .LP_I n, none)
  let v := iv.2.getD (inj 1 (f32.add (f32.add (f32.add P iv.1) D) ff))
  let hi := s.get .LP_OMAX n
  let wc := f32.clamp (f32.min (s.get .LP_OMIN n) hi) hi v
  let slew := s.get .LP_SLEW n
  let w := if held then l.w.getD wc else
    match l.st with
    | 0 => wc
    | 2 =>
      let goal := s.get .LP_FBVAL n
      match l.w, ts with
      | some w0, some t =>
        if f32.isZero slew then goal else
          let st := f32.mul slew t
          f32.clamp (f32.sub w0 st) (f32.add w0 st) goal
      | _, _ => goal
    | _ => l.w.getD wc
  let smp : LpSmp :=
    { k := s.tick, ts := ts, r := r, y := y, v := v, w := w, i := iv.1,
      integ := !first && !held && l.st == 0, dust := l.st == 3, ki := s.get .LP_KI b, kt := s.get .LP_KT b,
      fstate := if l.st ≠ 0 then l.st else if held then 4 else 0, frozen := l.frozen, lost := l.lost, perm := perm,
      causes := (if swap then [6] else []) ++ wt.2.1 ++ (if resume && target && !wt.2.2 && l.st == 0 then [3] else []),
      tests := tests.1 }
  s.modLp n fun _ =>
    { l with first := false, prev := some s.tick, taken := some s.tick, r := ramp.1, rd := ramp.2, d := D, ed := ed,
             smp := some smp }

/-- Whether a sample of a loop is due in the present tick (R314). -/
def lpDue (s : State) (n : Nat) : Bool :=
  s.lpEn n && (s.lp n).disp != some s.tick &&
  match s.fld LP_CFG_SMODE n with
  | 0 => s.tick % ((s.get .LP_PERIOD n).toNat / 10) == 0
  | 1 => s.axPos (s.fld LP_CFG_SMP_AX n) / ((s.get .LP_PERIOD n).toNat : Int) != (s.lp n).axRef
  | _ => s.sampleReq.contains n

/-- LOOP_SAMPLE_DISPATCH: a dispatch within 10 ticks of the previous taken sample is dropped (R316). -/
def lpDispatch (n : Nat) (s : State) : State :=
  if s.lpDue n then
    let s := s.modLp n fun l => { l with
      disp := some s.tick,
      axRef := if s.fld LP_CFG_SMODE n = 1
        then s.axPos (s.fld LP_CFG_SMP_AX n) / ((s.get .LP_PERIOD n).toNat : Int) else l.axRef }
    match (s.lp n).taken with
    | some p =>
      if s.tick - p < 10 then depart (lpCause n 7 s.tick (s.incSat LP_CNT_SKIPPED n)) else lpSample n s
    | none => lpSample n s
  else s

/-! ### Application (R317, R321 to R324) -/

/-- Whether a target is, or is about to be, held in its dust-sheet state by a DUST action. -/
def lpHolds (s : State) (kind i : Nat) : Bool :=
  ((s.lpDustDue.filter fun e => e.2.1 == kind && e.2.2.1 == i).getLast?.map (·.2.2.2)).getD
    (if kind = 1 then (s.pair i).lpDust else (s.ao i).lpDust)

/-- Writes an output to a target in the present tick; the DUST action holds it off (R322, R329). -/
def lpWrite (kind i : Nat) (u : Word) (dust : Bool) (s : State) : State :=
  if kind = 1 ∨ kind = 2 then
    let s : State := if s.lpHolds kind i = dust then s else
      { s with lpDustDue := s.lpDustDue ++ [(s.tick + 2, kind, i, dust)] }
    if dust then s
    else if kind = 1 then
      if s.flag BP_CFG_SRC i then pairDuty i s.tick (clampI 0 32768 (f32.toInt u 15)).toNat s else s
    else if s.flag AO_CFG_SRC i then aoWrite i s.tick u s else s
  else s

/-- What a sample's application leaves for its loop, with `u` applied: step 8 and the registers of R319. -/
def lpFinish (n : Nat) (e : LpSmp) (u : Word) (s : State) : State :=
  let u0 := s.get .LP_U n
  let I := if e.integ then
      match e.ts with
      | some t =>
        let g := if f32.isZero e.kt then f32.one else f32.min (f32.mul e.kt t) f32.one
        f32.add (f32.add e.i (f32.mul (f32.mul e.ki t) (f32.sub e.r e.y))) (f32.mul g (f32.sub u e.v))
      | none => e.i
    else e.i
  let s := ((((put4 .LP_U n u s).put .LP_R n e.r).put .LP_Y n e.y).put .LP_V n e.v).put .LP_I n I
  let s := s.modLp n fun l =>
    { l with w := some e.w, dustA := e.dust, smp := none,
             dus := if e.ts.isSome then (f32.abs (f32.sub u u0) :: l.dus).take 255 else l.dus }
  let s := incMod s LP_CNT_SAMPLES n
  let s := (((s.setFld LP_STAT_FSTATE n e.fstate).setFlag LP_STAT_FROZEN n e.frozen).setFlag LP_STAT_LOST n e.lost).setFlag
    LP_STAT_PERM_OK n e.perm
  let s := each e.causes (fun b => lpCause n b e.k) s
  let lim := !f32.eq u e.v
  let s := when (lim && !s.flag LP_STAT_LIMITED n) (lpCause n 4 e.k) s
  each e.tests (captureRecord n e) (s.setFlag LP_STAT_LIMITED n lim)

/-- The sample of a loop that is applied in the present tick. -/
def lpResultDue (s : State) (n : Nat) : Option LpSmp :=
  match (s.lp n).smp with
  | some e => if s.lpEn n && e.k + 8 == s.tick then some e else none
  | none => none

/-- Limits a change to a rate over an interval; no rate or no interval is no limit. -/
def slewTo (last : Option Word) (ts : Option Word) (rate u : Word) : Word :=
  match last, ts with
  | some p, some t =>
    if f32.isZero rate then u else
      let st := f32.mul rate t
      f32.clamp (f32.sub p st) (f32.add p st) u
  | _, _ => u

/-- LP_GSTAT's byte of a group. -/
def grpShow (g win : Nat) (valid : Bool) (s : State) : State :=
  let r := if g % 8 < 4 then Reg.LP_GSTAT0 else Reg.LP_GSTAT1
  s.put r (g / 8) (putBits (s.get r (g / 8)) (8 * (g % 4) + 7) (8 * (g % 4)) (b2n valid * 128 + win))

/-- The smallest of the members' w, the lower loop on a tie (R323). -/
def lowest : List (Nat × Word) → Option (Nat × Word)
  | [] => none
  | e :: l =>
    match lowest l with
    | none => some e
    | some b => some (if f32.lt b.2 e.2 then b else e)

/-- The first output of a member enabled since a DUST member was disabled is applied: the hold of R322 ends. -/
def grpFreed (s : State) (g : Nat) (due : List Nat) : Bool :=
  match (s.grp g).hold with
  | some k => due.any fun m => decide (k ≤ (s.lp m).en) && (s.lpResultDue m).all fun e => e.ts.isNone
  | none => true

/-- The application of a group's results in the present tick (R323). -/
def grpApply (g : Nat) (s : State) : State :=
  let mem := s.grpMembers g
  let ws := mem.filterMap fun m =>
    match s.lpResultDue m with
    | some e => some (m, e.w)
    | none => (s.lp m).w.map fun w => (m, w)
  let due := mem.filter fun m => (s.lpResultDue m).isSome
  match lowest ws, due with
  | some (win, w), lead :: _ =>
    let ts := (s.lpResultDue lead).bind (·.ts)
    let u := slewTo (s.grp g).last ts (s.get .LP_GSLEW g) w
    let free := s.grpFreed g due
    let dust := !free || mem.any fun m => match s.lpResultDue m with | some e => e.dust | none => (s.lp m).dustA
    let k := s.tick - 8
    let to' := s.grpTarget g
    let s := lpWrite to'.1 to'.2 u dust s
    let new := (s.grp g).win != some win
    let s := s.modGrp g fun q => { last := some u, win := some win, hold := if free then none else q.hold }
    let s := each mem (fun m s => s.setFlag LP_STAT_WIN m (m == win)) (grpShow g win true s)
    let s := each mem (fun m s =>
      match s.lpResultDue m with
      | some e => lpFinish m e u s
      | none => put4 .LP_U m u s) s
    when new (lpCause win 5 k) s
  | _, _ => s

/-- LOOP_SAMPLE_APPLY: eight ticks after the dispatch (R317). -/
def lpApply (n : Nat) (s : State) : State :=
  match s.lpResultDue n with
  | none => s
  | some e =>
    if s.flag LP_CFG_GRP_EN n then grpApply (s.fld LP_CFG_GRP n) s
    else
      let u := slewTo (some (s.get .LP_U n)) e.ts (s.get .LP_SLEW n) e.w
      let t := s.lpTarget n
      lpFinish n e u (lpWrite t.1 t.2 u e.dust s)

/-- Phase 5: dust-sheet holds of targets that take effect at T_k. -/
def lpDustPhase (s : State) : State :=
  let now := s.lpDustDue.filter fun e => decide (e.1 ≤ s.tick)
  let s : State := { s with lpDustDue := s.lpDustDue.filter fun e => !decide (e.1 ≤ s.tick) }
  each now (fun e s =>
    if e.2.1 = 1 then
      let s := s.modPair e.2.2.1 fun q => { q with lpDust := e.2.2.2 }
      if e.2.2.2 then s.setFlag BP_STAT_HIZ e.2.2.1 true else bpLeave e.2.2.1 s.tick s
    else aoLoopDust e.2.2.1 (s.tick - 2) e.2.2.2 s) s

/-! ### Registers (R325, R326, R336) -/

/-- Whether another enabled loop outside a group, or another enabled group, drives a target. -/
def lpDriven (s : State) (kind i : Nat) (loop group : Option Nat) : Bool :=
  kind != 0 &&
  ((List.range 64).any (fun m => some m != loop && s.lpEn m && !s.flag LP_CFG_GRP_EN m &&
      s.fld LP_CFG_TGT_KIND m == kind && s.fld LP_CFG_TGT_IDX m == i) ||
    (List.range 16).any (fun g => some g != group && s.flag LP_GCFG_EN g &&
      s.fld LP_GCFG_TGT_KIND g == kind && s.fld LP_GCFG_TGT_IDX g == i))

/-- Whether a target is open to the engine (R322). -/
def lpTargetOk (s : State) (kind i : Nat) : Bool :=
  match kind with
  | 0 => true
  | 1 => decide (i < 24) && s.flag BP_CFG_SRC i
  | 2 => decide (i < 4) && s.flag AO_CFG_SRC i
  | _ => false

/-- Why an enable of a loop is refused, 0 when it is not; `v` is the LP_CFG value written (R336). -/
def lpReject (s : State) (n : Nat) (v : Word) : Nat :=
  let mode := bitsOf v 2 1
  let kind := bitsOf v 22 21
  let i := bitsOf v 20 16
  let g := bitsOf v 27 24
  let pf := s.fld LP_SRC2_PERM_FB n
  if !(lpCodeOk n (s.fld LP_SRC_SP_SRC n) false && lpCodeOk n (s.fld LP_SRC_FB_SRC n) true &&
       lpCodeOk n (s.fld LP_SRC2_FF_SRC n) false) then 1
  else if mode = 3 ∨ (mode = 1 ∧ s.axEn (bitsOf v 12 8) = false) then 2
  else if !bitAt v 23 && (!s.lpTargetOk kind i || s.lpDriven kind i (some n) none) then 3
  else if bitAt v 23 && (!s.flag LP_GCFG_EN g || decide (8 ≤ (s.grpMembers g).length)) then 4
  else if s.flag LP_SRC2_PERM_EN n && !(decide (pf < 24) && s.fbEn pf && s.fbMode pf == 4) then 5
  else 0

/-- LOOP_ENABLE: the enabling write is applied; refused, EN reads 0, REJ holds the code and E197 is raised. -/
def lpEnable (n : Nat) (v : Word) (s : State) : State :=
  let rej := s.lpReject n v
  if rej ≠ 0 then raise 197 ((s.put .LP_CFG n (putBit v 0 false)).setFld LP_STAT_REJ n rej)
  else
    let p := (s.get .LP_PERIOD n).toNat
    let mode := bitsOf v 2 1
    let per := if mode = 0 then clampN 100 100000000 p / 10 * 10 else if mode = 1 then clampN 1 (2 ^ 31) p else p
    let s := (s.put .LP_CFG n v).put .LP_PERIOD n (BitVec.ofNat 32 per)
    let ref := if mode = 1 then s.axPos (bitsOf v 12 8) / (per : Int) else 0
    let s := s.modLp n fun l => { en := s.tick, taken := l.taken, axRef := ref, await := !s.lpReleased }
    let st := if !s.lpReleased && (s.lpTarget n).1 != 0 then 4 else 0
    s.put .LP_STAT n (BitVec.ofNat 32 (st * 256 + s.fld LP_STAT_BANK n * 128 + s.fld LP_STAT_BPEND n * 64 + 1))

def lpCfgStore (n : Nat) (v : Word) (s : State) : State :=
  let was := s.lpEn n
  if bitAt v 0 && !was then lpEnable n v s
  else if was && !bitAt v 0 then
    -- A DUST member leaves its group's target held (R322).
    let k := s.tick
    let s := when (s.flag LP_CFG_GRP_EN n && (s.lp n).dustA)
      (modGrp (s.fld LP_CFG_GRP n) fun q => { q with hold := some k }) s
    let s := ((s.put .LP_CFG n v).setFlag LP_STAT_RUN n false).setFlag LP_STAT_WIN n false
    s.modLp n fun l => { l with smp := none }
  else s.put .LP_CFG n v

/-- While EN reads 1, any other field of LP_CFG is closed. -/
def lpCfgErr (s : State) (n : Nat) (v : Word) : Bool := s.lpEn n && (putBit v 0 true != s.get .LP_CFG n)

/-- LP_SRC, LP_SRC2 and LP_PERIOD are closed to change while the loop is enabled. -/
def lpLockErr (s : State) (r : Reg) (n : Nat) (v : Word) : Bool := s.lpEn n && v != s.get r n

/-- ACT 0b11 is stored as 0b10 (R329). -/
def lpFreshStore (n : Nat) (v : Word) (s : State) : State :=
  s.put .LP_FRESH n (if bitsOf v 1 0 = 3 then putBits v 1 0 2 else v)

/-- LP_CCLR, LP_FCLR and LP_BSWAP (R326, R330, R336). -/
def lpCtrlStore (n : Nat) (v : Word) (s : State) : State :=
  let s := when (bitAt v 2) (put · .LP_CNT n 0#32) s
  let s := when (bitAt v 1) (modLp n fun l => { l with fclr := true }) s
  when (bitAt v 0) (setFlag · LP_STAT_BPEND n true) s

/-- LP_GSWAP of page 0x50 + j (R326). -/
def lpGswapStore (j : Nat) (v : Word) (s : State) : State :=
  each (pick 8 fun q => bitAt v q) (fun q s =>
    each (s.grpMembers (8 * j + q)) (fun m s => s.setFlag LP_STAT_BPEND m true) s) s

/-- The coefficient that the window of page 0x50 + j reaches for an identity: loop times 2 plus bank (R325). -/
def lpWindow (s : State) (j ident : Nat) : Nat :=
  (8 * j + s.fld LP_BSEL_LOOP (j + 8 * ident)) * 2 + s.fld LP_BSEL_BANK (j + 8 * ident)

/-- The active bank of an enabled loop is closed (R325). -/
def lpBankErr (s : State) (x : Nat) : Bool := s.lpEn (x / 2) && s.fld LP_STAT_BANK (x / 2) == x % 2

def lpGcfgErr (s : State) (g : Nat) (v : Word) : Bool :=
  s.flag LP_GCFG_EN g && !bitAt v 0 && !(s.grpMembers g).isEmpty

def lpGcfgStore (g : Nat) (v : Word) (s : State) : State :=
  let kind := bitsOf v 5 4
  let i := bitsOf v 12 8
  let was := s.flag LP_GCFG_EN g
  let same := s.fld LP_GCFG_TGT_KIND g == kind && s.fld LP_GCFG_TGT_IDX g == i
  if bitAt v 0 && !(was && same) then
    if !s.lpTargetOk kind i || s.lpDriven kind i none (some g) then raise 197 (s.put .LP_GCFG g (putBit v 0 false))
    else grpShow g 0 false ((s.put .LP_GCFG g v).modGrp g fun _ => {})
  else s.put .LP_GCFG g v

/-- A frequency in (0, 0.5]. -/
def tgFreqOk (w : Word) : Bool := f32.pos w && f32.le w 0x3F000000#32

/-- Why an enable of a generator is refused (R336). -/
def tgReject (s : State) (t : Nat) (v : Word) : Bool :=
  let shape := bitsOf v 22 20
  let order := bitsOf v 19 16
  decide (4 ≤ shape) || (shape == 0 && !(decide (7 ≤ order) && decide (order ≤ 15))) ||
    (shape == 1 && !(tgFreqOk (s.get .TG_F0 t) && tgFreqOk (s.get .TG_F1 t))) || !s.lpEn (bitsOf v 29 24)

def tgCfgErr (s : State) (t : Nat) (v : Word) : Bool :=
  s.flag TG_CFG_EN t && (putBit v 0 true != s.get .TG_CFG t)

def tgCfgStore (t : Nat) (v : Word) (s : State) : State :=
  let was := s.flag TG_CFG_EN t
  if bitAt v 0 && !was && s.tgReject t v then raise 197 (s.put .TG_CFG t (putBit v 0 false))
  else
    let s := s.put .TG_CFG t v
    when (!bitAt v 0) (tgStop t) s

/-- TG_CAP lowered below the records already written ends the run (R333). -/
def tgCapStore (t : Nat) (v : Word) (s : State) : State := tgEnough t (s.put .TG_CAP t v)

/-- A TG_CTRL value applied in the tick `k`; STOP before START (log 135). -/
def tgCtrlStore (t k : Nat) (v : Word) (s : State) : State :=
  let s := when (bitAt v 1) (tgStop t) s
  when (bitAt v 0) (tgStart t k) s

/-! ### Release, halt and reset (R331, R335) -/

def lpRelease (s : State) : State :=
  let s : State := { s with lpReleased := true }
  each (pick 64 fun n => !s.lpEn n && s.fld LP_STAT_FSTATE n == 4) (fun n s => s.setFld LP_STAT_FSTATE n 0) s

/-- A debug halt: every loop with a target acts as in HOLD until the next release. -/
def lpHalt (s : State) : State :=
  let s : State := { s with lpReleased := false }
  each (List.range 64) (fun n s =>
    let s := s.modLp n fun l => { l with await := true }
    let shown := if s.lpEn n then (s.lpTarget n).1 != 0 && (s.lp n).st == 0 else true
    when shown (setFld · LP_STAT_FSTATE n 4) s) s

/-- Loops, groups and generators are forgotten; the held targets stay held (R322, R335). -/
def lpDomainReset (s : State) : State :=
  clear4 .LP_U { s with lps := [], grps := [], tgs := [] }

end State
end Sys2Proof.Machine
end

