-- ==== Sys2Proof/Machine/Drying.lean ====
section
/-!
DEFINITION. Sys2Proof/Machine/Drying.lean: drying paths, parcels and store (R338 to R364): crop tables and moisture, the
column and its model, start-up, discharge records, batches, cable sensors, bins and contactor entries.
-/

namespace Sys2Proof.Machine
namespace State

def dp (s : State) (p : Nat) : Dp := SMap.get {} s.dps p
def modDp (p : Nat) (f : Dp → Dp) (s : State) : State := { s with dps := SMap.set {} s.dps p (f (s.dp p)) }

def dpEn (s : State) (p : Nat) : Bool := s.flag DP_CFG_EN p
def dpBatch (s : State) (p : Nat) : Bool := s.flag DP_CFG_MODE p
/-- DP_STAT.STATE: 0 OFF, 1 FILL, 2 RUN, 3 UNLOAD. -/
def dpState (s : State) (p : Nat) : Nat := s.fld DP_STAT_STATE p
def dpPos (s : State) (p : Nat) : Int := s.axPos (s.fld DP_CFG_AX p)
def dpVp (s : State) (p : Nat) : Nat := s.fld DP_GEOM_VP p
def dpVcol (s : State) (p : Nat) : Nat := s.fld DP_GEOM_VCOL p
/-- N, the parcels of a full column (R342). -/
def dpN (s : State) (p : Nat) : Nat := s.dpVcol p / s.dpVp p
/-- AU in `v` litres: a GRAIN axis has 1024 AU a litre (R16). -/
def litres (v : Nat) : Int := 1024 * (v : Int)

/-- 20.0 °C. -/
def twenty : Word := 0x41A00000#32

def dpCause (p b : Nat) (s : State) : State :=
  let s := cause .DP_EVT .DP_EVT_MASK p b (200 + p) s
  when (decide (6 ≤ b)) (log38 p b (200 + p) s.T []) s

/-- The latest valid result of a precision or general channel, at most `age` clocks old. -/
def pcValid (s : State) (n age : Nat) : Option Word :=
  match (s.pc n).valid with
  | some (v, t) => if s.T ≤ t + age then some v else none
  | none => none

/-! ### Crop tables (R339 to R341) -/

/-- The moisture of slot 0's result of an impedance channel. -/
def moisture (s : State) (c z : Nat) : Word :=
  let w := f32.mul 0x40C90FDB#32 (f32.ofInt (10000 * (bitsOf (s.get .ZC_FREQ01 z) 15 0 : Int)))
  let x := f32.mul (f32.div (s.get .ZC_B z) w) (f32.ofInt (10 ^ 12))
  let g := f32.mul (s.get .ZC_G z) (f32.ofInt 1000)
  let t := s.get .ZC_T z
  let dt := if f32.isNaN t then 0#32 else f32.sub t (s.get .DP_CR_TREF c)
  f32.sum [s.get .DP_CR_A0 c, f32.mul (s.get .DP_CR_A1 c) x, f32.mul (s.get .DP_CR_A2 c) (f32.mul x x),
    f32.mul (s.get .DP_CR_A3 c) g, f32.mul (s.get .DP_CR_A4 c) dt]

/-- The equilibrium moisture of air, % wet basis (R340). -/
def equilibrium (s : State) (c : Nat) (t rh : Word) : Word :=
  let rh := f32.clamp (f32.ofRat 1 100) (f32.ofRat 99 100) rh
  let den := f32.mul (s.get .DP_CR_A c) (f32.add t (s.get .DP_CR_C c))
  if f32.pos den then
    let q := f32.div (f32.neg (f32.ln (f32.sub f32.one rh))) den
    let m := f32.pow q (f32.div f32.one (s.get .DP_CR_N c))
    let h := f32.ofInt 100
    f32.div (f32.mul h m) (f32.add h m)
  else 0#32

/-- The drying constant, 1/s (R341). -/
def dryingConst (s : State) (c : Nat) (t : Word) : Word :=
  f32.mul (s.get .DP_CR_K1 c) (f32.exp (f32.mul (s.get .DP_CR_K2 c) t))

/-- a + (b − a) × exp(−x): the approach of R341 and R348. -/
def approach (a b x : Word) : Word := f32.add a (f32.mul (f32.sub b a) (f32.exp (f32.neg x)))

/-! ### Zones (R343) -/

def dpCrop (s : State) (p : Nat) : Nat := s.fld DP_CFG_CROP p
def dpZones (s : State) (p : Nat) : Nat := s.fld DP_CFG_NZ p + 1
def zoneStart (s : State) (p z : Nat) : Nat := s.fld DP_ZCFG_START (4 * p + z)
def zoneEnd (s : State) (p z : Nat) : Nat := if z + 1 < s.dpZones p then s.zoneStart p (z + 1) else s.dpVcol p

/-- The depth of a parcel in AU: batch layers never move (R342, R353). -/
def parcelDepth (s : State) (p : Nat) (a : Parcel) : Int :=
  diff48 (if s.dpBatch p then (s.dp p).p0 else s.dpPos p) a.pc

/-- The zone a depth in AU stands in; none in the garner. -/
def zoneOf (s : State) (p : Nat) (d : Int) : Option Nat :=
  (pick (s.dpZones p) fun z => decide (litres (s.zoneStart p z) ≤ d)).getLast?

/-- The saturation pressure of R343. -/
def psat (t : Word) : Word :=
  f32.mul (f32.ofRat 61094 100)
    (f32.exp (f32.div (f32.mul (f32.ofRat 17625 1000) t) (f32.add t (f32.ofRat 24304 100))))

/-- The temperature of a zone's air; none while the zone is lost. -/
def zoneTemp (s : State) (p z : Nat) : Option Word :=
  if s.rbit .DP_STAT p (8 + z) then none else s.pcValid (s.fld DP_ZCFG_TPC (4 * p + z)) 2000000000

/-- The latest valid general-channel value; one that has never been valid is a free value (log 12). -/
def gcOrFree (n : Nat) (s : State) : Word × State :=
  match (s.gc n).valid with
  | some v => (v.1, s)
  | none => s.freeVal

/-- The relative humidity of a zone whose air has the temperature `t` (R343). Ambient sources that give no valid value
leave it open: a free value (log 12). -/
def zoneRh (p z : Nat) (t : Word) (s : State) : Word × State :=
  let i := 4 * p + z
  match s.fld DP_ZCFG_RHMODE i with
  | 1 => gcOrFree (s.fld DP_ZCFG_RHGC i) s
  | 2 =>
    match (s.pc (s.fld DP_AMB_TPC 0)).valid with
    | some (ta, _) =>
      if s.flag DP_AMB_EN 0 then
        let r := gcOrFree (s.fld DP_AMB_RHGC 0) s
        (f32.div (f32.mul r.1 (psat ta)) (psat t), r.2)
      else s.freeVal
    | none => s.freeVal
  | _ => (s.get .DP_ZRH i, s)

/-- The air of every zone at dispatch: temperature, M_e and k, none for a lost zone. -/
def zoneAir (p : Nat) (s : State) : List (Option (Word × Word × Word)) × State :=
  (List.range (s.dpZones p)).foldl (fun r z =>
    match r.2.zoneTemp p z with
    | some t =>
      let h := zoneRh p z t r.2
      let c := h.2.dpCrop p
      (r.1 ++ [some (t, h.2.equilibrium c t h.1, h.2.dryingConst c t)], h.2)
    | none => (r.1 ++ [none], r.2)) ([], s)

/-! ### Parcels in SRAM (R346) -/

def parcelAt (p slot : Nat) : Nat := 0x01138000 + 0x10000 * p + 64 * slot

/-- Writes a parcel's record. -/
def parcelStore (p : Nat) (a : Parcel) (s : State) : State :=
  let x := unsig 48 a.pc
  s.wrWords (parcelAt p a.slot)
    [BitVec.ofNat 32 (2 ^ 31 + b2n a.seed * 2 ^ 30 + b2n a.filled * 2 ^ 29 + b2n a.noMeas * 2 ^ 28 + b2n a.dis * 2 ^ 27 +
       a.seq), loW x, hiW x, a.m, a.mIn, a.tg, a.tgMax, a.pred, BitVec.ofNat 32 a.steps, a.outSum,
     BitVec.ofNat 32 a.outN, 0#32, 0#32, 0#32, 0#32, 0#32]

def parcelFree (p : Nat) (a : Parcel) (s : State) : State := s.wrWord (parcelAt p a.slot) 0#32

/-- DP_PARC: the slot of the newest parcel and the slots in use. -/
def parcShow (p : Nat) (s : State) : State :=
  let d := s.dp p
  (s.setFld DP_PARC_TOP p d.top).setFld DP_PARC_COUNT p (d.col.length + d.out.length)

/-- Puts a parcel at the top of the column, in the next slot and with the next sequence number. DESIGN CHOICE (log 60):
its prediction stands at its moisture until its first step. -/
def parcelNew (p : Nat) (pc : Int) (m tg : Word) (seed filled noMeas : Bool) (s : State) : State :=
  let d := s.dp p
  let slot := (d.top + 1) % 1024
  let a : Parcel := { slot := slot, seq := d.seq, pc := pc, m := m, mIn := m, tg := tg, tgMax := tg, pred := m,
                      seed := seed, filled := filled, noMeas := noMeas }
  let s := s.modDp p fun d =>
    { d with col := d.col ++ [a], top := slot, seq := modInc 16 d.seq, last := some (m, tg) }
  parcShow p (parcelStore p a s)

/-- Empties a path's ring. -/
def ringEmpty (p : Nat) (s : State) : State :=
  let d := s.dp p
  let s := each (d.col ++ d.out) (fun a s => parcelFree p a s) s
  parcShow p (s.modDp p fun d => { d with col := [], out := [], last := none })

/-- The mean of a list, in order. -/
def meanOf (l : List Word) : Word := f32.div (f32.sum l) (f32.ofInt l.length)

/-! ### Outputs (R352) -/

/-- The parcels whose depth lies in the prediction window. -/
def dpWindow (s : State) (p : Nat) : List Parcel :=
  if s.dpBatch p then (s.dp p).col else
    (s.dp p).col.filter fun a =>
      decide (litres (s.fld DP_PRED_LO_DEPTH p) ≤ s.parcelDepth p a) &&
        decide (s.parcelDepth p a < litres (s.fld DP_PRED_HI_DEPTH p))

/-- Whether output 0 is held (DP_STAT.SEEDWIN). -/
def dpHeld (s : State) (p : Nat) : Bool :=
  let w := s.dpWindow p
  s.dpState p != 2 || w.isEmpty || (!s.dpBatch p && w.any (·.seed))

/-- DP_STAT as it reads. -/
def dpStat (s : State) (p : Nat) : Word :=
  putBit (s.get .DP_STAT p) 4 (s.dpEn p && s.dpHeld p)

/-- Predicted seconds to target of a batch layer (R354); a layer above every zone leaves it open: a free value. -/
def layerTime (p : Nat) (a : Parcel) (s : State) : Word × State :=
  let mt := s.get .DP_TARGET p
  if f32.le a.m mt then (0#32, s) else
  match s.zoneOf p (s.parcelDepth p a) with
  | none => s.freeVal
  | some z =>
    let me := s.get .DP_ZME (4 * p + z)
    if f32.le mt me then (f32.ofInt (10 ^ 9), s)
    else (f32.div (f32.ln (f32.div (f32.sub a.m me) (f32.sub mt me))) (s.get .DP_ZK (4 * p + z)), s)

/-- The outputs that an applied step updates (R352, R354). -/
def dpStepOutputs (p : Nat) (s : State) : State :=
  let l := (s.dp p).col
  let s := if s.dpHeld p then s else
    put4 .DP_OUT (4 * p) (f32.add (meanOf ((s.dpWindow p).map fun a => if s.dpBatch p then a.m else a.pred))
      (s.get .DP_BIAS p)) s
  let s := match l with
    | [] => s
    | a :: r => put4 .DP_OUT (4 * p + 2) (r.foldl (fun t b => f32.max t b.tg) a.tg) s
  if s.dpBatch p && !l.isEmpty then
    let r := l.foldl (fun (q : Word × State) a =>
      let t := layerTime p a q.2
      (f32.max q.1 t.1, t.2)) (0#32, s)
    let s := put4 .DP_OUT (4 * p + 1) r.1 r.2
    if f32.isZero r.1 && !s.flag DP_STAT_BATCH_DONE p then dpCause p 5 (s.setFlag DP_STAT_BATCH_DONE p true) else s
  else s

/-- Output 3 at a creation (R352). -/
def dpNewest (p : Nat) (s : State) : State :=
  match (s.dp p).last with
  | some (m, _) => if s.dpBatch p then s else put4 .DP_OUT (4 * p + 3) m s
  | none => s

/-! ### Start-up (R350, R351) -/

/-- Entry to RUN at P0 (R344, R351). -/
def dpRun (p : Nat) (x : Int) (s : State) : State :=
  let s := (s.setFld DP_STAT_STATE p 2).setFlag DP_STAT_REV p false
  let s := s.setFlag DP_STAT_BATCH_DONE p false
  let s := s.modDp p fun d => { d with p0 := x, fmax := x, nb := wrap48 (x + litres (s.dpVp p)), ins := [], bins := [] }
  if s.dpBatch p then
    let l := (s.dp p).col
    if l.isEmpty then s else put4 .DP_OUT (4 * p + 3) (meanOf (l.map (·.mIn))) s
  else s

/-- Entry to FILL. -/
def dpFill (p t : Nat) (s : State) : State :=
  (s.setFld DP_STAT_STATE p 1).modDp p fun d =>
    { d with ts := t, bins := [], bin := s.fld DP_CFG_FILLBIN p * 200000000, seeds := d.col.length, ins := [] }

/-- P_c of the n-th parcel from the bottom of a column that enters RUN at `x` (R351). -/
def parcelPc (s : State) (p : Nat) (x : Int) (n : Nat) : Int :=
  wrap48 (x - litres (s.dpVcol p) + litres (n * s.dpVp p))

/-- DP_ENABLE accepted: the column is seeded as START says. -/
def dpStart (p : Nat) (s : State) : State :=
  let x := s.dpPos p
  let st := s.fld DP_CFG_START p
  let n := if st = 2 then s.dpN p else if st = 1 then min (s.fld DP_FILL_FILL p) (s.dpVcol p) / s.dpVp p else 0
  let s := each (List.range n) (fun i s =>
    parcelNew p (s.parcelPc p x (i + 1)) (s.get .DP_MSEED p) twenty true false false s) (ringEmpty p s)
  let s := when (n != 0) (dpNewest p) s
  if st = 2 then (dpRun p x s).modDp p fun d => { d with enter := 2 } else dpFill p s.Tn s

/-- Merges neighbouring bins in pairs. -/
def mergeBins : List (Word × Nat × Word × Nat) → List (Word × Nat × Word × Nat)
  | a :: b :: l => (f32.add a.1 b.1, a.2.1 + b.2.1, f32.add a.2.2.1 b.2.2.1, a.2.2.2 + b.2.2.2) :: mergeBins l
  | l => l

/-- Merging until a reading at `e` clocks after the start falls below bin 1024. -/
def fitBins (e : Nat) : Nat → List (Word × Nat × Word × Nat) → Nat → List (Word × Nat × Word × Nat) × Nat
  | 0, l, b => (l, b)
  | f + 1, l, b => if e / b < 1024 then (l, b) else fitBins e f (mergeBins l) (2 * b)

/-- A reading in FILL adds to its bin (R351). -/
def binAdd (p t : Nat) (m : Word) (tz : Option Word) (s : State) : State :=
  s.modDp p fun d =>
    let e := t - d.ts
    let r := fitBins e 64 d.bins d.bin
    let i := e / r.2
    let l := r.1 ++ List.replicate (i + 1 - r.1.length) (0#32, 0, 0#32, 0)
    let q := l.getD i (0#32, 0, 0#32, 0)
    { d with bin := r.2, bins := l.set i (f32.add q.1 m, q.2.1 + 1,
        (match tz with | some t => f32.add q.2.2.1 t | none => q.2.2.1), q.2.2.2 + b2n tz.isSome) }

/-- The grain temperature of a mean: readings without temperature do not count in it; none with one is T_REF (log 61). -/
def meanTemp (s : State) (p : Nat) (sum : Word) (n : Nat) : Word :=
  if n = 0 then s.get .DP_CR_TREF (s.dpCrop p) else f32.div sum (f32.ofInt n)

/-- The parcels made from the fill that ends at the clock `t` (R351). -/
def fillParcels (p t : Nat) (s : State) : State :=
  let d := s.dp p
  let K := s.dpN p - d.seeds
  let D := t - d.ts
  each (List.range K) (fun j s =>
    let q := ((List.range d.bins.length).zip d.bins).filter fun e =>
      decide (j * D ≤ e.1 * d.bin * K) && decide (e.1 * d.bin * K < (j + 1) * D)
    let n : Nat := q.foldl (fun a e => a + e.2.2.1) 0
    let v : Word × Word :=
      if n ≠ 0 then
        (f32.div (f32.sum (q.map (·.2.1))) (f32.ofInt (n : Nat)),
          s.meanTemp p (f32.sum (q.map (·.2.2.2.1))) (q.foldl (fun a e => a + e.2.2.2.2) 0))
      else (s.dp p).last.getD (s.get .DP_MSEED p, twenty)
    parcelNew p 0 v.1 v.2 false true false s) s

/-- The parcels of the column stand as it enters RUN at `x`. -/
def dpPlace (p : Nat) (x : Int) (s : State) : State :=
  let s := s.modDp p fun d =>
    { d with enter := 0
             col := (d.col.zip (List.range d.col.length)).map fun e => { e.1 with pc := s.parcelPc p x (e.2 + 1) } }
  each (s.dp p).col (fun a s => parcelStore p a s) s

/-- FILL ends at the clock `t` (R351). -/
def dpFillEnd (p t : Nat) (s : State) : State :=
  let x := s.dpPos p
  dpCause p 4 (dpRun p x (dpNewest p (dpPlace p x (fillParcels p t s))))

/-- Phase 4: a path that the tick takes into RUN, by FULL or by a start with a full column, enters at the axis position
of the tick (R76, R350, R351). -/
def dpEnter (p : Nat) (s : State) : State :=
  match (s.dp p).enter with
  | 0 => s
  | 1 => if s.dpEn p && s.dpState p == 1 then dpFillEnd p s.T s else s.modDp p fun d => { d with enter := 0 }
  | _ =>
    if s.dpEn p && s.dpState p == 2 then dpRun p (s.dpPos p) (dpPlace p (s.dpPos p) s)
    else s.modDp p fun d => { d with enter := 0 }

/-- FILL_DONE: the level input shows full. -/
def dpFillDone (p : Nat) (s : State) : State :=
  if s.dpEn p && s.dpState p == 1 && s.flag DP_SENS_LVL_EN p &&
      (s.fld FB_STAT_LVL (s.fld DP_SENS_LVL_FB p) % 2 == 1) == s.flag DP_SENS_LVL_POL p then dpFillEnd p s.T s
  else s

/-! ### Readings (R339, R344, R349) -/

/-- An outlet reading counts for the parcel whose window holds the axis position. -/
def dpOutlet (p : Nat) (m : Word) (s : State) : State :=
  let x := s.dpPos p
  let w := litres (s.dpVcol p + s.fld DP_OUTOFS_OFS p)
  let has (a : Parcel) : Bool :=
    let d := diff48 x a.pc
    decide (w - litres (s.dpVp p) ≤ d) && decide (d < w)
  let take (a : Parcel) : Parcel := if has a then { a with outSum := f32.add a.outSum m, outN := a.outN + 1 } else a
  let d := s.dp p
  let s := s.modDp p fun d => { d with col := d.col.map take, out := d.out.map take }
  each ((d.col ++ d.out).filter has) (fun a s => parcelStore p (take a) s) s

/-- A valid result of slot 0 of impedance channel `z`, stamped `t`: the axis position of a reading is the one at its stamp
(log 136). -/
def dpReading (z t : Nat) (s : State) : State :=
  each (pick 4 fun p => s.dpEn p) (fun p s =>
    let m := s.moisture (s.dpCrop p) z
    let tw := s.get .ZC_T z
    let tz := if f32.isNaN tw then none else some tw
    let s := if s.fld DP_SENS_IN_ZC p = z then
        if s.dpState p = 1 then binAdd p t m tz s
        else if s.dpState p = 2 && !s.dpBatch p then
          let x := s.dpPos p
          s.modDp p fun d => { d with ins := d.ins ++ [(x, m, tz)] }
        else s
      else s
    if s.dpState p = 2 && !s.dpBatch p && s.flag DP_SENS_OUT_EN p && s.fld DP_SENS_OUT_ZC p == z then dpOutlet p m s
    else s) s

/-! ### Movement (R344, R345, R349) -/

/-- Phase 4, after the steps' results: entries into RUN, then the forward maximum and REV of every running path. -/
def dpTrack (s : State) : State :=
  let s := each (List.range 4) dpEnter s
  each (pick 4 fun p => s.dpEn p && s.dpState p == 2 && !s.dpBatch p) (fun p s =>
    let x := s.dpPos p
    let d := diff48 x (s.dp p).fmax
    if d < 0 then if s.flag DP_STAT_REV p then s else dpCause p 3 (s.setFlag DP_STAT_REV p true)
    else if 0 < d then (s.setFlag DP_STAT_REV p false).modDp p fun q => { q with fmax := x }
    else s) s

def dpBoundaryDue (s : State) (p : Nat) : Bool :=
  s.dpEn p && s.dpState p == 2 && !s.dpBatch p && decide (0 ≤ diff48 (s.dp p).fmax (s.dp p).nb)

/-- PARCEL_BOUNDARY: the forward maximum has reached the next boundary. -/
def dpBoundary (p : Nat) (s : State) : State :=
  if s.dpBoundaryDue p then
    let d := s.dp p
    let vp := litres (s.dpVp p)
    let n := if d.nbTick = s.tick then d.nbN + 1 else 1
    let s := s.modDp p fun d => { d with nbTick := s.tick, nbN := n, nb := wrap48 (d.nb + vp) }
    let s := if n = 5 then depart (dpCause p 8 s) else s
    let s := match d.col with
      | a :: r =>
        if s.dpN p ≤ d.col.length then
          let a := { a with dis := true }
          parcelStore p a (s.modDp p fun d => { d with col := r, out := d.out ++ [a] })
        else s
      | [] => s
    let q := d.ins.filter fun e => decide (0 ≤ diff48 e.1 (wrap48 (d.nb - vp))) && decide (diff48 e.1 d.nb < 0)
    let s := s.modDp p fun d' => { d' with ins := d'.ins.filter fun e => decide (0 ≤ diff48 e.1 d.nb) }
    if q.isEmpty then
      let v := d.last.getD (s.get .DP_MSEED p, twenty)
      let s := parcelNew p d.nb v.1 v.2 false false true s
      dpNewest p (dpCause p 1 (s.incSat DP_CNT_NOMEAS p))
    else
      let ts := q.filterMap (·.2.2)
      dpNewest p (parcelNew p d.nb (meanOf (q.map (·.2.1))) (s.meanTemp p (f32.sum ts) ts.length) false false false s)
  else s

/-- The discharge record of a parcel at the present tick (R356). -/
def dischargeRecord (p typ : Nat) (a : Parcel) (mOut : Option Word) (s : State) : State :=
  let x := unsig 48 (s.dpPos p)
  let flags := b2n a.seed * 16 + b2n a.filled * 8 + b2n a.noMeas * 4 + b2n mOut.isNone * 2 + b2n a.zl
  let w := [BitVec.ofNat 32 (typ * 2 ^ 28 + p * 2 ^ 26 + flags * 2 ^ 21 + a.seq), loW s.T, hiW s.T, loW x, hiW x, a.mIn, a.m,
    mOut.getD f32.nan, s.get .DP_BIAS p, a.tgMax, BitVec.ofNat 32 a.steps, 0#32]
  incMod (qOffer (46 + s.fld DP_CFG_Q p) s.T (fun _ => w) s) DP_CNT_RECORDS p

/-- β after an outlet reading, with its limit (R349). -/
def biasUpdate (p : Nat) (a : Parcel) (mOut : Word) (s : State) : State :=
  let b := s.get .DP_BIAS p
  let b := f32.add b (f32.mul (f32.sub (f32.sub mOut a.m) b) (f32.ofScaled 1 (s.fld DP_BIASCFG_BK p)))
  let lim := f32.ofRat (s.fld DP_BIASCFG_BLIM p) 100
  if f32.le lim (f32.abs b) then dpCause p 7 (s.put .DP_BIAS p (if f32.isNeg b then f32.neg lim else lim))
  else s.put .DP_BIAS p b

def dpOutletDue (s : State) (p : Nat) : Bool :=
  s.dpEn p && s.dpState p == 2 && !s.dpBatch p &&
  match (s.dp p).out with
  | a :: _ => decide (litres (s.dpVcol p + s.fld DP_OUTOFS_OFS p) ≤ diff48 (s.dpPos p) a.pc)
  | [] => false

/-- PARCEL_DISCHARGE: the axis has reached the outlet position of the oldest discharged parcel (R349). -/
def dpDischarge (p : Nat) (s : State) : State :=
  if s.dpOutletDue p then
    match (s.dp p).out with
    | a :: r =>
      let mOut := if s.flag DP_SENS_OUT_EN p && a.outN != 0 then some (f32.div a.outSum (f32.ofInt a.outN)) else none
      let s := match mOut with
        | some m => if a.seed then s else biasUpdate p a m s
        | none => dpCause p 2 s
      let s := put4 .DP_OUT (4 * p + 1) (mOut.getD f32.nan) (dischargeRecord p 1 a mOut s)
      parcShow p (parcelFree p a (s.modDp p fun d => { d with out := r }))
    | [] => s
  else s

/-- Phase 4: a batch that unloads writes one record a tick, bottom first, and then returns to FILL (R353). -/
def dpUnloadPhase (s : State) : State :=
  each (pick 4 fun p => s.dpState p == 3) (fun p s =>
    match (s.dp p).col with
    | a :: r =>
      let s := parcelFree p a ((dischargeRecord p 2 a none s).modDp p fun d => { d with col := r })
      parcShow p (if r.isEmpty then dpFill p s.T (s.modDp p fun d => { d with last := none }) else s)
    | [] => dpFill p s.T s) s

/-! ### The model step (R347, R348) -/

/-- The moisture predicted at discharge, zone after zone from the parcel's own (R348). -/
def dpPredict (s : State) (p : Nat) (air : List (Option (Word × Word × Word))) (F : Word) (d : Int) (m : Word) : Word :=
  (List.range (s.dpZones p)).foldl (fun m z =>
    let a := litres (s.zoneStart p z)
    let b := litres (s.zoneEnd p z)
    let span := b - max d a
    if span ≤ 0 then m else
      let e : Word × Word := match air.getD z none with
        | some (_, me, k) => (me, k)
        | none => (s.get .DP_ZME (4 * p + z), s.get .DP_ZK (4 * p + z))
      approach e.1 m (f32.mul e.2 (f32.div (f32.ofScaled span 10) F))) m

/-- The step of one path, dispatched in the present tick. A parcel in a lost zone is neither stepped nor predicted; one in
the garner is predicted (log 62). -/
def dpDispatch (p : Nat) (s : State) : State :=
  let r := zoneAir p s
  let air := r.1
  let s := r.2
  let c := s.dpCrop p
  let F := f32.max (f32.div (s.axVel (s.fld DP_CFG_AX p)) (f32.ofInt 1024)) (s.get .DP_FMIN p)
  let one (a : Parcel) : ParcelStep :=
    let d := s.parcelDepth p a
    match s.zoneOf p d with
    | none => { slot := a.slot, seq := a.seq, pred := some (s.dpPredict p air F d a.m) }
    | some z =>
      match air.getD z none with
      | some (t, me, k) =>
        { slot := a.slot, seq := a.seq, pred := some (s.dpPredict p air F d a.m),
          stepped := some (approach me a.m k, approach t a.tg (f32.div f32.one (s.get .DP_CR_TAUG c))) }
      | none => { slot := a.slot, seq := a.seq, lost := true }
  s.modDp p fun d =>
    { d with step := some { k := s.tick, res := d.col.map one, air := air.map fun e => e.map fun q => (q.2.1, q.2.2) } }

/-- MODEL_STEP_DISPATCH: a step of every path in RUN, in a tick that starts on a whole second. -/
def modelDispatch (s : State) : State :=
  if s.tick % 100000 = 0 then
    each (pick 4 fun p => s.dpEn p && s.dpState p == 2 && (s.dp p).step.isNone) dpDispatch s
  else s

/-- A parcel with what a step gives it. -/
def parcelStepped (a : Parcel) (q : ParcelStep) : Parcel :=
  let a := match q.stepped with
    | some (m, tg) => { a with m := m, tg := tg, tgMax := f32.max a.tgMax tg, steps := a.steps + 1 }
    | none => a
  { a with pred := q.pred.getD a.pred, zl := a.zl || q.lost }

/-- The application of one path's step. -/
def dpApply (p : Nat) (e : DpStep) (s : State) : State :=
  let s := s.modDp p fun d =>
    { d with step := none, col := d.col.map fun a =>
        match e.res.find? fun q => q.slot == a.slot && q.seq == a.seq with
        | some q => parcelStepped a q
        | none => a }
  let s := each (s.dp p).col (fun a s => parcelStore p a s) s
  let s := each ((List.range e.air.length).zip e.air) (fun z s => match z.2 with
    | some q => (s.put .DP_ZME (4 * p + z.1) q.1).put .DP_ZK (4 * p + z.1) q.2
    | none => s) s
  if s.dpState p = 2 then dpStepOutputs p s else s

/-- MODEL_STEP_APPLY: 100 ticks after the dispatch (R347). -/
def modelApply (s : State) : State :=
  each (List.range 4) (fun p s =>
    match (s.dp p).step with
    | some e => if e.k + 100 = s.tick then dpApply p e s else s
    | none => s) s

/-! ### Zones lost, heat (R343, R355) -/

/-- ZONE_LOST: no valid temperature within the last 10 s. -/
def zoneLost (p z : Nat) (s : State) : State :=
  if s.dpEn p && decide (z < s.dpZones p) && !s.rbit .DP_STAT p (8 + z) && (s.zoneTemp p z).isNone then
    let s := dpCause p 6 (s.setRbit .DP_STAT p (8 + z) true)
    let mark (a : Parcel) : Parcel := if s.zoneOf p (s.parcelDepth p a) = some z then { a with zl := true } else a
    s.modDp p fun d => { d with col := d.col.map mark }
  else s

/-- A zone returns with its next valid result, of precision channel `n`. -/
def zoneBack (n : Nat) (s : State) : State :=
  each (List.range 16) (fun i s =>
    if s.fld DP_ZCFG_TPC i = n then s.setRbit .DP_STAT (i / 4) (8 + i % 4) false else s) s

/-- LOCKOUT: the flame safeguard's contact changes (R355). -/
def dpLockout (p : Nat) (s : State) : State :=
  let now := s.flag DP_HEAT_EN p && (s.fld FB_STAT_LVL (s.fld DP_HEAT_FB p) % 2 == 1) == s.flag DP_HEAT_POL p
  if now = s.flag DP_STAT_LOCKOUT p then s
  else if now then dpCause p 9 (s.setFlag DP_STAT_LOCKOUT p true)
  else s.setFlag DP_STAT_LOCKOUT p false

/-! ### Registers of a path (R362) -/

/-- Whether the zones' STARTs ascend and the last lies in the column. -/
def zonesOk (s : State) (p nz : Nat) : Bool :=
  (List.range nz).all (fun z => z == 0 || decide (s.zoneStart p (z - 1) < s.zoneStart p z)) &&
    decide (s.zoneStart p (nz - 1) < s.dpVcol p)

/-- Why an enable is refused, 0 when it is not. -/
def dpReject (s : State) (p : Nat) (v : Word) : Nat :=
  let ax := bitsOf v 12 8
  let nz := bitsOf v 6 5 + 1
  let vp := s.dpVp p
  let lv := s.fld DP_SENS_LVL_FB p
  let chans := (List.range nz).all fun z =>
    s.flag PC_CFG_EN (s.fld DP_ZCFG_TPC (4 * p + z)) &&
      (s.fld DP_ZCFG_RHMODE (4 * p + z) != 1 || s.flag GC_CFG_EN (s.fld DP_ZCFG_RHGC (4 * p + z)))
  if !(s.axEn ax && s.axType ax == (if bitAt v 1 then 5 else 3)) then 1
  else if vp = 0 ∨ s.dpVcol p % vp ≠ 0 ∨ 1024 < s.dpVcol p / vp + (s.fld DP_OUTOFS_OFS p + vp - 1) / vp then 2
  else if !s.zonesOk p nz then 3
  else if !(s.flag ZC_CFG_EN (s.fld DP_SENS_IN_ZC p) &&
      (!s.flag DP_SENS_OUT_EN p || s.flag ZC_CFG_EN (s.fld DP_SENS_OUT_ZC p)) && chans &&
      (!s.flag DP_SENS_LVL_EN p || (decide (lv < 24) && s.fbEn lv && s.fbMode lv == 4))) then 4
  else if bitsOf v 4 3 = 3 then 5
  else 0

def dpCfgErr (s : State) (p : Nat) (v : Word) : Bool := s.dpEn p && (putBit v 0 true != s.get .DP_CFG p)

/-- DP_ENABLE, and the write that disables a path: its ring is emptied (log 63). -/
def dpCfgStore (p : Nat) (v : Word) (s : State) : State :=
  let was := s.dpEn p
  if bitAt v 0 && !was then
    let rej := s.dpReject p v
    if rej ≠ 0 then (s.put .DP_CFG p (putBit v 0 false)).setFld DP_STAT_REJ p rej
    else dpStart p (s.put .DP_CFG p v)
  else if was && !bitAt v 0 then
    let s := ringEmpty p (s.put .DP_CFG p v)
    ((s.setFld DP_STAT_STATE p 0).setFlag DP_STAT_REV p false).modDp p fun d =>
      { d with step := none, ins := [], bins := [], last := none }
  else s.put .DP_CFG p v

/-- RHMODE 0b11 is stored as 0b00. -/
def dpZcfgVal (v : Word) : Word := if bitsOf v 6 5 = 3 then putBits v 6 5 0 else v

/-- The path page's other KW registers are closed to change while the path is enabled. -/
def dpLockErr (s : State) (r : Reg) (i p : Nat) (v : Word) : Bool :=
  s.dpEn p && (if r = .DP_ZCFG then dpZcfgVal v else v) != s.get r i

def dpZcfgStore (i : Nat) (v : Word) (s : State) : State := s.put .DP_ZCFG i (dpZcfgVal v)

/-- DP_FULL, DP_UNLOAD, DP_BCLR and DP_CCLR (R349, R351, R353, R362). -/
def dpCtrlStore (p : Nat) (v : Word) (s : State) : State :=
  let s := when (bitAt v 3) (put · .DP_CNT p 0#32) s
  let s := when (bitAt v 2) (put · .DP_BIAS p 0#32) s
  let s := when (bitAt v 1 && s.dpBatch p && s.dpState p == 2) (setFld · DP_STAT_STATE p 3) s
  when (bitAt v 0 && s.dpState p == 1) (modDp p fun d => { d with enter := 1 }) s

/-! ### Cable sensors and bins (R357, R358) -/

/-- A response of poll entry `e` of serial bus `b`, stamped `t`. -/
def sensorResponse (b e t : Nat) (data : List Byte) (s : State) : State :=
  each (pick 32 fun n => s.flag DP_SE_CFG_EN n && s.fld DP_SE_CFG_SB n == b && s.fld DP_SE_CFG_POLL n == e) (fun n s =>
    let len := 2 ^ s.fld DP_SE_CFG_LEN n
    let f := (data.drop (s.fld DP_SE_CFG_OFS n)).take len
    let s : State := { s with sensT := SMap.set none s.sensT n (some t) }
    if f.length < len then s else
      let u := if s.flag DP_SE_CFG_BE n then bytesBE f else bytesLE f
      let v : Int := if s.flag DP_SE_CFG_SIGNED n then signed (8 * len) u else u
      s.put .DP_SE_VAL n (f32.mul (f32.ofInt v) (s.get .DP_SE_K n))) s

/-- SE_STALE: no response for DP_SE_TO seconds (R357). -/
def sensorStale (n : Nat) (s : State) : State :=
  match SMap.get none s.sensT n with
  | some t =>
    if s.flag DP_SE_CFG_EN n && decide (t + 200000000 * s.fld DP_SE_TO_TO 0 ≤ s.T) then
      raiseLog 207 n noCause s.T [] (({ s with sensT := SMap.set none s.sensT n none } : State).put .DP_SE_VAL n f32.nan)
    else s
  | none => s

/-- The valid sensors of a bin. -/
def binSensors (s : State) (b : Nat) : List Word :=
  ((pick 32 fun n => s.flag DP_SE_CFG_EN n && s.fld DP_SE_CFG_BIN n == b).map (s.get .DP_SE_VAL ·)).filter
    fun w => !f32.isNaN w

/-- The ambient air of DP_AMB, where it is valid. -/
def ambient (s : State) : Option (Word × Word) :=
  if s.flag DP_AMB_EN 0 then
    match (s.pc (s.fld DP_AMB_TPC 0)).valid, (s.gc (s.fld DP_AMB_RHGC 0)).valid with
    | some t, some h => some (t.1, h.1)
    | _, _ => none
  else none

def binOpen (s : State) (b : Nat) : Bool := s.rbit .DP_AE_STAT b 0

/-- Opens or closes a bin's window once it has stood for its least time; a change raises E205. -/
def binMove (b : Nat) (want : Bool) (s : State) : State :=
  let now := s.binOpen b
  let least := if now then s.fld DP_AE_CFG_MIN_ON b else s.fld DP_AE_CFG_MIN_OFF b
  if want != now && decide (SMap.get 0 s.aeSince b + 6000000 * least ≤ s.tick) then
    raiseOf 205 b noCause (({ s with aeSince := SMap.set 0 s.aeSince b s.tick } : State).setRbit .DP_AE_STAT b 0 want)
  else s

/-- One bin (R358). HOT stands while a sensor is at or above ALARM; with HOT_FORCE it opens the window and keeps it open
whatever the other conditions (log 64). -/
def binEvaluate (b : Nat) (s : State) : State :=
  let l := s.binSensors b
  let hot := l.any fun w => f32.le (f32.ofInt (s.fld DP_AE_LIM_ALARM b)) w
  let was := s.rbit .DP_AE_STAT b 1
  let s := (s.setFld DP_AE_STAT_NSENS b l.length).setRbit .DP_AE_STAT b 1 hot
  let s := when (hot && !was) (raiseLog 206 b noCause s.T []) s
  match l, s.ambient with
  | _ :: _, some (ta, rh) =>
    let s := s.setRbit .DP_AE_STAT b 2 false
    let mean := meanOf l
    let me := s.equilibrium (s.fld DP_AE_CFG_CROP b) ta rh
    let rhOk := f32.le rh (f32.ofRat (s.fld DP_AE_LIM_RH_MAX b) 100)
    let meOk := f32.le (f32.ofRat (s.fld DP_AE_ME_ME_LO b) 100) me && f32.le me (f32.ofRat (s.fld DP_AE_ME_ME_HI b) 100)
    let force := hot && s.flag DP_AE_CFG_HOT_FORCE b
    let warm (dt : Nat) : Bool := f32.le (f32.add ta (f32.ofRat dt 10)) mean
    let dt := if s.binOpen b then s.fld DP_AE_LIM_DT_OFF b else s.fld DP_AE_LIM_DT_ON b
    binMove b (force || warm dt && rhOk && meOk) s
  | _, _ => binMove b false (s.setRbit .DP_AE_STAT b 2 true)

/-- BIN_EVALUATION: in a tick that starts on a whole minute (R358). -/
def binsEvaluate (s : State) : State :=
  if s.tick % 6000000 = 0 then each (pick 8 fun b => s.flag DP_AE_CFG_EN b) binEvaluate s else s

/-- The window's least time begins with the bin's enable (log 136). -/
def aeCfgStore (b : Nat) (v : Word) (s : State) : State :=
  let was := s.flag DP_AE_CFG_EN b
  let s := s.put .DP_AE_CFG b v
  if bitAt v 0 && !was then { s with aeSince := SMap.set 0 s.aeSince b (s.tick + 1) } else s

/-- A disabled sensor is not read; one that is enabled or moved reads NaN until its first response, and its age counts
from then (log 136). -/
def seCfgStore (n : Nat) (v : Word) (s : State) : State :=
  let o := s.get .DP_SE_CFG n
  let s := s.put .DP_SE_CFG n v
  if ((o ^^^ v) &&& 0x00003F07#32) = 0#32 then s
  else
    let from' := if bitAt v 0 then some s.Tn else none
    ({ s with sensT := SMap.set none s.sensT n from' } : State).put .DP_SE_VAL n f32.nan

/-! ### Contactor entries (R359) -/

def kcLane (s : State) (n : Nat) : Nat := 152 + s.fld DP_KC_CFG_LS n

def kcWant (s : State) (n : Nat) : Bool :=
  if s.flag DP_KC_CFG_SRC n then s.binOpen (s.fld DP_KC_CFG_BIN n) else s.rbit .DP_KC_REQ 0 n

/-- Whether a mark of the entry waits in its lane. -/
def kcPending (s : State) (n : Nat) : Bool :=
  let ln := s.kcLane n
  let l := s.lane ln
  (List.range l.fill).any fun i =>
    let m := s.markAt ln ((l.head + i) % lnDepth ln)
    mkHw m && mkTag m == n

/-- DP_KC_STAT as it reads. -/
def kcStat (s : State) (n : Nat) : Word :=
  putBit (putBit (s.get .DP_KC_STAT n) 0 (s.kcWant n)) 1 (s.flag DP_KC_CFG_EN n && s.kcPending n)

/-- Whether a lane is as R359 asks: a load-switch lane of the store block on a MAINS axis. -/
def kcLaneOk (s : State) (ln : Nat) : Bool :=
  decide (ln < 176) && s.lnEn ln && s.lnHw ln == 2 && s.axType (s.lnAx ln) == 4

def kcCfgStore (n : Nat) (v : Word) (s : State) : State :=
  let was := s.flag DP_KC_CFG_EN n
  if bitAt v 0 && !was && !s.kcLaneOk (152 + bitsOf v 12 8) then
    (s.put .DP_KC_CFG n (putBit v 0 false)).setFld DP_KC_STAT_REJ n 1
  else s.put .DP_KC_CFG n v

/-- Phase 3: demands that are written without phase timing. -/
def kcUntimed (s : State) : State :=
  each (s.kcDue.map (·.1)) (fun n s =>
    match SMap.get none s.kcDue n with
    | some b =>
      let s := setDemand (s.kcLane n) b { s with kcDue := SMap.set none s.kcDue n none }
      raiseOf 204 n noCause (((s.setFlag DP_KC_STAT_UNTIMED n true).incSat DP_KC_CNT_SW n).incSat DP_KC_CNT_UNT n)
    | none => s) s

/-- NOCONF and CLOSE_PH of an entry from what its lane's measurement gave; the phase of an edge is interpolated between
the axis positions of the ticks around it (log 65). -/
def kcConfirm (n : Nat) (s : State) : State :=
  let ln := s.kcLane n
  let s := match (s.lane ln).meas with
    | some (on, t0) =>
      if t0 + s.lnMeasLimit ln on < s.T then s.modLane ln fun l => { l with meas := none, noConf := true } else s
    | none => s
  let l := s.lane ln
  let s := s.modLane ln fun l => { l with conf := none, noConf := false }
  let s := match l.conf with
    | some t =>
      let i := s.lnAx ln
      let x0 := (s.ax i).prevX
      let x := x0 + diff48 (s.axPos i) x0 * ((t : Int) - (s.T - 2000)) / 2000
      (s.setFlag DP_KC_STAT_NOCONF n false).setFld DP_KC_STAT_CLOSE_PH n (unsig 16 x)
    | none => s
  if l.noConf then raiseLog 204 n noCause s.T [] (s.setFlag DP_KC_STAT_NOCONF n true) else s

/-- Places the entry's mark, or orders the demand to be written while the axis does not run. -/
def kcPlace (n : Nat) (s : State) : State :=
  let ln := s.kcLane n
  let want := s.kcWant n
  if want = s.lnDemand ln ∨ s.kcPending n then s
  else if s.axState (s.lnAx ln) ≠ 1 then { s with kcDue := SMap.set none s.kcDue n (some want) }
  else
    let ph : Int := if want then s.fld DP_KC_PH_PH_ON n else s.fld DP_KC_PH_PH_OFF n
    let i := s.lnAx ln
    let least := s.axPos i + predictSpan (s.axVel i) (s.axAcc i) (s.lnLead ln want) + 4096
    let c := -((ph - least) / 65536)
    let full := s.lnFull ln
    let s := lnHwPlace ln (markOf (wrap48 (c * 65536 + ph)) (if want then 1 else 2) false true 0 n 0#32 0#32) s
    if full then s else (s.setFlag DP_KC_STAT_UNTIMED n false).incSat DP_KC_CNT_SW n

/-- Phase 4 of the enabled contactor entries (KC_MARK_PLACE, KC_UNTIMED). -/
def kcPhase (s : State) : State :=
  each (pick 8 fun n => s.flag DP_KC_CFG_EN n && s.kcLaneOk (s.kcLane n)) (fun n s => kcPlace n (kcConfirm n s)) s

/-! ### Resets (R361) -/

def dpDomainReset (p : Nat) (s : State) : State :=
  let d := s.dp p
  let s := each (d.col ++ d.out) (fun a s => parcelFree p a s) s
  { s with dps := SMap.set {} s.dps p {}
           upd4 := (List.range 4).foldl (fun m i => SMap.set none m (Reg.DP_OUT.key (4 * p + i)) none) s.upd4 }

def storeDomainReset (s : State) : State := { s with sensT := [], aeSince := [], kcDue := [] }

end State
end Sys2Proof.Machine
end

