-- ==== Sys2Proof/Machine/Buses.lean ====
section
/-!
DEFINITION. Sys2Proof/Machine/Buses.lean: CAN FD controllers and serial buses (R365 to R391): receiving, transmitting,
errors and bus-off, poll entries and transactions.
-/

namespace Sys2Proof.Machine

namespace State

def can (s : State) (c : Nat) : Can := SMap.get {} s.cans c
def modCan (c : Nat) (f : Can → Can) (s : State) : State := { s with cans := SMap.set {} s.cans c (f (s.can c)) }
def sb (s : State) (b : Nat) : Sb := SMap.get {} s.sbs b
def modSb (b : Nat) (f : Sb → Sb) (s : State) : State := { s with sbs := SMap.set {} s.sbs b (f (s.sb b)) }

/-! ### CAN: state and causes -/

def canEn (s : State) (c : Nat) : Bool := s.flag CAN_CFG_EN c
/-- On its bus: enabled, or with a frame in hand whose end it leaves at (R389). -/
def canOn (s : State) (c : Nat) : Bool := s.canEn c || (s.can c).leave
/-- CAN_STAT.STATE: 0 OFF, 1 INTEGRATING, 2 ERROR_ACTIVE, 3 ERROR_PASSIVE, 4 BUS_OFF, 5 RECOVERING. -/
def canState (s : State) (c : Nat) : Nat := s.fld CAN_STAT_STATE c
/-- CAN_CFG.MODE: 0 NORMAL, 1 LISTEN, 2 LOOP. -/
def canMode (s : State) (c : Nat) : Nat := s.fld CAN_CFG_MODE c

/-- A cause of a controller; its record names TEC, REC and the identifier concerned (R391). -/
def canCause (c b t id : Nat) (s : State) : State :=
  let e := if b < 8 then 208 + 2 * c else 209 + 2 * c
  let s := cause .CAN_EVT .CAN_EVT_MASK c b e s
  when (b == 2 || b == 4 || b == 5 || b == 8 || b == 9) (log38 c b e t
    [BitVec.ofNat 32 (s.fld CAN_ERR_TEC c), BitVec.ofNat 32 (s.fld CAN_ERR_REC c), BitVec.ofNat 32 id]) s

/-- ERROR_ACTIVE, ERROR_PASSIVE and EWARN from the counters (R377). -/
def canLevels (c t : Nat) (s : State) : State :=
  let tec := s.fld CAN_ERR_TEC c
  let rec' := s.fld CAN_ERR_REC c
  let warn := decide (96 ≤ tec) || decide (96 ≤ rec')
  let s := when (warn && !s.flag CAN_STAT_EWARN c) (canCause c 0 t 0) s
  let s := s.setFlag CAN_STAT_EWARN c warn
  let pas := decide (128 ≤ tec) || decide (128 ≤ rec')
  if s.canState c = 2 ∧ pas then canCause c 1 t 0 (s.setFld CAN_STAT_STATE c 3)
  else if s.canState c = 3 ∧ !pas then s.setFld CAN_STAT_STATE c 2
  else s

/-! ### Receiving (R369 to R372) -/

/-- Data bytes of a frame: LEN of R370. -/
def canLen (f : CanFrame) : Nat := if f.rtr then 0 else if f.fdf then dlcLen f.dlc else min f.dlc 8

/-- The receive element of R370. -/
def canElement (s : State) (c : Nat) (r : CanRx) : List Word :=
  let f := r.frame
  let a := s.fld CAN_STAMP_AX_AX 0
  let x0 := if (s.ax a).tEn = s.T then (s.ax a).xOff else (s.ax a).prevX
  let d := diff48 (s.axPos a) x0
  let x := wrap48 (divRNE (x0 * 2000 + d * ((r.t : Int) - (s.T - 2000 : Nat))) 2000)
  let axv := s.axEn a
  let xw := if axv then unsig 48 x else 0
  let n := canLen f
  [BitVec.ofNat 32 (b2n f.fdf * 2 ^ 31 + b2n f.rtr * 2 ^ 30 + b2n f.ide * 2 ^ 29 + f.id % 2 ^ 29),
   BitVec.ofNat 32 (b2n r.echo * 2 ^ 31 + b2n f.brs * 2 ^ 30 + b2n f.esi * 2 ^ 29 + b2n axv * 2 ^ 28 + c * 2 ^ 24 +
     n * 2 ^ 16 + f.dlc % 16), loW r.t, hiW r.t, loW xw, hiW xw, BitVec.ofNat 32 r.seq, BitVec.ofNat 32 (r.tag % 65536)] ++
    packBytes ((f.data.take n ++ List.replicate 64 0#8).take 64)

/-- A frame is taken in: it gets its sequence number and waits for phase 4. -/
def canIntake (c t : Nat) (f : CanFrame) (echo : Bool) (tag : Nat) (s : State) : State :=
  let n := (s.get .CAN_CNT_RX c).toNat
  let s := s.put .CAN_CNT_RX c (BitVec.ofNat 32 (n + 1))
  let r : CanRx := { frame := f, echo := echo, tag := tag, t := t, seq := n }
  let s := recNote 0xD c t ((s.canElement c r).take 2 ++ packBytes (f.data.take (canLen f))) s
  canCause c 11 t 0 (s.modCan c fun q => { q with rx := q.rx ++ [r] })

/-- The yaw extractor (R91), with its rating (R99). -/
def yawFrame (c t : Nat) (f : CanFrame) (s : State) : State :=
  let o := s.fld AX_YAW_CAN_OFS 0
  let len := 2 ^ min 2 (s.fld AX_YAW_CAN_LEN 0)
  let id := s.fld AX_YAW_CANID_ID 0
  if s.fld AX_YAW_CAN_CTRL 0 == c && !f.rtr && f.ide == s.flag AX_YAW_CANID_IDE 0 &&
      f.id == (if f.ide then id else id % 2048) && decide (o + len ≤ canLen f) then
    let r := rateTake 50 1000 t s
    if r.2 then axOver 0 t r.1 else
      let d := (f.data.drop o).take len
      let u := if s.flag AX_YAW_CAN_BE 0 then bytesBE d else bytesLE d
      let v : Int := if s.flag AX_YAW_CAN_SIGNED 0 then signed (8 * len) u else u
      { r.1 with yaw := { r.1.yaw with can := some (f32.mul (f32.ofInt v) (s.get .AX_YAW_CANK 0), t) } }
  else s

/-- The counters after a frame received or sent without error, as ISO 11898-1 sets them (log 70). -/
def canRecOk (c t : Nat) (s : State) : State :=
  let r := s.fld CAN_ERR_REC c
  canLevels c t (s.setFld CAN_ERR_REC c (if 127 < r then 127 else r - 1))

/-- Phase 4: the tick's elements go to the receive queues (R372). -/
def canRxPhase (s : State) : State :=
  each (List.range 8) (fun c s =>
    let l := (s.can c).rx
    let s := when (!l.isEmpty) (modCan c fun q => { q with rx := [] }) s
    each l (fun r s =>
      let w := s.canElement c r
      let o := qOfferRaw c (fun _ => w) s
      if o.2 then o.1
      else canCause c 8 r.t r.frame.id (qLost c r.t (o.1.addSat CAN_CNT_ERR_RXDROP c 1))) s) s

/-! ### Transmitting (R373 to R376) -/

def canFifo (c f : Nat) : Nat := 8 + 2 * c + f

/-- The element at a FIFO's head, as words. -/
def fifoHead (s : State) (c f : Nat) : Option (List Word) :=
  let q := canFifo c f
  if s.qFill q = 0 then none else some (s.rdWords (s.qSlot q (s.qHead q)) 20)

/-- The head of a FIFO is removed; of a FIFO emptied meanwhile there is none (R375, R376). -/
def fifoPop (c f : Nat) (s : State) : State :=
  let q := canFifo c f
  if s.qFill q = 0 then s else qSetHead q ((s.qHead q + 1) % 65536) s

/-- Whether an element at a head is invalid (R373). -/
def elemBad (s : State) (c : Nat) (e : List Word) : Bool :=
  let a := e.getD 0 0#32
  let b := e.getD 1 0#32
  bitAt a 30 || (!bitAt a 29 && bitsOf a 28 11 != 0) || bitsOf b 15 5 != 0 || (bitAt a 31 && !s.flag CAN_CFG_FD_EN c) ||
    (bitAt b 4 && !bitAt a 31)

/-- The arbitration key (R374). -/
def elemKey (e : List Word) : Nat :=
  let a := e.getD 0 0#32
  if bitAt a 29 then bitsOf a 28 18 * 2 ^ 19 + 2 ^ 18 + bitsOf a 17 0 else bitsOf a 10 0 * 2 ^ 19

/-- Removes invalid elements at a FIFO's head, at most `n` of them. -/
def dropBad (c f : Nat) : Nat → State → State
  | 0, s => s
  | n + 1, s =>
    match s.fifoHead c f with
    | some e =>
      if s.elemBad c e then
        dropBad c f n (fifoPop c f (canCause c 9 s.T (bitsOf (e.getD 0 0#32) 28 0) (s.addSat CAN_CNT_TX_TXBAD c 1)))
      else s
    | none => s

/-- A bus idle: nothing is being received. -/
def canQuiet (c : Nat) (s : State) : State := when (s.fld CAN_STAT_ACT c == 1) (setFld · CAN_STAT_ACT c 0) s

/-- CAN_TX_OFFER: at bus idle the head of lower key is offered, FIFO A on equal keys; after a bus-off the frame in hand
first (R374, R378). -/
def canOfferHead (c : Nat) (s : State) : State :=
  if s.canEn c && (s.canState c == 2 || s.canState c == 3) && s.canMode c != 1 && (s.can c).tx.isNone &&
      !(s.can c).leave && !s.inReplay then
    let s := dropBad c 1 (s.qFill (canFifo c 1)) (dropBad c 0 (s.qFill (canFifo c 0)) s)
    let go (f : Nat) (e : List Word) (s : State) : State :=
      (s.modCan c fun q => { q with tx := some (f, e), retry := none }).setFld CAN_STAT_ACT c (2 + f)
    let first := (s.can c).retry.bind fun f => (s.fifoHead c f).map fun e => (f, e)
    match first, s.fifoHead c 0, s.fifoHead c 1 with
    | some (f, e), _, _ => go f e s
    | none, some a, some b => if elemKey b < elemKey a then go 1 b s else go 0 a s
    | none, some a, none => go 0 a s
    | none, none, some b => go 1 b s
    | none, none, none => s
  else s

/-- A FIFO is emptied (R376). -/
def fifoFlush (c f : Nat) (s : State) : State :=
  let q := canFifo c f
  (qSetHead q (s.qTail q) s).modCan c fun k => { k with retry := if k.retry = some f then none else k.retry }

/-- The own frame in hand ends, with the flushes that waited for that; the controller shows `act` (R376). -/
def canRest (c act : Nat) (s : State) : State :=
  let s := (s.modCan c fun q => { q with tx := none }).setFld CAN_STAT_ACT c act
  let k := s.can c
  let s := when k.flushA (fifoFlush c 0) s
  let s := when k.flushB (fifoFlush c 1) s
  s.modCan c fun q => { q with flushA := false, flushB := false }

/-- The bus is idle: a controller that was to leave it does (R389); one in RECOVERING counts on (R378). -/
def canIdle (c : Nat) (s : State) : State :=
  let s := canRest c 0 s
  let k := s.can c
  let s := s.modCan c fun q => { q with leave := false }
  when (k.leave && s.canState c != 5) (setFld · CAN_STAT_STATE c 0) s

/-- The start of another node's frame: the controller receives, and an attempt that was in arbitration has lost it (R375,
R389). -/
def canStart (c : Nat) (s : State) : State :=
  if s.canOn c && decide (2 ≤ s.canState c) && s.canMode c != 2 && !s.inReplay then canRest c 1 s else s

/-- A frame from the bus; an attempt that was in arbitration has lost it (R369, R375). -/
def canFrame (c t : Nat) (f : CanFrame) (s : State) : State :=
  if s.canOn c && decide (2 ≤ s.canState c) && s.canMode c != 2 && !s.inReplay then
    canIdle c (yawFrame c t f (canIntake c t f false 0 (canRecOk c t s)))
  else s

/-- CAN_FRAME_RECEIVED. -/
def canReceive (c t : Nat) (x : CanBusIn) (s : State) : State :=
  match x with
  | .start => canStart c s
  | .frame f => canFrame c t f s

/-- The frame that an element sends, as the controller takes its own frames in. -/
def elemFrame (e : List Word) (esi : Bool) : CanFrame :=
  let a := e.getD 0 0#32
  let b := e.getD 1 0#32
  let fdf := bitAt a 31
  let f : CanFrame := { fdf := fdf, ide := bitAt a 29, id := bitsOf a 28 0, brs := bitAt b 4, esi := fdf && esi,
                        dlc := bitsOf b 3 0 }
  { f with data := ((e.drop 4).flatMap wordBytes).take (canLen f) }

/-- TX_DONE: the frame in hand has been sent without error up to the last bit of end-of-frame (R375). `delay` is the
transmitter delay measured in an FD frame with BRS (R368). -/
def canTxDone (c t delay : Nat) (s : State) : State :=
  match (s.can c).tx with
  | some (f, e) =>
    let passive := s.canState c == 3
    let s := fifoPop c f (incMod s CAN_CNT_TX_TX c)
    let s := canLevels c t (s.setFld CAN_ERR_TEC c (s.fld CAN_ERR_TEC c - 1))
    let fr := elemFrame e passive
    let s := when (fr.fdf && fr.brs) (setFld · CAN_TDCR_DELAY c delay) s
    let s := when (s.flag CAN_CFG_TXECHO c || s.canMode c == 2)
      (fun s => yawFrame c t fr (canIntake c t fr true (bitsOf (e.getD 1 0#32) 31 16) s)) s
    canIdle c (canCause c 10 t fr.id s)
  | none => s

/-! ### Errors, bus-off and return (R377 to R380) -/

/-- The identifier of the frame in hand, 0 when there is none. -/
def canIdNow (s : State) (c : Nat) : Nat :=
  match (s.can c).tx with
  | some (_, e) => bitsOf (e.getD 0 0#32) 28 0
  | none => 0

/-- What an error adds to TEC, of a controller that sends, and to REC, of one that receives, as ISO 11898-1 sets them: 8
at a sender, but 0 where no dominant bit came with the passive flag after an ACK error and for a stuff error in
arbitration; 1 at a receiver, or 8. PRESUMED (log 70). -/
def canTecStep (s : State) (c code : Nat) (data ext : Bool) : Nat :=
  if ext && ((code == 3 && s.canState c == 3) || (code == 1 && !data)) then 0 else 8

/-- The counters move on an error; a bit error after winning arbitration with the own identifier always counts (R379). -/
def canMove (c code : Nat) (data coll : Bool) (x : CanErrIn) (s : State) : State :=
  if (s.can c).tx.isSome then
    s.setFld CAN_ERR_TEC c (min 256 (s.fld CAN_ERR_TEC c + if coll then 8 else s.canTecStep c code data x.ext))
  else s.addSat CAN_ERR_REC c (if x.ext then 8 else 1)

/-- The delay that a frame's error comes after the measurement of (R368). -/
def canDelay (c : Nat) (x : CanErrIn) (s : State) : State :=
  match (s.can c).tx, x.delay with
  | some (_, e), some d => when (bitAt (e.getD 0 0#32) 31 && bitAt (e.getD 1 0#32) 4) (setFld · CAN_TDCR_DELAY c d) s
  | _, _ => s

/-- CAN_PROTOCOL_ERROR: `code` is the LEC code, `data` the phase, `coll` tells that the controller had won arbitration
with its own identifier, which makes a bit error a collision (R379). A TEC above 255 is bus-off, whose recessive
sequences are counted at once (R377, R378). -/
def canError (c t code : Nat) (data won : Bool) (x : CanErrIn) (s : State) : State :=
  if s.canOn c && decide (2 ≤ s.canState c) then
    let id := s.canIdNow c
    let coll := won && (code == 4 || code == 5)
    let s := canDelay c x (s.setFld (if data then CAN_ERR_LEC_D else CAN_ERR_LEC_N) c code)
    let s := canCause c 6 t id (canMove c code data coll x s)
    let s := match (s.can c).tx with
      | some (_, e) =>
        if coll then
          let a := e.getD 0 0#32
          canCause c 4 t id ((s.addSat CAN_CNT_ERR_COLL c 1).put .CAN_COLL_ID c
            ((a &&& 0x1FFFFFFF#32) ||| (if bitAt a 29 then 0x80000000#32 else 0#32)))
        else s
      | none => s
    let s := canLevels c t s
    if 255 < s.fld CAN_ERR_TEC c ∧ s.canState c ≠ 5 then
      let hand := (s.can c).tx.map (·.1)
      let s := canCause c 2 t id ((s.setFld CAN_STAT_STATE c 5).addSat CAN_CNT_ERR_BUSOFF c 1)
      canIdle c (s.modCan c fun q => { q with retry := hand })
    else canIdle c s
  else s

/-- CAN_TX_OFFER: at bus idle a controller that was to leave its bus does, and any other offers (R374, R389). -/
def canOffer (c : Nat) (s : State) : State :=
  if s.inReplay || (s.can c).tx.isSome then s
  else if (s.can c).leave then canIdle c s
  else canOfferHead c (canQuiet c s)

/-- INTEGRATION_END: 11 consecutive recessive bits (R377). -/
def canIntegrated (c : Nat) (s : State) : State :=
  if s.canEn c && s.canState c == 1 then s.setFld CAN_STAT_STATE c 2 else s

/-- BUSON: the 128th recessive sequence (R378); a controller disabled meanwhile is off. -/
def canBusOn (c t : Nat) (s : State) : State :=
  if s.canState c = 5 then
    canCause c 3 t 0 (((s.setFld CAN_ERR_TEC c 0).setFld CAN_ERR_REC c 0).setFld CAN_STAT_STATE c (if s.canEn c then 2 else 0)
      |>.setFlag CAN_STAT_EWARN c false)
  else s

/-- TXD_TO: the transceiver's TXD dominant time-out (R380). -/
def canTxdTo (c t : Nat) (s : State) : State :=
  if s.canOn c then canCause c 5 t (s.canIdNow c) s else s

/-! ### CAN registers (R389) -/

/-- Why an enable is refused, 0 when it is not. -/
def canReject (s : State) (c : Nat) (v : Word) : Nat :=
  let nb := (s.fld CAN_NBT_NBRP c + 1) * (s.fld CAN_NBT_NSEG1 c + s.fld CAN_NBT_NSEG2 c + 3)
  let db := (s.fld CAN_DBT_DBRP c + 1) * (s.fld CAN_DBT_DSEG1 c + s.fld CAN_DBT_DSEG2 c + 3)
  let fd := bitAt v 9
  if nb < 40 ∨ s.fld CAN_NBT_NSEG1 c = 0 ∨ s.fld CAN_NBT_NSEG2 c < s.fld CAN_NBT_NSJW c then 1
  else if fd && (decide (db < 8) || decide (nb < db) || decide (s.fld CAN_DBT_DSEG2 c < s.fld CAN_DBT_DSJW c)) then 2
  else if fd && decide (db < 40) && !s.flag CAN_TDC_TDC_EN c then 3
  else if bitsOf v 5 4 = 3 then 4
  else 0

def canCfgErr (s : State) (c : Nat) (v : Word) : Bool := s.canEn c && (putBit v 0 true != s.get .CAN_CFG c)
/-- CAN_NBT, CAN_DBT and CAN_TDC are closed to change while EN reads 1. -/
def canLockErr (s : State) (r : Reg) (c : Nat) (v : Word) : Bool := s.canEn c && v != s.get r c

/-- CAN_ENABLE and CAN_DISABLE: off the bus at the next bus idle, which is now unless a frame is under way; an enable
before that idle keeps the controller on the bus. No write of EN ends RECOVERING before its time (R378). In replay a
controller stays off its bus. DESIGN CHOICE (log 137). -/
def canCfgStore (c : Nat) (v : Word) (s : State) : State :=
  let was := s.canEn c
  if bitAt v 0 && !was then
    let rej := s.canReject c v
    if rej ≠ 0 then raiseOf (208 + 2 * c) c noCause ((s.put .CAN_CFG c (putBit v 0 false)).setFld CAN_STAT_REJ c rej)
    else
      let s := (s.put .CAN_CFG c v).setFld CAN_STAT_REJ c 0
      if (s.can c).leave then s.modCan c fun q => { q with leave := false }
      else when (s.canState c != 5) (setFld · CAN_STAT_STATE c 1) s
  else if was && !bitAt v 0 then
    let s := s.put .CAN_CFG c v
    if (s.can c).tx.isSome || s.fld CAN_STAT_ACT c == 1 then s.modCan c fun q => { q with leave := true }
    else when (s.canState c != 5) (setFld · CAN_STAT_STATE c 0) s
  else s.put .CAN_CFG c v

/-- CAN_FLUSHA, CAN_FLUSHB and CAN_CCLR. -/
def canCtrlStore (c : Nat) (v : Word) (s : State) : State :=
  let s := when (bitAt v 2) (fun s => (s.put .CAN_CNT_TX c 0#32).put .CAN_CNT_ERR c 0#32) s
  let busy (f : Nat) : Bool := (s.can c).tx.any fun e => e.1 == f
  let s := when (bitAt v 0) (fun s => if busy 0 then s.modCan c fun q => { q with flushA := true } else fifoFlush c 0 s) s
  when (bitAt v 1) (fun s => if busy 1 then s.modCan c fun q => { q with flushB := true } else fifoFlush c 1 s) s

/-- A domain reset breaks off any frame in progress; frames taken in for the coming tick are still stored (R388). -/
def canDomainReset (c : Nat) (s : State) : State := s.modCan c fun q => { rx := q.rx }

/-! ### Serial buses (R381 to R386) -/

def sbEn (s : State) (b : Nat) : Bool := s.flag SB_CFG_EN b

def sbCause (b i : Nat) (s : State) : State := cause .SB_EVT .SB_EVT_MASK b i (224 + b) s

/-- An entry becomes due; one that is still due is counted and gives one transaction (R383). -/
def sbDue (b e : Nat) (s : State) : State :=
  if (s.sb b).due.contains e then sbCause b 6 (s.addSat SB_CNT2_SKIP b 1)
  else s.modSb b fun q => { q with due := q.due ++ [e] }

/-- SB_ENTRY_DUE: an enabled entry in a tick that starts on a multiple of its period. -/
def sbEntryDue (b e : Nat) (s : State) : State :=
  let per := s.fld SB_PE_CFG_PERIOD (64 * b + e)
  let done := (s.sb b).perTick == s.tick && (s.sb b).per.contains e
  if s.sbEn b && s.flag SB_PE_CFG_EN (64 * b + e) && per != 0 && s.tick % (1000 * per) == 0 && !done then
    sbDue b e (s.modSb b fun q => { q with perTick := s.tick, per := (if q.perTick = s.tick then q.per else []) ++ [e] })
  else s

/-- SB_TRIG0 and SB_TRIG1, for entries `base` on; an entry or bus that is not enabled is not scheduled. DESIGN CHOICE
(log 137). -/
def sbTrig (b base : Nat) (v : Word) (s : State) : State :=
  if s.sbEn b then
    each (pick 32 fun i => bitAt v i && s.flag SB_PE_CFG_EN (64 * b + base + i)) (fun i s => sbDue b (base + i) s) s
  else s

/-- One step of CRC-16/ARC: polynomial 0x8005, bit-reflected (R384). -/
def arcBit (c : Nat) : Nat := if c % 2 = 1 then (c / 2) ^^^ 0xA001 else c / 2
def arcByte (c : Nat) (b : Byte) : Nat := (List.range 8).foldl (fun c _ => arcBit c) (c ^^^ b.toNat)
def crcArc (l : List Byte) : Nat := l.foldl arcByte 0

/-- The request bytes of an entry, with their CRC where it is enabled. -/
def sbRequest (s : State) (i : Nat) : List Byte :=
  let d := (wordBytes (s.get .SB_PE_REQ0 i) ++ wordBytes (s.get .SB_PE_REQ1 i)).take (s.fld SB_PE_CFG_QLEN i)
  if s.flag SB_PE_CFG_CRC_EN i then
    let c := crcArc d
    d ++ [BitVec.ofNat 8 c, BitVec.ofNat 8 (c / 256)]
  else d

/-- Bits of a character: start, eight data bits, parity if any, one stop bit. -/
def sbBits (s : State) (b : Nat) : Nat := if s.fld SB_CFG_FMT b = 0 then 10 else 11

/-- SB_TRANSACTION_START: the lowest due entry, once MIN_GAP has passed (R383). An entry disabled while it is due waits
until it is enabled. DESIGN CHOICE (log 137). -/
def sbStart (b : Nat) (s : State) : State :=
  let q := s.sb b
  let div := s.fld SB_BAUD_DIV b
  let free := match q.endT with
    | some t => decide (t + s.fld SB_TIME_MIN_GAP b * div ≤ s.Tn)
    | none => true
  let due := pick 64 fun e => q.due.contains e && s.flag SB_PE_CFG_EN (64 * b + e)
  if s.sbEn b && q.tx.isNone && free then
    match due with
    | e :: _ =>
      let i := 64 * b + e
      let req := s.sbRequest i
      let off := s.Tn + div * (1 + s.sbBits b * req.length)
      let s := (s.setFlag SB_STAT_BUSY b true).setFld SB_STAT_ENTRY b e
      s.modSb b fun q => { q with
        due := q.due.filter (· != e)
        tx := some { entry := e, onT := s.Tn, offT := off, req := req, cfg := s.get .SB_PE_CFG i, wait := s.fld SB_TIME_TO b
                     gap := s.fld SB_TIME_GAP b, bit := div, char := s.sbBits b * div } }
    | [] => s
  else s

/-- At T_k: drivers that turn on; in replay none does (R448). -/
def sbPhase (s : State) : State :=
  if s.inReplay then s else each (List.range 4) (fun b s =>
    match (s.sb b).tx with
    | some x => if x.onT = s.T then s.setFlag SB_STAT_DRIVING b true else s
    | none => s) s

/-- The end of a transaction at the clock `t`. -/
def sbEnd (b t : Nat) (s : State) : State :=
  (s.setFlag SB_STAT_BUSY b false).modSb b fun q => { q with tx := none, endT := some t }

/-- SB_REQUEST_END: the last stop bit of the request; the driver turns off (R384). -/
def sbRequestEnd (b : Nat) (s : State) : State :=
  match (s.sb b).tx with
  | some x =>
    if !x.off && decide (x.offT < s.Tn) then
      let s := s.setFlag SB_STAT_DRIVING b false
      if bitsOf x.cfg 15 8 = 0 then sbEnd b x.offT s
      else s.modSb b fun q => { q with tx := some { x with off := true } }
    else s
  | none => s

/-- A transaction's outcome: STATUS 1 OK, 2 TIMEOUT, 3 CRC, 4 FRAME, 5 SHORT, 6 LONG. Its record waits for phase 4 of the
tick of its stamp (R385, R386). -/
def sbOutcome (b entry t status delay : Nat) (data : List Byte) (s : State) : State :=
  let d := data.take 240
  let s := recNote 0xE (64 * b + entry) t
    (BitVec.ofNat 32 (status * 2 ^ 28 + d.length * 2 ^ 16 + delay) :: packBytes d) s
  let q := s.sb b
  let w := [BitVec.ofNat 32 (status * 2 ^ 28 + entry * 2 ^ 16 + d.length), loW t, hiW t,
    BitVec.ofNat 32 (q.seq * 2 ^ 16 + delay)] ++ packBytes ((d ++ List.replicate 240 0#8).take 240)
  let s := s.modSb b fun q => { q with seq := modInc 16 q.seq, recs := q.recs ++ [(t, w)] }
  let s := if status = 1 then incMod s SB_CNT_OK b else s.incSat SB_CNT_ERR b
  let s := match status with
    | 2 => sbCause b 0 s
    | 3 => sbCause b 1 s
    | 4 => sbCause b 2 s
    | 5 => sbCause b 3 s
    | 6 => sbCause b 4 s
    | _ => s
  when (status == 1) (sensorResponse b entry t d) s

/-- The status of a response (R384, R385). -/
def sbStatus (cfg : Word) (bad : Bool) (d : List Byte) : Nat :=
  let rlen := bitsOf cfg 15 8
  let body := d.take (d.length - 2)
  if bad then 4
  else if !bitAt cfg 2 && decide (d.length < rlen) then 5
  else if decide (rlen < d.length) then 6
  else if bitAt cfg 3 && (decide (d.length < 2) || crcArc body != bytesLE (d.drop (d.length - 2))) then 3
  else 1

/-- Whether a response of `n` bytes, whose first start bit came `delay` clocks after the driver turned off, ends at `t`
(R384): at the stop bit of byte RLEN in fixed mode and of byte RLEN + 1 in gap mode, else GAP bit times after the last
byte's; and no silence between its bytes reached GAP. -/
def sbEndsAt (x : SbTx) (n delay t : Nat) : Bool :=
  let rlen := bitsOf x.cfg 15 8
  let silence := if n = rlen + b2n (bitAt x.cfg 2) then 0 else x.gap * x.bit
  let least := x.offT + delay + n * x.char + silence
  decide (least ≤ t) && decide (t ≤ least + (n - 1) * (x.gap * x.bit - 1))

/-- SB_RESPONSE_END at the clock `t`: the response's first start bit came `delay` clocks after the driver turned off;
`bad` tells of a framing or parity error in any byte. -/
def sbResponse (b t delay : Nat) (bad : Bool) (d : List Byte) (s : State) : State :=
  match (s.sb b).tx with
  | some x =>
    if x.off && !s.inReplay && decide (delay ≤ 20000 * x.wait) && !d.isEmpty && sbEndsAt x d.length delay t &&
        decide (d.length ≤ bitsOf x.cfg 15 8 + b2n (bitAt x.cfg 2)) then
      sbOutcome b x.entry t (sbStatus x.cfg bad d) (min 65535 (delay / 200)) d (sbEnd b t s)
    else s
  | none => s

/-- SB_TIMEOUT: no start bit within TO of the driver turning off. -/
def sbTimeout (b : Nat) (s : State) : State :=
  match (s.sb b).tx with
  | some x =>
    let t := x.offT + 20000 * x.wait
    if x.off && decide (t < s.Tn) && !s.inReplay then sbOutcome b x.entry t 2 65535 [] (sbEnd b t s) else s
  | none => s

/-- A SERIAL record of a replay ends the transaction of its entry (R446, R448). -/
def sbReplay (b entry t status delay : Nat) (d : List Byte) (s : State) : State :=
  sbOutcome b entry t status delay d (sbEnd b t s)

/-- A CAN record of a replay is taken in as the frame was (R446, R448). -/
def canReplay (c t : Nat) (f : CanFrame) (echo : Bool) (s : State) : State :=
  yawFrame c t f (canIntake c t f echo 0 s)

/-- In replay a transmit element is removed in the tick after it reaches its FIFO's head, and counted neither as sent nor
as an error (R448). -/
def canReplayDrain (s : State) : State :=
  each (List.range 16) (fun f s =>
    if s.qFill (8 + f) ≠ 0 ∧ SMap.get none s.canSeen f = some (s.qHead (8 + f)) then fifoPop (f / 2) (f % 2) s else s) s

/-- The elements that stand at the heads at the end of a tick of a replay. -/
def canReplayHeads (s : State) : State :=
  each (List.range 16) (fun f s =>
    { s with canSeen := SMap.set none s.canSeen f (if s.qFill (8 + f) = 0 then none else some (s.qHead (8 + f))) }) s

/-- STRAY: a byte arrives while no response is awaited; the receiver is off while the driver is on (R385). -/
def sbStray (b : Nat) (s : State) : State :=
  let awaited := (s.sb b).tx.any (·.off)
  if s.sbEn b && !awaited && !s.flag SB_STAT_DRIVING b && !s.inReplay then sbCause b 5 (s.addSat SB_CNT2_STRAY b 1) else s

/-- Phase 4: the tick's records go to their queues (R386). -/
def sbRecordPhase (s : State) : State :=
  each (List.range 4) (fun b s =>
    let l := (s.sb b).recs
    let s := when (!l.isEmpty) (modSb b fun q => { q with recs := [] }) s
    each l (fun r s =>
      let o := qOfferRaw (24 + b) (fun _ => r.2) s
      if o.2 then sbCause b 7 o.1 else qLost (24 + b) r.1 o.1) s) s

def sbCfgErr (s : State) (b : Nat) (v : Word) : Bool := s.sbEn b && (putBit v 0 true != s.get .SB_CFG b)
def sbBaudErr (s : State) (b : Nat) (v : Word) : Bool := s.sbEn b && v != s.get .SB_BAUD b

def sbCfgStore (b : Nat) (v : Word) (s : State) : State :=
  if bitAt v 0 && !s.sbEn b && bitsOf v 3 2 == 3 then (s.put .SB_CFG b (putBit v 0 false)).setFld SB_STAT_REJ b 1
  else s.put .SB_CFG b v

def sbCtrlStore (b : Nat) (v : Word) (s : State) : State :=
  when (bitAt v 0) (fun s => (s.put .SB_CNT b 0#32).put .SB_CNT2 b 0#32) s

/-- A domain reset ends any transaction without a record and empties the due set; records of ended transactions are still
written (R388). -/
def sbDomainReset (b : Nat) (s : State) : State := s.modSb b fun q => { recs := q.recs }

end State
end Sys2Proof.Machine
end

