-- ==== Sys2Proof/Machine/Queues.lean ====
section
/-!
DEFINITION. Sys2Proof/Machine/Queues.lean: the queue registers as masters write them (R393 to R397, R420), the end of a
tick for the event router (R399 to R402) with the event notices, and the snapshots (R53, R54).
-/

namespace Sys2Proof.Machine
namespace State

/-! ### Queue registers (R393 to R395, R420) -/

/-- First and last byte of a queue's area. -/
def qFirst (s : State) (q : Nat) : Nat := bitsOf (s.get .Q_BASE q) 31 4 * 16
def qLast (s : State) (q : Nat) : Nat := s.qFirst q + qSize q * s.qN q - 1

/-- Why an enable is refused (R393): 1 outside queue memory, 2 an overlap with another enabled queue, else 0. -/
def qReason (s : State) (q : Nat) : Nat :=
  if s.qFirst q < 0x01200000 ∨ 0x013FFFFF < s.qLast q then 1
  else if (List.range 48).any (fun p => p != q && s.flag Q_GEOM_EN p &&
      decide (s.qFirst p ≤ s.qLast q) && decide (s.qFirst q ≤ s.qLast p)) then 2
  else 0

/-- Q_GEOM as a write leaves it: POLICY exists on Q34 to Q37 and takes 0 or 1, OWNER of Q30 to Q37 is fixed. -/
def qGeomWord (s : State) (q : Nat) (v : Word) : Word :=
  let old := s.get .Q_GEOM q
  let w := putBits (putBits old 19 16 (bitsOf v 19 16)) 0 0 (bitsOf v 0 0)
  let w := if 34 ≤ q ∧ q ≤ 37 then putBits w 13 12 (if bitsOf v 13 12 = 1 then 1 else 0) else w
  if 30 ≤ q ∧ q ≤ 37 then w else putBits w 10 8 (bitsOf v 10 8)

/-- While EN reads 1 only EN may change (R393). -/
def qGeomErr (s : State) (q : Nat) (v : Word) : Bool :=
  s.flag Q_GEOM_EN q && s.qGeomWord q v != putBits (s.get .Q_GEOM q) 0 0 (bitsOf v 0 0)

/-- A stream frame carries no element that has left its queue (log 83). -/
def qUnheld (q n : Nat) (s : State) : State := { s with streamOut := SMap.set 0 s.streamOut q (s.qHeld q - n) }

/-- An accepted enable: HEAD and TAIL at 0. -/
def qStart (q : Nat) (s : State) : State :=
  qStat q (((s.setFld Q_HEAD_INDEX q 0).setFld Q_TAIL_INDEX q 0).qUnheld q 65535)

/-- A write of Q_GEOM. -/
def qGeomStore (q : Nat) (v : Word) (s : State) : State :=
  let was := s.flag Q_GEOM_EN q
  let s := s.put .Q_GEOM q (s.qGeomWord q v)
  if was || !bitAt v 0 then qStat q s
  else if s.qReason q = 0 then qStart q s
  else qStat q ((s.setFlag Q_GEOM_EN q false).setFld Q_STAT_REJ q (s.qReason q))

/-- Whether a write of Q_TAIL gets an error response (R393 to R395). -/
def qTailErr (s : State) (q : Nat) (v : Word) : Bool :=
  !s.flag Q_GEOM_EN q || qHwProd q || decide (32768 ≤ (bitsOf v 15 0 + 65536 - s.qTail q) % 65536)

/-- A software producer's write of Q_TAIL (R394): what fits is accepted, the newest elements are rejected. -/
def qTailStore (q stamp : Nat) (v : Word) (s : State) : State :=
  let d := (bitsOf v 15 0 + 65536 - s.qTail q) % 65536
  let a := min d (s.qN q - s.qFill q)
  let s := if a = 0 then s else qSetTail q ((s.qTail q + a) % 65536) s
  if a < d then qLost q stamp (qReject q (d - a) s) else s

/-- Whether a write of Q_HEAD gets an error response (R393, R395). -/
def qHeadErr (s : State) (q : Nat) (v : Word) : Bool :=
  !s.flag Q_GEOM_EN q || qHwCons q || decide (s.qFill q < (bitsOf v 15 0 + 65536 - s.qHead q) % 65536)

/-- A consumer's write of Q_HEAD (R395). -/
def qHeadStore (q : Nat) (v : Word) (s : State) : State :=
  let d := (bitsOf v 15 0 + 65536 - s.qHead q) % 65536
  qSetHead q (bitsOf v 15 0) (s.qUnheld q d)

/-- Q_CTRL: CCLR, then FLUSH, which on the CAN transmit FIFOs acts as CAN_CTRL does (R395, R420). -/
def qCtrlStore (q : Nat) (v : Word) (s : State) : State :=
  let s := when (bitAt v 0) (fun s => (s.put .Q_CNT q 0#32).setFlag Q_STAT_OVF q false) s
  if !bitAt v 1 then s
  else if 8 ≤ q ∧ q ≤ 23 then canCtrlStore ((q - 8) / 2) (BitVec.ofNat 32 (2 ^ ((q - 8) % 2))) s
  else qSetHead q (s.qTail q) (s.qUnheld q 65535)

/-- An error response that the queue engine meets for a queue (R397). -/
def qErr (q stamp : Nat) (detail : List Word) (s : State) : State :=
  log38 q (q % 12) (230 + 4 * (q / 12)) stamp detail (qCause q 2 (s.incSat Q_CNT_ERR q))

/-- What a domain reset of pages 0x6C to 0x6F adds to their registers' reset: contents and SEQ are lost (R418). -/
def qDomainReset (s : State) : State :=
  each (List.range 48) qStat { s with qseq := [], streamOut := [], cmdT := [] }

/-! ### Event router (R399 to R402) -/

/-- The routing byte of an event. -/
def evtRoute (s : State) (e : Nat) : Nat := bitsOf (s.get .ER_RTE (e / 4)) (8 * (e % 4) + 7) (8 * (e % 4))

/-- Whether the router took the event as asserted at the end of the last tick (ER_ACT). -/
def evtTaken (s : State) (e : Nat) : Bool := s.rbit .ER_ACT (e / 32) (e % 32)

/-- A stream element is lost (R394, R409): E246. -/
def streamLoss (q stamp : Nat) (s : State) : State := raiseLog 246 (q - 34) noCause stamp [] s

/-- Offers an element to a stream queue; one that is lost, rejected or dropped, raises E246. -/
def streamOffer (q stamp : Nat) (ws : Nat → List Word) (s : State) : State :=
  let full := s.flag Q_GEOM_EN q && decide (s.qN q ≤ s.qFill q)
  let r := qOfferRaw q ws s
  if r.2 then when full (streamLoss q stamp) r.1 else streamLoss q stamp (qLost q stamp r.1)

/-- The instance, the cause and the stamp that an event's notice names: those of the tick's first occurrence, with T_k
where it has no stamp, and none where no occurrence of the tick asserted the event (R396; DESIGN CHOICE, log 157). -/
def noticeOf (s : State) (e : Nat) : Nat × Nat × Nat :=
  match s.occs.find? fun o => o.evt == e with
  | some o =>
    let t := (s.occs.filter fun x => x.evt == e && x.inst == o.inst && x.cau == o.cau).findSome? (·.stamp)
    (o.inst, o.cau, t.getD s.T)
  | none => (0, noCause, s.T)

/-- The event notice of R396 for an event. -/
def notice (s : State) (e seq : Nat) : List Word :=
  let pairW (a b : Nat) : Word := BitVec.ofNat 32 (s.qFill a + 65536 * s.qFill b)
  let o := s.noticeOf e
  record 3 o.1 o.2.1 e o.2.2 [pairW 38 39, pairW 40 41] seq

/-- The notices of an event newly asserted, to every session enabled in ER_HSMASK (R402). -/
def noticeAll (e : Nat) (s : State) : State :=
  each (pick 4 fun i => s.rbit .ER_HSMASK 0 i) (fun i s => streamOffer (34 + i) (s.noticeOf e).2.2 (notice s e) s) s

/-- The router takes every event's state at the end of a tick: ER_ACT, the notices, the INT pins at T_(k+1). -/
def router (s : State) : State :=
  let on := pick 256 s.asserted
  let new := on.filter fun e => !s.evtTaken e && s.evtRoute e / 64 % 2 == 1
  let act (v : Nat) : Nat := (on.filter fun e => e / 32 == v).foldl (fun a e => a + 2 ^ (e % 32)) 0
  let s := each (List.range 8) (fun v s => s.put .ER_ACT v (BitVec.ofNat 32 (act v))) s
  let pin (p : Nat) : Bool := on.any fun e => s.evtRoute e / 8 % 2 == 1 && s.evtRoute e % 8 == p
  let s := s.setFld ER_INTSTAT_ACTIVE 0 ((pick 8 pin).foldl (fun a p => a + 2 ^ p) 0)
  each new noticeAll s

/-- Whether helper core `i`'s machine external interrupt is pending (R401). -/
def hcExternal (s : State) (i : Nat) : Bool := (pick 256 s.evtTaken).any fun e => s.evtRoute e / 2 ^ (4 + i) % 2 == 1

/-- ER_CLAIM as an identity reads it (R401). -/
def erClaim (s : State) (by' : Nat) : Word :=
  match (pick 256 s.evtTaken).find? fun e => decide (by' < 2) && s.evtRoute e / 2 ^ (4 + by') % 2 == 1 with
  | some e => BitVec.ofNat 32 e
  | none => 0x100#32

/-- The level of an INT pin (R400): true high; none released. -/
def intPin (s : State) (p : Nat) : Option Bool :=
  let act := s.rbit .ER_INTSTAT 0 p
  let high := act == s.rbit .ER_INTCFG 0 p
  if s.rbit .ER_INTCFG 0 (8 + p) && high then none else some high

/-! ### Views and snapshots (R46, R53, R54) -/

/-- The registers that hold the module time of a page's snapshot. -/
def timeRegs (p : Nat) : Option (Reg × Reg × Nat) :=
  match blockOf p with
  | some (.MD, _) => some (.MOD_TIME_LO, .MOD_TIME_HI, 0)
  | some (.AX, b) => some (.AX_PG_TIME_LO, .AX_PG_TIME_HI, p - b)
  | some (.FB, b) => some (.FB_PG_TIME_LO, .FB_PG_TIME_HI, p - b)
  | some (.VG, b) => some (.VG_PG_TIME_LO, .VG_PG_TIME_HI, p - b)
  | some (.LS, b) => some (.LS_PG_TIME_LO, .LS_PG_TIME_HI, p - b)
  | some (.PC, b) => some (.PC_PG_TIME_LO, .PC_PG_TIME_HI, p - b)
  | some (.GC, b) => some (.GC_PG_TIME_LO, .GC_PG_TIME_HI, p - b)
  | some (.ZC, _) => some (.ZC_PG_TIME_LO, .ZC_PG_TIME_HI, 0)
  | some (.LP, b) => some (.LP_PG_TIME_LO, .LP_PG_TIME_HI, p - b)
  | some (.DP, b) => some (.DP_PG_TIME_LO, .DP_PG_TIME_HI, p - b)
  | some (.CN, b) => some (.CAN_PG_TIME_LO, .CAN_PG_TIME_HI, p - b)
  | some (.SB, b) => some (.SB_PG_TIME_LO, .SB_PG_TIME_HI, p - b)
  | some (.MS, _) => some (.DP_ST_TIME_LO, .DP_ST_TIME_HI, 0)
  | some (.QE, b) => some (.Q_PG_TIME_LO, .Q_PG_TIME_HI, p - b)
  | some (.HC, b) => some (.HC_PG_TIME_LO, .HC_PG_TIME_HI, p - b)
  | _ => none

/-- The allocated pages. -/
def pages : List Nat := pick 128 fun p => (blockOf p).isSome

/-- What a snapshot of a page finds: its SN registers as they stand, with the ages and the time of the snapshot formed. -/
def snapSources (p : Nat) (s : State) : State :=
  let s := match timeRegs p with
    | some (lo, hi, i) => s.put64 lo hi i s.T
    | none => s
  match blockOf p with
  | some (.PC, b) => each (List.range 4) (fun j s => s.put .PC_CALAGE (4 * (p - b) + j) (s.pcAge (4 * (p - b) + j))) s
  | some (.VG, b) => each (List.range 8) (fun j s => s.put .VG_CAGE (8 * (p - b) + j) (s.vAge (8 * (p - b) + j))) s
  | _ => s

/-- The SN registers of a page among the listed ones. -/
def snOf (p : Nat) (m : SMap Word) : SMap Word :=
  m.filter fun e => let r := Reg.ofKey e.1; r.1.info.acc == .sn && regPage r.1 r.2 == p

/-- A snapshot of a page. -/
def snapPage (p : Nat) (s : State) : State :=
  let s := snapSources p s
  let gone := snOf p s.held
  let put' (e : Nat × Word) (h : SMap Word) : SMap Word := SMap.insert h e.1 e.2
  let h := each (snOf p s.regs) put' (gone.foldl (fun h e => SMap.erase h e.1) s.held)
  ({ s with held := h } : State).incMod PAGE_STAT_SNAP_CNT p

/-- The snapshots due at the end of the tick; one on page 0x00 takes every page (R54). -/
def snapAll (s : State) : State :=
  let l := if s.snapDue.contains 0 then pages else pages.filter s.snapDue.contains
  { each l snapPage s with snapDue := [] }

/-- The tick in which GO was applied has ended: replay time starts with T0 at the next tick's beginning, and RP_OFS holds
the module time counter less it (R447). -/
def replayClock (s : State) : State :=
  if s.replay.go then
    let t0 := s.get64 .RP_T0_LO .RP_T0_HI 0
    let ofs : Int := (s.Tn : Int) - t0
    let n := unsig 64 ofs
    let s := s.put64 .RP_OFS_LO .RP_OFS_HI 0 n
    { s with tick := t0 / 2000 - 1, replay := { s.replay with go := false, ofs := ofs }
             lss := s.lss.map fun e => (e.1, lsShift ofs e.2) }
  else s

/-- What ends with the present tick when its work is done: the router with the records that its notices make, the
snapshots, and EVT_RAW of its occurrences. -/
def endTick (s : State) : State :=
  let s := snapAll (logFlush (router (logFlush s)))
  let s := when s.inReplay canReplayHeads s
  let raw := s.regs.filter fun e => (Reg.ofKey e.1).1 != .EVT_RAW
  replayClock { s with regs := raw, closed := true, phase := 1, occs := [] }

end State
end Sys2Proof.Machine
end

