-- ==== Sys2Proof/Machine/Sha.lean ====
section
/-!
DEFINITION. Sys2Proof/Machine/Sha.lean: the tags of ZHA frames and primer images (R405, R426): the first 16 bytes of
HMAC-SHA-256, which the manual takes from FIPS 198-1 and FIPS 180-4. Words are numbers below 2^32.
-/

namespace Sys2Proof.Machine
namespace Sha

/-- PRESUMED (log 82). The constants of FIPS 180-4. -/
def k256 : List Nat := [
  0x428A2F98, 0x71374491, 0xB5C0FBCF, 0xE9B5DBA5, 0x3956C25B, 0x59F111F1, 0x923F82A4, 0xAB1C5ED5,
  0xD807AA98, 0x12835B01, 0x243185BE, 0x550C7DC3, 0x72BE5D74, 0x80DEB1FE, 0x9BDC06A7, 0xC19BF174,
  0xE49B69C1, 0xEFBE4786, 0x0FC19DC6, 0x240CA1CC, 0x2DE92C6F, 0x4A7484AA, 0x5CB0A9DC, 0x76F988DA,
  0x983E5152, 0xA831C66D, 0xB00327C8, 0xBF597FC7, 0xC6E00BF3, 0xD5A79147, 0x06CA6351, 0x14292967,
  0x27B70A85, 0x2E1B2138, 0x4D2C6DFC, 0x53380D13, 0x650A7354, 0x766A0ABB, 0x81C2C92E, 0x92722C85,
  0xA2BFE8A1, 0xA81A664B, 0xC24B8B70, 0xC76C51A3, 0xD192E819, 0xD6990624, 0xF40E3585, 0x106AA070,
  0x19A4C116, 0x1E376C08, 0x2748774C, 0x34B0BCB5, 0x391C0CB3, 0x4ED8AA4A, 0x5B9CCA4F, 0x682E6FF3,
  0x748F82EE, 0x78A5636F, 0x84C87814, 0x8CC70208, 0x90BEFFFA, 0xA4506CEB, 0xBEF9A3F7, 0xC67178F2]

/-- PRESUMED (log 82). The initial hash value of FIPS 180-4. -/
def h0 : List Nat := [0x6A09E667, 0xBB67AE85, 0x3C6EF372, 0xA54FF53A, 0x510E527F, 0x9B05688C, 0x1F83D9AB, 0x5BE0CD19]

def add (a b : Nat) : Nat := (a + b) % 4294967296
def rotr (n x : Nat) : Nat := x / 2 ^ n + x % 2 ^ n * 2 ^ (32 - n)
def xor3 (a b c : Nat) : Nat := Nat.xor (Nat.xor a b) c
def ch (x y z : Nat) : Nat := Nat.xor (Nat.land x y) (Nat.land (4294967295 - x) z)
def maj (x y z : Nat) : Nat := xor3 (Nat.land x y) (Nat.land x z) (Nat.land y z)
def big0 (x : Nat) : Nat := xor3 (rotr 2 x) (rotr 13 x) (rotr 22 x)
def big1 (x : Nat) : Nat := xor3 (rotr 6 x) (rotr 11 x) (rotr 25 x)
def small0 (x : Nat) : Nat := xor3 (rotr 7 x) (rotr 18 x) (x / 8)
def small1 (x : Nat) : Nat := xor3 (rotr 17 x) (rotr 19 x) (x / 1024)

/-- The eight working variables. -/
structure V where
  a : Nat
  b : Nat
  c : Nat
  d : Nat
  e : Nat
  f : Nat
  g : Nat
  h : Nat
deriving DecidableEq, Repr

/-- One round with its constant and schedule word. -/
def round (v : V) (k w : Nat) : V :=
  let t1 := (v.h + big1 v.e + ch v.e v.f v.g + k + w) % 4294967296
  let t2 := add (big0 v.a) (maj v.a v.b v.c)
  ⟨add t1 t2, v.a, v.b, v.c, add v.d t1, v.e, v.f, v.g⟩

/-- The rounds over the constants; `w` is the window of the next sixteen schedule words. -/
def rounds : List Nat → List Nat → V → V
  | [], _, v => v
  | k :: ks, w, v =>
    match w with
    | [] => v
    | x :: r =>
      let n := (small1 (w.getD 14 0) + w.getD 9 0 + small0 (w.getD 1 0) + x) % 4294967296
      rounds ks (r ++ [n]) (round v k x)

/-- The hash value after one block of sixteen words. -/
def block (v : V) (w : List Nat) : V :=
  let u := rounds k256 w v
  ⟨add v.a u.a, add v.b u.b, add v.c u.c, add v.d u.d, add v.e u.e, add v.f u.f, add v.g u.g, add v.h u.h⟩

/-- Words of a list of bytes, most significant byte first. -/
def words : List Byte → List Nat
  | a :: b :: c :: d :: r => (a.toNat * 16777216 + b.toNat * 65536 + c.toNat * 256 + d.toNat) :: words r
  | _ => []

/-- The blocks of a message of `n` blocks, one after another. -/
def blocks : Nat → List Nat → V → V
  | 0, _, v => v
  | n + 1, w, v => blocks n (w.drop 16) (block v (w.take 16))

def byteOf (x i : Nat) : Byte := BitVec.ofNat 8 (x / 2 ^ (8 * i))

/-- `n` bytes of a number, most significant byte first. -/
def bytesOf (n x : Nat) : List Byte := (List.range n).map fun i => byteOf x (n - 1 - i)

/-- The message with its padding. -/
def padded (m : List Byte) : List Byte :=
  m ++ [0x80#8] ++ List.replicate ((119 - m.length % 64) % 64) 0#8 ++ bytesOf 8 (8 * m.length)

def hash (m : List Byte) : List Byte :=
  let p := padded m
  let i : V := ⟨h0.getD 0 0, h0.getD 1 0, h0.getD 2 0, h0.getD 3 0, h0.getD 4 0, h0.getD 5 0, h0.getD 6 0, h0.getD 7 0⟩
  let v := blocks (p.length / 64) (words p) i
  [v.a, v.b, v.c, v.d, v.e, v.f, v.g, v.h].flatMap (bytesOf 4)

/-- HMAC (FIPS 198-1) with a key of at most 64 bytes. -/
def hmac (key m : List Byte) : List Byte :=
  let k := key ++ List.replicate (64 - key.length) 0#8
  hash (k.map (· ^^^ 0x5C#8) ++ hash (k.map (· ^^^ 0x36#8) ++ m))

/-- The tag of R405 and R426: the first 16 bytes. -/
def tag (key m : List Byte) : List Byte := (hmac key m).take 16

end Sha
end Sys2Proof.Machine
end

