-- ==== Sys2Proof/Machine/Boot.lean ====
section
/-!
DEFINITION. Sys2Proof/Machine/Boot.lean: start-up, the primer image, release, the reset classes and domains, the dust
sheet, the supervisor, fault reactions and the debug halt, the MRAM controller, and the states of the helper cores
(R47, R415, R416, R424 to R442).
-/

namespace Sys2Proof.Machine
namespace State

/-! ### The end of a tick (R13, R15) -/

/-- Step results whose fixed tick d + 64 the present tick is are applied in it at the latest (R15, R153). -/
def stepsDue (s : State) : State := each s.geo.steps (fun _ s => stepResults s) s

/-- Results of loops whose tick k + 8 the present tick is likewise, in ascending loop order (R15, R317). -/
def loopsDue (s : State) : State := each s.lps (fun e s => lpApply e.1 s) s

/-- The end of the present tick: commands of the next tick find it closed, work of its own phase 4 does not close it
(log 81). -/
def closeTick (s : State) : State := if s.closed then s else endTick (lsSense (modelApply (loopsDue (stepsDue s))))

/-! ### Where registers stand (R43 to R46) -/

/-- The instance of a layout row at an offset of a page. -/
def rowAt (p off : Nat) (r : LayRow) : Option (Reg × Nat) :=
  if r.page0 ≤ p ∧ p ≤ r.page1 ∧ r.off ≤ off ∧ (off - r.off) % r.stride = 0 ∧ (off - r.off) / r.stride < r.n then
    some (r.reg, r.base + (p - r.page0) * r.per + (off - r.off) / r.stride)
  else none

/-- The register at an offset of a page's base view; none for a reserved offset or page. -/
def regAt (p off : Nat) : Option (Reg × Nat) :=
  match blockOf p with
  | some (b, _) => (if off < 0x40 then layoutHeader else b.layout).findSome? (rowAt p off)
  | none => none

/-- Registers of the common page header. -/
def inHeader (r : Reg) : Bool := decide (r.info.off < 0x40)

/-- What the primer image may supply of a register's value (the reset columns of the register tables). -/
def imgMask (r : Reg) (i : Nat) : Word :=
  match r with
  | .PR_OWNER => 7#32
  | .PR_MEM_BASE => 0xFFFFF000#32
  | .PR_MEM_LIM => 0xFFFFF000#32
  | .PR_MEM_ACC => 0x8000FFFF#32
  | .PR_PAGE_ACC => 0xFFFFFFFF#32
  | .ER_RTE => 0x7F7F7F7F#32
  | .ER_INTCFG => 0xFFFF#32
  | .ER_HSMASK => 0xF#32
  | .Q_BASE => 0xFFFFFFF0#32
  | .Q_GEOM => if 30 ≤ i ∧ i < 38 then 0xF0001#32 else 0xF0701#32
  | .HL_PCFG => 3#32
  | .HL_IP => 0xFFFFFFFF#32
  | .HL_MASK => 0xFFFFFFFF#32
  | .HL_UDP => 0xFFFF#32
  | .HL_MAC_LO => 0xFFFFFFFF#32
  | .HL_MAC_HI => 0xFFFF#32
  | .HL_SPI_CFG => 1#32
  | .HL_SCFG => 7#32
  | .HL_SPEER => 0xFFFFFFFF#32
  | .HL_SPORT => 0xFFFF#32
  | .HC_CFG => 1#32
  | .MOD_IMG => 0xFFFFFFFF#32
  | .DG_CFG => 1#32
  | .GUARD_STAT => if i = 0 then 0#32 else 1#32
  | _ => 0#32

/-- The identity of the owner (R24, R59). -/
def owner (s : State) : Nat := s.fld PR_OWNER_OWNER 0

/-- A right of a page, two bits of a table word; the entries of reserved pages read 0b00 (R64). -/
def accMask (k : Nat) : Word :=
  BitVec.ofNat 32 ((pick 16 fun j => (blockOf (16 * k + j)).isSome).foldl (fun a j => a + 3 * 4 ^ j) 0)

/-- A register value that the primer image supplies becomes the register's reset value and its present value. -/
def imgPut (r : Reg) (i : Nat) (v : Word) (s : State) : State :=
  let m := if r = .PR_PAGE_ACC then accMask (i % 16) else imgMask r i
  let w := (r.resetAt i &&& ~~~ m) ||| (v &&& m)
  ({ s with img := SMap.set (r.resetAt i) s.img (r.key i) w } : State).put r i w

/-- The configuration of an image is loaded (R424, R427): registers, guard modes, keys and cores' programs. -/
def imgLoad (base : Nat) (m : Image) (s : State) : State :=
  let s := each m.regs (fun e s =>
    match regAt (e.1 / 4096) (e.1 % 4096) with
    | some (r, i) => if imgMask r i = 0#32 then s else imgPut r i e.2 s
    | none => s) s
  let s := each (m.sticky.filter fun p => (blockOf p).isSome && p != 0) (fun p s => imgPut .GUARD_STAT p 1#32 s) s
  let s := imgPut .MOD_IMG 0 (s.rdWord (base + 8)) s
  let s := each (List.range 4) (fun i s =>
    { s with sess := SMap.set {} s.sess i { SMap.get {} s.sess i with key := m.keys.getD i [] } }) s
  let core (i : Nat) (s : State) : State :=
    let b := ((m.cores.getD i none).getD []).take 262144
    let s : State := { s with hcs := SMap.set {} s.hcs i { SMap.get {} s.hcs i with image := (m.cores.getD i none).isSome } }
    { s with hcImg := (b.foldl (fun e x => (SMap.set 0#8 e.1 (262144 * i + e.2) x, e.2 + 1)) (s.hcImg, 0)).1 }
  let s := core 1 (core 0 s)
  each (List.range 48) qStat { s with hcMem := s.hcImg }

/-! ### Helper cores (R56, R415, R416) -/

def hc (s : State) (i : Nat) : Hc := SMap.get {} s.hcs i
def modHc (i : Nat) (f : Hc → Hc) (s : State) : State := { s with hcs := SMap.set {} s.hcs i (f (s.hc i)) }
def hcState (s : State) (i : Nat) : Nat := s.fld HC_STAT_STATE i
def frozen (s : State) (m : Nat) : Bool := s.rbit .PR_FROZEN 0 m

/-- Every open key of a master is withdrawn (R56). -/
def keysOff (m : Nat) (s : State) : State :=
  each (pages.filter fun p => s.flag GUARD_STAT_OPEN p && s.fld GUARD_STAT_OPEN_MASTER p == m)
    (fun p s => s.setFlag GUARD_STAT_OPEN p false) s

/-- The local memory of a core as the primer image holds it. -/
def hcReload (i : Nat) (s : State) : State :=
  let mine (e : Nat × Byte) : Bool := e.1 / 262144 == i
  let m := s.hcMem.filter fun e => !mine e
  { s with hcMem := (s.hcImg.filter mine).foldl (fun m e => SMap.set 0#8 m e.1 e.2) m }

/-- A core starts at 0x1000_0000 with its registers and CSRs reset; its watchdog's count restarts. DESIGN CHOICE (log
153): a reset register or CSR of a core is 0. -/
def hcStart (i : Nat) (s : State) : State :=
  ((s.setFld HC_STAT_STATE i 1).setFlag HC_STAT_LOADING i false).modHc i fun c =>
    { image := c.image, mtimecmp := c.mtimecmp, timer := c.timer, wdtT := s.T }

/-- A core takes an exception raised at `pc`: mepc, mcause and mtval are written, the interrupt enable is stacked, and
it goes on at its trap handler. PRESUMED (log 153): the trap entry of the RISC-V privileged specification, which the
manual names and does not give. -/
def hcEnter (i : Nat) (pc cause tval : Word) (s : State) : State :=
  s.modHc i fun c => { c with
    mepc := pc, mcause := cause, mtval := tval, pc := c.mtvec &&& 0xFFFFFFFC#32
    mstatus := putBits (putBit (putBit c.mstatus 7 (bitAt c.mstatus 3)) 3 false) 12 11 3 }

/-- A core leaves RUN for the halt `st`: HC_PC, HC_CAUSE and HC_TVAL are taken; its keys are withdrawn in every halt
state but DEBUG, 6 (R56). -/
def hcHalt (i st : Nat) (pc : Word) (s : State) : State :=
  let c := s.hc i
  let s := s.modHc i fun c => { c with pc := pc }
  when (st != 6) (keysOff i) ((((s.setFld HC_STAT_STATE i st).put .HC_PC i pc).put .HC_CAUSE i c.mcause).put .HC_TVAL i c.mtval)

/-- Where a core stands as it halts: a value the manual leaves open (log 12, log 85). -/
def corePc (s : State) : Word × State := (Config.accessWord s.acc, { s with acc := s.acc + 1 })

/-- The detail of a core's halt record. -/
def hcDetail (s : State) (i : Nat) : List Word := [s.get .HC_PC i, s.get .HC_CAUSE i, s.get .HC_TVAL i]

/-- A frozen core halts at the clock `t` (R67, R415); the PC it stands at is a free value (log 85). -/
def hcFreeze (i t : Nat) (s : State) : State :=
  if s.hcState i = 1 then
    let f := s.corePc
    let s := hcHalt i 5 f.1 f.2
    raiseLog (248 + i) i noCause t (s.hcDetail i) s
  else s.setFld HC_STAT_STATE i 5

/-- HC_RUN.RUN = 1 (R415): without effect on a running core, on one without image and in DEBUG; RELOAD reloads first. -/
def hcRun (i : Nat) (reload : Bool) (s : State) : State :=
  if s.hcState i = 1 ∨ s.hcState i = 6 ∨ (s.hc i).image = false ∨ s.flag HC_STAT_LOADING i = true then s
  else if reload then s.setFlag HC_STAT_LOADING i true
  else hcStart i s

/-- A reload is done: the core starts, unless it has been frozen since (R67, R415). -/
def hcReloadDone (i : Nat) (s : State) : State :=
  if s.flag HC_STAT_LOADING i then
    let s := hcReload i s
    if s.frozen i then s.setFlag HC_STAT_LOADING i false else hcStart i s
  else s

/-- A domain reset of page 0x72 + i (R418): RESET, then AUTOSTART. -/
def hcDomainReset (i : Nat) (s : State) : State :=
  let c := s.hc i
  let s := hcReload i (keysOff i (s.modHc i fun _ => { image := c.image }))
  if s.frozen i then s.setFld HC_STAT_STATE i 5
  else if s.flag HC_CFG_AUTOSTART i && c.image then hcStart i s else s

/-! ### Module status -/

/-- MOD_STAT.RLS_BLOCK (R430, R451). -/
def rlsUpdate (s : State) : State :=
  let n := b2n (s.fld MOD_STAT_BOOT 0 != 1) + 2 * b2n (s.boot.rst == 4) + 4 * b2n s.boot.vbatLow +
    8 * b2n (s.fld MOD_STAT_RMODE 0 == 2 && s.fld RP_STAT_STATE 0 != 4) + 16 * b2n (s.flag MOD_STAT_HALT 0)
  s.setFld MOD_STAT_RLS_BLOCK 0 n

/-- nRST_OUT (R425, R438): driven low until the primer image is verified or FAILSAFE is entered. -/
def nRstOut (s : State) : Bool := !(s.boot.rst != 0 && s.boot.rst != 4) && s.boot.rstEnd.isNone &&
  s.fld MOD_STAT_BOOT 0 != 0 && !s.boot.hbReset

/-! ### The dust sheet (R433, R434) and release (R430) -/

/-- The outputs enter the dust sheet at the clock `t`. -/
def dustIn (t : Nat) (s : State) : State :=
  aoDust (vgDust t (pgDust t ((s.setFlag MOD_STAT_DUST 0 true).setFlag MOD_STAT_RELEASED 0 false)))

/-- An accepted release, applied in tick `k`. -/
def releaseNow (k : Nat) (s : State) : State :=
  let s := (s.setFlag MOD_STAT_RELEASED 0 true).setFlag MOD_STAT_DUST 0 false
  let s : State := { s with relTick := k, vgroups := s.vgroups.map fun e => (e.1, { e.2 with hbDust := false }) }
  let s := raise 2 s
  lpRelease (aoRelease k (vgRelease (2000 * k) (pgRelease k s)))

/-! ### Fault reactions and the debug halt (R435 to R440) -/

/-- The debug halt takes effect (R253, R440). -/
def haltNow (s : State) : State :=
  if s.flag MOD_STAT_HALT 0 then s
  else
    let s := ((s.setFlag MOD_STAT_HALT 0 true).setFlag DG_STAT_HALT 0 true).setFlag PG_STAT_HALT 0 true
    let s := lpHalt (dustIn s.Tn s)
    let s := raiseLog 254 0 noCause s.Tn [] (raiseLog 133 0 noCause s.Tn [] s)
    rlsUpdate (faultReact 5 0 s.Tn s)

/-- The debug halt ends; the outputs stay in the dust sheet. -/
def haltEnd (s : State) : State :=
  if s.boot.dbgLow then s
  else rlsUpdate ((s.setFlag MOD_STAT_HALT 0 false).setFlag DG_STAT_HALT 0 false)

/-- A valve power die has had no tick for 20 ms (R438). -/
def dieSilent (d : Nat) (s : State) : State :=
  let t := s.Tn
  let s := s.setFld SUP_STAT_DIE_HB 0 (s.fld SUP_STAT_DIE_HB 0 ||| 2 ^ d)
  let s := vgDieDust d t true s
  let s := each (List.range 6) (fun j s => s.setFlag BP_STAT_HIZ (6 * d + j) true) s
  faultReact 2 d t s

/-! ### Reset classes (R431, R432) -/

/-- Registers of the load switches that every reset of the main die keeps (R274). -/
def lsKept (r : Reg) : Bool :=
  (lsChanRegs ++ lsGlobRegs ++ [Reg.LS_PG_TIME_LO, Reg.LS_PG_TIME_HI]).contains r && !lsResetRegs.contains r

/-- What a register reads after a reset of the whole module, before the primer image is loaded: `mod` for a module reset,
which keeps page 0x78. -/
def afterReset (mod : Bool) (e : Nat × Word) : Option (Nat × Word) :=
  let ri := Reg.ofKey e.1
  let r := ri.1
  let keep : Bool := lsKept r || (mod && regPage r ri.2 == 0x78 && r != .GUARD_STAT)
  let v : Word := match r with
    | .LN_CMD => if ri.2 = 4 then e.2 &&& 0xFF000000#32 else if ri.2 = 5 then e.2 &&& 0xFFFF#32 else 0#32
    | .SUP_STAT => if mod then e.2 &&& 0x1EF#32 else 0#32
    | .VG_DIESTAT => e.2
    | _ => if keep then e.2 else r.resetAt ri.2
  if v = r.resetAt ri.2 then none else some (e.1, v)

/-- VG_DIESTAT after a reset: SHUT is cleared and stands again while the die is hot (R432). -/
def dieStatReset (s : State) : State :=
  s.setFld VG_DIESTAT_SHUT 0 (s.fld VG_DIESTAT_SHUT 0 &&& s.fld VG_DIESTAT_HOT 0)

/-- SRAM and MRAM after a reset: the MRAM stays, and after a pin or a module reset the general area (R432). -/
def memAfter (por : Bool) (m : SMap Byte) : SMap Byte :=
  m.filter fun e => decide (0x02000000 ≤ e.1) || (!por && decide (0x01178000 ≤ e.1) && decide (e.1 < 0x01200000))

/-- The state a reset of class `cls` (0 power-on, 1 pin, 2 module) enters, with the causes that MOD_RST_CAUSE will show.
-/
def resetTo (cls causes : Nat) (s : State) : State :=
  let mod := cls == 2
  let s := when (!mod) (lsThrough (s.T + s.replay.ofs)) (lsReplayEnd s)
  let raw : Nat := if mod then ((s.tick : Int) + s.replay.ofs / 2000).toNat else 0
  let count := if mod then satInc 16 (s.fld MOD_RST_CAUSE_COUNT 0) else 0
  let wr := match s.mm.cmd with | some (1, _, _) => true | _ => false
  let hb := s.vgroups.filterMap fun e => if e.2.hbDust then some (e.1, { hbDust := true : VGroup }) else none
  let n : State :=
    { pending := s.pending, tick := raw, acc := s.acc, resp := s.resp, out := s.out, imgKey := s.imgKey
      regs := s.regs.filterMap (afterReset mod)
      held := s.held.filter fun e => lsKept (Reg.ofKey e.1).1 ||
        (mod && regPage (Reg.ofKey e.1).1 (Reg.ofKey e.1).2 == 0x78)
      mem := memAfter (cls == 0) s.mem
      lss := s.lss, lsDown := s.lsDown, lsOsc := s.lsOsc, vgroups := hb
      boot := { rst := if mod then 0 else if cls = 1 then 2 else 1, cls := cls, vbatLow := s.boot.vbatLow,
                dbgLow := s.boot.dbgLow, hbReset := s.boot.hbReset, slot := s.fld MOD_STAT_SLOT 0 } }
  let n := (n.setFld MOD_RST_CAUSE_CAUSE 0 causes).setFld MOD_RST_CAUSE_COUNT 0 count
  let n := if wr then n.setFld MM_STAT_RESULT 0 3 else n
  rlsUpdate (dieStatReset (lsPins (each (List.range 24) lsShow n)))

/-! ### Recording: the ring (R443) -/

/-- Writes one element of record words; one that meets a full ring is lost. -/
def recElement (ws : List Word) (cont : Bool) (s : State) : State :=
  let n := 2 ^ s.fld RP_REC_GEOM_LOG2N 0
  let h := s.fld RP_REC_HEAD_INDEX 0
  let t := s.fld RP_REC_TAIL_INDEX 0
  let seq := s.recorder.rseq
  let s : State := { s with recorder := { s.recorder with rseq := modInc 16 seq } }
  if n ≤ (t + 65536 - h) % 65536 then
    let s : State := { s with recorder := { s.recorder with loss := true } }
    rpCause 1 s.T [] (s.incSat RP_CNT_LOST 0)
  else
    let w1 := seq * 65536 + ws.length * 256 + 2 * b2n s.recorder.loss + b2n cont
    let a := (s.get .RP_REC_BASE 0).toNat / 128 * 128 + 128 * (t % n)
    let s := s.wrWords a ([0x20010000#32, BitVec.ofNat 32 w1] ++ (ws ++ List.replicate 30 0#32).take 30)
    let s : State := { s with recorder := { s.recorder with loss := false } }
    s.setFld RP_REC_TAIL_INDEX 0 ((t + 1) % 65536)

/-- Cuts the record words of a tick into elements; `ends` are the places where records end (log 86). -/
def recCut : Nat → Nat → List Nat → List Word → State → State
  | 0, _, _, _, s => s
  | n + 1, at', ends, ws, s =>
    match ws with
    | [] => s
    | _ =>
      let here := at' + min 30 ws.length
      recCut n here ends (ws.drop 30) (recElement (ws.take 30) (!ends.contains here) s)

/-- The records of the tick are written to the ring (RECORD_ELEMENT_WRITE). -/
def recWrite (s : State) : State :=
  let rs := s.recorder.recs
  let s : State := { s with recorder := { s.recorder with recs := [], ord := 0 } }
  let ends := (rs.foldl (fun a r => (a.1 + r.length, a.2 ++ [a.1 + r.length])) ((0, []) : Nat × List Nat)).2
  let ws := rs.flatten
  recCut ws.length 0 ends ws s

/-- CRC-32 over the tile directory and every used raster slot, in ascending slot order (R446, log 87). -/
def maskCrc (s : State) : Word :=
  let used := ((List.range 32640).map fun e => s.rdWord (dirBase + 0x404 + 8 * e)).filterMap
    fun w => if bitAt w 31 then some (bitsOf w 14 0) else none
  let slots := pick 24576 fun q => used.contains q
  crc32 (s.rdBytes dirBase 262144 ++ slots.flatMap fun q => s.rdBytes (slotAddr q) 512)

/-! ### The primer image (R426 to R428) -/

def imgSlot (slot : Nat) : Nat := 0x02C00000 + 0x100000 * slot

/-- The image names exactly one owner, and not DBG (R24): it gives PR_OWNER once, with an identity below 7. -/
def ownerOk (m : Image) : Bool :=
  match m.regs.filter fun e => regAt (e.1 / 4096) (e.1 % 4096) == some (.PR_OWNER, 0) with
  | [e] => bitsOf e.2 2 0 != 7
  | _ => false

/-- Verification of a slot (R427): MAGIC, LEN and FORMAT, the tag under the image key, and the checks of the body. -/
def imgOk (s : State) (slot : Nat) (bodyOk : Bool) : Bool :=
  let b := imgSlot slot
  let len := (s.rdWord (b + 4)).toNat
  s.rdWord b == 0x50524931#32 && decide (256 ≤ len) && decide (len ≤ 1048576) && len % 16 == 0 &&
  s.rdWord (b + 12) == 0x00010000#32 &&
  (match s.imgKey with
   | some k => s.rdBytes (b + 16) 16 == Sha.tag k (s.rdBytes b 16 ++ s.rdBytes (b + 32) (len - 32))
   | none => false) && bodyOk

/-- Records that waited for the queues are written (log 80). -/
def flushEarly (s : State) : State :=
  { s with logs := s.logs ++ s.early, early := [] }

/-- Verification ends (BOOT_DONE, R427, R428). -/
def bootDone (a b : Image) (s : State) : State :=
  let okA := s.flag SUP_STAT_MRAM_OK 0 && s.imgOk 0 (a.bodyOk && ownerOk a)
  let okB := s.flag SUP_STAT_MRAM_OK 0 && !okA && s.imgOk 1 (b.bodyOk && ownerOk b)
  let s := (s.setFlag MM_STAT_A_OK 0 okA).setFlag MM_STAT_B_OK 0 okB
  let s : State := { s with mm := { s.mm with passA := okA, passB := okB }
                            boot := { s.boot with hbReset := s.boot.hbReset && !(okA || okB) } }
  let s :=
    if okA then imgLoad (imgSlot 0) a ((s.setFld MOD_STAT_BOOT 0 1).setFlag MOD_STAT_SLOT 0 false)
    else if okB then imgLoad (imgSlot 1) b ((s.setFld MOD_STAT_BOOT 0 1).setFlag MOD_STAT_SLOT 0 true)
    else (s.setFld MOD_STAT_BOOT 0 2).setFld PR_OWNER_OWNER 0 6
  let s := raise 0 (flushEarly s)
  rlsUpdate (if okB then raiseLog 1 0 noCause s.T [] s else s)

/-! ### Resets as they are requested and end -/

/-- A recording under way ends with its END record, before a reset of any class (R443). -/
def recEnd (s : State) : State :=
  if s.recording then (recWrite (recNote 2 0 s.T [] s)).setFld RP_STAT_STATE 0 0 else s

/-- A module reset applied in the tick after the present one, with the causes that MOD_RST_CAUSE shows, the RMODE that
follows it, and the events raised once it ends. It lasts 10 µs and ends at a tick boundary (R431). -/
def modReset (causes rmode : Nat) (after : List Nat) (s : State) : State :=
  let k := s.tick + 1
  let s := recEnd s
  let raw := ((s.replay.ofs / 2000) + (k : Int) + 1).toNat
  let waits := s.boot.after ++ after
  let s := resetTo 2 causes s
  let s := when (s.fld RP_STAT_STATE 0 != 0) (setFld · RP_STAT_STATE 0 0) s
  let s := s.setFld MOD_STAT_RMODE 0 rmode
  rlsUpdate { s with boot := { s.boot with rstEnd := some raw, rmode := rmode, after := waits } }

/-- Every reset of the first three classes ends: E005 with a record, then the events that waited (R456). -/
def resetDone (s : State) : State :=
  let after := s.boot.after
  let s : State := { s with boot := { s.boot with rst := 0, rstEnd := none, t0 := s.tick, after := [] } }
  each after (fun e s => raiseLog e 0 noCause s.T [] s) (raiseLog 5 0 noCause s.T [] s)

/-- Raises an event with its record, or during a reset once that ends (R456). -/
def raiseSup (e : Nat) (s : State) : State :=
  if s.boot.rst = 0 ∧ s.boot.rstEnd = none then raiseLog e 0 noCause s.T [] s
  else { s with boot := { s.boot with after := s.boot.after ++ [e] } }

/-- The end of a module reset at the start of the present tick: recording or replay follows (R443, R447). DEDUCED (log
152): the START record, which is written before the start-up verifies an image, names the image that was in use when the
reset began. -/
def modResetEnd (s : State) : State :=
  let m := s.boot.rmode
  let s := resetDone s
  if m = 1 then
    let b := imgSlot s.boot.slot
    let body := s.rdWords (b + 16) 4 ++ [s.rdWord (b + 8), s.rdWord 0x02FFF000 + 1#32, s.maskCrc, 0x00010000#32]
    recNote 1 0 s.T body (s.setFld RP_STAT_STATE 0 1)
  else if m = 2 then rlsUpdate (lsReplayStart (s.setFld RP_STAT_STATE 0 2))
  else s

/-- A power-on reset or a pin reset is entered. -/
def powerReset (s : State) : State := resetTo 0 1 s
def pinReset (s : State) : State :=
  resetTo 1 2 (recEnd s)

/-- The PLL locks: module time 0 begins, or the module reset that a clock fault asked for (R424, R435). -/
def pllLock (mv : Nat) (s : State) : State :=
  let s := ((s.setFlag SUP_STAT_PLL_LOCK 0 true).setFlag SUP_STAT_RAILS_OK 0 true).setFlag SUP_STAT_XTAL_OK 0 true
  let s : State := { s with boot := { s.boot with vbatLow := decide (mv < 7000) } }
  let s := rlsUpdate ((s.setFlag SUP_STAT_VBAT_OK 0 (decide (7000 ≤ mv))).setFld SUP_VBATL_MV 0 mv)
  let s := when s.boot.vbatLow (raiseSup 9) s
  if s.boot.rst = 4 then modReset s.boot.causes 0 [8] s else resetDone s

/-! ### Reset domains (R47, R432) -/

/-- The pages of a page's reset domain. -/
def domainOf (p : Nat) : List Nat :=
  match blockOf p with
  | some (b, base) =>
    match b with
    | .FB | .VG | .DP | .CN | .SB | .HC => [p]
    | _ => pages.filter fun q => (blockOf q).any fun e => e.2 == base
  | none => []

/-- Registers that their domain's reset keeps: status that follows a condition, and what R69, R257, R237, R274, R405 and
R432 name. -/
def domainKeeps (r : Reg) : Bool :=
  match r with
  | .PR_FROZEN | .ER_ACT | .ER_INTSTAT | .PG_FLT_CFG | .PG_FLT_STAT | .PG_STAT | .VG_DIESTAT | .DG_STAT | .HL_EPOCH => true
  | _ => false

/-- Block registers of the pages return to their reset values, the primer image's where it gives one; of the header
EVT_PEND and EVT_RAW do, which R47 does not name as kept (DEDUCED, log 98). -/
def regsReset (ps : List Nat) (s : State) : State :=
  let gone (e : Nat × Word) : Bool :=
    let r := Reg.ofKey e.1
    ps.contains (regPage r.1 r.2) && (!inHeader r.1 || r.1 == .EVT_PEND || r.1 == .EVT_RAW) && !domainKeeps r.1
  let s : State := { s with regs := s.regs.filter (!gone ·), held := s.held.filter (!gone ·) }
  each (s.img.filter gone) (fun e s => let r := Reg.ofKey e.1; s.put r.1 r.2 (s.resetVal r.1 r.2)) s

/-- Marks of the demand bits L152 to L175, which a domain reset of the lanes keeps (R133). -/
def lnKeepLs (old s : State) : State :=
  (s.put .LN_CMD 4 (old.get .LN_CMD 4 &&& 0xFF000000#32)).put .LN_CMD 5 (old.get .LN_CMD 5 &&& 0xFFFF#32)

/-- The block's own part of a domain reset with its registers, by the chapter's rule, applied in the coming tick. -/
def blockReset (b : Block) (base p : Nat) (s : State) : State :=
  let ps := domainOf p
  match b with
  | .MD | .CS => s
  | .MM => ((s.put .MM_SRC 0 0x01178000#32).put .MM_LEN 0 0#32).put .MM_OFS 0 0#32
  | .PR | .ER | .RP | .DG => regsReset ps s
  | .AX =>
    let s := each (pick 32 s.axEn) (fun i s => gmAxisStop i (laneFlushAxis i s)) s
    regsReset ps { s with axes := [], yaw := {} }
  | .LN => lnKeepLs s (regsReset ps (lanesReset s))
  | .GM => regsReset ps (geoReset s)
  | .FB => regsReset ps { s with fbs := s.fbs.filter fun e => e.1 / 3 != p - base }
  | .FW => regsReset ps { s with fwds := [] }
  | .VG => vgResetEnd (p - base) s.Tn (regsReset ps (vgResetStart (p - base) s.Tn s))
  | .VS => regsReset ps (sliceDomainReset s)
  | .BP => regsReset ps (pairDomainReset s)
  | .LS => lsDomainReset s
  | .PC =>
    let init := s.flag PC_ROT_STAT_INIT 0
    let bad := s.fld PC_ROT_STAT_FAILMOD 0
    let halt := s.flag PC_ROT_STAT_HALT 0
    let s := (regsReset ps (pcDomainReset s)).setFlag PC_ROT_STAT_INIT 0 init
    if halt then s.modRot fun r => { r with queue := [(bad, false)] } else s
  | .GC => regsReset ps (gcDomainReset s)
  | .ZC =>
    let s := regsReset ps (zcDomainReset s)
    each (List.range 4) (fun a s => s.setFlag AO_STAT_DUST a (s.flag MOD_STAT_DUST 0)) s
  | .LP => regsReset ps (lpDomainReset s)
  | .DP => regsReset ps (dpDomainReset (p - base) s)
  | .MS => regsReset ps (storeDomainReset s)
  | .CN => regsReset ps (canDomainReset (p - base) s)
  | .SB => regsReset ps (sbDomainReset (p - base) s)
  | .QE => qDomainReset (regsReset ps s)
  | .HL =>
    let s := each [2, 3, 4, 5] keysOff s
    let l := s.sess.map fun e => (e.1, ({ key := e.2.key } : Session))
    let s := regsReset ps { s with sess := l.filter fun e => e.2 != {}, ports := [] }
    let s := each (List.range 4) (fun i s => s.setFlag HL_SSTAT_FROZEN i (s.frozen (2 + i))) s
    { s with streamOut := s.streamOut.filter fun e => e.1 < 34 || 37 < e.1 }
  | .HC => hcDomainReset (p - base) (regsReset ps s)

/-- Whether a domain reset is refused: page 0x78 while recording or replay is under way (R432). -/
def domainErr (s : State) (p : Nat) : Bool :=
  p == 0x78 && decide (1 ≤ s.fld RP_STAT_STATE 0) && decide (s.fld RP_STAT_STATE 0 ≤ 4)

/-- DOMAIN_RST.GO on a page; as a reset it ends a recording first (R443). -/
def domainReset (p : Nat) (s : State) : State :=
  match blockOf p with
  | some (b, base) => each (domainOf p) (fun q s => s.setFlag PAGE_STAT_DRST_BUSY q true) (blockReset b base p (recEnd s))
  | none => s

/-- The domain reset completes; a CAN controller is then INTEGRATING (R377). -/
def domainDone (p : Nat) (s : State) : State :=
  let s := match blockOf p with
    | some (.CN, base) => when (s.flag PAGE_STAT_DRST_BUSY p) (setFld · CAN_STAT_STATE (p - base) 1) s
    | _ => s
  each (domainOf p) (fun q s => s.setFlag PAGE_STAT_DRST_BUSY q false) s

/-! ### The MRAM controller (R429) -/

def mmBusy (s : State) : Bool := s.mm.cmd.isSome

/-- Whether the slot may not be touched: it is the one in use and the other has not passed since the last reset. -/
def mmInUse (s : State) (slot : Nat) : Bool :=
  s.fld MOD_STAT_BOOT 0 == 1 && s.fld MOD_STAT_SLOT 0 == slot && !(if slot = 0 then s.mm.passB else s.mm.passA)

/-- The refusals of R429. -/
def mmErr (s : State) (v : Word) : Bool :=
  let c := bitsOf v 1 0
  let slot := bitsOf v 8 8
  let src := (s.get .MM_SRC 0).toNat
  let len := (s.get .MM_LEN 0).toNat
  let ofs := s.fld MM_OFS_OFS 0
  let covers := decide (ofs = 0) && decide (1 ≤ len)
  s.mmBusy ||
  (c != 0 && (decide (src < 0x01178000) || decide (0x01200000 < src + len) || ofs % 16 != 0 || decide (1048576 < ofs + len))) ||
  (c == 1 && ((s.flag MM_STAT_OPEN 0 && s.fld MM_STAT_OPEN_SLOT 0 != slot) ||
    (bitAt v 4 && !covers && (!s.flag MM_STAT_OPEN 0 || s.mm.magic.isEmpty)))) ||
  ((c == 1 || c == 3) && s.mmInUse slot)

/-- MM_CMD starts: a WRITE clears the slot's MAGIC first, holds the MAGIC bytes and copies the rest; an INVALIDATE clears
MAGIC. -/
def mmStart (v : Word) (s : State) : State :=
  let c := bitsOf v 1 0
  let slot := bitsOf v 8 8
  if c = 0 then s
  else
    let s : State := { s.setFlag MM_STAT_BUSY 0 true with mm := { s.mm with cmd := some (c, slot, bitAt v 4) } }
    if c = 1 then
      let src := (s.get .MM_SRC 0).toNat
      let len := (s.get .MM_LEN 0).toNat
      let ofs := s.fld MM_OFS_OFS 0
      let s := if s.flag MM_STAT_OPEN 0 then s
        else
          let s := (s.wrWord (imgSlot slot) 0#32).setFlag MM_STAT_OPEN 0 true
          { s.setFld MM_STAT_OPEN_SLOT 0 slot with mm := { s.mm with magic := [] } }
      let b := s.rdBytes src len
      let h := if ofs = 0 then (b.take 4).zipIdx.map fun e => (e.2, e.1) else []
      let m := h.foldl (fun m e => SMap.insert m e.1 e.2) s.mm.magic
      let s := if ofs = 0 then s.wrBytes (imgSlot slot + 4) (b.drop 4) else s.wrBytes (imgSlot slot + ofs) b
      { s with mm := { s.mm with magic := m } }
    else if c = 3 then
      let s := s.wrWord (imgSlot slot) 0#32
      if s.flag MM_STAT_OPEN 0 && s.fld MM_STAT_OPEN_SLOT 0 == slot then
        { s.setFlag MM_STAT_OPEN 0 false with mm := { s.mm with magic := [] } }
      else s
    else s

/-- The result of a verification of a slot. -/
def mmVerify (slot : Nat) (bodyOk : Bool) (s : State) : State :=
  let ok := s.imgOk slot bodyOk
  let s := s.setFld MM_STAT_RESULT 0 (if ok then 1 else 2)
  let s := if slot = 0 then s.setFlag MM_STAT_A_OK 0 ok else s.setFlag MM_STAT_B_OK 0 ok
  if ok then { s with mm := { s.mm with passA := s.mm.passA || slot == 0, passB := s.mm.passB || slot == 1 } } else s

/-- A command of the MRAM controller completes; `b` is what the slot holds where it verifies (R24, R427). -/
def mmDone (b : Image) (s : State) : State :=
  let bodyOk := b.bodyOk && ownerOk b
  match s.mm.cmd with
  | none => s
  | some (c, slot, last) =>
    let s : State := { s.setFlag MM_STAT_BUSY 0 false with mm := { s.mm with cmd := none } }
    if c = 1 then
      if last then
        let s := each s.mm.magic (fun e s => s.wrByte (imgSlot slot + e.1) e.2) s
        mmVerify slot bodyOk { s.setFlag MM_STAT_OPEN 0 false with mm := { s.mm with magic := [] } }
      else s.setFld MM_STAT_RESULT 0 1
    else if c = 2 then mmVerify slot bodyOk s
    else s.setFld MM_STAT_RESULT 0 1

end State
end Sys2Proof.Machine
end

