-- ==== Sys2Proof/Machine/Bus.lean ====
section
/-!
DEFINITION. Sys2Proof/Machine/Bus.lean: the accesses of the masters: the protection check, the guards, the access codes,
aliases and the bit-alias window, the value rules of the field tables, the effect of a write of every register, and what
a read returns (R22 to R25, R40, R41, R47 to R70, R124, R125, R413, R448).
-/

namespace Sys2Proof.Machine

/-- What becomes of a write: it is applied, gets an error response, or is a violation of a kind at an address (R65). -/
inductive WRes where
  | ok
  | err
  | viol (kind addr : Nat)
deriving DecidableEq, Repr

/-- What becomes of a read. -/
inductive RRes where
  | ok (v : Word)
  | err
  | viol (kind : Nat)
deriving DecidableEq, Repr

/-- A master's own access. -/
def Access.of (id : Nat) : Access := { id := id, set := id }

namespace State

/-- The clock of an access within the present tick: the manual does not fix it, so it is a free value with a counter of
its own, which no value that reaches the outputs or the records is drawn from (R29, log 12). -/
def nowClk (s : State) : Nat := s.T + (Config.accessWord s.acc).toNat % 2000
def spend (s : State) : State := { s with acc := s.acc + 1 }

/-! ### Violations (R65 to R70) -/

/-- Whether the violation log holds a violation of the same clock by a master of a higher identity, which it keeps (R70).
DESIGN CHOICE (log 18): a denial of DBG, which the log takes too, counts there as that of the highest identity. -/
def logKeeps (s : State) (m t : Nat) : Bool :=
  s.get64 .PR_VLOG_TIME_LO .PR_VLOG_TIME_HI 0 == t && decide (m < bitsOf (s.get .PR_VLOG_INFO 0) 2 0)

/-- Whether a page's GUARD_STAT holds a violation of the same clock by a master of a higher identity, which it keeps
(R70). -/
def pageKeeps (s : State) (m t p : Nat) : Bool :=
  SMap.get 0 s.violT p == t + 1 && s.flag GUARD_STAT_VIOL p && decide (m < s.fld GUARD_STAT_VIOL_MASTER p)

/-- The violation log takes an access. -/
def logViolation (m kind addr : Nat) (wr : Bool) (t : Nat) (s : State) : State :=
  let s := (s.put .PR_VLOG_ADDR 0 (BitVec.ofNat 32 addr)).put .PR_VLOG_INFO 0 (BitVec.ofNat 32 (16 * kind + 8 * b2n wr + m))
  s.put64 .PR_VLOG_TIME_LO .PR_VLOG_TIME_HI 0 t

/-- The page whose GUARD_STAT keeps a violation at an address, where the violation is one of a page. -/
def pageAt (a : Nat) : Option Nat :=
  if a < 0x100000 then some (a / 4096)
  else if 0x100000 ≤ a ∧ a < 0x100400 then some 0x08
  else if 0x101000 ≤ a ∧ a < 0x101060 then some 0x3C
  else none

/-- A violation or denial of a master at an address. Of two in one clock the log, and the page's GUARD_STAT, keep the one
with the higher identity (R70). -/
def violate (m kind addr : Nat) (wr : Bool) (page : Option Nat) (s : State) : State :=
  let t := s.nowClk
  let s := when (!s.logKeeps m t) (logViolation m kind addr wr t) s.spend
  if m = 7 then raiseLog 28 m noCause t [] (s.incSat PR_VIOL_CNT_DBG_CNT 0)
  else
    let s := match page with
      | some p => when (!s.pageKeeps m t p) (fun s : State =>
        (({ s with violT := SMap.set 0 s.violT p (t + 1) } : State).setFlag GUARD_STAT_VIOL p true
          |>.setFld GUARD_STAT_VIOL_MASTER p m).setFld GUARD_STAT_VIOL_KIND p kind) s
      | none => s
    let s := keysOff m ((s.incSat PR_VIOL_CNT_CNT 0).setRbit .PR_FROZEN 0 m true)
    let s := if m < 2 then hcFreeze m t s else if m < 6 then s.setFlag HL_SSTAT_FROZEN (m - 2) true else s
    let s := raiseOf (18 + m) m noCause (raiseLog (if kind ≤ 3 then 16 else 17) m noCause t [] s)
    depart (when (m == s.owner) (raise 25) s)

/-! ### The protection check (R60 to R63) -/

/-- A master's right on a page: 0 NONE, 1 READ, 2 WRITE, 3 FULL. -/
def pageRight (s : State) (m p : Nat) : Nat :=
  if m = s.owner then 3 else
    let r := bitsOf (s.get .PR_PAGE_ACC (16 * m + p / 16)) (2 * (p % 16) + 1) (2 * (p % 16))
    if p = 1 then min r 1 else r

/-- A master's right on an address of SRAM or MRAM (R62). -/
def memRight (s : State) (m a : Nat) : Nat :=
  if m = s.owner then 3 else
    match (List.range 8).find? fun n => s.flag PR_MEM_ACC_EN n && decide (4096 * s.fld PR_MEM_BASE_BASE n ≤ a) &&
        decide (a ≤ 4096 * s.fld PR_MEM_LIM_LIMIT n + 4095) with
    | some n => bitsOf (s.get .PR_MEM_ACC n) (2 * m + 1) (2 * m)
    | none => 0

/-- The page whose rights decide over an allocated bit-alias word (R51), with the lane whose demand the word holds. -/
def bitAlias (a : Nat) : Option (Nat × Nat) :=
  if 0x100000 ≤ a ∧ a < 0x100400 then some (0x08, (a - 0x100000) / 4)
  else if 0x101000 ≤ a ∧ a < 0x101060 then some (0x3C, 152 + (a - 0x101000) / 4)
  else none

def inSram (a : Nat) : Bool := decide (0x01000000 ≤ a) && decide (a < 0x01400000)
def inMram (a : Nat) : Bool := decide (0x02000000 ≤ a) && decide (a < 0x03000000)
def inGeneral (a : Nat) : Bool := decide (0x01178000 ≤ a) && decide (a < 0x01200000)
/-- Areas that ordinary writes reach (R40, R41). -/
def memWritable (a : Nat) : Bool :=
  (decide (0x01178000 ≤ a) && decide (a < 0x01400000)) || (decide (0x02F40000 ≤ a) && decide (a < 0x02FFF000))
/-- The blocks' own SRAM, the as-applied log store and the system area: a master write gets an error response and is never
a violation (R40, R41). -/
def memOwn (a : Nat) : Bool :=
  (decide (0x01000000 ≤ a) && decide (a < 0x01178000)) ||
    (decide (0x02E00000 ≤ a) && decide (a < 0x02F00000)) || (decide (0x02FFF000 ≤ a) && decide (a < 0x03000000))

/-- Whether accesses are served: not in a reset, and not before verification ends (R424). -/
def served (s : State) : Bool :=
  (s.boot.rst == 0 || s.boot.rst == 4) && s.boot.rstEnd.isNone && s.fld MOD_STAT_BOOT 0 != 0

def failsafe (s : State) : Bool := s.fld MOD_STAT_BOOT 0 == 2

/-- Pages served in FAILSAFE (R428). -/
def failsafePage (p : Nat) : Bool := p == 0x00 || p == 0x03 || p == 0x74 || p == 0x7C

/-! ### Views -/

/-- The instance a register address reaches for an access: the staging words by its set, which each command queue has of
its own (R110, R144, R398); the results of commits and the window selections by its identity (R110, R144, R151, R302,
R325). -/
def instOf (s : State) (c : Access) (r : Reg) (i : Nat) : Nat :=
  match r with
  | .LN_PUSH0 | .LN_PUSH1 | .LN_PUSH2 | .LN_PUSH3 => c.set
  | .LN_PUSH_RES | .GM_FIX_RES | .GM_APP_SEL => c.id
  | .GM_FIX => 8 * c.set + i
  | .GM_APP_CFG | .GM_APP_ARMX | .GM_APP_ARMY | .GM_APP_W | .GM_APP_FLOW | .GM_APP_STAT =>
    (s.get .GM_APP_SEL c.id).toNat
  | .ZC_CSEL => i + 4 * c.id
  | .ZC_K_RE | .ZC_K_IM | .ZC_Y0_RE | .ZC_Y0_IM => 4 * i + bitsOf (s.get .ZC_CSEL (i + 4 * c.id)) 1 0
  | .LP_BSEL => i + 8 * c.id
  | .LP_KP | .LP_KI | .LP_KD | .LP_TF | .LP_B | .LP_C | .LP_KT | .LP_KFF => s.lpWindow i c.id
  | _ => i

/-- Bits of a row of 20 words over the applicators. -/
def appBits (f : Nat → Bool) (w : Nat) : Word :=
  BitVec.ofNat 32 ((pick 32 fun b => f (32 * w + b)).foldl (fun n b => n + 2 ^ b) 0)

/-- LS_CMD: the demands of L152 to L175 (R105). -/
def lsCmd (s : State) : Word :=
  BitVec.ofNat 32 (bitsOf (s.get .LN_CMD 4) 31 24 + 256 * bitsOf (s.get .LN_CMD 5) 15 0)

/-- What the base view of a register gives the identity `id`, before any clearing. -/
def view (s : State) (id : Nat) (r : Reg) (i : Nat) : Word :=
  match r with
  | .PAGE_ID => match blockOf i with
    | some (b, p) => BitVec.ofNat 32 (b.code * 65536 + (i - p) * 256 + (Config.blockRev b.code).toNat)
    | none => 0#32
  | .MOD_ID => putBits (putBit (s.get .MOD_ID 0) 15 Config.grade) 7 0 Config.moduleRev.toNat
  | .PR_PAGE_ACC => (if i / 16 = s.owner then 0xFFFFFFFF#32 else s.get r i) &&& accMask (i % 16)
  | .LN_STAT => BitVec.ofNat 32 (s.lnStatHalf (2 * i) + 65536 * s.lnStatHalf (2 * i + 1))
  | .LN_RCFG => putBits (putBits (s.get r i) 31 29 (s.lane (256 + i)).fill) 28 27 (s.lane (256 + i)).head
  | .LN_DON => BitVec.ofNat 32 (estimate (s.lane i).e8On)
  | .LN_DOFF => BitVec.ofNat 32 (estimate (s.lane i).e8Off)
  | .LS_CMD => s.lsCmd
  | .GM_DEC => appBits (fun a => s.flag GM_APP_STAT_DEC a) i
  | .GM_OPEN => appBits (fun a => s.opnNow (appLane a)) i
  | .GM_APP_STAT =>
    putBit (putBit (s.get r i) 4 (s.flag GM_APP_CFG_EN i && !s.gmFed (appLane i))) 3 (s.opnNow (appLane i))
  | .GM_ZONE => if i = 0 then 0#32 else s.get r i
  | .EVT_RAW => s.evtRaw i
  | .GM_TC_STAT =>
    let pin := (s.stiles.filter fun e => match e.2 with | some t => s.stPinned t | none => false).length
    putBits (putBits (s.get r i) 25 16 pin) 9 0 s.stiles.length
  | .FB_SSI | .FB_SSI2 => if i < 16 then 0#32 else s.get r i
  | .BP_STAT => putBit (putBit (s.get r i) 0 (s.bpH i s.nowClk)) 1 (s.bpL i s.nowClk)
  | .DP_STAT => s.dpStat i
  | .DP_KC_STAT => s.kcStat i
  | .ER_CLAIM => s.erClaim id
  | .HC_RUN => BitVec.ofNat 32 (b2n (s.hcState i == 1))
  | .MM_CMD | .GM_MAP_CMD | .DOMAIN_RST | .MOD_CTRL => 0#32
  | _ =>
    match r.info.acc with
    | .sn => SMap.get (r.resetAt i) s.held (r.key i)
    | .w1 => 0#32
    | .wo => 0#32
    | _ => s.get r i

/-! ### Value rules of the field tables -/

/-- Whether a rule of a field table refuses a value. -/
def ruleErr (v : Word) : FieldRule → Bool
  | .clamp .. => false
  | .errEq hi lo x => bitsOf v hi lo == x
  | .errAbove hi lo m => decide (m < bitsOf v hi lo)
  | .errNotPos => !f32.pos v
  | .errNeg => f32.lt v 0#32

/-- The value a clamping rule stores. -/
def ruleClamp (v : Word) : FieldRule → Word
  | .clamp hi lo a b => putBits v hi lo (clampN a b (bitsOf v hi lo))
  | _ => v

/-- The value that a write leaves in a register's storage, or none for an error response (R19, R48). -/
def checkVal (r : Reg) (v : Word) : Option Word :=
  let f := r.info
  if (f.float && f32.nonFinite v) || f.rules.any (ruleErr v) then none else some (f.rules.foldl ruleClamp v)

/-! ### Axis-marked writes (R124) -/

/-- The registers that the chapters name as accepting axis-marked writes. -/
def markReg (r : Reg) : Bool :=
  ([.AX_STEP, .AX_SOFT_V, .AX_SOFT_A, .AX_K0, .AX_K1, .AX_K2,
    .LN_CMD, .LN_PROF, .LN_DON, .LN_DOFF, .LN_FLUSH, .LN_RFLUSH,
    .GM_ZONE, .GM_WET, .GM_VREF, .GM_DUTY_LIM, .GM_INHIB,
    .FB_CMP, .FB_CMP_CFG, .FB_CMP_SPACE, .VG_CCUR,
    .VS_PERIOD, .VS_DUTY, .VS_PHASE, .VS_CTRL, .BP_PERIOD, .BP_DUTY, .BP_PHASE, .BP_CTRL,
    .LS_CMD, .LS_CTRL, .PC_ROFS, .PC_LIM_LO, .PC_LIM_HI, .GC_GAIN, .GC_OFS, .GC_LIM_LO, .GC_LIM_HI, .AO_VAL] : List Reg).contains r ||
  ([.LP_SP, .LP_FF, .LP_SPK, .LP_YK, .LP_RLIM, .LP_ALIM, .LP_OMIN, .LP_OMAX, .LP_SLEW, .LP_FBVAL, .LP_CTRL, .LP_GSLEW,
    .LP_GSWAP, .TG_AMP, .TG_CTRL,
    .DP_CTRL, .DP_KC_REQ, .DP_TARGET, .DP_MSEED, .DP_FMIN, .DP_PRED_LO, .DP_PRED_HI, .DP_BIASCFG, .DP_ZRH,
    .CAN_CTRL, .SB_TRIG0, .SB_TRIG1, .SB_PE_CFG, .SB_PE_REQ0, .SB_PE_REQ1, .Q_TAIL, .Q_HEAD, .Q_CTRL, .ER_HSMASK] : List Reg).contains r

/-- Whether an address may be the target of a WRITE mark (R124). -/
def markTarget (a : Nat) : Bool :=
  a % 4 == 0 && (if a < 0x100000 then
      match regAt (a / 4096) (a % 1024) with
      | some (r, _) => markReg r && (a % 4096 / 1024 == 0 || r.info.acc == .rw)
      | none => false
    else (bitAlias a).isSome)

/-- Whether a master may place a write to that address (R63, R65): the WRITE right on its page. -/
def markRight (s : State) (c : Access) (a : Nat) : Bool :=
  !c.checked || decide (2 ≤ s.pageRight c.id (if a < 0x100000 then a / 4096 else ((bitAlias a).map (·.1)).getD 0))

/-! ### What a block refuses -/

/-- A register whose other fields are closed while its EN, bit 0, reads 1. -/
def enLocked (s : State) (r : Reg) (i : Nat) (v : Word) : Bool := bitAt (s.get r i) 0 && putBit v 0 true != s.get r i

/-- The ring of the recorder must lie in the general area (R454). -/
def ringBad (base log2n : Nat) : Bool := decide (base < 0x01178000) || decide (0x01200000 < base + 128 * 2 ^ log2n)

/-- Whether a write of the value `v` to a register is refused with an error response by its block. -/
def storeErr (s : State) (c : Access) (r : Reg) (i : Nat) (v : Word) : Bool :=
  match r with
  | .AX_CFG | .FB_CFG | .VG_CCFG | .VS_CFG | .BP_CFG | .PC_CFG | .GC_CFG | .ZC_CFG | .AO_CFG => s.enLocked r i v
  | .AX_SRC => s.axEn i
  | .AX_K0 => s.axEn i && !s.axKAccepts i 0 v
  | .AX_K1 => s.axEn i && !s.axKAccepts i 1 v
  | .AX_K2 => s.axEn i && !s.axKAccepts i 2 v
  | .AX_YAW_CFG => decide (5 ≤ bitsOf v 2 0) || decide (5 ≤ bitsOf v 6 4)
  | .LN_CFG => s.lnCfgErr i v
  | .LN_RCFG => s.lnRcfgErr (256 + i) v
  | .LN_TPL_CFG => s.tplCfgErr i v
  | .LN_TPL_ID => s.flag LN_TPL_CFG_EN i && s.get r i != v
  | .GM_CFG | .GM_ORG_LAT | .GM_ORG_LON | .GM_JOB | .GM_APP_CFG | .GM_APP_ARMX | .GM_APP_ARMY | .GM_APP_W | .GM_APP_FLOW =>
    s.gmRun
  | .GM_MAP_SRC => v.toNat % 512 != 0 || decide (v.toNat < 0x01178000) || decide (0x01200000 < v.toNat + 512)
  | .GM_MAP_CMD => s.mapErr v
  | .VG_CTRL => bitAt v 1 && s.vgTwinErr i
  | .VG_CCTRL => bitAt v 0 && s.vgLclrErr i
  | .LS_CTRL => bitAt v 1 && s.lsThclrErr i
  | .AO_VAL => s.flag AO_CFG_SRC i
  | .PG_FLT_CLR => s.fltClrErr v
  | .LP_CFG => s.lpCfgErr i v
  | .LP_SRC | .LP_SRC2 | .LP_PERIOD => s.lpLockErr r i v
  | .LP_TF | .LP_KT => s.lpBankErr i || f32.lt v 0#32
  | .LP_KP | .LP_KI | .LP_KD | .LP_B | .LP_C | .LP_KFF => s.lpBankErr i
  | .LP_GCFG => s.lpGcfgErr i v
  | .TG_CFG => s.tgCfgErr i v
  | .DP_CFG => s.dpCfgErr i v
  | .DP_GEOM | .DP_SENS | .DP_OUTOFS | .DP_FILL => s.dpLockErr r i i v
  | .DP_ZCFG => s.dpLockErr r i (i / 4) v
  | .CAN_CFG => s.canCfgErr i v
  | .CAN_NBT | .CAN_DBT | .CAN_TDC => s.canLockErr r i v
  | .SB_CFG => s.sbCfgErr i v
  | .SB_BAUD => s.sbBaudErr i v
  | .HL_MASK => let x := ~~~ v; x &&& (x + 1#32) != 0#32
  | .Q_BASE => s.flag Q_GEOM_EN i
  | .Q_GEOM => s.qGeomErr i v
  | .Q_TAIL => s.qTailErr i v
  | .Q_HEAD => s.qHeadErr i v
  | .HC_RUN => bitAt v 0 && s.frozen i
  | .HC_KICK => c.id != i
  | .MM_CMD => s.mmErr v
  | .RP_REC_BASE => ringBad v.toNat (s.fld RP_REC_GEOM_LOG2N 0)
  | .RP_REC_GEOM => ringBad (s.get .RP_REC_BASE 0).toNat (bitsOf v 3 0)
  | .RP_CTRL => bitAt v 0 && (s.fld RP_STAT_STATE 0 != 3 || (c.checked && c.id != s.owner))
  | .DG_CTRL => c.id != 7
  | .DOMAIN_RST => bitAt v 0 && s.domainErr i
  | _ => false

/-! ### The effect of a write of each register, applied in the coming tick -/

/-- A table entry of page 0x01 takes a value; a change raises E026 (R63, R71). -/
def tableEdit (r : Reg) (i : Nat) (v : Word) (s : State) : State :=
  if s.get r i = v then s else raise 26 (s.put r i v)

/-- PR_PAGE_ACC: entries of the owner and of reserved pages take nothing (R64). -/
def pageAccStore (i : Nat) (v : Word) (s : State) : State :=
  if i / 16 = s.owner then s else tableEdit .PR_PAGE_ACC i (v &&& accMask (i % 16)) s

/-- PR_UNFREEZE (R64, R68). -/
def unfreeze (v : Word) (s : State) : State :=
  each (pick 7 fun m => bitAt v m && s.frozen m && m != s.owner) (fun m s =>
    let s := s.setRbit .PR_FROZEN 0 m false
    if 2 ≤ m ∧ m < 6 then s.setFlag HL_SSTAT_FROZEN (m - 2) false else s) s

/-- PR_GCLR: the page's violation record and its open key go (R56, R64). -/
def guardClear (p : Nat) (s : State) : State :=
  if (blockOf p).isSome then
    (((s.setFlag GUARD_STAT_VIOL p false).setFld GUARD_STAT_VIOL_MASTER p 0).setFld GUARD_STAT_VIOL_KIND p 0).setFlag
      GUARD_STAT_OPEN p false
  else s

/-- AX_CFG: an axis that is disabled flushes its lanes and stops the geometry on it (R74, R131). -/
def axCfgWrite (i : Nat) (v : Word) (s : State) : State :=
  let was := s.axEn i
  let s := axCfgStore i v s
  if was && !bitAt v 0 then gmAxisStop i (laneFlushAxis i s) else s

/-- A note of an element that the recording holds beside the writes (RK 0x10). -/
def recTile (kind : Nat) (body : List Word) (s : State) : State :=
  let o := s.recorder.ord
  let s := recNote 0x10 kind s.T (BitVec.ofNat 32 o :: body) s
  { s with recorder := { s.recorder with ord := o + 1 } }

/-- GM_MAP_CMD: the source of a MERGE is recorded (R444) and in a replay comes from its TILE record (R448). -/
def mapWrite (v : Word) (s : State) : State :=
  let merge := bitsOf v 2 0 == 2
  let s := when (merge && s.recording) (fun s =>
    recTile 1 (s.get .GM_MAP_ARG 0 :: s.rdWords (s.get .GM_MAP_SRC 0).toNat 128) s) s
  let s := mapStart v s
  match s.replay.mergeSrc with
  | some c => if merge && s.inReplay then
      { s with geo := { s.geo with merge := some ((s.get .GM_MAP_ARG 0).toNat, c) } } else s
  | none => s

/-- LN_PUSH_GO: the staged record of the set is checked and placed (R110, R111). -/
def pushGo (c : Access) (n : Nat) (s : State) : State × WRes :=
  let m : Mark := ⟨s.get .LN_PUSH0 c.set, s.get .LN_PUSH1 c.set, s.get .LN_PUSH2 c.set, s.get .LN_PUSH3 c.set⟩
  let a := m.arg.toNat
  let code := s.pushCode n m (markTarget a) (s.markRight c a)
  if code = 0 then (pushAccept c.id n m s, .ok)
  else
    let s := s.setFld LN_PUSH_RES_CODE c.id code
    (s, if code = 6 then .viol 4 a else .err)

/-- GM_FIX_GO: the staged host fix of the set is checked and taken in (R144); a recording holds it as FIX (R446). In a
replay the fix itself comes from its FIX record, and the WRITE gives its result alone. DEDUCED (log 143). -/
def fixGo (c : Access) (s : State) : State × WRes :=
  let w := s.fixWord c.set
  let r := if s.inReplay then (s, 0) else hostFix w c.t s
  let s := r.1.setFld GM_FIX_RES_CODE c.id r.2
  if r.2 = 0 then (recNote 7 0 c.t ((List.range 8).map w) (s.incMod GM_FIX_RES_SEQ c.id), .ok) else (s, .err)

/-- MOD_CTRL (R430, R431, R443, R447). -/
def modCtrl (c : Access) (v : Word) (s : State) : State × WRes :=
  if bitAt v 8 then (modReset 4 (bitsOf v 13 12) [] s, .ok)
  else if !bitAt v 0 then (s, .ok)
  else if !s.flag MOD_STAT_RELEASED 0 && s.fld MOD_STAT_RLS_BLOCK 0 != 0 then (raise 3 s, .err)
  else if c.checked && s.inReplay then (s, .err)
  else if s.flag MOD_STAT_RELEASED 0 then (s, .ok)
  else (releaseNow (s.tick + 1) s, .ok)

/-- HC_RUN: start or halt (R415). -/
def hcRunWrite (i : Nat) (v : Word) (s : State) : State :=
  if bitAt v 0 then hcRun i (bitAt v 1) s
  else if s.hcState i = 1 then
    let f := s.corePc
    hcHalt i 2 f.1 f.2
  else s

/-- DG_CTRL: with RESUME the halt ends, with HALT it begins, with MRST the module is reset (R431, R440). -/
def dgCtrl (v : Word) (s : State) : State :=
  if bitAt v 2 then modReset 64 0 [] s
  else
    let s := when (bitAt v 1) haltEnd s
    when (bitAt v 0 && s.flag DG_CFG_EN 0) haltNow s

/-- SNAP.TAKE: the page's snapshot is taken at the end of the coming tick (R53). -/
def snapTake (p : Nat) (s : State) : State :=
  if s.snapDue.contains p then s else { s with snapDue := s.snapDue ++ [p] }

/-- Only the COMMIT bit of VS_CTRL and BP_CTRL accepts axis-marked writes. -/
def commitOnly (c : Access) (v : Word) : Word := if c.marked then v &&& 1#32 else v

/-- The effect of an accepted write of the value `v` to a register. -/
def store (c : Access) (r : Reg) (i : Nat) (v : Word) (s : State) : State × WRes :=
  let k := s.tick + 1
  let ok (t : State) : State × WRes := (t, .ok)
  match r with
  | .LN_PUSH_GO => pushGo c (bitsOf v 9 0) s
  | .GM_FIX_GO => if bitAt v 0 then fixGo c s else (s, .ok)
  | .GM_TC_EVICT => let x := tileEvict v.toNat s; (x.1, if x.2 then .ok else .err)
  | .MOD_CTRL => modCtrl c v s
  | .PAGE_CFG => (s, .ok)
  | .EVT_MASK => ok (s.put r i (v &&& evtBits i))
  | .GM_ZONE => ok (if i = 0 then s else s.put r i v)
  | .AX_GNSS => ok (axGnssStore i v s)
  | .SNAP => ok (when (bitAt v 0) (snapTake i) s)
  | .DOMAIN_RST => ok (when (bitAt v 0) (domainReset i) s)
  | .PR_UNFREEZE => ok (unfreeze v s)
  | .PR_GCLR => ok (guardClear (bitsOf v 7 0) s)
  | .PR_MEM_BASE | .PR_MEM_LIM | .PR_MEM_ACC => ok (tableEdit r i v s)
  | .PR_PAGE_ACC => ok (pageAccStore i v s)
  | .AX_CFG => ok (axCfgWrite i v s)
  | .AX_PRE_HI => ok (s.put r i (intw (signed 16 (bitsOf v 15 0))))
  | .AX_STEP => ok (axStep i v c.marked s)
  | .LN_CFG => ok (lnCfgStore i v s)
  | .LN_RCFG => ok (lnRcfgStore (256 + i) v s)
  | .LN_DON => ok (lnDelayStore i true v s)
  | .LN_DOFF => ok (lnDelayStore i false v s)
  | .LN_PROF => ok (lnProfStore i v s)
  | .LN_TPL_CFG => ok (tplCfgStore i v s)
  | .LN_TPL_DON | .LN_TPL_DOFF => ok (tplDelayStore r i v s)
  | .LN_FLUSH => ok (lnFlushWrite (32 * i) v c.marked s)
  | .LN_RFLUSH => ok (lnFlushWrite (256 + 32 * i) v c.marked s)
  | .LS_CMD => ok ((s.setFldOf .LN_CMD 4 31 24 (bitsOf v 7 0)).setFldOf .LN_CMD 5 15 0 (bitsOf v 23 8))
  | .GM_CTRL => ok (gmCtrlStore v s)
  | .GM_IMU_CFG =>
    let was := s.flag GM_IMU_CFG_EN 0
    let s := s.put r i v
    ok (if bitAt v 0 && !was then { s with imu := { s.imu with t0 := k } } else s)
  | .GM_MAP_CMD => ok (mapWrite v s)
  | .FB_CFG => ok (fbCfgStore i v s)
  | .FB_OBS => ok (when (s.fbEn i) (fbGains i) (s.put r i v))
  | .FB_SSI | .FB_SSI2 => ok (if i < 16 then s else s.put r i v)
  | .FB_CMP_CFG | .FB_CMP => ok (fbAdvance i (s.put r i v))
  | .FB_CTRL => ok (fbCtrl i v s)
  | .FWD_CFG => ok (fwdCfgStore i v s)
  | .FWD_EMU => ok (fwdEmuStore i v s)
  | .VG_CFG => ok (vgCfgStore i v s)
  | .VG_BUDGET => ok (vLimits i (fun s => s.put r i v) s)
  | .VG_CCUR => ok (vLimits (i / 8) (fun s => s.put r i v) s)
  | .VG_TEST => ok (vgTestStore i v s)
  | .VG_CTRL => ok (vgCtrlStore i v s)
  | .VG_CCFG => ok (vgCcfgStore i v s)
  | .VG_CCTRL => ok (vgCctrlStore i v s)
  | .VS_CFG => ok (vsCfgStore i v s)
  | .VS_PERIOD => ok (vsPeriodStore i k v s)
  | .VS_DUTY => ok (vsDutyStore i k v s)
  | .VS_PHASE => ok (vsPhaseStore i k v s)
  | .VS_CTRL => ok (vsCtrlStore i k (commitOnly c v) s)
  | .BP_CFG => ok (bpCfgStore i v s)
  | .BP_PERIOD => ok (bpPeriodStore i k v s)
  | .BP_DUTY => ok (bpDutyStore i k v s)
  | .BP_PHASE => ok (bpPhaseStore i k v s)
  | .BP_CTRL => ok (bpCtrlStore i k (commitOnly c v) s)
  | .PG_FLT_CFG => ok (fltCfgStore i v s)
  | .PG_FLT_CLR => ok (fltClrStore v s)
  | .LS_GCTRL => ok (lsGctrlStore v s)
  | .LS_CFG => ok (lsCfgStore i v s)
  | .LS_CTRL => ok (lsCtrlStore i s.Tn v s)
  | .PC_CFG => ok (pcCfgStore i v s)
  | .PC_CTRL => ok (pcCtrlStore i v s)
  | .GC_CFG => ok (gcCfgStore i v s)
  | .ZC_CFG => ok (zcCfgStore i v s)
  | .AO_CFG => ok (aoCfgStore i v s)
  | .AO_VAL => ok (aoWrite i k v s)
  | .AO_LIM => ok (aoLimStore i v s)
  | .AO_SAFE => ok (aoSafeStore i v s)
  | .LP_CFG => ok (lpCfgStore i v s)
  | .LP_FRESH => ok (lpFreshStore i v s)
  | .LP_CTRL => ok (lpCtrlStore i v s)
  | .LP_GCFG => ok (lpGcfgStore i v s)
  | .LP_GSWAP => ok (lpGswapStore i v s)
  | .TG_CFG => ok (tgCfgStore i v s)
  | .TG_CAP => ok (tgCapStore i v s)
  | .TG_CTRL => ok (tgCtrlStore i k v s)
  | .DP_CFG => ok (dpCfgStore i v s)
  | .DP_CTRL => ok (dpCtrlStore i v s)
  | .DP_ZCFG => ok (dpZcfgStore i v s)
  | .DP_KC_CFG => ok (kcCfgStore i v s)
  | .DP_SE_CFG => ok (seCfgStore i v s)
  | .DP_AE_CFG => ok (aeCfgStore i v s)
  | .CAN_CFG => ok (canCfgStore i v s)
  | .CAN_CTRL => ok (canCtrlStore i v s)
  | .SB_CFG => ok (sbCfgStore i v s)
  | .SB_CTRL => ok (sbCtrlStore i v s)
  | .SB_TRIG0 => ok (sbTrig i 0 v s)
  | .SB_TRIG1 => ok (sbTrig i 32 v s)
  | .Q_GEOM => ok (qGeomStore i v s)
  | .Q_HEAD => ok (qHeadStore i v s)
  | .Q_TAIL => ok (qTailStore i c.t v s)
  | .Q_CTRL => ok (qCtrlStore i v s)
  | .HL_SPEER =>
    let s := s.put r i v
    ok { s with sess := SMap.set {} s.sess i { SMap.get {} s.sess i with arp := none } }
  | .HC_RUN => ok (hcRunWrite i v s)
  | .HC_WDT => ok ((s.put r i v).modHc i fun h => { h with wdtT := if s.hcState i = 6 then 0 else s.Tn })
  | .HC_KICK => ok (when (bitAt v 0) (modHc i fun h => { h with wdtT := s.Tn }) s)
  | .SUP_CLR => ok (when (bitAt v 0) (setFld · SUP_STAT_DIE_HB 0 0) s)
  | .MM_CMD => ok (mmStart v s)
  | .RP_CTRL => ok (if bitAt v 0 then
      rlsUpdate { s.setFld RP_STAT_STATE 0 4 with replay := { s.replay with go := true } } else s)
  | .DG_CTRL => ok (dgCtrl v s)
  | _ => ok (s.put r i v)

/-! ### Guards (R55 to R58) -/

/-- The kind of violation a KW write of an identity would be, if any. -/
def guardKind (s : State) (id p : Nat) : Option Nat :=
  if s.flag GUARD_STAT_MODE p then (if s.flag GUARD_STAT_LOCKED p then some 2 else none)
  else if s.flag GUARD_STAT_OPEN p && s.fld GUARD_STAT_OPEN_MASTER p == id then none else some 1

/-- A write of GUARD_KEY. -/
def guardKey (id p : Nat) (v : Word) (a : Nat) (s : State) : State × WRes :=
  if s.flag GUARD_STAT_MODE p then
    if v.toNat = 0x10C40000 + p then
      ((if s.flag GUARD_STAT_LOCKED p then s else raise 27 (s.setFlag GUARD_STAT_LOCKED p true)), .ok)
    else (s, .viol 3 a)
  else if v.toNat = 0x5EA10000 + p then
    if s.flag GUARD_STAT_OPEN p && s.fld GUARD_STAT_OPEN_MASTER p != id then (s, .err)
    else ((s.setFlag GUARD_STAT_OPEN p true).setFld GUARD_STAT_OPEN_MASTER p id, .ok)
  else (s, .viol 3 a)

/-! ### Register writes -/

/-- A value reaches a register: the value rules, the block's refusal, then its effect. -/
def regStore (c : Access) (r : Reg) (i : Nat) (v : Word) (s : State) : State × WRes :=
  match checkVal r v with
  | none => (s, .err)
  | some w => if s.storeErr c r i w then (s, .err) else store c r i w s

/-- The value that a write through a view gives the base register (R49). -/
def aliasVal (vw : Nat) (old v : Word) : Word :=
  if vw = 0 then v else if vw = 1 then old ||| v else if vw = 2 then old &&& ~~~ v else old ^^^ v

/-- A 32-bit write reaches an allocated page under the access codes (R48, R49), its checks and its guard passed. A write
of GUARD_KEY has done its work when it was made. -/
def regWrite (c : Access) (a : Nat) (v : Word) (s : State) : State × WRes :=
  let p := a / 4096
  let vw := a % 4096 / 1024
  let off := a % 1024
  match regAt p off with
  | none => (s, .err)
  | some (r, i0) =>
    let i := s.instOf c r i0
    let f := r.info
    if s.flag PAGE_STAT_DRST_BUSY p && decide (0x40 ≤ off) then (s, .err)
    else if r = .GUARD_KEY then (s, if vw = 0 then .ok else .err)
    else match f.acc with
      | .rw =>
        let old := s.view c.id r i
        regStore c r i ((old &&& ~~~ f.wmask) ||| (aliasVal vw old v &&& f.wmask)) s
      | .kw =>
        let old := s.get r i
        if vw = 0 then regStore c r i ((old &&& ~~~ f.wmask) ||| (v &&& f.wmask)) s else (s, .err)
      | .w1 | .wo => if vw = 0 then regStore c r i (v &&& f.wmask) s else (s, .err)
      | _ => (s, .err)

/-- A write to an allocated bit-alias word, whose command bit stands on page `p` (R51). DESIGN CHOICE (log 59): while a
domain reset of that page is in progress the word is served as the command register itself is, with an error response
(R47). -/
def bitWrite (p n : Nat) (v : Word) (s : State) : State × WRes :=
  if s.flag PAGE_STAT_DRST_BUSY p then (s, .err) else (setDemand n (bitAt v 0) s, .ok)

/-- A write whose checks and guard are passed reaches its register or its command bit. -/
def spaceApply (c : Access) (a : Nat) (v : Word) (s : State) : State × WRes :=
  match bitAlias a with
  | some (p, n) => bitWrite p n v s
  | none => regWrite c a v s

/-- An axis-marked write fires in phase 3 of the present tick: whether it had its effect (R125). -/
def markedWrite (a : Nat) (v : Word) (s : State) : State × Bool :=
  let k := s.tick
  let x := spaceApply { id := 0, set := 0, t := 2000 * k, checked := false, marked := true } a v { s with tick := k - 1 }
  ({ x.1 with tick := k }, x.2 == .ok)

/-! ### Accesses of the masters -/

/-- Whether a page's writes are recorded (R444). -/
def recordedPage (p : Nat) : Bool := decide (0x04 ≤ p) && decide (p ≤ 0x6B)

def isSnap (a : Nat) : Bool := a % 1024 == 0x18

/-- The note of a write in a recording. -/
def recWriteNote (c : Access) (a : Nat) (v : Word) (s : State) : State :=
  let o := s.recorder.ord
  let s := recNote 0x0F (c.id + 16 * (if c.set < 8 then 0 else c.set - 7)) s.T [BitVec.ofNat 32 o, BitVec.ofNat 32 a, v] s
  { s with recorder := { s.recorder with ord := o + 1 } }

/-- Whether a write, once accepted, belongs to the recording (R444). -/
def recordable (a : Nat) (v : Word) : Bool :=
  if a < 0x100000 then (recordedPage (a / 4096) && !isSnap a) || (a == 0x44 && bitAt v 0 && !bitAt v 8)
  else (bitAlias a).isSome

/-! ### Writes that wait for phase 1 (R13) -/

/-- A waiting write is applied: it is noted for the recording and has its effect. One that the block refused when it was
made leaves only the trace of its refusal, and what a reset of the module has overtaken is lost. DEDUCED (log 142): an
accepted write that meets, in phase 1, a block that would now refuse it, because an input of the tick came between, is
refused then without a further answer. -/
def applyWaiting (w : Waiting) (s : State) : State :=
  if !s.served then s
  else
    let x := spaceApply w.acc w.addr w.val s
    match x.2 with
    | .ok => if w.refused then s else when (x.1.recording && recordable w.addr w.val) (recWriteNote w.acc w.addr w.val) x.1
    | _ => x.1

/-- The state in which the present tick has ended and the waiting writes have been applied in completion order: what the
next tick's phases find, if nothing else comes in (R13, R15). -/
def settled (s : State) : State :=
  s.writes.foldl (fun u w => applyWaiting w u) (closeTick { s with resp := [], writes := [] })

/-- The registers whose refused commits leave a trace: a reason, a rating counted, an event (R110, R144, R430). -/
def refusalShows (r : Reg) : Bool := r == .LN_PUSH_GO || r == .GM_FIX_GO || r == .MOD_CTRL

/-- A write that has passed its checks is answered: by what its block, with the writes before it applied, makes of it. An
accepted one then waits for phase 1 of the next tick with its right no longer asked for (R63). -/
def hold (c : Access) (a : Nat) (v : Word) (s : State) : State × WRes :=
  let c := { c with t := s.nowClk }
  let s := s.spend
  let x := spaceApply c a v s.settled
  match x.2 with
  | .ok => ({ s with writes := s.writes ++ [{ acc := { c with checked := false }, addr := a, val := v }] }, .ok)
  | e =>
    let shows := match regAt (a / 4096) (a % 4096) with
      | some (r, _) => decide (a < 0x100000) && refusalShows r
      | none => false
    (if shows then { s with writes := s.writes ++ [{ acc := c, addr := a, val := v, refused := true }] } else s, e)

/-- Registers that act when the write completes and not in a tick: the protection tables (R63), the release of masters
from the next access onward (R68), and the clearing of a page's violation record with its key (R56). DEDUCED (log 142).
-/
def actsAtOnce (r : Reg) : Bool :=
  r == .PR_UNFREEZE || r == .PR_GCLR || r == .PR_MEM_BASE || r == .PR_MEM_LIM || r == .PR_MEM_ACC || r == .PR_PAGE_ACC

/-- The key of a page in KEY mode is used up (R55). -/
def useKey (p : Nat) (s : State) : State := if s.flag GUARD_STAT_MODE p then s else s.setFlag GUARD_STAT_OPEN p false

/-- A write to an allocated page that the tables allow. GUARD_KEY acts at once, and a KW write meets its guard before
its block; one that gets an error response leaves the key open (R55). DESIGN CHOICE (log 67): of a write that breaks the
guard and also carries a value that would get an error response, the guard is checked first, and the write is a
violation. -/
def pageWrite (c : Access) (a : Nat) (v : Word) (s : State) : State × WRes :=
  let p := a / 4096
  let base := decide (a % 4096 < 1024)
  match regAt p (a % 1024) with
  | none => (s, .err)
  | some (r, _) =>
    if r = .GUARD_KEY then
      if base then (let x := guardKey c.id p v a s; if x.2 = .ok then hold c a v x.1 else x) else (s, .err)
    else if r.info.acc = .kw ∧ base = true then
      match s.guardKind c.id p with
      | some k => (s, .viol k a)
      | none =>
        let x := hold c a v (useKey p s)
        if x.2 = .ok ∨ s.flag GUARD_STAT_MODE p = true then x else (x.1.setFlag GUARD_STAT_OPEN p true, x.2)
    else if actsAtOnce r then regWrite c a v s
    else hold c a v s

/-- The check of a write at the offset `x` of an allocated page, any of its four views, against the tables: the kind of
its violation (R61, R65). FULL is asked for where the guard rules are: at a KW register itself, not at its aliases
(R60). -/
def pageWriteKind (s : State) (c : Access) (p x : Nat) : Option Nat :=
  if !c.checked then none
  else if (p = 1 ∨ (p = 0 ∧ x % 1024 = 0x44)) ∧ c.id ≠ s.owner then some 6
  else
    let need := match regAt p x with
      | some (r, _) => if r.info.acc = .kw then 3 else 2
      | none => 2
    if s.pageRight c.id p < need then some 4 else none

/-- A write on the register and memory space of R43, for a master that is not frozen. -/
def spaceWrite (c : Access) (size a : Nat) (v : Word) (s : State) : State × WRes :=
  if size < 4 ∨ a % size ≠ 0 then (s, .err)
  else if a < 0x100000 then
    let p := a / 4096
    if (blockOf p).isNone || (s.failsafe && !failsafePage p) then (s, .err)
    else match s.pageWriteKind c p (a % 4096) with
      | some k => (s, .viol k a)
      | none =>
        if c.checked && s.inReplay && recordedPage p && !isSnap a then (s, .err) else pageWrite c a v s
  else if a < 0x120000 then
    match bitAlias a with
    | none => (s, .err)
    | some (p, _) =>
      if s.failsafe then (s, .err)
      else if c.checked && decide (s.pageRight c.id p < 2) then (s, .viol 4 a)
      else if c.checked && s.inReplay then (s, .err)
      else hold c a v s
  else if inSram a || inMram a then
    if memOwn a || (s.failsafe && !inGeneral a) then (s, .err)
    else if c.checked && decide (s.memRight c.id a < 2) then (s, .viol 5 a)
    else if memWritable a then (s.wrWord a v, .ok) else (s, .err)
  else (s, .err)

/-- The page of an address whose GUARD_STAT keeps a violation there. -/
def violPage (kind a : Nat) : Option Nat := if kind = 5 then none else pageAt a

/-- DBG's first access after a reset (R455, R456). -/
def attach (id : Nat) (s : State) : State :=
  if id = 7 ∧ s.flag DG_STAT_ATTACHED 0 = false then raise 255 (s.setFlag DG_STAT_ATTACHED 0 true) else s

/-- What a helper core takes from an error response: a load or store access fault, at a PC that is a free value (R414,
log 85). DEDUCED (log 153): with TRAP_HALT at 1 the halt is the HC_TRAP command that follows. -/
def hcFault (id a cause : Nat) (s : State) : State :=
  if id < 2 ∧ s.hcState id = 1 then
    let f := s.corePc
    hcEnter id f.1 (BitVec.ofNat 32 cause) (BitVec.ofNat 32 a) f.2
  else s

/-- One write of a master: its answer is kept. -/
def wordWrite (c : Access) (size a : Nat) (v : Word) (s : State) : State × Resp :=
  if c.checked && decide (c.id < 7) && s.frozen c.id then (s, .frozen)
  else if !s.served then (s, .error)
  else
    let s := attach c.id s
    let x := spaceWrite c size a v s
    match x.2 with
    | .ok => (x.1, .ok 0#32)
    | .err => (hcFault c.id a 7 x.1, .error)
    | .viol k b => (violate c.id k b true (violPage k b) (hcFault c.id a 7 x.1), .error)

/-- What a read of an allocated page returns, and the clearing of an RC register's lanes (R48, R50, R52). -/
def regRead (c : Access) (a : Nat) (lanes : Word) (s : State) : State × Word :=
  let p := a / 4096
  let off := a % 1024
  match regAt p off with
  | none => (s, 0#32)
  | some (r, i0) =>
    if s.flag PAGE_STAT_DRST_BUSY p && decide (0x40 ≤ off) then (s, 0#32)
    else
      let i := s.instOf c r i0
      let v := s.view c.id r i
      let clears := r.info.acc == .rc && a % 4096 / 1024 == 0 && c.id != 7
      (when clears (fun s => s.put r i (s.get r i &&& ~~~ (v &&& lanes))) s, v)

/-- A read of one aligned word on the space of R43; `lanes` are the bytes asked for. -/
def spaceRead (c : Access) (a : Nat) (lanes : Word) (s : State) : State × RRes :=
  if a < 0x100000 then
    let p := a / 4096
    if s.failsafe && !failsafePage p then (s, .err)
    else if (blockOf p).isNone then (s, .ok 0#32)
    else if s.pageRight c.id p < 1 then (s, .viol 4)
    else let x := regRead c a lanes s; (x.1, .ok x.2)
  else if a < 0x120000 then
    if s.failsafe then (s, .err)
    else match bitAlias a with
    | none => (s, .ok 0#32)
    | some (p, n) =>
      if s.pageRight c.id p < 1 then (s, .viol 4)
      else (s, .ok (BitVec.ofNat 32 (b2n (!s.flag PAGE_STAT_DRST_BUSY p && s.lnDemand n))))
  else if inSram a || inMram a then
    if s.failsafe && !inGeneral a then (s, .err)
    else if s.memRight c.id a < 1 then (s, .viol 5)
    else (s, .ok (s.seenWord a))
  else (s, .ok 0#32)

/-- The lanes of an access of `size` bytes at an address, as a mask of its word. -/
def laneMask (size a : Nat) : Word := BitVec.ofNat 32 ((2 ^ (8 * size) - 1) * 2 ^ (8 * (a % 4)))

/-- One read of a master of 1, 2 or 4 bytes. -/
def wordRead (c : Access) (size a : Nat) (s : State) : State × Resp :=
  if decide (c.id < 7) && s.frozen c.id then (s, .frozen)
  else if !s.served then (s, .error)
  else
    let s := attach c.id s
    if a % size ≠ 0 then (hcFault c.id a 5 s, .error)
    else
      let x := spaceRead c (a - a % 4) (laneMask size a) s
      let s := x.1.spend
      match x.2 with
      | .ok v => (s, .ok (BitVec.ofNat 32 ((v &&& laneMask size a).toNat / 2 ^ (8 * (a % 4)))))
      | .err => (hcFault c.id a 5 s, .error)
      | .viol k => (violate c.id k a false (violPage k a) (hcFault c.id a 5 s), .error)

/-! ### The cores' own addresses (R413) -/

def localByte (s : State) (i a : Nat) : Byte := SMap.get 0#8 s.hcMem (262144 * i + a)

/-- `n` bytes of a core's local memory, as a number. -/
def localRead (s : State) (i a n : Nat) : Nat := bytesLE ((List.range n).map fun k => s.localByte i (a + k))

def localWrite (i a n : Nat) (v : Nat) (s : State) : State :=
  each (List.range n) (fun k s =>
    { s with hcMem := SMap.set 0#8 s.hcMem (262144 * i + a + k) (BitVec.ofNat 8 (v / 2 ^ (8 * k))) }) s

/-- mtime, in µs of module time (R413). -/
def mtime (s : State) : Nat := s.nowClk / 200

/-- Whether a core's access is its own business: local memory, the timer, and the addresses that fault (R413). -/
def hcOwn (id a : Nat) : Bool := decide (id < 2) && !(decide (a < 0x120000) || inSram a || inMram a)

/-- mtimecmp is written: the timer interrupt is pending while mtime ≥ mtimecmp (R414). -/
def mtimecmpSet (i c : Nat) (s : State) : State :=
  (s.modHc i fun h => { h with mtimecmp := c, timer := decide (c ≤ s.mtime) }).spend

/-- A core's write beyond the module's address space. -/
def hcOwnWrite (i size a : Nat) (v : Word) (s : State) : State × Resp :=
  let l := a - 0x10000000
  if 0x10000000 ≤ a ∧ l + size ≤ 262144 then (localWrite i l size v.toNat s, .ok 0#32)
  else if a = 0x10040008 ∧ size = 4 then (mtimecmpSet i ((s.hc i).mtimecmp / 2 ^ 32 * 2 ^ 32 + v.toNat) s, .ok 0#32)
  else if a = 0x1004000C ∧ size = 4 then (mtimecmpSet i ((s.hc i).mtimecmp % 2 ^ 32 + v.toNat * 2 ^ 32) s, .ok 0#32)
  else (hcFault i a 7 s, .error)

def hcOwnRead (i size a : Nat) (s : State) : State × Resp :=
  let l := a - 0x10000000
  if 0x10000000 ≤ a ∧ l + size ≤ 262144 then (s, .ok (BitVec.ofNat 32 (s.localRead i l size)))
  else if size ≠ 4 then (hcFault i a 5 s, .error)
  else if a = 0x10040000 then (s.spend, .ok (loW s.mtime))
  else if a = 0x10040004 then (s.spend, .ok (hiW s.mtime))
  else if a = 0x10040008 then (s, .ok (loW (s.hc i).mtimecmp))
  else if a = 0x1004000C then (s, .ok (hiW (s.hc i).mtimecmp))
  else (hcFault i a 5 s, .error)

/-- Whether a master is there to make an access: a helper core makes them in RUN only, and DBG through a TAP that
DG_CFG.EN has enabled (R415, R440). -/
def canAccess (s : State) (id : Nat) : Bool :=
  if id < 2 then s.hcState id == 1 else id != 7 || s.flag DG_CFG_EN 0

/-- One write; a core's own addresses take no 64-bit access. -/
def accWrite (c : Access) (size a : Nat) (v : Word) (s : State) : State × Resp :=
  if hcOwn c.id a && decide (size ≤ 4) then hcOwnWrite c.id size a v s else wordWrite c size a v s

def accRead (c : Access) (size a : Nat) (s : State) : State × Resp :=
  if hcOwn c.id a then hcOwnRead c.id size a s else wordRead c size a s

def andAnswer (x : State × Resp) : State := x.1.answer x.2

/-- A write command of a master; an aligned 64-bit write is two, and one that is not aligned to its width is refused whole
(R48). -/
def busWrite (id size a : Nat) (v : BitVec 64) (s : State) : State :=
  let c := Access.of id
  if !s.canAccess id then s
  else if size = 8 ∧ a % 8 = 0 then
    let s := andAnswer (accWrite c 4 a (loW v.toNat) s)
    andAnswer (accWrite c 4 (a + 4) (hiW v.toNat) s)
  else andAnswer (accWrite c size a (loW v.toNat) s)

/-- A read command of a master; a 64-bit read is two. -/
def busRead (id size a : Nat) (s : State) : State :=
  let c := Access.of id
  if !s.canAccess id then s
  else if size = 8 ∧ a % 8 = 0 then
    andAnswer (accRead c 4 (a + 4) (andAnswer (accRead c 4 a s)))
  else andAnswer (accRead c size a s)

end State
end Sys2Proof.Machine
end

