-- ==== Sys2Proof/Machine/Host.lean ====
section
/-!
DEFINITION. Sys2Proof/Machine/Host.lean: the host link: ports, ZHA sessions and stream frames (R403 to R409), the SPI host
port (R410, R411) and the elements of the host command queues (R398).
-/

namespace Sys2Proof.Machine
namespace State

def session (s : State) (i : Nat) : Session := SMap.get {} s.sess i
def modSession (i : Nat) (f : Session → Session) (s : State) : State :=
  { s with sess := SMap.set {} s.sess i (f (s.session i)) }
def send (f : OutFrame) (s : State) : State := { s with out := s.out ++ [f] }

/-! ### Ports (R403) -/

/-- A port takes frames: it is on, its link is up, and the module serves the host link (R424, R428). -/
def portUp (s : State) (p : Nat) : Bool := s.served && !s.failsafe && s.flag HL_PCFG_EN p && s.flag HL_PSTAT_LINK p

def portRx (p : Nat) (s : State) : State := s.incMod HL_PCNT_RX p

/-- HL_LINK: a link goes up or down; at each link-up the port announces its address. -/
def linkChange (p : Nat) (up : Bool) (sqi : Nat) (s : State) : State :=
  if s.served && !s.failsafe && s.flag HL_PCFG_EN p && s.flag HL_PSTAT_LINK p != up then
    let t := s.nowClk
    let s := (s.spend.setFlag HL_PSTAT_LINK p up).setFld HL_PSTAT_SQI p (min sqi 7)
    when up (send (.arpAnnounce p)) (raiseLog 245 p noCause t [] s)
  else s

/-- ARP_REQUEST for an address. -/
def arpRequest (p : Nat) (ip : Word) (s : State) : State :=
  if s.portUp p then when (ip == s.get .HL_IP p) (send (.arpReply p)) (portRx p s) else s

/-- ARP_REPLY: the entries of the sessions whose peer it names are kept for 60 s from now. -/
def arpReply (p : Nat) (ip : Word) (s : State) : State :=
  if s.portUp p then
    let t := s.nowClk
    each (pick 4 fun i => s.flag HL_SCFG_EN i && s.fld HL_SCFG_PORT i == p && s.get .HL_SPEER i == ip)
      (fun i s => s.modSession i fun e => { e with arp := some t }) (portRx p s.spend)
  else s

/-- ARP_ENTRY_EXPIRY: an entry reaches its age of 60 s. -/
def arpExpiry (i : Nat) (s : State) : State :=
  match (s.session i).arp with
  | some t => if t + 60 * 200000000 ≤ s.Tn then s.modSession i fun e => { e with arp := none } else s
  | none => s

/-- ICMP_ECHO: at most 100 answers within a second of module time. -/
def icmpEcho (p : Nat) (data : List Byte) (s : State) : State :=
  if s.portUp p then
    let s := portRx p s
    if s.flag HL_PCFG_ICMP_EN p && decide (data.length ≤ 1472) then
      let q : Port := SMap.get {} s.ports p
      let sec := s.T / 200000000
      let n := if q.sec = sec then q.echoes else 0
      if n < 100 then send (.echo p data) { s with ports := SMap.set {} s.ports p { sec := sec, echoes := n + 1 } } else s
    else s
  else s

/-- A frame the port drops. -/
def ethDrop (p : Nat) (s : State) : State := if s.portUp p then (portRx p s).incSat HL_PCNT_DROP p else s

/-- Whether a datagram names another UDP port than the module's (R403). -/
def otherPort (s : State) (f : ZhaFrame) : Bool := s.fld HL_UDP_PORT f.port.val != f.dport

/-! ### ZHA frames (R405, R406) -/

def half2 (l : List Byte) (o : Nat) : Nat := bytesLE ((l.drop o).take 2)
def word4 (l : List Byte) (o : Nat) : Word := bytesWord ((l.drop o).take 4)
def byte1 (l : List Byte) (o : Nat) : Nat := (l.getD o 0#8).toNat

def zhaType (f : ZhaFrame) : Nat := byte1 f.payload 3
def zhaBody (f : ZhaFrame) : List Byte := (f.payload.drop 16).take (half2 f.payload 6)

/-- A frame of a session, tagged under its key (R405). -/
def zhaFrame (s : State) (i type : Nat) (seq : Word) (body : List Byte) : List Byte :=
  let h := [0x48#8, 0x5A#8, 1#8, BitVec.ofNat 8 type, BitVec.ofNat 8 i, 0#8] ++ natBytes body.length 2 ++
    wordBytes (s.get .HL_EPOCH 0) ++ wordBytes seq ++ body
  h ++ Sha.tag (s.session i).key h

/-- Whether a session's peer is on its port's own subnet: no other is reached (R403). -/
def onSubnet (s : State) (i : Nat) : Bool :=
  let p := s.fld HL_SCFG_PORT i
  (s.get .HL_SPEER i ^^^ s.get .HL_IP p) &&& s.get .HL_MASK p == 0#32

/-- Sends a frame to a session's peer, whose address is resolved first when no entry holds it (R403). -/
def sendPeer (i : Nat) (b : List Byte) (s : State) : State :=
  if s.onSubnet i then
    send (.zha i b) (if (s.session i).arp.isNone then send (.arpRequest (s.fld HL_SCFG_PORT i) (s.get .HL_SPEER i)) s else s)
  else s

/-- Whether the first test of R406 drops a frame. -/
def zhaBad (s : State) (f : ZhaFrame) : Bool :=
  let l := f.payload
  let i := byte1 l 4
  half2 l 0 != 0x5A48 || byte1 l 2 != 1 || decide (4 ≤ i) || !s.flag HL_SCFG_EN i || s.fld HL_SCFG_PORT i != f.port.val ||
    s.get .HL_SPEER i != f.src || s.fld HL_SPORT_PORT i != f.sport ||
    half2 l 6 % 4 != 0 || decide (1400 < half2 l 6) || l.length != 32 + half2 l 6

/-- What R406 decides about a frame. -/
inductive ZhaTest where
  | bad | auth | ping | stale | dup | accept
deriving DecidableEq, Repr

def zhaTest (s : State) (f : ZhaFrame) : ZhaTest :=
  let l := f.payload
  let i := byte1 l 4
  let n := 16 + half2 l 6
  if s.zhaBad f then .bad
  else if Sha.tag (s.session i).key (l.take n) != l.drop n then .auth
  else if zhaType f = 6 then .ping
  else if word4 l 8 ≠ s.get .HL_EPOCH 0 then .stale
  else
    let d := wint (word4 l 12 - s.get .HL_SSEQ i)
    if d = 0 then .dup else if d < 0 then .stale else .accept

/-! ### Requests (R407, R408) -/

/-- STATUS of a response. -/
def zhaStatus (index code : Nat) : List Byte := wordBytes (BitVec.ofNat 32 (65536 * index + code))

/-- Whether a request is still in hand: no reset has abandoned it (R418). -/
def inHand (s : State) (i : Nat) : Bool := s.flag HL_SSTAT_BUSY i

/-- Writes in order until the first error response: the index it stood at, if any. -/
def writeRun (c : Access) : Nat → List (Nat × Word) → State → State × Option Nat
  | _, [], s => (s, none)
  | k, (a, v) :: r, s =>
    let x := wordWrite c 4 a v s
    let s := x.1.answer x.2
    match x.2 with
    | .ok _ => if s.served then writeRun c (k + 1) r s else (s, none)
    | _ => (s, some k)

/-- Reads in order until the first error response. -/
def readRun (c : Access) : Nat → List Nat → List Word → State → State × List Word × Option Nat
  | _, [], ws, s => (s, ws, none)
  | k, a :: r, ws, s =>
    let x := wordRead c 4 a s
    let s := x.1.answer x.2
    match x.2 with
    | .ok v => readRun c (k + 1) r (ws ++ [v]) s
    | _ => (s, ws, some k)

/-- The addresses of a READ or WRITE of COUNT words (R407). -/
def runAddrs (a : Nat) (ctrl : Word) : List Nat :=
  (List.range (bitsOf ctrl 8 0)).map fun k => if bitAt ctrl 16 then a else (a + 4 * k) % 2 ^ 32

/-- The words of a list of bytes. -/
def wordsOf (l : List Byte) : List Word := (List.range (l.length / 4)).map fun k => word4 l (4 * k)

/-- The address and value pairs of a list of words. -/
def pairsOf : List Word → List (Nat × Word)
  | a :: v :: r => (a.toNat, v) :: pairsOf r
  | _ => []

/-- STATUS for an outcome of accesses. -/
def runStatus (e : Option Nat) : List Byte := match e with | some k => zhaStatus k 1 | none => zhaStatus 0 0

/-- CMDQ: elements beyond the room of the command queue are rejected (R394, R408). -/
def cmdqPush (i : Nat) (body : List Byte) (s : State) : State × List Byte :=
  let q := 30 + i
  let n := body.length / 128
  let t := s.nowClk
  let s := s.spend
  let a := if s.flag Q_GEOM_EN q then min n (s.qN q - s.qFill q) else 0
  let s := each (List.range a) (fun k s => qPut q (wordsOf ((body.drop (128 * k)).take 128)) s) s
  if a < n then (qLost q t (qReject q (n - a) s), zhaStatus a 3) else (s, zhaStatus 0 0)

/-- STREAM_ACK (R409). -/
def streamAck (i : Nat) (n : Word) (s : State) : State :=
  if s.flag HL_SSTAT_OUT i && n == s.get .HL_SSSEQ i then
    let q := 34 + i
    let h := s.qHeld q
    let s : State := ({ s with streamOut := SMap.set 0 s.streamOut q 0 }).setFlag HL_SSTAT_OUT i false
    qSetHead q ((s.qHead q + h) % 65536) (s.modSession i fun e => { e with frame := [] })
  else s

/-- A request is executed: the new state and the response's body. -/
def zhaExec (i type : Nat) (body : List Byte) (s : State) : State × List Byte :=
  let c := Access.of (2 + i)
  let n := body.length
  let ctrl := word4 body 4
  let cnt := bitsOf ctrl 8 0
  let fits := decide (1 ≤ cnt) && decide (cnt ≤ 256)
  if s.frozen (2 + i) then (s, zhaStatus 0 2)
  else if type = 1 ∧ n = 8 ∧ fits = true then
    let x := readRun c 0 (runAddrs (word4 body 0).toNat ctrl) [] s
    (x.1, runStatus x.2.2 ++ x.2.1.flatMap wordBytes)
  else if type = 2 ∧ n = 8 + 4 * cnt ∧ fits = true then
    let x := writeRun c 0 ((runAddrs (word4 body 0).toNat ctrl).zip (wordsOf (body.drop 8))) s
    (x.1, runStatus x.2)
  else if type = 3 ∧ n % 8 = 0 ∧ 1 ≤ n / 8 ∧ n / 8 ≤ 128 then
    let x := writeRun c 0 (pairsOf (wordsOf body)) s
    (x.1, runStatus x.2)
  else if type = 4 ∧ n % 128 = 0 ∧ 1 ≤ n / 128 ∧ n / 128 ≤ 10 then cmdqPush i body s
  else if type = 5 ∧ n = 4 then (streamAck i (word4 body 0) s, zhaStatus 0 0)
  else (s, zhaStatus 0 4)

/-- An accepted request: it is executed, and its response is stored and sent, unless a reset has abandoned it. -/
def zhaAccept (i type : Nat) (seq : Word) (body : List Byte) (s : State) : State :=
  let s := (s.put .HL_SSEQ i seq).put .HL_SREQ i (s.get .HL_SREQ i + 1#32)
  let x := zhaExec i type body (s.setFlag HL_SSTAT_BUSY i true)
  if x.1.served && x.1.inHand i then
    let s := x.1.setFlag HL_SSTAT_BUSY i false
    let r := s.zhaFrame i (type + 0x80) seq x.2
    sendPeer i r (s.modSession i fun e => { e with stored := some r })
  else x.1

/-- PING (R407). -/
def zhaPing (i : Nat) (seq : Word) (empty : Bool) (s : State) : State :=
  let body := if s.frozen (2 + i) then zhaStatus 0 2
    else if !empty then zhaStatus 0 4
    else zhaStatus 0 0 ++ wordBytes (s.get .HL_EPOCH 0) ++ wordBytes (s.get .HL_SSEQ i) ++
      wordBytes (loW s.nowClk) ++ wordBytes (hiW s.nowClk)
  sendPeer i (s.zhaFrame i 0x86 seq body) s.spend

/-- A received datagram: dropped and counted where it names another UDP port (R403), else a ZHA frame under the table of
R406. -/
def zhaReceive (f : ZhaFrame) (s : State) : State :=
  if !s.portUp f.port.val then s
  else if s.otherPort f then ethDrop f.port.val s
  else
    let l := f.payload
    let i := byte1 l 4
    let s := portRx f.port.val s
    match s.zhaTest f with
    | .bad => if i < 4 ∧ 5 ≤ l.length then s.incSat HL_SCNT_BAD i else s
    | .auth => raiseOf 244 i noCause (s.incSat HL_SCNT_AUTH i)
    | .ping => zhaPing i (word4 l 12) (zhaBody f).isEmpty s
    | .stale => raiseOf 244 i noCause (s.incSat HL_SCNT_STALE i)
    | .dup =>
      let s := s.incSat HL_SCNT_DUP i
      match (s.session i).stored with
      | some r => sendPeer i r s
      | none => s
    | .accept => zhaAccept i (zhaType f) (word4 l 12) (zhaBody f) s

/-- A frame of one request type: another type is no occurrence of the row. -/
def zhaRow (type : Nat) (f : ZhaFrame) (s : State) : State :=
  if zhaType f = type then zhaReceive f s else s

/-- ZHA_FRAME_DROP: a frame that the port or the session tests drop; a reserved TYPE that passes them is answered
BADREQ. -/
def zhaDrop (d : DropFrame) (s : State) : State :=
  match d with
  | .eth p => ethDrop p.val s
  | .zha f =>
    let t := s.zhaTest f
    if s.otherPort f = true ∨ t = .bad ∨ t = .auth ∨ t = .stale ∨ zhaType f = 0 ∨ 6 < zhaType f then zhaReceive f s else s

/-! ### Stream frames (R409) -/

/-- STREAM_FRAME_SEND. -/
def streamSend (i : Nat) (s : State) : State :=
  let q := 34 + i
  let n := min 40 (s.qFill q)
  if s.flag HL_SCFG_EN i && s.flag HL_SCFG_STREAM_EN i && s.portUp (s.fld HL_SCFG_PORT i) && !s.flag HL_SSTAT_OUT i &&
      s.flag Q_GEOM_EN q && n != 0 then
    let seq := s.get .HL_SSSEQ i + 1#32
    let body := (List.range n).flatMap fun k => s.rdBytes (s.qSlot q ((s.qHead q + k) % 65536)) 32
    let r := s.zhaFrame i 0x10 seq body
    let t := s.nowClk
    let s : State := { s.spend with streamOut := SMap.set 0 s.streamOut q n }
    sendPeer i r (((s.put .HL_SSSEQ i seq).setFlag HL_SSTAT_OUT i true).modSession i fun e =>
      { e with frame := r, outT := t })
  else s

/-- STREAM_RESEND: SRTO × 10 ms have passed without an acknowledgement. -/
def streamResend (i : Nat) (s : State) : State :=
  let e := s.session i
  if s.flag HL_SCFG_EN i && s.flag HL_SCFG_STREAM_EN i && s.flag HL_SSTAT_OUT i && s.portUp (s.fld HL_SCFG_PORT i) &&
      decide (e.outT + 2000000 * s.fld HL_SCFG_SRTO i ≤ s.Tn) then
    sendPeer i e.frame (s.modSession i fun e => { e with outT := s.Tn })
  else s

/-! ### The SPI host port (R410, R411) -/

/-- The port is on: by its register, and in FAILSAFE, where HS4 is the owner (R428). -/
def spiOn (s : State) : Bool := s.served && (s.failsafe || s.flag HL_SPI_CFG_EN 0)

def spiFrame (s : State) : State := s.incMod HL_SPI_CNT_FRAMES 0
def spiBad (s : State) : State := raise 247 (s.incSat HL_SPI_CNT_BAD 0)

/-- A word as the SPI port carries it, most significant bit first. DEDUCED (log 88). -/
def spiWord (b : List Byte) : Word := bytesWord b.reverse
def spiBytes (w : Word) : List Byte := (wordBytes w).reverse

def spiCrc (l : List Byte) : List Byte := natBytes (crcArc l) 2

/-- RESULT of a WRITE: WSEQ advances. -/
def spiResult (code index : Nat) (s : State) : State :=
  ((s.incMod HL_SPI_STAT_WSEQ 0).setFld HL_SPI_STAT_RESULT 0 code).setFld HL_SPI_STAT_INDEX 0 index

/-- SPI_WRITE: the bytes of a frame from CMD on, at the rising edge of nCS. -/
def spiWrite (l : List Byte) (s : State) : State :=
  if s.spiOn && byte1 l 0 == 2 then
    let s := spiFrame s
    let n := byte1 l 5 + 1
    let d := l.length - 2
    if l.length ≠ 8 + 4 * n ∨ 64 < n ∨ spiCrc (l.take d) ≠ l.drop d then spiResult 3 0 (spiBad s)
    else if s.frozen 6 then spiResult 2 0 s
    else
      let a := (spiWord ((l.drop 1).take 4)).toNat
      let ws := (List.range n).map fun k => (a + 4 * k, spiWord ((l.drop (6 + 4 * k)).take 4))
      let x := writeRun (Access.of 6) 0 ws s
      if x.1.served then (match x.2 with | some k => spiResult 1 k x.1 | none => spiResult 0 0 x.1) else x.1
  else s

/-- SPI_READ: the address and N of a frame, and how many of its reads were made before nCS rose. -/
def spiRead (l : List Byte) (made : Nat) (s : State) : State :=
  if s.spiOn && byte1 l 0 == 3 then
    let s := spiFrame s
    let n := byte1 l 5 + 1
    if l.length < 6 ∨ 64 < n then spiBad s
    else
      let a := (spiWord ((l.drop 1).take 4)).toNat
      let f := s.frozen 6
      let x := if f then (s, [], none) else
        readRun (Access.of 6) 0 ((List.range (min n made)).map fun k => a + 4 * k) [] s
      let ws := (x.2.1 ++ List.replicate n 0#32).take n
      let body := ws.flatMap spiBytes ++ [if f then 2#8 else if x.2.2.isSome then 1#8 else 0#8]
      if made < n then x.1 else send (.spi (0xA5#8 :: body ++ spiCrc body)) x.1
  else s

/-- SPI_STATUS. -/
def spiStatus (s : State) : State :=
  if s.spiOn then
    let b := [BitVec.ofNat 8 (s.fld HL_SPI_STAT_WSEQ 0), BitVec.ofNat 8 (s.fld HL_SPI_STAT_RESULT 0)] ++
      (natBytes (s.fld HL_SPI_STAT_INDEX 0) 2).reverse
    send (.spi (b ++ spiCrc b)) (spiFrame s)
  else s

/-- SPI_ERR: an unknown command. -/
def spiErr (cmd : Nat) (s : State) : State :=
  if s.spiOn && cmd != 2 && cmd != 3 && cmd != 5 then spiBad (spiFrame s) else s

/-! ### Host command queues (R398) -/

/-- A command queue carries a replay (R447, R449). -/
def rpCarries (s : State) (i : Nat) : Bool := s.inReplay && s.rbit .RP_CFG 0 i

/-- Whether the queue engine takes the head element of Q(30 + i) in the present tick: one a tick, none of a frozen
session (R67, R398). -/
def cmdReady (s : State) (i : Nat) : Bool :=
  let q := 30 + i
  s.served && !s.failsafe && s.flag Q_GEOM_EN q && s.qFill q != 0 && SMap.get 0 s.cmdT q != s.tick + 1 &&
    !s.frozen (s.fld Q_GEOM_OWNER q)

def cmdHead (s : State) (i : Nat) : List Word := s.rdWords (s.qSlot (30 + i) (s.qHead (30 + i))) 32

/-- The head element is taken from its queue. -/
def cmdPop (i : Nat) (s : State) : State :=
  let q := 30 + i
  qSetHead q ((s.qHead q + 1) % 65536) { s with cmdT := SMap.set 0 s.cmdT q (s.tick + 1) }

/-- An element is skipped as an error: TAG and the pair index. -/
def cmdErr (i t : Nat) (w0 : Word) (k : Nat) (s : State) : State :=
  qErr (30 + i) t [BitVec.ofNat 32 (bitsOf w0 15 0), BitVec.ofNat 32 k] s

/-- CMD_WRITES: a WRITES element, and one whose KIND is reserved. -/
def cmdWrites (i : Nat) (s : State) : State :=
  let e := s.cmdHead i
  let w0 := e.headD 0#32
  if !s.cmdReady i || bitsOf w0 31 28 == 2 then s
  else
    let t := s.T
    let n := bitsOf w0 23 16
    let carries := s.rpCarries i
    let s := cmdPop i s
    if carries || bitsOf w0 31 28 != 1 || n == 0 || decide (15 < n) then cmdErr i t w0 0 s
    else
      let x := writeRun { id := s.fld Q_GEOM_OWNER (30 + i), set := 38 + i } 0 ((pairsOf (e.drop 2)).take n) s
      match x.2 with
      | some k => if x.1.served then cmdErr i t w0 k x.1 else x.1
      | none => x.1

/-- The replay unit takes the element at the head of a queue: at most 16 a tick (R449). -/
def rpTake (i : Nat) (s : State) : State :=
  let q := 30 + i
  let r : RpQueue := SMap.get {} s.replay.qs i
  let n := if r.tick = s.tick + 1 then r.n else 0
  let e := s.cmdHead i
  if s.qFill q = 0 ∨ 16 ≤ n ∨ bitsOf (e.headD 0#32) 31 28 ≠ 2 then s
  else
    let ws := (e.drop 2).take (min 30 (bitsOf (e.getD 1 0#32) 15 8))
    let r : RpQueue := { r with words := r.words ++ ws, tick := s.tick + 1, n := n + 1 }
    qSetHead q ((s.qHead q + 1) % 65536)
      { s with replay := { s.replay with qs := SMap.set {} s.replay.qs i r } }

/-- CMD_REPLAY: a REPLAY element goes to the replay unit; outside replay it is skipped as an error. -/
def cmdReplay (i : Nat) (s : State) : State :=
  let w0 := (s.cmdHead i).headD 0#32
  if bitsOf w0 31 28 != 2 then s
  else if s.rpCarries i then (if s.served && s.flag Q_GEOM_EN (30 + i) then rpTake i s else s)
  else if s.cmdReady i then cmdErr i s.T w0 0 (cmdPop i s)
  else s

end State
end Sys2Proof.Machine
end

