-- ==== Sys2Proof/Machine/Replay.lean ====
section
/-!
DEFINITION. Sys2Proof/Machine/Replay.lean: what an input does once it is taken in, live or from a replay record, and the
replay unit: START, the merge of records, END (R445 to R450).
-/

namespace Sys2Proof.Machine
namespace State

/-! ### Inputs as they are taken in (R14) -/

/-- A plain-input change that is accepted: count, blanking, measurements of the lanes and open intervals (R118, R174,
R186, R191). -/
def plainEdge (c t : Nat) (lvl : Bool) (s : State) : State :=
  if s.fbPlainAccepts c t lvl then axEdgeNote c t (opnFbEdge c t lvl (lnFbEdge c t lvl (fbPlainTake c t lvl s))) else s

/-- The end of a plain input's blanking before the clock `T`: a filtered level that differs from the last accepted one
counts as an edge (R186). -/
def blankEnd (c T : Nat) (s : State) : State :=
  match (s.fbc c).blankEnd with
  | some e =>
    if e < T then plainEdge c e (s.fld FB_STAT_LVL c % 2 == 1) (s.modFb c fun f => { f with blankEnd := none }) else s
  | none => s

/-- The lines whose new levels their filters accept, of lines that change at one sample, each with the number of samples
for which its new level holds: the new level differs from the filtered one and holds for FILT + 1 samples on A and B,
ZFILT + 1 on Z (R184). -/
def filtered (s : State) (c : Nat) (ta tb tz : Option Nat) : Bool × Bool × Bool :=
  let f := s.fbc c
  let ab (x : Option Nat) : Bool := x.any fun n => decide (s.fld FB_FILT_FILT c < n)
  (ab ta && !f.rawA, ab tb && !f.rawB, (tz.any fun n => decide (s.fld FB_FILT_ZFILT c < n)) && !f.rawZ)

/-- The edges passed; an edge after the end of a blanking finds it ended (R186). -/
def edgePass (c t : Nat) (ta tb tz : Bool) (s : State) : State :=
  let s := when (s.fbMode c == 4 && ta) (blankEnd c t) s
  let n := (s.fbc c).n
  let s := fbEdge c t ta tb tz s
  if s.fbMode c = 4 then (if ta then plainEdge c t (s.fld FB_STAT_LVL c % 2 == 1) s else s)
  else if s.fbEn c && (s.fbc c).n != n then axEdgeNote c t s
  else s

/-- A change of a channel's lines at `t`: a pulse that is too short leaves no trace (R184). -/
def edgeTake (c t : Nat) (ta tb tz : Option Nat) (s : State) : State :=
  let p := s.filtered c ta tb tz
  let s := s.modFb c fun f => { f with
    rawA := (f.rawA != ta.isSome) && !p.1, rawB := (f.rawB != tb.isSome) && !p.2.1, rawZ := (f.rawZ != tz.isSome) && !p.2.2 }
  when (p.1 || p.2.1 || p.2.2) (edgePass c t p.1 p.2.1 p.2.2) s

/-- A precision result, with the air zone that it brings back (R300, R343). -/
def pcTake (n : Nat) (s : State) : State :=
  if s.fld PC_FLAGS_FLAGS n % 8 = 0 ∧ s.fld PC_FLAGS_FLAGS n / 16 % 2 = 0 then zoneBack n s else s

/-- An impedance result, with the paths that it feeds: slot 0, not over range (R339, R351). -/
def zcTake (z t : Nat) (s : State) : State :=
  if s.fld ZC_STAT_SLOT z = 0 ∧ s.flag ZC_STAT_OVR z = false then dpReading z t s else s

/-! ### Records (R446) -/

/-- A record: RK, INDEX, STAMP and body. -/
structure RpRec where
  rk : Nat
  inst : Nat
  stamp : Nat
  body : List Word
deriving DecidableEq, Repr

/-- The first record of a queue's words, if it is complete, with the words after it. -/
def rpParse (ws : List Word) : Option (RpRec × List Word) :=
  match ws with
  | h :: lo :: hi :: r =>
    let n := (bitsOf h 15 0 + 3) / 4
    if r.length < n then none
    else some (⟨bitsOf h 31 26, bitsOf h 25 16, lo.toNat + 2 ^ 32 * hi.toNat, r.take n⟩, r.drop n)
  | _ => none

/-- The tick a record belongs to (R12). -/
def rpTick (r : RpRec) : Nat := r.stamp / 2000 + 1

/-- Word `n` of a record's body. -/
def rpWord (r : RpRec) (n : Nat) : Word := r.body.getD n 0#32

/-- The bytes of a body from word `n` on. -/
def rpBytes (r : RpRec) (n : Nat) : List Byte := (r.body.drop n).flatMap wordBytes

/-- Order of records within a tick: inputs by stamp, class and index (R14), within the analog class VALVE after PC, GC
and ZC, with a group's behind those of its channels (R226), and LSW after VALVE (R276); after the inputs WRITE and TILE
by ORD (R448), then END. -/
def rpKey (r : RpRec) : Nat :=
  let cls : Nat := match r.rk with
    | 0x03 => 0 | 0x04 => 1 | 0x05 => 2 | 0x06 => 3 | 0x07 => 4 | 0x08 => 5 | 0x09 => 6 | 0x0A => 7 | 0x0B => 8
    | 0x0C => 9 | 0x0D => 10 | 0x0E => 11 | _ => 12
  let idx := if r.rk != 0x0B then r.inst else if r.inst < 128 then r.inst / 8 * 9 + r.inst % 8 else (r.inst - 128) * 9 + 8
  if r.rk = 0x0F ∨ r.rk = 0x10 then 2 ^ 96 + bitsOf (rpWord r 0) 15 0
  else if r.rk = 0x02 then 2 ^ 97
  else (r.stamp * 16 + cls) * 1024 + idx

/-- Inserts a record behind those whose key is not above its own. -/
def rpInsert (r : RpRec) : List RpRec → List RpRec
  | [] => [r]
  | a :: l => if rpKey r < rpKey a then r :: a :: l else a :: rpInsert r l

/-- A VALVE record: an observation of a channel, or of a group from 128 on (R226, R446). -/
def rpValve (r : RpRec) (s : State) : State :=
  let n := r.inst
  let t := r.stamp
  let g := n - 128
  match bitsOf (rpWord r 0) 7 0 with
  | 1 => vOpenRes n t (some (t - (rpWord r 1).toNat)) s
  | 2 =>
    let f := s.freeVal
    let last := (s.valve n).decayT + 20000 * s.fld VG_CDET_REL_WIN n
    vRelRes n t (some (t - (rpWord r 1).toNat)) (f.2.modDet n fun d => { d with ts := t + f.1.toNat % (last + 1 - t) })
  | 3 => if s.flag VG_CCFG_DET_EN n && (s.valve n).det.openRes.isNone then vOpenRes n t none s else vRelRes n t none s
  | 4 => vOpenOn n t s
  | 5 => vShortSup n t s
  | 6 => vShortGnd g t s
  | 7 => vHsTrip g t s
  | 8 =>
    let res := bitsOf (rpWord r 0) 15 8
    if t = sampleEnd ((s.vgrp (n / 8)).winT + 60000) ∧ (res = 0 ∨ res = 3) then vWindowRes n t (res == 3) s
    else vHsonRes n (t - (if res = 1 then 20000 else 40000)) t res s
  | 9 => vThermResult n t (rpWord r 2) (rpWord r 3) (rpWord r 1) s
  | _ => s

/-- A load-switch record: a channel, or a supply group from 24 on (R276, R446). -/
def rpSwitch (r : RpRec) (s : State) : State :=
  let n := r.inst
  let t := r.stamp
  match (rpWord r 0).toNat with
  | 1 => lsTrips n t s
  | 2 => lsThOffs n t s
  | 3 => lsCools n t s
  | 4 => lsUvOffs (n - 24) t (s.lsMv (n - 24)) s
  | 5 => lsUvBacks (n - 24) t s
  | _ => s

/-- The frame that a CAN record holds, and whether it is the controller's own (R370). -/
def rpFrame (r : RpRec) : CanFrame × Bool :=
  let a := rpWord r 0
  let b := rpWord r 1
  let f : CanFrame := { fdf := bitAt a 31, rtr := bitAt a 30, ide := bitAt a 29, id := bitsOf a 28 0, brs := bitAt b 30,
                        esi := bitAt b 29, dlc := bitsOf b 3 0 }
  ({ f with data := (rpBytes r 2).take (canLen f) }, bitAt b 31)

/-- A WRITE record: a write of its identity, under the guard rules and without the protection check. DEDUCED (log 143):
no key opens page 0x00 in a recording, which holds no GUARD_KEY writes of that page (R444), so a WRITE of
MOD_CTRL.RELEASE asks for none. -/
def rpWrite (c : Access) (a : Nat) (v : Word) (s : State) : State :=
  let p := a / 4096
  let go (s : State) : State :=
    let x := spaceApply c a v s
    match x.2 with
    | .viol k b => violate c.id k b true (violPage k b) x.1
    | _ => x.1
  if c.id < 7 ∧ s.frozen c.id = true then s
  else match regAt p (a % 4096) with
  | some (.GUARD_KEY, _) =>
    let x := guardKey c.id p v a s
    match x.2 with
    | .viol k b => violate c.id k b true (violPage k b) x.1
    | _ => x.1
  | some (r, _) =>
    if r.info.acc = .kw ∧ r ≠ .MOD_CTRL ∧ a < 0x100000 then
      match s.guardKind c.id p with
      | some k => violate c.id k a true (violPage k a) s
      | none => go (useKey p s)
    else go s
  | none => go s

/-- One record of the tick is applied. -/
def rpApply (r : RpRec) (s : State) : State :=
  let n := r.inst
  let t := r.stamp
  let w := rpWord r
  match r.rk with
  | 0x02 => { s with replay := { s.replay with ended := true } }
  | 0x03 =>
    if bitAt (w 0) 7 then ssiSample n t (w 1).toNat (!bitAt (w 0) 4) false s
    else edgePass n t (bitAt (w 0) 4) (bitAt (w 0) 5) (bitAt (w 0) 6) s
  | 0x04 => mainsEdge n (bitAt (w 0) 0) t s
  | 0x05 => ppsEdge n t s
  | 0x06 => gnssSentence n t ((rpBytes r 0).filter (· != 0#8)) s
  | 0x07 =>
    if n = 0 then (hostFix w t s).1
    else yawRecord (w 5) (t - 200 * bitsOf (w 0) 23 0) t s
  | 0x08 => pcTake n (pcResult n t (wint (w 0)) (bitsOf (w 1) 7 0) (w 2) false s)
  | 0x09 => gcValue n t (if s.fld GC_CFG_RANGE n = 1 then signed 16 (bitsOf (w 0) 15 0) else bitsOf (w 0) 15 0)
      (bitsOf (w 0) 18 16) s
  | 0x0A => zcTake n t (zcResult n t (w 0) (w 1) (bitsOf (w 2) 1 0) (bitAt (w 2) 2) s)
  | 0x0B => rpValve r s
  | 0x0C => rpSwitch r s
  | 0x0D => canReplay n t (rpFrame r).1 (rpFrame r).2 s
  | 0x0E => sbReplay (n / 64) (n % 64) t (bitsOf (w 0) 31 28) (bitsOf (w 0) 15 0)
      ((rpBytes r 1).take (bitsOf (w 0) 23 16)) s
  | 0x0F =>
    let q := n / 16 % 64
    rpWrite { id := n % 8, set := if q = 0 then n % 8 else 7 + q, t := t, checked := false } (w 1).toNat (w 2) s
  | 0x10 =>
    if n = 0 then tileElement (w 1) (w 2) (w 4) ((rpBytes r 5).take 2048) s
    else { s with replay := { s.replay with mergeSrc := some (BitVec.ofNat 4096 (bytesLE ((rpBytes r 2).take 512))) } }
  | _ => s

/-! ### The replay unit (R447 to R450) -/

def rpQueue (s : State) (i : Nat) : RpQueue := SMap.get {} s.replay.qs i
def modRpQueue (i : Nat) (f : RpQueue → RpQueue) (s : State) : State :=
  { s with replay := { s.replay with qs := SMap.set {} s.replay.qs i (f (s.rpQueue i)) } }

/-- A late record is discarded (R449): `by'` is its shortfall in ticks. -/
def rpLate (by' : Nat) (s : State) : State :=
  rpCause 0 s.T [BitVec.ofNat 32 by'] ((s.put .RP_LATE 0 (BitVec.ofNat 32 by')).incSat RP_CNT_LATE 0)

/-- The records of queue `i` up to tick `k`, behind those gathered; at most 512 in a tick, late ones discarded. -/
def rpGather (i k : Nat) : Nat → State × List RpRec → State × List RpRec
  | 0, x => x
  | n + 1, (s, l) =>
    let q := s.rpQueue i
    match rpParse q.words with
    | none => (s, l)
    | some (r, rest) =>
      if k < rpTick r ∧ q.last ≤ r.stamp then (s, l)
      else
        let below := decide (r.stamp < q.last)
        let s := s.modRpQueue i fun q => { q with words := rest, last := max q.last r.stamp }
        if below || decide (rpTick r < k) then rpGather i k n (rpLate (k - rpTick r) s, l)
        else if 512 ≤ l.length then rpGather i k n (rpLate 0 s, l)
        else rpGather i k n (s, l ++ [r])

/-- The queues that carry the replay. -/
def rpQueues (s : State) : List Nat := pick 4 fun i => s.rbit .RP_CFG 0 i

/-- REPLAY_START_CHECK: the first element of queue `i` (R447). A refused one is discarded and START is awaited further. -/
def rpStart (i : Nat) (s : State) : State :=
  if s.fld RP_STAT_STATE 0 = 2 ∧ s.rpCarries i = true ∧ s.served = true then
    let s := if (s.rpQueue i).words.isEmpty && s.flag Q_GEOM_EN (30 + i) then rpTake i s else s
    let q := s.rpQueue i
    if q.words.isEmpty then s
    else
      let b := imgSlot (s.fld MOD_STAT_SLOT 0)
      let code : Nat := match rpParse q.words with
        | some (r, _) =>
          if r.rk ≠ 1 then 4
          else if r.body.take 5 ≠ s.rdWords (b + 16) 4 ++ [s.rdWord (b + 8)] then 1
          else if r.stamp ≠ s.get64 .RP_T0_LO .RP_T0_HI 0 then 2
          else if rpWord r 6 ≠ s.maskCrc then 3
          else 0
        | none => 4
      let s := s.setFld RP_STAT_REJ 0 code
      if code = 0 then
        match rpParse q.words with
        | some (r, rest) => (s.modRpQueue i fun q => { q with words := rest, last := r.stamp }).setFld RP_STAT_STATE 0 3
        | none => s
      else rpCause 2 s.T [BitVec.ofNat 32 code] (s.modRpQueue i fun q => { q with words := [] })
  else s

/-- REPLAY_RECORD_MERGE: up to 16 elements of each queue are taken, and the records of the coming tick are applied: inputs
in input-record order, then writes and tiles in ORD order. Once a tick. -/
def rpMerge (s : State) : State :=
  if s.fld RP_STAT_STATE 0 = 4 then
    let s := closeTick s
    let k := s.tick + 1
    if s.replay.merged = k then s
    else
      let s : State := { s with replay := { s.replay with merged := k } }
      let s := each s.rpQueues
        (fun i s => if s.flag Q_GEOM_EN (30 + i) then each (List.range 16) (fun _ => rpTake i) s else s) s
      let x := s.rpQueues.foldl (fun x i => rpGather i k (x.1.rpQueue i).words.length x) (s, [])
      each (x.2.foldl (fun l r => rpInsert r l) []) rpApply x.1
  else s

/-- REPLAY_END: the END record has come (R450). -/
def rpEnd (s : State) : State :=
  if s.fld RP_STAT_STATE 0 = 4 ∧ s.replay.ended = true then
    rlsUpdate (rpCause 4 s.T [] (s.setFld RP_STAT_STATE 0 5))
  else s

end State
end Sys2Proof.Machine
end

