-- ==== Sys2Proof/Machine/Tick.lean ====
section
/-!
DEFINITION. Sys2Proof/Machine/Tick.lean: the axis tick, its phases in their fixed order (R13, R15).
-/

namespace Sys2Proof.Machine
namespace State

/-! ### Phase 1 -/

/-- What the monitors read (R452, R453, R237). -/
def tickSenses (x : TickIn) (s : State) : State :=
  let s := ((s.setFld SUP_VBATL_MV 0 x.vbat).put .SUP_TDIE 0 x.main).put .SUP_XDEV 0 x.xtal
  let s := (s.setFlag SUP_STAT_XTAL_OK 0 (f32.le (f32.abs x.xtal) (f32.ofInt 500))).setFlag SUP_STAT_RAILS_OK 0 x.rails
  let s := s.addSat MM_ECC_CORR 0 x.corrected
  each x.dies (fun e s => dieReads e.1 s.T e.2 s) s

/-- Flushes ordered by marks, forwarding lines and observers (R134, R196, R204, R206). -/
def tickIntake (s : State) : State :=
  let s := lnFlushAllDue s
  let s := each (List.range 8) (fun n s => fwdSettle n (fwdDrain s.T n s)) s
  fbObserveAll s

/-! ### Phase 2 -/

/-- Axes and yaw, emulation, pose (R76, R146, R206). -/
def tickAxes (s : State) : State :=
  let s := axesPhase s
  let s := each (List.range 8) (fun n s =>
    let i := s.fwdSrc n
    (when (s.fwdMode n == 2 && !s.fwdErr n) (fwdEmulate n s.Tn (diff48 (s.axPos i) (s.ax i).prevX)) s).modFwd n
      fun f => { f with holdN := none }) s
  lowvAll (posePhase s)

/-! ### Phase 3 -/

/-- Marks: forces, then the heads that fire in ascending lane order, then what the blocks write themselves (R106, R115,
R125, R159, R246, R359). -/
def tickMarks (s : State) : State :=
  let s := forceUpdate s
  let l := s.lnFires
  let s := each l (fireMark fun a v => markedWrite a.toNat v) (lnMarkTested s)
  each (List.range 128) sliceAxis (dutyFire sliceDuty (kcUntimed s))

/-! ### Phase 5: what was ordered two ticks before reaches the outputs at T_k (R116) -/

def tickOutputs (s : State) : State :=
  sbPhase (stagesSettle (aoPhase (lpDustPhase (lsPhase (pairsOut (slicesOut s))))))

/-- The effective commands `e` and `r` as ordered by the end of phase 3: the open intervals, the measurements and the
templates note what changes (R118, R129, R174). -/
def laneChanges (e : BitVec 256) (r : BitVec 512) (s : State) : State :=
  let t := s.T + 4000
  let l := pick 128 fun n => e.getLsbD n != s.eff1.getLsbD n
  let s := each l (fun n s => opnCommand n (e.getLsbD n) t s) s
  let s := each (pick 512 fun n => r.getLsbD n != s.effRem.getLsbD n) (fun n s =>
    opnCommand (256 + n) (r.getLsbD n) t s) s
  each (s.opens.map (·.1)) opnSettle (effChanges e r s)

/-! ### Phase 4 -/

/-- What the blocks start in the tick and what they have ready for the queues (R129, R226, R353, R359, R372, R386). -/
def tickDispatch (s : State) : State :=
  let s := vRecordsOut (sbRecordPhase (canRxPhase s))
  let s := when s.inReplay canReplayDrain s
  kcPhase (dpUnloadPhase (dpTrack (tplPhase s)))

/-- The work of a phase begins. -/
def inPhase (n : Nat) (s : State) : State := { s with phase := n }

/-- The work of a tick in the order of R13. What the blocks do in phase 4 by commands of their own follows within the
tick. -/
def tickWork (x : TickIn) (s : State) : State :=
  let s := tickMarks (inPhase 3 (tickAxes (inPhase 2 (tickIntake (tickSenses x (inPhase 1 s))))))
  let e := s.effBits
  let r := s.effRemBits
  let s := tickOutputs (inPhase 5 (tickDispatch (inPhase 4 (laneChanges e r s))))
  let s : State := { inPhase 4 s with eff2 := s.eff1, eff1 := e, effRem := r }
  recWrite (lsMeasure x.loads x.supplies (aoReadback x.outputs s))

/-- No tick is made: a power-on or a pin reset is in progress, or a clock fault waits for the PLL (R431, R435). -/
def still (s : State) : Bool := s.boot.rst != 0 && s.boot.rstEnd.isNone

/-- AXIS_TICK: the tick before it ends, the writes that wait for phase 1 are applied, time advances by 10 µs, and the
phases run; a module reset ends at its boundary, and during any other reset no tick is made (R11, R13, R431). -/
def axisTick (x : TickIn) (s : State) : State :=
  if s.still then closeTick s
  else
    let s := s.settled
    let s : State := { s with tick := s.tick + 1, sampleReq := [], captureReq := [], closed := false, lsOsc := false }
    match s.boot.rstEnd with
    | some k => if k ≤ s.tick then tickWork x (modResetEnd s) else s
    | none => tickWork x s

end State
end Sys2Proof.Machine
end

