-- ==== Sys2Proof/Machine/Rows.lean ====
section
/-!
DEFINITION. Sys2Proof/Machine/Rows.lean: what the commands share: the answer of a command that acts, the address of a
register and a master's write of a named register, what a pad or the analog side delivers, and the steps of the start-up,
the supervisor, the helper cores and the MRAM controller as their commands make them.
-/

namespace Sys2Proof.Machine

/-- How a command ends. -/
abbrev Res := Host.Outcome State Fault Refusal

namespace State

/-- The address of instance `i` of a register in its page's base view (R43, R44). -/
def regAddr (r : Reg) (i : Nat) : Nat :=
  let f := r.info
  if f.per = 0 then 4096 * f.page + f.off + f.stride * i
  else 4096 * (f.page + i / f.per) + f.off + f.stride * (i % f.per)

/-- A 32-bit write of a master to a register (R48). -/
def wr (m : Nat) (r : Reg) (i : Nat) (v : Word) (s : State) : State := busWrite m 4 (regAddr r i) (v.setWidth 64) s

/-- What the last command answered and sent is forgotten when the next one begins. -/
def begin' (s : State) : State := { s with resp := [], out := [] }

/-- No pad and no converter reaches the blocks: a reset is in progress, or a replay takes its inputs from records (R431,
R448). -/
def deaf (s : State) : Bool := s.boot.rst != 0 || s.boot.rstEnd.isSome || s.inReplay

/-- A reset of the first three classes is in progress (R431). -/
def inReset (s : State) : Bool := s.boot.rst != 0 || s.boot.rstEnd.isSome

end State

/-- A command that acts: its effect on the state with the answers of the command before forgotten. -/
def ran (f : State → State) (s : State) : Res := .next (f s.begin')

/-- An event from outside, or one that belongs to the coming tick: the present tick has ended (log 81). -/
def came (f : State → State) (s : State) : Res := ran (fun s => f s.closeTick) s

/-- Such an event `o` clocks after the present tick began. -/
def cameAt (o : Fin 2000) (f : Nat → State → State) (s : State) : Res := came (fun s => f (s.clk o.val) s) s

/-- An event at a pad or a converter. -/
def pad (f : State → State) (s : State) : Res := came (fun s => if s.deaf then s else f s) s

/-- Such an event `o` clocks after the present tick began. -/
def padAt (o : Fin 2000) (f : Nat → State → State) (s : State) : Res := pad (fun s => f (s.clk o.val) s) s

/-- The scale factors, the delay estimates, the compare registers, by number (R75, R119, R203). -/
def kReg (k : Fin 3) : Reg := if k = 0 then .AX_K0 else if k = 1 then .AX_K1 else .AX_K2
def delayReg (on : Bool) : Reg := if on then .LN_DON else .LN_DOFF
def cmpReg (cfg : Bool) : Reg := if cfg then .FB_CMP_CFG else .FB_CMP
def trigReg (hi : Bool) : Reg := if hi then .SB_TRIG1 else .SB_TRIG0

namespace State

/-- A lane's enable register: LN_CFG of local lanes, LN_RCFG of remote
ones (R104, R107). -/
def lnEnable (m n : Nat) (v : Word) (s : State) : State :=
  if n < 256 then wr m .LN_CFG n v s else wr m .LN_RCFG (n - 256) v s

/-- LN_FLUSH of the local lanes, LN_RFLUSH of the remote ones, by word of 32 lanes (R134). -/
def lnFlushWord (m k : Nat) (v : Word) (s : State) : State :=
  if k < 8 then wr m .LN_FLUSH k v s else wr m .LN_RFLUSH (k - 8) v s

/-- A write of a protection table's entry (R63). -/
def tableWrite (m : Nat) (e : TableEntry) (v : Word) (s : State) : State :=
  match e with
  | .memBase n => wr m .PR_MEM_BASE n.val v s
  | .memLim n => wr m .PR_MEM_LIM n.val v s
  | .memAcc n => wr m .PR_MEM_ACC n.val v s
  | .pageAcc x k => wr m .PR_PAGE_ACC (16 * x.val + k.val) v s

/-- A write to the bit-alias window (R51). -/
def bitWordWrite (m : Nat) (w : BitWord) (v : Word) (s : State) : State :=
  match w with
  | .lane n => busWrite m 4 (0x100000 + 4 * n.val) (v.setWidth 64) s
  | .switch n => busWrite m 4 (0x101000 + 4 * n.val) (v.setWidth 64) s

/-- An uncorrectable read of the MRAM is counted and raised (R453). -/
def mramBad (s : State) : State :=
  raiseLog 13 0 noCause s.nowClk [] (s.incSat MM_ECC_UNCORR 0).spend

/-- MRAM_FAULT: a master's read that cannot be corrected gets an error response; a masking tile so read counts as 0
(R453). -/
def mramFault (k : MramRead) (s : State) : State :=
  match k with
  | .access m a =>
    let id := m.val
    if s.canAccess id && inMram a.toNat then
      let x := wordRead (Access.of id) 4 a.toNat s
      match x.2 with
      | .ok _ => mramBad ((hcFault id a.toNat 5 x.1).answer .error)
      | e => x.1.answer e
    else s
  | .tile tx ty =>
    let key := 65536 * ty.val + tx.val
    mramBad (if s.mm.bad.contains key then s else { s with mm := { s.mm with bad := s.mm.bad ++ [key] } })

/-- SLIP_CORRECTION_UPDATE: on a whole second, every ground axis (R85). -/
def slipUpdate (s : State) : State := if s.Tn % 200000000 = 0 then each (List.range 32) axSlip s else s

/-- SRC_STALE, SRC_RECOVER and STOPPED, when they are due (R83, R84, R86). -/
def srcStale (i : Nat) (k : AxSrc) (s : State) : State := if s.axStaleDue i k then axStale i k s else s
def srcRecover (i : Nat) (k : AxSrc) (s : State) : State := if s.axRecoverDue i k then axRecover i k s else s
def axisStopped (i : Nat) (s : State) : State := if s.axStopDue i then axStopped i s else s

/-- TILE_INTAKE: the element is noted for the recording as it is taken (R162, R444). -/
def tileTake (s : State) : State :=
  let q := if s.qFill 28 != 0 then 28 else 29
  let due := !(s.inReplay || s.qFill q == 0 || s.geo.intake == some (s.tick + 1))
  tileIntake (when (s.recording && due) (recTile 0 (s.rdWords (s.qSlot q (s.qHead q)) 516)) s)

/-- MASK_WRITE_BACK: a dirty tile whose trigger is due (R169). -/
def maskBack (key : Nat) (s : State) : State := if s.writeBackDue key then writeBack key s else s

/-- SSI_SAMPLE: the word of the transaction in hand is complete (R192). -/
def ssiTake (c : Nat) (w : Word) (high trail : Bool) (s : State) : State :=
  let f := s.fbc c
  let t := f.ssi.latch + s.ssiTime c
  if s.fbEn c && s.fbMode c == 5 && f.ssi.busy && decide (t < s.Tn) then ssiSample c t w.toNat high trail s else s

/-- VALVE_OBSERVATION: what the drive measures (R226). -/
def valveSee (n t : Nat) (x : ValveObs) (s : State) : State :=
  match x with
  | .coil l => vSamples n t l s
  | .supply mv ma => vGroupSample (n / 8) t mv ma s
  | .hold => vHoldMeas n t s

/-- GROUND_OFFSET_TRIP: the die turns the high sides of its four groups off, as on a trip of each (R461). -/
def groundTrip (d t : Nat) (s : State) : State := each (List.range 4) (fun j s => vHsTrip (4 * d + j) t s) s

/-- PC_CONVERSION_END, with what a valid temperature gives the zones that take it (R281, R343). -/
def pcEnd (n : Nat) (h l : List Chop) (ovH ovL : Bool) (s : State) : State :=
  let x := pcConversion n h l ovH ovL s
  if (s.pc n).last != some s.T && (x.pc n).last == some s.T then pcTake n x else x

/-- ZC_MEASUREMENT, with what the reading gives the drying paths (R301, R349). -/
def zcEnd (z : Nat) (re im : Word) (ovr : Bool) (s : State) : State :=
  if s.zcDue z then zcTake z s.T (zcMeasure z re im ovr s) else s

/-- TG_START: by a write, or by a CAPTURE mark of the present tick (R333). -/
def tgArm (t : Nat) (a : TgArm) (s : State) : State :=
  match a with
  | .write m => wr m.val .TG_CTRL t 1#32 s
  | .mark =>
    if s.captureReq.contains t then
      tgStart t s.tick { s with captureReq := s.captureReq.filter (· != t) }
    else s

/-! ### Helper cores (R414 to R416) -/

/-- HC_TRAP: an exception; with TRAP_HALT the core halts. -/
def hcTrap (i : Nat) (pc cause tval : Word) (s : State) : State :=
  if s.hcState i = 1 then
    let s := hcEnter i pc cause tval s
    if s.flag HC_CFG_TRAP_HALT i then
      let t := s.nowClk
      let s := hcHalt i 3 pc s.spend
      raiseLog (248 + i) i noCause t (s.hcDetail i) s
    else s
  else s

/-- HC_WDT: no kick within TO milliseconds; the PC it stands at is a free value (log 85). -/
def hcWdt (i : Nat) (s : State) : State :=
  let to' := s.fld HC_WDT_TO i
  let t := (s.hc i).wdtT + 200000 * to'
  if s.hcState i = 1 ∧ to' ≠ 0 ∧ t < s.Tn then
    let f := s.corePc
    let s := hcHalt i 4 f.1 f.2
    raiseLog (250 + i) i noCause t (s.hcDetail i) s
  else s

/-- HC_TIMER_INTERRUPT: mtime has reached mtimecmp by the end of the tick. -/
def hcTimer (i : Nat) (s : State) : State :=
  if 200 * (s.hc i).mtimecmp < s.Tn then s.modHc i fun h => { h with timer := true } else s

/-- A core is halted by external debug, and an address is one of its local memory for a word. -/
def hcInDebug (s : State) (i : Nat) : Bool := s.flag DG_CFG_EN 0 && s.hcState i == 6
def hcReach (s : State) (i a : Nat) : Bool :=
  s.hcInDebug i && decide (0x10000000 ≤ a) && decide (a + 4 ≤ 0x10040000)

/-- HC_DEBUG: external debug halts a running core or resumes it, and reaches its local memory and registers while it is
halted (R413, R415). In DEBUG `wdtT` holds how long the watchdog had run: its count stops outside RUN (R416). -/
def hcDebug (i : Nat) (o : HcOp) (s : State) : State :=
  match o with
  | .halt pc =>
    if s.flag DG_CFG_EN 0 && s.hcState i == 1 then
      hcHalt i 6 pc (s.modHc i fun h => { h with wdtT := s.T - h.wdtT })
    else s
  | .resume =>
    if s.flag DG_CFG_EN 0 && s.hcState i == 6 then
      (s.setFld HC_STAT_STATE i 1).modHc i fun h => { h with wdtT := s.T - h.wdtT }
    else s
  | .readMem a => if s.hcReach i a.toNat then s.answer (.ok (BitVec.ofNat 32 (s.localRead i (a.toNat - 0x10000000) 4))) else s
  | .writeMem a v =>
    if s.hcReach i a.toNat then (localWrite i (a.toNat - 0x10000000) 4 v.toNat s).answer (.ok 0#32) else s
  | .readReg n => if s.hcInDebug i then s.answer (.ok (SMap.get 0#32 (s.hc i).x n.val)) else s
  | .writeReg n v =>
    if s.hcInDebug i then
      (when (n.val != 0) (modHc i fun h => { h with x := SMap.set 0#32 h.x n.val v }) s).answer (.ok 0#32)
    else s

/-! ### Start-up (R424 to R430) -/

/-- PIN_RESET: a power-on reset in progress is the wider class (R431). -/
def pinLow (s : State) : State := if s.boot.rst = 1 then s else pinReset s

/-- NRESET_RELEASE: the pin reset ends; its start-up steps run (R425). -/
def nresetHigh (s : State) : State :=
  if s.boot.rst = 2 then { s with boot := { s.boot with rst := 3 } } else s

/-- PLL_LOCK, where the PLL was not locked. -/
def pllLocked (mv : Nat) (s : State) : State :=
  if s.boot.rst = 1 ∨ s.boot.rst = 3 ∨ s.boot.rst = 4 then pllLock mv s else s

/-- MRAM_READY: 2 ms after module time 0, at the end of a module reset: the masking journal is replayed, and EPOCH counts
(R170, R405). -/
def mramReady (s : State) : State :=
  if !s.inReset && !s.flag SUP_STAT_MRAM_OK 0 && s.fld MOD_STAT_BOOT 0 == 0 &&
      decide (s.boot.t0 + (if s.boot.cls = 2 then 0 else 200) ≤ s.tick) then
    let s := journalReplay (s.setFlag SUP_STAT_MRAM_OK 0 true)
    let e := s.rdWord 0x02FFF000 + 1#32
    (s.wrWord 0x02FFF000 e).put .HL_EPOCH 0 e
  else s

/-- BOOT_DONE: verification has ended, by 13 ms, or by 8 ms of a module reset; with no MRAM it ends in FAILSAFE. -/
def bootEnd (a b : Image) (s : State) : State :=
  if !s.inReset && s.fld MOD_STAT_BOOT 0 == 0 &&
      (s.flag SUP_STAT_MRAM_OK 0 || decide (s.boot.t0 + (if s.boot.cls = 2 then 800 else 1000) ≤ s.tick)) then
    bootDone a b s
  else s

/-- HELPER_CORE_AUTOSTART: 17 ms after module time 0, 15 ms after a module reset. -/
def coresStart (s : State) : State :=
  if !s.inReset && !s.boot.cores && s.fld MOD_STAT_BOOT 0 == 1 &&
      decide (s.boot.t0 + (if s.boot.cls = 2 then 1500 else 1700) ≤ s.tick) then
    let s : State := { s with boot := { s.boot with cores := true } }
    each (pick 2 fun i => s.flag HC_CFG_AUTOSTART i && (s.hc i).image && s.hcState i == 0 && !s.frozen i) hcStart s
  else s

/-! ### The supervisor (R435 to R440) -/

/-- CLK_FAULT at the clock `t`: the dust sheet at once; the module reset starts when the PLL has locked again. One that
comes in the 10 µs of a module reset takes its place; a reset before the PLL locks is the wider class (R431). -/
def clkFault (t : Nat) (s : State) : State :=
  if s.boot.rst != 0 then s
  else
    let s := faultReact 0 0 t (dustIn t s)
    let s := (s.setFld MOD_RST_CAUSE_CAUSE 0 (s.fld MOD_RST_CAUSE_CAUSE 0 ||| 8)).setFlag SUP_STAT_PLL_LOCK 0 false
    rlsUpdate { s with boot := { s.boot with rst := 4, rstEnd := none, causes := 8 } }

/-- XTAL_DRIFT: beyond ±500 ppm. -/
def xtalDrift (ppm : Word) (s : State) : State :=
  if f32.lt (f32.ofInt 500) (f32.abs ppm) then
    raiseSup 12 ((s.put .SUP_XDEV 0 ppm).setFlag SUP_STAT_XTAL_OK 0 false)
  else s

/-- TICK_FAULT. -/
def tickFault (s : State) : State :=
  if s.inReset then s
  else
    let s := faultReact 1 0 s.Tn (dustIn s.Tn s)
    modReset 16 0 [10] s

/-- VBAT_L_LOW: below the warning level of 7.0 V. -/
def vbatLow (mv : Nat) (s : State) : State :=
  if mv < 7000 ∧ s.boot.vbatLow = false then
    let s := (s.setFld SUP_VBATL_MV 0 mv).setFlag SUP_STAT_VBAT_OK 0 false
    rlsUpdate (raiseSup 9 { s with boot := { s.boot with vbatLow := true } })
  else s

/-- VBAT_L_RESTORED: 0.5 V above it. -/
def vbatBack (mv : Nat) (s : State) : State :=
  if 7500 ≤ mv ∧ s.boot.vbatLow = true then
    let s := (s.setFld SUP_VBATL_MV 0 mv).setFlag SUP_STAT_VBAT_OK 0 true
    rlsUpdate { s with boot := { s.boot with vbatLow := false } }
  else s

/-- RAIL_FAULT. -/
def railFault (s : State) : State := raiseSup 11 (s.setFlag SUP_STAT_RAILS_OK 0 false)

/-- TEMP_MAIN: above 120 °C. -/
def tempMain (tj : Word) (s : State) : State :=
  if f32.lt (f32.ofInt 120) tj then raiseSup 14 (s.put .SUP_TDIE 0 tj) else s

/-- HEARTBEAT_RESET_REQUEST: nRST_OUT goes low, and a module reset is requested with cause HB. After a clock fault it
joins the one that waits for the PLL. -/
def hbRequest (s : State) : State :=
  let s : State := { s with boot := { s.boot with hbReset := true } }
  if s.boot.rst = 4 then
    { s.setFld MOD_RST_CAUSE_CAUSE 0 (s.fld MOD_RST_CAUSE_CAUSE 0 ||| 32) with
      boot := { s.boot with causes := s.boot.causes ||| 32 } }
  else if s.inReset then s
  else modReset 32 0 [] s

/-- DBG_HALT_PIN: the level of DBG_HALT after 1 µs. -/
def dbgPin (low : Bool) (s : State) : State :=
  let s : State := { s with boot := { s.boot with dbgLow := low } }
  if low && s.flag DG_CFG_EN 0 && !s.inReset then haltNow s else s

/-- EXTEST, which the TAP offers with DG_CFG.EN at 1. -/
def extestHalt (s : State) : State := if s.flag DG_CFG_EN 0 && !s.inReset then haltNow s else s

end State
end Sys2Proof.Machine
end

