-- ==== Sys2Proof/Machine/CmdAccess.lean ====
section
/-!
DEFINITION. Sys2Proof/Machine/CmdAccess.lean: the commands of the tick and the accesses of masters: pages,
guards, resets of domains, protection (R11 to R72). Each meaning is a definition of its own.
-/

namespace Sys2Proof.Machine

/-- AXIS_TICK (R13): Each 10 µs tick starts and runs intake, axes, marks, dispatch and outputs in fixed phase
order. -/
def execAxisTick (x : TickIn) (s : State) : Res := ran (State.axisTick x) s

/-- REGISTER_WRITE (R48): A master write to a register without a row of its own is served under access,
protection and guard rules. -/
def execRegisterWrite (m : Fin 8) (size : Nat) (a : Word) (v : DWord) (s : State) : Res :=
  ran (State.busWrite m.val size a.toNat v) s

/-- MRAM_FAULT (R453): An uncorrectable MRAM read gives an error response and raises E013. -/
def execMramFault (k : MramRead) (s : State) : Res := ran (State.mramFault k) s

/-- REGISTER_READ_RC (R48, R52): A read of an RC register returns it and clears the bits returned as 1. -/
def execRegisterReadRc (m : Fin 8) (size : Nat) (a : Word) (s : State) : Res :=
  ran (State.busRead m.val size a.toNat) s

/-- ALIAS_WRITE (R49): A SET, CLR or TGL alias write acts as one indivisible read-modify-write on RW fields. -/
def execAliasWrite (m : Fin 8) (k : Fin 3) (p off : Fin 256) (v : Word) (s : State) : Res :=
  ran (State.busWrite m.val 4 (4096 * p.val + 1024 * (k.val + 1) + 4 * off.val) (v.setWidth 64)) s

/-- BIT_ALIAS_WRITE (R51): A write to a bit-alias word sets one lane or load-switch command bit. -/
def execBitAliasWrite (m : Fin 8) (w : BitWord) (v : Word) (s : State) : Res := ran (State.bitWordWrite m.val w v) s

/-- SNAP_TAKE (R53): SNAP.TAKE copies a page's (or every page's) SN sources into holding registers. -/
def execSnapTake (m : Fin 8) (p : Fin 256) (s : State) : Res := ran (State.wr m.val .SNAP p.val 1#32) s

/-- GUARD_KEY_WRITE (R55): A write to GUARD_KEY opens a KEY-mode page for one KW write or locks a STICKY page.
-/
def execGuardKeyWrite (m : Fin 8) (p : Fin 256) (v : Word) (s : State) : Res :=
  ran (State.wr m.val .GUARD_KEY p.val v) s

/-- DOMAIN_RESET (R47): DOMAIN_RST.GO starts a reset of the page's domain. -/
def execDomainReset (m : Fin 8) (p : Fin 256) (s : State) : Res := ran (State.wr m.val .DOMAIN_RST p.val 1#32) s

/-- DOMAIN_RESET_DONE (R47): A domain reset completes and DRST_BUSY clears. -/
def execDomainResetDone (p : Fin 256) (s : State) : Res := ran (State.domainDone p.val) s

/-- PR_UNFREEZE (R68): The owner releases frozen masters. -/
def execPrUnfreeze (m : Fin 8) (v : Word) (s : State) : Res := ran (State.wr m.val .PR_UNFREEZE 0 v) s

/-- PR_GCLR (R56): The owner clears a page's violation record and withdraws its open key. -/
def execPrGclr (m : Fin 8) (v : Word) (s : State) : Res := ran (State.wr m.val .PR_GCLR 0 v) s

/-- TABLE_EDIT (R63): The owner writes a protection table entry, effective for later accesses. -/
def execTableEdit (m : Fin 8) (e : TableEntry) (v : Word) (s : State) : Res := ran (State.tableWrite m.val e v) s

end Sys2Proof.Machine
end

