-- ==== Sys2Proof/Machine/CmdAxes.lean ====
section
/-!
DEFINITION. Sys2Proof/Machine/CmdAxes.lean: the commands of axes, yaw, receivers and the IMU (R73 to R99, R140
to R149). Each meaning is a definition of its own.
-/

namespace Sys2Proof.Machine

/-- AX_ENABLE (R74): Writing AX_CFG.EN to 1 starts an axis from its preset. -/
def execAxEnable (m : Fin 8) (i : Fin 32) (v : Word) (s : State) : Res :=
  ran (State.wr m.val .AX_CFG i.val (v ||| 1#32)) s

/-- AX_DISABLE (R74): Writing AX_CFG.EN to 0 stops the axis and flushes its lanes. -/
def execAxDisable (m : Fin 8) (i : Fin 32) (v : Word) (s : State) : Res :=
  ran (State.wr m.val .AX_CFG i.val (v &&& ~~~1#32)) s

/-- AX_K_WRITE (R75): A write of AX_K0 to AX_K2 changes the axis scale factor from its tick on. -/
def execAxKWrite (m : Fin 8) (i : Fin 32) (k : Fin 3) (v : Word) (s : State) : Res :=
  ran (State.wr m.val (kReg k) i.val v) s

/-- AX_STEP_WRITE (R98): A write to AX_STEP adds a step to a SOFT axis in the next tick. -/
def execAxStepWrite (m : Fin 8) (i : Fin 32) (v : Word) (s : State) : Res := ran (State.wr m.val .AX_STEP i.val v) s

/-- SRC_STALE (R83): A GROUND axis source reaches its staleness limit and is declared stale. -/
def execSrcStale (i : Fin 32) (k : AxSrc) (s : State) : Res := came (State.srcStale i.val k) s

/-- SRC_RECOVER (R84): A stale source completes its recovery count or accepted sentence and becomes healthy. -/
def execSrcRecover (i : Fin 32) (k : AxSrc) (s : State) : Res := came (State.srcRecover i.val k) s

/-- STOPPED (R86): COAST_TIME runs out and the axis is declared stopped, turning apply lanes off. -/
def execStopped (i : Fin 32) (s : State) : Res := came (State.axisStopped i.val) s

/-- SLIP_CORRECTION_UPDATE (R85): On each whole second the wheel and radar slip corrections are updated. -/
def execSlipCorrectionUpdate (s : State) : Res := came State.slipUpdate s

/-- MAINS_EDGE (R95): An accepted zero-cross edge updates a MAINS axis frequency, speed and phase. -/
def execMainsEdge (h : Fin 3) (rising : Bool) (o : Fin 2000) (s : State) : Res :=
  padAt o (State.mainsEdge h.val rising) s

/-- MAINS_MISSING_EDGES (R96): No edge is accepted for 2/f and lock is cleared. -/
def execMainsMissingEdges (i : Fin 32) (s : State) : Res := came (State.mainsMissing i.val) s

/-- MAINS_GONE (R96): No edge is accepted for 5/f and the axis stops. -/
def execMainsGone (i : Fin 32) (s : State) : Res := came (State.mainsGone i.val) s

/-- YAW_LOST (R90): No yaw source is valid within its age limit and yaw becomes 0. -/
def execYawLost (s : State) : Res := came State.yawLoss s

/-- GNSS_SENTENCE (R140): An NMEA sentence is taken in at its LF stop bit, stamped and checked. -/
def execGnssSentence (r : Fin 2) (o : Fin 2000) (l : List Byte) (s : State) : Res :=
  padAt o (fun t => State.gnssSentence r.val t l) s

/-- PPS_EDGE (R141): A PPS edge is stamped and later paired with a GGA second. -/
def execPpsEdge (r : Fin 2) (o : Fin 2000) (s : State) : Res := padAt o (State.ppsEdge r.val) s

/-- GM_FIX_GO (R144): A master commits a staged host fix record for intake. -/
def execGmFixGo (m : Fin 8) (s : State) : Res := ran (State.wr m.val .GM_FIX_GO 0 1#32) s

/-- IMU_TRANSACTION (R145): Every PERIOD ticks the IMU template starts an SPI transaction. -/
def execImuTransaction (s : State) : Res := ran State.imuStart s

/-- IMU_RECORD (R145): At chip-select deassertion the yaw field is taken in as a yaw-only record. -/
def execImuRecord (o : Fin 2000) (l : List Byte) (s : State) : Res := padAt o (fun t => State.imuRecord t l) s

end Sys2Proof.Machine
end

