-- ==== Sys2Proof/Machine/CmdBuses.lean ====
section
/-!
DEFINITION. Sys2Proof/Machine/CmdBuses.lean: the commands of CAN controllers and serial buses (R365 to R391).
Each meaning is a definition of its own.
-/

namespace Sys2Proof.Machine

/-- CAN_ENABLE (R389): Writing CAN_CFG.EN puts a controller on its bus or is refused. -/
def execCanEnable (m c : Fin 8) (v : Word) (s : State) : Res := ran (State.wr m.val .CAN_CFG c.val (v ||| 1#32)) s

/-- CAN_DISABLE (R389): Writing EN to 0 takes the controller off the bus at the next idle. -/
def execCanDisable (m c : Fin 8) (v : Word) (s : State) : Res :=
  ran (State.wr m.val .CAN_CFG c.val (v &&& ~~~1#32)) s

/-- INTEGRATION_END (R377): 11 recessive bits end integration and the controller is error active. -/
def execIntegrationEnd (c : Fin 8) (s : State) : Res := pad (State.canIntegrated c.val) s

/-- CAN_FRAME_RECEIVED (R369): A frame of another node begins; a valid one is taken in, stamped and stored in the receive
queue. -/
def execCanFrameReceived (c : Fin 8) (o : Fin 2000) (f : CanBusIn) (s : State) : Res :=
  padAt o (fun t => State.canReceive c.val t f) s

/-- CAN_TX_OFFER (R374): At bus idle the lower-key FIFO head is offered for arbitration. -/
def execCanTxOffer (c : Fin 8) (s : State) : Res := pad (State.canOffer c.val) s

/-- TX_DONE (R375): A frame is sent without error and removed from its FIFO. -/
def execTxDone (c : Fin 8) (o : Fin 2000) (delay : Nat) (s : State) : Res :=
  padAt o (fun t => State.canTxDone c.val t delay) s

/-- CAN_PROTOCOL_ERROR (R377): A protocol error updates the error counters and state. -/
def execCanProtocolError (c : Fin 8) (o : Fin 2000) (code : Fin 8) (data coll : Bool) (mv : CanErrIn) (s : State) : Res :=
  padAt o (fun t => State.canError c.val t code.val data coll mv) s

/-- BUSON (R378): 128 recessive sequences end bus-off recovery. -/
def execBuson (c : Fin 8) (o : Fin 2000) (s : State) : Res := padAt o (State.canBusOn c.val) s

/-- TXD_TO (R380): The transceiver's TXD dominant time-out releases the bus. -/
def execTxdTo (c : Fin 8) (o : Fin 2000) (s : State) : Res := padAt o (State.canTxdTo c.val) s

/-- CAN_FLUSHA (R376): CAN_CTRL.FLUSHA empties FIFO A. -/
def execCanFlusha (m c : Fin 8) (s : State) : Res := ran (State.wr m.val .CAN_CTRL c.val 1#32) s

/-- CAN_FLUSHB (R376): CAN_CTRL.FLUSHB empties FIFO B. -/
def execCanFlushb (m c : Fin 8) (s : State) : Res := ran (State.wr m.val .CAN_CTRL c.val 2#32) s

/-- CAN_CCLR (R389): CAN_CTRL.CCLR clears transmit and error counters. -/
def execCanCclr (m c : Fin 8) (s : State) : Res := ran (State.wr m.val .CAN_CTRL c.val 4#32) s

/-- SB_ENTRY_DUE (R383): A poll entry's period comes round and it becomes due. -/
def execSbEntryDue (b : Fin 4) (e : Fin 64) (s : State) : Res := ran (State.sbEntryDue b.val e.val) s

/-- SB_TRIG (R383): A write to SB_TRIG0 or SB_TRIG1 makes entries due. -/
def execSbTrig (m : Fin 8) (b : Fin 4) (hi : Bool) (v : Word) (s : State) : Res :=
  ran (State.wr m.val (trigReg hi) b.val v) s

/-- SB_TRANSACTION_START (R383): The lowest due entry starts when the bus is free and MIN_GAP has passed. -/
def execSbTransactionStart (b : Fin 4) (s : State) : Res := ran (State.sbStart b.val) s

/-- SB_RESPONSE_END (R384): A serial response ends, is stamped, checked and recorded. -/
def execSbResponseEnd (b : Fin 4) (o : Fin 2000) (delay : Nat) (bad : Bool) (d : List Byte) (s : State) : Res :=
  padAt o (fun t => State.sbResponse b.val t delay bad d) s

/-- SB_TIMEOUT (R384): No response start bit comes within TO and the transaction ends TIMEOUT. -/
def execSbTimeout (b : Fin 4) (s : State) : Res := came (State.sbTimeout b.val) s

/-- STRAY (R385): A byte arrives while no response is awaited. -/
def execStray (b : Fin 4) (s : State) : Res := pad (State.sbStray b.val) s

/-- SB_CCLR (R390): SB_CTRL.CCLR clears SB_CNT and SB_CNT2. -/
def execSbCclr (m : Fin 8) (b : Fin 4) (s : State) : Res := ran (State.wr m.val .SB_CTRL b.val 1#32) s

/-- SB_REQUEST_END (R384): The last stop bit of a serial request ends, the driver turns off and, with RLEN 0,
the transaction ends without a record. -/
def execSbRequestEnd (b : Fin 4) (s : State) : Res := came (State.sbRequestEnd b.val) s

end Sys2Proof.Machine
end

