-- ==== Sys2Proof/Machine/CmdControl.lean ====
section
/-!
DEFINITION. Sys2Proof/Machine/CmdControl.lean: the commands of the control engine (R312 to R337). Each meaning
is a definition of its own.
-/

namespace Sys2Proof.Machine

/-- LOOP_ENABLE (R336): Writing LP_CFG.EN enables a loop or is refused. -/
def execLoopEnable (m : Fin 8) (n : Fin 64) (v : Word) (s : State) : Res :=
  ran (State.wr m.val .LP_CFG n.val (v ||| 1#32)) s

/-- LOOP_SAMPLE_DISPATCH (R314): A loop sample is dispatched on time, axis step or SAMPLE mark. -/
def execLoopSampleDispatch (n : Fin 64) (s : State) : Res := ran (State.lpDispatch n.val) s

/-- LOOP_SAMPLE_APPLY (R317): Eight ticks after dispatch the loop and group outputs are applied to targets. -/
def execLoopSampleApply (n : Fin 64) (s : State) : Res := ran (State.lpApply n.val) s

/-- LP_BSWAP (R326): LP_CTRL.BSWAP requests a bank swap at the next sample. -/
def execLpBswap (m : Fin 8) (n : Fin 64) (s : State) : Res := ran (State.wr m.val .LP_CTRL n.val 1#32) s

/-- LP_GSWAP (R326): LP_GSWAP requests a bank swap for a group's members. -/
def execLpGswap (m : Fin 8) (j : Fin 2) (v : Word) (s : State) : Res := ran (State.wr m.val .LP_GSWAP j.val v) s

/-- LP_FCLR (R330): LP_CTRL.FCLR allows return from DUST. -/
def execLpFclr (m : Fin 8) (n : Fin 64) (s : State) : Res := ran (State.wr m.val .LP_CTRL n.val 2#32) s

/-- LP_CCLR (R336): LP_CTRL.CCLR clears LP_CNT. -/
def execLpCclr (m : Fin 8) (n : Fin 64) (s : State) : Res := ran (State.wr m.val .LP_CTRL n.val 4#32) s

/-- TG_START (R333): TG_CTRL.START or a CAPTURE mark arms a generator run. -/
def execTgStart (t : Fin 4) (a : TgArm) (s : State) : Res := ran (State.tgArm t.val a) s

/-- TG_STOP (R333): TG_CTRL.STOP ends a generator run at once. -/
def execTgStop (m : Fin 8) (t : Fin 4) (s : State) : Res := ran (State.wr m.val .TG_CTRL t.val 2#32) s

end Sys2Proof.Machine
end

