-- ==== Sys2Proof/Machine/CmdCores.lean ====
section
/-!
DEFINITION. Sys2Proof/Machine/CmdCores.lean: the commands of helper cores (R413 to R419). Each meaning is a
definition of its own.
-/

namespace Sys2Proof.Machine

/-- HC_RUN_START (R415): HC_RUN.RUN = 1 resets and starts a helper core, reloading first with RELOAD. -/
def execHcRunStart (m : Fin 8) (i : Fin 2) (v : Word) (s : State) : Res :=
  ran (State.wr m.val .HC_RUN i.val (v ||| 1#32)) s

/-- HC_RELOAD_DONE (R415): A local-memory reload completes and the core starts. -/
def execHcReloadDone (i : Fin 2) (s : State) : Res := ran (State.hcReloadDone i.val) s

/-- HC_RUN_HALT (R415): HC_RUN.RUN = 0 halts the core at the next instruction boundary. -/
def execHcRunHalt (m : Fin 8) (i : Fin 2) (s : State) : Res := ran (State.wr m.val .HC_RUN i.val 0#32) s

/-- HC_TRAP (R415): An exception with TRAP_HALT halts the core. -/
def execHcTrap (i : Fin 2) (pc cause tval : Word) (s : State) : Res := ran (State.hcTrap i.val pc cause tval) s

/-- HC_WDT (R416): A core's watchdog runs out and the core halts. -/
def execHcWdt (i : Fin 2) (s : State) : Res := came (State.hcWdt i.val) s

/-- HC_KICK (R416): The core's write to HC_KICK restarts its watchdog. -/
def execHcKick (m : Fin 8) (i : Fin 2) (s : State) : Res := ran (State.wr m.val .HC_KICK i.val 1#32) s

/-- HC_TIMER_INTERRUPT (R414): mtime reaches mtimecmp and the timer interrupt is pending. -/
def execHcTimerInterrupt (i : Fin 2) (s : State) : Res := ran (State.hcTimer i.val) s

/-- HC_DEBUG (R415): DBG halts or resumes a helper core under external debug. -/
def execHcDebug (i : Fin 2) (x : HcOp) (s : State) : Res := ran (State.hcDebug i.val x) s

end Sys2Proof.Machine
end

