-- ==== Sys2Proof/Machine/CmdDrying.lean ====
section
/-!
DEFINITION. Sys2Proof/Machine/CmdDrying.lean: the commands of drying paths and the store (R338 to R364). Each
meaning is a definition of its own.
-/

namespace Sys2Proof.Machine

/-- DP_ENABLE (R350): Writing DP_CFG.EN starts a drying path in its START state or is refused. -/
def execDpEnable (m : Fin 8) (p : Fin 4) (v : Word) (s : State) : Res :=
  ran (State.wr m.val .DP_CFG p.val (v ||| 1#32)) s

/-- PARCEL_BOUNDARY (R344): The axis reaches a new parcel boundary: the bottom parcel leaves and a new one is
created. -/
def execParcelBoundary (p : Fin 4) (s : State) : Res := ran (State.dpBoundary p.val) s

/-- MODEL_STEP_DISPATCH (R347): Each whole second a model step of every running path is dispatched. -/
def execModelStepDispatch (s : State) : Res := ran State.modelDispatch s

/-- MODEL_STEP_APPLY (R347): 100 ticks later the step's parcel states and path outputs are applied. -/
def execModelStepApply (s : State) : Res := ran State.modelApply s

/-- PARCEL_DISCHARGE (R349): The axis reaches a parcel's outlet position; its record is written and the bias
updated. -/
def execParcelDischarge (p : Fin 4) (s : State) : Res := ran (State.dpDischarge p.val) s

/-- FILL_DONE (R351): The level input shows full, FILL ends and parcels are built from the fill. -/
def execFillDone (p : Fin 4) (s : State) : Res := ran (State.dpFillDone p.val) s

/-- DP_FULL (R351): DP_CTRL.FULL ends FILL. -/
def execDpFull (m : Fin 8) (p : Fin 4) (s : State) : Res := ran (State.wr m.val .DP_CTRL p.val 1#32) s

/-- DP_UNLOAD (R353): DP_CTRL.UNLOAD writes one record per batch layer and returns to FILL. -/
def execDpUnload (m : Fin 8) (p : Fin 4) (s : State) : Res := ran (State.wr m.val .DP_CTRL p.val 2#32) s

/-- DP_BCLR (R349): DP_CTRL.BCLR sets the bias to 0. -/
def execDpBclr (m : Fin 8) (p : Fin 4) (s : State) : Res := ran (State.wr m.val .DP_CTRL p.val 4#32) s

/-- DP_CCLR (R362): DP_CTRL.CCLR clears DP_CNT. -/
def execDpCclr (m : Fin 8) (p : Fin 4) (s : State) : Res := ran (State.wr m.val .DP_CTRL p.val 8#32) s

/-- ZONE_LOST (R343): An air zone has no valid temperature for 10 s. -/
def execZoneLost (p z : Fin 4) (s : State) : Res := ran (State.zoneLost p.val z.val) s

/-- LOCKOUT (R355): The flame safeguard lockout contact changes. -/
def execLockout (p : Fin 4) (s : State) : Res := came (State.dpLockout p.val) s

/-- SE_STALE (R357): A cable sensor has no response for DP_SE_TO. -/
def execSeStale (n : Fin 32) (s : State) : Res := ran (State.sensorStale n.val) s

/-- BIN_EVALUATION (R358): Each whole minute the aeration windows of enabled bins are evaluated. -/
def execBinEvaluation (s : State) : Res := ran State.binsEvaluate s

end Sys2Proof.Machine
end

