-- ==== Sys2Proof/Machine/CmdFeedback.lean ====
section
/-!
DEFINITION. Sys2Proof/Machine/CmdFeedback.lean: the commands of feedback channels and forwarding ports (R184 to
R215). Each meaning is a definition of its own.
-/

namespace Sys2Proof.Machine

/-- FB_ENABLE (R211): Writing FB_CFG.EN enables a feedback channel or is refused. -/
def execFbEnable (m : Fin 8) (c : Fin 24) (v : Word) (s : State) : Res :=
  ran (State.wr m.val .FB_CFG c.val (v ||| 1#32)) s

/-- FEEDBACK_EDGE (R184): A filtered line edge is stamped and counted in the channel's mode. -/
def execFeedbackEdge (c : Fin 24) (o : Fin 2000) (ta tb tz : Option Nat) (s : State) : Res :=
  padAt o (fun t => State.edgeTake c.val t ta tb tz) s

/-- BLANKING_END (R186): A plain-input blanking time ends and a differing level is taken as an edge. `a` is the filtered
level that it finds; the event does not come with the other one. -/
def execBlankingEnd (c : Fin 24) (a : Bool) (s : State) : Res :=
  came (fun s => if (s.fld FB_STAT_LVL c.val % 2 == 1) = a then State.blankEnd c.val s.Tn s else s) s

/-- FB_CHANNEL_STALE (R201): No edge for STALE_MS makes a channel stale and zeroes its observer. -/
def execFbChannelStale (c : Fin 24) (s : State) : Res := came (State.fbGoStale c.val) s

/-- FB_FCLR (R200): FB_CTRL.FCLR clears a channel fault. -/
def execFbFclr (m : Fin 8) (c : Fin 24) (s : State) : Res := ran (State.wr m.val .FB_CTRL c.val 1#32) s

/-- FB_CCLR (R211): FB_CTRL.CCLR clears the compare and error counters. -/
def execFbCclr (m : Fin 8) (c : Fin 24) (s : State) : Res := ran (State.wr m.val .FB_CTRL c.val 2#32) s

/-- FB_CMP_WRITE (R203): A compare value or enable write is applied, auto-advancing a value not ahead. -/
def execFbCmpWrite (m : Fin 8) (c : Fin 24) (cfg : Bool) (v : Word) (s : State) : Res :=
  ran (State.wr m.val (cmpReg cfg) c.val v) s

/-- SSI_TRANSACTION_START (R192): Every PERIOD ticks an SSI transaction latches the encoder, or is skipped. -/
def execSsiTransactionStart (c : Fin 24) (s : State) : Res := ran (State.ssiStart c.val) s

/-- SSI_SAMPLE (R192): An SSI word completes, is checked and moves FB_POS. -/
def execSsiSample (c : Fin 24) (w : Word) (high trail : Bool) (s : State) : Res :=
  pad (State.ssiTake c.val w high trail) s

/-- FWD_CFG_WRITE (R204): A FWD_CFG write sets a forwarding port's mode, restarting it when MODE, SRC or FMT
change. -/
def execFwdCfgWrite (m n : Fin 8) (v : Word) (s : State) : Res := ran (State.wr m.val .FWD_CFG n.val v) s

end Sys2Proof.Machine
end

