-- ==== Sys2Proof/Machine/CmdGeometry.lean ====
section
/-!
DEFINITION. Sys2Proof/Machine/CmdGeometry.lean: the commands of the geometry unit and the masking raster (R136
to R183). Each meaning is a definition of its own.
-/

namespace Sys2Proof.Machine

/-- GM_RUN_SET (R172): Setting GM_CTRL.RUN starts the geometry unit, or is refused. -/
def execGmRunSet (m : Fin 8) (s : State) : Res := ran (State.wr m.val .GM_CTRL 0 1#32) s

/-- GM_RUN_CLEAR (R157): Clearing RUN flushes fed lanes, discards pending steps and writes back the masking. -/
def execGmRunClear (m : Fin 8) (s : State) : Res := ran (State.wr m.val .GM_CTRL 0 0#32) s

/-- FIX_LOST (R149): No position fix for GM_FIX_TO sets DR_ONLY. -/
def execFixLost (s : State) : Res := came State.fixLost s

/-- SPATIAL_STEP_DISPATCH (R153): The ground axis reaches the next multiple of S and a spatial step is
dispatched. -/
def execSpatialStepDispatch (s : State) : Res := ran State.stepDispatch s

/-- STEP_RESULTS (R153): At d_n + 64 a step's marks, duties, flow sums and coverage are applied. -/
def execStepResults (s : State) : Res := ran State.stepResults s

/-- TILE_INTAKE (R162): One stencil element is taken from Q28 or Q29 and installed, filled or evicted. -/
def execTileIntake (s : State) : Res := came State.tileTake s

/-- GM_TC_EVICT (R163): A write to GM_TC_EVICT removes an unpinned cached tile. -/
def execGmTcEvict (m : Fin 8) (v : Word) (s : State) : Res := ran (State.wr m.val .GM_TC_EVICT 0 v) s

/-- TILE_WANT (R166): Every 100 ms the wanted-tile list is recomputed. -/
def execTileWant (s : State) : Res := ran State.tileWant s

/-- MASK_WRITE_BACK (R169): A dirty masking tile is written back through the journal when its trigger is due. -/
def execMaskWriteBack (tx ty : Fin 65536) (s : State) : Res := ran (State.maskBack (65536 * ty.val + tx.val)) s

/-- MAP_CLEAR (R171): CLEAR invalidates the masking directory and sets its header. -/
def execMapClear (m : Fin 8) (s : State) : Res := ran (State.wr m.val .GM_MAP_CMD 0 1#32) s

/-- MAP_MERGE (R171): MERGE ORs a 512 B source into a masking tile. -/
def execMapMerge (m : Fin 8) (s : State) : Res := ran (State.wr m.val .GM_MAP_CMD 0 2#32) s

/-- MAP_FLUSH (R171): FLUSH writes back every dirty masking tile. -/
def execMapFlush (m : Fin 8) (s : State) : Res := ran (State.wr m.val .GM_MAP_CMD 0 3#32) s

/-- MAP_ADOPT (R171): ADOPT loads the field origin, cell and job from the directory header. -/
def execMapAdopt (m : Fin 8) (s : State) : Res := ran (State.wr m.val .GM_MAP_CMD 0 4#32) s

/-- MAP_DONE (R171): A map command completes. -/
def execMapDone (s : State) : Res := ran State.mapDone s

end Sys2Proof.Machine
end

