-- ==== Sys2Proof/Machine/CmdHost.lean ====
section
/-!
DEFINITION. Sys2Proof/Machine/CmdHost.lean: the commands of the host link: ZHA over Ethernet, and the SPI port
(R403 to R412). Each meaning is a definition of its own.
-/

namespace Sys2Proof.Machine

/-- ZHA_READ (R407): A READ request reads words and returns them. -/
def execZhaRead (f : ZhaFrame) (s : State) : Res := ran (State.zhaRow 1 f) s

/-- ZHA_WRITE (R407): A WRITE request writes words. -/
def execZhaWrite (f : ZhaFrame) (s : State) : Res := ran (State.zhaRow 2 f) s

/-- ZHA_WRITE_LIST (R407): A WRITE_LIST request writes address and value pairs. -/
def execZhaWriteList (f : ZhaFrame) (s : State) : Res := ran (State.zhaRow 3 f) s

/-- ZHA_CMDQ (R407): A CMDQ request pushes command elements into the session's command queue. -/
def execZhaCmdq (f : ZhaFrame) (s : State) : Res := ran (State.zhaRow 4 f) s

/-- ZHA_STREAM_ACK (R409): A STREAM_ACK ends the outstanding stream frame and advances HEAD. -/
def execZhaStreamAck (f : ZhaFrame) (s : State) : Res := ran (State.zhaRow 5 f) s

/-- ZHA_PING (R407): A PING request returns epoch, last SEQ and module time. -/
def execZhaPing (f : ZhaFrame) (s : State) : Res := ran (State.zhaRow 6 f) s

/-- STREAM_FRAME_SEND (R409): Elements in a stream queue with no frame outstanding are sent in a stream frame.
-/
def execStreamFrameSend (i : Fin 4) (s : State) : Res := ran (State.streamSend i.val) s

/-- STREAM_RESEND (R409): An unacknowledged stream frame is sent again after SRTO. -/
def execStreamResend (i : Fin 4) (s : State) : Res := ran (State.streamResend i.val) s

/-- ARP_REQUEST (R403): An ARP request for the port's address is answered. -/
def execArpRequest (p : Fin 2) (ip : Word) (s : State) : Res := ran (State.arpRequest p.val ip) s

/-- ICMP_ECHO (R403): An ICMP echo request is answered. -/
def execIcmpEcho (p : Fin 2) (data : List Byte) (s : State) : Res := ran (State.icmpEcho p.val data) s

/-- HL_LINK (R403): A 100BASE-T1 link goes up or down. -/
def execHlLink (p : Fin 2) (up : Bool) (sqi : Fin 8) (s : State) : Res := ran (State.linkChange p.val up sqi.val) s

/-- SPI_WRITE (R411): An SPI WRITE frame is carried out at nCS rising if length and CRC are right. -/
def execSpiWrite (l : List Byte) (s : State) : Res := ran (State.spiWrite l) s

/-- SPI_READ (R410): An SPI READ frame returns words, status and CRC. -/
def execSpiRead (l : List Byte) (made : Nat) (s : State) : Res := ran (State.spiRead l made) s

/-- SPI_STATUS (R410): An SPI STATUS frame reports the last completed WRITE. -/
def execSpiStatus (s : State) : Res := ran State.spiStatus s

/-- SPI_ERR (R410): An SPI frame with an unknown command is ignored and counted. -/
def execSpiErr (c : Fin 256) (s : State) : Res := ran (State.spiErr c.val) s

/-- ZHA_FRAME_DROP (R406): A received Ethernet or ZHA frame fails the port or session tests and is dropped and
counted, raising E244 for tag, epoch or sequence failures. -/
def execZhaFrameDrop (d : DropFrame) (s : State) : Res := ran (State.zhaDrop d) s

/-- ARP_REPLY (R403): An ARP reply resolves a session peer's address and the entry is kept for 60 s. -/
def execArpReply (p : Fin 2) (ip : Word) (s : State) : Res := ran (State.arpReply p.val ip) s

/-- ARP_ENTRY_EXPIRY (R403): A peer's ARP entry reaches its 60 s age and must be resolved again. -/
def execArpEntryExpiry (i : Fin 4) (s : State) : Res := ran (State.arpExpiry i.val) s

end Sys2Proof.Machine
end

