-- ==== Sys2Proof/Machine/CmdMarks.lean ====
section
/-!
DEFINITION. Sys2Proof/Machine/CmdMarks.lean: the commands of lanes, marks and frame templates (R104 to R135).
Each meaning is a definition of its own.
-/

namespace Sys2Proof.Machine

/-- LN_PUSH_GO (R110): A master commits a staged mark to a lane, accepted or refused with a code. -/
def execLnPushGo (m : Fin 8) (v : Word) (s : State) : Res := ran (State.wr m.val .LN_PUSH_GO 0 v) s

/-- TEMPLATE_REFRESH (R129): REFRESH time passes since a template's last frame and a frame is queued. -/
def execTemplateRefresh (t : Fin 32) (s : State) : Res := ran (State.tplRefresh t.val) s

/-- TEMPLATE_GAP_FRAME (R129): A frame deferred by MIN_GAP is queued when the gap has passed. -/
def execTemplateGapFrame (t : Fin 32) (s : State) : Res := ran (State.tplGap t.val) s

/-- LANE_ENABLE (R107): Writing LN_CFG.EN or LN_RCFG.EN to 1 enables a lane, or is refused. -/
def execLaneEnable (m : Fin 8) (n : Fin 768) (v : Word) (s : State) : Res :=
  ran (State.lnEnable m.val n.val (v ||| 1#32)) s

/-- LANE_DISABLE (R107): Writing EN to 0 empties the lane FIFO and keeps the demand. -/
def execLaneDisable (m : Fin 8) (n : Fin 768) (v : Word) (s : State) : Res :=
  ran (State.lnEnable m.val n.val (v &&& ~~~1#32)) s

/-- LN_FLUSH (R134): LN_FLUSH or LN_RFLUSH empties the FIFO of the named lanes. -/
def execLnFlush (m : Fin 8) (k : Fin 24) (v : Word) (s : State) : Res := ran (State.lnFlushWord m.val k.val v) s

/-- LN_DELAY_WRITE (R119): A write to LN_DON or LN_DOFF reseeds the delay estimate. -/
def execLnDelayWrite (m : Fin 8) (n : Fin 256) (on : Bool) (v : Word) (s : State) : Res :=
  ran (State.wr m.val (delayReg on) n.val v) s

/-- LEAD_MEASUREMENT (R119): A delay measurement reported to the scheduler updates or is tested against the
estimate. -/
def execLeadMeasurement (n : Fin 256) (s : State) : Res := came (State.lnApplyReport n.val) s

end Sys2Proof.Machine
end

