-- ==== Sys2Proof/Machine/CmdPulse.lean ====
section
/-!
DEFINITION. Sys2Proof/Machine/CmdPulse.lean: the commands of valve slices, bridge pairs and fault inputs (R243
to R259). Each meaning is a definition of its own.
-/

namespace Sys2Proof.Machine

/-- SLICE_ENABLE (R243): Writing VS_CFG.EN enables a valve slice or is refused. -/
def execSliceEnable (m : Fin 8) (n : Fin 128) (v : Word) (s : State) : Res :=
  ran (State.wr m.val .VS_CFG n.val (v ||| 1#32)) s

/-- SLICE_RELOAD (R244): A slice period or axis pulse starts and committed shadows take effect. -/
def execSliceReload (n : Fin 128) (s : State) : Res := came (State.sliceReload n.val) s

/-- VS_DUTY_WRITE (R245): A VS_DUTY write sets the shadow on-time. -/
def execVsDutyWrite (m : Fin 8) (n : Fin 128) (v : Word) (s : State) : Res :=
  ran (State.wr m.val .VS_DUTY n.val v) s

/-- VS_COMMIT (R248): VS_CTRL.COMMIT marks both slice shadows for the next reload. -/
def execVsCommit (m : Fin 8) (n : Fin 128) (s : State) : Res := ran (State.wr m.val .VS_CTRL n.val 1#32) s

/-- VS_CCLR (R258): VS_CTRL.CCLR clears VS_CNT. -/
def execVsCclr (m : Fin 8) (n : Fin 128) (s : State) : Res := ran (State.wr m.val .VS_CTRL n.val 2#32) s

/-- BP_ENABLE (R249): Writing BP_CFG.EN starts a bridge carrier or is refused. -/
def execBpEnable (m : Fin 8) (n : Fin 24) (v : Word) (s : State) : Res :=
  ran (State.wr m.val .BP_CFG n.val (v ||| 1#32)) s

/-- BRIDGE_PERIOD_START (R249): A bridge pair period starts and committed shadows take effect. -/
def execBridgePeriodStart (n : Fin 24) (s : State) : Res := came (State.bpReload n.val) s

/-- BP_COMMIT (R248): BP_CTRL.COMMIT marks both pair shadows for the next reload. -/
def execBpCommit (m : Fin 8) (n : Fin 24) (s : State) : Res := ran (State.wr m.val .BP_CTRL n.val 1#32) s

/-- BP_CCLR (R258): BP_CTRL.CCLR clears BP_CNT. -/
def execBpCclr (m : Fin 8) (n : Fin 24) (s : State) : Res := ran (State.wr m.val .BP_CTRL n.val 2#32) s

/-- FAULT_INPUT_ASSERT (R251): A filtered fault input latches and forces bridges or valve groups off. -/
def execFaultInputAssert (n : Fin 8) (o : Fin 2000) (s : State) : Res := padAt o (State.fltAssert n.val) s

/-- PG_FLT_CLR (R252): PG_FLT_CLR clears fault latches and returns outputs. -/
def execPgFltClr (m : Fin 8) (v : Word) (s : State) : Res := ran (State.wr m.val .PG_FLT_CLR 0 v) s

/-- FAULT_INPUT_DEASSERT (R252): A fault input leaves its asserted level, clearing PG_FLT_STAT.ASSERT so that
its latch may be cleared. -/
def execFaultInputDeassert (n : Fin 8) (s : State) : Res := pad (State.fltDeassert n.val) s

end Sys2Proof.Machine
end

