-- ==== Sys2Proof/Machine/CmdQueues.lean ====
section
/-!
DEFINITION. Sys2Proof/Machine/CmdQueues.lean: the commands of queues and the queue engine (R392 to R402, R420 to
R422). Each meaning is a definition of its own.
-/

namespace Sys2Proof.Machine

/-- Q_ENABLE (R393): Writing Q_GEOM.EN enables a queue or is refused. -/
def execQEnable (m : Fin 8) (q : Fin 48) (v : Word) (s : State) : Res :=
  ran (State.wr m.val .Q_GEOM q.val (v ||| 1#32)) s

/-- Q_TAIL_WRITE (R394): A software producer publishes elements by writing Q_TAIL. -/
def execQTailWrite (m : Fin 8) (q : Fin 48) (v : Word) (s : State) : Res := ran (State.wr m.val .Q_TAIL q.val v) s

/-- Q_HEAD_WRITE (R395): A consumer frees elements by writing Q_HEAD. -/
def execQHeadWrite (m : Fin 8) (q : Fin 48) (v : Word) (s : State) : Res := ran (State.wr m.val .Q_HEAD q.val v) s

/-- Q_FLUSH (R395): Q_CTRL.FLUSH sets HEAD to TAIL. -/
def execQFlush (m : Fin 8) (q : Fin 48) (s : State) : Res := ran (State.wr m.val .Q_CTRL q.val 2#32) s

/-- Q_CCLR (R420): Q_CTRL.CCLR clears Q_CNT and Q_STAT.OVF. -/
def execQCclr (m : Fin 8) (q : Fin 48) (s : State) : Res := ran (State.wr m.val .Q_CTRL q.val 1#32) s

/-- CMD_WRITES (R398): The queue engine takes a WRITES element and makes its writes. -/
def execCmdWrites (i : Fin 4) (s : State) : Res := ran (State.cmdWrites i.val) s

/-- CMD_REPLAY (R398): A REPLAY element is taken by the replay unit. -/
def execCmdReplay (i : Fin 4) (s : State) : Res := ran (State.cmdReplay i.val) s

end Sys2Proof.Machine
end

