-- ==== Sys2Proof/Machine/CmdReplay.lean ====
section
/-!
DEFINITION. Sys2Proof/Machine/CmdReplay.lean: the commands of recording and replay (R443 to R450). Each meaning
is a definition of its own.
-/

namespace Sys2Proof.Machine

/-- RP_REC_HEAD_WRITE (R443): Software drains the record ring by writing RP_REC_HEAD. -/
def execRpRecHeadWrite (m : Fin 8) (v : Word) (s : State) : Res := ran (State.wr m.val .RP_REC_HEAD 0 v) s

/-- REPLAY_START_CHECK (R447): The START record is checked against image, T0 and masking CRC. -/
def execReplayStartCheck (i : Fin 4) (s : State) : Res := ran (State.rpStart i.val) s

/-- REPLAY_GO (R447): RP_CTRL.GO starts replay time. -/
def execReplayGo (m : Fin 8) (s : State) : Res := ran (State.wr m.val .RP_CTRL 0 1#32) s

/-- REPLAY_RECORD_MERGE (R449): Each tick the replay unit merges records from the replay queues. -/
def execReplayRecordMerge (s : State) : Res := ran State.rpMerge s

/-- REPLAY_END (R450): An END record ends replay. -/
def execReplayEnd (s : State) : Res := ran State.rpEnd s

end Sys2Proof.Machine
end

