-- ==== Sys2Proof/Machine/CmdReset.lean ====
section
/-!
DEFINITION. Sys2Proof/Machine/CmdReset.lean: the commands of resets, start-up, the supervisor, the MRAM
controller and the debug port (R424 to R442). Each meaning is a definition of its own.
-/

namespace Sys2Proof.Machine

/-- POWER_ON_RESET (R431): VBAT_L falls below 5.0 V or first rises, starting a power-on reset. -/
def execPowerOnReset (s : State) : Res := ran State.powerReset s

/-- PIN_RESET (R425): nRESET held low for 10 µs starts a pin reset. -/
def execPinReset (s : State) : Res := ran State.pinLow s

/-- MOD_RESET (R431): MOD_CTRL.RESET with RMODE 0 starts a module reset. -/
def execModReset (m : Fin 8) (s : State) : Res := ran (State.wr m.val .MOD_CTRL 0 0x100#32) s

/-- MOD_RESET_RECORD (R443): MOD_CTRL.RESET with RMODE 1 resets and starts recording. -/
def execModResetRecord (m : Fin 8) (s : State) : Res := ran (State.wr m.val .MOD_CTRL 0 0x1100#32) s

/-- MOD_RESET_REPLAY (R447): MOD_CTRL.RESET with RMODE 2 resets into replay. -/
def execModResetReplay (m : Fin 8) (s : State) : Res := ran (State.wr m.val .MOD_CTRL 0 0x2100#32) s

/-- PLL_LOCK (R424): The PLL locks, ending power-on reset at module time 0. -/
def execPllLock (mv : Nat) (s : State) : Res := ran (State.pllLocked mv) s

/-- MRAM_READY (R424): MRAM becomes ready and the epoch is incremented. -/
def execMramReady (s : State) : Res := ran State.mramReady s

/-- BOOT_DONE (R427): Primer image verification ends and the configuration is loaded. -/
def execBootDone (a b : Image) (s : State) : Res := ran (State.bootEnd a b) s

/-- HELPER_CORE_AUTOSTART (R424): At the release step AUTOSTART cores start. -/
def execHelperCoreAutostart (s : State) : Res := ran State.coresStart s

/-- RELEASE (R430): The owner's MOD_CTRL.RELEASE lets outputs leave the dust sheet. -/
def execRelease (m : Fin 8) (s : State) : Res := ran (State.wr m.val .MOD_CTRL 0 1#32) s

/-- CLK_FAULT (R435): The clock monitor detects a clock fault and requests a module reset. -/
def execClkFault (o : Fin 2000) (s : State) : Res := cameAt o State.clkFault s

/-- XTAL_DRIFT (R435): The crystal drifts beyond ±500 ppm of the RC oscillator. -/
def execXtalDrift (ppm : Word) (s : State) : Res := came (State.xtalDrift ppm) s

/-- TICK_FAULT (R436): A tick phase does not complete in time and a module reset is requested. -/
def execTickFault (s : State) : Res := came State.tickFault s

/-- VBAT_L_LOW (R437): VBAT_L falls below its warning level. -/
def execVbatLLow (mv : Nat) (s : State) : Res := came (State.vbatLow mv) s

/-- RAIL_FAULT (R437): An internal rail leaves its range. -/
def execRailFault (s : State) : Res := came State.railFault s

/-- TEMP_MAIN (R437): The main-die temperature exceeds its warning level. -/
def execTempMain (tj : Word) (s : State) : Res := came (State.tempMain tj) s

/-- HEARTBEAT_LOST_DIE (R438): A valve power die misses ticks for 20 ms and puts its outputs in the dust sheet.
-/
def execHeartbeatLostDie (d : Fin 4) (s : State) : Res := came (State.dieSilent d.val) s

/-- HEARTBEAT_RESET_REQUEST (R438): After 100 ms without ticks the power dies drive nRST_OUT and request a
module reset. -/
def execHeartbeatResetRequest (s : State) : Res := came State.hbRequest s

/-- SUP_HBCLR (R452): SUP_CLR.HBCLR clears DIE_HB. -/
def execSupHbclr (m : Fin 8) (s : State) : Res := ran (State.wr m.val .SUP_CLR 0 1#32) s

/-- MM_WRITE (R429): MM_CMD WRITE copies an image part into a slot, writing MAGIC last. -/
def execMmWrite (m : Fin 8) (v : Word) (s : State) : Res := ran (State.wr m.val .MM_CMD 0 (putBits v 1 0 1)) s

/-- MM_VERIFY (R429): MM_CMD VERIFY verifies a slot without writing. -/
def execMmVerify (m : Fin 8) (v : Word) (s : State) : Res := ran (State.wr m.val .MM_CMD 0 (putBits v 1 0 2)) s

/-- MM_INVALIDATE (R429): MM_CMD INVALIDATE clears a slot's MAGIC. -/
def execMmInvalidate (m : Fin 8) (v : Word) (s : State) : Res := ran (State.wr m.val .MM_CMD 0 (putBits v 1 0 3)) s

/-- MM_COMMAND_DONE (R429): An MRAM controller command completes with its result. -/
def execMmCommandDone (b : Image) (s : State) : Res := ran (State.mmDone b) s

/-- DBG_HALT_PIN (R440): DBG_HALT held low for 1 µs enters the debug halt. -/
def execDbgHaltPin (low : Bool) (s : State) : Res := came (State.dbgPin low) s

/-- DG_HALT (R440): DBG writes DG_CTRL.HALT to enter the debug halt. -/
def execDgHalt (m : Fin 8) (s : State) : Res := ran (State.wr m.val .DG_CTRL 0 1#32) s

/-- DG_RESUME (R440): DBG writes DG_CTRL.RESUME to end the debug halt. -/
def execDgResume (m : Fin 8) (s : State) : Res := ran (State.wr m.val .DG_CTRL 0 2#32) s

/-- DG_MRST (R431): DBG writes DG_CTRL.MRST for a module reset. -/
def execDgMrst (m : Fin 8) (s : State) : Res := ran (State.wr m.val .DG_CTRL 0 4#32) s

/-- EXTEST (R440): An IEEE 1149.1 EXTEST instruction enters the debug halt before driving pads. -/
def execExtest (s : State) : Res := came State.extestHalt s

/-- NRESET_RELEASE (R425): nRESET returns high and the pin reset ends 10 µs later, starting the pin-reset
start-up timeline. -/
def execNresetRelease (s : State) : Res := ran State.nresetHigh s

/-- VBAT_L_RESTORED (R437): VBAT_L rises 0.5 V above its warning level, setting VBAT_OK and clearing RLS_BLOCK
bit VBAT. -/
def execVbatLRestored (mv : Nat) (s : State) : Res := came (State.vbatBack mv) s

end Sys2Proof.Machine
end

