-- ==== Sys2Proof/Machine/CmdSensors.lean ====
section
/-!
DEFINITION. Sys2Proof/Machine/CmdSensors.lean: the commands of the sensor front end (R280 to R311). Each meaning
is a definition of its own.
-/

namespace Sys2Proof.Machine

/-- PC_CONVERSION_END (R281): A precision conversion period ends and gives a flagged result. -/
def execPcConversionEnd (n : Fin 32) (h l : List Chop) (ovH ovL : Bool) (s : State) : Res :=
  came (State.pcEnd n.val h l ovH ovL) s

/-- OPEN_WIRE_TRIP (R290): An excitation compliance comparator trips on an open lead. -/
def execOpenWireTrip (x : Comparator) (o : Fin 2000) (s : State) : Res := padAt o (State.pcTrip x.n.val x.src) s

/-- OPEN_WIRE_RELEASE (R290): The compliance comparator releases, and OPEN_NOW clears when no other is tripped. -/
def execOpenWireRelease (x : Comparator) (s : State) : Res := pad (State.pcRelease x.n.val x.src) s

/-- CAL_SLOT_START (R293): A 2 s calibration slot starts, connecting the spare to a channel. -/
def execCalSlotStart (s : State) : Res := ran State.rotSlotStart s

/-- CAL_TAKEOVER (R295): At a period end the spare takes over the channel. -/
def execCalTakeover (s : State) : Res := ran State.rotTakeover s

/-- CAL_DONE (R295): At 1.9 s the retired converter's coefficients are checked and it becomes the spare. -/
def execCalDone (ia ib dev : Word) (coef : PcCoef) (testOk : Bool) (s : State) : Res :=
  ran (State.rotDone ia ib dev coef testOk) s

/-- PC_CALREQ (R294): PC_CTRL.CALREQ queues a calibration slot for the channel. -/
def execPcCalreq (m : Fin 8) (n : Fin 32) (s : State) : Res := ran (State.wr m.val .PC_CTRL n.val 1#32) s

/-- PC_TESTREQ (R294): PC_CTRL.TESTREQ queues a slot with self-test. -/
def execPcTestreq (m : Fin 8) (n : Fin 32) (s : State) : Res := ran (State.wr m.val .PC_CTRL n.val 2#32) s

/-- PC_CCLR (R310): PC_CTRL.CCLR clears PC_CNT. -/
def execPcCclr (m : Fin 8) (n : Fin 32) (s : State) : Res := ran (State.wr m.val .PC_CTRL n.val 4#32) s

/-- INIT_CAL_END (R297): The initial parallel calibration ends and the rotation starts. -/
def execInitCalEnd (cur : List CalIn) (s : State) : Res := ran (State.initCalEnd cur) s

/-- GC_RESULT (R298): A general channel's averaged result is completed and flagged. -/
def execGcResult (n : Fin 32) (o : Fin 2000) (samples : List GcSample) (s : State) : Res :=
  padAt o (fun t => State.gcResult n.val t samples) s

/-- SHUNT_OFF (R299): Excess shunt current disconnects the 0–20 mA shunt. -/
def execShuntOff (n : Fin 32) (o : Fin 2000) (s : State) : Res := padAt o (State.shuntOff n.val) s

/-- SHUNT_RECONNECT (R299): Every 100 ms the shunt is reconnected for one sample. -/
def execShuntReconnect (n : Fin 32) (inRange : Bool) (s : State) : Res := pad (State.shuntReconnect n.val inRange) s

/-- ZC_MEASUREMENT (R301): An impedance window ends and a corrected admittance is formed. -/
def execZcMeasurement (z : Fin 4) (re im : Word) (ovr : Bool) (s : State) : Res :=
  came (State.zcEnd z.val re im ovr) s

/-- AO_VAL_WRITE (R303): A value written to AO_VAL is converted to the output code. -/
def execAoValWrite (m : Fin 8) (a : Fin 4) (v : Word) (s : State) : Res := ran (State.wr m.val .AO_VAL a.val v) s

/-- AO_FAULT (R304): An analog output fails to follow its code for 1 ms. -/
def execAoFault (a : Fin 4) (o : Fin 2000) (s : State) : Res := cameAt o (State.aoFault a.val) s

end Sys2Proof.Machine
end

