-- ==== Sys2Proof/Machine/CmdSwitches.lean ====
section
/-!
DEFINITION. Sys2Proof/Machine/CmdSwitches.lean: the commands of load switches (R260 to R279). Each meaning is a
definition of its own.
-/

namespace Sys2Proof.Machine

/-- LS_SOURCE_COMMAND_CHANGE (R264): A load switch's source command rises or falls and the output follows. -/
def execLsSourceCommandChange (n : Fin 24) (o : Fin 2000) (s : State) : Res := cameAt o (State.lsCommand n.val) s

/-- LSIN_CHANGE (R262): An LSIN level is taken after 1 µs and becomes the pin command. -/
def execLsinChange (n : Fin 24) (lvl : Bool) (s : State) : Res := came (State.lsinChange n.val lvl) s

/-- LS_TRIP (R265): A load-switch current reaches its threshold and the channel trips. -/
def execLsTrip (n : Fin 24) (o : Fin 2000) (i : Word) (s : State) : Res :=
  cameAt o (fun t => State.lsTrip n.val t i) s

/-- RETRY_PAUSE_END (R265): A retry pause ends and the channel restarts if commanded. -/
def execRetryPauseEnd (n : Fin 24) (s : State) : Res := ran (State.lsPauseEnd n.val) s

/-- INRUSH_WINDOW_END (R264): An inrush window runs out and the threshold becomes I_LIM. -/
def execInrushWindowEnd (n : Fin 24) (s : State) : Res := came (State.lsWindowEnd n.val) s

/-- TH_OFF (R267): A load-switch junction reaches 170 °C and turns off. -/
def execThOff (n : Fin 24) (o : Fin 2000) (tj : Word) (s : State) : Res :=
  cameAt o (fun t => State.lsThOff n.val t tj) s

/-- LS_COOL_DOWN (R267): A HOT channel cools to 150 °C and restarts if commanded. -/
def execLsCoolDown (n : Fin 24) (o : Fin 2000) (tj : Word) (s : State) : Res :=
  cameAt o (fun t => State.lsCool n.val t tj) s

/-- UV_OFF (R268): A supply group below 5.0 V for 2 µs turns its outputs off. -/
def execUvOff (g : Fin 4) (o : Fin 2000) (mv : Nat) (s : State) : Res :=
  cameAt o (fun t => State.lsUvOff g.val t mv) s

/-- UV_RESTART (R268): A supply group recovers to 5.5 V and its channels restart. -/
def execUvRestart (g : Fin 4) (o : Fin 2000) (mv : Nat) (s : State) : Res :=
  cameAt o (fun t => State.lsUvBack g.val t mv) s

/-- HB_LOST (R273): The load-switch die misses ticks for 20 ms and holds its commands. -/
def execHbLost (s : State) : Res := came State.switchesLost s

/-- DIE_COLD (R275): The load-switch die starts cold and resets its registers and outputs. -/
def execDieCold (o : Fin 2000) (s : State) : Res := cameAt o State.lsCold s

/-- LS_OCCLR (R266): LS_CTRL.OCCLR clears OC_LATCH. -/
def execLsOcclr (m : Fin 8) (n : Fin 24) (s : State) : Res := ran (State.wr m.val .LS_CTRL n.val 1#32) s

/-- LS_THCLR (R267): LS_CTRL.THCLR clears TH_LATCH once cooled. -/
def execLsThclr (m : Fin 8) (n : Fin 24) (s : State) : Res := ran (State.wr m.val .LS_CTRL n.val 2#32) s

/-- LS_CCLR (R278): LS_CTRL.CCLR clears LS_CNT. -/
def execLsCclr (m : Fin 8) (n : Fin 24) (s : State) : Res := ran (State.wr m.val .LS_CTRL n.val 4#32) s

/-- COLD_CLR (R278): LS_GCTRL.COLD_CLR clears LS_DIE.COLD. -/
def execColdClr (m : Fin 8) (s : State) : Res := ran (State.wr m.val .LS_GCTRL 0 2#32) s

/-- HB_CLR (R278): LS_GCTRL.HB_CLR clears LS_DIE.HB_LOST. -/
def execHbClr (m : Fin 8) (s : State) : Res := ran (State.wr m.val .LS_GCTRL 0 1#32) s

/-- LS_RETENTION_LOSS (R275): The highest VBAT_S feed falls below the load-switch die's retention threshold and
the die loses its logic, latches and outputs. -/
def execLsRetentionLoss (s : State) : Res := came State.lsLoss s

end Sys2Proof.Machine
end

