-- ==== Sys2Proof/Machine/CmdValves.lean ====
section
/-!
DEFINITION. Sys2Proof/Machine/CmdValves.lean: the commands of valve channels, groups and power dies (R216 to
R242, R251, R461). Each meaning is a definition of its own.
-/

namespace Sys2Proof.Machine

/-- VALVE_COMMAND_RISE (R218): A rising slice command requests the start of an actuation. -/
def execValveCommandRise (n : Fin 128) (s : State) : Res := came (State.vRise n.val) s

/-- START_GRANT (R221): A waiting start fits the peak-current budget and enters PEAK. -/
def execStartGrant (g : Fin 16) (s : State) : Res := came (State.vStartGrant g.val) s

/-- PEAK_END (R218): PEAK_T runs out and the channel enters HOLD. -/
def execPeakEnd (n : Fin 128) (s : State) : Res := came (State.vPeakEnd n.val) s

/-- VALVE_COMMAND_FALL (R219): A falling slice command ends PEAK or HOLD and starts DECAY. -/
def execValveCommandFall (n : Fin 128) (s : State) : Res := came (State.vFall n.val) s

/-- DECAY_END (R218): DECAY ends after confirmed release and low current, or REL_WIN. -/
def execDecayEnd (n : Fin 128) (s : State) : Res := came (State.vDecayEnd n.val) s

/-- VALVE_OBSERVATION (R226): A valve observation completes and is reported to scheduler, geometry and log. -/
def execValveObservation (n : Fin 128) (o : Fin 2000) (x : ValveObs) (s : State) : Res :=
  padAt o (fun t => State.valveSee n.val t x) s

/-- HSON_TEST (R230): An idle channel's high-side-on off-state test runs. -/
def execHsonTest (n : Fin 128) (down up : Bool) (s : State) : Res := pad (State.vHsonTest n.val down up) s

/-- HSOFF_WINDOW (R231): An idle group takes a high-side-off diagnostic window. -/
def execHsoffWindow (g : Fin 16) (s : State) : Res := came (State.vHsoffWindow g.val) s

/-- VG_TWIN (R231): VG_CTRL.TWIN forces a high-side-off window now. -/
def execVgTwin (m : Fin 8) (g : Fin 16) (s : State) : Res := ran (State.wr m.val .VG_CTRL g.val 2#32) s

/-- TEST_DONE (R231): A high-side-off window completes with the high side ready. -/
def execTestDone (g : Fin 16) (levels : BitVec 8) (s : State) : Res := came (State.vTestDone g.val levels) s

/-- HS_TRIP (R233): A group high side trips on short circuit and latches off. -/
def execHsTrip (g : Fin 16) (o : Fin 2000) (s : State) : Res := padAt o (State.vHsTrip g.val) s

/-- VSUP_LOW (R233): A group supply falls below its under-voltage threshold. -/
def execVsupLow (g : Fin 16) (o : Fin 2000) (mv : Nat) (s : State) : Res :=
  cameAt o (fun t => State.vSupLow g.val t mv) s

/-- VSUP_RESTORED (R233): A group supply returns above threshold plus hysteresis. -/
def execVsupRestored (g : Fin 16) (mv : Nat) (s : State) : Res := came (State.vSupBack g.val mv) s

/-- COIL_COOLING (R235): Every 10 ms the coil model of an idle channel cools. -/
def execCoilCooling (n : Fin 128) (s : State) : Res := ran (State.vCool n.val) s

/-- VG_LCLR (R235): VG_CCTRL.LCLR clears short-to-supply and thermal latches. -/
def execVgLclr (m : Fin 8) (n : Fin 128) (s : State) : Res := ran (State.wr m.val .VG_CCTRL n.val 1#32) s

/-- VG_SCLR (R228): VG_CCTRL.SCLR clears STUCK. -/
def execVgSclr (m : Fin 8) (n : Fin 128) (s : State) : Res := ran (State.wr m.val .VG_CCTRL n.val 2#32) s

/-- VG_RLEARN (R234): VG_CCTRL.RLEARN takes the next resistance result as R_REF. -/
def execVgRlearn (m : Fin 8) (n : Fin 128) (s : State) : Res := ran (State.wr m.val .VG_CCTRL n.val 4#32) s

/-- VG_CCTRL_CCLR (R241): VG_CCTRL.CCLR clears a channel's counters. -/
def execVgCctrlCclr (m : Fin 8) (n : Fin 128) (s : State) : Res := ran (State.wr m.val .VG_CCTRL n.val 8#32) s

/-- VG_CTRL_CCLR (R241): VG_CTRL.CCLR clears a group's counters. -/
def execVgCtrlCclr (m : Fin 8) (g : Fin 16) (s : State) : Res := ran (State.wr m.val .VG_CTRL g.val 4#32) s

/-- VG_HS_CLR (R233): VG_CTRL.HS_CLR clears HS_LATCH and SG_LATCH. -/
def execVgHsClr (m : Fin 8) (g : Fin 16) (s : State) : Res := ran (State.wr m.val .VG_CTRL g.val 1#32) s

/-- VG_DIE_CLR (R237): VG_CTRL.DIE_CLR clears a cooled die's shutdown. -/
def execVgDieClr (m : Fin 8) (d : Fin 4) (s : State) : Res :=
  ran (State.wr m.val .VG_CTRL 0 (BitVec.ofNat 32 (2 ^ (4 + d.val)))) s

/-- VG_CHANNEL_ENABLE (R241): Writing VG_CCFG.EN enables a valve channel or is refused. -/
def execVgChannelEnable (m : Fin 8) (n : Fin 128) (v : Word) (s : State) : Res :=
  ran (State.wr m.val .VG_CCFG n.val (v ||| 1#32)) s

/-- DIE_HOT (R237): A power die crosses its warning temperature. -/
def execDieHot (d : Fin 4) (tj : Word) (s : State) : Res := came (State.dieHot d.val tj) s

/-- DIE_SHUT (R237): A power die reaches shutdown and turns its groups off. -/
def execDieShut (d : Fin 4) (o : Fin 2000) (tj : Word) (s : State) : Res :=
  cameAt o (fun t => State.dieShut d.val t tj) s

/-- DIE_COOL (R237): A valve power die cools below its warning threshold, clearing VG_DIESTAT.HOT and allowing
its SHUT to be cleared. -/
def execDieCool (d : Fin 4) (tj : Word) (s : State) : Res := came (State.dieCool d.val tj) s

/-- GROUND_OFFSET_TRIP (R461): Power ground stands more than 1.0 V from logic ground at a valve power die for 2
µs, and the die turns its four group high sides off as high-side trips. -/
def execGroundOffsetTrip (d : Fin 4) (o : Fin 2000) (s : State) : Res := padAt o (State.groundTrip d.val) s

/-- REGULATION_PERIOD_START (R220): At each 50 µs regulation period of a channel in PEAK or HOLD, the low side
turns on unless the current already stands at its target. -/
def execRegulationPeriodStart (n : Fin 128) (s : State) : Res := came (State.vPeriod n.val) s

end Sys2Proof.Machine
end

