-- ==== Sys2Proof/Machine/Dispatch.lean ====
section
/-!
DEFINITION. Sys2Proof/Machine/Dispatch.lean: the meaning of each command, one arm each.
-/

namespace Sys2Proof.Machine

/-- The effect of a command on everything but the queue. -/
def exec (i : Instr) (s : State) : Host.Outcome State Fault Refusal :=
  match i with
  | .axisTick x => Sys2Proof.Machine.execAxisTick x s
  | .registerWrite m size a v => Sys2Proof.Machine.execRegisterWrite m size a v s
  | .mramFault k => Sys2Proof.Machine.execMramFault k s
  | .registerReadRc m size a => Sys2Proof.Machine.execRegisterReadRc m size a s
  | .aliasWrite m k p off v => Sys2Proof.Machine.execAliasWrite m k p off v s
  | .bitAliasWrite m w v => Sys2Proof.Machine.execBitAliasWrite m w v s
  | .snapTake m p => Sys2Proof.Machine.execSnapTake m p s
  | .guardKeyWrite m p v => Sys2Proof.Machine.execGuardKeyWrite m p v s
  | .domainReset m p => Sys2Proof.Machine.execDomainReset m p s
  | .domainResetDone p => Sys2Proof.Machine.execDomainResetDone p s
  | .prUnfreeze m v => Sys2Proof.Machine.execPrUnfreeze m v s
  | .prGclr m v => Sys2Proof.Machine.execPrGclr m v s
  | .tableEdit m e v => Sys2Proof.Machine.execTableEdit m e v s
  | .axEnable m n v => Sys2Proof.Machine.execAxEnable m n v s
  | .axDisable m n v => Sys2Proof.Machine.execAxDisable m n v s
  | .axKWrite m n k v => Sys2Proof.Machine.execAxKWrite m n k v s
  | .axStepWrite m n v => Sys2Proof.Machine.execAxStepWrite m n v s
  | .srcStale n k => Sys2Proof.Machine.execSrcStale n k s
  | .srcRecover n k => Sys2Proof.Machine.execSrcRecover n k s
  | .stopped n => Sys2Proof.Machine.execStopped n s
  | .slipCorrectionUpdate => Sys2Proof.Machine.execSlipCorrectionUpdate s
  | .mainsEdge h rising o => Sys2Proof.Machine.execMainsEdge h rising o s
  | .mainsMissingEdges n => Sys2Proof.Machine.execMainsMissingEdges n s
  | .mainsGone n => Sys2Proof.Machine.execMainsGone n s
  | .yawLost => Sys2Proof.Machine.execYawLost s
  | .gnssSentence r o l => Sys2Proof.Machine.execGnssSentence r o l s
  | .ppsEdge r o => Sys2Proof.Machine.execPpsEdge r o s
  | .gmFixGo m => Sys2Proof.Machine.execGmFixGo m s
  | .imuTransaction => Sys2Proof.Machine.execImuTransaction s
  | .imuRecord o l => Sys2Proof.Machine.execImuRecord o l s
  | .lnPushGo m v => Sys2Proof.Machine.execLnPushGo m v s
  | .templateRefresh t => Sys2Proof.Machine.execTemplateRefresh t s
  | .templateGapFrame t => Sys2Proof.Machine.execTemplateGapFrame t s
  | .laneEnable m n v => Sys2Proof.Machine.execLaneEnable m n v s
  | .laneDisable m n v => Sys2Proof.Machine.execLaneDisable m n v s
  | .lnFlush m k v => Sys2Proof.Machine.execLnFlush m k v s
  | .lnDelayWrite m n on v => Sys2Proof.Machine.execLnDelayWrite m n on v s
  | .leadMeasurement n => Sys2Proof.Machine.execLeadMeasurement n s
  | .gmRunSet m => Sys2Proof.Machine.execGmRunSet m s
  | .gmRunClear m => Sys2Proof.Machine.execGmRunClear m s
  | .fixLost => Sys2Proof.Machine.execFixLost s
  | .spatialStepDispatch => Sys2Proof.Machine.execSpatialStepDispatch s
  | .stepResults => Sys2Proof.Machine.execStepResults s
  | .tileIntake => Sys2Proof.Machine.execTileIntake s
  | .gmTcEvict m v => Sys2Proof.Machine.execGmTcEvict m v s
  | .tileWant => Sys2Proof.Machine.execTileWant s
  | .maskWriteBack tx ty => Sys2Proof.Machine.execMaskWriteBack tx ty s
  | .mapClear m => Sys2Proof.Machine.execMapClear m s
  | .mapMerge m => Sys2Proof.Machine.execMapMerge m s
  | .mapFlush m => Sys2Proof.Machine.execMapFlush m s
  | .mapAdopt m => Sys2Proof.Machine.execMapAdopt m s
  | .mapDone => Sys2Proof.Machine.execMapDone s
  | .fbEnable m c v => Sys2Proof.Machine.execFbEnable m c v s
  | .feedbackEdge c o ta tb tz => Sys2Proof.Machine.execFeedbackEdge c o ta tb tz s
  | .blankingEnd c a => Sys2Proof.Machine.execBlankingEnd c a s
  | .fbChannelStale c => Sys2Proof.Machine.execFbChannelStale c s
  | .fbFclr m c => Sys2Proof.Machine.execFbFclr m c s
  | .fbCclr m c => Sys2Proof.Machine.execFbCclr m c s
  | .fbCmpWrite m c cfg v => Sys2Proof.Machine.execFbCmpWrite m c cfg v s
  | .ssiTransactionStart c => Sys2Proof.Machine.execSsiTransactionStart c s
  | .ssiSample c w high trail => Sys2Proof.Machine.execSsiSample c w high trail s
  | .fwdCfgWrite m n v => Sys2Proof.Machine.execFwdCfgWrite m n v s
  | .valveCommandRise n => Sys2Proof.Machine.execValveCommandRise n s
  | .startGrant g => Sys2Proof.Machine.execStartGrant g s
  | .peakEnd n => Sys2Proof.Machine.execPeakEnd n s
  | .valveCommandFall n => Sys2Proof.Machine.execValveCommandFall n s
  | .decayEnd n => Sys2Proof.Machine.execDecayEnd n s
  | .valveObservation n o x => Sys2Proof.Machine.execValveObservation n o x s
  | .hsonTest n down up => Sys2Proof.Machine.execHsonTest n down up s
  | .hsoffWindow g => Sys2Proof.Machine.execHsoffWindow g s
  | .vgTwin m g => Sys2Proof.Machine.execVgTwin m g s
  | .testDone g levels => Sys2Proof.Machine.execTestDone g levels s
  | .hsTrip g o => Sys2Proof.Machine.execHsTrip g o s
  | .vsupLow g o mv => Sys2Proof.Machine.execVsupLow g o mv s
  | .vsupRestored g mv => Sys2Proof.Machine.execVsupRestored g mv s
  | .coilCooling n => Sys2Proof.Machine.execCoilCooling n s
  | .vgLclr m n => Sys2Proof.Machine.execVgLclr m n s
  | .vgSclr m n => Sys2Proof.Machine.execVgSclr m n s
  | .vgRlearn m n => Sys2Proof.Machine.execVgRlearn m n s
  | .vgCctrlCclr m n => Sys2Proof.Machine.execVgCctrlCclr m n s
  | .vgCtrlCclr m g => Sys2Proof.Machine.execVgCtrlCclr m g s
  | .vgHsClr m g => Sys2Proof.Machine.execVgHsClr m g s
  | .vgDieClr m d => Sys2Proof.Machine.execVgDieClr m d s
  | .vgChannelEnable m n v => Sys2Proof.Machine.execVgChannelEnable m n v s
  | .dieHot d tj => Sys2Proof.Machine.execDieHot d tj s
  | .dieShut d o tj => Sys2Proof.Machine.execDieShut d o tj s
  | .dieCool d tj => Sys2Proof.Machine.execDieCool d tj s
  | .groundOffsetTrip d o => Sys2Proof.Machine.execGroundOffsetTrip d o s
  | .regulationPeriodStart n => Sys2Proof.Machine.execRegulationPeriodStart n s
  | .sliceEnable m n v => Sys2Proof.Machine.execSliceEnable m n v s
  | .sliceReload n => Sys2Proof.Machine.execSliceReload n s
  | .vsDutyWrite m n v => Sys2Proof.Machine.execVsDutyWrite m n v s
  | .vsCommit m n => Sys2Proof.Machine.execVsCommit m n s
  | .vsCclr m n => Sys2Proof.Machine.execVsCclr m n s
  | .bpEnable m n v => Sys2Proof.Machine.execBpEnable m n v s
  | .bridgePeriodStart n => Sys2Proof.Machine.execBridgePeriodStart n s
  | .bpCommit m n => Sys2Proof.Machine.execBpCommit m n s
  | .bpCclr m n => Sys2Proof.Machine.execBpCclr m n s
  | .faultInputAssert n o => Sys2Proof.Machine.execFaultInputAssert n o s
  | .pgFltClr m v => Sys2Proof.Machine.execPgFltClr m v s
  | .faultInputDeassert n => Sys2Proof.Machine.execFaultInputDeassert n s
  | .lsSourceCommandChange n o => Sys2Proof.Machine.execLsSourceCommandChange n o s
  | .lsinChange n lvl => Sys2Proof.Machine.execLsinChange n lvl s
  | .lsTrip n o j => Sys2Proof.Machine.execLsTrip n o j s
  | .retryPauseEnd n => Sys2Proof.Machine.execRetryPauseEnd n s
  | .inrushWindowEnd n => Sys2Proof.Machine.execInrushWindowEnd n s
  | .thOff n o tj => Sys2Proof.Machine.execThOff n o tj s
  | .lsCoolDown n o tj => Sys2Proof.Machine.execLsCoolDown n o tj s
  | .uvOff g o mv => Sys2Proof.Machine.execUvOff g o mv s
  | .uvRestart g o mv => Sys2Proof.Machine.execUvRestart g o mv s
  | .hbLost => Sys2Proof.Machine.execHbLost s
  | .dieCold o => Sys2Proof.Machine.execDieCold o s
  | .lsOcclr m n => Sys2Proof.Machine.execLsOcclr m n s
  | .lsThclr m n => Sys2Proof.Machine.execLsThclr m n s
  | .lsCclr m n => Sys2Proof.Machine.execLsCclr m n s
  | .coldClr m => Sys2Proof.Machine.execColdClr m s
  | .hbClr m => Sys2Proof.Machine.execHbClr m s
  | .lsRetentionLoss => Sys2Proof.Machine.execLsRetentionLoss s
  | .pcConversionEnd n h l ovH ovL => Sys2Proof.Machine.execPcConversionEnd n h l ovH ovL s
  | .openWireTrip n o => Sys2Proof.Machine.execOpenWireTrip n o s
  | .openWireRelease n => Sys2Proof.Machine.execOpenWireRelease n s
  | .calSlotStart => Sys2Proof.Machine.execCalSlotStart s
  | .calTakeover => Sys2Proof.Machine.execCalTakeover s
  | .calDone ia ib dev coef testOk => Sys2Proof.Machine.execCalDone ia ib dev coef testOk s
  | .pcCalreq m n => Sys2Proof.Machine.execPcCalreq m n s
  | .pcTestreq m n => Sys2Proof.Machine.execPcTestreq m n s
  | .pcCclr m n => Sys2Proof.Machine.execPcCclr m n s
  | .initCalEnd cur => Sys2Proof.Machine.execInitCalEnd cur s
  | .gcResult n o samples => Sys2Proof.Machine.execGcResult n o samples s
  | .shuntOff n o => Sys2Proof.Machine.execShuntOff n o s
  | .shuntReconnect n inRange => Sys2Proof.Machine.execShuntReconnect n inRange s
  | .zcMeasurement z re im ovr => Sys2Proof.Machine.execZcMeasurement z re im ovr s
  | .aoValWrite m a v => Sys2Proof.Machine.execAoValWrite m a v s
  | .aoFault a o => Sys2Proof.Machine.execAoFault a o s
  | .loopEnable m n v => Sys2Proof.Machine.execLoopEnable m n v s
  | .loopSampleDispatch n => Sys2Proof.Machine.execLoopSampleDispatch n s
  | .loopSampleApply n => Sys2Proof.Machine.execLoopSampleApply n s
  | .lpBswap m n => Sys2Proof.Machine.execLpBswap m n s
  | .lpGswap m j v => Sys2Proof.Machine.execLpGswap m j v s
  | .lpFclr m n => Sys2Proof.Machine.execLpFclr m n s
  | .lpCclr m n => Sys2Proof.Machine.execLpCclr m n s
  | .tgStart t a => Sys2Proof.Machine.execTgStart t a s
  | .tgStop m t => Sys2Proof.Machine.execTgStop m t s
  | .dpEnable m p v => Sys2Proof.Machine.execDpEnable m p v s
  | .parcelBoundary p => Sys2Proof.Machine.execParcelBoundary p s
  | .modelStepDispatch => Sys2Proof.Machine.execModelStepDispatch s
  | .modelStepApply => Sys2Proof.Machine.execModelStepApply s
  | .parcelDischarge p => Sys2Proof.Machine.execParcelDischarge p s
  | .fillDone p => Sys2Proof.Machine.execFillDone p s
  | .dpFull m p => Sys2Proof.Machine.execDpFull m p s
  | .dpUnload m p => Sys2Proof.Machine.execDpUnload m p s
  | .dpBclr m p => Sys2Proof.Machine.execDpBclr m p s
  | .dpCclr m p => Sys2Proof.Machine.execDpCclr m p s
  | .zoneLost p z => Sys2Proof.Machine.execZoneLost p z s
  | .lockout p => Sys2Proof.Machine.execLockout p s
  | .seStale n => Sys2Proof.Machine.execSeStale n s
  | .binEvaluation => Sys2Proof.Machine.execBinEvaluation s
  | .canEnable m c v => Sys2Proof.Machine.execCanEnable m c v s
  | .canDisable m c v => Sys2Proof.Machine.execCanDisable m c v s
  | .integrationEnd c => Sys2Proof.Machine.execIntegrationEnd c s
  | .canFrameReceived c o f => Sys2Proof.Machine.execCanFrameReceived c o f s
  | .canTxOffer c => Sys2Proof.Machine.execCanTxOffer c s
  | .txDone c o delay => Sys2Proof.Machine.execTxDone c o delay s
  | .canProtocolError c o code data coll mv => Sys2Proof.Machine.execCanProtocolError c o code data coll mv s
  | .buson c o => Sys2Proof.Machine.execBuson c o s
  | .txdTo c o => Sys2Proof.Machine.execTxdTo c o s
  | .canFlusha m c => Sys2Proof.Machine.execCanFlusha m c s
  | .canFlushb m c => Sys2Proof.Machine.execCanFlushb m c s
  | .canCclr m c => Sys2Proof.Machine.execCanCclr m c s
  | .sbEntryDue b e => Sys2Proof.Machine.execSbEntryDue b e s
  | .sbTrig m b hi v => Sys2Proof.Machine.execSbTrig m b hi v s
  | .sbTransactionStart b => Sys2Proof.Machine.execSbTransactionStart b s
  | .sbResponseEnd b o delay bad d => Sys2Proof.Machine.execSbResponseEnd b o delay bad d s
  | .sbTimeout b => Sys2Proof.Machine.execSbTimeout b s
  | .stray b => Sys2Proof.Machine.execStray b s
  | .sbCclr m b => Sys2Proof.Machine.execSbCclr m b s
  | .sbRequestEnd b => Sys2Proof.Machine.execSbRequestEnd b s
  | .qEnable m q v => Sys2Proof.Machine.execQEnable m q v s
  | .qTailWrite m q v => Sys2Proof.Machine.execQTailWrite m q v s
  | .qHeadWrite m q v => Sys2Proof.Machine.execQHeadWrite m q v s
  | .qFlush m q => Sys2Proof.Machine.execQFlush m q s
  | .qCclr m q => Sys2Proof.Machine.execQCclr m q s
  | .cmdWrites n => Sys2Proof.Machine.execCmdWrites n s
  | .cmdReplay n => Sys2Proof.Machine.execCmdReplay n s
  | .zhaRead f => Sys2Proof.Machine.execZhaRead f s
  | .zhaWrite f => Sys2Proof.Machine.execZhaWrite f s
  | .zhaWriteList f => Sys2Proof.Machine.execZhaWriteList f s
  | .zhaCmdq f => Sys2Proof.Machine.execZhaCmdq f s
  | .zhaStreamAck f => Sys2Proof.Machine.execZhaStreamAck f s
  | .zhaPing f => Sys2Proof.Machine.execZhaPing f s
  | .streamFrameSend n => Sys2Proof.Machine.execStreamFrameSend n s
  | .streamResend n => Sys2Proof.Machine.execStreamResend n s
  | .arpRequest p ip => Sys2Proof.Machine.execArpRequest p ip s
  | .icmpEcho p data => Sys2Proof.Machine.execIcmpEcho p data s
  | .hlLink p up sqi => Sys2Proof.Machine.execHlLink p up sqi s
  | .spiWrite l => Sys2Proof.Machine.execSpiWrite l s
  | .spiRead l made => Sys2Proof.Machine.execSpiRead l made s
  | .spiStatus => Sys2Proof.Machine.execSpiStatus s
  | .spiErr c => Sys2Proof.Machine.execSpiErr c s
  | .zhaFrameDrop d => Sys2Proof.Machine.execZhaFrameDrop d s
  | .arpReply p ip => Sys2Proof.Machine.execArpReply p ip s
  | .arpEntryExpiry n => Sys2Proof.Machine.execArpEntryExpiry n s
  | .hcRunStart m n v => Sys2Proof.Machine.execHcRunStart m n v s
  | .hcReloadDone n => Sys2Proof.Machine.execHcReloadDone n s
  | .hcRunHalt m n => Sys2Proof.Machine.execHcRunHalt m n s
  | .hcTrap n pc cause tval => Sys2Proof.Machine.execHcTrap n pc cause tval s
  | .hcWdt n => Sys2Proof.Machine.execHcWdt n s
  | .hcKick m n => Sys2Proof.Machine.execHcKick m n s
  | .hcTimerInterrupt n => Sys2Proof.Machine.execHcTimerInterrupt n s
  | .hcDebug n x => Sys2Proof.Machine.execHcDebug n x s
  | .powerOnReset => Sys2Proof.Machine.execPowerOnReset s
  | .pinReset => Sys2Proof.Machine.execPinReset s
  | .modReset m => Sys2Proof.Machine.execModReset m s
  | .modResetRecord m => Sys2Proof.Machine.execModResetRecord m s
  | .modResetReplay m => Sys2Proof.Machine.execModResetReplay m s
  | .pllLock mv => Sys2Proof.Machine.execPllLock mv s
  | .mramReady => Sys2Proof.Machine.execMramReady s
  | .bootDone a b => Sys2Proof.Machine.execBootDone a b s
  | .helperCoreAutostart => Sys2Proof.Machine.execHelperCoreAutostart s
  | .release m => Sys2Proof.Machine.execRelease m s
  | .clkFault o => Sys2Proof.Machine.execClkFault o s
  | .xtalDrift ppm => Sys2Proof.Machine.execXtalDrift ppm s
  | .tickFault => Sys2Proof.Machine.execTickFault s
  | .vbatLLow mv => Sys2Proof.Machine.execVbatLLow mv s
  | .railFault => Sys2Proof.Machine.execRailFault s
  | .tempMain tj => Sys2Proof.Machine.execTempMain tj s
  | .heartbeatLostDie d => Sys2Proof.Machine.execHeartbeatLostDie d s
  | .heartbeatResetRequest => Sys2Proof.Machine.execHeartbeatResetRequest s
  | .supHbclr m => Sys2Proof.Machine.execSupHbclr m s
  | .mmWrite m v => Sys2Proof.Machine.execMmWrite m v s
  | .mmVerify m v => Sys2Proof.Machine.execMmVerify m v s
  | .mmInvalidate m v => Sys2Proof.Machine.execMmInvalidate m v s
  | .mmCommandDone b => Sys2Proof.Machine.execMmCommandDone b s
  | .dbgHaltPin low => Sys2Proof.Machine.execDbgHaltPin low s
  | .dgHalt m => Sys2Proof.Machine.execDgHalt m s
  | .dgResume m => Sys2Proof.Machine.execDgResume m s
  | .dgMrst m => Sys2Proof.Machine.execDgMrst m s
  | .extest => Sys2Proof.Machine.execExtest s
  | .nresetRelease => Sys2Proof.Machine.execNresetRelease s
  | .vbatLRestored mv => Sys2Proof.Machine.execVbatLRestored mv s
  | .rpRecHeadWrite m v => Sys2Proof.Machine.execRpRecHeadWrite m v s
  | .replayStartCheck n => Sys2Proof.Machine.execReplayStartCheck n s
  | .replayGo m => Sys2Proof.Machine.execReplayGo m s
  | .replayRecordMerge => Sys2Proof.Machine.execReplayRecordMerge s
  | .replayEnd => Sys2Proof.Machine.execReplayEnd s

end Sys2Proof.Machine
end

