-- ==== Sys2Proof/Safety.lean ====
section
/-!
DEFINITION. Sys2Proof/Safety.lean: what counts as a safe run of the module, in the terms its statements use: the state a
command meets, when a master's write is served, what a command leaves as it was, and the canonical form of State.
-/

namespace Sys2Proof.Machine

/-- The module goes on: the outcome of a step is a next state. -/
def Goes (o : Host.Outcome State Fault Refusal) : Prop := ∃ t, o = .next t

namespace State

/-- The run has not left the promise since the last reset (R33, R439). -/
def promised (s : State) : Prop := s.flag MOD_FAULT_PROMISE 0 = false

/-- The outputs stand in the dust sheet (R433). -/
def dusty (s : State) : Prop := s.flag MOD_STAT_DUST 0 = true

/-- The state that a command of the coming tick meets: the present tick has ended, and what the last command answered is
forgotten. -/
def met (s : State) : State := s.begin'.closeTick

/-- The state in which an access of a master is checked: DBG's first access has attached it (R455). -/
def metBy (m : Nat) (s : State) : State := attach m s.begin'

/-- The page and the offset at which an instance of a register is written. -/
def wrPage (r : Reg) (i : Nat) : Nat := regAddr r i / 4096
def wrOff (r : Reg) (i : Nat) : Nat := regAddr r i % 1024

/-- A write that is let through has been taken: a key it needs is used up (R55). -/
def taken (m : Nat) (r : Reg) (i : Nat) (s : State) : State :=
  (when (r.info.acc == .kw) (useKey (wrPage r i)) (s.metBy m)).spend

/-- The state in which a write that completes now has its effect, in phase 1 of the next tick: the present tick has
ended, and the writes that completed before it have been applied (R13). -/
def meets (m : Nat) (r : Reg) (i : Nat) (s : State) : State := (s.taken m r i).settled

/-- The access of such a write, at its clock. -/
def accOf (m : Nat) (s : State) : Access := { Access.of m with t := s.nowClk }

/-- A 32-bit write of master `m` to an instance of a register passes every check that is made as it completes: the
master is there and not frozen (R66, R415), accesses are served (R424, R428), the tables give the right (R61, R63, R65),
the page is open to masters in a replay (R448), and a KW register's guard is open to the master (R55, R58). -/
def mayAccess (s : State) (m : Nat) (r : Reg) (i : Nat) : Bool :=
  let u := s.metBy m
  u.canAccess m && !(decide (m < 7) && u.frozen m) && u.served && (!u.failsafe || failsafePage (wrPage r i)) &&
  (u.pageWriteKind (Access.of m) (wrPage r i) (wrOff r i)).isNone &&
  !(u.inReplay && recordedPage (wrPage r i) && !isSnap (regAddr r i)) &&
  !(r.info.acc == .kw && (u.guardKind m (wrPage r i)).isSome)

/-- A state takes writes of a register: no reset of the module nor of its page's domain is under way (R47, R431). -/
def takes (u : State) (r : Reg) (i : Nat) : Bool :=
  u.served && !(u.flag PAGE_STAT_DRST_BUSY (wrPage r i) && decide (0x40 ≤ wrOff r i))

/-- Such a write passes every check before the register's own: also in the state it meets. -/
def mayWrite (s : State) (m : Nat) (r : Reg) (i : Nat) : Bool := s.mayAccess m r i && (s.meets m r i).takes r i

/-- The registers outside a list read as before. -/
def regsOnly (l : List (Reg × Nat)) (u t : State) : Prop := ∀ r i, (r, i) ∉ l → t.get r i = u.get r i

/-- The registers outside a list read as before, and so does every byte of memory. -/
def only (l : List (Reg × Nat)) (u t : State) : Prop := regsOnly l u t ∧ ∀ a, t.rdByte a = u.rdByte a

/-- The registers outside a list read as before, and so does every byte of memory that `p` does not mark. -/
def onlyBut (l : List (Reg × Nat)) (p : Nat → Bool) (u t : State) : Prop :=
  regsOnly l u t ∧ ∀ a, p a = false → t.rdByte a = u.rdByte a

/-- One instance of some registers, and their first `n` instances. -/
def ofInst (rs : List Reg) (i : Nat) : List (Reg × Nat) := rs.map fun r => (r, i)
def ofAll (rs : List Reg) (n : Nat) : List (Reg × Nat) := rs.flatMap fun r => (List.range n).map fun i => (r, i)

/-- The value that a write of `v` through the base view gives a register, before its block's own rules (R48). -/
def merged (u : State) (m : Nat) (r : Reg) (i : Nat) (v : Word) : Word :=
  ((if r.info.acc = .kw then u.get r i else u.view m r i) &&& ~~~ r.info.wmask) ||| (v &&& r.info.wmask)

/-- The EVT registers that an event stands in. -/
def evtRegs (e : Nat) : List (Reg × Nat) := [(.EVT_PEND, (evtHome e).1), (.EVT_RAW, (evtHome e).1)]

/-- The guard register that an accepted write of a KW register may change: in KEY mode the key is used up (R55). -/
def keyReg (r : Reg) (i : Nat) : List (Reg × Nat) := if r.info.acc = .kw then [(.GUARD_STAT, wrPage r i)] else []

/-- What an element written to or taken from a queue may change beside HEAD and TAIL: its status, its count and its causes
with their events. -/
def qRegs (q : Nat) : List (Reg × Nat) :=
  [(.Q_HEAD, q), (.Q_TAIL, q), (.Q_STAT, q), (.Q_CNT, q), (.Q_EVT0, q / 12), (.Q_EVT1, q / 12)] ++
    evtRegs (228 + 4 * (q / 12))

/-- What happens to the channels of a valve group when its high side turns on or off (R217, R233). -/
def groupRegs (g : Nat) : List (Reg × Nat) :=
  (chans g).flatMap (ofInst [.VG_CSTAT, .VG_CCNT, .VG_CI, .VG_CDON]) ++
    ofInst [.VG_STAT, .VG_EVT, .VG_GCNT, .VG_DLAST] g ++ evtRegs (104 + g)

/-- A queue that is enabled and not full, the address its next element is stored at, and the bytes of that slot (R392). -/
def roomy (u : State) (q : Nat) : Bool := u.flag Q_GEOM_EN q && decide (u.qFill q < u.qN q)
def qNext (u : State) (q : Nat) : Nat := u.qSlot q (u.qTail q)
def inSlot (u : State) (q a : Nat) : Bool := decide (u.qNext q ≤ a) && decide (a < u.qNext q + qSize q)

/-- The queue has taken one element, whose bytes begin with `l`. -/
abbrev took (q : Nat) (l : List Byte) (u t : State) : Prop :=
  t.qTail q = (u.qTail q + 1) % 65536 ∧ t.rdBytes (u.qNext q) l.length = l

/-- The estimate of a lane's on-delay or off-delay, in eighths of a µs, and the count of its rejections (R119). -/
def leadE (u : State) (n : Nat) (on : Bool) : Nat := if on then (u.lane n).e8On else (u.lane n).e8Off
def leadR (u : State) (n : Nat) (on : Bool) : Nat := if on then (u.lane n).rejOn else (u.lane n).rejOff

/-- An event is pending. -/
def pends (s : State) (e : Nat) : Bool := s.rbit .EVT_PEND (evtHome e).1 (evtHome e).2

end State

/-- What an accepted write command answers and leaves at once: its one answer is good, and until the next tick nothing a
master can read has changed but the key that a KW write uses up (R13, R55). -/
def Written (m : Nat) (r : Reg) (i : Nat) (s t : State) : Prop :=
  t.resp = [.ok 0#32] ∧ State.only (State.keyReg r i) (s.metBy m) t

/-- A write command completes: from every state in which the master's write passes the checks before the register's own
and `ok` holds of the state it meets in phase 1 of the next tick, it is answered without error; and as it is applied
there, it changes no register outside the list and no memory, and `eff` relates the state it meets and the state it
leaves. -/
def Serves (c : Instr) (m : Nat) (r : Reg) (i : Nat) (ok : State → Prop) (l : List (Reg × Nat))
    (eff : State → State → Prop) : Prop :=
  ∀ s : State, s.mayWrite m r i = true → ok (s.meets m r i) →
    ∃ t, exec c s = .next t ∧ Written m r i s t ∧ State.only l (s.meets m r i) t.settled ∧ eff (s.meets m r i) t.settled

/-- The same of a write that acts as it completes: the protection tables, the release of masters, the clearing of a page's
record (R56, R63, R68). -/
def ServesNow (c : Instr) (m : Nat) (r : Reg) (i : Nat) (ok : State → Prop) (l : List (Reg × Nat))
    (eff : State → State → Prop) : Prop :=
  ∀ s : State, s.mayAccess m r i = true → (s.metBy m).takes r i = true → ok (s.metBy m) →
    ∃ t, exec c s = .next t ∧ t.resp = [.ok 0#32] ∧ State.only l (s.metBy m) t ∧ eff (s.metBy m) t

/-- A write command that its block refuses: from every state in which the write of a master that is no helper core
passes the checks before the register's own and `ok` holds of the state it would meet, it gets an error response and
nothing comes of it, now or later. -/
def Refuses (c : Instr) (m : Nat) (r : Reg) (i : Nat) (ok : State → Prop) : Prop :=
  ∀ s : State, 2 ≤ m → s.mayWrite m r i = true → ok (s.meets m r i) →
    ∃ t, exec c s = .next t ∧ t.resp = [.error] ∧ t.writes = s.writes ∧ State.only [] (s.metBy m) t

/-- An event of the coming tick completes: it answers nothing, changes no register outside the list and no memory, and
`eff` relates the state it meets and the state it leaves. -/
def Arrives (c : Instr) (ok : State → Prop) (l : List (Reg × Nat)) (eff : State → State → Prop) : Prop :=
  ∀ s : State, ok s.met → ∃ t, exec c s = .next t ∧ t.resp = [] ∧ State.only l s.met t ∧ eff s.met t

/-- A work of the present tick completes, likewise. -/
def Acts (c : Instr) (ok : State → Prop) (l : List (Reg × Nat)) (eff : State → State → Prop) : Prop :=
  ∀ s : State, ok s.begin' → ∃ t, exec c s = .next t ∧ t.resp = [] ∧ State.only l s.begin' t ∧ eff s.begin' t

/-- The same of a write, an event and a work that store to memory: every byte that `p` does not mark in the state they
meet reads as before. -/
def ServesTo (c : Instr) (m : Nat) (r : Reg) (i : Nat) (ok : State → Prop) (l : List (Reg × Nat)) (p : State → Nat → Bool)
    (eff : State → State → Prop) : Prop :=
  ∀ s : State, s.mayWrite m r i = true → ok (s.meets m r i) →
    ∃ t, exec c s = .next t ∧ Written m r i s t ∧
      State.onlyBut l (p (s.meets m r i)) (s.meets m r i) t.settled ∧ eff (s.meets m r i) t.settled

def ArrivesTo (c : Instr) (ok : State → Prop) (l : List (Reg × Nat)) (p : State → Nat → Bool)
    (eff : State → State → Prop) : Prop :=
  ∀ s : State, ok s.met → ∃ t, exec c s = .next t ∧ t.resp = [] ∧ State.onlyBut l (p s.met) s.met t ∧ eff s.met t

def ActsTo (c : Instr) (ok : State → Prop) (l : List (Reg × Nat)) (p : State → Nat → Bool)
    (eff : State → State → Prop) : Prop :=
  ∀ s : State, ok s.begin' → ∃ t, exec c s = .next t ∧ t.resp = [] ∧ State.onlyBut l (p s.begin') s.begin' t ∧ eff s.begin' t

/-- The canonical form of memory: addresses rise, and no entry equals what an unlisted address reads as. -/
abbrev Memory.wf (m : SMap Byte) : Prop := SMap.wf (fun _ => unlistedByte) m = true

end Sys2Proof.Machine
end

