-- ==== Sys2Proof/Certificates/Slice0/Obligations.lean ====
section
/-!
DEFINITION. Sys2Proof/Certificates/Slice0/Obligations.lean: what is claimed of the model, from the numbered rules of the
specification. `Serves`, `Arrives` and `Acts` (Sys2Proof/Safety.lean) each conclude that exec answers a next state.
-/

open Sys2Proof Sys2Proof.Machine Sys2Proof.Machine.State

/-- Every step carries out the command at the front of the queue on the state with the queue's rest (model choices:
log 1). What rests on log 1 is the model's choice. (R13, R48) -/
def Obligations.StepTakesFront : Prop :=
  (∀ (c : Instr) (r : List Instr) (s : State), s.pending = c :: r → step s = exec c { s with pending := r }) ∧
  (∀ s : State, s.pending = [] → step s = .next s)

/-- Every step takes exactly the front command and goes on; every step keeps memory canonical and leaves the one-time
image key (model choices: log 1). The key is one-time memory (R426). What rests on log 1 is the model's choice. (R13,
R426) -/
def Obligations.QueueDrainsInOrder : Prop :=
  (∀ (c : Instr) (r : List Instr) (s : State), s.pending = c :: r →
    ∃ t, step s = .next t ∧ t.pending = r ∧ t.imgKey = s.imgKey) ∧
  (∀ s t : State, step s = .next t → Memory.wf s.mem → Memory.wf t.mem)

/-- Writes, alias writes, snapshots and domain resets of a page act as their rules say (model choices: logs 98 and
129). What rests on logs 98 and 129 is the model's choice. (R47, R48, R49, R53, R54, R101, R133, R181, R210, R309,
R361, R418) -/
def Obligations.PageCommands : Prop :=
  (∀ (m : Fin 8) (p : Fin 256) (v : DWord), Serves (.registerWrite m 4 (BitVec.ofNat 32 (regAddr .EVT_MASK p)) v) m
    .EVT_MASK p (fun _ => (blockOf p.val).isSome = true)
    [(.EVT_MASK, p.val)] fun _ t =>
      t.get .EVT_MASK p = v.setWidth 32 &&& evtBits p) ∧
  (∀ (m : Fin 8) (p : Fin 256) (v : Word), Serves (.aliasWrite m 0 p 5 v) m .EVT_MASK p (fun _ => (blockOf
    p.val).isSome = true)
    [(.EVT_MASK, p.val)] fun u t =>
      t.get .EVT_MASK p = (u.get .EVT_MASK p ||| v) &&& evtBits p) ∧
  (∀ (m : Fin 8) (p : Fin 256) (v : Word), Serves (.aliasWrite m 1 p 5 v) m .EVT_MASK p (fun _ => (blockOf
    p.val).isSome = true)
    [(.EVT_MASK, p.val)] fun u t =>
      t.get .EVT_MASK p = u.get .EVT_MASK p &&& ~~~ v &&& evtBits p) ∧
  (∀ (m : Fin 8) (p : Fin 256) (v : Word), Serves (.aliasWrite m 2 p 5 v) m .EVT_MASK p (fun _ => (blockOf
    p.val).isSome = true)
    [(.EVT_MASK, p.val)] fun u t =>
      t.get .EVT_MASK p = (u.get .EVT_MASK p ^^^ v) &&& evtBits p) ∧
  (∀ (m : Fin 8) (p : Fin 256), Serves (.snapTake m p) m .SNAP p (fun _ => (blockOf p.val).isSome = true)
    [] fun u t =>
      t.snapDue = (if p.val ∈ u.snapDue then u.snapDue else u.snapDue ++ [p.val])) ∧
  (∀ (m : Fin 8) (p : Fin 256) (s : State), let u := s.meets m .DOMAIN_RST p
    s.mayWrite m .DOMAIN_RST p = true → (blockOf p.val).isSome = true → u.domainErr p = false →
    ∃ w t, exec (.domainReset m p) s = .next w ∧ w.resp = [.ok 0#32] ∧ t = w.settled ∧
      ∀ q ∈ domainOf p, t.flag PAGE_STAT_DRST_BUSY q = true) ∧
  (∀ (m : Fin 8) (p : Fin 256) (s : State), let u := s.meets m .DOMAIN_RST p
    s.mayWrite m .DOMAIN_RST p = true → 0x60 ≤ p.val → p.val ≤ 0x6B → u.recording = false →
      (∀ e ∈ u.img, regPage (Reg.ofKey e.1).1 (Reg.ofKey e.1).2 ≠ p) →
    ∃ w t, exec (.domainReset m p) s = .next w ∧ w.resp = [.ok 0#32] ∧ t = w.settled ∧
      (∀ r i, regPage r i = p.val → inHeader r = false → t.get r i = r.resetAt i) ∧
      t.get .EVT_PEND p = 0#32 ∧ t.get .PAGE_STAT p = putBits (u.get .PAGE_STAT p) 0 0 1 ∧
      (∀ r i, (regPage r i ≠ p.val ∨ inHeader r = true) →
        (r, i) ∉ ofInst [.EVT_PEND, .EVT_RAW, .PAGE_STAT, .GUARD_STAT] p → t.get r i = u.get r i) ∧
      ∀ a, t.rdByte a = u.rdByte a) ∧
  (∀ (p : Fin 256), Acts (.domainResetDone p) (fun _ => (blockOf p.val).isSome = true)
    (((domainOf p).map fun q => (.PAGE_STAT, q)) ++ (if 0x60 ≤ p.val ∧
      p.val ≤ 0x67 then [(.CAN_STAT, p.val - 0x60)] else [])) fun u t =>
      (domainOf p).all (fun q => !t.flag PAGE_STAT_DRST_BUSY q) ∧ (0x60 ≤ p.val → p.val ≤ 0x67 →
        u.flag PAGE_STAT_DRST_BUSY p = true → t.fld CAN_STAT_STATE (p - 0x60) = 1)) ∧
  (∀ (m : Fin 8) (p : Fin 256) (b : Block) (base : Nat) (s : State), let u := s.meets m .DOMAIN_RST p
    s.mayWrite m .DOMAIN_RST p = true → blockOf p.val = some (b, base) → u.domainErr p = false →
    ∃ w t, exec (.domainReset m p) s = .next w ∧ w.resp = [.ok 0#32] ∧ t = w.settled ∧
      t = each (domainOf p) (fun q s => s.setFlag PAGE_STAT_DRST_BUSY q true) (State.blockReset b base p
        (State.recEnd u)) ∧
      t.recording = false) ∧
  (∀ (p : Fin 256) (b : Block) (base : Nat) (s : State), blockOf p.val = some (b, base) →
    b ∈ [Block.PR, .ER, .AX, .GM, .FB, .FW, .VS, .BP, .GC, .LP, .DP, .MS, .CN, .SB, .RP, .DG] → 
    let t := State.blockReset b base p s
    ∀ r i, regPage r i ∈ domainOf p → inHeader r = false → domainKeeps r = false → t.get r i = s.resetVal r i ∧
      (∀ q ∈ domainOf p, t.get .GUARD_STAT q = s.get .GUARD_STAT q ∧ t.get .EVT_MASK q = s.get .EVT_MASK q ∧
        t.get .EVT_PEND q = 0#32)) ∧
  (∀ (p : Fin 256) (i : Fin 32) (n : Fin 768) (s : State), 
    let t := State.blockReset .AX 4 p s
    t.ax i = {} ∧ (s.lnEn n = true → s.axEn (s.lnAx n) = true → s.gmRun = false → (t.lane n).fill = 0)) ∧
  (∀ (p : Fin 256) (n : Fin 768) (k : Fin 24) (s : State), 
    let t := State.blockReset .LN 8 p s
    t.lane n = {} ∧ t.lnDemand (152 + k) = s.lnDemand (152 + k) ∧ ∀ r i, regPage r i ∈ domainOf p →
      inHeader r = false → domainKeeps r = false → r ≠ .LN_CMD → t.get r i = s.resetVal r i) ∧
  (∀ (p : Fin 256) (s : State), 
    let t := State.blockReset .GM 16 p s
    t.geo = {} ∧ t.stiles = [] ∧ t.mtiles = [] ∧ t.apps = [] ∧ t.opens = []) ∧
  (∀ (p : Fin 256) (c : Fin 24) (s : State), 
    let t := State.blockReset .FB 20 p s
    t.fbc c = (if c.val / 3 = p.val - 20 then {} else s.fbc c)) ∧
  (∀ (p : Fin 256) (n : Fin 8) (s : State), 
    let t := State.blockReset .FW 28 p s
    t.fwd n = {}) ∧
  (∀ (g : Fin 16) (s : State), 
    let t := State.blockReset .VG 32 (32 + g) s
    t.flag VG_STAT_HS_ON g = false ∧ (∀ j : Fin 8, t.vPhase (8 * g + j) = 0 ∧
      t.flag VG_CSTAT_STUCK (8 * g + j) = false)) ∧
  (∀ (p : Fin 256) (n : Fin 128) (s : State), 
    let t := State.blockReset .VS 0x30 p s
    (t.slice n).cmd = false ∧ (t.slice n).out = false) ∧
  (∀ (p : Fin 256) (s : State), 
    let t := State.blockReset .LS 0x3C p s
    ∀ r i, r ∉ [Reg.LS_CNT, .LS_TLAST_LO, .LS_TLAST_HI, .LS_EVT, .LS_EVT_MASK, .LS_SENSE_CFG, .EVT_PEND, .EVT_RAW] →
      t.get r i = s.get r i ∧ (∀ n : Fin 24, t.get .LS_CNT n = Reg.LS_CNT.resetAt n ∧
        t.get .LS_EVT_MASK n = Reg.LS_EVT_MASK.resetAt n)) ∧
  (∀ (p : Fin 256) (s : State), blockOf p.val = some (Block.PC, 0x40) → 
    let t := State.blockReset .PC 0x40 p s
    ∀ r i, regPage r i ∈ domainOf p → inHeader r = false → domainKeeps r = false → r ≠ .PC_ROT_STAT →
      t.get r i = s.resetVal r i ∧ t.flag PC_ROT_STAT_HALT 0 = false ∧
        t.rot.queue = (if s.flag PC_ROT_STAT_HALT 0 then [(s.fld PC_ROT_STAT_FAILMOD 0, false)] else []) ∧
          t.rot.next = 0) ∧
  (∀ (p : Fin 256) (s : State), blockOf p.val = some (Block.ZC, 0x4C) → 
    let t := State.blockReset .ZC 0x4C p s
    ∀ r i, regPage r i ∈ domainOf p → inHeader r = false → domainKeeps r = false → r ≠ .AO_STAT →
      t.get r i = s.resetVal r i ∧ t.zcs = [] ∧ t.aos = []) ∧
  (∀ (p : Fin 256) (s : State), 
    let t := State.blockReset .LP 0x50 p s
    t.lps = [] ∧ t.grps = [] ∧ t.tgs = []) ∧
  (∀ (d : Fin 4) (s : State), 
    let t := State.blockReset .DP 0x58 (0x58 + d) s
    t.dp d = {} ∧ (∀ j : Fin 4, j ≠ d → t.dp j = s.dp j)) ∧
  (∀ (p : Fin 256) (s : State), blockOf p.val = some (Block.QE, 0x6C) → 
    let t := State.blockReset .QE 0x6C p s
    ∀ r i, regPage r i ∈ domainOf p → inHeader r = false → domainKeeps r = false → r ≠ .Q_STAT →
      t.get r i = s.resetVal r i ∧ t.qseq = [] ∧ t.streamOut = []) ∧
  (∀ (p : Fin 256) (s : State), blockOf p.val = some (Block.HL, 0x70) → 
    let t := State.blockReset .HL 0x70 p s
    ∀ r i, regPage r i ∈ domainOf p → inHeader r = false → domainKeeps r = false → r ≠ .HL_SSTAT →
      t.get r i = s.resetVal r i ∧ t.ports = [] ∧
        (∀ i : Fin 4, SMap.get {} t.sess i = ({ key := (SMap.get {} s.sess i).key } : Session))) ∧
  (∀ (i : Fin 2) (s : State), 
    let t := State.blockReset .HC 0x72 (0x72 + i) s
    (s.frozen i = true → t.hcState i = 5) ∧ (s.frozen i = false → t.flag HC_CFG_AUTOSTART i = true →
      (s.hc i).image = true → t.hcState i = 1) ∧ (s.frozen i = false →
        t.flag HC_CFG_AUTOSTART i = false ∨ (s.hc i).image = false →
          t.fld HC_STAT_STATE i = bitsOf (s.resetVal .HC_STAT i) HC_STAT_STATE.hi HC_STAT_STATE.lo)) ∧
  (∀ (p : Fin 128) (s : State), 
    let t := State.snapPage p s
    t.fld PAGE_STAT_SNAP_CNT p = (s.fld PAGE_STAT_SNAP_CNT p + 1) % 256 ∧ (∀ r i, r.info.acc = .sn →
      regPage r i = p.val → SMap.get (r.resetAt i) t.held (r.key i) = (State.snapSources p s).get r i)) ∧
  (∀ (s : State), 
    let t := State.snapAll s
    t.snapDue = [] ∧ (∀ p : Fin 128, t.fld PAGE_STAT_SNAP_CNT p = (s.fld PAGE_STAT_SNAP_CNT p + (if p.val ∈ s.snapDue
      ∨ (0 ∈ s.snapDue ∧ (blockOf p.val).isSome = true) then 1 else 0)) % 256))

/-- A 32-bit read of EVT_PEND returns the pending events and clears them, except for DBG. (R48, R52) -/
def Obligations.ReadsClearPending : Prop :=
  (∀ (m : Fin 7) (p : Fin 256) (s : State), let u := s.begin'
    u.canAccess m = true → u.frozen m = false → u.served = true → (blockOf p.val).isSome = true →
    (u.failsafe = true → failsafePage p = true) → 1 ≤ u.pageRight m p →
    ∃ t, exec (.registerReadRc m.castSucc 4 (BitVec.ofNat 32 (4096 * p + 0x0C))) s = .next t ∧
      t.resp = [.ok (u.get .EVT_PEND p)] ∧ t.get .EVT_PEND p = 0#32 ∧ State.only [(.EVT_PEND, p.val)] u t) ∧
  (∀ (p : Fin 256) (s : State), let u := s.begin'
    u.served = true → (blockOf p.val).isSome = true → (u.failsafe = true → failsafePage p = true) →
      1 ≤ u.pageRight 7 p →
    u.flag DG_STAT_ATTACHED 0 = true →
    ∃ t, exec (.registerReadRc 7 4 (BitVec.ofNat 32 (4096 * p + 0x0C))) s = .next t ∧
      t.resp = [.ok (u.get .EVT_PEND p)] ∧ State.only [] u t)

/-- A 32-bit write to writable memory stores its four bytes, low byte first, and nothing else; an uncorrectable read
is answered with an error and counted. (R40, R41, R62, R453) -/
def Obligations.MemoryWrites : Prop :=
  (∀ (m : Fin 8) (a v : Word) (s : State), let u := s.metBy m
    u.canAccess m = true → (m.val < 7 → u.frozen m = false) → u.served = true → u.failsafe = false →
    a.toNat % 4 = 0 → memWritable a.toNat = true → 2 ≤ u.memRight m a.toNat →
    ∃ t, exec (.registerWrite m 4 a (v.setWidth 64)) s = .next t ∧ t.resp = [.ok 0#32] ∧ State.regsOnly [] u t ∧
      (∀ k : Fin 4, t.rdByte (a.toNat + k) = v.extractLsb' (8 * k) 8) ∧
      ∀ b, (b < a.toNat ∨ a.toNat + 4 ≤ b) → t.rdByte b = u.rdByte b) ∧
  (∀ (m : Fin 7) (a : Word) (s : State), let u := s.begin'
    2 ≤ m.val → u.frozen m = false → u.served = true → u.failsafe = false → a.toNat % 4 = 0 → inMram a.toNat = true →
    1 ≤ u.memRight m a.toNat →
    ∃ t, exec (.mramFault (.access m.castSucc a)) s = .next t ∧ t.resp = [.error] ∧
      t.fld MM_ECC_UNCORR 0 = min (u.fld MM_ECC_UNCORR 0 + 1) 65535 ∧ t.pends 13 = true ∧
      State.only ([(.MM_ECC, 0)] ++ evtRegs 13) u t) ∧
  (∀ (x : Fin 65536) (y : Fin 65536), Acts (.mramFault (.tile x y)) (fun _ => True)
    ([(.MM_ECC, 0)] ++ evtRegs 13) fun u t =>
      t.fld MM_ECC_UNCORR 0 = min (u.fld MM_ECC_UNCORR 0 + 1) 65535 ∧ t.pends 13 = true ∧
        65536 * y.val + x.val ∈ t.mm.bad)

/-- Keys open and lock pages; the owner releases masters, clears violation records and edits the protection tables.
(R55, R56, R58, R63, R64, R68, R71) -/
def Obligations.GuardCommands : Prop :=
  (∀ (m : Fin 8) (p : Fin 256) (s : State), s.mayAccess m .GUARD_KEY p = true → (blockOf p.val).isSome = true →
    (s.metBy m).flag GUARD_STAT_MODE p = false →
    ((s.metBy m).flag GUARD_STAT_OPEN p = false ∨ (s.metBy m).fld GUARD_STAT_OPEN_MASTER p = m) →
    ∃ t, exec (.guardKeyWrite m p (BitVec.ofNat 32 (0x5EA10000 + p))) s = .next t ∧ t.resp = [.ok 0#32] ∧
      t.flag GUARD_STAT_OPEN p = true ∧ t.fld GUARD_STAT_OPEN_MASTER p = m ∧
        State.only [(.GUARD_STAT, p.val)] (s.metBy m) t) ∧
  (∀ (m : Fin 8) (p : Fin 256) (s : State), s.mayAccess m .GUARD_KEY p = true → (blockOf p.val).isSome = true →
    (s.metBy m).flag GUARD_STAT_MODE p = true → (s.metBy m).flag GUARD_STAT_LOCKED p = false →
    ∃ t, exec (.guardKeyWrite m p (BitVec.ofNat 32 (0x10C40000 + p))) s = .next t ∧ t.resp = [.ok 0#32] ∧
      t.flag GUARD_STAT_LOCKED p = true ∧ t.pends 27 = true ∧
        State.only ([(.GUARD_STAT, p.val)] ++ evtRegs 27) (s.metBy m) t) ∧
  (∀ (m : Fin 8) (v : Word), ServesNow (.prUnfreeze m v) m .PR_UNFREEZE 0 (fun _ => True)
    ([(.PR_FROZEN, 0)] ++ ofAll [.HL_SSTAT] 4) fun u t =>
      (∀ j : Fin 7, t.frozen j = (u.frozen j && !(bitAt v j && j.val != u.owner)))) ∧
  (∀ (m : Fin 8) (v : Word), ServesNow (.prGclr m v) m .PR_GCLR 0 (fun _ => (blockOf (bitsOf v 7 0)).isSome = true)
    [(.GUARD_STAT, bitsOf v 7 0)] fun _ t =>
      t.flag GUARD_STAT_VIOL (bitsOf v 7 0) = false ∧ t.fld GUARD_STAT_VIOL_MASTER (bitsOf v 7 0) = 0 ∧
        t.fld GUARD_STAT_VIOL_KIND (bitsOf v 7 0) = 0 ∧ t.flag GUARD_STAT_OPEN (bitsOf v 7 0) = false) ∧
  (∀ (m : Fin 8) (n : Fin 8) (v : Word), ServesNow (.tableEdit m (.memBase n) v) m .PR_MEM_BASE n (fun _ => True)
    ([(.PR_MEM_BASE, n.val)] ++ evtRegs 26) fun u t =>
      t.get .PR_MEM_BASE n = u.merged m .PR_MEM_BASE n v ∧ (u.get .PR_MEM_BASE n ≠ u.merged m .PR_MEM_BASE n v →
        t.pends 26 = true)) ∧
  (∀ (m : Fin 8) (n : Fin 8) (v : Word), ServesNow (.tableEdit m (.memLim n) v) m .PR_MEM_LIM n (fun _ => True)
    ([(.PR_MEM_LIM, n.val)] ++ evtRegs 26) fun u t =>
      t.get .PR_MEM_LIM n = u.merged m .PR_MEM_LIM n v ∧ (u.get .PR_MEM_LIM n ≠ u.merged m .PR_MEM_LIM n v →
        t.pends 26 = true)) ∧
  (∀ (m : Fin 8) (n : Fin 8) (v : Word), ServesNow (.tableEdit m (.memAcc n) v) m .PR_MEM_ACC n (fun _ => True)
    ([(.PR_MEM_ACC, n.val)] ++ evtRegs 26) fun u t =>
      t.get .PR_MEM_ACC n = u.merged m .PR_MEM_ACC n v ∧ (u.get .PR_MEM_ACC n ≠ u.merged m .PR_MEM_ACC n v →
        t.pends 26 = true)) ∧
  (∀ (m : Fin 8) (x : Fin 8) (k : Fin 16) (v : Word), ServesNow (.tableEdit m (.pageAcc x k) v) m .PR_PAGE_ACC ((16 *
    x.val + k.val)) (fun u => x.val ≠ u.owner)
    ([(.PR_PAGE_ACC, 16 * x.val + k.val)] ++ evtRegs 26) fun u t =>
      t.get .PR_PAGE_ACC (16 * x.val + k.val) = v &&& accMask k ∧
        (u.get .PR_PAGE_ACC (16 * x.val + k.val) ≠ v &&& accMask k → t.pends 26 = true))

/-- A tick applies the waiting writes, moves the module on by one and does its phases; none is made while a reset
holds it (model choices: log 99). What rests on log 99 is the model's choice. (R11, R13, R15, R116, R399, R400, R431)
-/
def Obligations.TicksAdvance : Prop :=
  (∀ (x : TickIn) (s : State), let u := s.met
    u.boot.rst = 0 → u.boot.rstEnd = none →
    ∃ t, exec (.axisTick x) s = .next t ∧ t.tick = u.tick + 1 ∧ t.closed = false) ∧
  (∀ (x : TickIn) (s : State), let u := s.met
    u.boot.rst ≠ 0 → u.boot.rstEnd = none → exec (.axisTick x) s = .next u) ∧
  (∀ (x : TickIn) (s : State), let v := s.begin'.settled
    s.begin'.still = false → v.boot.rstEnd = none →
    exec (.axisTick x) s = .next (State.tickWork x
      { v with tick := v.tick + 1, sampleReq := [], captureReq := [], closed := false, lsOsc := false })) ∧
  (∀ (x : TickIn) (k : Nat) (s : State), let v := s.begin'.settled
    s.begin'.still = false → v.boot.rstEnd = some k →
    exec (.axisTick x) s = .next (let n :=
      { v with tick := v.tick + 1, sampleReq := [], captureReq := [], closed := false, lsOsc := false }; if k ≤
        v.tick + 1 then State.tickWork x (State.modResetEnd n) else n)) ∧
  (∀ (w x : Waiting) (s : State), s.writes = [w, x] →
    s.settled = State.applyWaiting x (State.applyWaiting w (State.closeTick { s with resp := [], writes := [] }))) ∧
  (∀ (e : Fin 256) (k : Fin 8) (s : State), 
    let t := State.router s
    t.evtTaken e = s.asserted e ∧ t.rbit .ER_INTSTAT 0 k = decide (∃ j : Fin 256, s.asserted j = true ∧
      s.evtRoute j / 8 % 2 = 1 ∧ s.evtRoute j % 8 = k)) ∧
  (∀ (n : Fin 128) (s : State), 
    let t := State.slicesOut s
    (t.slice n).cmd = (s.vsEn n && !s.flag PG_STAT_DUST 0 && decide ((s.slice n).from' ≤ s.tick) && s.eff2.getLsbD n))

/-- A read through an alias view returns what a read of the base view returns, and clears nothing. (R50) -/
def Obligations.AliasReads : Prop :=
  ∀ (m : Fin 8) (p : Fin 256) (n : Nat) (off : Fin 1024) (k : Fin 3) (v : Word) (s t0 : State), n ≤ 4 →
    exec (.registerReadRc m n (BitVec.ofNat 32 (4096 * p + off))) s = .next t0 → t0.resp = [.ok v] →
    ∃ t, exec (.registerReadRc m n (BitVec.ofNat 32 (4096 * p + 1024 * (k + 1) + off))) s = .next t ∧
      t.resp = [.ok v] ∧
      State.only [] (attach m s.begin') t

/-- A bit-alias write writes the one command bit of its lane or load switch. That a word of a busy page is answered
with an error is the model's choice (log entry 59). (R51) -/
def Obligations.BitAliasWords : Prop :=
  (∀ (m : Fin 8) (n : Fin 256) (v : Word) (s : State), let u := (s.metBy m).spend.settled
    (s.metBy m).canAccess m = true → (m.val < 7 → (s.metBy m).frozen m = false) → (s.metBy m).served = true →
      (s.metBy m).failsafe = false → 2 ≤ (s.metBy m).pageRight m 0x08 → (s.metBy m).inReplay = false →
        u.flag PAGE_STAT_DRST_BUSY 0x08 = false → ∃ w t, exec (.bitAliasWrite m (.lane n) v) s = .next w ∧
          w.resp = [.ok 0#32] ∧ t = w.settled ∧ t.lnDemand n = bitAt v 0 ∧ (∀ k : Fin 768, k.val ≠ n →
            t.lnDemand k = u.lnDemand k) ∧ State.only ([(.LN_CMD, n.val / 32)]) u t) ∧
  (∀ (m : Fin 8) (n : Fin 24) (v : Word) (s : State), let u := (s.metBy m).spend.settled
    (s.metBy m).canAccess m = true → (m.val < 7 → (s.metBy m).frozen m = false) → (s.metBy m).served = true →
      (s.metBy m).failsafe = false → 2 ≤ (s.metBy m).pageRight m 0x3C → (s.metBy m).inReplay = false →
        u.flag PAGE_STAT_DRST_BUSY 0x3C = false → ∃ w t, exec (.bitAliasWrite m (.switch n) v) s = .next w ∧
          w.resp = [.ok 0#32] ∧ t = w.settled ∧ t.lnDemand (152 + n) = bitAt v 0 ∧ (∀ k : Fin 768, k.val ≠ 152 + n →
            t.lnDemand k = u.lnDemand k) ∧ State.only ([(.LN_CMD, (152 + n.val) / 32)]) u t) ∧
  (∀ (m : Fin 8) (n : Fin 256) (v : Word) (s : State), let u := s.metBy m
    2 ≤ m.val → (s.metBy m).canAccess m = true → (m.val < 7 → (s.metBy m).frozen m = false) →
      (s.metBy m).served = true → (s.metBy m).failsafe = false → 2 ≤ (s.metBy m).pageRight m 0x08 →
        (s.metBy m).inReplay = false → (s.metBy m).spend.settled.flag PAGE_STAT_DRST_BUSY 0x08 = true →
          ∃ t, exec (.bitAliasWrite m (.lane n) v) s = .next t ∧ t.resp = [.error] ∧ t.writes = s.writes ∧
            t.lnDemand n = u.lnDemand n ∧ State.only ([]) u t) ∧
  (∀ (m : Fin 8) (n : Fin 24) (v : Word) (s : State), let u := s.metBy m
    2 ≤ m.val → (s.metBy m).canAccess m = true → (m.val < 7 → (s.metBy m).frozen m = false) →
      (s.metBy m).served = true → (s.metBy m).failsafe = false → 2 ≤ (s.metBy m).pageRight m 0x3C →
        (s.metBy m).inReplay = false → (s.metBy m).spend.settled.flag PAGE_STAT_DRST_BUSY 0x3C = true →
          ∃ t, exec (.bitAliasWrite m (.switch n) v) s = .next t ∧ t.resp = [.error] ∧ t.writes = s.writes ∧
            t.lnDemand (152 + n) = u.lnDemand (152 + n) ∧ State.only ([]) u t)

/-- A write without the right freezes its master; a frozen master changes nothing; DBG is refused but never frozen
(model choices: logs 15, 16, 18 and 121). What rests on logs 15, 16, 18 and 121 is the model's choice. (R65, R66, R67,
R70) -/
def Obligations.Violations : Prop :=
  (∀ (m : Fin 7) (p : Fin 256) (k : Fin 256) (v : DWord) (s : State), let u := s.begin'
    u.canAccess m = true → u.frozen m = false → u.served = true → u.failsafe = false →
      (blockOf p.val).isSome = true → p.val ≠ 1 → (p.val = 0 → k.val ≠ 17) → u.pageRight m p < 2 →
        ∃ t, exec (.registerWrite m.castSucc 4 (BitVec.ofNat 32 (4096 * p + 4 * k)) v) s = .next t ∧
          t.resp = [.error] ∧ t.frozen m = true ∧ t.pends 17 = true ∧ t.pends (18 + m) = true ∧
            (u.pageKeeps m u.nowClk p = false → t.flag GUARD_STAT_VIOL p = true ∧
              t.fld GUARD_STAT_VIOL_MASTER p = m ∧ t.fld GUARD_STAT_VIOL_KIND p = 4) ∧
                (u.pageKeeps m u.nowClk p = true → t.get .GUARD_STAT p = u.get .GUARD_STAT p) ∧
                  (u.logKeeps m u.nowClk = false → t.get .PR_VLOG_ADDR 0 = BitVec.ofNat 32 (4096 * p + 4 * k) ∧
                    t.get .PR_VLOG_INFO 0 = BitVec.ofNat 32 (16 * 4 + 8 + m)) ∧ (u.logKeeps m u.nowClk = true →
                      t.get .PR_VLOG_ADDR 0 = u.get .PR_VLOG_ADDR 0 ∧
                        t.get .PR_VLOG_INFO 0 = u.get .PR_VLOG_INFO 0) ∧
                          t.fld PR_VIOL_CNT_CNT 0 = min (u.fld PR_VIOL_CNT_CNT 0 + 1) (2 ^ (PR_VIOL_CNT_CNT.hi + 1 -
                            PR_VIOL_CNT_CNT.lo) - 1) ∧ ¬ t.promised) ∧
  (∀ (m : Fin 7) (k : Fin 256) (v : DWord) (s : State), let u := s.begin'
    u.canAccess m = true → u.frozen m = false → u.served = true → u.failsafe = false → m.val ≠ u.owner →
      ∃ t, exec (.registerWrite m.castSucc 4 (BitVec.ofNat 32 (4096 + 4 * k)) v) s = .next t ∧ t.resp = [.error] ∧
        t.frozen m = true ∧ t.pends 17 = true ∧ t.pends (18 + m) = true ∧ (u.pageKeeps m u.nowClk 1 = false →
          t.fld GUARD_STAT_VIOL_MASTER 1 = m ∧ t.fld GUARD_STAT_VIOL_KIND 1 = 6)) ∧
  (∀ (p : Fin 256) (k : Fin 256) (v : DWord) (s : State), let u := s.metBy 7
    u.canAccess 7 = true → u.served = true → u.failsafe = false → (blockOf p.val).isSome = true →
      u.pageRight 7 p < 2 → ∃ t, exec (.registerWrite 7 4 (BitVec.ofNat 32 (4096 * p + 4 * k)) v) s = .next t ∧
        t.resp = [.error] ∧ t.pends 28 = true ∧ t.get .PR_FROZEN 0 = u.get .PR_FROZEN 0 ∧
          t.fld PR_VIOL_CNT_DBG_CNT 0 = min (u.fld PR_VIOL_CNT_DBG_CNT 0 + 1) (2 ^ (PR_VIOL_CNT_DBG_CNT.hi + 1 -
            PR_VIOL_CNT_DBG_CNT.lo) - 1) ∧
              State.only ([(.PR_VLOG_ADDR, 0), (.PR_VLOG_INFO, 0), (.PR_VLOG_TIME_LO, 0), (.PR_VLOG_TIME_HI, 0),
                (.PR_VIOL_CNT, 0)] ++ evtRegs 28) u t) ∧
  (∀ (m : Fin 7) (n : Nat) (a : Word) (v : DWord) (s : State), let u := s.begin'
    n ≤ 4 → a.toNat < 0x10000000 → u.canAccess m = true → u.frozen m = true →
      ∃ t, exec (.registerWrite m.castSucc n a v) s = .next t ∧ t.resp = [.frozen] ∧ t.writes = s.writes ∧
        State.only ([]) u t)

/-- What reset leaves: the dust sheet, nothing enabled, memory in its canonical form, no command waiting (model
choices: logs 3 and 4). What rests on logs 3 and 4 is the model's choice. (R42, R74, R107, R211, R427, R431, R433) -/
def Obligations.ResetState : Prop :=
  (State.reset.pending = [] ∧ Memory.wf State.reset.mem ∧ State.reset.dusty ∧ State.reset.promised) ∧
  ((∀ i : Fin 32, State.reset.axEn i = false) ∧ (∀ n : Fin 768, State.reset.lnEn n = false) ∧
    (∀ c : Fin 24, State.reset.fbEn c = false) ∧ (∀ q : Fin 48, State.reset.flag Q_GEOM_EN q = false) ∧
    ∀ p : Fin 256, State.reset.get .EVT_PEND p = 0#32)

/-- A template's refresh frame and a deferred frame are queued with the lanes' commands, or wait for the gap (model
choices: logs 77 and 78). What rests on logs 77 and 78 is the model's choice. (R127, R128, R129) -/
def Obligations.TemplateFrames : Prop :=
  (∀ (x : Fin 32) (q : Fin 24), ActsTo (.templateRefresh x) (fun u => q.val = (8 + 2 * u.fld LN_TPL_CFG_CTRL x +
    u.fld LN_TPL_CFG_FIFO x) ∧ u.flag LN_TPL_CFG_EN x = true ∧ u.fld LN_TPL_CFG_REFRESH x ≠ 0 ∧
      1000 * u.fld LN_TPL_CFG_REFRESH x ≤ u.tick - ((u.tpl x).last.getD (u.tpl x).tEn) ∧ u.tplGapOk x = true ∧
        u.roomy q = true)
    (qRegs q) (fun u a => u.inSlot q a) fun u t =>
      took q ((u.tplElement x).flatMap wordBytes) u t ∧ (t.tpl x).seq = ((u.tpl x).seq + 1) % 256 ∧
        (t.tpl x).last = some u.tick ∧ (t.tpl x).waits = false) ∧
  (∀ (x : Fin 32), Acts (.templateGapFrame x) (fun u => u.tplGapOk x = false)
    [] fun u t =>
      t.tpls = u.tpls) ∧
  (∀ (x : Fin 32) (q : Fin 24), ActsTo (.templateGapFrame x) (fun u => q.val = (8 + 2 * u.fld LN_TPL_CFG_CTRL x +
    u.fld LN_TPL_CFG_FIFO x) ∧ u.flag LN_TPL_CFG_EN x = true ∧ (u.tpl x).waits = true ∧ u.tplGapOk x = true ∧
      u.roomy q = true)
    (qRegs q) (fun u a => u.inSlot q a) fun u t =>
      took q ((u.tplElement x).flatMap wordBytes) u t ∧ (t.tpl x).seq = ((u.tpl x).seq + 1) % 256 ∧
        (t.tpl x).last = some u.tick ∧ (t.tpl x).waits = false) ∧
  (∀ (x : Fin 32) (q : Fin 24), Acts (.templateRefresh x) (fun u => q.val = (8 + 2 * u.fld LN_TPL_CFG_CTRL x + u.fld
    LN_TPL_CFG_FIFO x) ∧ u.flag LN_TPL_CFG_EN x = true ∧ u.fld LN_TPL_CFG_REFRESH x ≠ 0 ∧
      1000 * u.fld LN_TPL_CFG_REFRESH x ≤ u.tick - ((u.tpl x).last.getD (u.tpl x).tEn) ∧ u.tplGapOk x = true ∧
        u.flag Q_GEOM_EN q = true ∧ u.qN q ≤ u.qFill q)
    (qRegs q ++ evtRegs 54 ++ [(.MOD_FAULT, 0)]) fun u t =>
      t.qTail q = u.qTail q ∧ t.flag Q_STAT_OVF q = true ∧
        t.fld Q_CNT_OVF q = min (u.fld Q_CNT_OVF q + 1) (2 ^ (Q_CNT_OVF.hi + 1 - Q_CNT_OVF.lo) - 1) ∧
          t.pends 54 = true ∧ ¬ t.promised ∧ (t.tpl x).seq = (u.tpl x).seq)

/-- RUN starts the unit at the axis position, is refused with its code, and its clearing turns the fed lanes off.
(R157, R172, R173) -/
def Obligations.GeometryRuns : Prop :=
  (∀ (m : Fin 8), Serves (.gmRunSet m) m .GM_CTRL 0 (fun u => u.gmRun = false ∧ u.runCode = 0)
    (ofInst [.GM_CTRL, .GM_STAT, .GM_CNT_COV, .GM_CNT_LAP, .GM_CNT_WET, .GM_CNT_LOST] 0 ++ ofAll [.GM_APP_STAT] 640)
      fun u t =>
      t.gmRun = true ∧ t.geo.x0 = u.axPos u.gmAx ∧ t.geo.next = 0 ∧ t.geo.fix1 = false ∧ t.get .GM_CNT_COV 0 = 0#32 ∧
        t.get .GM_CNT_LAP 0 = 0#32 ∧ t.get .GM_CNT_WET 0 = 0#32 ∧ t.get .GM_CNT_LOST 0 = 0#32 ∧
          t.flag GM_STAT_POSE_OK 0 = false ∧ t.flag GM_STAT_DR_ONLY 0 = false ∧
            (∀ i : Fin 640, t.flag GM_APP_STAT_LOWV i = true ∧ t.flag GM_APP_STAT_DEC i = false)) ∧
  (∀ (m : Fin 8), Serves (.gmRunSet m) m .GM_CTRL 0 (fun u => u.gmRun = false ∧ u.runCode ≠ 0)
    ([(.GM_CTRL, 0), (.GM_STAT, 0)] ++ evtRegs 72) fun u t =>
      t.gmRun = false ∧ t.fld GM_STAT_REJ 0 = u.runCode ∧ t.pends 72 = true) ∧
  (∀ (m : Fin 8) (s : State), let u := s.meets m .GM_CTRL 0
    s.mayWrite m .GM_CTRL 0 = true → u.gmRun = true → ∃ w t, exec (.gmRunClear m) s = .next w ∧ w.resp = [.ok 0#32] ∧
      t = w.settled ∧ t.gmRun = false ∧ t.flag GM_STAT_POSE_OK 0 = false ∧ t.geo.steps = [] ∧ t.geo.covs = [] ∧
        (∀ n : Fin 768, u.gmFed n = true → t.lnDemand n = false ∧ (t.lane n).fill = 0)) ∧
  (∀ (m : Fin 8), Serves (.gmRunClear m) m .GM_CTRL 0 (fun u => u.gmRun = true ∧ u.geo.covs = [] ∧
    u.geo.lapRuns = [] ∧ u.geo.lostRuns = [] ∧ u.mtiles = [])
    (ofInst [.GM_CTRL, .GM_STAT, .LN_CNT_FLUSH] 0 ++ ofAll [.LN_CMD] 8 ++ ofAll [.LN_RCFG] 512 ++ evtRegs 50) fun u t
      =>
      t.gmRun = false ∧ t.flag GM_STAT_POSE_OK 0 = false ∧ t.geo.steps = [] ∧ (∀ n : Fin 768, u.gmFed n = false →
        t.lnDemand n = u.lnDemand n ∧ (t.lane n).fill = (u.lane n).fill))

/-- A commanded start goes to PEAK when the budget holds it, else it waits in order; a waiting start is granted at the
head. (R218, R219, R220, R221, R222) -/
def Obligations.ValveStarts : Prop :=
  (∀ (n : Fin 128) (x : Nat) (r : List (Nat × Bool)), Arrives (.valveCommandRise n) (fun u => (u.slice n).edges = (x,
    true) :: r ∧ u.vAble n = true ∧ u.vPhase n = 0 ∧ (u.valve n).act = false ∧
      u.flag VG_STAT_WIN_ACTIVE (n / 8) = false ∧ (u.vgrp (n / 8)).wait = [] ∧ u.vReady (n / 8) x = true ∧
        u.vFits n = true)
    (ofInst [.VG_CSTAT, .VG_CCNT] n.val ++ [(.VG_STAT, n.val / 8)]) fun u t =>
      t.vPhase n = 2 ∧ (t.valve n).grant = x ∧ (t.valve n).peakEnd = x + 2000 * u.fld VG_CPEAKT_PEAK_T n ∧
        (t.valve n).low = true ∧ (t.valve n).target = 4 * u.fld VG_CCUR_PEAK n ∧ (t.slice n).edges = r ∧
          t.fld VG_CCNT_ACT n = (u.fld VG_CCNT_ACT n + 1) % 2 ^ (VG_CCNT_ACT.hi + 1 - VG_CCNT_ACT.lo)) ∧
  (∀ (n : Fin 128) (x : Nat) (r : List (Nat × Bool)), Arrives (.valveCommandRise n) (fun u => (u.slice n).edges = (x,
    true) :: r ∧ u.vAble n = true ∧ u.vPhase n = 0 ∧ (u.valve n).act = false ∧
      u.flag VG_STAT_WIN_ACTIVE (n / 8) = false ∧
        ((u.vgrp (n / 8)).wait ≠ [] ∨ u.vReady (n / 8) x = false ∨ u.vFits n = false))
    (ofInst [.VG_CSTAT, .VG_CCNT] n.val ++ [(.VG_STAT, n.val / 8)]) fun u t =>
      t.vPhase n = 1 ∧ (t.vgrp (n / 8)).wait = (u.vgrp (n / 8)).wait ++ [n.val] ∧
        (t.valve n).dcause = (if u.vReady (n / 8) x then 1 else 2) ∧ (t.valve n).cstart = x ∧ (t.slice n).edges = r ∧
          t.fld VG_CCNT_ACT n = (u.fld VG_CCNT_ACT n + 1) % 2 ^ (VG_CCNT_ACT.hi + 1 - VG_CCNT_ACT.lo)) ∧
  (∀ (n : Fin 128) (x : Nat) (r : List (Nat × Bool)), Arrives (.valveCommandRise n) (fun u => (u.slice n).edges = (x,
    true) :: r ∧ u.vAble n = false)
    [] fun u t =>
      t.valves = u.valves ∧ (t.slice n).edges = r) ∧
  (∀ (g : Fin 16) (n : Fin 128) (r : List Nat), Arrives (.startGrant g) (fun u => (u.vgrp g).wait = n.val :: r ∧
    n.val / 8 = g ∧ max (max (u.vgrp g).freeT ((u.vgrp g).hsOnT + 4000)) (u.valve n).cstart < u.Tn ∧
      u.flag VG_STAT_HS_ON g = true ∧ u.vFits n = true)
    (ofInst [.VG_CSTAT, .VG_CCNT] n.val ++ ofInst [.VG_STAT, .VG_GCNT, .VG_DLAST, .VG_EVT] g.val ++ evtRegs (104 +
      g.val)) fun u t =>
      t.vPhase n = 2 ∧ (t.vgrp g).wait = r ∧
        (t.valve n).grant = max (max (u.vgrp g).freeT ((u.vgrp g).hsOnT + 4000)) (u.valve n).cstart ∧
          (t.valve n).peakEnd = (t.valve n).grant + 2000 * u.fld VG_CPEAKT_PEAK_T n ∧
            ((u.valve n).cstart < (t.valve n).grant →
              t.fld VG_CCNT_DEFER n = min (u.fld VG_CCNT_DEFER n + 1) (2 ^ (VG_CCNT_DEFER.hi + 1 - VG_CCNT_DEFER.lo)
                - 1) ∧ t.fld VG_GCNT_DEFERRALS g = min (u.fld VG_GCNT_DEFERRALS g + 1) (2 ^ (VG_GCNT_DEFERRALS.hi + 1
                  - VG_GCNT_DEFERRALS.lo) - 1))) ∧
  (∀ (g : Fin 16), Arrives (.startGrant g) (fun u => (u.vgrp g).wait = [] ∨ u.vFits ((u.vgrp g).wait.headD 0) = false)
    [] fun u t =>
      t.valves = u.valves ∧ t.vgroups = u.vgroups) ∧
  (∀ (n : Fin 128), Arrives (.regulationPeriodStart n) (fun u => u.vPhase n = 3 ∧
    (n % 8 * 1250 + 10000 - u.T % 10000) % 10000 < 2000)
    [] fun u t =>
      (t.valve n).low = decide ((u.valve n).det.buf.headD 0 < u.vHoldTarget n) ∧
        (t.valve n).target = u.vHoldTarget n ∧ (u.flag VG_CCFG_THM_EN n = false → (t.valve n).holdN = 0)) ∧
  (∀ (n : Fin 128), Arrives (.regulationPeriodStart n) (fun u => 2000 ≤ (n % 8 * 1250 + 10000 - u.T % 10000) % 10000)
    [] fun u t =>
      t.valves = u.valves)

/-- PEAK ends in HOLD, a falling command ends a phase in DECAY, and DECAY ends in OFF (model choices: log 139). What
rests on log 139 is the model's choice. (R218, R219, R220, R223, R224, R228, R229, R235) -/
def Obligations.ValveEnds : Prop :=
  (∀ (n : Fin 128), Arrives (.peakEnd n) (fun u => u.vPhase n = 2 ∧ (u.valve n).peakEnd < u.Tn ∧
    (u.valve n).det.half = true ∧ u.flag VG_CCFG_DET_EN n = false)
    (ofInst [.VG_CSTAT, .VG_CI] n.val ++ [(.VG_STAT, n.val / 8)]) fun u t =>
      t.vPhase n = 3 ∧ (t.valve n).target = u.vHoldTarget n ∧ t.fld VG_CI_IPK n = (u.valve n).det.ipk / 4 % 1024 ∧
        t.flag VG_CSTAT_OPEN_ON n = false ∧ t.vSum (n / 8) ≤ u.vSum (n / 8)) ∧
  (∀ (n : Fin 128), Arrives (.peakEnd n) (fun u => u.vPhase n = 2 ∧ (u.valve n).peakEnd < u.Tn ∧
    (u.valve n).det.half = false ∧ u.flag VG_STAT_VSUP_LOW (n / 8) = false ∧ u.inReplay = false ∧
      u.flag VG_CCFG_DET_EN n = false)
    (ofInst [.VG_CSTAT, .VG_CI] n.val ++ ofInst [.VG_STAT, .VG_EVT] (n.val / 8) ++ evtRegs (104 + n.val / 8)) fun u t
      =>
      t.vPhase n = 3 ∧ t.flag VG_CSTAT_OPEN_ON n = true ∧ t.rbit .VG_EVT (n / 8) 2 = true ∧
        (u.rbit .VG_EVT_MASK (n / 8) 2 = true → t.pends (104 + n / 8) = true)) ∧
  (∀ (n : Fin 128), Arrives (.peakEnd n) (fun u => u.vPhase n = 2 ∧ (u.valve n).peakEnd < u.Tn ∧
    (u.valve n).det.half = true ∧ u.inReplay = false ∧ u.flag VG_CCFG_DET_EN n = true ∧
      (u.valve n).det.openRes = none ∧ (u.valve n).noOpen + 1 < u.fld VG_CCFG_STUCK_N n)
    (ofInst [.VG_CSTAT, .VG_CI, .VG_CCNT] n.val ++ [(.VG_STAT, n.val / 8)]) fun u t =>
      t.vPhase n = 3 ∧ t.fld VG_CCNT_NODET n = min (u.fld VG_CCNT_NODET n + 1) (2 ^ (VG_CCNT_NODET.hi + 1 -
        VG_CCNT_NODET.lo) - 1) ∧ (t.valve n).noOpen = (u.valve n).noOpen + 1) ∧
  (∀ (n : Fin 128) (x : Nat) (r : List (Nat × Bool)), Arrives (.valveCommandFall n) (fun u => (u.slice n).edges = (x,
    false) :: r ∧ u.vPhase n = 3 ∧ (u.valve n).offAt = none)
    (ofInst [.VG_CSTAT] n.val) fun _ t =>
      t.vPhase n = 4 ∧ (t.valve n).decayT = x ∧ (t.valve n).coff = x ∧ (t.valve n).low = false ∧
        (t.slice n).edges = r) ∧
  (∀ (n : Fin 128) (x : Nat) (r : List (Nat × Bool)), Arrives (.valveCommandFall n) (fun u => (u.slice n).edges = (x,
    false) :: r ∧ u.vPhase n = 1)
    [] fun _ t =>
      t.vPhase n = 1 ∧ (t.valve n).offAt = some x ∧ (t.slice n).edges = r) ∧
  (∀ (n : Fin 128) (x : Nat) (r : List (Nat × Bool)), Arrives (.valveCommandFall n) (fun u => (u.slice n).edges = (x,
    false) :: r ∧ u.vPhase n = 0)
    [] fun u t =>
      t.valves = u.valves ∧ (t.slice n).edges = r) ∧
  (∀ (n : Fin 128), Arrives (.decayEnd n) (fun u => u.vPhase n = 4 ∧
    (u.valve n).decayT + 20000 * u.fld VG_CDET_REL_WIN n < u.Tn ∧ (u.valve n).act = false ∧
      (u.valve n).det.relRes = none)
    (ofInst [.VG_CSTAT] n.val) fun u t =>
      t.vPhase n = 0 ∧ (t.valve n).offSince = (u.valve n).decayT + 20000 * u.fld VG_CDET_REL_WIN n) ∧
  (∀ (n : Fin 128) (x : Nat), Arrives (.decayEnd n) (fun u => u.vPhase n = 4 ∧
    (u.valve n).det.relRes = some (some x) ∧ (u.valve n).det.buf.foldl (· + ·) 0 < 4 * u.fld VG_CDET_FLOOR n)
    (ofInst [.VG_CSTAT] n.val) fun u t =>
      t.vPhase n = 0 ∧ (t.valve n).offSince = (u.valve n).det.ts) ∧
  (∀ (n : Fin 128), Arrives (.decayEnd n) (fun u => u.vPhase n ≠ 4)
    [] fun u t =>
      t.valves = u.valves) ∧
  (∀ (n : Fin 128), Arrives (.peakEnd n) (fun u => u.vPhase n = 2 ∧ (u.valve n).peakEnd < u.Tn ∧ u.inReplay = false)
    (ofInst [.VG_CSTAT, .VG_CI, .VG_CCNT] n.val ++ ofInst [.VG_STAT, .VG_EVT] (n.val / 8) ++ evtRegs (104 + n.val /
      8)) fun u t =>
      t.vPhase n = 3 ∧ (t.valve n).target = u.vHoldTarget n ∧
        t.flag VG_CSTAT_OPEN_ON n = (!(u.valve n).det.half && !u.flag VG_STAT_VSUP_LOW (n / 8)) ∧
          ((!(u.valve n).det.half && !u.flag VG_STAT_VSUP_LOW (n / 8)) = true → t.rbit .VG_EVT (n / 8) 2 = true ∧
            (u.rbit .VG_EVT_MASK (n / 8) 2 = true → t.pends (104 + n / 8) = true)) ∧
              (u.flag VG_CCFG_DET_EN n = true → (u.valve n).det.openRes = none →
                t.fld VG_CCNT_NODET n = min (u.fld VG_CCNT_NODET n + 1) (2 ^ (VG_CCNT_NODET.hi + 1 -
                  VG_CCNT_NODET.lo) - 1) ∧ (t.valve n).noOpen = (u.valve n).noOpen + 1) ∧
                    t.fld VG_CI_IPK n = (u.valve n).det.ipk / 4 % 1024) ∧
  (∀ (n : Fin 128) (x : Nat) (r : List (Nat × Bool)), Arrives (.valveCommandFall n) (fun u => (u.slice n).edges = (x,
    false) :: r ∧ u.vPhase n = 2 ∧ (u.valve n).offAt = none ∧ u.inReplay = false)
    (ofInst [.VG_CSTAT, .VG_CI, .VG_CCNT] n.val ++ ofInst [.VG_STAT, .VG_EVT] (n.val / 8) ++ evtRegs (104 + n.val /
      8)) fun u t =>
      t.vPhase n = 4 ∧ (t.valve n).decayT = x ∧ (t.valve n).coff = x ∧ (t.valve n).low = false ∧
        (t.slice n).edges = r ∧
          t.flag VG_CSTAT_OPEN_ON n = (!(u.valve n).det.half && !u.flag VG_STAT_VSUP_LOW (n / 8)) ∧
            ((!(u.valve n).det.half && !u.flag VG_STAT_VSUP_LOW (n / 8)) = true → t.rbit .VG_EVT (n / 8) 2 = true ∧
              (u.rbit .VG_EVT_MASK (n / 8) 2 = true → t.pends (104 + n / 8) = true)) ∧
                (u.flag VG_CCFG_DET_EN n = true → (u.valve n).det.openRes = none →
                  t.fld VG_CCNT_NODET n = min (u.fld VG_CCNT_NODET n + 1) (2 ^ (VG_CCNT_NODET.hi + 1 -
                    VG_CCNT_NODET.lo) - 1) ∧ (t.valve n).noOpen = (u.valve n).noOpen + 1) ∧
                      t.fld VG_CI_IPK n = (u.valve n).det.ipk / 4 % 1024) ∧
  (∀ (n : Fin 128) (x : Nat), Arrives (.valveCommandFall n) (fun u => (u.slice n).edges = [] ∧
    (u.slice n).out = false ∧ u.vPhase n = 3 ∧ (u.valve n).offAt = some x ∧ x < u.Tn)
    (ofInst [.VG_CSTAT] n.val) fun u t =>
      t.vPhase n = 4 ∧ (t.valve n).decayT = x ∧ (t.valve n).coff = (u.valve n).coff ∧ (t.valve n).low = false) ∧
  (∀ (n : Fin 128), Arrives (.decayEnd n) (fun u => u.vPhase n = 4 ∧
    (u.valve n).decayT + 20000 * u.fld VG_CDET_REL_WIN n < u.Tn ∧ (u.valve n).act = true ∧
      (u.valve n).det.relRes = none ∧ u.flag VG_CCFG_DET_EN n = true ∧ u.inReplay = false)
    (ofInst [.VG_CSTAT] n.val ++ [(.VG_EVT, n.val / 8)] ++ evtRegs (104 + n.val / 8)) fun u t =>
      t.vPhase n = 0 ∧ (t.valve n).offSince = (u.valve n).decayT + 20000 * u.fld VG_CDET_REL_WIN n ∧
        (t.valve n).noRel = (u.valve n).noRel + 1 ∧ (u.fld VG_CCFG_STUCK_N n ≤ (u.valve n).noRel + 1 →
          t.flag VG_CSTAT_STUCK n = true) ∧ (t.valve n).act = false)

/-- Coil samples with the detection of opening and release, group samples and hold measurements (model choices: logs
47, 57 and 140). What rests on logs 47, 57 and 140 is the model's choice. (R220, R223, R224, R225, R226, R228, R229,
R233, R234, R468) -/
def Obligations.ValveObservations : Prop :=
  (∀ (n : Fin 128) (o : Fin 2000) (i : Nat), Arrives (.valveObservation n o (.coil [i])) (fun u => u.deaf = false ∧
    (u.vPhase n = 0 ∨ u.vPhase n = 1))
    (ofInst [.VG_CI] n.val) fun u t =>
      t.fld VG_CI_I n = ((i :: (u.valve n).det.buf).take 4).foldl (· + ·) 0 / 4 % 1024 ∧
        (t.valve n).det.buf = (i :: (u.valve n).det.buf).take 4 ∧ t.vPhase n = u.vPhase n) ∧
  (∀ (n : Fin 128) (o : Fin 2000) (i : Nat), Arrives (.valveObservation n o (.coil [i])) (fun u => u.deaf = false ∧
    u.vPhase n = 3 ∧ i ≤ 768)
    (ofInst [.VG_CI] n.val) fun u t =>
      (t.valve n).low = ((u.valve n).low && !decide ((u.valve n).target ≤ i)) ∧ t.vPhase n = 3) ∧
  (∀ (n : Fin 128) (o : Fin 2000) (i : Nat), Arrives (.valveObservation n o (.coil [i])) (fun u => u.deaf = false ∧
    u.vPhase n = 3 ∧ 768 < i)
    (ofInst [.VG_CI, .VG_CSTAT] n.val ++ [(.VG_EVT, n.val / 8)] ++ evtRegs (104 + n.val / 8)) fun u t =>
      t.flag VG_CSTAT_SS_LATCH n = true ∧ t.vPhase n = 4 ∧ (t.valve n).low = false ∧
        t.rbit .VG_EVT (n / 8) 0 = true ∧ (u.rbit .VG_EVT_MASK (n / 8) 0 = true → t.pends (104 + n / 8) = true)) ∧
  (∀ (n : Fin 128) (o : Fin 2000) (mv : Nat) (ma : Nat), Arrives (.valveObservation n o (.supply mv ma)) (fun u =>
    u.deaf = false ∧ 128 * ma ≤ 1000 * ((chans (n / 8)).foldl (fun a k => a + (u.valve k).det.buf.headD 0) 0) + 64000)
    (ofInst [.VG_VSUP, .VG_IGRP, .VG_STAT, .VG_EVT] (n.val / 8) ++ evtRegs (104 + n.val / 8)) fun u t =>
      t.fld VG_VSUP_MV (n / 8) = mv % 2 ^ (VG_VSUP_MV.hi + 1 - VG_VSUP_MV.lo) ∧
        t.fld VG_IGRP_MA (n / 8) = ma % 2 ^ (VG_IGRP_MA.hi + 1 - VG_IGRP_MA.lo) ∧ (t.vgrp (n / 8)).sgN = 0 ∧
          t.flag VG_STAT_VSUP_LOW (n / 8) = (if mv < 6000 then true else if 6500 < mv then false else u.flag
            VG_STAT_VSUP_LOW (n / 8)) ∧ (mv < 6000 → u.flag VG_STAT_VSUP_LOW (n / 8) = false →
              t.rbit .VG_EVT (n / 8) 12 = true)) ∧
  (∀ (n : Fin 128) (o : Fin 2000) (mv : Nat) (ma : Nat), Arrives (.valveObservation n o (.supply mv ma)) (fun u =>
    u.deaf = false ∧ u.flag VG_STAT_HS_ON (n / 8) = true ∧ (u.vgrp (n / 8)).sgN + 1 ≠ 20 ∧
      1000 * ((chans (n / 8)).foldl (fun a k => a + (u.valve k).det.buf.headD 0) 0) + 64000 < 128 * ma)
    (ofInst [.VG_VSUP, .VG_IGRP, .VG_STAT, .VG_EVT] (n.val / 8) ++ evtRegs (104 + n.val / 8)) fun u t =>
      (t.vgrp (n / 8)).sgN = (u.vgrp (n / 8)).sgN + 1) ∧
  (∀ (n : Fin 128) (o : Fin 2000), Arrives (.valveObservation n o (.hold)) (fun u => u.deaf = false ∧
    u.flag VG_CCFG_THM_EN n = true ∧ u.vPhase n = 3 ∧ 51 ≤ (u.valve n).holdN ∧ (u.valve n).measDone = false ∧
      u.flag VG_CSTAT_LEARN_PEND n = false ∧ f32.le 0x3D800000#32 (u.vAvgI n) = true)
    (ofInst [.VG_CR, .VG_CT, .VG_CDUTY, .VG_CSTAT] n.val ++ [(.VG_EVT, n.val / 8)] ++ evtRegs (104 + n.val / 8)) fun
      u t =>
      t.get .VG_CR n = f32.div (f32.mul (u.vAvgV n) (u.vAvgD n)) (u.vAvgI n) ∧
        t.get .VG_CT n = f32.add (u.get .VG_CTREF n) (f32.div (f32.sub (f32.div (f32.div (f32.mul (u.vAvgV n)
          (u.vAvgD n)) (u.vAvgI n)) (u.get .VG_CRREF n)) f32.one) 0x3B80C73B#32) ∧ (t.valve n).measDone = true) ∧
  (∀ (n : Fin 128) (o : Fin 2000), Arrives (.valveObservation n o (.hold)) (fun u => u.deaf = false ∧
    u.flag VG_CCFG_THM_EN n = true ∧ u.vPhase n = 3 ∧ 51 ≤ (u.valve n).holdN ∧ (u.valve n).measDone = false ∧
      u.flag VG_CSTAT_LEARN_PEND n = true ∧ f32.le 0x3D800000#32 (u.vAvgI n) = true)
    (ofInst [.VG_CR, .VG_CT, .VG_CDUTY, .VG_CSTAT, .VG_CRREF] n.val ++ [(.VG_EVT, n.val / 8)] ++ evtRegs (104 + n.val
      / 8)) fun u t =>
      t.get .VG_CRREF n = f32.div (f32.mul (u.vAvgV n) (u.vAvgD n)) (u.vAvgI n) ∧
        t.flag VG_CSTAT_LEARN_PEND n = false) ∧
  (∀ (n : Fin 128) (o : Fin 2000) (i : Nat), Arrives (.valveObservation n o (.coil [i])) (fun u => u.deaf = false ∧
    u.vPhase n = 2 ∧ i ≤ 768 ∧ u.flag VG_CCFG_DET_EN n = true ∧ (u.valve n).det.openRes = none ∧
      (i < (u.valve n).target ∨ (u.valve n).det.reached = true) ∧ (u.valve n).det.armed = false ∧
        (u.valve n).det.dip = false)
    (ofInst [.VG_CI] n.val) fun u t =>
      (t.valve n).det.armed = decide (4 * u.fld VG_CDET_FLOOR n ≤ (((i :: (u.valve n).det.buf).take 4).foldl (· + ·)
        0)) ∧ ((t.valve n).det.armed = true →
          (t.valve n).det.mx = (((i :: (u.valve n).det.buf).take 4).foldl (· + ·) 0)) ∧
            (t.valve n).det.openRes = none ∧ t.vPhase n = 2) ∧
  (∀ (n : Fin 128) (o : Fin 2000) (i : Nat), Arrives (.valveObservation n o (.coil [i])) (fun u => u.deaf = false ∧
    u.vPhase n = 2 ∧ i ≤ 768 ∧ u.flag VG_CCFG_DET_EN n = true ∧ (u.valve n).det.openRes = none ∧
      (i < (u.valve n).target ∨ (u.valve n).det.reached = true) ∧ (u.valve n).det.armed = true ∧
        (u.valve n).det.dip = false)
    (ofInst [.VG_CI] n.val) fun u t =>
      (t.valve n).det.dip = decide ((((i :: (u.valve n).det.buf).take 4).foldl (· + ·) 0) + 4 * u.fld VG_CDET_DIP n ≤
        max (u.valve n).det.mx (((i :: (u.valve n).det.buf).take 4).foldl (· + ·) 0)) ∧
          (t.valve n).det.mx = max (u.valve n).det.mx (((i :: (u.valve n).det.buf).take 4).foldl (· + ·) 0) ∧
            ((t.valve n).det.dip = true →
              (t.valve n).det.mn = (((i :: (u.valve n).det.buf).take 4).foldl (· + ·) 0) ∧
                (t.valve n).det.tm = u.clk o) ∧ (t.valve n).det.openRes = none) ∧
  (∀ (n : Fin 128) (o : Fin 2000) (i : Nat), Arrives (.valveObservation n o (.coil [i])) (fun u => u.deaf = false ∧
    u.vPhase n = 2 ∧ i ≤ 768 ∧ u.flag VG_CCFG_DET_EN n = true ∧ (u.valve n).det.openRes = none ∧
      (i < (u.valve n).target ∨ (u.valve n).det.reached = true) ∧ (u.valve n).det.dip = true ∧
        (((i :: (u.valve n).det.buf).take 4).foldl (· + ·) 0) < (u.valve n).det.mn + 8)
    (ofInst [.VG_CI] n.val) fun u t =>
      (t.valve n).det.mn = min (u.valve n).det.mn (((i :: (u.valve n).det.buf).take 4).foldl (· + ·) 0) ∧
        (t.valve n).det.tm = (if (((i :: (u.valve n).det.buf).take 4).foldl (· + ·) 0) < (u.valve n).det.mn then
          u.clk o else (u.valve n).det.tm) ∧ (t.valve n).det.openRes = none) ∧
  (∀ (n : Fin 128) (o : Fin 2000) (i : Nat), Arrives (.valveObservation n o (.coil [i])) (fun u => u.deaf = false ∧
    u.vPhase n = 2 ∧ i ≤ 768 ∧ u.flag VG_CCFG_DET_EN n = true ∧ (u.valve n).det.openRes = none ∧
      (i < (u.valve n).target ∨ (u.valve n).det.reached = true) ∧ (u.valve n).det.dip = true ∧
        (u.valve n).det.mn + 8 ≤ (((i :: (u.valve n).det.buf).take 4).foldl (· + ·) 0))
    (ofInst [.VG_CI, .VG_CDON] n.val) fun u t =>
      (t.valve n).det.openRes = some (some (u.valve n).det.tm) ∧
        t.get .VG_CDON n = BitVec.ofNat 32 (divRNE (((u.valve n).det.tm : Int) - (u.valve n).cstart) 200).toNat ∧
          (t.valve n).noOpen = 0) ∧
  (∀ (n : Fin 128) (o : Fin 2000) (i : Nat), Arrives (.valveObservation n o (.coil [i])) (fun u => u.deaf = false ∧
    u.vPhase n = 2 ∧ i ≤ 768 ∧ u.flag VG_CCFG_DET_EN n = true ∧ (u.valve n).det.openRes = none ∧
      (u.valve n).target ≤ i ∧ (u.valve n).det.reached = false ∧ (u.valve n).det.dip = false ∧
        (u.valve n).noOpen + 1 < u.fld VG_CCFG_STUCK_N n)
    (ofInst [.VG_CI, .VG_CCNT] n.val) fun u t =>
      (t.valve n).det.openRes = some none ∧
        t.fld VG_CCNT_NODET n = min (u.fld VG_CCNT_NODET n + 1) (2 ^ (VG_CCNT_NODET.hi + 1 - VG_CCNT_NODET.lo) - 1) ∧
          (t.valve n).noOpen = (u.valve n).noOpen + 1 ∧ (t.valve n).det.reached = true ∧ (t.valve n).low = false) ∧
  (∀ (n : Fin 128) (o : Fin 2000) (i : Nat), Arrives (.valveObservation n o (.coil [i])) (fun u => u.deaf = false ∧
    u.vPhase n = 4 ∧ u.flag VG_CCFG_DET_EN n = true ∧ (u.valve n).det.relRes = none ∧ (u.valve n).act = true ∧
      (u.valve n).det.bump = false)
    (ofInst [.VG_CI] n.val) fun u t =>
      (t.valve n).det.rmn = min (u.valve n).det.rmn (((i :: (u.valve n).det.buf).take 4).foldl (· + ·) 0) ∧
        (t.valve n).det.bump = decide (min (u.valve n).det.rmn (((i :: (u.valve n).det.buf).take 4).foldl (· + ·) 0)
          + 4 * u.fld VG_CDET_BUMP n ≤ (((i :: (u.valve n).det.buf).take 4).foldl (· + ·) 0)) ∧
            ((t.valve n).det.bump = true →
              (t.valve n).det.rmx = (((i :: (u.valve n).det.buf).take 4).foldl (· + ·) 0) ∧
                (t.valve n).det.trm = u.clk o) ∧ (t.valve n).det.relRes = none) ∧
  (∀ (n : Fin 128) (o : Fin 2000) (i : Nat), Arrives (.valveObservation n o (.coil [i])) (fun u => u.deaf = false ∧
    u.vPhase n = 4 ∧ u.flag VG_CCFG_DET_EN n = true ∧ (u.valve n).det.relRes = none ∧ (u.valve n).act = true ∧
      (u.valve n).det.bump = true ∧
        max (u.valve n).det.rmx (((i :: (u.valve n).det.buf).take 4).foldl (· + ·) 0) < (((i :: (u.valve
          n).det.buf).take 4).foldl (· + ·) 0) + 8)
    (ofInst [.VG_CI] n.val) fun u t =>
      (t.valve n).det.rmx = max (u.valve n).det.rmx (((i :: (u.valve n).det.buf).take 4).foldl (· + ·) 0) ∧
        (t.valve n).det.trm = (if (u.valve n).det.rmx < (((i :: (u.valve n).det.buf).take 4).foldl (· + ·) 0) then
          u.clk o else (u.valve n).det.trm) ∧ (t.valve n).det.relRes = none) ∧
  (∀ (n : Fin 128) (o : Fin 2000) (i : Nat), Arrives (.valveObservation n o (.coil [i])) (fun u => u.deaf = false ∧
    u.vPhase n = 4 ∧ u.flag VG_CCFG_DET_EN n = true ∧ (u.valve n).det.relRes = none ∧ (u.valve n).act = true ∧
      (u.valve n).det.bump = true ∧ (((i :: (u.valve n).det.buf).take 4).foldl (· + ·) 0) + 8 ≤ (u.valve n).det.rmx)
    (ofInst [.VG_CI, .VG_CDOFF, .VG_CSTAT] n.val ++ [(.VG_EVT, n.val / 8)] ++ evtRegs (104 + n.val / 8)) fun u t =>
      (t.valve n).det.relRes = some (some (u.valve n).det.trm) ∧
        t.get .VG_CDOFF n = BitVec.ofNat 32 (divRNE (((u.valve n).det.trm : Int) - (u.valve n).coff) 200).toNat ∧
          (t.valve n).noRel = 0 ∧ (t.valve n).act = false ∧ (State.isDet (u.valve n).det.openRes = true →
            t.flag VG_CSTAT_STUCK n = false))

/-- Off-state tests run on idle channels and groups and give their results (model choices: log 48). What rests on log
48 is the model's choice. (R230, R231, R232) -/
def Obligations.ValveTests : Prop :=
  (∀ (n : Fin 128) (down : Bool) (up : Bool), Arrives (.hsonTest n down up) (fun u => u.deaf = false ∧
    u.flag VG_CFG_HSON_EN (n / 8) = true ∧ u.flag VG_STAT_HS_ON (n / 8) = true ∧ u.flag VG_CCFG_EN n = true ∧
      u.flag VG_CCFG_DIAG_EN n = true ∧ u.vPhase n = 0 ∧
        sampleEnd (u.vHsonDue n + (if down then 20000 else 40000)) < u.Tn)
    (ofInst [.VG_CSTAT] n.val ++ [(.VG_EVT, n.val / 8)] ++ evtRegs (104 + n.val / 8)) fun u t =>
      t.fld VG_CSTAT_HSON_RES n = (if down then 1 else if up then 2 else 3) ∧
        (t.valve n).testT = some (sampleEnd (u.vHsonDue n)) ∧ (down = false →
          t.rbit .VG_EVT (n / 8) (if up then 3 else 4) = true)) ∧
  (∀ (g : Fin 16), Arrives (.hsoffWindow g) (fun u => u.flag VG_CFG_WIN_EN g = true ∧ u.flag VG_CFG_EN g = true ∧
    u.flag VG_STAT_HS_ON g = true ∧ u.flag VG_STAT_WIN_ACTIVE g = false ∧ (∀ c : Fin 8, u.vPhase (8 * g + c) = 0 ∧
      u.flag VG_CSTAT_SS_LATCH (8 * g + c) = false ∧ u.flag VG_CSTAT_TT_LATCH (8 * g + c) = false) ∧
        (chans g).foldl (fun a k => max a (u.valve k).offSince) 0 + 200000 * u.fld VG_TEST_WIN_IDLE g < u.Tn ∧
          ((u.vgrp g).lastWin.all fun p => decide (p + 200000000 < u.Tn)) = true)
    (ofInst [.VG_STAT] g.val) fun _ t =>
      t.flag VG_STAT_HS_ON g = false ∧ t.flag VG_STAT_WIN_ACTIVE g = true) ∧
  (∀ (m : Fin 8) (g : Fin 16), Serves (.vgTwin m g) m .VG_CTRL g (fun u => (∀ c : Fin 8, u.vPhase (8 * g + c) = 0) ∧
    u.flag VG_STAT_HS_ON g = true ∧ u.flag VG_STAT_WIN_ACTIVE g = false)
    (ofInst [.VG_STAT] g.val) fun u t =>
      t.flag VG_STAT_HS_ON g = false ∧ t.flag VG_STAT_WIN_ACTIVE g = true ∧ (t.vgrp g).winT = u.Tn) ∧
  (∀ (m : Fin 8) (g : Fin 16), Refuses (.vgTwin m g) m .VG_CTRL g (fun u => (∃ c : Fin 8, u.vPhase (8 * g + c) ≠ 0)))
    ∧
  (∀ (g : Fin 16) (l : BitVec 8), Arrives (.testDone g l) (fun u => u.flag VG_STAT_WIN_ACTIVE g = true ∧
    u.flag VG_STAT_HS_ON g = true ∧ (u.vgrp g).winT + 64000 < u.Tn)
    (ofInst [.VG_STAT, .VG_GCNT, .VG_EVT] g.val ++ evtRegs (104 + g.val)) fun u t =>
      t.flag VG_STAT_WIN_ACTIVE g = false ∧
        t.fld VG_GCNT_WINDOWS g = (u.fld VG_GCNT_WINDOWS g + 1) % 2 ^ (VG_GCNT_WINDOWS.hi + 1 - VG_GCNT_WINDOWS.lo) ∧
          t.rbit .VG_EVT g 13 = true ∧ (u.rbit .VG_EVT_MASK g 13 = true → t.pends (104 + g) = true)) ∧
  (∀ (g : Fin 16) (l : BitVec 8), Arrives (.testDone g l) (fun u => u.flag VG_STAT_WIN_ACTIVE g = true ∧
    u.flag VG_STAT_HS_ON g = false ∧ (u.vgrp g).winT + 60000 < u.Tn ∧ u.Tn ≤ (u.vgrp g).winT + 64000 ∧
      ∀ c : Fin 8, u.flag VG_CCFG_EN (8 * g + c) = false)
    (ofInst [.VG_STAT] g.val) fun u t =>
      t.flag VG_STAT_HS_ON g = true ∧ t.flag VG_STAT_WIN_ACTIVE g = true ∧
        (t.vgrp g).hsOnT = (u.vgrp g).winT + 60000) ∧
  (∀ (g : Fin 16) (l : BitVec 8), Arrives (.testDone g l) (fun u => u.flag VG_STAT_WIN_ACTIVE g = true ∧
    u.flag VG_STAT_HS_ON g = false ∧ (u.vgrp g).winT + 60000 < u.Tn ∧ u.Tn ≤ (u.vgrp g).winT + 64000 ∧
      u.inReplay = false ∧ ∀ c : Fin 8, u.vPhase (8 * g + c) = 0)
    (groupRegs g) fun u t =>
      t.flag VG_STAT_HS_ON g = true ∧ (∀ c : Fin 8, u.flag VG_CCFG_EN (8 * g + c) = true →
        u.flag VG_CCFG_DIAG_EN (8 * g + c) = true →
          t.fld VG_CSTAT_HSOFF_RES (8 * g + c) = (if l.getLsbD c then 2 else 1) ∧ (l.getLsbD c = true →
            t.flag VG_CSTAT_SS_LATCH (8 * g + c) = true ∧ t.rbit .VG_EVT g 5 = true)) ∧
              (∀ c : Fin 8, u.flag VG_CCFG_EN (8 * g + c) = false ∨ u.flag VG_CCFG_DIAG_EN (8 * g + c) = false →
                t.get .VG_CSTAT (8 * g + c) = u.get .VG_CSTAT (8 * g + c)))

/-- Trips, shutdowns and low supplies turn high sides off, latch and report; a warm die is only shown (model choices:
log 117). What rests on log 117 is the model's choice. (R229, R233, R235, R237, R439, R461, R468, R481) -/
def Obligations.ValveProtection : Prop :=
  (∀ (g : Fin 16) (o : Fin 2000), Arrives (.hsTrip g o) (fun u => u.deaf = false)
    (groupRegs g) fun u t =>
      t.flag VG_STAT_HS_LATCH g = true ∧ t.flag VG_STAT_HS_ON g = false ∧ t.flag VG_STAT_WIN_ACTIVE g = false ∧
        t.rbit .VG_EVT g 11 = true ∧ (u.rbit .VG_EVT_MASK g 11 = true → t.pends (104 + g) = true) ∧
          (u.flag VG_STAT_HS_ON g = true → ∀ c : Fin 8, t.vPhase (8 * g + c) = 0 ∨ t.vPhase (8 * g + c) = 4)) ∧
  (∀ (d : Fin 4) (o : Fin 2000), Arrives (.groundOffsetTrip d o) (fun u => u.deaf = false)
    (((List.range 4).flatMap fun j => groupRegs (4 * d + j))) fun _ t =>
      (∀ j : Fin 4, t.flag VG_STAT_HS_LATCH (4 * d + j) = true ∧ t.flag VG_STAT_HS_ON (4 * d + j) = false ∧
        t.rbit .VG_EVT (4 * d + j) 11 = true)) ∧
  (∀ (d : Fin 4) (o : Fin 2000) (tj : Word), Arrives (.dieShut d o tj) (fun u => f32.le (degC 170) tj = true ∧
    u.rbit .VG_DIESTAT 0 d = false)
    (((List.range 4).flatMap fun j => groupRegs (4 * d + j)) ++ [(.VG_DIE, d.val), (.VG_DIESTAT, 0), (.MOD_FAULT, 0)]
      ++ evtRegs 124 ++ evtRegs 4) fun _ t =>
      t.rbit .VG_DIESTAT 0 d = true ∧ t.get .VG_DIE d = tj ∧ t.pends 124 = true ∧ t.pends 4 = true ∧ ¬ t.promised ∧
        bitAt (BitVec.ofNat 32 (t.fld MOD_FAULT_REACT 0)) 3 = true ∧
          (∀ j : Fin 4, t.flag VG_STAT_FORCED (4 * d + j) = true ∧ t.flag VG_STAT_HS_ON (4 * d + j) = false)) ∧
  (∀ (d : Fin 4) (o : Fin 2000) (tj : Word), Arrives (.dieShut d o tj) (fun _ => f32.le (degC 170) tj = false)
    [] fun u t =>
      t.valves = u.valves) ∧
  (∀ (d : Fin 4) (tj : Word), Arrives (.dieHot d tj) (fun u => f32.lt (degC 150) tj = true ∧
    u.rbit .VG_DIESTAT 0 (4 + d) = false)
    ([(.VG_DIE, d.val), (.VG_DIESTAT, 0)] ++ evtRegs (120 + d.val)) fun _ t =>
      t.rbit .VG_DIESTAT 0 (4 + d) = true ∧ t.get .VG_DIE d = tj ∧ t.pends (120 + d) = true) ∧
  (∀ (d : Fin 4) (tj : Word), Arrives (.dieCool d tj) (fun _ => f32.lt tj (degC 150) = true)
    [(.VG_DIE, d.val), (.VG_DIESTAT, 0)] fun u t =>
      t.rbit .VG_DIESTAT 0 (4 + d) = false ∧ t.get .VG_DIE d = tj ∧ t.rbit .VG_DIESTAT 0 d = u.rbit .VG_DIESTAT 0 d) ∧
  (∀ (g : Fin 16) (o : Fin 2000) (mv : Nat), Arrives (.vsupLow g o mv) (fun u => mv < 6000 ∧
    u.flag VG_STAT_VSUP_LOW g = false)
    (ofInst [.VG_STAT, .VG_VSUP, .VG_EVT] g.val ++ evtRegs (104 + g.val)) fun u t =>
      t.flag VG_STAT_VSUP_LOW g = true ∧ t.fld VG_VSUP_MV g = mv ∧ t.rbit .VG_EVT g 12 = true ∧
        (u.rbit .VG_EVT_MASK g 12 = true → t.pends (104 + g) = true)) ∧
  (∀ (g : Fin 16) (mv : Nat), Arrives (.vsupRestored g mv) (fun u => 6500 < mv ∧ u.flag VG_STAT_VSUP_LOW g = true)
    (ofInst [.VG_STAT, .VG_VSUP] g.val) fun _ t =>
      t.flag VG_STAT_VSUP_LOW g = false) ∧
  (∀ (g : Fin 16) (mv : Nat), Arrives (.vsupRestored g mv) (fun _ => mv ≤ 6500)
    [] fun u t =>
      t.flag VG_STAT_VSUP_LOW g = u.flag VG_STAT_VSUP_LOW g)

/-- Latches, counters and shutdowns are cleared by their bits; a channel is enabled or refused; an idle coil cools.
(R228, R231, R233, R234, R235, R237, R241) -/
def Obligations.ValveClears : Prop :=
  (∀ (m : Fin 8) (n : Fin 128), Serves (.vgLclr m n) m .VG_CCTRL n (fun u => u.vgLclrErr n = false)
    (groupRegs (n / 8)) fun u t =>
      t.flag VG_CSTAT_SS_LATCH n = false ∧ (f32.lt (degC (u.fld VG_CTHM_T_TRIP n)) (u.get .VG_CT n) = false →
        t.flag VG_CSTAT_TT_LATCH n = false)) ∧
  (∀ (m : Fin 8) (n : Fin 128), Refuses (.vgLclr m n) m .VG_CCTRL n (fun u => u.vgLclrErr n = true)) ∧
  (∀ (m : Fin 8) (n : Fin 128), Serves (.vgSclr m n) m .VG_CCTRL n (fun _ => True)
    (ofInst [.VG_CSTAT] n.val ++ [(.VG_EVT, n.val / 8)] ++ evtRegs (104 + n.val / 8)) fun u t =>
      t.flag VG_CSTAT_STUCK n = false ∧ (t.valve n).noOpen = 0 ∧ (t.valve n).noRel = 0 ∧
        (u.flag VG_CSTAT_STUCK n = true → t.rbit .VG_EVT (n / 8) 7 = true)) ∧
  (∀ (m : Fin 8) (n : Fin 128), Serves (.vgRlearn m n) m .VG_CCTRL n (fun _ => True)
    (ofInst [.VG_CSTAT] n.val) fun _ t =>
      t.flag VG_CSTAT_LEARN_PEND n = true) ∧
  (∀ (m : Fin 8) (n : Fin 128), Serves (.vgCctrlCclr m n) m .VG_CCTRL n (fun _ => True)
    (ofInst [.VG_CCNT] n.val) fun _ t =>
      t.get .VG_CCNT n = 0#32) ∧
  (∀ (m : Fin 8) (g : Fin 16), Serves (.vgCtrlCclr m g) m .VG_CTRL g (fun _ => True)
    ((chans g).flatMap (ofInst [.VG_CCNT]) ++ [(.VG_GCNT, g.val)]) fun _ t =>
      t.get .VG_GCNT g = 0#32 ∧ (∀ c : Fin 8, t.get .VG_CCNT (8 * g + c) = 0#32)) ∧
  (∀ (m : Fin 8) (g : Fin 16), Serves (.vgHsClr m g) m .VG_CTRL g (fun _ => True)
    (groupRegs g) fun _ t =>
      t.flag VG_STAT_HS_LATCH g = false ∧ t.flag VG_STAT_SG_LATCH g = false) ∧
  (∀ (m : Fin 8) (d : Fin 4), Serves (.vgDieClr m d) m .VG_CTRL 0 (fun u => u.rbit .VG_DIESTAT 0 (4 + d) = false)
    (((List.range 4).flatMap fun j => groupRegs (4 * d + j)) ++ [(.VG_DIESTAT, 0)]) fun u t =>
      t.rbit .VG_DIESTAT 0 d = false ∧
        (∀ j : Fin 4, t.flag VG_STAT_FORCED (4 * d + j) = u.rbit .PG_FLT_STAT 0 (16 + (4 * d + j)))) ∧
  (∀ (m : Fin 8) (d : Fin 4), Serves (.vgDieClr m d) m .VG_CTRL 0 (fun u => u.rbit .VG_DIESTAT 0 (4 + d) = true)
    [] fun u t =>
      t.valves = u.valves) ∧
  (∀ (m : Fin 8) (n : Fin 128) (v : Word), Serves (.vgChannelEnable m n v) m .VG_CCFG n (fun u => u.flag VG_CCFG_EN n
    = false ∧ u.vgReject n v = 0)
    (groupRegs (n / 8) ++ [(.VG_CCFG, n.val)]) fun _ t =>
      t.flag VG_CCFG_EN n = true ∧ t.fld VG_CSTAT_REJ n = 0 ∧ bitsOf (t.get .VG_CCFG n) 3 1 = bitsOf v 3 1 ∧
        t.fld VG_CCFG_STUCK_N n = max 1 (bitsOf v 11 8)) ∧
  (∀ (m : Fin 8) (n : Fin 128) (v : Word), Serves (.vgChannelEnable m n v) m .VG_CCFG n (fun u => u.flag VG_CCFG_EN n
    = false ∧ u.vgReject n v ≠ 0)
    (ofInst [.VG_CCFG, .VG_CSTAT] n.val ++ evtRegs 126) fun u t =>
      t.flag VG_CCFG_EN n = false ∧ t.fld VG_CSTAT_REJ n = u.vgReject n v ∧ t.pends 126 = true) ∧
  (∀ (n : Fin 128), Acts (.coilCooling n) (fun u => u.tick % 1000 = 0 ∧ u.flag VG_CCFG_THM_EN n = true ∧
    u.vPhase n = 0)
    (ofInst [.VG_CT, .VG_CSTAT] n.val ++ [(.VG_EVT, n.val / 8)] ++ evtRegs (104 + n.val / 8)) fun u t =>
      t.get .VG_CT n = f32.add (u.get .VG_TAMB (n / 8)) (f32.mul (f32.sub (u.get .VG_CT n) (u.get .VG_TAMB (n / 8)))
        (f32.exp (f32.neg (f32.div 0x3C23D70A#32 (f32.ofInt (u.fld VG_CTHM_TAU n)))))))

/-- A precision conversion gives its result with flags at its period end; an open wire marks what follows (model
choices: logs 132, 133 and 154). What rests on logs 132, 133 and 154 is the model's choice. (R281, R282, R283, R284,
R285, R288, R290, R291, R300, R310) -/
def Obligations.PrecisionChannels : Prop :=
  (∀ (n : Fin 32) (h : List Chop) (l : List Chop) (a : Bool) (b : Bool), Arrives (.pcConversionEnd n h l a b) (fun u
    => u.flag PC_CFG_EN n = true ∧ u.flag PC_ROT_STAT_INIT 0 = false ∧ u.T % u.pcPeriod n = 0 ∧
      (u.pc n).start + u.pcPeriod n ≤ u.T ∧ (u.pc n).last ≠ some u.T ∧ u.inReplay = false ∧ u.pcFit n h l = true ∧
        u.flag PC_CFG_SWAP n = false ∧ (u.pc n).disc = false ∧ (u.pc n).fresh = none)
    (ofInst [.PC_RAW, .PC_VAL, .PC_FLAGS, .PC_TIME_LO, .PC_TIME_HI, .PC_CNT, .PC_STAT, .PC_EVT, .PC_IEXC, .PC_IMATCH]
      n.val ++ ofAll [.DP_STAT] 4 ++ evtRegs (160 + n.val / 4)) fun u t =>
      t.get .PC_RAW n = intw (State.pcPath (u.fld PC_CFG_PATH n) (u.pc n) (u.pcCodeH n h) (u.pcCodeL n l) a b).1 ∧
        t.get .PC_VAL n = (u.pcValue n (State.pcPath (u.fld PC_CFG_PATH n) (u.pc n) (u.pcCodeH n h) (u.pcCodeL n l) a
          b).1 (u.pcIbar n)).1 ∧ t.fld PC_FLAGS_SEQ n = (u.fld PC_FLAGS_SEQ n + 1) % 2 ^ (PC_FLAGS_SEQ.hi + 1 -
            PC_FLAGS_SEQ.lo) ∧ t.fld PC_CNT_RESULTS n = (u.fld PC_CNT_RESULTS n + 1) % 2 ^ (PC_CNT_RESULTS.hi + 1 -
              PC_CNT_RESULTS.lo) ∧ t.get .PC_TIME_LO n = loW u.T ∧ t.get .PC_TIME_HI n = hiW u.T ∧
                bitAt (t.get .PC_FLAGS n) PC_FLAGS_FLAGS.lo = ((u.pc n).tripped || u.flag PC_STAT_OPEN_NOW n ||
                  decide (1 < (u.pc n).want)) ∧ t.flag PC_STAT_OPEN_NOW n = u.flag PC_STAT_OPEN_NOW n ∧
                    (t.pc n).last = some u.T ∧ (u.fld PC_CFG_PATH n = 0 → a = false → b = false →
                      8 * (u.pcCodeH n h).natAbs ≤ 7 * 2 ^ 23 → 8 * (u.pcCodeL n l).natAbs ≤ 7 * 2 ^ 23 →
      t.coef (u.fld PC_STAT_MOD n) =
        { u.coef (u.fld PC_STAT_MOD n) with gainL := State.crossStep (u.coef (u.fld PC_STAT_MOD n)).gainL (Config.crossGain (u.pcCodeH n h) (u.pcCodeL n l)), offL := State.crossStep (u.coef (u.fld PC_STAT_MOD n)).offL (Config.crossOffset (u.pcCodeH n h) (u.pcCodeL n l)) }) ∧ (u.fld PC_CFG_PATH n ≠ 0 ∨ a = true ∨ b = true → t.coefs = u.coefs)) ∧
  (∀ (n : Fin 32) (h : List Chop) (l : List Chop) (a : Bool) (b : Bool), Arrives (.pcConversionEnd n h l a b) (fun u
    => u.flag PC_CFG_EN n = true ∧ u.flag PC_ROT_STAT_INIT 0 = false ∧ u.T % u.pcPeriod n = 0 ∧
      (u.pc n).start + u.pcPeriod n ≤ u.T ∧ (u.pc n).last ≠ some u.T ∧ u.inReplay = false ∧ u.pcFit n h l = true ∧
        (u.pc n).disc = true)
    (ofInst [.PC_RAW, .PC_VAL, .PC_FLAGS, .PC_TIME_LO, .PC_TIME_HI, .PC_CNT, .PC_STAT, .PC_EVT, .PC_IEXC, .PC_IMATCH]
      n.val ++ ofAll [.DP_STAT] 4 ++ evtRegs (160 + n.val / 4)) fun u t =>
      t.get .PC_RAW n = 0#32 ∧ t.get .PC_VAL n = u.get .PC_VAL n ∧
        bitAt (t.get .PC_FLAGS n) (PC_FLAGS_FLAGS.lo + 1) = true ∧ (t.pc n).disc = false) ∧
  (∀ (n : Fin 32) (h : List Chop) (l : List Chop) (a : Bool) (b : Bool), Arrives (.pcConversionEnd n h l a b) (fun u
    => u.flag PC_CFG_EN n = true ∧ u.flag PC_ROT_STAT_INIT 0 = false ∧ u.T % u.pcPeriod n = 0 ∧
      (u.pc n).start + u.pcPeriod n ≤ u.T ∧ (u.pc n).last ≠ some u.T ∧ u.inReplay = false ∧ u.pcFit n h l = true ∧
        u.fld PC_CFG_PATH n = 2 ∧ u.fld PC_CFG_MEAS n = 0 ∧ u.flag PC_CFG_SWAP n = false ∧ (u.pc n).disc = false ∧
          (u.pc n).tripped = false ∧ (u.pc n).want ≤ 1 ∧ (u.pc n).settle = 0 ∧ (u.pc n).fresh = none ∧
            u.flag PC_STAT_OPEN_NOW n = false ∧ a = false ∧ (u.pcCodeH n h).natAbs ≤ 2 ^ 23 ∧
              (u.pc n).limHi = false ∧ f32.lt (u.get .PC_LIM_HI n) (u.pcVolt n (u.pcCodeH n h)) = true)
    (ofInst [.PC_RAW, .PC_VAL, .PC_FLAGS, .PC_TIME_LO, .PC_TIME_HI, .PC_CNT, .PC_STAT, .PC_EVT, .PC_IEXC, .PC_IMATCH]
      n.val ++ ofAll [.DP_STAT] 4 ++ evtRegs (160 + n.val / 4)) fun u t =>
      t.rbit .PC_EVT n 5 = true ∧ (u.rbit .PC_EVT_MASK n 5 = true → t.pends (160 + n / 4) = true) ∧
        (t.pc n).limHi = true ∧ (t.pc n).valid = some (u.pcVolt n (u.pcCodeH n h), u.T)) ∧
  (∀ (n : Fin 32) (h : List Chop) (l : List Chop) (a : Bool) (b : Bool), Arrives (.pcConversionEnd n h l a b) (fun u
    => u.flag PC_CFG_EN n = false ∨ u.flag PC_ROT_STAT_INIT 0 = true ∨ u.T % u.pcPeriod n ≠ 0 ∨ u.T < (u.pc n).start
      + u.pcPeriod n ∨ u.inReplay = true ∨ u.pcFit n h l = false)
    [] fun u t =>
      t.pcs = u.pcs ∧ t.coefs = u.coefs) ∧
  (∀ (n : Fin 32) (c : Source) (o : Fin 2000), Arrives (.openWireTrip ⟨n, c⟩ o) (fun u => u.deaf = false ∧
    u.flag PC_CFG_EN n = true ∧ u.fld PC_CFG_MEAS n ≠ 0 ∧ (c = .a ∨ u.flag PC_CFG_SWAP n = true) ∧
      u.pcTripped n c = false)
    (ofInst [.PC_STAT, .PC_EVT] n.val ++ evtRegs (160 + n.val / 4)) fun u t =>
      t.flag PC_STAT_OPEN_NOW n = true ∧ t.pcTripped n c = true ∧ (u.pcRuns n (u.clk o) = true →
        (t.pc n).tripped = true ∧ (t.pc n).disc = true) ∧ (u.pcRuns n (u.clk o) = false →
          (t.pc n).tripped = (u.pc n).tripped ∧ (t.pc n).disc = (u.pc n).disc) ∧ t.rbit .PC_EVT n 0 = true ∧
            (u.rbit .PC_EVT_MASK n 0 = true → t.pends (160 + n / 4) = true)) ∧
  (∀ (n : Fin 32) (c : Source) (o : Fin 2000), Arrives (.openWireTrip ⟨n, c⟩ o) (fun u => u.flag PC_CFG_EN n = false
    ∨ u.fld PC_CFG_MEAS n = 0 ∨ c = .b ∧ u.flag PC_CFG_SWAP n = false ∨ u.pcTripped n c = true)
    [] fun u t =>
      t.pcs = u.pcs) ∧
  (∀ (n : Fin 32) (c : Source), Arrives (.openWireRelease ⟨n, c⟩) (fun u => u.deaf = false)
    (ofInst [.PC_STAT] n.val) fun u t =>
      t.pcTripped n c = false ∧ (∀ d, d ≠ c → t.pcTripped n d = u.pcTripped n d ∧
        t.flag PC_STAT_OPEN_NOW n = u.pcTripped n d) ∧
          (t.pc n).tripped = ((u.pc n).tripped || (u.flag PC_STAT_OPEN_NOW n && u.pcRuns n u.T))) ∧
  (∀ (m : Fin 8) (n : Fin 32), Serves (.pcCclr m n) m .PC_CTRL n (fun _ => True)
    (ofInst [.PC_CNT] n.val) fun u t =>
      t.get .PC_CNT n = 0#32 ∧ t.rot = u.rot)

/-- The rotating spare takes requested channels first, exchanges converters and hands back the coefficients (model
choices: log 155). What rests on log 155 is the model's choice. (R293, R294, R295, R296, R297, R475) -/
def Obligations.CalibrationRotation : Prop :=
  (∀ (n : Fin 32) (t0 : Bool) (q : List (Nat × Bool)), Acts (.calSlotStart) (fun u => u.T % 400000000 = 0 ∧
    u.flag PC_ROT_STAT_INIT 0 = false ∧ u.rot.start ≠ u.T ∧ u.flag PC_ROT_ROT_EN 0 = true ∧
      u.flag PC_ROT_STAT_HALT 0 = false ∧ u.rot.queue = (n.val, t0) :: q)
    ([(.PC_ROT_STAT, 0), (.PC_STAT, n.val)] ++ evtRegs 181) fun u t =>
      t.rot.slot = some n.val ∧ t.rot.start = u.T ∧ t.rot.test = t0 ∧ t.rot.queue = q ∧ t.rot.next = u.rot.next ∧
        t.fld PC_ROT_STAT_SLOT 0 = n ∧
          t.fld PC_ROT_STAT_QDEPTH 0 = q.length % (2 ^ (PC_ROT_STAT_QDEPTH.hi + 1 - PC_ROT_STAT_QDEPTH.lo)) ∧
            t.flag PC_STAT_QUEUED n = (q.any fun x => x.1 == n.val) ∧ (u.flag PC_CFG_EN n = false →
              t.fld PC_STAT_MOD n = u.fld PC_ROT_STAT_SPARE 0 ∧ t.rot.taken = true ∧
                t.rot.retired = u.fld PC_STAT_MOD n) ∧ (u.flag PC_CFG_EN n = true → t.rot.taken = false)) ∧
  (∀ (n : Fin 33), Acts (.calSlotStart) (fun u => u.T % 400000000 = 0 ∧ u.flag PC_ROT_STAT_INIT 0 = false ∧
    u.rot.start ≠ u.T ∧ u.flag PC_ROT_ROT_EN 0 = true ∧ u.flag PC_ROT_STAT_HALT 0 = false ∧ u.rot.queue = [] ∧
      u.rot.next = n.val)
    ([(.PC_ROT_STAT, 0), (.PC_STAT, n.val)] ++ evtRegs 181) fun u t =>
      t.rot.slot = some n.val ∧ t.rot.next = (n.val + 1) % 33 ∧ t.rot.start = u.T ∧
        t.fld PC_ROT_STAT_SLOT 0 = n.val) ∧
  (Acts (.calSlotStart) (fun u => u.T % 400000000 = 0 ∧ u.flag PC_ROT_STAT_INIT 0 = false ∧ u.rot.start ≠ u.T ∧
    (u.flag PC_ROT_ROT_EN 0 = false ∨ u.flag PC_ROT_STAT_HALT 0 = true))
    ([] ++ evtRegs 181) fun u t =>
      t.rot.slot = none ∧ t.rot.queue = u.rot.queue) ∧
  (Acts (.calSlotStart) (fun u => u.T % 400000000 ≠ 0 ∨ u.flag PC_ROT_STAT_INIT 0 = true)
    [] fun u t =>
      t.rot = u.rot) ∧
  (∀ (n : Fin 32), Acts (.calTakeover) (fun u => u.rot.slot = some n.val ∧ u.rot.taken = false ∧
    (u.flag PC_CFG_EN n = true → u.T % u.pcPeriod n = 0 ∧ u.rot.start + u.pcPeriod n ≤ u.T))
    (ofInst [.PC_STAT] n.val) fun u t =>
      t.fld PC_STAT_MOD n = u.fld PC_ROT_STAT_SPARE 0 ∧ t.rot.taken = true ∧ t.rot.retired = u.fld PC_STAT_MOD n ∧
        (t.pc n).cal = true) ∧
  (∀ (n : Fin 32), Acts (.calTakeover) (fun u => u.rot.slot = some n.val ∧
    (u.rot.taken = true ∨ u.flag PC_CFG_EN n = true ∧ u.T < u.rot.start + u.pcPeriod n))
    [] fun u t =>
      t.rot = u.rot) ∧
  (∀ (n : Fin 32) (ia : Word) (ib : Word) (dv : Word) (c : PcCoef) (b : Bool), Acts (.calDone ia ib dv c b) (fun u =>
    u.rot.slot = some n.val ∧ u.rot.taken = true ∧ State.coefOk c = true ∧
      State.sourceOk (u.fld PC_CFG_IEXC n) ia = true ∧ State.sourceOk (u.fld PC_CFG_IEXC n) ib = true ∧
        u.rot.start + 380000000 ≤ u.T ∧ u.T < u.rot.start + 380002000)
    ([(.PC_ROT_STAT, 0), (.PC_STAT, n.val), (.PC_EVT, n.val)] ++ evtRegs (160 + n.val / 4)) fun u t =>
      t.fld PC_ROT_STAT_SPARE 0 = u.rot.retired % (2 ^ (PC_ROT_STAT_SPARE.hi + 1 - PC_ROT_STAT_SPARE.lo)) ∧
        t.coef u.rot.retired = c ∧ (t.pc n).fresh = some (ia, ib) ∧ (t.pc n).freshT = some u.rot.takenT ∧
          t.rbit .PC_EVT n 7 = true ∧ (u.rbit .PC_EVT_MASK n 7 = true → t.pends (160 + n / 4) = true) ∧
            (u.rot.test = true → t.fld PC_STAT_TEST n = (if b then 1 else 2) ∧ (b = false →
              t.rbit .PC_EVT n 6 = true)) ∧ (u.rot.test = false → t.fld PC_STAT_TEST n = u.fld PC_STAT_TEST n)) ∧
  (∀ (n : Fin 32) (ia : Word) (ib : Word) (dv : Word) (c : PcCoef) (b : Bool), Acts (.calDone ia ib dv c b) (fun u =>
    u.rot.slot = some n.val ∧ u.rot.taken = true ∧
      (State.coefOk c && State.sourceOk (u.fld PC_CFG_IEXC n) ia && State.sourceOk (u.fld PC_CFG_IEXC n) ib) = false
        ∧ u.rot.start + 380000000 ≤ u.T ∧ u.T < u.rot.start + 380002000)
    ([(.PC_ROT_STAT, 0), (.PC_STAT, n.val), (.PC_EVT, n.val)] ++ evtRegs 180 ++ evtRegs (160 + n.val / 4)) fun u t =>
      t.flag PC_ROT_STAT_HALT 0 = true ∧
        t.fld PC_ROT_STAT_FAILMOD 0 = u.rot.retired % (2 ^ (PC_ROT_STAT_FAILMOD.hi + 1 - PC_ROT_STAT_FAILMOD.lo)) ∧
          t.pends 180 = true ∧ t.rot.slot = none ∧ t.pcs = u.pcs ∧ t.coefs = u.coefs ∧ (u.rot.test = true →
            t.fld PC_STAT_TEST n = (if b then 1 else 2) ∧ (b = false → t.rbit .PC_EVT n 6 = true))) ∧
  (∀ (ia : Word) (ib : Word) (dv : Word) (c : PcCoef) (b : Bool), Acts (.calDone ia ib dv c b) (fun u => u.rot.slot =
    some 32 ∧ u.rot.taken = false ∧ u.rot.start + 380000000 ≤ u.T ∧ u.T < u.rot.start + 380002000)
    ([(.PC_REF, 0)] ++ evtRegs 182) fun u t =>
      t.get .PC_REF 0 = dv ∧ (f32.lt (f32.ofInt 100) (f32.abs dv) = true → t.pends 182 = true) ∧ t.pcs = u.pcs) ∧
  (∀ (ia : Word) (ib : Word) (dv : Word) (c : PcCoef) (b : Bool), Acts (.calDone ia ib dv c b) (fun u => u.T <
    u.rot.start + 380000000)
    [] fun u t =>
      t.rot = u.rot ∧ t.pcs = u.pcs) ∧
  (∀ (m : Fin 8) (n : Fin 32), Serves (.pcCalreq m n) m .PC_CTRL n (fun u => u.rot.slot ≠ some n.val ∧
    (u.rot.queue.any fun x => x.1 == n.val) = false)
    [(.PC_ROT_STAT, 0), (.PC_STAT, n.val)] fun u t =>
      t.rot.queue = u.rot.queue ++ [(n.val, false)] ∧ t.flag PC_STAT_QUEUED n = true ∧
        t.fld PC_ROT_STAT_QDEPTH 0 = (u.rot.queue.length + 1) % (2 ^ (PC_ROT_STAT_QDEPTH.hi + 1 -
          PC_ROT_STAT_QDEPTH.lo))) ∧
  (∀ (m : Fin 8) (n : Fin 32), Serves (.pcCalreq m n) m .PC_CTRL n (fun u => (u.rot.queue.any fun x => x.1 == n.val)
    = true ∨ u.rot.slot = some n.val ∧ u.rot.taken = false)
    [] fun u t =>
      t.rot.queue.map (·.1) = u.rot.queue.map (·.1) ∧ t.rot.slot = u.rot.slot) ∧
  (∀ (m : Fin 8) (n : Fin 32), Serves (.pcTestreq m n) m .PC_CTRL n (fun u => u.rot.slot ≠ some n.val ∧
    (u.rot.queue.any fun x => x.1 == n.val) = false)
    [(.PC_ROT_STAT, 0), (.PC_STAT, n.val)] fun u t =>
      t.rot.queue = u.rot.queue ++ [(n.val, true)] ∧ t.flag PC_STAT_QUEUED n = true) ∧
  (∀ (m : Fin 8) (n : Fin 32), Serves (.pcTestreq m n) m .PC_CTRL n (fun u => u.rot.slot = some n.val ∧
    u.rot.taken = false)
    [] fun u t =>
      t.rot.test = true ∧ t.rot.queue = u.rot.queue) ∧
  (∀ (c : List CalIn), Acts (.initCalEnd c) (fun u => u.flag PC_ROT_STAT_INIT 0 = true)
    ((.PC_ROT_STAT, 0) :: ofAll [.PC_IEXC, .PC_IMATCH] 32) fun u t =>
      t.flag PC_ROT_STAT_INIT 0 = false ∧ t.rot.slot = none ∧ t.rot.next = 0 ∧
        (∀ n : Fin 32, (t.pc n).ia = (c.getD n {}).ia ∧ (t.pc n).ib = (c.getD n {}).ib ∧
          t.get .PC_IEXC n = t.pcIbar n ∧
      (t.pc n).start = (u.T + u.pcPeriod n - 1) / u.pcPeriod n * u.pcPeriod n) ∧
        (∀ k : Fin 33, t.coef k = (c.getD k {}).coef)) ∧
  (∀ (c : List CalIn), Acts (.initCalEnd c) (fun u => u.flag PC_ROT_STAT_INIT 0 = false)
    [] fun u t =>
      t.pcs = u.pcs ∧ t.rot = u.rot)

/-- General and impedance results, the shunt, and the analog outputs (model choices: logs 42, 134 and 138). What rests
on logs 42, 134 and 138 is the model's choice. (R298, R299, R300, R301, R303, R304, R477) -/
def Obligations.GeneralSensors : Prop :=
  (∀ (n : Fin 32) (o : Fin 2000) (l : List GcSample), Arrives (.gcResult n o l) (fun u => u.deaf = false ∧
    u.flag GC_CFG_EN n = true ∧ l.length = 2 ^ u.fld GC_CFG_AVG n ∧ u.gcDue n (u.clk o) = true)
    (ofInst [.GC_RAW, .GC_VAL, .GC_TIME_LO, .GC_TIME_HI, .GC_STAT, .GC_EVT] n.val ++ evtRegs (168 + n.val / 8)) fun u
      t =>
      t.get .GC_VAL n = f32.mac (State.gcPhysical (u.fld GC_CFG_RANGE n) (divRNE ((l.map (u.gcCode n)).foldl (· + ·)
        0) l.length)) (u.get .GC_GAIN n) (u.get .GC_OFS n) ∧
          bitsOf (t.get .GC_RAW n) 15 0 = unsig 16 (divRNE ((l.map (u.gcCode n)).foldl (· + ·) 0) l.length) ∧
            bitAt (t.get .GC_RAW n) 16 = (l.map (u.gcCode n)).any (State.gcEnd (u.fld GC_CFG_RANGE n)) ∧
              t.get .GC_TIME_LO n = loW (u.clk o) ∧ t.get .GC_TIME_HI n = hiW (u.clk o) ∧ (t.gc n).seen = true ∧
                (t.gc n).due = u.clk o + u.gcPeriod n ∧
                  ((l.map (u.gcCode n)).any (State.gcEnd (u.fld GC_CFG_RANGE n)) = true → t.rbit .GC_EVT n 0 = true ∧
                    (u.rbit .GC_EVT_MASK n 0 = true → t.pends (168 + n / 8) = true))) ∧
  (∀ (n : Fin 32) (o : Fin 2000) (l : List GcSample), Arrives (.gcResult n o l) (fun u => u.flag GC_CFG_EN n = false
    ∨ l.length ≠ 2 ^ u.fld GC_CFG_AVG n ∨ u.gcDue n (u.clk o) = false ∨ u.deaf = true)
    [] fun u t =>
      t.gcs = u.gcs) ∧
  (∀ (n : Fin 32) (o : Fin 2000), Arrives (.shuntOff n o) (fun u => u.deaf = false ∧ u.flag GC_CFG_EN n = true ∧
    u.fld GC_CFG_RANGE n = 2 ∧ u.flag GC_STAT_SHUNT_OFF n = false)
    (ofInst [.GC_STAT, .GC_EVT] n.val ++ evtRegs (168 + n.val / 8)) fun u t =>
      t.flag GC_STAT_SHUNT_OFF n = true ∧ t.rbit .GC_EVT n 1 = true ∧ (u.rbit .GC_EVT_MASK n 1 = true →
        t.pends (168 + n / 8) = true)) ∧
  (∀ (n : Fin 32) (o : Fin 2000), Arrives (.shuntOff n o) (fun u => u.fld GC_CFG_RANGE n ≠ 2 ∨ u.flag GC_CFG_EN n =
    false)
    [] fun u t =>
      t.gcs = u.gcs) ∧
  (∀ (n : Fin 32), Arrives (.shuntReconnect n true) (fun u => u.deaf = false ∧ u.tick % 10000 = 0)
    (ofInst [.GC_STAT] n.val) fun _ t =>
      t.flag GC_STAT_SHUNT_OFF n = false) ∧
  (∀ (n : Fin 32) (b : Bool), Arrives (.shuntReconnect n b) (fun u => u.tick % 10000 ≠ 0 ∨ b = false)
    [] fun u t =>
      t.flag GC_STAT_SHUNT_OFF n = u.flag GC_STAT_SHUNT_OFF n) ∧
  (∀ (z : Fin 4) (re : Word) (im : Word) (b : Bool), Arrives (.zcMeasurement z re im b) (fun u => u.zcDue z = true ∧
    (u.zc z).idx < 4 ∧ u.flag ZC_CFG_TEMP_EN z = false ∧ ∀ p : Fin 4, u.dpEn p = false)
    (ofInst [.ZC_G, .ZC_B, .ZC_T, .ZC_STAT, .ZC_TIME_LO, .ZC_TIME_HI, .ZC_EVT] z.val ++ evtRegs (172 + z.val)) fun u
      t =>
      t.get .ZC_G z = f32.sub (f32.mul (u.get .ZC_K_RE (z.val * 4 + (u.zc z).idx)) (f32.sub re (u.get .ZC_Y0_RE
        (z.val * 4 + (u.zc z).idx)))) (f32.mul (u.get .ZC_K_IM (z.val * 4 + (u.zc z).idx)) (f32.sub im (u.get
          .ZC_Y0_IM (z.val * 4 + (u.zc z).idx)))) ∧
            t.get .ZC_B z = f32.add (f32.mul (u.get .ZC_K_RE (z.val * 4 + (u.zc z).idx)) (f32.sub im (u.get .ZC_Y0_IM
              (z.val * 4 + (u.zc z).idx)))) (f32.mul (u.get .ZC_K_IM (z.val * 4 + (u.zc z).idx)) (f32.sub re (u.get
                .ZC_Y0_RE (z.val * 4 + (u.zc z).idx)))) ∧ t.fld ZC_STAT_SLOT z = (u.zc z).idx ∧
                  t.flag ZC_STAT_OVR z = b ∧
                    (t.zc z).idx = (if u.fld ZC_CFG_NF z ≤ (u.zc z).idx then 0 else (u.zc z).idx + 1) ∧
                      t.get .ZC_T z = f32.nan ∧ t.get .ZC_TIME_LO z = loW u.T ∧ (b = true →
                        t.rbit .ZC_EVT z 0 = true ∧ t.pends (172 + z) = true)) ∧
  (∀ (z : Fin 4) (re : Word) (im : Word) (b : Bool), Arrives (.zcMeasurement z re im b) (fun u => u.zcDue z = false)
    [] fun u t =>
      t.zcs = u.zcs) ∧
  (∀ (m : Fin 8) (a : Fin 4) (v : Word), Serves (.aoValWrite m a v) m .AO_VAL a (fun u => u.flag AO_CFG_SRC a = false)
    (ofInst [.AO_VAL, .AO_STAT, .AO_EVT] a.val ++ evtRegs (176 + a.val)) fun u t =>
      t.get .AO_VAL a = v ∧ t.flag AO_STAT_CLAMP a = (u.aoCode a v).2 ∧
        (t.ao a).due = (u.ao a).due ++ [(u.tick + 3, (u.aoCode a v).1)] ∧ t.get .AO_CODE a = u.get .AO_CODE a ∧
          ((u.aoCode a v).2 = true → t.rbit .AO_EVT a 1 = true ∧ t.pends (176 + a) = true)) ∧
  (∀ (m : Fin 8) (a : Fin 4) (v : Word), Refuses (.aoValWrite m a v) m .AO_VAL a (fun u => u.flag AO_CFG_SRC a =
    true)) ∧
  (∀ (a : Fin 4) (o : Fin 2000), Arrives (.aoFault a o) (fun u => u.flag AO_CFG_EN a = true ∧
    u.flag AO_STAT_FAULT a = false ∧ u.flag AO_CFG_MODE a = true)
    (ofInst [.AO_STAT, .AO_EVT] a.val ++ evtRegs (176 + a.val)) fun _ t =>
      t.flag AO_STAT_FAULT a = true ∧ t.rbit .AO_EVT a 0 = true ∧ t.pends (176 + a) = true) ∧
  (∀ (a : Fin 4) (o : Fin 2000), Arrives (.aoFault a o) (fun u => u.flag AO_CFG_EN a = true ∧
    u.flag AO_STAT_FAULT a = false ∧ ((u.ao a).ask.any fun k => k + 200000 ≤ u.clk o) = true)
    (ofInst [.AO_STAT, .AO_EVT] a.val ++ evtRegs (176 + a.val)) fun _ t =>
      t.flag AO_STAT_FAULT a = true ∧ t.rbit .AO_EVT a 0 = true) ∧
  (∀ (a : Fin 4) (o : Fin 2000), Arrives (.aoFault a o) (fun u => u.flag AO_CFG_EN a = false ∨ u.flag AO_STAT_FAULT a
    = true ∨ u.flag AO_CFG_MODE a = false ∧ (u.ao a).ask = none)
    [] fun u t =>
      t.aos = u.aos)

/-- A drying path starts as configured, fills its column, and moves its parcels with the axis (model choices: logs 60,
61 and 136). What rests on logs 60, 61 and 136 is the model's choice. (R76, R342, R344, R345, R349, R350, R351, R353,
R356, R362) -/
def Obligations.DryingPaths : Prop :=
  (∀ (m : Fin 8) (p : Fin 4) (v : Word), Serves (.dpEnable m p v) m .DP_CFG p (fun u => u.dpEn p = false ∧
    u.dpReject p (putBits (u.merged m .DP_CFG p (v ||| 1#32)) 31 24 (clampN 1 255 (bitsOf (u.merged m .DP_CFG p (v
      ||| 1#32)) 31 24))) ≠ 0)
    (ofInst [.DP_CFG, .DP_STAT] p.val) fun u t =>
      t.dpEn p = false ∧ t.get .DP_CFG p = putBit (putBits (u.merged m .DP_CFG p (v ||| 1#32)) 31 24 (clampN 1 255
        (bitsOf (u.merged m .DP_CFG p (v ||| 1#32)) 31 24))) 0 false ∧
          t.fld DP_STAT_REJ p = u.dpReject p (putBits (u.merged m .DP_CFG p (v ||| 1#32)) 31 24 (clampN 1 255 (bitsOf
            (u.merged m .DP_CFG p (v ||| 1#32)) 31 24))) ∧ t.dps = u.dps) ∧
  (∀ (m : Fin 8) (p : Fin 4) (v : Word), ServesTo (.dpEnable m p v) m .DP_CFG p (fun u => u.dpEn p = false ∧
    u.dpReject p (putBits (u.merged m .DP_CFG p (v ||| 1#32)) 31 24 (clampN 1 255 (bitsOf (u.merged m .DP_CFG p (v
      ||| 1#32)) 31 24))) = 0 ∧
        bitsOf (putBits (u.merged m .DP_CFG p (v ||| 1#32)) 31 24 (clampN 1 255 (bitsOf (u.merged m .DP_CFG p (v |||
          1#32)) 31 24))) 4 3 = 2 ∧ (u.dp p).col = [] ∧ (u.dp p).out = [])
    (ofInst [.DP_CFG] p.val ++ ofInst [.DP_STAT, .DP_PARC, .DP_EVT, .DP_CNT] p.val ++ (List.range 4).map (fun i =>
      (.DP_OUT, 4 * p.val + i)) ++ evtRegs (200 + p.val)) (fun _ a => decide (0x01138000 + 0x10000 * p.val ≤ a) &&
        decide (a < 0x01148000 + 0x10000 * p.val)) fun u t =>
      t.get .DP_CFG p = (putBits (u.merged m .DP_CFG p (v ||| 1#32)) 31 24 (clampN 1 255 (bitsOf (u.merged m .DP_CFG
        p (v ||| 1#32)) 31 24))) ∧ t.dpState p = 2 ∧
          (t.dp p).p0 = u.axPos (bitsOf (putBits (u.merged m .DP_CFG p (v ||| 1#32)) 31 24 (clampN 1 255 (bitsOf
            (u.merged m .DP_CFG p (v ||| 1#32)) 31 24))) 12 8) ∧ (t.dp p).col.length = u.dpN p ∧
              ((t.dp p).col.all fun b => b.m == u.get .DP_MSEED p && b.seed) = true ∧ (t.dp p).step = (u.dp p).step) ∧
  (∀ (m : Fin 8) (p : Fin 4) (v : Word), Serves (.dpEnable m p v) m .DP_CFG p (fun u => u.dpEn p = false ∧
    u.dpReject p (putBits (u.merged m .DP_CFG p (v ||| 1#32)) 31 24 (clampN 1 255 (bitsOf (u.merged m .DP_CFG p (v
      ||| 1#32)) 31 24))) = 0 ∧
        bitsOf (putBits (u.merged m .DP_CFG p (v ||| 1#32)) 31 24 (clampN 1 255 (bitsOf (u.merged m .DP_CFG p (v |||
          1#32)) 31 24))) 4 3 = 0 ∧ (u.dp p).col = [] ∧ (u.dp p).out = [])
    (ofInst [.DP_CFG] p.val ++ ofInst [.DP_STAT, .DP_PARC, .DP_EVT, .DP_CNT] p.val ++ (List.range 4).map (fun i =>
      (.DP_OUT, 4 * p.val + i)) ++ evtRegs (200 + p.val)) fun u t =>
      t.get .DP_CFG p = (putBits (u.merged m .DP_CFG p (v ||| 1#32)) 31 24 (clampN 1 255 (bitsOf (u.merged m .DP_CFG
        p (v ||| 1#32)) 31 24))) ∧ t.dpState p = 1 ∧ (t.dp p).ts = u.Tn ∧ (t.dp p).col = [] ∧ (t.dp p).bins = []) ∧
  (∀ (m : Fin 8) (p : Fin 4) (v : Word), ServesTo (.dpEnable m p v) m .DP_CFG p (fun u => u.dpEn p = false ∧
    u.dpReject p (putBits (u.merged m .DP_CFG p (v ||| 1#32)) 31 24 (clampN 1 255 (bitsOf (u.merged m .DP_CFG p (v
      ||| 1#32)) 31 24))) = 0 ∧
        bitsOf (putBits (u.merged m .DP_CFG p (v ||| 1#32)) 31 24 (clampN 1 255 (bitsOf (u.merged m .DP_CFG p (v |||
          1#32)) 31 24))) 4 3 = 1 ∧ (u.dp p).col = [] ∧ (u.dp p).out = [])
    (ofInst [.DP_CFG] p.val ++ ofInst [.DP_STAT, .DP_PARC, .DP_EVT, .DP_CNT] p.val ++ (List.range 4).map (fun i =>
      (.DP_OUT, 4 * p.val + i)) ++ evtRegs (200 + p.val)) (fun _ a => decide (0x01138000 + 0x10000 * p.val ≤ a) &&
        decide (a < 0x01148000 + 0x10000 * p.val)) fun u t =>
      t.get .DP_CFG p = (putBits (u.merged m .DP_CFG p (v ||| 1#32)) 31 24 (clampN 1 255 (bitsOf (u.merged m .DP_CFG
        p (v ||| 1#32)) 31 24))) ∧ t.dpState p = 1 ∧
          (t.dp p).col.length = min (u.fld DP_FILL_FILL p) (u.dpVcol p) / u.dpVp p ∧
            ((t.dp p).col.all fun b => b.m == u.get .DP_MSEED p && b.seed) = true ∧
              (t.dp p).seeds = (t.dp p).col.length ∧ (t.dp p).ts = u.Tn ∧ (t.dp p).bins = []) ∧
  (∀ (p : Fin 4), Acts (.parcelBoundary p) (fun u => u.dpBoundaryDue p = false)
    [] fun u t =>
      t.dps = u.dps) ∧
  (∀ (p : Fin 4), ActsTo (.parcelBoundary p) (fun u => u.dpBoundaryDue p = true ∧ (u.dp p).ins = [] ∧
    (u.dp p).col.length < u.dpN p ∧ ((u.dp p).nbTick ≠ u.tick ∨ (u.dp p).nbN ≠ 4))
    (ofInst [.DP_STAT, .DP_PARC, .DP_EVT, .DP_CNT] p.val ++ (List.range 4).map (fun i => (.DP_OUT, 4 * p.val + i)) ++
      evtRegs (200 + p.val)) (fun u a => (decide (State.parcelAt p (((u.dp p).top + 1) % 1024) ≤ a) && decide (a <
        State.parcelAt p (((u.dp p).top + 1) % 1024) + 64))) fun u t =>
      (t.dp p).nb = wrap48 ((u.dp p).nb + State.litres (u.dpVp p)) ∧ (t.dp p).top = ((u.dp p).top + 1) % 1024 ∧
        (t.dp p).col.length = (u.dp p).col.length + 1 ∧ (t.dp p).out = (u.dp p).out ∧
          (t.dp p).col.getLast?.map (fun b => (b.pc, b.m, b.tg, b.noMeas)) = some ((u.dp p).nb, ((u.dp p).last.getD
            (u.get .DP_MSEED p, State.twenty)).1, ((u.dp p).last.getD (u.get .DP_MSEED p, State.twenty)).2, true) ∧
              t.rdWord (State.parcelAt p (((u.dp p).top + 1) % 1024) + 12) = ((u.dp p).last.getD (u.get .DP_MSEED p,
                State.twenty)).1 ∧ t.fld DP_CNT_NOMEAS p = min (u.fld DP_CNT_NOMEAS p + 1) (2 ^ (DP_CNT_NOMEAS.hi + 1
                  - DP_CNT_NOMEAS.lo) - 1) ∧ t.rbit .DP_EVT p 1 = true ∧ (u.rbit .DP_EVT_MASK p 1 = true →
                    t.pends (200 + p) = true)) ∧
  (∀ (p : Fin 4) (b : Parcel) (r : List Parcel) (x : Int) (y : Word), ActsTo (.parcelBoundary p) (fun u =>
    u.dpBoundaryDue p = true ∧ (u.dp p).col = b :: r ∧ u.dpN p ≤ r.length + 1 ∧ (u.dp p).ins = [(x, y, none)] ∧
      0 ≤ diff48 x (wrap48 ((u.dp p).nb - State.litres (u.dpVp p))) ∧ diff48 x (u.dp p).nb < 0 ∧
        ((u.dp p).nbTick ≠ u.tick ∨ (u.dp p).nbN ≠ 4))
    (ofInst [.DP_STAT, .DP_PARC, .DP_EVT, .DP_CNT] p.val ++ (List.range 4).map (fun i => (.DP_OUT, 4 * p.val + i)) ++
      evtRegs (200 + p.val)) (fun u a => (decide (State.parcelAt p b.slot ≤ a) && decide (a < State.parcelAt p b.slot
        + 64)) || (decide (State.parcelAt p (((u.dp p).top + 1) % 1024) ≤ a) && decide (a < State.parcelAt p (((u.dp
          p).top + 1) % 1024) + 64))) fun u t =>
      (t.dp p).nb = wrap48 ((u.dp p).nb + State.litres (u.dpVp p)) ∧ (t.dp p).top = ((u.dp p).top + 1) % 1024 ∧
        (t.dp p).out = (u.dp p).out ++ [{ b with dis := true }] ∧ (t.dp p).col.length = r.length + 1 ∧
          (t.dp p).col.getLast?.map (fun b => (b.pc, b.m, b.noMeas)) = some ((u.dp p).nb, State.meanOf [y], false) ∧
            t.fld DP_CNT_NOMEAS p = u.fld DP_CNT_NOMEAS p) ∧
  (∀ (p : Fin 4), ActsTo (.parcelBoundary p) (fun u => u.dpBoundaryDue p = true ∧ (u.dp p).col.length < u.dpN p ∧
    (u.dp p).nbTick = u.tick ∧ (u.dp p).nbN = 4)
    (ofInst [.DP_STAT, .DP_PARC, .DP_EVT, .DP_CNT] p.val ++ (List.range 4).map (fun i => (.DP_OUT, 4 * p.val + i)) ++
      evtRegs (200 + p.val) ++ [(.MOD_FAULT, 0)]) (fun u a => (decide (State.parcelAt p (((u.dp p).top + 1) % 1024) ≤
        a) && decide (a < State.parcelAt p (((u.dp p).top + 1) % 1024) + 64))) fun u t =>
      t.flag MOD_FAULT_PROMISE 0 = true ∧ t.rbit .DP_EVT p 8 = true ∧ (u.rbit .DP_EVT_MASK p 8 = true →
        t.pends (200 + p) = true) ∧ (t.dp p).nbN = 5) ∧
  (∀ (p : Fin 4), Acts (.parcelDischarge p) (fun u => u.dpOutletDue p = false)
    [] fun u t =>
      t.dps = u.dps) ∧
  (∀ (p : Fin 4) (q : Fin 48) (b : Parcel) (r : List Parcel), ActsTo (.parcelDischarge p) (fun u => q.val = 46 +
    u.fld DP_CFG_Q p ∧ u.roomy q = true ∧ u.dpOutletDue p = true ∧ (u.dp p).out = b :: r ∧ b.slot < 1024 ∧
      (u.qNext q + qSize q ≤ 0x01138000 ∨ 0x01178000 ≤ u.qNext q) ∧ u.flag DP_SENS_OUT_EN p = false)
    (ofInst [.DP_STAT, .DP_PARC, .DP_EVT, .DP_CNT] p.val ++ (List.range 4).map (fun i => (.DP_OUT, 4 * p.val + i)) ++
      evtRegs (200 + p.val) ++ [(.DP_BIAS, p.val)] ++ qRegs q) (fun u a => u.inSlot q a || (decide (State.parcelAt p
        b.slot ≤ a) && decide (a < State.parcelAt p b.slot + 64))) fun u t =>
      (t.dp p).out = r ∧ t.get .DP_OUT (4 * p + 1) = f32.nan ∧ t.get .DP_BIAS p = u.get .DP_BIAS p ∧
        t.fld DP_CNT_RECORDS p = (u.fld DP_CNT_RECORDS p + 1) % 2 ^ (DP_CNT_RECORDS.hi + 1 - DP_CNT_RECORDS.lo) ∧
          t.rbit .DP_EVT p 2 = true ∧ (u.rbit .DP_EVT_MASK p 2 = true → t.pends (200 + p) = true) ∧
            t.rdWord (State.parcelAt p b.slot) = 0#32 ∧
              took q (([BitVec.ofNat 32 (2 ^ 28 + p.val * 2 ^ 26 + (b2n b.seed * 16 + b2n b.filled * 8 + b2n b.noMeas
                * 4 + 2 + b2n b.zl) * 2 ^ 21 + b.seq), loW u.T, hiW u.T, loW (unsig 48 (u.dpPos p)), hiW (unsig 48
                  (u.dpPos p)), b.mIn, b.m, f32.nan, u.get .DP_BIAS p, b.tgMax, BitVec.ofNat 32 b.steps,
                    0#32]).flatMap wordBytes) u t) ∧
  (∀ (p : Fin 4) (q : Fin 48) (b : Parcel) (r : List Parcel), ActsTo (.parcelDischarge p) (fun u => q.val = 46 +
    u.fld DP_CFG_Q p ∧ u.roomy q = true ∧ u.dpOutletDue p = true ∧ (u.dp p).out = b :: r ∧ b.slot < 1024 ∧
      (u.qNext q + qSize q ≤ 0x01138000 ∨ 0x01178000 ≤ u.qNext q) ∧ u.flag DP_SENS_OUT_EN p = true ∧ b.outN ≠ 0 ∧
        b.seed = false ∧ f32.lt (f32.abs (f32.add (u.get .DP_BIAS p) (f32.mul (f32.sub (f32.sub (f32.div b.outSum
          (f32.ofInt b.outN)) b.m) (u.get .DP_BIAS p)) (f32.ofScaled 1 (u.fld DP_BIASCFG_BK p))))) (f32.ofRat (u.fld
            DP_BIASCFG_BLIM p) 100) = true)
    (ofInst [.DP_STAT, .DP_PARC, .DP_EVT, .DP_CNT] p.val ++ (List.range 4).map (fun i => (.DP_OUT, 4 * p.val + i)) ++
      evtRegs (200 + p.val) ++ [(.DP_BIAS, p.val)] ++ qRegs q) (fun u a => u.inSlot q a || (decide (State.parcelAt p
        b.slot ≤ a) && decide (a < State.parcelAt p b.slot + 64))) fun u t =>
      (t.dp p).out = r ∧ t.get .DP_OUT (4 * p + 1) = (f32.div b.outSum (f32.ofInt b.outN)) ∧
        t.get .DP_BIAS p = (f32.add (u.get .DP_BIAS p) (f32.mul (f32.sub (f32.sub (f32.div b.outSum (f32.ofInt
          b.outN)) b.m) (u.get .DP_BIAS p)) (f32.ofScaled 1 (u.fld DP_BIASCFG_BK p)))) ∧
            t.rdWord (State.parcelAt p b.slot) = 0#32 ∧
              took q (([BitVec.ofNat 32 (2 ^ 28 + p.val * 2 ^ 26 + (b2n b.seed * 16 + b2n b.filled * 8 + b2n b.noMeas
                * 4 + 0 + b2n b.zl) * 2 ^ 21 + b.seq), loW u.T, hiW u.T, loW (unsig 48 (u.dpPos p)), hiW (unsig 48
                  (u.dpPos p)), b.mIn, b.m, (f32.div b.outSum (f32.ofInt b.outN)), (f32.add (u.get .DP_BIAS p)
                    (f32.mul (f32.sub (f32.sub (f32.div b.outSum (f32.ofInt b.outN)) b.m) (u.get .DP_BIAS p))
                      (f32.ofScaled 1 (u.fld DP_BIASCFG_BK p)))), b.tgMax, BitVec.ofNat 32 b.steps, 0#32]).flatMap
                        wordBytes) u t) ∧
  (∀ (p : Fin 4), Acts (.fillDone p) (fun u => u.dpEn p = false ∨ u.dpState p ≠ 1 ∨ u.flag DP_SENS_LVL_EN p = false)
    [] fun u t =>
      t.dps = u.dps) ∧
  (∀ (p : Fin 4), ActsTo (.fillDone p) (fun u => u.dpEn p = true ∧ u.dpState p = 1 ∧ u.flag DP_SENS_LVL_EN p = true ∧
    (u.fld FB_STAT_LVL (u.fld DP_SENS_LVL_FB p) % 2 == 1) = u.flag DP_SENS_LVL_POL p ∧
      (∀ b ∈ (u.dp p).col, b.slot < 1024))
    (ofInst [.DP_STAT, .DP_PARC, .DP_EVT, .DP_CNT] p.val ++ (List.range 4).map (fun i => (.DP_OUT, 4 * p.val + i)) ++
      evtRegs (200 + p.val)) (fun _ a => decide (0x01138000 + 0x10000 * p.val ≤ a) && decide (a < 0x01148000 +
        0x10000 * p.val)) fun u t =>
      u.dpState p ≠ 2 ∧ t.dpState p = 2 ∧ (t.dp p).p0 = u.dpPos p ∧
        (t.dp p).col.map (·.pc) = (List.range ((u.dp p).col.length + (u.dpN p - (u.dp p).seeds))).map (fun i =>
          u.parcelPc p (u.dpPos p) (i + 1)) ∧ t.rbit .DP_EVT p 4 = true ∧ (u.rbit .DP_EVT_MASK p 4 = true →
            t.pends (200 + p) = true) ∧ (t.dp p).bins = []) ∧
  (∀ (m : Fin 8) (p : Fin 4), Serves (.dpFull m p) m .DP_CTRL p (fun u => u.dpState p = 1)
    [] fun u t =>
      (t.dp p).enter = 1 ∧ t.dpState p = 1 ∧ (t.dp p).col = (u.dp p).col ∧ (t.dp p).bins = (u.dp p).bins) ∧
  (∀ (p : Fin 4) (s : State), s.dpEn p = true → s.dpState p = 1 → (s.dp p).enter = 1 →
    (∀ b ∈ (s.dp p).col, b.slot < 1024) → 
    let t := State.dpEnter p s
    s.dpState p ≠ 2 ∧ t.dpState p = 2 ∧ (t.dp p).p0 = s.dpPos p ∧
      (t.dp p).col.map (·.pc) = (List.range ((s.dp p).col.length + (s.dpN p - (s.dp p).seeds))).map (fun i =>
        s.parcelPc p (s.dpPos p) (i + 1)) ∧ t.rbit .DP_EVT p 4 = true ∧ (s.rbit .DP_EVT_MASK p 4 = true →
          t.pends (200 + p) = true) ∧ (t.dp p).bins = [] ∧ (t.dp p).enter = 0 ∧
            State.onlyBut (ofInst [.DP_STAT, .DP_PARC, .DP_EVT, .DP_CNT] p.val ++ (List.range 4).map (fun i =>
              (.DP_OUT, 4 * p.val + i)) ++ evtRegs (200 + p.val)) (fun a => decide (0x01138000 + 0x10000 * p.val ≤ a)
                && decide (a < 0x01148000 + 0x10000 * p.val)) s t) ∧
  (∀ (p : Fin 4) (s : State), (∀ x : Fin 4, (s.dp x).enter = 0) → s.dpEn p = true → s.dpState p = 2 →
    s.dpBatch p = false → diff48 (s.dpPos p) (s.dp p).fmax < 0 → 
    let t := State.dpTrack s
    t.flag DP_STAT_REV p = true ∧ t.dp p = s.dp p ∧ (s.flag DP_STAT_REV p = false → t.rbit .DP_EVT p 3 = true ∧
      (s.rbit .DP_EVT_MASK p 3 = true → t.pends (200 + p) = true)) ∧
        State.only (ofAll [.DP_STAT, .DP_EVT] 4 ++ evtRegs 200 ++ evtRegs 201 ++ evtRegs 202 ++ evtRegs 203) s t) ∧
  (∀ (p : Fin 4) (s : State), (∀ x : Fin 4, (s.dp x).enter = 0) → s.dpEn p = true → s.dpState p = 2 →
    s.dpBatch p = false → 0 < diff48 (s.dpPos p) (s.dp p).fmax → 
    let t := State.dpTrack s
    t.flag DP_STAT_REV p = false ∧ t.dp p = { s.dp p with fmax := s.dpPos p } ∧
      State.only (ofAll [.DP_STAT, .DP_EVT] 4 ++ evtRegs 200 ++ evtRegs 201 ++ evtRegs 202 ++ evtRegs 203) s t) ∧
  (∀ (p : Fin 4) (q : Fin 48) (b : Parcel) (r : List Parcel) (s : State), s.dpState p = 3 → (∀ x : Fin 4, x ≠ p →
    s.dpState x ≠ 3) → (s.dp p).col = b :: r → b.slot < 1024 → q.val = 46 + s.fld DP_CFG_Q p → s.roomy q = true →
      (s.qNext q + qSize q ≤ 0x01138000 ∨ 0x01178000 ≤ s.qNext q) → 
    let t := State.dpUnloadPhase s
    (t.dp p).col = r ∧ t.dpState p = (if r = [] then 1 else 3) ∧ t.rdWord (State.parcelAt p b.slot) = 0#32 ∧
      t.fld DP_CNT_RECORDS p = (s.fld DP_CNT_RECORDS p + 1) % 2 ^ (DP_CNT_RECORDS.hi + 1 - DP_CNT_RECORDS.lo) ∧
        took q (([BitVec.ofNat 32 (2 ^ 29 + p.val * 2 ^ 26 + (b2n b.seed * 16 + b2n b.filled * 8 + b2n b.noMeas * 4 +
          2 + b2n b.zl) * 2 ^ 21 + b.seq), loW s.T, hiW s.T, loW (unsig 48 (s.dpPos p)), hiW (unsig 48 (s.dpPos p)),
            b.mIn, b.m, f32.nan, s.get .DP_BIAS p, b.tgMax, BitVec.ofNat 32 b.steps, 0#32]).flatMap wordBytes) s t ∧
              State.onlyBut (ofInst [.DP_STAT, .DP_PARC, .DP_EVT, .DP_CNT] p.val ++ (List.range 4).map (fun i =>
                (.DP_OUT, 4 * p.val + i)) ++ evtRegs (200 + p.val) ++ [(.DP_BIAS, p.val)] ++ qRegs q) (fun a =>
                  s.inSlot q a || (decide (State.parcelAt p b.slot ≤ a) && decide (a < State.parcelAt p b.slot +
                    64))) s t) ∧
  (∀ (m : Fin 8) (p : Fin 4), Serves (.dpFull m p) m .DP_CTRL p (fun u => u.dpState p ≠ 1)
    [] fun u t =>
      t.dps = u.dps)

/-- The model steps each second and applies 100 ticks later; zones, sensors and bins are watched (model choices: logs
57, 62, 64 and 136). What rests on logs 57, 62, 64 and 136 is the model's choice. (R341, R343, R347, R348, R349, R353,
R355, R357, R358, R359, R362) -/
def Obligations.DryingModel : Prop :=
  (Acts (.modelStepDispatch) (fun u => u.tick % 100000 ≠ 0)
    [] fun u t =>
      t.dps = u.dps) ∧
  (Acts (.modelStepDispatch) (fun u => u.tick % 100000 = 0)
    [] fun u t =>
      (∀ p : Fin 4, u.dpEn p = true → u.dpState p = 2 → (u.dp p).step = none →
        (t.dp p).step.map (fun e => (e.k, e.res.map fun x => (x.slot, x.seq))) = some (u.tick, (u.dp p).col.map fun b
          => (b.slot, b.seq))) ∧ (∀ p : Fin 4, u.dpEn p = false ∨ u.dpState p ≠ 2 → t.dp p = u.dp p) ∧
            (∀ p : Fin 4, (t.dp p).col = (u.dp p).col)) ∧
  (Acts (.modelStepApply) (fun u => ∀ p : Fin 4, ∀ e, (u.dp p).step = some e → e.k + 100 ≠ u.tick)
    [] fun u t =>
      t.dps = u.dps) ∧
  (∀ (p : Fin 4) (b : Parcel) (k0 : Nat) (m1 : Word) (g1 : Word) (q1 : Word), ActsTo (.modelStepApply) (fun u =>
    (u.dp p).col = [b] ∧ (u.dp p).step = some
      { k := k0, res := [{ slot := b.slot, seq := b.seq, stepped := some (m1, g1), pred := some q1 }] } ∧
        k0 + 100 = u.tick ∧ u.dpBatch p = false ∧ ∀ x : Fin 4, x ≠ p → (u.dp x).step = none)
    (ofInst [.DP_STAT, .DP_PARC, .DP_EVT, .DP_CNT] p.val ++ (List.range 4).map (fun i => (.DP_OUT, 4 * p.val + i)) ++
      evtRegs (200 + p.val)) (fun _ a => (decide (State.parcelAt p b.slot ≤ a) && decide (a < State.parcelAt p b.slot
        + 64))) fun _ t =>
      (t.dp p).step = none ∧ (t.dp p).col =
        [{ b with m := m1, tg := g1, tgMax := f32.max b.tgMax g1, steps := b.steps + 1, pred := q1 }] ∧
          t.rdWord (State.parcelAt p b.slot + 12) = m1 ∧ t.rdWord (State.parcelAt p b.slot + 28) = q1) ∧
  (∀ (m : Fin 8) (p : Fin 4), Serves (.dpUnload m p) m .DP_CTRL p (fun u => u.dpBatch p = true ∧ u.dpState p = 2)
    (ofInst [.DP_STAT] p.val) fun u t =>
      t.dpState p = 3 ∧ t.dps = u.dps) ∧
  (∀ (m : Fin 8) (p : Fin 4), Serves (.dpUnload m p) m .DP_CTRL p (fun u => u.dpBatch p = false ∨ u.dpState p ≠ 2)
    [] fun u t =>
      t.dpState p = u.dpState p ∧ t.dps = u.dps) ∧
  (∀ (m : Fin 8) (p : Fin 4), Serves (.dpBclr m p) m .DP_CTRL p (fun _ => True)
    (ofInst [.DP_BIAS] p.val) fun u t =>
      t.get .DP_BIAS p = 0#32 ∧ t.dps = u.dps) ∧
  (∀ (m : Fin 8) (p : Fin 4), Serves (.dpCclr m p) m .DP_CTRL p (fun _ => True)
    (ofInst [.DP_CNT] p.val) fun u t =>
      t.get .DP_CNT p = 0#32 ∧ t.dps = u.dps) ∧
  (∀ (p : Fin 4) (z : Fin 4), Acts (.zoneLost p z) (fun u => u.dpEn p = true ∧ z.val < u.dpZones p ∧
    u.rbit .DP_STAT p (8 + z) = false ∧ u.zoneTemp p z = none)
    (ofInst [.DP_STAT, .DP_EVT] p.val ++ evtRegs (200 + p.val)) fun u t =>
      t.rbit .DP_STAT p (8 + z) = true ∧ t.rbit .DP_EVT p 6 = true ∧ (u.rbit .DP_EVT_MASK p 6 = true →
        t.pends (200 + p) = true) ∧
          (t.dp p).col.map (·.zl) = (u.dp p).col.map (fun b => b.zl || decide (u.zoneOf p (u.parcelDepth p b) = some
            z.val)) ∧ (t.dp p).col.map (·.m) = (u.dp p).col.map (·.m)) ∧
  (∀ (p : Fin 4) (z : Fin 4), Acts (.zoneLost p z) (fun u => u.dpEn p = false ∨ u.dpZones p ≤ z.val ∨ u.rbit .DP_STAT
    p (8 + z) = true ∨ u.zoneTemp p z ≠ none)
    [] fun u t =>
      t.dps = u.dps) ∧
  (∀ (p : Fin 4), Arrives (.lockout p) (fun u => u.flag DP_HEAT_EN p = true ∧
    (u.fld FB_STAT_LVL (u.fld DP_HEAT_FB p) % 2 == 1) = u.flag DP_HEAT_POL p ∧ u.flag DP_STAT_LOCKOUT p = false)
    (ofInst [.DP_STAT, .DP_EVT] p.val ++ evtRegs (200 + p.val)) fun u t =>
      t.flag DP_STAT_LOCKOUT p = true ∧ t.rbit .DP_EVT p 9 = true ∧ (u.rbit .DP_EVT_MASK p 9 = true →
        t.pends (200 + p) = true)) ∧
  (∀ (p : Fin 4), Arrives (.lockout p) (fun u => u.flag DP_HEAT_EN p = false ∨ (u.fld FB_STAT_LVL (u.fld DP_HEAT_FB
    p) % 2 == 1) = !u.flag DP_HEAT_POL p)
    (ofInst [.DP_STAT] p.val) fun _ t =>
      t.flag DP_STAT_LOCKOUT p = false) ∧
  (∀ (n : Fin 32) (k : Nat), Acts (.seStale n) (fun u => SMap.get none u.sensT n = some k ∧
    u.flag DP_SE_CFG_EN n = true ∧ k + 200000000 * u.fld DP_SE_TO_TO 0 ≤ u.T)
    (ofInst [.DP_SE_VAL] n.val ++ evtRegs 207) fun _ t =>
      t.get .DP_SE_VAL n = f32.nan ∧ t.pends 207 = true ∧ SMap.get none t.sensT n = none) ∧
  (∀ (n : Fin 32), Acts (.seStale n) (fun u => SMap.get none u.sensT n = none)
    [] fun u t =>
      t.sensT = u.sensT) ∧
  (Acts (.binEvaluation) (fun u => u.tick % 6000000 ≠ 0)
    [] fun u t =>
      t.aeSince = u.aeSince) ∧
  (Acts (.binEvaluation) (fun u => u.tick % 6000000 = 0)
    (ofAll [.DP_AE_STAT] 8 ++ evtRegs 205 ++ evtRegs 206) fun u t =>
      (∀ b : Fin 8, u.flag DP_AE_CFG_EN b = true →
        t.fld DP_AE_STAT_NSENS b = (u.binSensors b).length % (2 ^ (DP_AE_STAT_NSENS.hi + 1 - DP_AE_STAT_NSENS.lo)) ∧
          t.rbit .DP_AE_STAT b 1 = ((u.binSensors b).any fun x => f32.le (f32.ofInt (u.fld DP_AE_LIM_ALARM b)) x)) ∧
            (∀ b : Fin 8, u.flag DP_AE_CFG_EN b = true → (u.binSensors b = [] ∨ u.ambient = none) →
              t.rbit .DP_AE_STAT b 2 = true ∧ (SMap.get 0 u.aeSince b + 6000000 * u.fld DP_AE_CFG_MIN_ON b ≤ u.tick →
                t.binOpen b = false)) ∧ (∀ b : Fin 8, u.flag DP_AE_CFG_EN b = true → u.binSensors b ≠ [] →
                  ∀ ta rh, u.ambient = some (ta, rh) → t.rbit .DP_AE_STAT b 2 = false ∧ (u.binOpen b = false →
                    SMap.get 0 u.aeSince b + 6000000 * u.fld DP_AE_CFG_MIN_OFF b ≤ u.tick →
                      f32.le (f32.add ta (f32.ofRat (u.fld DP_AE_LIM_DT_ON b) 10)) (State.meanOf (u.binSensors b)) =
                        true → f32.le rh (f32.ofRat (u.fld DP_AE_LIM_RH_MAX b) 100) = true →
                          f32.le (f32.ofRat (u.fld DP_AE_ME_ME_LO b) 100) (u.equilibrium (u.fld DP_AE_CFG_CROP b) ta
                            rh) = true → f32.le (u.equilibrium (u.fld DP_AE_CFG_CROP b) ta rh) (f32.ofRat (u.fld
                              DP_AE_ME_ME_HI b) 100) = true → t.binOpen b = true ∧ t.pends 205 = true)) ∧
                                (∀ b : Fin 8, u.flag DP_AE_CFG_EN b = true →
                                  ((u.binSensors b).any fun x => f32.le (f32.ofInt (u.fld DP_AE_LIM_ALARM b)) x) =
                                    true → u.rbit .DP_AE_STAT b 1 = false → t.pends 206 = true) ∧
                                      (∀ b : Fin 8, u.flag DP_AE_CFG_EN b = false →
                                        t.get .DP_AE_STAT b = u.get .DP_AE_STAT b)) ∧
  (∀ (b : Fin 8) (ta : Word) (rh : Word), Acts (.binEvaluation) (fun u => u.tick % 6000000 = 0 ∧
    u.flag DP_AE_CFG_EN b = true ∧ u.binSensors b ≠ [] ∧ u.ambient = some (ta, rh) ∧ u.binOpen b = true ∧
      (((u.binSensors b).any fun x => f32.le (f32.ofInt (u.fld DP_AE_LIM_ALARM b)) x) && u.flag DP_AE_CFG_HOT_FORCE
        b) = false ∧ (f32.le (f32.add ta (f32.ofRat (u.fld DP_AE_LIM_DT_OFF b) 10)) (State.meanOf (u.binSensors b))
          && f32.le rh (f32.ofRat (u.fld DP_AE_LIM_RH_MAX b) 100) && f32.le (f32.ofRat (u.fld DP_AE_ME_ME_LO b) 100)
            (u.equilibrium (u.fld DP_AE_CFG_CROP b) ta rh) && f32.le (u.equilibrium (u.fld DP_AE_CFG_CROP b) ta rh)
              (f32.ofRat (u.fld DP_AE_ME_ME_HI b) 100)) = false ∧
                SMap.get 0 u.aeSince b + 6000000 * u.fld DP_AE_CFG_MIN_ON b ≤ u.tick)
    (ofAll [.DP_AE_STAT] 8 ++ evtRegs 205 ++ evtRegs 206) fun _ t =>
      t.binOpen b = false ∧ t.pends 205 = true) ∧
  (∀ (b : Fin 8) (ta : Word) (rh : Word), Acts (.binEvaluation) (fun u => u.tick % 6000000 = 0 ∧
    u.flag DP_AE_CFG_EN b = true ∧ u.binSensors b ≠ [] ∧ u.ambient = some (ta, rh) ∧ u.binOpen b = true ∧
      ((((u.binSensors b).any fun x => f32.le (f32.ofInt (u.fld DP_AE_LIM_ALARM b)) x) && u.flag DP_AE_CFG_HOT_FORCE
        b) = true ∨ (f32.le (f32.add ta (f32.ofRat (u.fld DP_AE_LIM_DT_OFF b) 10)) (State.meanOf (u.binSensors b)) &&
          f32.le rh (f32.ofRat (u.fld DP_AE_LIM_RH_MAX b) 100) && f32.le (f32.ofRat (u.fld DP_AE_ME_ME_LO b) 100)
            (u.equilibrium (u.fld DP_AE_CFG_CROP b) ta rh) && f32.le (u.equilibrium (u.fld DP_AE_CFG_CROP b) ta rh)
              (f32.ofRat (u.fld DP_AE_ME_ME_HI b) 100)) = true ∨ u.tick < SMap.get 0 u.aeSince b + 6000000 * u.fld
                DP_AE_CFG_MIN_ON b))
    (ofAll [.DP_AE_STAT] 8 ++ evtRegs 205 ++ evtRegs 206) fun u t =>
      t.binOpen b = u.binOpen b) ∧
  (∀ (b : Fin 8) (ta : Word) (rh : Word), Acts (.binEvaluation) (fun u => u.tick % 6000000 = 0 ∧
    u.flag DP_AE_CFG_EN b = true ∧ u.binSensors b ≠ [] ∧ u.ambient = some (ta, rh) ∧ u.binOpen b = false ∧
      ((((u.binSensors b).any fun x => f32.le (f32.ofInt (u.fld DP_AE_LIM_ALARM b)) x) && u.flag DP_AE_CFG_HOT_FORCE
        b) = true ∨ (f32.le (f32.add ta (f32.ofRat (u.fld DP_AE_LIM_DT_ON b) 10)) (State.meanOf (u.binSensors b)) &&
          f32.le rh (f32.ofRat (u.fld DP_AE_LIM_RH_MAX b) 100) && f32.le (f32.ofRat (u.fld DP_AE_ME_ME_LO b) 100)
            (u.equilibrium (u.fld DP_AE_CFG_CROP b) ta rh) && f32.le (u.equilibrium (u.fld DP_AE_CFG_CROP b) ta rh)
              (f32.ofRat (u.fld DP_AE_ME_ME_HI b) 100)) = true) ∧
                SMap.get 0 u.aeSince b + 6000000 * u.fld DP_AE_CFG_MIN_OFF b ≤ u.tick)
    (ofAll [.DP_AE_STAT] 8 ++ evtRegs 205 ++ evtRegs 206) fun _ t =>
      t.binOpen b = true ∧ t.pends 205 = true) ∧
  (∀ (p : Fin 4) (z : Fin 4) (b : Parcel) (tv : Word) (me : Word) (k : Word), Acts (.modelStepDispatch) (fun u =>
    u.tick % 100000 = 0 ∧ u.dpEn p = true ∧ u.dpState p = 2 ∧ (u.dp p).step = none ∧ (u.dp p).col = [b] ∧
      u.zoneOf p (u.parcelDepth p b) = some z.val ∧ (State.zoneAir p u).1.getD z none = some (tv, me, k) ∧
        ∀ x : Fin 4, x ≠ p → u.dpState x ≠ 2)
    [] fun u t =>
      (t.dp p).step.map (fun e => e.res.map (·.stepped)) = some [some (f32.add me (f32.mul (f32.sub b.m me) (f32.exp
        (f32.neg k))), f32.add tv (f32.mul (f32.sub b.tg tv) (f32.exp (f32.neg (f32.div f32.one (u.get .DP_CR_TAUG
          (u.dpCrop p)))))))]) ∧
  (∀ (p : Fin 4) (tv : Word) (s : State), s.dpZones p = 1 → s.zoneTemp p 0 = some tv →
    s.fld DP_ZCFG_RHMODE (4 * p) = 0 →
    (State.zoneAir p s).1 = [some (tv, s.equilibrium (s.dpCrop p) tv (s.get .DP_ZRH (4 * p)), f32.mul (s.get
      .DP_CR_K1 (s.dpCrop p)) (f32.exp (f32.mul (s.get .DP_CR_K2 (s.dpCrop p)) tv)))]) ∧
  (∀ (n : Fin 8) (s : State), (s.kcWant n = s.lnDemand (s.kcLane n) ∨ s.kcPending n = true) → 
    let t := State.kcPlace n s
    t.lanes = s.lanes ∧ t.kcDue = s.kcDue ∧ State.only ([]) s t) ∧
  (∀ (n : Fin 8) (s : State), s.kcWant n ≠ s.lnDemand (s.kcLane n) → s.kcPending n = false →
    s.axState (s.lnAx (s.kcLane n)) ≠ 1 → 
    let t := State.kcPlace n s
    SMap.get none t.kcDue n = some (s.kcWant n) ∧ t.lanes = s.lanes ∧ State.only ([]) s t) ∧
  (∀ (n : Fin 8) (s : State), s.kcWant n ≠ s.lnDemand (s.kcLane n) → s.kcPending n = false →
    s.axState (s.lnAx (s.kcLane n)) = 1 → s.lnFull (s.kcLane n) = false → 
    let t := State.kcPlace n s
    (t.lane (s.kcLane n)).fill = (s.lane (s.kcLane n)).fill + 1 ∧ t.flag DP_KC_STAT_UNTIMED n = false ∧
      (∃ c : Int, let m := c * 65536 + ((if s.kcWant n = true then s.fld DP_KC_PH_PH_ON n else s.fld DP_KC_PH_PH_OFF
        n : Nat) : Int)
      let least := s.axPos (s.lnAx (s.kcLane n)) + State.predictSpan (s.axVel (s.lnAx (s.kcLane n))) (s.axAcc (s.lnAx
        (s.kcLane n))) (s.lnLead (s.kcLane n) (s.kcWant n)) + 4096
      least ≤ m ∧ m < least + 65536 ∧
        t.markAt (s.kcLane n) (((s.lane (s.kcLane n)).head + (s.lane (s.kcLane n)).fill) % State.lnDepth (s.kcLane
          n)) = State.markOf (wrap48 m) (if s.kcWant n = true then 1 else 2) false true 0 n 0#32 0#32) ∧
            State.onlyBut ([(.DP_KC_STAT, n.val), (.DP_KC_CNT, n.val)]) (fun a => decide (State.lnSlot (s.kcLane n)
              (((s.lane (s.kcLane n)).head + (s.lane (s.kcLane n)).fill) % State.lnDepth (s.kcLane n)) ≤ a) && decide
                (a < State.lnSlot (s.kcLane n) (((s.lane (s.kcLane n)).head + (s.lane (s.kcLane n)).fill) %
                  State.lnDepth (s.kcLane n)) + 16)) s t) ∧
  (∀ (n : Fin 8) (x : Bool) (s : State), s.kcDue = [(n.val, some x)] → 
    let t := State.kcUntimed s
    t.lnDemand (s.kcLane n) = x ∧ t.flag DP_KC_STAT_UNTIMED n = true ∧ t.kcDue = [] ∧ t.pends 204 = true ∧
      State.only ([(.DP_KC_STAT, n.val), (.DP_KC_CNT, n.val), (.LN_CMD, (s.kcLane n) / 32)] ++ evtRegs 204) s t)

/-- A CAN controller goes on and off its bus as configured, takes frames in with their stamp, and comes back from
bus-off (model choices: logs 70 and 137). What rests on logs 70 and 137 is the model's choice. (R91, R369, R370, R375,
R376, R377, R378, R380, R389) -/
def Obligations.CanControllers : Prop :=
  (∀ (m : Fin 8) (c : Fin 8) (v : Word), Serves (.canEnable m c v) m .CAN_CFG c (fun u => u.canEn c = false ∧
    u.canReject c (u.merged m .CAN_CFG c (v ||| 1#32)) = 0)
    (ofInst [.CAN_CFG, .CAN_STAT] c.val) fun u t =>
      t.get .CAN_CFG c = (u.merged m .CAN_CFG c (v ||| 1#32)) ∧ t.canEn c = true ∧ ((u.can c).leave = false →
        t.canState c = (if u.canState c = 5 then 5 else 1)) ∧ ((u.can c).leave = true → t.canState c = u.canState c ∧
          (t.can c).tx = (u.can c).tx) ∧ t.fld CAN_STAT_REJ c = 0 ∧ (t.can c).leave = false) ∧
  (∀ (m : Fin 8) (c : Fin 8) (v : Word), Serves (.canEnable m c v) m .CAN_CFG c (fun u => u.canEn c = false ∧
    u.canReject c (u.merged m .CAN_CFG c (v ||| 1#32)) ≠ 0)
    (ofInst [.CAN_CFG, .CAN_STAT] c.val ++ evtRegs (208 + 2 * c.val)) fun u t =>
      t.canEn c = false ∧ t.get .CAN_CFG c = putBit (u.merged m .CAN_CFG c (v ||| 1#32)) 0 false ∧
        t.fld CAN_STAT_REJ c = u.canReject c (u.merged m .CAN_CFG c (v ||| 1#32)) ∧
          t.pends (208 + 2 * c.val) = true ∧ t.cans = u.cans) ∧
  (∀ (m : Fin 8) (c : Fin 8) (v : Word), Serves (.canDisable m c v) m .CAN_CFG c (fun u => u.canEn c = true ∧
    putBit (u.merged m .CAN_CFG c (v &&& ~~~ 1#32)) 0 true = u.get .CAN_CFG c)
    (ofInst [.CAN_CFG, .CAN_STAT] c.val) fun u t =>
      t.canEn c = false ∧ ((u.can c).tx = none → u.fld CAN_STAT_ACT c ≠ 1 →
        t.canState c = (if u.canState c = 5 then 5 else 0) ∧ t.cans = u.cans) ∧
          ((u.can c).tx ≠ none ∨ u.fld CAN_STAT_ACT c = 1 → (t.can c).leave = true ∧ t.canState c = u.canState c ∧
            (t.can c).tx = (u.can c).tx)) ∧
  (∀ (c : Fin 8), Arrives (.integrationEnd c) (fun u => u.deaf = false ∧ u.canEn c = true ∧ u.canState c = 1)
    (ofInst [.CAN_STAT] c.val) fun u t =>
      t.canState c = 2 ∧ t.cans = u.cans) ∧
  (∀ (c : Fin 8), Arrives (.integrationEnd c) (fun u => u.canEn c = false ∨ u.canState c ≠ 1)
    [] fun u t =>
      t.cans = u.cans) ∧
  (∀ (c : Fin 8) (o : Fin 2000) (f : CanFrame), Arrives (.canFrameReceived c o (.frame f)) (fun u => u.deaf = false ∧
    u.canEn c = true ∧ 2 ≤ u.canState c ∧ u.canMode c ≠ 2 ∧ u.fld AX_YAW_CAN_CTRL 0 ≠ c)
    (ofInst [.CAN_CNT_RX, .CAN_ERR, .CAN_EVT, .CAN_STAT, .CAN_CNT_TX, .CAN_CNT_ERR, .CAN_COLL_ID, .CAN_TDCR] c.val ++
      evtRegs (208 + 2 * c.val) ++ evtRegs (209 + 2 * c.val) ++ qRegs (8 + 2 * c.val) ++ qRegs (9 + 2 * c.val)) fun u
        t =>
      (t.can c).rx = (u.can c).rx ++
        [{ frame := f, echo := false, tag := 0, t := u.clk o, seq := (u.get .CAN_CNT_RX c).toNat }] ∧
          t.get .CAN_CNT_RX c = u.get .CAN_CNT_RX c + 1#32 ∧ (t.can c).tx = none ∧ t.fld CAN_STAT_ACT c = 0 ∧
            t.fld CAN_ERR_REC c = (if 127 < u.fld CAN_ERR_REC c then 127 else u.fld CAN_ERR_REC c - 1) ∧
              t.fld CAN_ERR_TEC c = u.fld CAN_ERR_TEC c ∧ t.rbit .CAN_EVT c 11 = true ∧
                (u.rbit .CAN_EVT_MASK c 11 = true → t.pends (209 + 2 * c.val) = true) ∧ t.yaw = u.yaw ∧
                  ((u.can c).flushA = true → t.qFill (8 + 2 * c) = 0) ∧ ((u.can c).flushB = true →
                    t.qFill (9 + 2 * c) = 0)) ∧
  (∀ (c : Fin 8) (o : Fin 2000) (f : CanFrame), Arrives (.canFrameReceived c o (.frame f)) (fun u => u.deaf = false ∧
    u.canEn c = true ∧ 2 ≤ u.canState c ∧ u.canMode c ≠ 2 ∧ u.fld AX_YAW_CAN_CTRL 0 = c ∧ f.rtr = false ∧
      f.ide = u.flag AX_YAW_CANID_IDE 0 ∧
        f.id = (if f.ide then u.fld AX_YAW_CANID_ID 0 else u.fld AX_YAW_CANID_ID 0 % 2048) ∧
          u.fld AX_YAW_CAN_OFS 0 + 2 ^ min 2 (u.fld AX_YAW_CAN_LEN 0) ≤ State.canLen f ∧
            (State.rateTake 50 1000 (u.clk o) u).2 = false)
    (ofInst [.CAN_CNT_RX, .CAN_ERR, .CAN_EVT, .CAN_STAT, .CAN_CNT_TX, .CAN_CNT_ERR, .CAN_COLL_ID, .CAN_TDCR] c.val ++
      evtRegs (208 + 2 * c.val) ++ evtRegs (209 + 2 * c.val) ++ qRegs (8 + 2 * c.val) ++ qRegs (9 + 2 * c.val)) fun u
        t =>
      (t.can c).rx = (u.can c).rx ++
        [{ frame := f, echo := false, tag := 0, t := u.clk o, seq := (u.get .CAN_CNT_RX c).toNat }] ∧
          t.yaw.can = some (f32.mul (f32.ofInt (let d := (f.data.drop (u.fld AX_YAW_CAN_OFS 0)).take (2 ^ min 2
            (u.fld AX_YAW_CAN_LEN 0)); let n := if u.flag AX_YAW_CAN_BE 0 then bytesBE d else bytesLE d; if u.flag
              AX_YAW_CAN_SIGNED 0 then signed (8 * 2 ^ min 2 (u.fld AX_YAW_CAN_LEN 0)) n else n)) (u.get .AX_YAW_CANK
                0), u.clk o)) ∧
  (∀ (c : Fin 8) (o : Fin 2000), Arrives (.canFrameReceived c o .start) (fun u => u.deaf = false ∧ u.canEn c = true ∧
    2 ≤ u.canState c ∧ u.canMode c ≠ 2)
    (ofInst [.CAN_CNT_RX, .CAN_ERR, .CAN_EVT, .CAN_STAT, .CAN_CNT_TX, .CAN_CNT_ERR, .CAN_COLL_ID, .CAN_TDCR] c.val ++
      evtRegs (208 + 2 * c.val) ++ evtRegs (209 + 2 * c.val) ++ qRegs (8 + 2 * c.val) ++ qRegs (9 + 2 * c.val)) fun u
        t =>
      t.fld CAN_STAT_ACT c = 1 ∧ (t.can c).tx = none ∧ (t.can c).rx = (u.can c).rx ∧
        (t.can c).leave = (u.can c).leave ∧ t.canState c = u.canState c) ∧
  (∀ (c : Fin 8) (o : Fin 2000) (f : CanBusIn), Arrives (.canFrameReceived c o f) (fun u => u.canOn c = false ∨
    u.canState c < 2 ∨ u.canMode c = 2)
    [] fun u t =>
      t.cans = u.cans) ∧
  (∀ (c : Fin 8) (o : Fin 2000), Arrives (.buson c o) (fun u => u.deaf = false ∧ u.canState c = 5)
    (ofInst [.CAN_CNT_RX, .CAN_ERR, .CAN_EVT, .CAN_STAT, .CAN_CNT_TX, .CAN_CNT_ERR, .CAN_COLL_ID, .CAN_TDCR] c.val ++
      evtRegs (208 + 2 * c.val) ++ evtRegs (209 + 2 * c.val)) fun u t =>
      t.canState c = (if u.canEn c = true then 2 else 0) ∧ t.fld CAN_ERR_TEC c = 0 ∧ t.fld CAN_ERR_REC c = 0 ∧
        t.flag CAN_STAT_EWARN c = false ∧ t.rbit .CAN_EVT c 3 = true ∧ (u.rbit .CAN_EVT_MASK c 3 = true →
          t.pends (208 + 2 * c.val) = true) ∧ t.cans = u.cans) ∧
  (∀ (c : Fin 8) (o : Fin 2000), Arrives (.txdTo c o) (fun u => u.deaf = false ∧ u.canEn c = true)
    (ofInst [.CAN_EVT] c.val ++ evtRegs (208 + 2 * c.val) ++ evtRegs (209 + 2 * c.val)) fun u t =>
      t.rbit .CAN_EVT c 5 = true ∧ (u.rbit .CAN_EVT_MASK c 5 = true → t.pends (208 + 2 * c.val) = true) ∧
        t.cans = u.cans) ∧
  (∀ (m : Fin 8) (c : Fin 8), Serves (.canFlusha m c) m .CAN_CTRL c (fun u => ((u.can c).tx.any fun e => e.1 == 0) =
    false)
    (qRegs (8 + 2 * c.val)) fun u t =>
      t.qHead (8 + 2 * c) = u.qTail (8 + 2 * c) ∧ t.qFill (8 + 2 * c) = 0) ∧
  (∀ (m : Fin 8) (c : Fin 8), Serves (.canFlusha m c) m .CAN_CTRL c (fun u => ((u.can c).tx.any fun e => e.1 == 0) =
    true)
    [] fun u t =>
      (t.can c).flushA = true ∧ (t.can c).tx = (u.can c).tx) ∧
  (∀ (m : Fin 8) (c : Fin 8), Serves (.canFlushb m c) m .CAN_CTRL c (fun u => ((u.can c).tx.any fun e => e.1 == 1) =
    false)
    (qRegs (9 + 2 * c.val)) fun u t =>
      t.qHead (9 + 2 * c) = u.qTail (9 + 2 * c) ∧ t.qFill (9 + 2 * c) = 0) ∧
  (∀ (m : Fin 8) (c : Fin 8), Serves (.canFlushb m c) m .CAN_CTRL c (fun u => ((u.can c).tx.any fun e => e.1 == 1) =
    true)
    [] fun u t =>
      (t.can c).flushB = true ∧ (t.can c).tx = (u.can c).tx) ∧
  (∀ (m : Fin 8) (c : Fin 8), Serves (.canCclr m c) m .CAN_CTRL c (fun _ => True)
    (ofInst [.CAN_CNT_TX, .CAN_CNT_ERR] c.val) fun u t =>
      t.get .CAN_CNT_TX c = 0#32 ∧ t.get .CAN_CNT_ERR c = 0#32 ∧ t.cans = u.cans)

/-- The lower key is offered first, a sent frame leaves its FIFO, and errors move the counters up to bus-off (model
choices: logs 70, 71, 72 and 137). What rests on logs 70, 71, 72 and 137 is the model's choice. (R368, R373, R374,
R375, R377, R378, R379) -/
def Obligations.CanTransmission : Prop :=
  (∀ (c : Fin 8) (x : List Word) (y : List Word), Arrives (.canTxOffer c) (fun u => u.deaf = false ∧
    u.canEn c = true ∧ (u.canState c = 2 ∨ u.canState c = 3) ∧ u.canMode c ≠ 1 ∧ (u.can c).tx = none ∧
      (u.can c).leave = false ∧ (u.can c).retry = none ∧ u.fifoHead c 0 = some x ∧ u.elemBad c x = false ∧
        u.fifoHead c 1 = some y ∧ u.elemBad c y = false)
    (ofInst [.CAN_STAT] c.val) fun _ t =>
      (State.elemKey y < State.elemKey x → (t.can c).tx = some (1, y) ∧ t.fld CAN_STAT_ACT c = 3) ∧
        (State.elemKey x ≤ State.elemKey y → (t.can c).tx = some (0, x) ∧ t.fld CAN_STAT_ACT c = 2)) ∧
  (∀ (c : Fin 8) (x : List Word) (y : List Word), Arrives (.canTxOffer c) (fun u => u.deaf = false ∧
    u.canEn c = true ∧ (u.canState c = 2 ∨ u.canState c = 3) ∧ u.canMode c ≠ 1 ∧ (u.can c).tx = none ∧
      (u.can c).leave = false ∧ (u.can c).retry = some 0 ∧ u.fifoHead c 0 = some x ∧ u.elemBad c x = false ∧
        u.fifoHead c 1 = some y ∧ u.elemBad c y = false)
    (ofInst [.CAN_STAT] c.val) fun _ t =>
      (t.can c).tx = some (0, x) ∧ (t.can c).retry = none) ∧
  (∀ (c : Fin 8) (x : List Word), Arrives (.canTxOffer c) (fun u => u.deaf = false ∧ u.canEn c = true ∧
    (u.canState c = 2 ∨ u.canState c = 3) ∧ u.canMode c ≠ 1 ∧ (u.can c).tx = none ∧ (u.can c).leave = false ∧
      u.fifoHead c 0 = some x ∧ u.elemBad c x = true ∧ u.qFill (8 + 2 * c) = 1 ∧ u.qFill (9 + 2 * c) = 0 ∧
        (u.can c).retry = none)
    (ofInst [.CAN_CNT_RX, .CAN_ERR, .CAN_EVT, .CAN_STAT, .CAN_CNT_TX, .CAN_CNT_ERR, .CAN_COLL_ID, .CAN_TDCR] c.val ++
      evtRegs (208 + 2 * c.val) ++ evtRegs (209 + 2 * c.val) ++ qRegs (8 + 2 * c.val) ++ qRegs (9 + 2 * c.val)) fun u
        t =>
      t.fld CAN_CNT_TX_TXBAD c = min (u.fld CAN_CNT_TX_TXBAD c + 1) (2 ^ (CAN_CNT_TX_TXBAD.hi + 1 -
        CAN_CNT_TX_TXBAD.lo) - 1) ∧ t.rbit .CAN_EVT c 9 = true ∧ (u.rbit .CAN_EVT_MASK c 9 = true →
          t.pends (209 + 2 * c.val) = true) ∧ t.qHead (8 + 2 * c) = (u.qHead (8 + 2 * c) + 1) % 65536 ∧
            (t.can c).tx = none) ∧
  (∀ (c : Fin 8) (x : List Word), Arrives (.canTxOffer c) (fun u => u.deaf = false ∧ u.canEn c = true ∧
    (u.canState c = 2 ∨ u.canState c = 3) ∧ u.canMode c ≠ 1 ∧ (u.can c).tx = none ∧ (u.can c).leave = false ∧
      u.fifoHead c 0 = some x ∧ u.elemBad c x = false ∧ u.fifoHead c 1 = none)
    (ofInst [.CAN_STAT] c.val) fun _ t =>
      (t.can c).tx = some (0, x) ∧ t.fld CAN_STAT_ACT c = 2 ∧ (t.can c).retry = none) ∧
  (∀ (c : Fin 8) (y : List Word), Arrives (.canTxOffer c) (fun u => u.deaf = false ∧ u.canEn c = true ∧
    (u.canState c = 2 ∨ u.canState c = 3) ∧ u.canMode c ≠ 1 ∧ (u.can c).tx = none ∧ (u.can c).leave = false ∧
      u.fifoHead c 1 = some y ∧ u.elemBad c y = false ∧ u.fifoHead c 0 = none)
    (ofInst [.CAN_STAT] c.val) fun _ t =>
      (t.can c).tx = some (1, y) ∧ t.fld CAN_STAT_ACT c = 3 ∧ (t.can c).retry = none) ∧
  (∀ (c : Fin 8), Arrives (.canTxOffer c) (fun u => u.deaf = false ∧ (u.can c).tx = none ∧ (u.can c).leave = true)
    (ofInst [.CAN_STAT] c.val ++ qRegs (8 + 2 * c.val) ++ qRegs (9 + 2 * c.val)) fun u t =>
      t.canState c = (if u.canState c = 5 then 5 else 0) ∧ (t.can c).leave = false ∧ (t.can c).tx = none ∧
        t.fld CAN_STAT_ACT c = 0) ∧
  (∀ (c : Fin 8), Arrives (.canTxOffer c) (fun u => (u.canEn c = false ∨ u.canMode c = 1) ∧
    (u.can c).leave = false ∨ (u.can c).tx ≠ none ∨ u.inReplay = true)
    (ofInst [.CAN_STAT] c.val) fun u t =>
      t.cans = u.cans) ∧
  (∀ (c : Fin 8) (o : Fin 2000) (d : Nat) (f : Fin 2) (e : List Word), Arrives (.txDone c o d) (fun u => u.deaf =
    false ∧ (u.can c).tx = some (f.val, e) ∧ u.fld AX_YAW_CAN_CTRL 0 ≠ c ∧ (u.can c).flushA = false ∧
      (u.can c).flushB = false ∧ (u.can c).leave = false)
    (ofInst [.CAN_CNT_RX, .CAN_ERR, .CAN_EVT, .CAN_STAT, .CAN_CNT_TX, .CAN_CNT_ERR, .CAN_COLL_ID, .CAN_TDCR] c.val ++
      evtRegs (208 + 2 * c.val) ++ evtRegs (209 + 2 * c.val) ++ qRegs (8 + 2 * c.val + f.val)) fun u t =>
      t.fld CAN_CNT_TX_TX c = (u.fld CAN_CNT_TX_TX c + 1) % 2 ^ (CAN_CNT_TX_TX.hi + 1 - CAN_CNT_TX_TX.lo) ∧
        t.fld CAN_ERR_TEC c = u.fld CAN_ERR_TEC c - 1 ∧ (t.can c).tx = none ∧ t.fld CAN_STAT_ACT c = 0 ∧
          t.qHead (8 + 2 * c.val + f.val) = (if u.qFill (8 + 2 * c.val + f.val) = 0 then u.qHead (8 + 2 * c.val +
            f.val) else (u.qHead (8 + 2 * c.val + f.val) + 1) % 65536) ∧ t.rbit .CAN_EVT c 10 = true ∧
              (u.rbit .CAN_EVT_MASK c 10 = true → t.pends (209 + 2 * c.val) = true) ∧
                (u.flag CAN_CFG_TXECHO c = false → u.canMode c ≠ 2 → (t.can c).rx = (u.can c).rx)) ∧
  (∀ (c : Fin 8) (o : Fin 2000) (d : Nat) (f : Fin 2) (e : List Word), Arrives (.txDone c o d) (fun u => u.deaf =
    false ∧ (u.can c).tx = some (f.val, e) ∧ (u.flag CAN_CFG_TXECHO c = true ∨ u.canMode c = 2) ∧
      u.fld AX_YAW_CAN_CTRL 0 ≠ c ∧ (u.can c).flushA = false ∧ (u.can c).flushB = false ∧ (u.can c).leave = false)
    (ofInst [.CAN_CNT_RX, .CAN_ERR, .CAN_EVT, .CAN_STAT, .CAN_CNT_TX, .CAN_CNT_ERR, .CAN_COLL_ID, .CAN_TDCR] c.val ++
      evtRegs (208 + 2 * c.val) ++ evtRegs (209 + 2 * c.val) ++ qRegs (8 + 2 * c.val + f.val)) fun u t =>
      (t.can c).rx.length = (u.can c).rx.length + 1 ∧
        (t.can c).rx.getLast?.map (fun r => (r.echo, r.tag, r.t, r.frame.id)) = some (true, bitsOf (e.getD 1 0#32) 31
          16, u.clk o, bitsOf (e.getD 0 0#32) 28 0) ∧ t.get .CAN_CNT_RX c = u.get .CAN_CNT_RX c + 1#32 ∧
            t.rbit .CAN_EVT c 11 = true ∧ (u.rbit .CAN_EVT_MASK c 11 = true → t.pends (209 + 2 * c.val) = true)) ∧
  (∀ (c : Fin 8) (o : Fin 2000) (d : Nat), Arrives (.txDone c o d) (fun u => (u.can c).tx = none)
    [] fun u t =>
      t.cans = u.cans) ∧
  (∀ (c : Fin 8) (o : Fin 2000) (k : Fin 8) (x : CanErrIn) (f : Nat) (e : List Word), Arrives (.canProtocolError c o
    k false false x) (fun u => u.deaf = false ∧ u.canEn c = true ∧ (u.can c).tx = some (f, e) ∧ x.ext = false ∧
      u.canState c = 2 ∧ u.fld CAN_ERR_TEC c + 8 ≤ 255 ∧ (u.can c).flushA = false ∧ (u.can c).flushB = false ∧
        (u.can c).leave = false)
    (ofInst [.CAN_CNT_RX, .CAN_ERR, .CAN_EVT, .CAN_STAT, .CAN_CNT_TX, .CAN_CNT_ERR, .CAN_COLL_ID, .CAN_TDCR] c.val ++
      evtRegs (208 + 2 * c.val) ++ evtRegs (209 + 2 * c.val)) fun u t =>
      t.fld CAN_ERR_LEC_N c = k ∧ t.fld CAN_ERR_TEC c = u.fld CAN_ERR_TEC c + 8 ∧
        t.fld CAN_ERR_REC c = u.fld CAN_ERR_REC c ∧ t.rbit .CAN_EVT c 6 = true ∧ (u.rbit .CAN_EVT_MASK c 6 = true →
          t.pends (208 + 2 * c.val) = true) ∧
            t.canState c = (if 128 ≤ u.fld CAN_ERR_TEC c + 8 ∨ 128 ≤ u.fld CAN_ERR_REC c then 3 else 2) ∧
              (t.can c).tx = none ∧ t.get .CAN_CNT_ERR c = u.get .CAN_CNT_ERR c ∧ (∀ d, x.delay = some d →
                bitAt (e.getD 0 0#32) 31 = true → bitAt (e.getD 1 0#32) 4 = true →
                  t.fld CAN_TDCR_DELAY c = d % 2 ^ (CAN_TDCR_DELAY.hi + 1 - CAN_TDCR_DELAY.lo))) ∧
  (∀ (c : Fin 8) (o : Fin 2000) (k : Fin 8) (x : CanErrIn) (f : Nat) (e : List Word), Arrives (.canProtocolError c o
    k false false x) (fun u => u.deaf = false ∧ u.canEn c = true ∧ (u.can c).tx = some (f, e) ∧ x.ext = true ∧
      (k = 1 ∧ 2 ≤ u.canState c ∨ k = 3 ∧ u.canState c = 3) ∧ u.fld CAN_ERR_TEC c ≤ 255 ∧ (u.can c).flushA = false ∧
        (u.can c).flushB = false ∧ (u.can c).leave = false)
    (ofInst [.CAN_CNT_RX, .CAN_ERR, .CAN_EVT, .CAN_STAT, .CAN_CNT_TX, .CAN_CNT_ERR, .CAN_COLL_ID, .CAN_TDCR] c.val ++
      evtRegs (208 + 2 * c.val) ++ evtRegs (209 + 2 * c.val)) fun u t =>
      t.fld CAN_ERR_TEC c = u.fld CAN_ERR_TEC c ∧ t.fld CAN_ERR_REC c = u.fld CAN_ERR_REC c ∧ (t.can c).tx = none ∧
        t.rbit .CAN_EVT c 6 = true ∧ (u.rbit .CAN_EVT_MASK c 6 = true → t.pends (208 + 2 * c.val) = true)) ∧
  (∀ (c : Fin 8) (o : Fin 2000) (k : Fin 8) (x : CanErrIn) (f : Nat) (e : List Word), Arrives (.canProtocolError c o
    k false false x) (fun u => u.deaf = false ∧ u.canEn c = true ∧ (u.can c).tx = some (f, e) ∧ x.ext = false ∧
      (u.canState c = 2 ∨ u.canState c = 3 ∨ u.canState c = 4) ∧ 255 < u.fld CAN_ERR_TEC c + 8 ∧
        (u.can c).flushA = false ∧ (u.can c).flushB = false ∧ (u.can c).leave = false)
    (ofInst [.CAN_CNT_RX, .CAN_ERR, .CAN_EVT, .CAN_STAT, .CAN_CNT_TX, .CAN_CNT_ERR, .CAN_COLL_ID, .CAN_TDCR] c.val ++
      evtRegs (208 + 2 * c.val) ++ evtRegs (209 + 2 * c.val)) fun u t =>
      t.canState c = 5 ∧ t.fld CAN_CNT_ERR_BUSOFF c = min (u.fld CAN_CNT_ERR_BUSOFF c + 1) (2 ^
        (CAN_CNT_ERR_BUSOFF.hi + 1 - CAN_CNT_ERR_BUSOFF.lo) - 1) ∧ t.rbit .CAN_EVT c 2 = true ∧
          (u.rbit .CAN_EVT_MASK c 2 = true → t.pends (208 + 2 * c.val) = true) ∧ (t.can c).retry = some f ∧
            (t.can c).tx = none) ∧
  (∀ (c : Fin 8) (o : Fin 2000) (k : Fin 8) (g : Bool) (x : CanErrIn), Arrives (.canProtocolError c o k true g x)
    (fun u => u.deaf = false ∧ u.canEn c = true ∧ 2 ≤ u.canState c ∧ (u.can c).tx = none ∧
      u.fld CAN_ERR_TEC c ≤ 255 ∧ (u.can c).flushA = false ∧ (u.can c).flushB = false ∧ (u.can c).leave = false)
    (ofInst [.CAN_CNT_RX, .CAN_ERR, .CAN_EVT, .CAN_STAT, .CAN_CNT_TX, .CAN_CNT_ERR, .CAN_COLL_ID, .CAN_TDCR] c.val ++
      evtRegs (208 + 2 * c.val) ++ evtRegs (209 + 2 * c.val)) fun u t =>
      t.fld CAN_ERR_LEC_D c = k ∧ t.fld CAN_ERR_LEC_N c = u.fld CAN_ERR_LEC_N c ∧
        t.fld CAN_ERR_REC c = min (u.fld CAN_ERR_REC c + (if x.ext then 8 else 1)) (2 ^ (CAN_ERR_REC.hi + 1 -
          CAN_ERR_REC.lo) - 1) ∧ t.fld CAN_ERR_TEC c = u.fld CAN_ERR_TEC c ∧
            t.get .CAN_CNT_ERR c = u.get .CAN_CNT_ERR c ∧ t.rbit .CAN_EVT c 6 = true ∧
              (u.rbit .CAN_EVT_MASK c 6 = true → t.pends (208 + 2 * c.val) = true)) ∧
  (∀ (c : Fin 8) (o : Fin 2000) (k : Fin 8) (b : Bool) (x : CanErrIn) (f : Nat) (e : List Word), Arrives
    (.canProtocolError c o k b true x) (fun u => u.deaf = false ∧ u.canEn c = true ∧ (k = 4 ∨ k = 5) ∧
      2 ≤ u.canState c ∧ (u.can c).tx = some (f, e) ∧ u.fld CAN_ERR_TEC c ≤ 247 ∧ (u.can c).flushA = false ∧
        (u.can c).flushB = false ∧ (u.can c).leave = false)
    (ofInst [.CAN_CNT_RX, .CAN_ERR, .CAN_EVT, .CAN_STAT, .CAN_CNT_TX, .CAN_CNT_ERR, .CAN_COLL_ID, .CAN_TDCR] c.val ++
      evtRegs (208 + 2 * c.val) ++ evtRegs (209 + 2 * c.val)) fun u t =>
      t.fld CAN_CNT_ERR_COLL c = min (u.fld CAN_CNT_ERR_COLL c + 1) (2 ^ (CAN_CNT_ERR_COLL.hi + 1 -
        CAN_CNT_ERR_COLL.lo) - 1) ∧ t.rbit .CAN_EVT c 4 = true ∧ (u.rbit .CAN_EVT_MASK c 4 = true →
          t.pends (208 + 2 * c.val) = true) ∧
            t.get .CAN_COLL_ID c = ((e.getD 0 0#32 &&& 0x1FFFFFFF#32) ||| (if bitAt (e.getD 0 0#32) 29 then
              0x80000000#32 else 0#32)) ∧ t.fld CAN_ERR_TEC c = u.fld CAN_ERR_TEC c + 8) ∧
  (∀ (c : Fin 8) (o : Fin 2000) (k : Fin 8) (b : Bool) (x : CanErrIn), Arrives (.canProtocolError c o k b true x)
    (fun u => u.deaf = false ∧ u.canEn c = true ∧ k ≠ 4 ∧ k ≠ 5 ∧ 2 ≤ u.canState c ∧ u.fld CAN_ERR_TEC c ≤ 247 ∧
      (u.can c).flushA = false ∧ (u.can c).flushB = false ∧ (u.can c).leave = false)
    (ofInst [.CAN_CNT_RX, .CAN_ERR, .CAN_EVT, .CAN_STAT, .CAN_CNT_TX, .CAN_CNT_ERR, .CAN_COLL_ID, .CAN_TDCR] c.val ++
      evtRegs (208 + 2 * c.val) ++ evtRegs (209 + 2 * c.val)) fun u t =>
      t.fld CAN_CNT_ERR_COLL c = u.fld CAN_CNT_ERR_COLL c ∧ t.get .CAN_COLL_ID c = u.get .CAN_COLL_ID c) ∧
  (∀ (c : Fin 8) (o : Fin 2000) (k : Fin 8) (b : Bool) (g : Bool) (v : CanErrIn), Arrives (.canProtocolError c o k b
    g v) (fun u => u.canOn c = false ∨ u.canState c < 2)
    [] fun u t =>
      t.cans = u.cans)

/-- A serial bus polls its due entries, lowest first, and ends each transaction with its status, stamp and record
(model choices: logs 72 and 137). What rests on logs 72 and 137 is the model's choice. (R383, R384, R385, R386, R390,
R357) -/
def Obligations.SerialBuses : Prop :=
  (∀ (b : Fin 4) (e : Fin 64), Acts (.sbEntryDue b e) (fun u => u.sbEn b = true ∧
    u.flag SB_PE_CFG_EN (64 * b.val + e.val) = true ∧ u.fld SB_PE_CFG_PERIOD (64 * b.val + e.val) ≠ 0 ∧
      u.tick % (1000 * u.fld SB_PE_CFG_PERIOD (64 * b.val + e.val)) = 0 ∧
        ((u.sb b).perTick ≠ u.tick ∨ (u.sb b).per.contains e.val = false) ∧ (u.sb b).due.contains e.val = false)
    [] fun u t =>
      (t.sb b).due = (u.sb b).due ++ [e.val] ∧ t.get .SB_CNT2 b = u.get .SB_CNT2 b) ∧
  (∀ (b : Fin 4) (e : Fin 64), Acts (.sbEntryDue b e) (fun u => u.sbEn b = true ∧
    u.flag SB_PE_CFG_EN (64 * b.val + e.val) = true ∧ u.fld SB_PE_CFG_PERIOD (64 * b.val + e.val) ≠ 0 ∧
      u.tick % (1000 * u.fld SB_PE_CFG_PERIOD (64 * b.val + e.val)) = 0 ∧
        ((u.sb b).perTick ≠ u.tick ∨ (u.sb b).per.contains e.val = false) ∧ (u.sb b).due.contains e.val = true)
    (ofInst [.SB_CNT2, .SB_EVT] b.val ++ evtRegs (224 + b.val)) fun u t =>
      (t.sb b).due = (u.sb b).due ∧
        t.fld SB_CNT2_SKIP b = min (u.fld SB_CNT2_SKIP b + 1) (2 ^ (SB_CNT2_SKIP.hi + 1 - SB_CNT2_SKIP.lo) - 1) ∧
          t.rbit .SB_EVT b 6 = true ∧ (u.rbit .SB_EVT_MASK b 6 = true → t.pends (224 + b) = true)) ∧
  (∀ (b : Fin 4) (e : Fin 64), Acts (.sbEntryDue b e) (fun u => u.sbEn b = false ∨ u.flag SB_PE_CFG_EN (64 * b.val +
    e.val) = false ∨ u.fld SB_PE_CFG_PERIOD (64 * b.val + e.val) = 0 ∨ u.tick % (1000 * u.fld SB_PE_CFG_PERIOD (64 *
      b.val + e.val)) ≠ 0)
    [] fun u t =>
      t.sbs = u.sbs) ∧
  (∀ (m : Fin 8) (b : Fin 4) (hi : Bool) (v : Word), Serves (.sbTrig m b hi v) m (trigReg hi) b (fun u => u.sbEn b =
    true)
    (ofInst [.SB_CNT2, .SB_EVT] b.val ++ evtRegs (224 + b.val)) fun u t =>
      (∀ i : Fin 32, bitAt v i = true → u.flag SB_PE_CFG_EN (64 * b.val + (if hi then 32 else 0) + i.val) = true →
        (t.sb b).due.contains ((if hi then 32 else 0) + i.val) = true) ∧
          (∀ k : Fin 64, (((if hi then 32 else 0) ≤ k.val ∧ k.val < (if hi then 32 else 0) + 32) →
            bitAt v (k.val - (if hi then 32 else 0)) = false) →
              (t.sb b).due.contains k.val = (u.sb b).due.contains k.val)) ∧
  (∀ (m : Fin 8) (b : Fin 4) (hi : Bool) (v : Word), Serves (.sbTrig m b hi v) m (trigReg hi) b (fun u => u.sbEn b =
    false)
    [] fun u t =>
      t.sbs = u.sbs) ∧
  (∀ (b : Fin 4) (e : Fin 64), Acts (.sbTransactionStart b) (fun u => u.sbEn b = true ∧ (u.sb b).tx = none ∧
    (∀ k, (u.sb b).endT = some k → k + u.fld SB_TIME_MIN_GAP b * u.fld SB_BAUD_DIV b ≤ u.Tn) ∧
      (u.sb b).due.contains e.val = true ∧ u.flag SB_PE_CFG_EN (64 * b.val + e.val) = true ∧ (∀ k : Fin 64, k < e →
        (u.sb b).due.contains k.val = false ∨ u.flag SB_PE_CFG_EN (64 * b.val + k.val) = false))
    (ofInst [.SB_STAT] b.val) fun u t =>
      t.flag SB_STAT_BUSY b = true ∧ t.fld SB_STAT_ENTRY b = e ∧ (t.sb b).due = (u.sb b).due.filter (· != e.val) ∧
        (t.sb b).tx.map (fun x => (x.entry, x.onT, x.cfg, x.off)) = some (e.val, u.Tn, u.get .SB_PE_CFG (64 * b.val +
          e.val), false) ∧ (t.sb b).tx.map (·.req) = some (u.sbRequest (64 * b.val + e.val)) ∧
            (t.sb b).tx.map (·.offT) = some (u.Tn + u.fld SB_BAUD_DIV b * (1 + u.sbBits b * (u.sbRequest (64 * b.val
              + e.val)).length))) ∧
  (∀ (b : Fin 4), Acts (.sbTransactionStart b) (fun u => u.sbEn b = false ∨ (u.sb b).tx ≠ none ∨ (u.sb b).due = [])
    [] fun u t =>
      t.sbs = u.sbs) ∧
  (∀ (b : Fin 4) (x : SbTx), Arrives (.sbRequestEnd b) (fun u => (u.sb b).tx = some x ∧ x.off = false ∧ x.offT < u.Tn)
    (ofInst [.SB_STAT] b.val) fun u t =>
      t.flag SB_STAT_DRIVING b = false ∧ (bitsOf x.cfg 15 8 = 0 → (t.sb b).tx = none ∧ (t.sb b).endT = some x.offT ∧
        t.flag SB_STAT_BUSY b = false) ∧ (bitsOf x.cfg 15 8 ≠ 0 → (t.sb b).tx = some { x with off := true } ∧
          t.flag SB_STAT_BUSY b = u.flag SB_STAT_BUSY b) ∧ (t.sb b).recs = (u.sb b).recs) ∧
  (∀ (b : Fin 4), Arrives (.sbRequestEnd b) (fun u => (u.sb b).tx = none)
    [] fun u t =>
      t.sbs = u.sbs) ∧
  (∀ (b : Fin 4) (o : Fin 2000) (k : Nat) (c : Bool) (d : List Byte) (x : SbTx), Arrives (.sbResponseEnd b o k c d)
    (fun u => u.deaf = false ∧ (u.sb b).tx = some x ∧ x.off = true ∧ k ≤ 20000 * x.wait ∧ d ≠ [] ∧
      d.length ≤ bitsOf x.cfg 15 8 + (if bitAt x.cfg 2 then 1 else 0) ∧ State.sbEndsAt x d.length k (u.clk o) = true)
    (ofInst [.SB_STAT, .SB_CNT, .SB_CNT2, .SB_EVT] b.val ++ evtRegs (224 + b.val) ++ ofAll [.DP_SE_VAL] 32) fun u t =>
      (t.sb b).tx = none ∧ t.flag SB_STAT_BUSY b = false ∧ (t.sb b).endT = some (u.clk o) ∧
        (t.sb b).recs.getLast?.map (fun r => (r.1, r.2.take 4)) = some (u.clk o, [BitVec.ofNat 32 ((State.sbStatus
          x.cfg c d) * 2 ^ 28 + x.entry * 2 ^ 16 + (d.take 240).length), loW (u.clk o), hiW (u.clk o), BitVec.ofNat
            32 ((u.sb b).seq * 2 ^ 16 + min 65535 (k / 200))]) ∧ ((State.sbStatus x.cfg c d) = 1 →
              t.fld SB_CNT_OK b = (u.fld SB_CNT_OK b + 1) % 2 ^ (SB_CNT_OK.hi + 1 - SB_CNT_OK.lo) ∧
                (∀ n : Fin 32, u.flag DP_SE_CFG_EN n = true → u.fld DP_SE_CFG_SB n = b →
                  u.fld DP_SE_CFG_POLL n = x.entry → SMap.get none t.sensT n = some (u.clk o) ∧
                    (u.fld DP_SE_CFG_LEN n = 0 → u.flag DP_SE_CFG_SIGNED n = false →
                      u.fld DP_SE_CFG_OFS n < d.length → d.length ≤ 240 →
                        t.get .DP_SE_VAL n = f32.mul (f32.ofInt ((d.getD (u.fld DP_SE_CFG_OFS n) 0#8).toNat : Int))
                          (u.get .DP_SE_K n)))) ∧ ((State.sbStatus x.cfg c d) ≠ 1 →
                            t.fld SB_CNT_ERR b = min (u.fld SB_CNT_ERR b + 1) (2 ^ (SB_CNT_ERR.hi + 1 -
                              SB_CNT_ERR.lo) - 1)) ∧ ((State.sbStatus x.cfg c d) = 3 → t.rbit .SB_EVT b 1 = true ∧
                                (u.rbit .SB_EVT_MASK b 1 = true → t.pends (224 + b) = true)) ∧
                                  ((State.sbStatus x.cfg c d) = 4 → t.rbit .SB_EVT b 2 = true ∧
                                    (u.rbit .SB_EVT_MASK b 2 = true → t.pends (224 + b) = true)) ∧
                                      ((State.sbStatus x.cfg c d) = 5 → t.rbit .SB_EVT b 3 = true ∧
                                        (u.rbit .SB_EVT_MASK b 3 = true → t.pends (224 + b) = true)) ∧
                                          ((State.sbStatus x.cfg c d) = 6 → t.rbit .SB_EVT b 4 = true ∧
                                            (u.rbit .SB_EVT_MASK b 4 = true → t.pends (224 + b) = true))) ∧
  (∀ (b : Fin 4) (o : Fin 2000) (k : Nat) (c : Bool) (d : List Byte) (x : SbTx), Arrives (.sbResponseEnd b o k c d)
    (fun u => (u.sb b).tx = some x ∧ State.sbEndsAt x d.length k (u.clk o) = false)
    [] fun u t =>
      t.sbs = u.sbs) ∧
  (∀ (x : SbTx) (n d t : Nat), n ≤ 1 →
    (State.sbEndsAt x n d t = true ↔ t = x.offT + d + n * x.char + (if n = bitsOf x.cfg 15 8 + b2n (bitAt x.cfg 2)
      then 0 else x.gap * x.bit))) ∧
  (∀ (b : Fin 4) (o : Fin 2000) (k : Nat) (c : Bool) (d : List Byte), Arrives (.sbResponseEnd b o k c d) (fun u =>
    (u.sb b).tx = none ∨ d = [])
    [] fun u t =>
      t.sbs = u.sbs) ∧
  (∀ (b : Fin 4) (x : SbTx), Arrives (.sbTimeout b) (fun u => u.inReplay = false ∧ (u.sb b).tx = some x ∧
    x.off = true ∧ x.offT + 20000 * x.wait < u.Tn)
    (ofInst [.SB_STAT, .SB_CNT, .SB_CNT2, .SB_EVT] b.val ++ evtRegs (224 + b.val)) fun u t =>
      (t.sb b).tx = none ∧ t.flag SB_STAT_BUSY b = false ∧ (t.sb b).endT = some (x.offT + 20000 * x.wait) ∧
        (t.sb b).recs.getLast?.map (fun r => (r.1, r.2.take 4)) = some (x.offT + 20000 * x.wait, [BitVec.ofNat 32 (2
          * 2 ^ 28 + x.entry * 2 ^ 16 + 0), loW (x.offT + 20000 * x.wait), hiW (x.offT + 20000 * x.wait),
            BitVec.ofNat 32 ((u.sb b).seq * 2 ^ 16 + 65535)]) ∧
              t.fld SB_CNT_ERR b = min (u.fld SB_CNT_ERR b + 1) (2 ^ (SB_CNT_ERR.hi + 1 - SB_CNT_ERR.lo) - 1) ∧
                t.rbit .SB_EVT b 0 = true ∧ (u.rbit .SB_EVT_MASK b 0 = true → t.pends (224 + b) = true)) ∧
  (∀ (b : Fin 4), Arrives (.sbTimeout b) (fun u => (u.sb b).tx = none)
    [] fun u t =>
      t.sbs = u.sbs) ∧
  (∀ (b : Fin 4), Arrives (.stray b) (fun u => u.deaf = false ∧ u.sbEn b = true ∧ ((u.sb b).tx.any (·.off)) = false ∧
    u.flag SB_STAT_DRIVING b = false)
    (ofInst [.SB_CNT2, .SB_EVT] b.val ++ evtRegs (224 + b.val)) fun u t =>
      t.fld SB_CNT2_STRAY b = min (u.fld SB_CNT2_STRAY b + 1) (2 ^ (SB_CNT2_STRAY.hi + 1 - SB_CNT2_STRAY.lo) - 1) ∧
        t.rbit .SB_EVT b 5 = true ∧ (u.rbit .SB_EVT_MASK b 5 = true → t.pends (224 + b) = true) ∧ t.sbs = u.sbs) ∧
  (∀ (b : Fin 4), Arrives (.stray b) (fun u => u.sbEn b = false ∨ u.flag SB_STAT_DRIVING b = true)
    [] fun u t =>
      t.sbs = u.sbs) ∧
  (∀ (m : Fin 8) (b : Fin 4), Serves (.sbCclr m b) m .SB_CTRL b (fun _ => True)
    (ofInst [.SB_CNT, .SB_CNT2] b.val) fun u t =>
      t.get .SB_CNT b = 0#32 ∧ t.get .SB_CNT2 b = 0#32 ∧ t.sbs = u.sbs)

/-- Queues are enabled empty, take what fits, free what is read; the engine makes the writes of a command element, not
of a replay element (model choices: log 94). What rests on log 94 is the model's choice. (R392, R393, R394, R395,
R398, R420, R449) -/
def Obligations.QueueCommands : Prop :=
  (∀ (m : Fin 8) (q : Fin 48) (v : Word), Serves (.qEnable m q v) m .Q_GEOM q (fun u => u.flag Q_GEOM_EN q = false ∧
    ((u.put .Q_GEOM q (u.qGeomWord q (u.merged m .Q_GEOM q (v ||| 1#32)))).qReason q) = 0)
    (ofInst [.Q_GEOM, .Q_HEAD, .Q_TAIL, .Q_STAT] q.val) fun u t =>
      t.get .Q_GEOM q = (u.qGeomWord q (u.merged m .Q_GEOM q (v ||| 1#32))) ∧ t.flag Q_GEOM_EN q = true ∧
        t.qHead q = 0 ∧ t.qTail q = 0 ∧ t.flag Q_STAT_EMPTY q = true ∧ t.fld Q_STAT_FILL q = 0) ∧
  (∀ (m : Fin 8) (q : Fin 48) (v : Word), Serves (.qEnable m q v) m .Q_GEOM q (fun u => u.flag Q_GEOM_EN q = false ∧
    ((u.put .Q_GEOM q (u.qGeomWord q (u.merged m .Q_GEOM q (v ||| 1#32)))).qReason q) ≠ 0)
    (ofInst [.Q_GEOM, .Q_HEAD, .Q_TAIL, .Q_STAT] q.val) fun u t =>
      t.flag Q_GEOM_EN q = false ∧
        t.fld Q_STAT_REJ q = ((u.put .Q_GEOM q (u.qGeomWord q (u.merged m .Q_GEOM q (v ||| 1#32)))).qReason q)) ∧
  (∀ (m : Fin 8) (q : Fin 48) (v : Word), Serves (.qTailWrite m q v) m .Q_TAIL q (fun u => u.qTailErr q v = false ∧
    ((bitsOf v 15 0 + 65536 - u.qTail q) % 65536) ≤ (u.qN q - u.qFill q))
    (qRegs q) fun u t =>
      t.qTail q = bitsOf v 15 0 ∧ t.qHead q = u.qHead q ∧ t.get .Q_CNT q = u.get .Q_CNT q) ∧
  (∀ (m : Fin 8) (q : Fin 48) (v : Word), Serves (.qTailWrite m q v) m .Q_TAIL q (fun u => u.qTailErr q v = false ∧
    u.qFill q ≤ u.qN q ∧ (u.qN q - u.qFill q) < ((bitsOf v 15 0 + 65536 - u.qTail q) % 65536))
    (qRegs q ++ [(.MOD_FAULT, 0)]) fun u t =>
      t.qTail q = (u.qTail q + (u.qN q - u.qFill q)) % 65536 ∧ t.qFill q = u.qN q ∧
        t.flag MOD_FAULT_PROMISE 0 = true ∧
          t.fld Q_CNT_OVF q = min (u.fld Q_CNT_OVF q + (((bitsOf v 15 0 + 65536 - u.qTail q) % 65536) - (u.qN q -
            u.qFill q))) ((2 ^ (Q_CNT_OVF.hi + 1 - Q_CNT_OVF.lo)) - 1)) ∧
  (∀ (m : Fin 8) (q : Fin 48) (v : Word), Refuses (.qTailWrite m q v) m .Q_TAIL q (fun u => (u.flag Q_GEOM_EN q =
    false ∨ State.qHwProd q = true))) ∧
  (∀ (m : Fin 8) (q : Fin 48) (v : Word), Serves (.qHeadWrite m q v) m .Q_HEAD q (fun u => u.qHeadErr q v = false)
    (qRegs q) fun u t =>
      t.qHead q = bitsOf v 15 0 ∧ t.qTail q = u.qTail q) ∧
  (∀ (m : Fin 8) (q : Fin 48) (v : Word), Refuses (.qHeadWrite m q v) m .Q_HEAD q (fun u => (u.flag Q_GEOM_EN q =
    false ∨ State.qHwCons q = true))) ∧
  (∀ (m : Fin 8) (q : Fin 48), Serves (.qFlush m q) m .Q_CTRL q (fun u => (8 ≤ q.val ∧ q.val ≤ 23 →
    (u.can ((q.val - 8) / 2)).tx = none))
    (qRegs q) fun u t =>
      t.qHead q = u.qTail q ∧ t.qFill q = 0 ∧ t.qTail q = u.qTail q) ∧
  (∀ (m : Fin 8) (q : Fin 48), Serves (.qCclr m q) m .Q_CTRL q (fun _ => True)
    (ofInst [.Q_CNT, .Q_STAT] q.val) fun u t =>
      t.get .Q_CNT q = 0#32 ∧ t.flag Q_STAT_OVF q = false ∧ t.qFill q = u.qFill q) ∧
  (∀ (i : Fin 4) (e : List Word) (ad : Word) (v : Word) (s : State), let u := s.begin'
    s.begin'.cmdReady i = true → s.begin'.cmdHead i = e → s.begin'.rpCarries i = false →
      bitsOf (e.headD 0#32) 31 28 = 1 → bitsOf (e.headD 0#32) 23 16 = 1 → (e.drop 2).take 2 = [ad, v] →
        ad.toNat % 4 = 0 → memWritable ad.toNat = true → u.served = true → u.failsafe = false →
          (u.fld Q_GEOM_OWNER (30 + i.val)) < 7 → u.frozen (u.fld Q_GEOM_OWNER (30 + i.val)) = false →
            2 ≤ u.memRight (u.fld Q_GEOM_OWNER (30 + i.val)) ad.toNat → ∃ t, exec (.cmdWrites i) s = .next t ∧
              t.resp = [.ok 0#32] ∧ t.qHead (30 + i) = (u.qHead (30 + i) + 1) % 65536 ∧ t.rdWord ad.toNat = v ∧
                State.onlyBut (qRegs (30 + i.val)) (fun a => decide (ad.toNat ≤ a) && decide (a < ad.toNat + 4)) u t)
                  ∧
  (∀ (i : Fin 4) (e : List Word) (s : State), let u := s.begin'
    s.begin'.cmdReady i = true → s.begin'.cmdHead i = e → bitsOf (e.headD 0#32) 31 28 ≠ 2 →
      (bitsOf (e.headD 0#32) 31 28 ≠ 1 ∨ bitsOf (e.headD 0#32) 23 16 = 0 ∨ 15 < bitsOf (e.headD 0#32) 23 16) →
        ∃ t, exec (.cmdWrites i) s = .next t ∧ t.resp = [] ∧ t.qHead (30 + i) = (u.qHead (30 + i) + 1) % 65536 ∧
          t.fld Q_CNT_ERR (30 + i) = min (u.fld Q_CNT_ERR (30 + i) + 1) (2 ^ (Q_CNT_ERR.hi + 1 - Q_CNT_ERR.lo) - 1) ∧
            State.only (qRegs (30 + i.val)) u t) ∧
  (∀ (i : Fin 4), Acts (.cmdWrites i) (fun u => u.cmdReady i = false)
    [] fun u t =>
      t.cmdT = u.cmdT) ∧
  (∀ (i : Fin 4) (e : List Word), Acts (.cmdReplay i) (fun u => u.cmdHead i = e ∧ bitsOf (e.headD 0#32) 31 28 = 2 ∧
    u.rpCarries i = true ∧ u.served = true ∧ u.flag Q_GEOM_EN (30 + i.val) = true ∧ u.qFill (30 + i.val) ≠ 0 ∧
      ((SMap.get {} u.replay.qs i.val : RpQueue).tick ≠ u.tick + 1 ∨ (SMap.get {} u.replay.qs i.val : RpQueue).n <
        16))
    (qRegs (30 + i.val)) fun u t =>
      t.qHead (30 + i) = (u.qHead (30 + i) + 1) % 65536 ∧
        (SMap.get {} t.replay.qs i.val : RpQueue).words = (SMap.get {} u.replay.qs i.val : RpQueue).words ++ (e.drop
          2).take (min 30 (bitsOf (e.getD 1 0#32) 15 8))) ∧
  (∀ (i : Fin 4) (e : List Word) (s : State), let u := s.begin'
    s.begin'.cmdReady i = true → s.begin'.cmdHead i = e → s.begin'.rpCarries i = false →
      bitsOf (e.headD 0#32) 31 28 = 2 → ∃ t, exec (.cmdReplay i) s = .next t ∧ t.resp = [] ∧
        t.qHead (30 + i) = (u.qHead (30 + i) + 1) % 65536 ∧
          t.fld Q_CNT_ERR (30 + i) = min (u.fld Q_CNT_ERR (30 + i) + 1) (2 ^ (Q_CNT_ERR.hi + 1 - Q_CNT_ERR.lo) - 1) ∧
            State.only (qRegs (30 + i.val)) u t) ∧
  (∀ (i : Fin 4), Acts (.cmdReplay i) (fun u => bitsOf ((u.cmdHead i).headD 0#32) 31 28 ≠ 2)
    [] fun u t =>
      t.replay = u.replay ∧ t.cmdT = u.cmdT)

/-- An accepted ZHA request is carried out with its session's rights and answered; others are counted and dropped
(model choices: logs 84, 93, 94, 95 and 125). What rests on logs 84, 93, 94, 95 and 125 is the model's choice. (R403,
R405, R406, R407, R408, R409) -/
def Obligations.ZhaRequests : Prop :=
  (∀ (f : ZhaFrame) (i : Fin 4) (n : Nat) (ad : Nat) (s : State), let u := s.begin'
    State.zhaType f = 1 → u.portUp f.port = true → u.otherPort f = false → u.zhaTest f = .accept →
      State.byte1 f.payload 4 = i.val → u.served = true → u.failsafe = false → u.frozen (2 + i.val) = false →
        (State.zhaBody f).length = 8 → 1 ≤ n → n ≤ 256 → (State.word4 (State.zhaBody f) 4) = BitVec.ofNat 32 n →
          ad % 4 = 0 → (State.word4 (State.zhaBody f) 0) = BitVec.ofNat 32 ad → (∀ k, k < n →
            (inSram (ad + 4 * k) || inMram (ad + 4 * k)) = true ∧ 1 ≤ u.memRight (2 + i.val) (ad + 4 * k)) →
              ∃ t, exec (.zhaRead f) s = .next t ∧
                t.resp = (List.range n).map (fun k => .ok (u.rdWord (ad + 4 * k))) ∧ (u.onSubnet i = true →
                  t.out.getLast? = some (.zha i (u.zhaFrame i 0x81 (State.word4 f.payload 12) (State.zhaStatus 0 0 ++
                    (List.range n).flatMap fun k => wordBytes (u.rdWord (ad + 4 * k)))))) ∧ (u.onSubnet i = false →
                      t.out = []) ∧ (t.session i).stored = some (u.zhaFrame i 0x81 (State.word4 f.payload 12)
                        (State.zhaStatus 0 0 ++ (List.range n).flatMap fun k => wordBytes (u.rdWord (ad + 4 * k)))) ∧
                          t.get .HL_SSEQ i = (State.word4 f.payload 12) ∧
                            t.get .HL_SREQ i = u.get .HL_SREQ i + 1#32 ∧ t.flag HL_SSTAT_BUSY i = false ∧
                              State.only (ofInst [.HL_SSEQ, .HL_SREQ, .HL_SSTAT] i.val ++ [(.HL_PCNT, f.port.val)]) u
                                t) ∧
  (∀ (f : ZhaFrame) (i : Fin 4) (n : Nat) (ad : Nat) (s : State), let u := s.begin'
    State.zhaType f = 2 → u.portUp f.port = true → u.otherPort f = false → u.zhaTest f = .accept →
      State.byte1 f.payload 4 = i.val → u.served = true → u.failsafe = false → u.frozen (2 + i.val) = false →
        (State.zhaBody f).length = 8 + 4 * n → 1 ≤ n → n ≤ 256 →
          (State.word4 (State.zhaBody f) 4) = BitVec.ofNat 32 n → ad % 4 = 0 →
            (State.word4 (State.zhaBody f) 0) = BitVec.ofNat 32 ad → (∀ k, k < n → memWritable (ad + 4 * k) = true ∧
              2 ≤ u.memRight (2 + i.val) (ad + 4 * k)) → ∃ t, exec (.zhaWrite f) s = .next t ∧
                t.resp = List.replicate n (.ok 0#32) ∧ (u.onSubnet i = true →
                  t.out.getLast? = some (.zha i (u.zhaFrame i 0x82 (State.word4 f.payload 12) (State.zhaStatus 0
                    0)))) ∧ (u.onSubnet i = false → t.out = []) ∧
                      (t.session i).stored = some (u.zhaFrame i 0x82 (State.word4 f.payload 12) (State.zhaStatus 0
                        0)) ∧ t.get .HL_SSEQ i = (State.word4 f.payload 12) ∧
                          t.get .HL_SREQ i = u.get .HL_SREQ i + 1#32 ∧ t.flag HL_SSTAT_BUSY i = false ∧ (∀ k, k < n →
                            t.rdWord (ad + 4 * k) = (State.word4 (State.zhaBody f) (8 + 4 * k))) ∧
                              State.onlyBut (ofInst [.HL_SSEQ, .HL_SREQ, .HL_SSTAT] i.val ++ [(.HL_PCNT,
                                f.port.val)]) (fun a => decide (ad ≤ a) && decide (a < ad + 4 * n)) u t) ∧
  (∀ (f : ZhaFrame) (i : Fin 4) (ad : Nat) (v : Word) (s : State), let u := s.begin'
    State.zhaType f = 3 → u.portUp f.port = true → u.otherPort f = false → u.zhaTest f = .accept →
      State.byte1 f.payload 4 = i.val → u.served = true → u.failsafe = false → u.frozen (2 + i.val) = false →
        (State.zhaBody f).length = 8 → ad % 4 = 0 → (State.word4 (State.zhaBody f) 0) = BitVec.ofNat 32 ad →
          (State.word4 (State.zhaBody f) 4) = v → memWritable ad = true → 2 ≤ u.memRight (2 + i.val) ad →
            ∃ t, exec (.zhaWriteList f) s = .next t ∧ t.resp = [.ok 0#32] ∧ (u.onSubnet i = true →
              t.out.getLast? = some (.zha i (u.zhaFrame i 0x83 (State.word4 f.payload 12) (State.zhaStatus 0 0)))) ∧
                (u.onSubnet i = false → t.out = []) ∧
                  (t.session i).stored = some (u.zhaFrame i 0x83 (State.word4 f.payload 12) (State.zhaStatus 0 0)) ∧
                    t.get .HL_SSEQ i = (State.word4 f.payload 12) ∧ t.get .HL_SREQ i = u.get .HL_SREQ i + 1#32 ∧
                      t.flag HL_SSTAT_BUSY i = false ∧ t.rdWord ad = v ∧
                        State.onlyBut (ofInst [.HL_SSEQ, .HL_SREQ, .HL_SSTAT] i.val ++ [(.HL_PCNT, f.port.val)]) (fun
                          a => decide (ad ≤ a) && decide (a < ad + 4)) u t) ∧
  (∀ (f : ZhaFrame) (i : Fin 4) (r : List Byte) (s : State), let u := s.begin'
    State.zhaType f = 2 → u.portUp f.port = true → u.otherPort f = false → u.zhaTest f = .dup →
      State.byte1 f.payload 4 = i.val → (u.session i).stored = some r → ∃ t, exec (.zhaWrite f) s = .next t ∧
        t.resp = [] ∧ (u.onSubnet i = true → t.out.getLast? = some (.zha i (r))) ∧ (u.onSubnet i = false →
          t.out = []) ∧ t.fld HL_SCNT_DUP i = min (u.fld HL_SCNT_DUP i + 1) (2 ^ (HL_SCNT_DUP.hi + 1 -
            HL_SCNT_DUP.lo) - 1) ∧ State.only (ofInst [HL_SCNT_DUP.reg] i.val ++ [(.HL_PCNT, f.port.val)]) u t) ∧
  (∀ (f : ZhaFrame) (i : Fin 4) (q : Fin 48) (s : State), let u := s.begin'
    State.zhaType f = 4 → u.portUp f.port = true → u.otherPort f = false → u.zhaTest f = .accept →
      State.byte1 f.payload 4 = i.val → u.served = true → u.failsafe = false → u.frozen (2 + i.val) = false →
        q.val = 30 + i.val → (State.zhaBody f).length = 128 → u.roomy q = true → ∃ t, exec (.zhaCmdq f) s = .next t ∧
          t.resp = [] ∧ (u.onSubnet i = true →
            t.out.getLast? = some (.zha i (u.zhaFrame i 0x84 (State.word4 f.payload 12) (State.zhaStatus 0 0)))) ∧
              (u.onSubnet i = false → t.out = []) ∧
                (t.session i).stored = some (u.zhaFrame i 0x84 (State.word4 f.payload 12) (State.zhaStatus 0 0)) ∧
                  t.get .HL_SSEQ i = (State.word4 f.payload 12) ∧ t.get .HL_SREQ i = u.get .HL_SREQ i + 1#32 ∧
                    t.flag HL_SSTAT_BUSY i = false ∧ took q (State.zhaBody f) u t ∧
                      State.onlyBut (ofInst [.HL_SSEQ, .HL_SREQ, .HL_SSTAT] i.val ++ [(.HL_PCNT, f.port.val)] ++
                        qRegs q) (fun a => u.inSlot q a) u t) ∧
  (∀ (f : ZhaFrame) (i : Fin 4) (q : Fin 48) (s : State), let u := s.begin'
    State.zhaType f = 4 → u.portUp f.port = true → u.otherPort f = false → u.zhaTest f = .accept →
      State.byte1 f.payload 4 = i.val → u.served = true → u.failsafe = false → u.frozen (2 + i.val) = false →
        q.val = 30 + i.val → (State.zhaBody f).length = 128 → u.roomy q = false →
          ∃ t, exec (.zhaCmdq f) s = .next t ∧ t.resp = [] ∧ (u.onSubnet i = true →
            t.out.getLast? = some (.zha i (u.zhaFrame i 0x84 (State.word4 f.payload 12) (State.zhaStatus 0 3)))) ∧
              (u.onSubnet i = false → t.out = []) ∧
                (t.session i).stored = some (u.zhaFrame i 0x84 (State.word4 f.payload 12) (State.zhaStatus 0 3)) ∧
                  t.get .HL_SSEQ i = (State.word4 f.payload 12) ∧ t.get .HL_SREQ i = u.get .HL_SREQ i + 1#32 ∧
                    t.flag HL_SSTAT_BUSY i = false ∧ t.qTail q = u.qTail q ∧ t.flag MOD_FAULT_PROMISE 0 = true ∧
                      t.fld Q_CNT_OVF q = min (u.fld Q_CNT_OVF q + 1) (2 ^ (Q_CNT_OVF.hi + 1 - Q_CNT_OVF.lo) - 1) ∧
                        State.only (ofInst [.HL_SSEQ, .HL_SREQ, .HL_SSTAT] i.val ++ [(.HL_PCNT, f.port.val)] ++ qRegs
                          q ++ [(.MOD_FAULT, 0)]) u t) ∧
  (∀ (f : ZhaFrame) (i : Fin 4) (s : State), let u := s.begin'
    State.zhaType f = 5 → u.portUp f.port = true → u.otherPort f = false → u.zhaTest f = .accept →
      State.byte1 f.payload 4 = i.val → u.served = true → u.failsafe = false → u.frozen (2 + i.val) = false →
        (State.zhaBody f).length = 4 → u.flag HL_SSTAT_OUT i = true →
          (State.word4 (State.zhaBody f) 0) = u.get .HL_SSSEQ i → ∃ t, exec (.zhaStreamAck f) s = .next t ∧
            t.resp = [] ∧ (u.onSubnet i = true →
              t.out.getLast? = some (.zha i (u.zhaFrame i 0x85 (State.word4 f.payload 12) (State.zhaStatus 0 0)))) ∧
                (u.onSubnet i = false → t.out = []) ∧
                  (t.session i).stored = some (u.zhaFrame i 0x85 (State.word4 f.payload 12) (State.zhaStatus 0 0)) ∧
                    t.get .HL_SSEQ i = (State.word4 f.payload 12) ∧ t.get .HL_SREQ i = u.get .HL_SREQ i + 1#32 ∧
                      t.flag HL_SSTAT_BUSY i = false ∧ t.flag HL_SSTAT_OUT i = false ∧
                        t.qHead (34 + i) = (u.qHead (34 + i) + u.qHeld (34 + i)) % 65536 ∧ t.qHeld (34 + i) = 0 ∧
                          State.only (ofInst [.HL_SSEQ, .HL_SREQ, .HL_SSTAT] i.val ++ [(.HL_PCNT, f.port.val)] ++
                            qRegs (34 + i.val)) u t) ∧
  (∀ (f : ZhaFrame) (i : Fin 4) (s : State), let u := s.begin'
    State.zhaType f = 5 → u.portUp f.port = true → u.otherPort f = false → u.zhaTest f = .accept →
      State.byte1 f.payload 4 = i.val → u.served = true → u.failsafe = false → u.frozen (2 + i.val) = false →
        (State.zhaBody f).length = 4 → u.flag HL_SSTAT_OUT i = false → ∃ t, exec (.zhaStreamAck f) s = .next t ∧
          t.resp = [] ∧ (u.onSubnet i = true →
            t.out.getLast? = some (.zha i (u.zhaFrame i 0x85 (State.word4 f.payload 12) (State.zhaStatus 0 0)))) ∧
              (u.onSubnet i = false → t.out = []) ∧
                (t.session i).stored = some (u.zhaFrame i 0x85 (State.word4 f.payload 12) (State.zhaStatus 0 0)) ∧
                  t.get .HL_SSEQ i = (State.word4 f.payload 12) ∧ t.get .HL_SREQ i = u.get .HL_SREQ i + 1#32 ∧
                    t.flag HL_SSTAT_BUSY i = false ∧ t.streamOut = u.streamOut ∧
                      State.only (ofInst [.HL_SSEQ, .HL_SREQ, .HL_SSTAT] i.val ++ [(.HL_PCNT, f.port.val)]) u t) ∧
  (∀ (f : ZhaFrame) (i : Fin 4) (s : State), let u := s.begin'
    State.zhaType f = 6 → u.portUp f.port = true → u.otherPort f = false → u.zhaTest f = .ping →
      State.byte1 f.payload 4 = i.val → u.served = true → u.failsafe = false → u.frozen (2 + i.val) = false →
        (State.zhaBody f) = [] → ∃ t, exec (.zhaPing f) s = .next t ∧ t.resp = [] ∧ (u.onSubnet i = true →
          t.out.getLast? = some (.zha i (u.zhaFrame i 0x86 (State.word4 f.payload 12) (State.zhaStatus 0 0 ++
            wordBytes (u.get .HL_EPOCH 0) ++ wordBytes (u.get .HL_SSEQ i) ++ wordBytes (loW u.nowClk) ++ wordBytes
              (hiW u.nowClk))))) ∧ (u.onSubnet i = false → t.out = []) ∧ t.get .HL_SSEQ i = u.get .HL_SSEQ i ∧
                State.only ([(.HL_PCNT, f.port.val)]) u t) ∧
  (∀ (p : Fin 2), Acts (.zhaFrameDrop (.eth p)) (fun u => u.portUp p = true)
    [(.HL_PCNT, p.val)] fun u t =>
      t.fld HL_PCNT_DROP p = min (u.fld HL_PCNT_DROP p + 1) (2 ^ (HL_PCNT_DROP.hi + 1 - HL_PCNT_DROP.lo) - 1) ∧
        t.fld HL_PCNT_RX p = (u.fld HL_PCNT_RX p + 1) % 2 ^ (HL_PCNT_RX.hi + 1 - HL_PCNT_RX.lo)) ∧
  (∀ (f : ZhaFrame) (p : Fin 2), Acts (.zhaFrameDrop (.zha f)) (fun u => f.port = p ∧ u.portUp p = true ∧
    u.otherPort f = true)
    [(.HL_PCNT, p.val)] fun u t =>
      t.fld HL_PCNT_DROP p = min (u.fld HL_PCNT_DROP p + 1) (2 ^ (HL_PCNT_DROP.hi + 1 - HL_PCNT_DROP.lo) - 1) ∧
        t.fld HL_PCNT_RX p = (u.fld HL_PCNT_RX p + 1) % 2 ^ (HL_PCNT_RX.hi + 1 - HL_PCNT_RX.lo)) ∧
  (∀ (f : ZhaFrame) (i : Fin 4), Acts (.zhaFrameDrop (.zha f)) (fun u => u.portUp f.port = true ∧
    u.otherPort f = false ∧ u.zhaTest f = .bad ∧ State.byte1 f.payload 4 = i.val ∧ 5 ≤ f.payload.length)
    [(HL_SCNT_BAD.reg, i.val), (.HL_PCNT, f.port.val)] fun u t =>
      t.fld HL_SCNT_BAD i = min (u.fld HL_SCNT_BAD i + 1) (2 ^ (HL_SCNT_BAD.hi + 1 - HL_SCNT_BAD.lo) - 1)) ∧
  (∀ (f : ZhaFrame) (i : Fin 4), Acts (.zhaFrameDrop (.zha f)) (fun u => u.portUp f.port = true ∧
    u.otherPort f = false ∧ u.zhaTest f = .auth ∧ State.byte1 f.payload 4 = i.val)
    ([(HL_SCNT_AUTH.reg, i.val), (.HL_PCNT, f.port.val)] ++ evtRegs 244) fun u t =>
      t.fld HL_SCNT_AUTH i = min (u.fld HL_SCNT_AUTH i + 1) (2 ^ (HL_SCNT_AUTH.hi + 1 - HL_SCNT_AUTH.lo) - 1) ∧
        t.pends 244 = true) ∧
  (∀ (f : ZhaFrame) (i : Fin 4), Acts (.zhaFrameDrop (.zha f)) (fun u => u.portUp f.port = true ∧
    u.otherPort f = false ∧ u.zhaTest f = .stale ∧ State.byte1 f.payload 4 = i.val)
    ([(HL_SCNT_STALE.reg, i.val), (.HL_PCNT, f.port.val)] ++ evtRegs 244) fun u t =>
      t.fld HL_SCNT_STALE i = min (u.fld HL_SCNT_STALE i + 1) (2 ^ (HL_SCNT_STALE.hi + 1 - HL_SCNT_STALE.lo) - 1) ∧
        t.pends 244 = true ∧ t.get .HL_SSEQ i = u.get .HL_SSEQ i) ∧
  (∀ (f : ZhaFrame) (i : Fin 4), Acts (.zhaFrameDrop (.zha f)) (fun u => u.portUp f.port = true ∧
    u.otherPort f = false ∧ u.zhaTest f = .accept ∧ State.byte1 f.payload 4 = i.val ∧ 6 < State.zhaType f ∧
      u.frozen (2 + i.val) = false)
    (ofInst [.HL_SSEQ, .HL_SREQ, .HL_SSTAT] i.val ++ [(.HL_PCNT, f.port.val)]) fun u t =>
      (u.onSubnet i = true → t.out.getLast? = some (.zha i (u.zhaFrame i (State.zhaType f + 0x80) (State.word4
        f.payload 12) (State.zhaStatus 0 4)))) ∧ (u.onSubnet i = false → t.out = []) ∧
          t.get .HL_SSEQ i = (State.word4 f.payload 12))

/-- Stream frames, the small protocols of the ports, and the SPI port answer and count as their frames say (model
choices: logs 88, 95 and 125). What rests on logs 88, 95 and 125 is the model's choice. (R403, R409, R410, R411) -/
def Obligations.HostPorts : Prop :=
  (∀ (i : Fin 4), Acts (.streamFrameSend i) (fun u => u.flag HL_SCFG_EN i = true ∧
    u.flag HL_SCFG_STREAM_EN i = true ∧ u.portUp (u.fld HL_SCFG_PORT i) = true ∧ u.flag HL_SSTAT_OUT i = false ∧
      u.flag Q_GEOM_EN (34 + i) = true ∧ u.qFill (34 + i) ≠ 0)
    (ofInst [.HL_SSSEQ, .HL_SSTAT] i.val) fun u t =>
      (u.onSubnet i = true → t.out.getLast? = some (.zha i (u.zhaFrame i 0x10 (u.get .HL_SSSEQ i + 1#32) ((List.range
        (min 40 (u.qFill (34 + i)))).flatMap fun k => u.rdBytes (u.qSlot (34 + i) ((u.qHead (34 + i) + k) % 65536))
          32)))) ∧ (u.onSubnet i = false → t.out = []) ∧
            (t.session i).frame = (u.zhaFrame i 0x10 (u.get .HL_SSSEQ i + 1#32) ((List.range (min 40 (u.qFill (34 +
              i)))).flatMap fun k => u.rdBytes (u.qSlot (34 + i) ((u.qHead (34 + i) + k) % 65536)) 32)) ∧
                t.get .HL_SSSEQ i = u.get .HL_SSSEQ i + 1#32 ∧ t.flag HL_SSTAT_OUT i = true ∧
                  t.qHeld (34 + i) = min 40 (u.qFill (34 + i))) ∧
  (∀ (i : Fin 4), Acts (.streamFrameSend i) (fun u => u.flag HL_SSTAT_OUT i = true ∨ u.qFill (34 + i) = 0 ∨ u.flag
    HL_SCFG_STREAM_EN i = false)
    [] fun u t =>
      t.sess = u.sess ∧ t.out = []) ∧
  (∀ (i : Fin 4), Acts (.streamResend i) (fun u => u.flag HL_SSTAT_OUT i = true ∧ u.flag HL_SCFG_EN i = true ∧
    u.flag HL_SCFG_STREAM_EN i = true ∧ u.portUp (u.fld HL_SCFG_PORT i) = true ∧
      (u.session i).outT + 2000000 * u.fld HL_SCFG_SRTO i ≤ u.Tn)
    [] fun u t =>
      (u.onSubnet i = true → t.out.getLast? = some (.zha i ((u.session i).frame))) ∧ (u.onSubnet i = false →
        t.out = []) ∧ (t.session i).outT = u.Tn ∧ (t.session i).frame = (u.session i).frame) ∧
  (∀ (i : Fin 4), Acts (.streamResend i) (fun u => u.flag HL_SSTAT_OUT i = false ∨ u.flag HL_SCFG_STREAM_EN i = false)
    [] fun u t =>
      t.sess = u.sess ∧ t.out = []) ∧
  (∀ (p : Fin 2) (ip : Word), Acts (.arpRequest p ip) (fun u => u.portUp p = true)
    [(.HL_PCNT, p.val)] fun u t =>
      t.out = (if ip = u.get .HL_IP p then [.arpReply p] else []) ∧
        t.fld HL_PCNT_RX p = (u.fld HL_PCNT_RX p + 1) % 2 ^ (HL_PCNT_RX.hi + 1 - HL_PCNT_RX.lo)) ∧
  (∀ (p : Fin 2) (ip : Word), Acts (.arpReply p ip) (fun u => u.portUp p = true)
    [(.HL_PCNT, p.val)] fun u t =>
      (∀ i : Fin 4, u.flag HL_SCFG_EN i = true → u.fld HL_SCFG_PORT i = p → u.get .HL_SPEER i = ip →
        (t.session i).arp = some u.nowClk) ∧
          (∀ i : Fin 4, u.flag HL_SCFG_EN i = false ∨ u.fld HL_SCFG_PORT i ≠ p ∨ u.get .HL_SPEER i ≠ ip →
            t.session i = u.session i) ∧
              t.fld HL_PCNT_RX p = (u.fld HL_PCNT_RX p + 1) % 2 ^ (HL_PCNT_RX.hi + 1 - HL_PCNT_RX.lo)) ∧
  (∀ (i : Fin 4) (k : Nat), Acts (.arpEntryExpiry i) (fun u => (u.session i).arp = some k ∧ k + 60 * 200000000 ≤ u.Tn)
    [] fun u t =>
      (t.session i).arp = none ∧ (t.session i).frame = (u.session i).frame) ∧
  (∀ (p : Fin 2) (d : List Byte), Acts (.icmpEcho p d) (fun u => u.portUp p = true ∧
    u.flag HL_PCFG_ICMP_EN p = true ∧ d.length ≤ 1472 ∧
      ((SMap.get {} u.ports p.val : Port).sec ≠ u.T / 200000000 ∨ (SMap.get {} u.ports p.val : Port).echoes < 100))
    [(.HL_PCNT, p.val)] fun u t =>
      t.out = [.echo p d] ∧ (SMap.get {} t.ports p.val : Port) =
        { sec := u.T / 200000000, echoes := (if (SMap.get {} u.ports p.val : Port).sec = u.T / 200000000 then (SMap.get {} u.ports p.val : Port).echoes else 0) + 1 } ∧ t.fld HL_PCNT_RX p = (u.fld HL_PCNT_RX p + 1) % 2 ^ (HL_PCNT_RX.hi + 1 - HL_PCNT_RX.lo)) ∧
  (∀ (p : Fin 2) (d : List Byte), Acts (.icmpEcho p d) (fun u => u.portUp p = true ∧
    (u.flag HL_PCFG_ICMP_EN p = false ∨ 1472 < d.length ∨ (SMap.get {} u.ports p.val : Port).sec = u.T / 200000000 ∧
      100 ≤ (SMap.get {} u.ports p.val : Port).echoes))
    [(.HL_PCNT, p.val)] fun u t =>
      t.out = [] ∧ t.ports = u.ports ∧
        t.fld HL_PCNT_RX p = (u.fld HL_PCNT_RX p + 1) % 2 ^ (HL_PCNT_RX.hi + 1 - HL_PCNT_RX.lo)) ∧
  (∀ (p : Fin 2) (b : Bool) (q : Fin 8), Acts (.hlLink p b q) (fun u => u.served = true ∧ u.failsafe = false ∧
    u.flag HL_PCFG_EN p = true ∧ u.flag HL_PSTAT_LINK p ≠ b)
    ([(.HL_PSTAT, p.val)] ++ evtRegs 245) fun _ t =>
      t.flag HL_PSTAT_LINK p = b ∧ t.fld HL_PSTAT_SQI p = q ∧ t.pends 245 = true ∧
        t.out = (if b then [.arpAnnounce p] else [])) ∧
  (∀ (p : Fin 2) (b : Bool) (q : Fin 8), Acts (.hlLink p b q) (fun u => u.flag HL_PSTAT_LINK p = b ∨ u.flag
    HL_PCFG_EN p = false)
    [] fun _ t =>
      t.out = []) ∧
  (∀ (l : List Byte) (s : State), let u := s.begin'
    s.begin'.spiOn = true → u.served = true → u.failsafe = false → State.byte1 l 0 = 2 → (State.byte1 l 5 + 1) ≤ 64 →
      l.length = 8 + 4 * (State.byte1 l 5 + 1) → State.spiCrc (l.take (l.length - 2)) = l.drop (l.length - 2) →
        u.frozen 6 = false → (State.spiWord ((l.drop 1).take 4)).toNat % 4 = 0 → (∀ k, k < (State.byte1 l 5 + 1) →
          memWritable ((State.spiWord ((l.drop 1).take 4)).toNat + 4 * k) = true ∧
            2 ≤ u.memRight 6 ((State.spiWord ((l.drop 1).take 4)).toNat + 4 * k)) →
              ∃ t, exec (.spiWrite l) s = .next t ∧ t.resp = List.replicate (State.byte1 l 5 + 1) (.ok 0#32) ∧
                t.fld HL_SPI_STAT_WSEQ 0 = (u.fld HL_SPI_STAT_WSEQ 0 + 1) % 2 ^ (HL_SPI_STAT_WSEQ.hi + 1 -
                  HL_SPI_STAT_WSEQ.lo) ∧ t.fld HL_SPI_STAT_RESULT 0 = 0 ∧ t.fld HL_SPI_STAT_INDEX 0 = 0 ∧
                    t.fld HL_SPI_CNT_FRAMES 0 = (u.fld HL_SPI_CNT_FRAMES 0 + 1) % 2 ^ (HL_SPI_CNT_FRAMES.hi + 1 -
                      HL_SPI_CNT_FRAMES.lo) ∧ (∀ k, k < (State.byte1 l 5 + 1) →
                        t.rdWord ((State.spiWord ((l.drop 1).take 4)).toNat + 4 * k) = State.spiWord ((l.drop (6 + 4
                          * k)).take 4)) ∧ State.onlyBut ([(.HL_SPI_STAT, 0), (.HL_SPI_CNT, 0)]) (fun a => decide
                            ((State.spiWord ((l.drop 1).take 4)).toNat ≤ a) && decide (a < (State.spiWord ((l.drop
                              1).take 4)).toNat + 4 * (State.byte1 l 5 + 1))) u t) ∧
  (∀ (l : List Byte) (s : State), let u := s.begin'
    s.begin'.spiOn = true → State.byte1 l 0 = 2 →
      (l.length ≠ 8 + 4 * (State.byte1 l 5 + 1) ∨ 64 < (State.byte1 l 5 + 1) ∨ State.spiCrc (l.take (l.length - 2)) ≠
        l.drop (l.length - 2)) → ∃ t, exec (.spiWrite l) s = .next t ∧ t.resp = [] ∧
          t.fld HL_SPI_STAT_WSEQ 0 = (u.fld HL_SPI_STAT_WSEQ 0 + 1) % 2 ^ (HL_SPI_STAT_WSEQ.hi + 1 -
            HL_SPI_STAT_WSEQ.lo) ∧ t.fld HL_SPI_STAT_RESULT 0 = 3 ∧ t.fld HL_SPI_STAT_INDEX 0 = 0 ∧
              t.fld HL_SPI_CNT_FRAMES 0 = (u.fld HL_SPI_CNT_FRAMES 0 + 1) % 2 ^ (HL_SPI_CNT_FRAMES.hi + 1 -
                HL_SPI_CNT_FRAMES.lo) ∧
                  t.fld HL_SPI_CNT_BAD 0 = min (u.fld HL_SPI_CNT_BAD 0 + 1) (2 ^ (HL_SPI_CNT_BAD.hi + 1 -
                    HL_SPI_CNT_BAD.lo) - 1) ∧ t.pends 247 = true ∧
                      State.only ([(.HL_SPI_STAT, 0), (.HL_SPI_CNT, 0)] ++ evtRegs 247) u t) ∧
  (∀ (l : List Byte) (j : Nat) (s : State), let u := s.begin'
    s.begin'.spiOn = true → u.served = true → u.failsafe = false → State.byte1 l 0 = 3 → 6 ≤ l.length →
      (State.byte1 l 5 + 1) ≤ 64 → (State.byte1 l 5 + 1) ≤ j → u.frozen 6 = false →
        (State.spiWord ((l.drop 1).take 4)).toNat % 4 = 0 → (∀ k, k < (State.byte1 l 5 + 1) →
          (inSram ((State.spiWord ((l.drop 1).take 4)).toNat + 4 * k) || inMram ((State.spiWord ((l.drop 1).take
            4)).toNat + 4 * k)) = true ∧ 1 ≤ u.memRight 6 ((State.spiWord ((l.drop 1).take 4)).toNat + 4 * k)) →
              ∃ t, exec (.spiRead l j) s = .next t ∧
                t.resp = (List.range (State.byte1 l 5 + 1)).map (fun k => .ok (u.rdWord ((State.spiWord ((l.drop
                  1).take 4)).toNat + 4 * k))) ∧
                    t.out = [.spi (0xA5#8 :: (((List.range (State.byte1 l 5 + 1)).flatMap fun k => State.spiBytes
                      (u.rdWord ((State.spiWord ((l.drop 1).take 4)).toNat + 4 * k))) ++ [0#8]) ++ State.spiCrc
                        (((List.range (State.byte1 l 5 + 1)).flatMap fun k => State.spiBytes (u.rdWord
                          ((State.spiWord ((l.drop 1).take 4)).toNat + 4 * k))) ++ [0#8]))] ∧
                            t.fld HL_SPI_CNT_FRAMES 0 = (u.fld HL_SPI_CNT_FRAMES 0 + 1) % 2 ^ (HL_SPI_CNT_FRAMES.hi +
                              1 - HL_SPI_CNT_FRAMES.lo) ∧ State.only ([(.HL_SPI_CNT, 0)]) u t) ∧
  (∀ (l : List Byte) (j : Nat) (s : State), let u := s.begin'
    s.begin'.spiOn = true → State.byte1 l 0 = 3 → (l.length < 6 ∨ 64 < (State.byte1 l 5 + 1)) →
      ∃ t, exec (.spiRead l j) s = .next t ∧ t.resp = [] ∧ t.out = [] ∧
        t.fld HL_SPI_CNT_BAD 0 = min (u.fld HL_SPI_CNT_BAD 0 + 1) (2 ^ (HL_SPI_CNT_BAD.hi + 1 - HL_SPI_CNT_BAD.lo) -
          1) ∧ t.pends 247 = true ∧ State.only ([(.HL_SPI_CNT, 0)] ++ evtRegs 247) u t) ∧
  (Acts (.spiStatus) (fun u => u.spiOn = true)
    [(.HL_SPI_CNT, 0)] fun u t =>
      t.out = [.spi ([BitVec.ofNat 8 (u.fld HL_SPI_STAT_WSEQ 0), BitVec.ofNat 8 (u.fld HL_SPI_STAT_RESULT 0)] ++
        (natBytes (u.fld HL_SPI_STAT_INDEX 0) 2).reverse ++ State.spiCrc ([BitVec.ofNat 8 (u.fld HL_SPI_STAT_WSEQ 0),
          BitVec.ofNat 8 (u.fld HL_SPI_STAT_RESULT 0)] ++ (natBytes (u.fld HL_SPI_STAT_INDEX 0) 2).reverse))] ∧
            t.fld HL_SPI_CNT_FRAMES 0 = (u.fld HL_SPI_CNT_FRAMES 0 + 1) % 2 ^ (HL_SPI_CNT_FRAMES.hi + 1 -
              HL_SPI_CNT_FRAMES.lo)) ∧
  (∀ (c : Fin 256), Acts (.spiErr c) (fun u => u.spiOn = true ∧ c.val ≠ 2 ∧ c.val ≠ 3 ∧ c.val ≠ 5)
    ([(.HL_SPI_CNT, 0)] ++ evtRegs 247) fun u t =>
      t.fld HL_SPI_CNT_FRAMES 0 = (u.fld HL_SPI_CNT_FRAMES 0 + 1) % 2 ^ (HL_SPI_CNT_FRAMES.hi + 1 -
        HL_SPI_CNT_FRAMES.lo) ∧
          t.fld HL_SPI_CNT_BAD 0 = min (u.fld HL_SPI_CNT_BAD 0 + 1) (2 ^ (HL_SPI_CNT_BAD.hi + 1 - HL_SPI_CNT_BAD.lo)
            - 1) ∧ t.pends 247 = true ∧ t.out = []) ∧
  (∀ (c : Fin 256), Acts (.spiErr c) (fun u => u.spiOn = false ∨ c.val = 2 ∨ c.val = 3 ∨ c.val = 5)
    [] fun _ t =>
      t.out = [])

/-- A helper core starts, reloads, halts for its causes, and its watchdog and timer act as set (model choices: logs 9,
20, 97 and 153). What rests on logs 9, 20, 97 and 153 is the model's choice. (R56, R67, R413, R414, R415, R416, R418)
-/
def Obligations.HelperCores : Prop :=
  (∀ (m : Fin 8) (i : Fin 2) (v : Word), Serves (.hcRunStart m i v) m .HC_RUN i (fun u => u.frozen i = false ∧
    u.hcState i ≠ 1 ∧ u.hcState i ≠ 6 ∧ (u.hc i).image = true ∧ u.flag HC_STAT_LOADING i = false ∧ bitAt v 1 = false)
    (ofInst [.HC_STAT] i.val) fun u t =>
      t.hcState i = 1 ∧ t.flag HC_STAT_LOADING i = false ∧ (t.hc i).pc = 0x10000000#32 ∧
        t.hc i = { image := true, mtimecmp := (u.hc i).mtimecmp, timer := (u.hc i).timer, wdtT := u.T }) ∧
  (∀ (m : Fin 8) (i : Fin 2) (v : Word), Serves (.hcRunStart m i v) m .HC_RUN i (fun u => u.frozen i = false ∧
    u.hcState i ≠ 1 ∧ u.hcState i ≠ 6 ∧ (u.hc i).image = true ∧ u.flag HC_STAT_LOADING i = false ∧ bitAt v 1 = true)
    (ofInst [.HC_STAT] i.val) fun u t =>
      t.flag HC_STAT_LOADING i = true ∧ t.hcState i = u.hcState i ∧ t.hcs = u.hcs) ∧
  (∀ (m : Fin 8) (i : Fin 2) (v : Word), Serves (.hcRunStart m i v) m .HC_RUN i (fun u => u.frozen i = false ∧
    (u.hcState i = 1 ∨ u.hcState i = 6 ∨ (u.hc i).image = false))
    [] fun u t =>
      t.hcs = u.hcs) ∧
  (∀ (m : Fin 8) (i : Fin 2) (v : Word), Refuses (.hcRunStart m i v) m .HC_RUN i (fun u => u.frozen i = true)) ∧
  (∀ (i : Fin 2), Acts (.hcReloadDone i) (fun u => u.flag HC_STAT_LOADING i = true ∧ u.frozen i = false)
    (ofInst [.HC_STAT] i.val) fun u t =>
      t.hcState i = 1 ∧ t.flag HC_STAT_LOADING i = false ∧ (∀ a, a < 262144 →
        t.localByte i a = ((u.hcImg.filter (·.1 == 262144 * i.val + a)).getLast?.map (·.2)).getD 0#8) ∧
          (∀ a, a < 262144 → t.localByte (1 - i.val) a = u.localByte (1 - i.val) a) ∧ (t.hc i).mcause = 0#32 ∧
            (t.hc i).pc = 0x10000000#32) ∧
  (∀ (i : Fin 2), Acts (.hcReloadDone i) (fun u => u.flag HC_STAT_LOADING i = true ∧ u.frozen i = true)
    (ofInst [.HC_STAT] i.val) fun u t =>
      t.hcState i = u.hcState i ∧ t.flag HC_STAT_LOADING i = false ∧ t.hcs = u.hcs) ∧
  (∀ (i : Fin 2), Acts (.hcReloadDone i) (fun u => u.flag HC_STAT_LOADING i = false)
    [] fun u t =>
      t.hcs = u.hcs ∧ t.hcMem = u.hcMem) ∧
  (∀ (m : Fin 8) (i : Fin 2), Serves (.hcRunHalt m i) m .HC_RUN i (fun u => u.hcState i = 1)
    (ofInst [.HC_STAT, .HC_PC, .HC_CAUSE, .HC_TVAL] i.val ++ ofAll [.GUARD_STAT] 256) fun u t =>
      t.hcState i = 2 ∧ t.get .HC_CAUSE i = (u.hc i).mcause ∧ t.get .HC_TVAL i = (u.hc i).mtval ∧
        (∀ p : Fin 256, p.val ≠ 0x72 + i.val → (blockOf p).isSome = true →
          t.flag GUARD_STAT_OPEN p = (u.flag GUARD_STAT_OPEN p && u.fld GUARD_STAT_OPEN_MASTER p != i))) ∧
  (∀ (m : Fin 8) (i : Fin 2), Serves (.hcRunHalt m i) m .HC_RUN i (fun u => u.hcState i ≠ 1)
    [] fun u t =>
      t.hcs = u.hcs) ∧
  (∀ (i : Fin 2) (x : Word) (y : Word) (z : Word), Acts (.hcTrap i x y z) (fun u => u.hcState i = 1 ∧
    u.flag HC_CFG_TRAP_HALT i = true)
    (ofInst [.HC_STAT, .HC_PC, .HC_CAUSE, .HC_TVAL] i.val ++ ofAll [.GUARD_STAT] 256 ++ evtRegs (248 + i.val)) fun u
      t =>
      t.hcState i = 3 ∧ t.get .HC_PC i = x ∧ t.get .HC_CAUSE i = y ∧ t.get .HC_TVAL i = z ∧ (t.hc i).mepc = x ∧
        (t.hc i).pc = x ∧ t.pends (248 + i) = true ∧ (∀ p : Fin 256, p.val ≠ 0x72 + i.val →
          (blockOf p).isSome = true →
            t.flag GUARD_STAT_OPEN p = (u.flag GUARD_STAT_OPEN p && u.fld GUARD_STAT_OPEN_MASTER p != i))) ∧
  (∀ (i : Fin 2) (x : Word) (y : Word) (z : Word), Acts (.hcTrap i x y z) (fun u => u.hcState i = 1 ∧
    u.flag HC_CFG_TRAP_HALT i = false)
    [] fun u t =>
      (t.hc i).mepc = x ∧ (t.hc i).mcause = y ∧ (t.hc i).mtval = z ∧ (t.hc i).pc = (u.hc i).mtvec &&& 0xFFFFFFFC#32 ∧
        bitAt (t.hc i).mstatus 3 = false ∧ bitAt (t.hc i).mstatus 7 = bitAt (u.hc i).mstatus 3 ∧ t.hcState i = 1) ∧
  (∀ (i : Fin 2), Arrives (.hcWdt i) (fun u => u.hcState i = 1 ∧ u.fld HC_WDT_TO i ≠ 0 ∧
    (u.hc i).wdtT + 200000 * u.fld HC_WDT_TO i < u.Tn)
    (ofInst [.HC_STAT, .HC_PC, .HC_CAUSE, .HC_TVAL] i.val ++ ofAll [.GUARD_STAT] 256 ++ evtRegs (250 + i.val)) fun u
      t =>
      t.hcState i = 4 ∧ t.pends (250 + i) = true ∧ (∀ p : Fin 256, p.val ≠ 0x72 + i.val → (blockOf p).isSome = true →
        t.flag GUARD_STAT_OPEN p = (u.flag GUARD_STAT_OPEN p && u.fld GUARD_STAT_OPEN_MASTER p != i))) ∧
  (∀ (i : Fin 2), Arrives (.hcWdt i) (fun u => u.hcState i ≠ 1 ∨ u.fld HC_WDT_TO i = 0 ∨ u.Tn ≤ (u.hc i).wdtT +
    200000 * u.fld HC_WDT_TO i)
    [] fun u t =>
      t.hcs = u.hcs) ∧
  (∀ (m : Fin 8) (i : Fin 2), Serves (.hcKick m i) m .HC_KICK i (fun _ => m.val = i.val)
    [] fun u t =>
      (t.hc i).wdtT = u.Tn ∧ (t.hc i).timer = (u.hc i).timer) ∧
  (∀ (m : Fin 8) (i : Fin 2), Refuses (.hcKick m i) m .HC_KICK i (fun _ => True)) ∧
  (∀ (i : Fin 2), Acts (.hcTimerInterrupt i) (fun u => 200 * (u.hc i).mtimecmp < u.Tn)
    [] fun u t =>
      (t.hc i).timer = true ∧ (t.hc i).mtimecmp = (u.hc i).mtimecmp) ∧
  (∀ (i : Fin 2), Acts (.hcTimerInterrupt i) (fun u => u.Tn ≤ 200 * (u.hc i).mtimecmp)
    [] fun u t =>
      t.hcs = u.hcs) ∧
  (∀ (i : Fin 2) (x : Word), Acts (.hcDebug i (.halt x)) (fun u => u.flag DG_CFG_EN 0 = true ∧ u.hcState i = 1)
    (ofInst [.HC_STAT, .HC_PC, .HC_CAUSE, .HC_TVAL] i.val) fun u t =>
      t.hcState i = 6 ∧ t.get .HC_PC i = x ∧ (t.hc i).pc = x ∧ (t.hc i).wdtT = u.T - (u.hc i).wdtT) ∧
  (∀ (i : Fin 2), Acts (.hcDebug i .resume) (fun u => u.flag DG_CFG_EN 0 = true ∧ u.hcState i = 6)
    (ofInst [.HC_STAT] i.val) fun u t =>
      t.hcState i = 1 ∧ (t.hc i).wdtT = u.T - (u.hc i).wdtT) ∧
  (∀ (i : Fin 2) (a : Word) (s : State), let u := s.begin'
    u.hcReach i a.toNat = true → ∃ t, exec (.hcDebug i (.readMem a)) s = .next t ∧
      t.resp = [.ok (BitVec.ofNat 32 (u.localRead i (a.toNat - 0x10000000) 4))] ∧ t.hcs = u.hcs ∧ t.hcMem = u.hcMem ∧
        State.only ([]) u t) ∧
  (∀ (i : Fin 2) (a : Word) (v : Word) (s : State), let u := s.begin'
    u.hcReach i a.toNat = true → ∃ t, exec (.hcDebug i (.writeMem a v)) s = .next t ∧ t.resp = [.ok 0#32] ∧
      t.hcs = u.hcs ∧ (∀ k : Fin 4, t.localByte i (a.toNat - 0x10000000 + k) = BitVec.ofNat 8 (v.toNat / 2 ^ (8 *
        k.val))) ∧ State.only ([]) u t) ∧
  (∀ (i : Fin 2) (n : Fin 32) (s : State), let u := s.begin'
    u.flag DG_CFG_EN 0 = true → u.hcState i = 6 → ∃ t, exec (.hcDebug i (.readReg n)) s = .next t ∧
      t.resp = [.ok (SMap.get 0#32 (u.hc i).x n.val)] ∧ t.hcs = u.hcs ∧ State.only ([]) u t) ∧
  (∀ (i : Fin 2) (n : Fin 32) (v : Word) (s : State), let u := s.begin'
    u.flag DG_CFG_EN 0 = true → u.hcState i = 6 → ∃ t, exec (.hcDebug i (.writeReg n v)) s = .next t ∧
      t.resp = [.ok 0#32] ∧ SMap.get 0#32 (t.hc i).x n.val = (if n.val = 0 then SMap.get 0#32 (u.hc i).x 0 else v) ∧
        (t.hc i).pc = (u.hc i).pc ∧ State.only ([]) u t) ∧
  (∀ (i : Fin 2) (x : HcOp), Acts (.hcDebug i x) (fun u => u.flag DG_CFG_EN 0 = false)
    [] fun u t =>
      t.hcs = u.hcs)

/-- Resets leave what their class keeps, and the start-up steps verify, load, start and release in order (model
choices: logs 3, 98, 119, 142 and 152). What rests on logs 3, 98, 119, 142 and 152 is the model's choice. (R170, R424,
R425, R427, R428, R430, R431, R432, R433, R443, R447) -/
def Obligations.ResetsAndStartUp : Prop :=
  (∀ (s : State), let u := s.begin'
    ∃ t, exec (.powerOnReset) s = .next t ∧ t.resp = [] ∧ t.boot.rst = 1 ∧ t.tick = 0 ∧
      t.fld MOD_RST_CAUSE_CAUSE 0 = 1 ∧ t.fld MOD_RST_CAUSE_COUNT 0 = 0 ∧ t.flag MOD_STAT_DUST 0 = true ∧
        t.flag MOD_STAT_RELEASED 0 = false ∧ t.fld MOD_STAT_BOOT 0 = 0 ∧ t.imgKey = u.imgKey ∧
          (∀ (r : Reg) (i : Nat), State.lsKept r = false →
            r ∉ [Reg.MOD_RST_CAUSE, .MOD_STAT, .LN_CMD, .SUP_STAT, .VG_DIESTAT, .MM_STAT, .GUARD_STAT, .RP_STAT] →
              t.get r i = r.resetAt i) ∧ (∀ a, 0x02000000 ≤ a → t.rdByte a = u.rdByte a) ∧ (∀ a, a < 0x02000000 →
                t.rdByte a = unlistedByte)) ∧
  (∀ (s : State), let u := s.begin'
    u.boot.rst ≠ 1 → u.recording = false → ∃ t, exec (.pinReset) s = .next t ∧ t.resp = [] ∧ t.boot.rst = 2 ∧
      t.tick = 0 ∧ t.fld MOD_RST_CAUSE_CAUSE 0 = 2 ∧ t.flag MOD_STAT_DUST 0 = true ∧
        t.flag MOD_STAT_RELEASED 0 = false ∧ t.fld MOD_STAT_BOOT 0 = 0 ∧ t.imgKey = u.imgKey ∧
          (∀ (r : Reg) (i : Nat), State.lsKept r = false →
            r ∉ [Reg.MOD_RST_CAUSE, .MOD_STAT, .LN_CMD, .SUP_STAT, .VG_DIESTAT, .MM_STAT, .GUARD_STAT, .RP_STAT] →
              t.get r i = r.resetAt i) ∧ (∀ a, 0x02000000 ≤ a → t.rdByte a = u.rdByte a) ∧ (∀ a, 0x01178000 ≤ a →
                a < 0x01200000 → t.rdByte a = u.rdByte a) ∧ (∀ a, a < 0x01178000 → t.rdByte a = unlistedByte)) ∧
  (Acts (.pinReset) (fun u => u.boot.rst = 1)
    [] fun u t =>
      t.boot = u.boot ∧ t.tick = u.tick) ∧
  (∀ (m : Fin 8) (s : State), let u := s.meets m .MOD_CTRL 0
    s.mayWrite m .MOD_CTRL 0 = true → u.recording = false → ∃ w t, exec (.modReset m) s = .next w ∧
      w.resp = [.ok 0#32] ∧ t = w.settled ∧ t.boot.rstEnd = some ((u.replay.ofs / 2000 + (u.tick : Int) + 2).toNat) ∧
        t.boot.rmode = 0 ∧ t.fld MOD_STAT_RMODE 0 = 0 ∧ t.fld MOD_RST_CAUSE_CAUSE 0 = 4 ∧
          t.fld MOD_RST_CAUSE_COUNT 0 = min (u.fld MOD_RST_CAUSE_COUNT 0 + 1) 65535 ∧ t.fld RP_STAT_STATE 0 = 0 ∧
            t.flag MOD_STAT_DUST 0 = true ∧ t.flag MOD_STAT_RELEASED 0 = false ∧ t.fld MOD_STAT_BOOT 0 = 0 ∧
              t.imgKey = u.imgKey ∧ (∀ (r : Reg) (i : Nat), State.lsKept r = false →
                r ∉ [Reg.MOD_RST_CAUSE, .MOD_STAT, .LN_CMD, .SUP_STAT, .VG_DIESTAT, .MM_STAT, .GUARD_STAT, .RP_STAT]
                  → regPage r i ≠ 0x78 → t.get r i = r.resetAt i) ∧ (∀ (r : Reg) (i : Nat), regPage r i = 0x78 →
                    r ∉ [Reg.GUARD_STAT, .RP_STAT, .RP_REC_TAIL, .RP_CNT, .RP_EVT] → u.get r i ≠ r.resetAt i →
                      t.get r i = u.get r i) ∧ (∀ a, 0x02000000 ≤ a → t.rdByte a = u.rdByte a) ∧
                        (∀ a, 0x01178000 ≤ a → a < 0x01200000 → t.rdByte a = u.rdByte a) ∧ (∀ a, a < 0x01178000 →
                          t.rdByte a = unlistedByte)) ∧
  (∀ (m : Fin 8) (s : State), let u := s.meets m .MOD_CTRL 0
    s.mayWrite m .MOD_CTRL 0 = true → u.recording = false → ∃ w t, exec (.modResetRecord m) s = .next w ∧
      w.resp = [.ok 0#32] ∧ t = w.settled ∧ t.boot.rstEnd = some ((u.replay.ofs / 2000 + (u.tick : Int) + 2).toNat) ∧
        t.boot.rmode = 1 ∧ t.fld MOD_STAT_RMODE 0 = 1 ∧ t.fld MOD_RST_CAUSE_CAUSE 0 = 4 ∧
          t.fld MOD_RST_CAUSE_COUNT 0 = min (u.fld MOD_RST_CAUSE_COUNT 0 + 1) 65535 ∧ t.fld RP_STAT_STATE 0 = 0 ∧
            t.flag MOD_STAT_DUST 0 = true ∧ t.flag MOD_STAT_RELEASED 0 = false ∧ t.fld MOD_STAT_BOOT 0 = 0 ∧
              t.imgKey = u.imgKey ∧ (∀ (r : Reg) (i : Nat), State.lsKept r = false →
                r ∉ [Reg.MOD_RST_CAUSE, .MOD_STAT, .LN_CMD, .SUP_STAT, .VG_DIESTAT, .MM_STAT, .GUARD_STAT, .RP_STAT]
                  → regPage r i ≠ 0x78 → t.get r i = r.resetAt i) ∧ (∀ (r : Reg) (i : Nat), regPage r i = 0x78 →
                    r ∉ [Reg.GUARD_STAT, .RP_STAT, .RP_REC_TAIL, .RP_CNT, .RP_EVT] → u.get r i ≠ r.resetAt i →
                      t.get r i = u.get r i) ∧ (∀ a, 0x02000000 ≤ a → t.rdByte a = u.rdByte a) ∧
                        (∀ a, 0x01178000 ≤ a → a < 0x01200000 → t.rdByte a = u.rdByte a) ∧ (∀ a, a < 0x01178000 →
                          t.rdByte a = unlistedByte)) ∧
  (∀ (m : Fin 8) (s : State), let u := s.meets m .MOD_CTRL 0
    s.mayWrite m .MOD_CTRL 0 = true → u.recording = false → ∃ w t, exec (.modResetReplay m) s = .next w ∧
      w.resp = [.ok 0#32] ∧ t = w.settled ∧ t.boot.rstEnd = some ((u.replay.ofs / 2000 + (u.tick : Int) + 2).toNat) ∧
        t.boot.rmode = 2 ∧ t.fld MOD_STAT_RMODE 0 = 2 ∧ t.fld MOD_RST_CAUSE_CAUSE 0 = 4 ∧
          t.fld MOD_RST_CAUSE_COUNT 0 = min (u.fld MOD_RST_CAUSE_COUNT 0 + 1) 65535 ∧ t.fld RP_STAT_STATE 0 = 0 ∧
            t.flag MOD_STAT_DUST 0 = true ∧ t.flag MOD_STAT_RELEASED 0 = false ∧ t.fld MOD_STAT_BOOT 0 = 0 ∧
              t.imgKey = u.imgKey ∧ (∀ (r : Reg) (i : Nat), State.lsKept r = false →
                r ∉ [Reg.MOD_RST_CAUSE, .MOD_STAT, .LN_CMD, .SUP_STAT, .VG_DIESTAT, .MM_STAT, .GUARD_STAT, .RP_STAT]
                  → regPage r i ≠ 0x78 → t.get r i = r.resetAt i) ∧ (∀ (r : Reg) (i : Nat), regPage r i = 0x78 →
                    r ∉ [Reg.GUARD_STAT, .RP_STAT, .RP_REC_TAIL, .RP_CNT, .RP_EVT] → u.get r i ≠ r.resetAt i →
                      t.get r i = u.get r i) ∧ (∀ a, 0x02000000 ≤ a → t.rdByte a = u.rdByte a) ∧
                        (∀ a, 0x01178000 ≤ a → a < 0x01200000 → t.rdByte a = u.rdByte a) ∧ (∀ a, a < 0x01178000 →
                          t.rdByte a = unlistedByte)) ∧
  (Acts (.nresetRelease) (fun u => u.boot.rst = 2)
    [] fun u t =>
      t.boot.rst = 3 ∧ t.tick = u.tick) ∧
  (Acts (.nresetRelease) (fun u => u.boot.rst ≠ 2)
    [] fun u t =>
      t.boot = u.boot) ∧
  (∀ (v : Nat), Acts (.pllLock v) (fun u => (u.boot.rst = 1 ∨ u.boot.rst = 3) ∧ u.boot.after = [])
    ([(.MOD_STAT, 0), (.SUP_STAT, 0), (.SUP_VBATL, 0)] ++ evtRegs 5 ++ evtRegs 9) fun u t =>
      t.boot.rst = 0 ∧ t.boot.rstEnd = none ∧ t.boot.t0 = u.tick ∧ t.flag SUP_STAT_PLL_LOCK 0 = true ∧
        t.flag SUP_STAT_VBAT_OK 0 = decide (7000 ≤ v) ∧ t.pends 5 = true ∧ t.boot.vbatLow = decide (v < 7000)) ∧
  (∀ (v : Nat) (s : State), let u := s.begin'
    u.boot.rst = 4 → u.recording = false → ∃ t, exec (.pllLock v) s = .next t ∧ t.resp = [] ∧ t.boot.rst = 0 ∧
      t.fld MOD_RST_CAUSE_CAUSE 0 = u.boot.causes % (2 ^ (MOD_RST_CAUSE_CAUSE.hi + 1 - MOD_RST_CAUSE_CAUSE.lo)) ∧
        t.boot.rstEnd = some ((u.replay.ofs / 2000 + (u.tick : Int) + 2).toNat) ∧ t.flag MOD_STAT_DUST 0 = true ∧
          t.boot.rmode = 0) ∧
  (∀ (v : Nat), Acts (.pllLock v) (fun u => u.boot.rst = 0 ∨ u.boot.rst = 2)
    [] fun u t =>
      t.boot = u.boot) ∧
  (ActsTo (.mramReady) (fun u => u.inReset = false ∧ u.flag SUP_STAT_MRAM_OK 0 = false ∧ u.fld MOD_STAT_BOOT 0 = 0 ∧
    u.boot.t0 + (if u.boot.cls = 2 then 0 else 200) ≤ u.tick)
    ([(.SUP_STAT, 0), (.HL_EPOCH, 0)] ++ evtRegs 78) (fun _ a => decide (0x02000000 ≤ a)) fun u t =>
      t.flag SUP_STAT_MRAM_OK 0 = true ∧
        t.get .HL_EPOCH 0 = (State.journalReplay (u.setFlag SUP_STAT_MRAM_OK 0 true)).rdWord 0x02FFF000 + 1#32 ∧
          t.rdWord 0x02FFF000 = (State.journalReplay (u.setFlag SUP_STAT_MRAM_OK 0 true)).rdWord 0x02FFF000 + 1#32) ∧
  (Acts (.mramReady) (fun u => u.inReset = true ∨ u.flag SUP_STAT_MRAM_OK 0 = true ∨ u.fld MOD_STAT_BOOT 0 ≠ 0)
    [] fun u t =>
      t.boot = u.boot) ∧
  (∀ (x : Image) (y : Image) (s : State), let u := s.begin'
    u.inReset = false → u.fld MOD_STAT_BOOT 0 = 0 → u.flag SUP_STAT_MRAM_OK 0 = true →
      u.imgOk 0 (x.bodyOk && State.ownerOk x) = true → ∃ t, exec (.bootDone x y) s = .next t ∧ t.resp = [] ∧
        t.fld MOD_STAT_BOOT 0 = 1 ∧ t.flag MOD_STAT_SLOT 0 = false ∧ t.flag MM_STAT_A_OK 0 = true ∧
          t.pends 0 = true ∧ t.get .MOD_IMG 0 = u.rdWord (State.imgSlot 0 + 8) ∧
            (∀ i : Fin 4, (t.session i).key = x.keys.getD i []) ∧ t.owner ≠ 7 ∧ (∀ a, t.rdByte a = u.rdByte a)) ∧
  (∀ (x : Image) (y : Image) (s : State), let u := s.begin'
    u.inReset = false → u.fld MOD_STAT_BOOT 0 = 0 → u.flag SUP_STAT_MRAM_OK 0 = true →
      u.imgOk 0 (x.bodyOk && State.ownerOk x) = false → u.imgOk 1 (y.bodyOk && State.ownerOk y) = true →
        ∃ t, exec (.bootDone x y) s = .next t ∧ t.resp = [] ∧ t.fld MOD_STAT_BOOT 0 = 1 ∧
          t.flag MOD_STAT_SLOT 0 = true ∧ t.flag MM_STAT_A_OK 0 = false ∧ t.flag MM_STAT_B_OK 0 = true ∧
            t.pends 0 = true ∧ t.pends 1 = true ∧ (∀ i : Fin 4, (t.session i).key = y.keys.getD i []) ∧ t.owner ≠ 7) ∧
  (∀ (x : Image) (y : Image) (s : State), let u := s.begin'
    u.inReset = false → u.fld MOD_STAT_BOOT 0 = 0 →
      (u.flag SUP_STAT_MRAM_OK 0 = true ∨ u.boot.t0 + (if u.boot.cls = 2 then 800 else 1000) ≤ u.tick) →
        (u.flag SUP_STAT_MRAM_OK 0 = true → u.imgOk 0 (x.bodyOk && State.ownerOk x) = false ∧
          u.imgOk 1 (y.bodyOk && State.ownerOk y) = false) → ∃ t, exec (.bootDone x y) s = .next t ∧ t.resp = [] ∧
            t.fld MOD_STAT_BOOT 0 = 2 ∧ t.owner = 6 ∧ t.pends 0 = true ∧
              State.only ([(.MOD_STAT, 0), (.PR_OWNER, 0), (.MM_STAT, 0)] ++ evtRegs 0) u t) ∧
  (Acts (.helperCoreAutostart) (fun u => u.inReset = false ∧ u.boot.cores = false ∧ u.fld MOD_STAT_BOOT 0 = 1 ∧
    u.boot.t0 + (if u.boot.cls = 2 then 1500 else 1700) ≤ u.tick)
    (ofAll [.HC_STAT] 2) fun u t =>
      t.boot.cores = true ∧ (∀ i : Fin 2, (u.flag HC_CFG_AUTOSTART i && (u.hc i).image && u.hcState i == 0 &&
        !u.frozen i) = true → t.hcState i = 1) ∧
          (∀ i : Fin 2, (u.flag HC_CFG_AUTOSTART i && (u.hc i).image && u.hcState i == 0 && !u.frozen i) = false →
            t.get .HC_STAT i = u.get .HC_STAT i)) ∧
  (Acts (.helperCoreAutostart) (fun u => u.inReset = true ∨ u.boot.cores = true ∨ u.fld MOD_STAT_BOOT 0 ≠ 1)
    [] fun u t =>
      t.hcs = u.hcs ∧ t.boot = u.boot) ∧
  (∀ (m : Fin 8), Serves (.release m) m .MOD_CTRL 0 (fun u => u.inReplay = false ∧
    u.flag MOD_STAT_RELEASED 0 = false ∧ u.fld MOD_STAT_RLS_BLOCK 0 = 0)
    ((ofInst [.MOD_STAT, .PG_STAT] 0 ++ ofAll [.LP_STAT] 64 ++ ofAll [.VG_CSTAT, .VG_CCNT, .VG_CI, .VG_CDON] 128 ++
      ofAll [.VG_STAT, .VG_EVT, .VG_GCNT, .VG_DLAST] 16 ++ (List.range 16).flatMap (fun g => evtRegs (104 + g))) ++
        evtRegs 2) fun u t =>
      t.flag MOD_STAT_RELEASED 0 = true ∧ t.flag MOD_STAT_DUST 0 = false ∧ t.pends 2 = true ∧
        t.relTick = u.tick + 1 ∧ t.lpReleased = true) ∧
  (∀ (m : Fin 8), Serves (.release m) m .MOD_CTRL 0 (fun u => u.inReplay = false ∧ u.flag MOD_STAT_RELEASED 0 = true)
    [] fun u t =>
      t.relTick = u.relTick) ∧
  (∀ (m : Fin 8) (s : State), let u := s.meets m .MOD_CTRL 0
    2 ≤ m.val → s.mayWrite m .MOD_CTRL 0 = true → u.flag MOD_STAT_RELEASED 0 = false →
      u.fld MOD_STAT_RLS_BLOCK 0 ≠ 0 → ∃ w t, exec (.release m) s = .next w ∧ w.resp = [.error] ∧ t = w.settled ∧
        t.pends 3 = true ∧ t.flag MOD_STAT_RELEASED 0 = false ∧ t.relTick = u.relTick ∧ State.only (evtRegs 3) u t) ∧
  (∀ (q : Fin 24576) (s : State), bitAt (s.rdWord (dirBase + 0x108)) 0 = true →
    bitsOf (s.rdWord (dirBase + 0x104)) 14 0 = q → 
    let t := State.journalReplay s
    t.rdBytes (slotAddr q) 512 = s.rdBytes (dirBase + 0x200) 512 ∧ t.rdWord (dirBase + 0x108) = 0#32 ∧
      t.pends 78 = true ∧ State.onlyBut (evtRegs 78) (fun a => decide (slotAddr q ≤ a) && decide (a < slotAddr q +
        512) || (decide (dirBase + 0x108 ≤ a) && decide (a < dirBase + 0x10C))) s t) ∧
  (∀ (s : State), bitAt (s.rdWord (dirBase + 0x108)) 0 = false → 
    let t := State.journalReplay s
    t = s ∧ State.only ([]) s t)

/-- Fixes correct the pose; steps are dispatched at multiples of S and take effect 64 ticks later (model choices: logs
34, 35, 36 and 37). What rests on logs 34, 35, 36 and 37 is the model's choice. (R146, R147, R148, R149, R153, R160,
R166, R174) -/
def Obligations.SpatialSteps : Prop :=
  (Acts (.spatialStepDispatch) (fun u => u.gmRun = true ∧
    0 ≤ diff48 (u.axPos u.gmAx) (wrap48 (u.geo.x0 + (u.geo.next * u.gmStep : Nat))))
    (ofAll [.GM_APP_STAT] 640 ++ [(.GM_CNT_ERR, 0), (.GM_MISS_TILE, 0), (.MOD_FAULT, 0)] ++ evtRegs 64) fun u t =>
      t.geo.next = u.geo.next + 1 ∧ t.geo.disp = u.geo.disp + 1 ∧ t.geo.steps.length = u.geo.steps.length + 1 ∧
        (∀ st, t.geo.steps = u.geo.steps ++ [st] → st.n = u.geo.next ∧ st.d = u.tick)) ∧
  (Acts (.spatialStepDispatch) (fun u => diff48 (u.axPos u.gmAx) (wrap48 (u.geo.x0 + (u.geo.next * u.gmStep : Nat)))
    < 0)
    [] fun u t =>
      t.geo = u.geo) ∧
  (Acts (.stepResults) (fun u => ((u.geo.steps.take 1).all fun st => decide (st.d + 64 ≤ u.tick) && !st.outrun &&
    st.marks.isEmpty && st.duties.isEmpty) = true ∧ u.geo.steps ≠ [] ∧ u.geo.covs = [])
    (ofAll [.GM_APP_STAT] 640 ++ ofAll [.GM_FLOW_SUM] 4 ++ [(.GM_CNT_ERR, 0)] ++ evtRegs 64) fun u t =>
      t.geo.steps = u.geo.steps.drop 1 ∧
        t.fld GM_CNT_ERR_CLIP 0 = min (u.fld GM_CNT_ERR_CLIP 0 + ((u.geo.steps.map (·.clips)).headD 0)) (2 ^
          (GM_CNT_ERR_CLIP.hi + 1 - GM_CNT_ERR_CLIP.lo) - 1) ∧
            (∀ g : Fin 4, t.get .GM_FLOW_SUM g = f32.sum ((pick 640 fun i => t.flag GM_APP_CFG_FEN i && t.fld
              GM_APP_CFG_FGRP i == g && t.lnEff (appLane i)).map fun i => f32.mul (if i < 128 then f32.ofScaled
                (t.fld GM_APP_STAT_DUTY i) 15 else f32.one) (t.get .GM_APP_FLOW i)))) ∧
  (Acts (.stepResults) (fun u => (u.geo.steps.all fun st => decide (u.tick < st.d + 64)) = true)
    [] fun u t =>
      t.geo = u.geo) ∧
  (Arrives (.fixLost) (fun u => u.gmRun = true ∧ u.flag GM_STAT_DR_ONLY 0 = false ∧
    200000 * u.fld GM_FIX_TO_TO 0 ≤ u.Tn - u.geo.lastFix)
    ([(.GM_STAT, 0)] ++ evtRegs 67) fun _ t =>
      t.flag GM_STAT_DR_ONLY 0 = true ∧ t.pends 67 = true) ∧
  (Acts (.tileWant) (fun u => u.gmRun = true ∧ u.tick % 10000 = 0 ∧ u.fld GM_WANT_DIST_DIST 0 ≠ 0)
    (ofAll [.GM_WANT] 8 ++ evtRegs 76) fun u t =>
      (∀ k : Fin 8, t.get .GM_WANT k = ((u.wantTiles[k.val]?).map (BitVec.ofNat 32)).getD 0xFFFFFFFF#32) ∧
        ((∃ k : Fin 8, t.get .GM_WANT k ≠ u.get .GM_WANT k) → t.pends 76 = true)) ∧
  (Acts (.tileWant) (fun u => u.gmRun = true ∧ u.tick % 10000 = 0 ∧ u.fld GM_WANT_DIST_DIST 0 = 0)
    (ofAll [.GM_WANT] 8 ++ evtRegs 76) fun _ t =>
      (∀ k : Fin 8, t.get .GM_WANT k = 0xFFFFFFFF#32)) ∧
  (∀ (x : DWord) (y : DWord) (z : DWord) (s : State), x = f64.mul (f64.ofSingle (s.get .AX_YAW 0)) (f64.ofRat 1
    100000) → y = f64.ofInt (if (s.ax s.gmAx).tEn = s.T then 0 else diff48 (s.axPos s.gmAx) (s.ax s.gmAx).prevX) →
      z = f64.add s.geo.th (f64.div x (f64.ofInt 2)) → 
    let t := State.deadReckon s
    t.geo.th = f64.wrap (f64.add s.geo.th x) ∧
      (f64.le (State.dist s.geo.ox s.geo.oy) (f64.ofRat (1024 * s.fld GM_BLEND_DRAIN 0) 100000) = true →
        t.geo.x = f64.add (f64.add s.geo.x (f64.mul y (f64.cos z))) (f64.mul s.geo.ox (f64.ofInt 1)) ∧
          t.geo.y = f64.add (f64.add s.geo.y (f64.mul y (f64.sin z))) (f64.mul s.geo.oy (f64.ofInt 1)) ∧
            t.geo.ox = f64.sub s.geo.ox (f64.mul s.geo.ox (f64.ofInt 1)) ∧
              t.geo.oy = f64.sub s.geo.oy (f64.mul s.geo.oy (f64.ofInt 1))) ∧ State.only ([]) s t) ∧
  (∀ (s : State), 
    let t := State.poseHistory s
    t.geo = (if s.tick % 100 = 0 then
      { s.geo with hist := (⟨s.T, s.geo.x, s.geo.y, s.geo.th⟩ :: s.geo.hist).take 1025 } else s.geo) ∧
        State.only ([]) s t) ∧
  (∀ (x : Fix) (s : State), s.poseAt x.epoch = none → 
    let t := State.applyFix x s
    t.pends 64 = true ∧ t.geo = s.geo ∧ State.only ([] ++ evtRegs 64) s t) ∧
  (∀ (x : Fix) (y : PoseAt) (z : DWord) (w : DWord) (s : State), x.pos = some (z, w) → x.head = none →
    s.poseAt x.epoch = some y → s.geo.fix1 = true → s.geo.refused < 4 →
      f64.lt (f64.ofInt (102400 * s.fld GM_BLEND_JUMP_LIM 0)) (State.dist (s.fixResidual x y z w).1 (s.fixResidual x
        y z w).2) = true → 
    let t := State.applyFix x s
    t.pends 65 = true ∧ t.geo = { s.geo with refused := s.geo.refused + 1 } ∧ State.only ([] ++ evtRegs 65) s t) ∧
  (∀ (x : Fix) (y : PoseAt) (z : DWord) (w : DWord) (s : State), x.pos = some (z, w) → x.head = none →
    s.poseAt x.epoch = some y → s.geo.fix1 = true → 4 ≤ s.geo.refused →
      f64.lt (f64.ofInt (102400 * s.fld GM_BLEND_JUMP_LIM 0)) (State.dist (s.fixResidual x y z w).1 (s.fixResidual x
        y z w).2) = true → 
    let t := State.applyFix x s
    t.pends 66 = true ∧ t.flag GM_STAT_DR_ONLY 0 = false ∧
      t.geo =
        { s.geo with x := f64.add s.geo.x (s.fixResidual x y z w).1, y := f64.add s.geo.y (s.fixResidual x y z w).2, ox := f64.zero, oy := f64.zero, refused := 0, fix1 := true, lastFix := s.T } ∧ State.only ([(.GM_STAT, 0)] ++ evtRegs 66) s t) ∧
  (∀ (x : Fix) (y : PoseAt) (z : DWord) (w : DWord) (s : State), x.pos = some (z, w) → x.head = none →
    s.poseAt x.epoch = some y → s.geo.fix1 = true →
      f64.lt (f64.ofInt (102400 * s.fld GM_BLEND_JUMP_LIM 0)) (State.dist (s.fixResidual x y z w).1 (s.fixResidual x
        y z w).2) = false → 
    let t := State.applyFix x s
    t.flag GM_STAT_DR_ONLY 0 = false ∧
      t.get .GM_RESID 0 = f64.toSingle (f64.div (State.dist (s.fixResidual x y z w).1 (s.fixResidual x y z w).2)
        (f64.ofInt 1024)) ∧ t.geo = (let k := f64.ofRat 1 (2 ^ s.fld GM_BLEND_KP 0);
          { s.geo with ox := f64.add s.geo.ox (f64.mul (s.fixResidual x y z w).1 k), oy := f64.add s.geo.oy (f64.mul (s.fixResidual x y z w).2 k), refused := 0, fix1 := true, lastFix := s.T }) ∧ State.only ([(.GM_STAT, 0), (.GM_RESID, 0)]) s t) ∧
  (∀ (x : Fix) (y : PoseAt) (z : DWord) (w : DWord) (s : State), x.pos = some (z, w) → x.head = none →
    s.poseAt x.epoch = some y → s.geo.fix1 = false → 
    let t := State.applyFix x s
    t.flag GM_STAT_DR_ONLY 0 = false ∧
      t.geo =
        { s.geo with x := f64.add s.geo.x (s.fixResidual x y z w).1, y := f64.add s.geo.y (s.fixResidual x y z w).2, ox := f64.zero, oy := f64.zero, refused := 0, fix1 := true, lastFix := s.T } ∧ State.only ([(.GM_STAT, 0)]) s t) ∧
  (∀ (x : Fix) (y : PoseAt) (z : DWord) (s : State), x.pos = none → x.head = some (z, 0) →
    s.poseAt x.epoch = some y → 
    let t := State.applyFix x s
    t.geo = (let k := if s.geo.head1 then f64.ofRat 1 (2 ^ s.fld GM_BLEND_KH 0) else f64.ofInt 1;
      { s.geo with th := f64.wrap (f64.add s.geo.th (f64.mul (f64.wrap (f64.sub z y.th)) k)), head1 := true, hdtT := some x.stamp }) ∧ State.only ([]) s t)

/-- Stencil elements install, fill, evict or are refused, and are recorded; a master evicts an unpinned tile (model
choices: log 33). What rests on log 33 is the model's choice. (R161, R162, R163, R164, R165, R444, R446) -/
def Obligations.StencilTiles : Prop :=
  (Arrives (.tileIntake) (fun u => u.inReplay = false ∧ u.recording = false ∧ u.geo.intake ≠ some (u.tick + 1) ∧
    u.qFill 28 ≠ 0 ∧ bitsOf (u.rdWord ((u.qSlot 28 (u.qHead 28)) + 4)) 31 24 = 1 ∧
      bitAt (u.rdWord ((u.qSlot 28 (u.qHead 28)) + 4)) 0 = false ∧
        (u.stiles.length < 512 ∨ (u.stile (u.rdWord (u.qSlot 28 (u.qHead 28))).toNat).isSome = true))
    (qRegs 28 ++ [(.GM_TC_CNT, 0), (.GM_TC_STAT, 0), (.MOD_FAULT, 0)] ++ evtRegs 64) fun u t =>
      t.qHead 28 = (u.qHead 28 + 1) % 65536 ∧ t.geo.intake = some (u.tick + 1) ∧
        (t.stile (u.rdWord (u.qSlot 28 (u.qHead 28))).toNat).map (·.cells) = some (BitVec.ofNat 16384 (bytesLE
          (u.rdBytes ((u.qSlot 28 (u.qHead 28)) + 16) 2048))) ∧
            t.fld GM_TC_CNT_INST 0 = (u.fld GM_TC_CNT_INST 0 + 1) % 2 ^ (GM_TC_CNT_INST.hi + 1 - GM_TC_CNT_INST.lo) ∧
              ((∃ x, u.stile (u.rdWord (u.qSlot 28 (u.qHead 28))).toNat = some x ∧ u.stPinned x = true ∧
                x.cells ≠ BitVec.ofNat 16384 (bytesLE (u.rdBytes ((u.qSlot 28 (u.qHead 28)) + 16) 2048))) →
                  t.pends 70 = true ∧ ¬ t.promised) ∧ (∀ k, k ≠ (u.rdWord (u.qSlot 28 (u.qHead 28))).toNat →
                    t.stile k = u.stile k)) ∧
  (Arrives (.tileIntake) (fun u => u.inReplay = false ∧ u.recording = false ∧ u.geo.intake ≠ some (u.tick + 1) ∧
    u.qFill 28 ≠ 0 ∧ bitsOf (u.rdWord ((u.qSlot 28 (u.qHead 28)) + 4)) 31 24 = 3 ∧
      ((u.stile (u.rdWord (u.qSlot 28 (u.qHead 28))).toNat).all fun x => !u.stPinned x) = true)
    (qRegs 28 ++ [(.GM_TC_CNT, 0), (.GM_TC_STAT, 0), (.MOD_FAULT, 0)] ++ evtRegs 64) fun u t =>
      t.qHead 28 = (u.qHead 28 + 1) % 65536 ∧ t.geo.intake = some (u.tick + 1) ∧
        t.stile (u.rdWord (u.qSlot 28 (u.qHead 28))).toNat = none ∧ t.get .GM_TC_CNT 0 = u.get .GM_TC_CNT 0) ∧
  (Arrives (.tileIntake) (fun u => u.inReplay = false ∧ u.recording = false ∧ u.geo.intake ≠ some (u.tick + 1) ∧
    u.qFill 28 ≠ 0 ∧ (bitsOf (u.rdWord ((u.qSlot 28 (u.qHead 28)) + 4)) 31 24 = 0 ∨ 4 ≤ bitsOf (u.rdWord ((u.qSlot 28
      (u.qHead 28)) + 4)) 31 24))
    (qRegs 28 ++ [(.GM_TC_CNT, 0), (.GM_TC_STAT, 0), (.MOD_FAULT, 0)] ++ evtRegs 64) fun u t =>
      t.qHead 28 = (u.qHead 28 + 1) % 65536 ∧ t.geo.intake = some (u.tick + 1) ∧ t.stiles = u.stiles ∧
        t.fld GM_TC_STAT_RSN 0 = 3 ∧
          t.fld GM_TC_CNT_REF 0 = min (u.fld GM_TC_CNT_REF 0 + 1) (2 ^ (GM_TC_CNT_REF.hi + 1 - GM_TC_CNT_REF.lo) - 1)
            ∧ t.pends 69 = true) ∧
  (Arrives (.tileIntake) (fun u => u.geo.intake = some (u.tick + 1) ∧ u.recording = false)
    [] fun u t =>
      t.stiles = u.stiles) ∧
  (∀ (m : Fin 8) (v : Word), Serves (.gmTcEvict m v) m .GM_TC_EVICT 0 (fun u => ((u.stile v.toNat).all fun x =>
    !u.stPinned x) = true)
    [] fun u t =>
      t.stile v.toNat = none ∧ (∀ k, k ≠ v.toNat → t.stile k = u.stile k)) ∧
  (∀ (m : Fin 8) (v : Word), Refuses (.gmTcEvict m v) m .GM_TC_EVICT 0 (fun u => ((u.stile v.toNat).any fun x =>
    u.stPinned x) = true)) ∧
  (Arrives (.tileIntake) (fun u => u.inReplay = false ∧ u.recording = false ∧ u.geo.intake ≠ some (u.tick + 1) ∧
    u.qFill 28 ≠ 0 ∧ bitsOf (u.rdWord ((u.qSlot 28 (u.qHead 28)) + 4)) 31 24 = 2 ∧
      bitAt (u.rdWord ((u.qSlot 28 (u.qHead 28)) + 4)) 0 = false ∧
        (u.stiles.length < 512 ∨ (u.stile (u.rdWord (u.qSlot 28 (u.qHead 28))).toNat).isSome = true))
    (qRegs 28 ++ [(.GM_TC_CNT, 0), (.GM_TC_STAT, 0), (.MOD_FAULT, 0)] ++ evtRegs 64) fun u t =>
      t.qHead 28 = (u.qHead 28 + 1) % 65536 ∧ t.geo.intake = some (u.tick + 1) ∧
        (t.stile (u.rdWord (u.qSlot 28 (u.qHead 28))).toNat).map (·.cells) = some (BitVec.ofNat 16384 (bytesLE
          (List.replicate 2048 (BitVec.ofNat 8 (17 * bitsOf (u.rdWord ((u.qSlot 28 (u.qHead 28)) + 4)) 23 20))))) ∧
            (∀ k, k ≠ (u.rdWord (u.qSlot 28 (u.qHead 28))).toNat → t.stile k = u.stile k)) ∧
  (Arrives (.tileIntake) (fun u => u.inReplay = false ∧ u.recording = false ∧ u.geo.intake ≠ some (u.tick + 1) ∧
    u.qFill 28 ≠ 0 ∧ 1 ≤ bitsOf (u.rdWord ((u.qSlot 28 (u.qHead 28)) + 4)) 31 24 ∧
      bitsOf (u.rdWord ((u.qSlot 28 (u.qHead 28)) + 4)) 31 24 ≤ 3 ∧
        bitAt (u.rdWord ((u.qSlot 28 (u.qHead 28)) + 4)) 0 = true ∧
          crc32 (u.rdBytes ((u.qSlot 28 (u.qHead 28)) + 16) 2048) ≠ u.rdWord ((u.qSlot 28 (u.qHead 28)) + 12))
    (qRegs 28 ++ [(.GM_TC_CNT, 0), (.GM_TC_STAT, 0), (.MOD_FAULT, 0)] ++ evtRegs 64) fun u t =>
      t.qHead 28 = (u.qHead 28 + 1) % 65536 ∧ t.geo.intake = some (u.tick + 1) ∧ t.stiles = u.stiles ∧
        t.fld GM_TC_STAT_RSN 0 = 2 ∧
          t.fld GM_TC_CNT_REF 0 = min (u.fld GM_TC_CNT_REF 0 + 1) (2 ^ (GM_TC_CNT_REF.hi + 1 - GM_TC_CNT_REF.lo) - 1)
            ∧ t.pends 69 = true) ∧
  (Arrives (.tileIntake) (fun u => u.inReplay = false ∧ u.recording = false ∧ u.geo.intake ≠ some (u.tick + 1) ∧
    u.qFill 28 ≠ 0 ∧ (bitsOf (u.rdWord ((u.qSlot 28 (u.qHead 28)) + 4)) 31 24 = 1 ∨ bitsOf (u.rdWord ((u.qSlot 28
      (u.qHead 28)) + 4)) 31 24 = 2) ∧ bitAt (u.rdWord ((u.qSlot 28 (u.qHead 28)) + 4)) 0 = false ∧
        512 ≤ u.stiles.length ∧ u.stile (u.rdWord (u.qSlot 28 (u.qHead 28))).toNat = none ∧
          (u.stiles.all fun e => e.2.all fun x => u.stPinned x) = true)
    (qRegs 28 ++ [(.GM_TC_CNT, 0), (.GM_TC_STAT, 0), (.MOD_FAULT, 0)] ++ evtRegs 64) fun u t =>
      t.qHead 28 = (u.qHead 28 + 1) % 65536 ∧ t.geo.intake = some (u.tick + 1) ∧ t.stiles = u.stiles ∧
        t.fld GM_TC_STAT_RSN 0 = 1 ∧
          t.fld GM_TC_CNT_REF 0 = min (u.fld GM_TC_CNT_REF 0 + 1) (2 ^ (GM_TC_CNT_REF.hi + 1 - GM_TC_CNT_REF.lo) - 1)
            ∧ t.pends 69 = true) ∧
  (Arrives (.tileIntake) (fun u => u.inReplay = false ∧ u.recording = false ∧ u.geo.intake ≠ some (u.tick + 1) ∧
    u.qFill 28 ≠ 0 ∧ bitsOf (u.rdWord ((u.qSlot 28 (u.qHead 28)) + 4)) 31 24 = 3 ∧
      bitAt (u.rdWord ((u.qSlot 28 (u.qHead 28)) + 4)) 0 = false ∧
        ((u.stile (u.rdWord (u.qSlot 28 (u.qHead 28))).toNat).any fun x => u.stPinned x) = true)
    (qRegs 28 ++ [(.GM_TC_CNT, 0), (.GM_TC_STAT, 0), (.MOD_FAULT, 0)] ++ evtRegs 64) fun u t =>
      t.qHead 28 = (u.qHead 28 + 1) % 65536 ∧ t.geo.intake = some (u.tick + 1) ∧ t.stiles = u.stiles ∧
        t.fld GM_TC_STAT_RSN 0 = 4 ∧
          t.fld GM_TC_CNT_REF 0 = min (u.fld GM_TC_CNT_REF 0 + 1) (2 ^ (GM_TC_CNT_REF.hi + 1 - GM_TC_CNT_REF.lo) - 1)
            ∧ t.pends 69 = true) ∧
  (Arrives (.tileIntake) (fun u => u.recording = true ∧ u.inReplay = false ∧ u.geo.intake ≠ some (u.tick + 1) ∧
    u.qFill 28 ≠ 0)
    (qRegs 28 ++ [(.GM_TC_CNT, 0), (.GM_TC_STAT, 0), (.MOD_FAULT, 0)] ++ evtRegs 64) fun u t =>
      t.qHead 28 = (u.qHead 28 + 1) % 65536 ∧ t.recorder.ord = u.recorder.ord + 1 ∧
        t.recorder.recs = u.recorder.recs ++ [[BitVec.ofNat 32 (0x10 * 2 ^ 26 + 4 * 517), loW u.T, hiW u.T,
          BitVec.ofNat 32 u.recorder.ord] ++ u.rdWords (u.qSlot 28 (u.qHead 28)) 516])

/-- A dirty tile is written back through the journal; map commands clear, adopt and flush. (R168, R169, R171) -/
def Obligations.MaskingStore : Prop :=
  (∀ (x : Fin 65536) (y : Fin 65536), ActsTo (.maskWriteBack x y) (fun u => u.writeBackDue (65536 * y.val + x.val) =
    true ∧ u.inReplay = false ∧ ((u.dirFind (65536 * y.val + x.val)).2.any fun q => decide (q < 24576)) = true)
    [] (fun u a => ((u.dirFind (65536 * y.val + x.val)).2.any fun q => decide (slotAddr q ≤ a) && decide (a <
      slotAddr q + 512)) || (decide (dirBase + 0x100 ≤ a) && decide (a < dirBase + 0x400))) fun u t =>
      SMap.get none t.mtiles (65536 * y.val + x.val) = none ∧
        (∀ q c, (u.dirFind (65536 * y.val + x.val)).2 = some q →
          (SMap.get none u.mtiles (65536 * y.val + x.val)).map (·.cells) = some c →
            t.rdBytes (slotAddr q) 512 = tileBytes c) ∧ t.rdWord (dirBase + 0x108) = 0#32) ∧
  (∀ (x : Fin 65536) (y : Fin 65536), Acts (.maskWriteBack x y) (fun u => u.writeBackDue (65536 * y.val + x.val) =
    false)
    [] fun u t =>
      t.mtiles = u.mtiles) ∧
  (∀ (m : Fin 8), ServesTo (.mapClear m) m .GM_MAP_CMD 0 (fun u => u.flag GM_STAT_MAP_BUSY 0 = false ∧
    u.gmRun = false ∧ u.replay.mergeSrc = none)
    [(.GM_STAT, 0)] (fun _ a => decide (dirBase ≤ a) && decide (a < dirBase + 0x40000)) fun u t =>
      t.flag GM_STAT_FULL 0 = false ∧ t.flag GM_STAT_MAP_BUSY 0 = true ∧ t.mtiles = [] ∧
        t.rdWord dirBase = dirFormat ∧ t.rdWord (dirBase + 8) = u.get .GM_ORG_LAT 0 ∧
          t.rdWord (dirBase + 0xC) = u.get .GM_ORG_LON 0 ∧
            t.rdWord (dirBase + 0x10) = BitVec.ofNat 32 (u.fld GM_CFG_CELL 0) ∧
              t.rdWord (dirBase + 0x14) = u.get .GM_JOB 0 ∧ t.rdWord (dirBase + 0x18) = 0#32 ∧
                (∀ e < 8 * 32640, t.rdByte (dirBase + 0x400 + e) = 0#8)) ∧
  (∀ (m : Fin 8), Serves (.mapAdopt m) m .GM_MAP_CMD 0 (fun u => u.flag GM_STAT_MAP_BUSY 0 = false ∧
    u.gmRun = false ∧ u.rdWord dirBase = dirFormat ∧ u.mtiles = [])
    (ofInst [.GM_ORG_LAT, .GM_ORG_LON, .GM_CFG, .GM_JOB, .GM_STAT] 0) fun u t =>
      t.get .GM_ORG_LAT 0 = u.rdWord (dirBase + 8) ∧ t.get .GM_ORG_LON 0 = u.rdWord (dirBase + 0xC) ∧
        t.fld GM_CFG_CELL 0 = (u.rdWord (dirBase + 0x10)).toNat % 4 ∧ t.get .GM_JOB 0 = u.rdWord (dirBase + 0x14) ∧
          t.flag GM_STAT_MAP_BUSY 0 = true) ∧
  (∀ (m : Fin 8), Serves (.mapFlush m) m .GM_MAP_CMD 0 (fun u => u.flag GM_STAT_MAP_BUSY 0 = false ∧ u.mtiles = [])
    [(.GM_STAT, 0)] fun u t =>
      t.flag GM_STAT_MAP_BUSY 0 = true ∧ t.geo = u.geo)

/-- A merge takes 512 bytes of its source into its tile when it completes. (R169, R171) -/
def Obligations.MapMerging : Prop :=
  (∀ (m : Fin 8), Serves (.mapMerge m) m .GM_MAP_CMD 0 (fun u => u.flag GM_STAT_MAP_BUSY 0 = false ∧
    u.recording = false ∧ u.inReplay = false)
    [(.GM_STAT, 0)] fun u t =>
      t.geo.merge = some ((u.get .GM_MAP_ARG 0).toNat, BitVec.ofNat 4096 (bytesLE (u.rdBytes (u.get .GM_MAP_SRC
        0).toNat 512))) ∧ t.flag GM_STAT_MAP_BUSY 0 = true ∧ t.mtiles = u.mtiles) ∧
  (∀ (m : Fin 8), Refuses (.mapMerge m) m .GM_MAP_CMD 0 (fun u => u.flag GM_STAT_MAP_BUSY 0 = true)) ∧
  (Acts (.mapDone) (fun u => u.flag GM_STAT_MAP_BUSY 0 = true ∧
    (u.geo.merge.all fun e => (SMap.get none u.mtiles e.1).isSome) = true)
    ([(.GM_STAT, 0)] ++ evtRegs 75) fun u t =>
      (∀ k c x, u.geo.merge = some (k, c) → SMap.get none u.mtiles k = some x →
        (SMap.get none t.mtiles k).map (·.cells) = some (x.cells ||| c)) ∧ t.flag GM_STAT_MAP_BUSY 0 = false ∧
          t.pends 75 = true ∧ t.geo.merge = none) ∧
  (Acts (.mapDone) (fun u => u.flag GM_STAT_MAP_BUSY 0 = false)
    [] fun u t =>
      t.mtiles = u.mtiles)

/-- A stencil tile is its 2048 bytes, and each of its cells is the half byte that R161 names. (R161) -/
def Obligations.StencilCells : Prop :=
  ∀ (x : Int) (y : Int), Arrives (.tileIntake) (fun u => u.inReplay = false ∧ u.recording = false ∧
    u.geo.intake ≠ some (u.tick + 1) ∧ u.qFill 28 ≠ 0 ∧ bitsOf (u.rdWord ((u.qSlot 28 (u.qHead 28)) + 4)) 31 24 = 1 ∧
      bitAt (u.rdWord ((u.qSlot 28 (u.qHead 28)) + 4)) 0 = false ∧
        (u.stiles.length < 512 ∨ (u.stile (u.rdWord (u.qSlot 28 (u.qHead 28))).toNat).isSome = true) ∧
          u.stencilKey x y = (u.rdWord (u.qSlot 28 (u.qHead 28))).toNat)
    (qRegs 28 ++ [(.GM_TC_CNT, 0), (.GM_TC_STAT, 0), (.MOD_FAULT, 0)] ++ evtRegs 64) fun u t =>
      (t.stile (u.rdWord (u.qSlot 28 (u.qHead 28))).toNat).map (·.cells) = some (BitVec.ofNat 16384 (bytesLE
        (u.rdBytes ((u.qSlot 28 (u.qHead 28)) + 16) 2048))) ∧
          t.zoneAt x y = some (let b := (u.rdByte ((u.qSlot 28 (u.qHead 28)) + 16 + 32 * (y / (u.gmStencil : Int) %
            64).toNat + (x / (u.gmStencil : Int) % 64).toNat / 2)).toNat; if (x / (u.gmStencil : Int) % 64).toNat % 2
              = 0 then b % 16 else b / 16)

/-- The supervisor sheets the outputs or asks for a reset, its monitors raise their events, the debug halt begins and
ends (model choices: logs 97, 99, 100 and 101). What rests on logs 97, 99, 100 and 101 is the model's choice. (R431,
R435, R436, R437, R438, R439, R440, R452) -/
def Obligations.Supervisor : Prop :=
  (∀ (o : Fin 2000), Arrives (.clkFault o) (fun u => u.inReset = false)
    ([(Reg.MOD_STAT, 0), (.PG_STAT, 0), (.MOD_FAULT, 0)] ++ ofAll [.AO_CODE, .AO_STAT] 4 ++ ofAll [.BP_STAT] 24 ++
      ofAll [.VS_CNT, .VS_STAT] 128 ++ (List.range 16).flatMap groupRegs ++ evtRegs 125 ++ evtRegs 4 ++
        [(.MOD_RST_CAUSE, 0), (.SUP_STAT, 0)]) fun u t =>
      t.flag MOD_STAT_DUST 0 = true ∧ t.flag MOD_STAT_RELEASED 0 = false ∧
        t.fld MOD_RST_CAUSE_CAUSE 0 = u.fld MOD_RST_CAUSE_CAUSE 0 ||| 8 ∧ t.flag SUP_STAT_PLL_LOCK 0 = false ∧
          bitAt (BitVec.ofNat 32 (t.fld MOD_FAULT_REACT 0)) 0 = true ∧ t.pends 4 = true ∧
            t.flag MOD_FAULT_PROMISE 0 = true ∧ t.boot.rst = 4 ∧ t.boot.rstEnd = none) ∧
  (∀ (o : Fin 2000), Arrives (.clkFault o) (fun u => u.inReset = true)
    [] fun u t =>
      t.boot = u.boot) ∧
  (∀ (x : Word), Arrives (.xtalDrift x) (fun u => u.inReset = false ∧ f32.lt (f32.ofInt 500) (f32.abs x) = true)
    ([(.SUP_STAT, 0), (.SUP_XDEV, 0)] ++ evtRegs 12) fun _ t =>
      t.get .SUP_XDEV 0 = x ∧ t.flag SUP_STAT_XTAL_OK 0 = false ∧ t.pends 12 = true) ∧
  (∀ (x : Word), Arrives (.xtalDrift x) (fun _ => f32.lt (f32.ofInt 500) (f32.abs x) = false)
    [] fun u t =>
      t.boot = u.boot) ∧
  (∀ (s : State), let u := s.met
    u.inReset = false → u.recording = false → ∃ t, exec (.tickFault) s = .next t ∧ t.resp = [] ∧
      t.boot.rstEnd = some ((u.replay.ofs / 2000 + (u.tick : Int) + 2).toNat) ∧ t.fld MOD_RST_CAUSE_CAUSE 0 = 16 ∧
        t.boot.rmode = 0 ∧ t.flag MOD_STAT_DUST 0 = true ∧ t.flag MOD_STAT_RELEASED 0 = false ∧ t.nRstOut = false ∧
          10 ∈ t.boot.after) ∧
  (Arrives (.tickFault) (fun u => u.inReset = true)
    [] fun u t =>
      t.boot = u.boot) ∧
  (∀ (x : Nat), Arrives (.vbatLLow x) (fun u => u.inReset = false ∧ x < 7000 ∧ u.boot.vbatLow = false)
    ([(.MOD_STAT, 0), (.SUP_STAT, 0), (.SUP_VBATL, 0)] ++ evtRegs 9) fun _ t =>
      t.fld SUP_VBATL_MV 0 = x ∧ t.flag SUP_STAT_VBAT_OK 0 = false ∧ t.pends 9 = true ∧
        t.fld MOD_STAT_RLS_BLOCK 0 / 4 % 2 = 1) ∧
  (∀ (x : Nat), Arrives (.vbatLLow x) (fun u => u.inReset = true ∧ x < 7000 ∧ u.boot.vbatLow = false)
    [(.MOD_STAT, 0), (.SUP_STAT, 0), (.SUP_VBATL, 0)] fun u t =>
      t.flag SUP_STAT_VBAT_OK 0 = false ∧ t.boot.after = u.boot.after ++ [9]) ∧
  (∀ (x : Nat), Arrives (.vbatLLow x) (fun u => 7000 ≤ x ∨ u.boot.vbatLow = true)
    [] fun u t =>
      t.boot = u.boot) ∧
  (∀ (x : Nat), Arrives (.vbatLRestored x) (fun u => 7500 ≤ x ∧ u.boot.vbatLow = true)
    [(.MOD_STAT, 0), (.SUP_STAT, 0), (.SUP_VBATL, 0)] fun _ t =>
      t.fld SUP_VBATL_MV 0 = x % 65536 ∧ t.flag SUP_STAT_VBAT_OK 0 = true ∧ t.fld MOD_STAT_RLS_BLOCK 0 / 4 % 2 = 0 ∧
        t.boot.vbatLow = false) ∧
  (∀ (x : Nat), Arrives (.vbatLRestored x) (fun u => x < 7500 ∨ u.boot.vbatLow = false)
    [] fun u t =>
      t.boot = u.boot) ∧
  (Arrives (.railFault) (fun u => u.inReset = false)
    ([(.SUP_STAT, 0)] ++ evtRegs 11) fun _ t =>
      t.flag SUP_STAT_RAILS_OK 0 = false ∧ t.pends 11 = true) ∧
  (∀ (x : Word), Arrives (.tempMain x) (fun u => u.inReset = false ∧ f32.lt (f32.ofInt 120) x = true)
    ([(.SUP_TDIE, 0)] ++ evtRegs 14) fun _ t =>
      t.get .SUP_TDIE 0 = x ∧ t.pends 14 = true) ∧
  (∀ (x : Word), Arrives (.tempMain x) (fun _ => f32.lt (f32.ofInt 120) x = false)
    [] fun u t =>
      t.boot = u.boot) ∧
  (∀ (d : Fin 4), Arrives (.heartbeatLostDie d) (fun _ => True)
    ([(.SUP_STAT, 0), (.MOD_FAULT, 0)] ++ (List.range 6).map (fun j => (.BP_STAT, 6 * d.val + j)) ++ (List.range
      4).flatMap (fun j => groupRegs (4 * d.val + j)) ++ evtRegs 4 ++ evtRegs 125) fun u t =>
      t.fld SUP_STAT_DIE_HB 0 = u.fld SUP_STAT_DIE_HB 0 ||| 2 ^ d.val ∧
        (∀ j : Fin 4, t.flag VG_STAT_DUST (4 * d + j) = true) ∧
          (∀ j : Fin 6, t.flag BP_STAT_HIZ (6 * d + j) = true) ∧
            bitAt (BitVec.ofNat 32 (t.fld MOD_FAULT_REACT 0)) 2 = true ∧ t.pends 4 = true ∧
              (u.flag VG_STAT_DUST (4 * d) = false → t.pends 125 = true) ∧ t.flag MOD_FAULT_PROMISE 0 = true ∧
                t.flag MOD_STAT_DUST 0 = u.flag MOD_STAT_DUST 0) ∧
  (∀ (s : State), let u := s.met
    u.inReset = false → u.recording = false → ∃ t, exec (.heartbeatResetRequest) s = .next t ∧ t.resp = [] ∧
      t.boot.rstEnd = some ((u.replay.ofs / 2000 + (u.tick : Int) + 2).toNat) ∧ t.fld MOD_RST_CAUSE_CAUSE 0 = 32 ∧
        t.boot.rmode = 0 ∧ t.flag MOD_STAT_DUST 0 = true ∧ t.flag MOD_STAT_RELEASED 0 = false ∧ t.nRstOut = false) ∧
  (Arrives (.heartbeatResetRequest) (fun u => u.inReset = true)
    [] fun u t =>
      t.boot = { u.boot with hbReset := true } ∧ t.nRstOut = false) ∧
  (∀ (m : Fin 8), Serves (.supHbclr m) m .SUP_CLR 0 (fun _ => True)
    [(.SUP_STAT, 0)] fun u t =>
      t.fld SUP_STAT_DIE_HB 0 = 0 ∧ t.flag SUP_STAT_PLL_LOCK 0 = u.flag SUP_STAT_PLL_LOCK 0) ∧
  (Arrives (.dbgHaltPin true) (fun u => u.flag DG_CFG_EN 0 = true ∧ u.inReset = false ∧
    u.flag MOD_STAT_HALT 0 = false)
    ([(Reg.MOD_STAT, 0), (.PG_STAT, 0), (.MOD_FAULT, 0)] ++ ofAll [.AO_CODE, .AO_STAT] 4 ++ ofAll [.BP_STAT] 24 ++
      ofAll [.VS_CNT, .VS_STAT] 128 ++ (List.range 16).flatMap groupRegs ++ evtRegs 125 ++ evtRegs 4 ++ [(.DG_STAT,
        0)] ++ ofAll [.LP_STAT] 64 ++ evtRegs 133 ++ evtRegs 254) fun _ t =>
      t.flag MOD_STAT_HALT 0 = true ∧ t.flag DG_STAT_HALT 0 = true ∧ t.flag MOD_STAT_DUST 0 = true ∧
        t.flag MOD_STAT_RELEASED 0 = false ∧ t.pends 254 = true ∧ t.pends 4 = true ∧
          bitAt (BitVec.ofNat 32 (t.fld MOD_FAULT_REACT 0)) 5 = true ∧ t.flag MOD_FAULT_PROMISE 0 = true ∧
            t.boot.dbgLow = true) ∧
  (∀ (x : Bool), Arrives (.dbgHaltPin x) (fun u => x = false ∨ u.flag DG_CFG_EN 0 = false ∨ u.inReset = true ∨ u.flag
    MOD_STAT_HALT 0 = true)
    [] fun u t =>
      t.boot = { u.boot with dbgLow := x }) ∧
  (∀ (m : Fin 8), Serves (.dgHalt m) m .DG_CTRL 0 (fun u => m.val = 7 ∧ u.flag DG_CFG_EN 0 = true ∧
    u.flag MOD_STAT_HALT 0 = false)
    ([(Reg.MOD_STAT, 0), (.PG_STAT, 0), (.MOD_FAULT, 0)] ++ ofAll [.AO_CODE, .AO_STAT] 4 ++ ofAll [.BP_STAT] 24 ++
      ofAll [.VS_CNT, .VS_STAT] 128 ++ (List.range 16).flatMap groupRegs ++ evtRegs 125 ++ evtRegs 4 ++ [(.DG_STAT,
        0)] ++ ofAll [.LP_STAT] 64 ++ evtRegs 133 ++ evtRegs 254) fun _ t =>
      t.flag MOD_STAT_HALT 0 = true ∧ t.flag DG_STAT_HALT 0 = true ∧ t.flag MOD_STAT_DUST 0 = true ∧
        t.flag MOD_STAT_RELEASED 0 = false ∧ t.pends 254 = true ∧ t.pends 4 = true ∧
          bitAt (BitVec.ofNat 32 (t.fld MOD_FAULT_REACT 0)) 5 = true ∧ t.flag MOD_FAULT_PROMISE 0 = true) ∧
  (∀ (m : Fin 8), Serves (.dgHalt m) m .DG_CTRL 0 (fun u => m.val = 7 ∧ u.flag DG_CFG_EN 0 = true ∧
    u.flag MOD_STAT_HALT 0 = true)
    [] fun u t =>
      t.boot = u.boot) ∧
  (∀ (m : Fin 8), Serves (.dgResume m) m .DG_CTRL 0 (fun u => m.val = 7 ∧ u.boot.dbgLow = false)
    [(.MOD_STAT, 0), (.DG_STAT, 0)] fun u t =>
      t.flag MOD_STAT_HALT 0 = false ∧ t.flag DG_STAT_HALT 0 = false ∧
        t.flag MOD_STAT_DUST 0 = u.flag MOD_STAT_DUST 0 ∧ t.flag MOD_STAT_RELEASED 0 = u.flag MOD_STAT_RELEASED 0) ∧
  (∀ (m : Fin 8), Serves (.dgResume m) m .DG_CTRL 0 (fun u => m.val = 7 ∧ u.boot.dbgLow = true)
    [] fun u t =>
      t.boot = u.boot) ∧
  (∀ (s : State), let u := s.meets 7 .DG_CTRL 0
    s.mayWrite 7 .DG_CTRL 0 = true → u.recording = false → ∃ w t, exec (.dgMrst 7) s = .next w ∧
      w.resp = [.ok 0#32] ∧ t = w.settled ∧ t.boot.rstEnd = some ((u.replay.ofs / 2000 + (u.tick : Int) + 2).toNat) ∧
        t.fld MOD_RST_CAUSE_CAUSE 0 = 64 ∧ t.boot.rmode = 0 ∧ t.flag MOD_STAT_DUST 0 = true ∧
          t.flag MOD_STAT_RELEASED 0 = false ∧ t.nRstOut = false) ∧
  (∀ (m : Fin 8), Refuses (.dgHalt m) m .DG_CTRL 0 (fun _ => m.val ≠ 7)) ∧
  (∀ (m : Fin 8), Refuses (.dgResume m) m .DG_CTRL 0 (fun _ => m.val ≠ 7)) ∧
  (∀ (m : Fin 8), Refuses (.dgMrst m) m .DG_CTRL 0 (fun _ => m.val ≠ 7)) ∧
  (∀ (s : State), let u := s.begin'
    u.flag DG_CFG_EN 0 = false → ∃ t, exec (.dgHalt 7) s = .next t ∧ t.resp = [] ∧ t.boot = u.boot ∧
      t.writes = u.writes ∧ State.only ([]) u t) ∧
  (∀ (s : State), let u := s.begin'
    u.flag DG_CFG_EN 0 = false → ∃ t, exec (.dgResume 7) s = .next t ∧ t.resp = [] ∧ t.boot = u.boot ∧
      t.writes = u.writes ∧ State.only ([]) u t) ∧
  (∀ (s : State), let u := s.begin'
    u.flag DG_CFG_EN 0 = false → ∃ t, exec (.dgMrst 7) s = .next t ∧ t.resp = [] ∧ t.boot = u.boot ∧
      t.writes = u.writes ∧ State.only ([]) u t) ∧
  (Arrives (.extest) (fun u => u.flag DG_CFG_EN 0 = true ∧ u.inReset = false ∧ u.flag MOD_STAT_HALT 0 = false)
    ([(Reg.MOD_STAT, 0), (.PG_STAT, 0), (.MOD_FAULT, 0)] ++ ofAll [.AO_CODE, .AO_STAT] 4 ++ ofAll [.BP_STAT] 24 ++
      ofAll [.VS_CNT, .VS_STAT] 128 ++ (List.range 16).flatMap groupRegs ++ evtRegs 125 ++ evtRegs 4 ++ [(.DG_STAT,
        0)] ++ ofAll [.LP_STAT] 64 ++ evtRegs 133 ++ evtRegs 254) fun _ t =>
      t.flag MOD_STAT_HALT 0 = true ∧ t.flag DG_STAT_HALT 0 = true ∧ t.flag MOD_STAT_DUST 0 = true ∧
        t.flag MOD_STAT_RELEASED 0 = false ∧ t.pends 254 = true ∧ t.pends 4 = true ∧
          bitAt (BitVec.ofNat 32 (t.fld MOD_FAULT_REACT 0)) 5 = true ∧ t.flag MOD_FAULT_PROMISE 0 = true) ∧
  (Arrives (.extest) (fun u => u.flag DG_CFG_EN 0 = false ∨ u.inReset = true ∨ u.flag MOD_STAT_HALT 0 = true)
    [] fun u t =>
      t.boot = u.boot)

/-- An image part is copied with its MAGIC held back and written last; slots are verified and invalidated; refused
commands answer an error (model choices: log 102). What rests on log 102 is the model's choice. (R429, R453) -/
def Obligations.MramController : Prop :=
  (∀ (m : Fin 8) (v : Word), ServesTo (.mmWrite m v) m .MM_CMD 0 (fun u => u.mmErr (putBits v 1 0 1) = false ∧
    u.flag MM_STAT_OPEN 0 = false)
    [(.MM_STAT, 0)] (fun _ a => decide (State.imgSlot (bitsOf v 8 8) ≤ a) && decide (a < State.imgSlot (bitsOf v 8 8)
      + 0x100000)) fun u t =>
      t.flag MM_STAT_BUSY 0 = true ∧ t.mm.cmd = some (1, (bitsOf v 8 8), bitAt v 4) ∧ t.flag MM_STAT_OPEN 0 = true ∧
        t.fld MM_STAT_OPEN_SLOT 0 = (bitsOf v 8 8) ∧ t.rdWord (State.imgSlot (bitsOf v 8 8)) = 0#32 ∧
          (∀ k < (u.get .MM_LEN 0).toNat, 4 ≤ u.fld MM_OFS_OFS 0 + k →
            t.rdByte (State.imgSlot (bitsOf v 8 8) + u.fld MM_OFS_OFS 0 + k) = u.rdByte ((u.get .MM_SRC 0).toNat +
              k)) ∧ t.mm.magic = (if u.fld MM_OFS_OFS 0 = 0 then ((u.rdBytes (u.get .MM_SRC 0).toNat (u.get .MM_LEN
                0).toNat).take 4).zipIdx.map (fun e => (e.2, e.1)) else [])) ∧
  (∀ (m : Fin 8) (v : Word), ServesTo (.mmWrite m v) m .MM_CMD 0 (fun u => u.mmErr (putBits v 1 0 1) = false ∧
    u.flag MM_STAT_OPEN 0 = true ∧ u.fld MM_OFS_OFS 0 ≠ 0)
    [(.MM_STAT, 0)] (fun u a => decide (State.imgSlot (bitsOf v 8 8) + u.fld MM_OFS_OFS 0 ≤ a) && decide (a <
      State.imgSlot (bitsOf v 8 8) + u.fld MM_OFS_OFS 0 + (u.get .MM_LEN 0).toNat)) fun u t =>
      t.flag MM_STAT_BUSY 0 = true ∧ t.mm.cmd = some (1, (bitsOf v 8 8), bitAt v 4) ∧ t.flag MM_STAT_OPEN 0 = true ∧
        (∀ k < (u.get .MM_LEN 0).toNat, t.rdByte (State.imgSlot (bitsOf v 8 8) + u.fld MM_OFS_OFS 0 + k) = u.rdByte
          ((u.get .MM_SRC 0).toNat + k)) ∧ t.mm.magic = u.mm.magic) ∧
  (∀ (m : Fin 8) (v : Word), Serves (.mmVerify m v) m .MM_CMD 0 (fun u => u.mmErr (putBits v 1 0 2) = false)
    [(.MM_STAT, 0)] fun _ t =>
      t.flag MM_STAT_BUSY 0 = true ∧ t.mm.cmd = some (2, (bitsOf v 8 8), bitAt v 4)) ∧
  (∀ (m : Fin 8) (v : Word), ServesTo (.mmInvalidate m v) m .MM_CMD 0 (fun u => u.mmErr (putBits v 1 0 3) = false)
    [(.MM_STAT, 0)] (fun _ a => decide (State.imgSlot (bitsOf v 8 8) ≤ a) && decide (a < State.imgSlot (bitsOf v 8 8)
      + 4)) fun u t =>
      t.flag MM_STAT_BUSY 0 = true ∧ t.mm.cmd = some (3, (bitsOf v 8 8), bitAt v 4) ∧
        t.rdWord (State.imgSlot (bitsOf v 8 8)) = 0#32 ∧
          t.flag MM_STAT_OPEN 0 = (u.flag MM_STAT_OPEN 0 && u.fld MM_STAT_OPEN_SLOT 0 != (bitsOf v 8 8))) ∧
  (∀ (m : Fin 8) (v : Word), Refuses (.mmWrite m v) m .MM_CMD 0 (fun u => u.mmErr (putBits v 1 0 1) = true)) ∧
  (∀ (m : Fin 8) (v : Word), Refuses (.mmVerify m v) m .MM_CMD 0 (fun u => u.mmErr (putBits v 1 0 2) = true)) ∧
  (∀ (m : Fin 8) (v : Word), Refuses (.mmInvalidate m v) m .MM_CMD 0 (fun u => u.mmErr (putBits v 1 0 3) = true)) ∧
  (∀ (p : Image) (x : Fin 2) (w : Byte) (y : Byte) (z : Byte) (q : Byte), ActsTo (.mmCommandDone p) (fun u =>
    u.mm.cmd = some (1, x.val, true) ∧ u.mm.magic = [(0, w), (1, y), (2, z), (3, q)])
    [(.MM_STAT, 0)] (fun _ a => decide (State.imgSlot x ≤ a) && decide (a < State.imgSlot x + 4)) fun u t =>
      t.flag MM_STAT_BUSY 0 = false ∧ t.mm.cmd = none ∧
        t.fld MM_STAT_RESULT 0 = (if t.imgOk x (p.bodyOk && State.ownerOk p) then 1 else 2) ∧
          t.flag (if x = 0 then MM_STAT_A_OK else MM_STAT_B_OK) 0 = t.imgOk x (p.bodyOk && State.ownerOk p) ∧
            t.flag (if x = 0 then MM_STAT_B_OK else MM_STAT_A_OK) 0 = u.flag (if x = 0 then MM_STAT_B_OK else
              MM_STAT_A_OK) 0 ∧ t.flag MM_STAT_OPEN 0 = false ∧ t.rdBytes (State.imgSlot x) 4 = [w, y, z, q]) ∧
  (∀ (p : Image) (x : Nat), Acts (.mmCommandDone p) (fun u => u.mm.cmd = some (1, x, false))
    [(.MM_STAT, 0)] fun u t =>
      t.flag MM_STAT_BUSY 0 = false ∧ t.mm.cmd = none ∧ t.fld MM_STAT_RESULT 0 = 1 ∧
        t.flag MM_STAT_OPEN 0 = u.flag MM_STAT_OPEN 0 ∧ t.mm.magic = u.mm.magic) ∧
  (∀ (p : Image) (x : Fin 2) (y : Bool), Acts (.mmCommandDone p) (fun u => u.mm.cmd = some (2, x.val, y))
    [(.MM_STAT, 0)] fun u t =>
      t.flag MM_STAT_BUSY 0 = false ∧ t.mm.cmd = none ∧
        t.fld MM_STAT_RESULT 0 = (if t.imgOk x (p.bodyOk && State.ownerOk p) then 1 else 2) ∧
          t.flag (if x = 0 then MM_STAT_A_OK else MM_STAT_B_OK) 0 = t.imgOk x (p.bodyOk && State.ownerOk p) ∧
            t.flag (if x = 0 then MM_STAT_B_OK else MM_STAT_A_OK) 0 = u.flag (if x = 0 then MM_STAT_B_OK else
              MM_STAT_A_OK) 0 ∧ (t.imgOk x (p.bodyOk && State.ownerOk p) = true →
                (if x = 0 then t.mm.passA else t.mm.passB) = true)) ∧
  (∀ (p : Image) (x : Nat) (y : Bool), Acts (.mmCommandDone p) (fun u => u.mm.cmd = some (3, x, y))
    [(.MM_STAT, 0)] fun _ t =>
      t.flag MM_STAT_BUSY 0 = false ∧ t.mm.cmd = none ∧ t.fld MM_STAT_RESULT 0 = 1) ∧
  (∀ (p : Image), Acts (.mmCommandDone p) (fun u => u.mm.cmd = none)
    [] fun u t =>
      t.mm = u.mm)

/-- Records go into the ring; START is checked, GO starts the replay, which merges records once a tick until END
(model choices: logs 87, 104, 105 and 128). What rests on logs 87, 104, 105 and 128 is the model's choice. (R25, R443,
R446, R447, R449, R450, R454) -/
def Obligations.RecordAndReplay : Prop :=
  (∀ (m : Fin 8) (v : Word), Serves (.rpRecHeadWrite m v) m .RP_REC_HEAD 0 (fun _ => True)
    [(.RP_REC_HEAD, 0)] fun u t =>
      t.fld RP_REC_HEAD_INDEX 0 = bitsOf v 15 0 ∧ t.recorder = u.recorder) ∧
  (∀ (x : List Word) (c : Bool) (s : State), x.length ≤ 30 →
    (s.fld RP_REC_TAIL_INDEX 0 + 65536 - s.fld RP_REC_HEAD_INDEX 0) % 65536 < 2 ^ s.fld RP_REC_GEOM_LOG2N 0 → 
    let t := State.recElement x c s
    t.rdWords ((s.get .RP_REC_BASE 0).toNat / 128 * 128 + 128 * (s.fld RP_REC_TAIL_INDEX 0 % 2 ^ s.fld
      RP_REC_GEOM_LOG2N 0)) 32 = [0x20010000#32, BitVec.ofNat 32 (s.recorder.rseq * 65536 + x.length * 256 + 2 * b2n
        s.recorder.loss + b2n c)] ++ x ++ List.replicate (30 - x.length) 0#32 ∧
          t.fld RP_REC_TAIL_INDEX 0 = (s.fld RP_REC_TAIL_INDEX 0 + 1) % 65536 ∧
            t.recorder = { s.recorder with rseq := modInc 16 s.recorder.rseq, loss := false } ∧
              State.onlyBut ([(.RP_REC_TAIL, 0)]) (fun a => decide (((s.get .RP_REC_BASE 0).toNat / 128 * 128 + 128 *
                (s.fld RP_REC_TAIL_INDEX 0 % 2 ^ s.fld RP_REC_GEOM_LOG2N 0)) ≤ a) && decide (a < ((s.get .RP_REC_BASE
                  0).toNat / 128 * 128 + 128 * (s.fld RP_REC_TAIL_INDEX 0 % 2 ^ s.fld RP_REC_GEOM_LOG2N 0)) + 128)) s
                    t) ∧
  (∀ (x : List Word) (c : Bool) (s : State), 2 ^ s.fld RP_REC_GEOM_LOG2N 0 ≤ (s.fld RP_REC_TAIL_INDEX 0 + 65536 -
    s.fld RP_REC_HEAD_INDEX 0) % 65536 → 
    let t := State.recElement x c s
    t.recorder = { s.recorder with rseq := modInc 16 s.recorder.rseq, loss := true } ∧
      t.fld RP_CNT_LOST 0 = min (s.fld RP_CNT_LOST 0 + 1) (2 ^ (RP_CNT_LOST.hi + 1 - RP_CNT_LOST.lo) - 1) ∧
        t.rbit .RP_EVT 0 1 = true ∧ (s.rbit .RP_EVT_MASK 0 1 = true → t.pends 253 = true) ∧
          State.only ([(.RP_CNT, 0), (.RP_EVT, 0)] ++ evtRegs 253) s t) ∧
  (∀ (i : Fin 4) (x : State.RpRec) (y : List Word), Acts (.replayStartCheck i) (fun u => u.fld RP_STAT_STATE 0 = 2 ∧
    u.rpCarries i = true ∧ u.served = true ∧ State.rpParse (u.rpQueue i).words = some (x, y) ∧ x.rk = 1 ∧
      x.body.take 5 = u.rdWords (State.imgSlot (u.fld MOD_STAT_SLOT 0) + 16) 4 ++ [u.rdWord (State.imgSlot (u.fld
        MOD_STAT_SLOT 0) + 8)] ∧ x.stamp = u.get64 .RP_T0_LO .RP_T0_HI 0 ∧ State.rpWord x 6 = u.maskCrc)
    [(.RP_STAT, 0)] fun _ t =>
      t.fld RP_STAT_STATE 0 = 3 ∧ t.fld RP_STAT_REJ 0 = 0 ∧ (t.rpQueue i).words = y ∧ (t.rpQueue i).last = x.stamp) ∧
  (∀ (i : Fin 4) (x : State.RpRec) (y : List Word), Acts (.replayStartCheck i) (fun u => u.fld RP_STAT_STATE 0 = 2 ∧
    u.rpCarries i = true ∧ u.served = true ∧ State.rpParse (u.rpQueue i).words = some (x, y) ∧ x.rk = 1 ∧
      (x.body.take 5 ≠ u.rdWords (State.imgSlot (u.fld MOD_STAT_SLOT 0) + 16) 4 ++ [u.rdWord (State.imgSlot (u.fld
        MOD_STAT_SLOT 0) + 8)] ∨ x.stamp ≠ u.get64 .RP_T0_LO .RP_T0_HI 0 ∨ State.rpWord x 6 ≠ u.maskCrc))
    ([(.RP_STAT, 0), (.RP_EVT, 0)] ++ evtRegs 253) fun u t =>
      t.fld RP_STAT_REJ 0 = (if x.body.take 5 ≠ u.rdWords (State.imgSlot (u.fld MOD_STAT_SLOT 0) + 16) 4 ++ [u.rdWord
        (State.imgSlot (u.fld MOD_STAT_SLOT 0) + 8)] then 1 else if x.stamp ≠ u.get64 .RP_T0_LO .RP_T0_HI 0 then 2
          else 3) ∧ t.fld RP_STAT_STATE 0 = 2 ∧ (t.rpQueue i).words = [] ∧ t.rbit .RP_EVT 0 2 = true ∧
            (u.rbit .RP_EVT_MASK 0 2 = true → t.pends 253 = true)) ∧
  (∀ (i : Fin 4), Acts (.replayStartCheck i) (fun u => u.fld RP_STAT_STATE 0 = 2 ∧ u.rpCarries i = true ∧
    u.served = true ∧ (u.rpQueue i).words ≠ [] ∧
      ((State.rpParse (u.rpQueue i).words).all fun e => e.1.rk != 1) = true)
    ([(.RP_STAT, 0), (.RP_EVT, 0)] ++ evtRegs 253) fun u t =>
      t.fld RP_STAT_REJ 0 = 4 ∧ t.fld RP_STAT_STATE 0 = 2 ∧ (t.rpQueue i).words = [] ∧ t.rbit .RP_EVT 0 2 = true ∧
        (u.rbit .RP_EVT_MASK 0 2 = true → t.pends 253 = true)) ∧
  (∀ (i : Fin 4), Acts (.replayStartCheck i) (fun u => u.fld RP_STAT_STATE 0 ≠ 2 ∨ u.rpCarries i = false ∨ u.served =
    false)
    [] fun u t =>
      t.replay = u.replay) ∧
  (∀ (m : Fin 8), Serves (.replayGo m) m .RP_CTRL 0 (fun u => u.fld RP_STAT_STATE 0 = 3 ∧ m.val = u.owner)
    [(.RP_STAT, 0), (.MOD_STAT, 0)] fun _ t =>
      t.fld RP_STAT_STATE 0 = 4 ∧ t.replay.go = true ∧ t.fld MOD_STAT_RLS_BLOCK 0 / 8 % 2 = 0) ∧
  (∀ (m : Fin 8), Refuses (.replayGo m) m .RP_CTRL 0 (fun u => u.fld RP_STAT_STATE 0 ≠ 3 ∨ m.val ≠ u.owner)) ∧
  (∀ (i : Fin 4) (x : State.RpRec) (s : State), let u := s.met
    s.begin'.fld RP_STAT_STATE 0 = 4 → u.replay.merged ≠ u.tick + 1 → u.rpQueues = [i.val] →
      u.flag Q_GEOM_EN (30 + i) = false → State.rpParse (u.rpQueue i).words = some (x, []) →
        State.rpTick x ≤ u.tick → ∃ t, exec (.replayRecordMerge) s = .next t ∧ t.resp = [] ∧
          t.replay.merged = u.tick + 1 ∧ (t.rpQueue i).words = [] ∧
            t.get .RP_LATE 0 = BitVec.ofNat 32 (u.tick + 1 - State.rpTick x) ∧
              t.fld RP_CNT_LATE 0 = min (u.fld RP_CNT_LATE 0 + 1) (2 ^ (RP_CNT_LATE.hi + 1 - RP_CNT_LATE.lo) - 1) ∧
                t.rbit .RP_EVT 0 0 = true ∧ (u.rbit .RP_EVT_MASK 0 0 = true → t.pends 252 = true) ∧
                  t.replay.ended = u.replay.ended ∧
                    State.only ([(.RP_LATE, 0), (.RP_CNT, 0), (.RP_EVT, 0)] ++ evtRegs 252) u t) ∧
  (∀ (i : Fin 4) (x : State.RpRec) (s : State), let u := s.met
    s.begin'.fld RP_STAT_STATE 0 = 4 → u.replay.merged ≠ u.tick + 1 → u.rpQueues = [i.val] →
      u.flag Q_GEOM_EN (30 + i) = false → State.rpParse (u.rpQueue i).words = some (x, []) →
        u.tick + 1 < State.rpTick x → (u.rpQueue i).last ≤ x.stamp → ∃ t, exec (.replayRecordMerge) s = .next t ∧
          t.resp = [] ∧ t.replay.merged = u.tick + 1 ∧ t.replay.qs = u.replay.qs ∧ t.replay.ended = u.replay.ended ∧
            State.only ([]) u t) ∧
  (∀ (i : Fin 4) (x : State.RpRec) (s : State), let u := s.met
    s.begin'.fld RP_STAT_STATE 0 = 4 → u.replay.merged ≠ u.tick + 1 → u.rpQueues = [i.val] →
      u.flag Q_GEOM_EN (30 + i) = false → State.rpParse (u.rpQueue i).words = some (x, []) →
        State.rpTick x = u.tick + 1 → (u.rpQueue i).last ≤ x.stamp → x.rk = 2 →
          ∃ t, exec (.replayRecordMerge) s = .next t ∧ t.resp = [] ∧ t.replay.merged = u.tick + 1 ∧
            (t.rpQueue i).words = [] ∧ t.replay.ended = true ∧ State.only ([]) u t) ∧
  (∀ (s : State), let u := s.met
    s.begin'.fld RP_STAT_STATE 0 = 4 → u.replay.merged = u.tick + 1 → ∃ t, exec (.replayRecordMerge) s = .next t ∧
      t.resp = [] ∧ t.replay = u.replay ∧ State.only ([]) u t) ∧
  (Acts (.replayRecordMerge) (fun u => u.fld RP_STAT_STATE 0 ≠ 4)
    [] fun u t =>
      t.replay = u.replay) ∧
  (Acts (.replayEnd) (fun u => u.fld RP_STAT_STATE 0 = 4 ∧ u.replay.ended = true)
    ([(.RP_STAT, 0), (.RP_EVT, 0), (.MOD_STAT, 0)] ++ evtRegs 253) fun u t =>
      t.fld RP_STAT_STATE 0 = 5 ∧ t.rbit .RP_EVT 0 4 = true ∧ (u.rbit .RP_EVT_MASK 0 4 = true → t.pends 253 = true) ∧
        t.flag MOD_STAT_DUST 0 = u.flag MOD_STAT_DUST 0) ∧
  (Acts (.replayEnd) (fun u => u.fld RP_STAT_STATE 0 ≠ 4 ∨ u.replay.ended = false)
    [] fun u t =>
      t.replay = u.replay)

/-- Enabling an axis starts it from its preset in the state of its type, or is refused with its code and E032 (model
choices: log 68). What rests on log 68 is the model's choice. (R73, R74, R75, R94, R97) -/
def Obligations.AxisEnable : Prop :=
  (∀ (m : Fin 8) (i : Fin 32) (v : Word), Serves (.axEnable m i v) m .AX_CFG i (fun u => u.axEn i = false ∧
    u.axReject i (u.merged m .AX_CFG i (v ||| 1#32)) = 0)
    (ofInst [.AX_CFG, .AX_CORR_W, .AX_CORR_R, .AX_STAT] i) fun u t =>
      t.axEn i = true ∧ t.get .AX_CFG i = u.merged m .AX_CFG i (v ||| 1#32) ∧ t.fld AX_STAT_REJ i = 0 ∧
        t.get .AX_CORR_W i = f32.one ∧ t.get .AX_CORR_R i = f32.one ∧ (t.ax i).tEn = u.Tn ∧
          t.axState i = (if t.axType i = 4 then 4 else if t.axType i = 0 ∧ u.axHas i .left = false ∧
            u.axHas i .radar = false then 3 else 1)) ∧
  (∀ (m : Fin 8) (i : Fin 32) (v : Word), Serves (.axEnable m i v) m .AX_CFG i (fun u => u.axEn i = false ∧
    u.axReject i (u.merged m .AX_CFG i (v ||| 1#32)) ≠ 0)
    (ofInst [.AX_CFG, .AX_STAT] i ++ evtRegs 32) fun u t =>
      t.axEn i = false ∧ t.fld AX_STAT_REJ i = u.axReject i (u.merged m .AX_CFG i (v ||| 1#32)) ∧ t.pends 32 = true) ∧
  (∀ (i : Fin 32) (s : State), s.axEn i = true → (s.ax i).tEn = s.T →
    (State.axUpdate i s).axPos i = s.axPreset i - (if s.axType i = 4 then s.axPreset i % 65536 else 0) ∧
      (State.axUpdate i s).axVel i = (if s.axType i = 5 then 0x49742400#32 else 0#32) ∧
        (State.axUpdate i s).axAcc i = 0#32)

/-- Factors, steps and disables of an axis are taken as its type lets them, and phase 2 moves it by its type (model
choices: logs 69, 74 and 76). What rests on logs 69, 74 and 76 is the model's choice. (R74, R75, R76, R77, R78, R86,
R93, R95, R97, R98, R131) -/
def Obligations.AxisCommands : Prop :=
  (∀ (m : Fin 8) (i : Fin 32) (k : Fin 3) (v : Word), Serves (.axKWrite m i k v) m (kReg k) i (fun u => f32.nonFinite
    v = false ∧ (u.axEn i = true → u.axKAccepts i k v = true))
    [(kReg k, i.val)] fun _ t =>
      t.get (kReg k) i = v) ∧
  (∀ (m : Fin 8) (i : Fin 32) (v : Word), Serves (.axStepWrite m i v) m .AX_STEP i (fun u => u.axEn i = true ∧
    u.axType i = 6)
    [] fun u t =>
      (t.ax i).stepNew = (u.ax i).stepNew + wint v) ∧
  (∀ (m : Fin 8) (i : Fin 32) (v : Word), Serves (.axStepWrite m i v) m .AX_STEP i (fun u => u.axEn i = false ∨
    u.axType i ≠ 6)
    [] fun u t =>
      t.axes = u.axes) ∧
  (∀ (m : Fin 8) (i : Fin 32) (v : Word) (s : State), let u := s.meets m .AX_CFG i
    s.mayWrite m .AX_CFG i = true → u.axEn i = true →
      u.merged m .AX_CFG i (v &&& ~~~1#32) = u.get .AX_CFG i &&& ~~~1#32 →
    ∃ w t, exec (.axDisable m i v) s = .next w ∧ w.resp = [.ok 0#32] ∧ t = w.settled ∧ t.axEn i = false ∧
      t.axState i = 0 ∧
      t.axPos i = u.axPos i ∧ t.axVel i = u.axVel i ∧ t.axAcc i = u.axAcc i ∧
      ∀ n < 768, u.lnEn n = true → u.lnAx n = i → (t.lane n).fill = 0) ∧
  (∀ (i : Fin 32) (s : State), s.axEn i = false → 
    let t := State.axUpdate i s
    t = s) ∧
  (∀ (i : Fin 32) (s : State), s.axEn i = true → (s.ax i).tEn ≠ s.T → s.axType i = 5 → 
    let t := State.axUpdate i s
    t.axPos i = wrap48 (s.axPos i + 10) ∧ State.only (ofInst [.AX_POS_LO, .AX_POS_HI] i) s t) ∧
  (∀ (i : Fin 32) (s : State), s.axEn i = true → (s.ax i).tEn ≠ s.T → s.axType i = 6 → 
    let t := State.axUpdate i s
    t.axPos i = wrap48 (s.axPos i + (s.ax i).stepDue) ∧ (t.ax i).stepDue = (s.ax i).stepNew ∧ (t.ax i).stepNew = 0 ∧
      t.axVel i = s.get .AX_SOFT_V i ∧ t.axAcc i = s.get .AX_SOFT_A i ∧
        State.only (ofInst [.AX_POS_LO, .AX_POS_HI, .AX_VEL, .AX_ACC] i) s t) ∧
  (∀ (i : Fin 32) (s : State), s.axEn i = true → (s.ax i).tEn ≠ s.T → s.axType i = 4 → 
    let t := State.axUpdate i s
    t.axPos i = wrap48 (s.mainsAt i s.T / 65536) ∧ State.only (ofInst [.AX_POS_LO, .AX_POS_HI] i) s t) ∧
  (∀ (i : Fin 32) (s : State), s.axEn i = true → (s.ax i).tEn ≠ s.T → s.axType i = 2 → s.fld AX_CFG_SRC_AX i < i →
    s.axEn (s.fld AX_CFG_SRC_AX i) = true → 
    let t := State.axUpdate i s
    t.axPos i = wrap48 (s.axPos i + ((s.ax i).exactRem + mulExact (s.get .AX_K0 i) (if (s.ax (s.fld AX_CFG_SRC_AX
      i)).tEn = s.T then 0 else diff48 (s.axPos (s.fld AX_CFG_SRC_AX i)) (s.ax (s.fld AX_CFG_SRC_AX i)).prevX) 200) /
        2 ^ 200) ∧ t.axVel i = f32.mul (s.axVel (s.fld AX_CFG_SRC_AX i)) (s.get .AX_K0 i) ∧
          t.axAcc i = f32.mul (s.axAcc (s.fld AX_CFG_SRC_AX i)) (s.get .AX_K0 i) ∧
            t.axState i = s.axState (s.fld AX_CFG_SRC_AX i) ∧
              State.only (ofInst [.AX_POS_LO, .AX_POS_HI, .AX_VEL, .AX_ACC, .AX_STAT] i) s t) ∧
  (∀ (i : Fin 32) (s : State), s.axEn i = true → (s.ax i).tEn ≠ s.T → s.axType i = 2 →
    s.axEn (s.fld AX_CFG_SRC_AX i) = false → 
    let t := State.axUpdate i s
    t.axPos i = s.axPos i ∧ t.axVel i = 0#32 ∧ t.axAcc i = 0#32 ∧ t.axState i = 5 ∧ (s.axState i ≠ 5 →
      t.pends 46 = true) ∧ State.only (ofInst [.AX_POS_LO, .AX_POS_HI, .AX_VEL, .AX_ACC, .AX_STAT] i ++ evtRegs 46) s
        t) ∧
  (∀ (i : Fin 32) (s : State), s.axEn i = true → (s.ax i).tEn ≠ s.T → s.axType i = 1 ∨ s.axType i = 3 → 
    let t := State.axUpdate i s
    t.axPos i = wrap48 (s.axPos i + ((s.ax i).rem + (if s.axDirInv i then -(countMove (s.ax i).left (s.countUpdate i
      (s.axChan i .left) s.T (s.ax i).left) (s.axK i .left) f32.one 0).2 else (countMove (s.ax i).left (s.countUpdate
        i (s.axChan i .left) s.T (s.ax i).left) (s.axK i .left) f32.one 0).2)) / 65536) ∧
          t.axVel i = (if s.axDirInv i then f32.neg else id) (f32.mul (s.get .FB_VEL (s.axChan i .left)) (f32.mul
            (s.axK i .left) f1024)) ∧
              t.axAcc i = (if s.axDirInv i then f32.neg else id) (f32.mul (s.get .FB_ACC (s.axChan i .left)) (f32.mul
                (s.axK i .left) f1024)) ∧ State.only (ofInst [.AX_POS_LO, .AX_POS_HI, .AX_VEL, .AX_ACC] i) s t) ∧
  (∀ (i : Fin 32) (s : State), s.axEn i = true → (s.ax i).tEn ≠ s.T → s.axType i = 0 → s.axState i = 2 → 
    let t := State.axUpdate i s
    t.axPos i = wrap48 (s.axPos i + ((s.ax i).rem + State.tickSpan (s.axVel i)) / 65536) ∧ t.axVel i = s.axVel i ∧
      t.axAcc i = 0#32 ∧ State.only (ofInst [.AX_POS_LO, .AX_POS_HI, .AX_VEL, .AX_ACC, .AX_GNSS_V, .AX_STAT] i ++
        evtRegs 38 ++ evtRegs 39) s t) ∧
  (∀ (i : Fin 32) (s : State), s.axEn i = true → (s.ax i).tEn ≠ s.T → s.axType i = 0 → s.axState i = 3 → 
    let t := State.axUpdate i s
    t.axPos i = s.axPos i ∧ t.axVel i = 0#32 ∧ t.axAcc i = 0#32 ∧
      State.only (ofInst [.AX_POS_LO, .AX_POS_HI, .AX_VEL, .AX_ACC, .AX_GNSS_V, .AX_STAT] i ++ evtRegs 38 ++ evtRegs
        39) s t) ∧
  (∀ (i : Fin 32) (s : State), s.axEn i = true → (s.ax i).tEn ≠ s.T → s.axType i = 0 → s.axState i = 1 →
    s.fld AX_STAT_ACTIVE i < 3 → 
    let t := State.axUpdate i s
    t.axVel i = (if s.axDirInv i then f32.neg else id) (f32.mul (f32.mul ((State.axSigns i s).srcSpeed i (s.fld
      AX_STAT_ACTIVE i)) (s.srcCorr i (s.fld AX_STAT_ACTIVE i))) f1024) ∧ (s.fld AX_STAT_ACTIVE i = 2 →
        t.axPos i = wrap48 (s.axPos i + ((s.ax i).rem + State.tickSpan (t.axVel i)) / 65536) ∧ t.axAcc i = 0#32) ∧
          State.only (ofInst [.AX_POS_LO, .AX_POS_HI, .AX_VEL, .AX_ACC, .AX_GNSS_V, .AX_STAT] i ++ evtRegs 38 ++
            evtRegs 39) s t)

/-- A source goes stale or recovers, a coasting axis stops, and a lost yaw reads 0, each with its event (model
choices: logs 22 and 24). What rests on logs 22 and 24 is the model's choice. (R82, R83, R84, R86, R90) -/
def Obligations.AxisSources : Prop :=
  (∀ (i : Fin 32) (k : AxSrc), Arrives (.srcStale i k) (fun u => u.axStaleDue i k = true)
    (ofInst [.AX_CNT, .AX_STAT] i ++ evtRegs 33 ++ evtRegs 34 ++ evtRegs 36) fun u t =>
      t.axOk i k = false ∧ ((match k with | .radar => u.radarOk i | .gnss => u.gnssOk i | _ => u.wheelOk i) = true →
        t.pends 33 = true) ∧ (t.fld AX_STAT_ACTIVE i ≠ u.fld AX_STAT_ACTIVE i → t.pends 34 = true) ∧
          (t.fld AX_STAT_ACTIVE i = 3 → u.fld AX_STAT_ACTIVE i ≠ 3 → t.pends 36 = true ∧ t.axState i = 2)) ∧
  (∀ (i : Fin 32) (k : AxSrc), Arrives (.srcRecover i k) (fun u => u.axRecoverDue i k = true)
    (ofInst [.AX_CNT, .AX_STAT] i ++ evtRegs 34 ++ evtRegs 35 ++ evtRegs 36) fun u t =>
      t.axOk i k = true ∧ ((match k with | .radar => t.radarOk i | .gnss => t.gnssOk i | _ => t.wheelOk i) = true →
        t.pends 35 = true) ∧ (t.fld AX_STAT_ACTIVE i ≠ u.fld AX_STAT_ACTIVE i → t.pends 34 = true)) ∧
  (∀ (i : Fin 32), Arrives (.stopped i) (fun u => u.axStopDue i = true)
    (ofInst [.AX_STAT, .AX_VEL, .AX_ACC] i ++ evtRegs 37) fun _ t =>
      t.axState i = 3 ∧ t.axVel i = 0#32 ∧ t.axAcc i = 0#32 ∧ t.pends 37 = true) ∧
  (Arrives (.yawLost) (fun u => (u.yawPick u.Tn).isNone = true ∧ u.flag AX_YAW_STAT_LOST 0 = false)
    ([(.AX_YAW, 0), (.AX_YAW_STAT, 0)] ++ evtRegs 43) fun _ t =>
      t.get .AX_YAW 0 = 0#32 ∧ t.fld AX_YAW_STAT_USED 0 = 0 ∧ t.flag AX_YAW_STAT_LOST 0 = true ∧ t.pends 43 = true)

/-- Zero-cross edges start and steer a MAINS axis; missing edges drop its lock and stop it. (R94, R95, R96) -/
def Obligations.MainsAxis : Prop :=
  (∀ (h : Fin 3) (e : Bool) (o : Fin 2000), Arrives (.mainsEdge h e o) (fun u => u.deaf = false ∧
    (rateTake (2 + h) 140 (u.clk o) u).2 = false)
    (ofAll [.AX_STAT, .AX_VEL, .AX_ACC, .AX_CNT] 32 ++ evtRegs 40 ++ evtRegs 41 ++ evtRegs 42) fun u t =>
      (∀ i : Fin 32, u.axEn i = true → u.axType i = 4 → u.fld AX_SRC_WL i % 4 = h → u.flag AX_MAINS_EDGE i ≠ e →
        (u.ax i).tEn ≤ u.clk o → u.axState i = 4 → (u.ax i).mains.armed = false → (t.ax i).mains.armed = true ∧
          (t.ax i).mains.last = u.clk o ∧ t.axState i = 4) ∧ (∀ i : Fin 32, u.axEn i = true → u.axType i = 4 →
            u.fld AX_SRC_WL i % 4 = h → u.flag AX_MAINS_EDGE i ≠ e → (u.ax i).tEn ≤ u.clk o → u.axState i = 4 →
              (u.ax i).mains.armed = true → (u.ax i).mains.last < u.clk o →
                mainsInRange (f32.ofRat 200000000 (u.clk o - (u.ax i).mains.last)) = true → t.axState i = 1 ∧
                  t.axVel i = f32.mul f65536 (f32.ofRat 200000000 (u.clk o - (u.ax i).mains.last))) ∧
                    (∀ i : Fin 32, u.axEn i = true → u.axType i = 4 → u.fld AX_SRC_WL i % 4 = h →
                      u.flag AX_MAINS_EDGE i ≠ e → (u.ax i).tEn ≤ u.clk o → u.axState i = 1 →
                        mainsSpan (u.ax i).mains.f 3 5 (u.clk o - (u.ax i).mains.last) = false →
                          t.fld AX_CNT_STALE_CNT i = min (u.fld AX_CNT_STALE_CNT i + 1) (2 ^ (AX_CNT_STALE_CNT.hi + 1
                            - AX_CNT_STALE_CNT.lo) - 1) ∧ t.axVel i = u.axVel i) ∧ (∀ i : Fin 32, u.axEn i = true →
                              u.axType i = 4 → u.fld AX_SRC_WL i % 4 = h → u.flag AX_MAINS_EDGE i ≠ e →
                                (u.ax i).tEn ≤ u.clk o → u.axState i = 1 →
                                  mainsSpan (u.ax i).mains.f 3 5 (u.clk o - (u.ax i).mains.last) = true →
                                    mainsInRange (f32.mul (u.ax i).mains.f (f32.sub f32.one (f32.mul (f32.ofScaled
                                      (signed 32 (unsig 32 (u.mainsAt i (u.clk o)))) 32) 0x3D800000))) = true →
                                        (t.ax i).mains.f = f32.mul (u.ax i).mains.f (f32.sub f32.one (f32.mul
                                          (f32.ofScaled (signed 32 (unsig 32 (u.mainsAt i (u.clk o)))) 32)
                                            0x3D800000)) ∧ (t.ax i).mains.last = u.clk o ∧ t.axState i = 1 ∧
                                              t.axVel i = f32.mul (f32.mul f65536 (f32.mul (u.ax i).mains.f (f32.sub
                                                f32.one (f32.mul (f32.ofScaled (signed 32 (unsig 32 (u.mainsAt i
                                                  (u.clk o)))) 32) 0x3D800000)))) (f32.sub f32.one (f32.mul
                                                    (f32.ofScaled (signed 32 (unsig 32 (u.mainsAt i (u.clk o)))) 32)
                                                      0x3E800000)) ∧ t.axAcc i = f32.div (f32.sub (f32.mul (f32.mul
                                                        f65536 (f32.mul (u.ax i).mains.f (f32.sub f32.one (f32.mul
                                                          (f32.ofScaled (signed 32 (unsig 32 (u.mainsAt i (u.clk
                                                            o)))) 32) 0x3D800000)))) (f32.sub f32.one (f32.mul
                                                              (f32.ofScaled (signed 32 (unsig 32 (u.mainsAt i (u.clk
                                                                o)))) 32) 0x3E800000))) (u.axVel i)) (f32.ofRat
                                                                  (u.clk o - (u.ax i).mains.last) 200000000)) ∧
                                                                    (∀ i : Fin 32, u.axEn i = true → u.axType i = 4 →
                                                                      u.fld AX_SRC_WL i % 4 = h →
                                                                        u.flag AX_MAINS_EDGE i ≠ e →
                                                                          (u.ax i).tEn ≤ u.clk o → u.axState i = 1 →
                                                                            mainsSpan (u.ax i).mains.f 3 5 (u.clk o -
                                                                              (u.ax i).mains.last) = true →
                                                                                mainsInRange (f32.mul (u.ax
                                                                                  i).mains.f (f32.sub f32.one
                                                                                    (f32.mul (f32.ofScaled (signed 32
                                                                                      (unsig 32 (u.mainsAt i (u.clk
                                                                                        o)))) 32) 0x3D800000))) =
                                                                                          false → t.axState i = 4 ∧
                                                                                            t.axVel i = 0#32 ∧
                                                                                              t.axAcc i = 0#32 ∧
                                                                                                t.pends 42 = true)) ∧
  (∀ (i : Fin 32), Arrives (.mainsMissingEdges i) (fun u => u.axEn i = true ∧ u.axType i = 4 ∧ u.axState i = 1 ∧
    (u.ax i).mains.missed = false ∧ mainsSpan (u.ax i).mains.f 2 1 (u.Tn - (u.ax i).mains.last) = true)
    (ofInst [.AX_STAT, .AX_VEL, .AX_ACC, .AX_CNT] i ++ evtRegs 41) fun u t =>
      t.flag AX_STAT_LOCK i = false ∧ t.axVel i = f32.mul f65536 (u.ax i).mains.f ∧ t.axAcc i = 0#32 ∧
        (u.flag AX_STAT_LOCK i = true → t.pends 41 = true)) ∧
  (∀ (i : Fin 32), Arrives (.mainsGone i) (fun u => u.axEn i = true ∧ u.axType i = 4 ∧ u.axState i = 1 ∧
    mainsSpan (u.ax i).mains.f 5 1 (u.Tn - (u.ax i).mains.last) = true)
    (ofInst [.AX_STAT, .AX_VEL, .AX_ACC] i) fun _ t =>
      t.axState i = 3 ∧ t.axVel i = 0#32 ∧ t.axAcc i = 0#32)

/-- Sentences, PPS edges, IMU transactions and the slip corrections act as their rules say (model choices: logs 32 and
112). What rests on logs 32 and 112 is the model's choice. (R81, R85, R140, R141, R145) -/
def Obligations.ReceiversAndImu : Prop :=
  (∀ (r : Fin 2) (o : Fin 2000), Arrives (.ppsEdge r o) (fun u => u.deaf = false)
    [] fun u t =>
      (t.rcv r).pps = some (u.clk o) ∧ (t.rcv r).paired = (u.rcv r).paired) ∧
  (∀ (r : Fin 2) (o : Fin 2000) (l : List Byte), Arrives (.gnssSentence r o l) (fun u => u.deaf = false ∧
    (Nmea.parse l).map (·.1) = some 0 ∧ (rateTake (8 + 4 * r) 20 (u.clk o) u).2 = false)
    ([] ++ evtRegs 64) fun u t =>
      (t.rcv r).ggaT = some (u.clk o) ∧
        (t.rcv r).ggaQ = (((Nmea.parse l).bind fun p => Nmea.dec (Nmea.fieldAt p.2 5)).map fun d => d.num /
          d.den).getD 0) ∧
  (∀ (r : Fin 2) (o : Fin 2000) (l : List Byte), Arrives (.gnssSentence r o l) (fun u => u.deaf = false ∧
    Nmea.parse l = none)
    ([] ++ evtRegs 64 ++ evtRegs 44) fun _ t =>
      (∀ k, Nmea.kindAt l = some k → t.pends (if k = 0 ∨ k = 3 then 64 else 44) = true)) ∧
  (∀ (r : Fin 2) (o : Fin 2000) (l : List Byte), Arrives (.gnssSentence r o l) (fun u => u.deaf = false ∧
    ((Nmea.parse l).any fun p => p.1 == 3 && (Nmea.dec (Nmea.fieldAt p.2 0)).isSome) = true ∧
      (rateTake (11 + 4 * r) 20 (u.clk o) u).2 = false)
    [] fun u t =>
      (t.rcv r).hdt = (((Nmea.parse l).bind fun p => Nmea.dec (Nmea.fieldAt p.2 0)).map fun d => (bearing d, u.clk
        o)) ∧ t.get .EVT_PEND 16 = u.get .EVT_PEND 16) ∧
  (∀ (r : Fin 2) (o : Fin 2000) (l : List Byte) (k : Nat), Arrives (.gnssSentence r o l) (fun u => u.deaf = false ∧
    (Nmea.parse l).map (·.1) = some k ∧ (k = 1 ∨ k = 2) ∧ (rateTake (8 + 4 * r + k) 20 (u.clk o) u).2 = false)
    (ofAll [.AX_GNSS_V] 32 ++ evtRegs 44) fun u t =>
      (∀ i : Fin 32, u.axEn i = true → u.axType i = 0 → u.axHas i .gnss = true → u.fld AX_SRC_GNSS_SEL i = r →
        u.speedOk r (u.clk o) (u.axGnssTo i) k (((Nmea.parse l).map (·.2)).getD []) = true →
          (t.ax i).gT = some (u.clk o) ∧
            t.get .AX_GNSS_V i = (if (u.ax i).signG then f32.neg else id) ((speedOf k (((Nmea.parse l).map
              (·.2)).getD [])).getD 0#32)) ∧ (∀ i : Fin 32, u.axEn i = true → u.axType i = 0 →
                u.axHas i .gnss = true → u.fld AX_SRC_GNSS_SEL i = r →
                  u.speedOk r (u.clk o) (u.axGnssTo i) k (((Nmea.parse l).map (·.2)).getD []) = false →
                    t.ax i = u.ax i ∧ t.get .AX_GNSS_V i = u.get .AX_GNSS_V i ∧ t.pends 44 = true) ∧
                      (∀ i : Fin 32, u.axEn i = false ∨ u.axType i ≠ 0 ∨ u.axHas i .gnss = false ∨ u.fld
                        AX_SRC_GNSS_SEL i ≠ r → t.ax i = u.ax i ∧ t.get .AX_GNSS_V i = u.get .AX_GNSS_V i)) ∧
  (Acts (.imuTransaction) (fun u => u.flag GM_IMU_CFG_EN 0 = true ∧ u.imu.busy = false ∧
    (u.tick - u.imu.t0) % u.fld GM_IMU_CFG_PERIOD 0 = 0)
    [] fun u t =>
      t.imu.busy = true ∧ t.imu.sent = (wordBytes (u.get .GM_IMU_CMD 0) ++ List.replicate 11 0#8).take (u.fld
        GM_IMU_CFG_LEN 0)) ∧
  (∀ (o : Fin 2000) (l : List Byte), Arrives (.imuRecord o l) (fun u => u.deaf = false ∧ u.imu.busy = true ∧
    (rateTake 1 1000 (u.clk o) u).2 = false)
    [] fun u t =>
      t.imu.busy = false ∧ t.yaw.imu = some (f32.mul (f32.ofInt (u.imuRaw (l.take (u.fld GM_IMU_CFG_LEN 0)))) (u.get
        .GM_IMU_K 0), u.clk o)) ∧
  (Arrives (.slipCorrectionUpdate) (fun u => u.Tn % 200000000 = 0)
    (ofAll [.AX_CORR_W, .AX_CORR_R] 32) fun u t =>
      (∀ i : Fin 32, u.axEn i = true → u.axType i = 0 → (u.ax i).chgTick ≠ u.tick + 1 → u.gnssOk i = true →
        f32.le f1000 (f32.abs (u.axObs.srcSpeed i 2)) = true →
        f32.le (f32.abs (u.get .AX_YAW 0)) 0x3CA3D70A = true → f32.le (f32.abs (u.get .AX_ACC i)) 0x48FA0000 = true →
          u.flag AX_GNSS_CORR_W i = true → u.wheelOk i = true → f32.le f1000 (f32.abs (u.axObs.srcSpeed i 0)) = true →
        t.get .AX_CORR_W i = f32.clamp 0x3F4CCCCD 0x3F99999A (f32.add (u.get .AX_CORR_W i) (f32.mul (f32.sub (f32.div
          (u.axObs.srcSpeed i 2) (u.axObs.srcSpeed i 0)) (u.get .AX_CORR_W i)) 0x3D800000))) ∧
            (∀ i : Fin 32, u.axEn i = true → u.axType i = 0 → (u.ax i).chgTick ≠ u.tick + 1 → u.gnssOk i = true →
              f32.le f1000 (f32.abs (u.axObs.srcSpeed i 2)) = true →
        f32.le (f32.abs (u.get .AX_YAW 0)) 0x3CA3D70A = true → f32.le (f32.abs (u.get .AX_ACC i)) 0x48FA0000 = true →
          u.flag AX_GNSS_CORR_R i = true → u.radarOk i = true → f32.le f1000 (f32.abs (u.axObs.srcSpeed i 1)) = true →
        t.get .AX_CORR_R i = f32.clamp 0x3F4CCCCD 0x3F99999A (f32.add (u.get .AX_CORR_R i) (f32.mul (f32.sub (f32.div
          (u.axObs.srcSpeed i 2) (u.axObs.srcSpeed i 1)) (u.get .AX_CORR_R i)) 0x3D800000))) ∧
            (∀ i : Fin 32, u.axEn i = false ∨ u.flag AX_GNSS_CORR_W i = false ∨ u.wheelOk i = false ∨ u.gnssOk i =
              false → t.get .AX_CORR_W i = u.get .AX_CORR_W i) ∧
                (∀ i : Fin 32, u.axEn i = false ∨ u.flag AX_GNSS_CORR_R i = false ∨ u.radarOk i = false ∨ u.gnssOk i
                  = false → t.get .AX_CORR_R i = u.get .AX_CORR_R i)) ∧
  (Arrives (.slipCorrectionUpdate) (fun u => u.Tn % 200000000 ≠ 0)
    [] fun u t =>
      t.axes = u.axes)

/-- A committed host fix is taken in and counted, or answered with its refusal code (model choices: log 113). What
rests on log 113 is the model's choice. (R144) -/
def Obligations.HostFix : Prop :=
  (∀ (m : Fin 8), Serves (.gmFixGo m) m .GM_FIX_GO 0 (fun u => u.fixCode (u.fixWord m) = 0 ∧
    bitsOf (u.fixWord m 0) 31 28 ≠ 3 ∧ (SMap.get (0, 0) u.rates 20).2 < 100)
    [(.GM_FIX_RES, m.val)] fun u t =>
      t.fld GM_FIX_RES_CODE m = 0 ∧
        t.fld GM_FIX_RES_SEQ m = (u.fld GM_FIX_RES_SEQ m + 1) % 2 ^ (GM_FIX_RES_SEQ.hi + 1 - GM_FIX_RES_SEQ.lo)) ∧
  (∀ (m : Fin 8), Serves (.gmFixGo m) m .GM_FIX_GO 0 (fun u => u.fixCode (u.fixWord m) = 0 ∧
    bitsOf (u.fixWord m 0) 31 28 = 3 ∧ (SMap.get (0, 0) u.rates 1).2 < 1000)
    [(.GM_FIX_RES, m.val)] fun u t =>
      t.fld GM_FIX_RES_CODE m = 0 ∧
        t.fld GM_FIX_RES_SEQ m = (u.fld GM_FIX_RES_SEQ m + 1) % 2 ^ (GM_FIX_RES_SEQ.hi + 1 - GM_FIX_RES_SEQ.lo) ∧
          t.yaw.host = some (u.fixWord m 5, u.nowClk - 200 * bitsOf (u.fixWord m 0) 23 0) ∧ t.geo = u.geo) ∧
  (∀ (m : Fin 8) (n : Nat) (s : State), let u := s.meets m .GM_FIX_GO 0
    2 ≤ m.val → s.mayWrite m .GM_FIX_GO 0 = true → u.fixCode (u.fixWord m) = 0 → bitsOf (u.fixWord m 0) 31 28 ≠ 3 →
    SMap.get (0, 0) u.rates 20 = (u.nowClk / 200000000, n) → 100 ≤ n →
    ∃ w t, exec (.gmFixGo m) s = .next w ∧ w.resp = [.error] ∧ t = w.settled ∧ t.fld GM_FIX_RES_CODE m = 4 ∧
      t.fld GM_FIX_RES_SEQ m = u.fld GM_FIX_RES_SEQ m ∧ t.geo = u.geo ∧ t.pends 77 = true ∧ ¬ t.promised) ∧
  (∀ (m : Fin 8) (s : State), let u := s.meets m .GM_FIX_GO 0
    2 ≤ m.val → s.mayWrite m .GM_FIX_GO 0 = true → u.fixCode (u.fixWord m) ≠ 0 →
    ∃ w t, exec (.gmFixGo m) s = .next w ∧ w.resp = [.error] ∧ t = w.settled ∧
      t.fld GM_FIX_RES_CODE m = u.fixCode (u.fixWord m) ∧
      t.fld GM_FIX_RES_SEQ m = u.fld GM_FIX_RES_SEQ m ∧ State.only [(.GM_FIX_RES, m.val)] u t)

/-- Lanes are enabled, disabled, flushed and given delays as written. (R104, R107, R119, R134) -/
def Obligations.LaneCommands : Prop :=
  (∀ (m : Fin 8) (n : Fin 256) (v : Word), Serves (.laneEnable m (n.castLE (by decide)) v) m .LN_CFG n (fun u =>
    u.lnCfgErr n (u.merged m .LN_CFG n (v ||| 1#32)) = false)
    ([(.LN_CFG, n.val)] ++ evtRegs 53) fun u t =>
      t.lnEn n = true ∧ t.get .LN_CFG n = u.merged m .LN_CFG n (v ||| 1#32) ∧ (t.lane n).fill = (u.lane n).fill) ∧
  (∀ (m : Fin 8) (n : Fin 512) (v : Word), Serves (.laneEnable m ⟨256 + n, by omega⟩ v) m .LN_RCFG n (fun u =>
    u.lnRcfgErr (256 + n) (u.merged m .LN_RCFG n (v ||| 1#32)) = false)
    ([(.LN_RCFG, n.val)] ++ evtRegs 53) fun u t =>
      t.lnEn (256 + n) = true ∧ t.lnForce (256 + n) = u.lnForce (256 + n)) ∧
  (∀ (m : Fin 8) (n : Fin 256) (v : Word), Serves (.laneDisable m (n.castLE (by decide)) v) m .LN_CFG n (fun u =>
    u.lnEn n = true ∧ u.lnCfgErr n (u.merged m .LN_CFG n (v &&& ~~~1#32)) = false)
    ([(.LN_CFG, n.val), (.LN_CNT_FLUSH, 0)] ++ evtRegs 53) fun u t =>
      t.lnEn n = false ∧ (t.lane n).fill = 0 ∧ t.lnDemand n = u.lnDemand n ∧
        (t.get .LN_CNT_FLUSH 0).toNat = min ((u.get .LN_CNT_FLUSH 0).toNat + (u.lane n).fill) (2 ^ 32 - 1)) ∧
  (∀ (m : Fin 8) (n : Fin 512) (v : Word), Serves (.laneDisable m ⟨256 + n, by omega⟩ v) m .LN_RCFG n (fun u =>
    u.lnEn (256 + n) = true ∧ u.lnRcfgErr (256 + n) (u.merged m .LN_RCFG n (v &&& ~~~1#32)) = false)
    ([(.LN_RCFG, n.val), (.LN_CNT_FLUSH, 0)] ++ evtRegs 53) fun u t =>
      t.lnEn (256 + n) = false ∧ (t.lane (256 + n)).fill = 0 ∧
        (t.get .LN_CNT_FLUSH 0).toNat = min ((u.get .LN_CNT_FLUSH 0).toNat + (u.lane (256 + n)).fill) (2 ^ 32 - 1)) ∧
  (∀ (m : Fin 8) (k : Fin 8) (v : Word), Serves (.lnFlush m (k.castLE (by decide)) v) m .LN_FLUSH k (fun _ => True)
    [(.LN_CNT_FLUSH, 0)] fun u t =>
      (∀ b : Fin 32, bitAt v b = true → (t.lane (32 * k + b)).fill = 0) ∧
        (∀ n : Fin 256, (n.val / 32 ≠ k ∨ bitAt v (n % 32) = false) → t.lane n = u.lane n)) ∧
  (∀ (m : Fin 8) (k : Fin 16) (v : Word), Serves (.lnFlush m ⟨8 + k, by omega⟩ v) m .LN_RFLUSH k (fun _ => True)
    [(.LN_CNT_FLUSH, 0)] fun u t =>
      (∀ b : Fin 32, bitAt v b = true → (t.lane (256 + 32 * k + b)).fill = 0) ∧
        (∀ n : Fin 512, (n.val / 32 ≠ k ∨ bitAt v (n % 32) = false) → t.lane (256 + n) = u.lane (256 + n))) ∧
  (∀ (m : Fin 8) (n : Fin 256) (v : Word), Serves (.lnDelayWrite m n true v) m .LN_DON n (fun _ => True)
    ([] ++ evtRegs 53) fun u t =>
      (t.lane n).e8On = 8 * bitsOf v 20 0 ∧ (t.lane n).rejOn = 0 ∧ (t.lane n).e8Off = (u.lane n).e8Off) ∧
  (∀ (m : Fin 8) (n : Fin 256) (v : Word), Serves (.lnDelayWrite m n false v) m .LN_DOFF n (fun _ => True)
    ([] ++ evtRegs 53) fun u t =>
      (t.lane n).e8Off = 8 * bitsOf v 20 0 ∧ (t.lane n).rejOff = 0 ∧ (t.lane n).e8On = (u.lane n).e8On)

/-- A committed mark joins its lane at the tail or is refused; the head that is due fires, with the force bits set
before it (model choices: log 31). What rests on log 31 is the model's choice. (R105, R106, R108, R109, R110, R111,
R114, R115, R122, R125) -/
def Obligations.MarksArePushed : Prop :=
  (∀ (m : Fin 8) (v : Word) (s : State), let u := s.meets m .LN_PUSH_GO 0
    let n := bitsOf v 9 0
    let k : Mark := ⟨u.get .LN_PUSH0 m, u.get .LN_PUSH1 m, u.get .LN_PUSH2 m, u.get .LN_PUSH3 m⟩
    let l := lnSlot n (((u.lane n).head + (u.lane n).fill) % lnDepth n)
    s.mayWrite m .LN_PUSH_GO 0 = true →
      u.pushCode n k (markTarget k.arg.toNat) (u.markRight (Access.of m) k.arg.toNat) = 0 →
    (u.lane n).flushDue = false →
    ∃ w t, exec (.lnPushGo m v) s = .next w ∧ w.resp = [.ok 0#32] ∧ t = w.settled ∧
      (t.lane n).fill = (u.lane n).fill + 1 ∧
      t.fld LN_PUSH_RES_CODE m = 0 ∧
      t.fld LN_PUSH_RES_SEQ m = (u.fld LN_PUSH_RES_SEQ m + 1) % 2 ^ (LN_PUSH_RES_SEQ.hi + 1 - LN_PUSH_RES_SEQ.lo) ∧
      t.rdWord l = k.w0 ∧ t.rdWord (l + 4) = putBit k.w1 10 false ∧ t.rdWord (l + 8) = k.arg ∧
        t.rdWord (l + 12) = k.data ∧
      State.regsOnly [(.LN_PUSH_RES, m.val)] u t ∧ ∀ a, (a < l ∨ l + 16 ≤ a) → t.rdByte a = u.rdByte a) ∧
  (∀ (m : Fin 8) (v : Word) (s : State), let u := s.meets m .LN_PUSH_GO 0
    let n := bitsOf v 9 0
    let k : Mark := ⟨u.get .LN_PUSH0 m, u.get .LN_PUSH1 m, u.get .LN_PUSH2 m, u.get .LN_PUSH3 m⟩
    let c := u.pushCode n k (markTarget k.arg.toNat) (u.markRight (Access.of m) k.arg.toNat)
    2 ≤ m.val → s.mayWrite m .LN_PUSH_GO 0 = true → c ≠ 0 → c ≠ 6 →
    ∃ w t, exec (.lnPushGo m v) s = .next w ∧ w.resp = [.error] ∧ t = w.settled ∧ t.fld LN_PUSH_RES_CODE m = c ∧
      t.lane n = u.lane n ∧
      State.only [(.LN_PUSH_RES, m.val)] u t) ∧
  (∀ (n : Fin 768) (s : State), 
    let t := State.forceUpdate s
    t.lnForce n = s.lnForced n ∧ t.lnDemand n = s.lnDemand n) ∧
  (∀ (n : Fin 768) (s : State) (f : Fire), s.lnTest n = some f ↔
    s.lnEn n = true ∧ (s.lane n).fill ≠ 0 ∧ f.lane = n ∧
      f.past = State.markPast (s.headMark n) (s.predict n (s.markLead n (s.headMark n))) ∧
      0 ≤ f.past ∧ (f.late = true ↔ (s.lane n).tested = false ∧
        0 ≤ State.markPast (s.headMark n) (s.predictPrev n (s.markLead n (s.headMark n))))) ∧
  (∀ (n : Fin 768) (d : Int) (s : State), mkAct (s.headMark n) = 1 ∨ mkAct (s.headMark n) = 2 → 
    let t := State.fireMark (fun a v => State.markedWrite a.toNat v) ⟨n, false, d⟩ s
    t.lane n =
      { s.lane n with head := ((s.lane n).head + 1) % lnDepth n, fill := (s.lane n).fill - 1, tested := false } ∧
        t.get .LN_CNT_FIRE 0 = s.get .LN_CNT_FIRE 0 + 1#32 ∧ t.lnDemand n = decide (mkAct (s.headMark n) = 1) ∧
          (∀ k : Fin 768, k.val ≠ n → t.lnDemand k = s.lnDemand k) ∧
            State.only ([(.LN_CNT_FIRE, 0)] ++ (if n.val < 256 then [(.LN_CMD, n.val / 32)] else [(.LN_RCFG, n.val -
              256)])) s t) ∧
  (∀ (n : Fin 256) (d : Int) (s : State), mkAct (s.headMark n) = 5 → 
    let t := State.fireMark (fun a v => State.markedWrite a.toNat v) ⟨n, false, d⟩ s
    t.lane n =
      { s.lane n with head := ((s.lane n).head + 1) % lnDepth n, fill := (s.lane n).fill - 1, tested := false } ∧
        t.get .LN_CNT_FIRE 0 = s.get .LN_CNT_FIRE 0 + 1#32 ∧ t.pends (56 + bitsOf (s.headMark n).arg 2 0) = true ∧
          State.only ([(.LN_CNT_FIRE, 0)] ++ (List.range 8).flatMap fun e => evtRegs (56 + e)) s t) ∧
  (∀ (n : Fin 256) (d : Int) (i : Fin 32) (s : State), mkAct (s.headMark n) = 8 →
    (s.headMark n).arg = BitVec.ofNat 32 (regAddr .AX_STEP i) → s.axEn i = true → s.axType i = 6 →
      s.flag PAGE_STAT_DRST_BUSY (regPage .AX_STEP i) = false → 
    let t := State.fireMark (fun a v => State.markedWrite a.toNat v) ⟨n, false, d⟩ s
    t.lane n =
      { s.lane n with head := ((s.lane n).head + 1) % lnDepth n, fill := (s.lane n).fill - 1, tested := false } ∧
        t.get .LN_CNT_FIRE 0 = s.get .LN_CNT_FIRE 0 + 1#32 ∧
          (t.ax i).stepDue = (s.ax i).stepDue + wint (s.headMark n).data ∧ State.only ([(.LN_CNT_FIRE, 0)]) s t) ∧
  (∀ (n : Fin 256) (d : Int) (i : Fin 32) (s : State), mkAct (s.headMark n) = 8 →
    (s.headMark n).arg = BitVec.ofNat 32 (regAddr .AX_STEP i) →
      s.flag PAGE_STAT_DRST_BUSY (regPage .AX_STEP i) = true → 
    let t := State.fireMark (fun a v => State.markedWrite a.toNat v) ⟨n, false, d⟩ s
    t.lane n =
      { s.lane n with head := ((s.lane n).head + 1) % lnDepth n, fill := (s.lane n).fill - 1, tested := false } ∧
        t.get .LN_CNT_FIRE 0 = s.get .LN_CNT_FIRE 0 + 1#32 ∧ t.pends 55 = true ∧ t.axes = s.axes ∧
          State.only ([(.LN_CNT_FIRE, 0), (.LN_CNT_ERR, 0)] ++ evtRegs 55) s t) ∧
  (∀ (n : Fin 768) (d : Int) (s : State), mkAct (s.headMark n) = 0 → 
    let t := State.fireMark (fun a v => State.markedWrite a.toNat v) ⟨n, true, d⟩ s
    t.lane n =
      { s.lane n with head := ((s.lane n).head + 1) % lnDepth n, fill := (s.lane n).fill - 1, tested := false } ∧
        t.get .LN_CNT_FIRE 0 = s.get .LN_CNT_FIRE 0 + 1#32 ∧
          (if n.val < 256 then t.rbit .LN_LATE (n.val / 32) (n.val % 32) else t.rbit .LN_RLATE ((n.val - 256) / 32)
            (n.val % 32)) = true ∧ t.pends 48 = true ∧
              t.get .LN_LLOG_SHORT 0 = BitVec.ofNat 32 (min d.toNat (2 ^ 32 - 1)) ∧ ¬ t.promised ∧
                State.only (ofInst [.LN_CNT_FIRE, .LN_LLOG_LANE, .LN_LLOG_SHORT, .LN_LLOG_TIME_LO, .LN_LLOG_TIME_HI,
                  .LN_CNT_ERR, .MOD_FAULT] 0 ++ evtRegs 48 ++ ofAll [.LN_LATE] 8 ++ ofAll [.LN_RLATE] 16) s t)

/-- A measured delay seeds, moves or is tested against the estimate of its direction. (R118, R119, R120) -/
def Obligations.LeadLearning : Prop :=
  (∀ (n : Fin 256) (d : Bool) (q : Nat) (k : Nat) (r : List (Bool × Nat × Nat)), Arrives (.leadMeasurement n) (fun u
    => (u.lane n).reports = (d, q, k) :: r ∧ k ≤ u.tick ∧ u.lnHold n = false)
    ([] ++ evtRegs 51 ++ evtRegs 52 ++ evtRegs 53) fun u t =>
      (t.lane n).reports = r ∧ (u.leadE n d = 0 → t.leadE n d = 8 * q ∧ t.leadR n d = 0) ∧ (u.leadE n d ≠ 0 →
        16 * q < u.leadE n d ∨ u.leadE n d < 4 * q → u.leadR n d + 1 ≠ 8 → t.leadE n d = u.leadE n d ∧
          t.leadR n d = u.leadR n d + 1 ∧ t.pends 51 = true) ∧ (u.leadE n d ≠ 0 →
            16 * q < u.leadE n d ∨ u.leadE n d < 4 * q → u.leadR n d + 1 = 8 → t.leadE n d = 8 * q ∧
              t.leadR n d = 0 ∧ t.pends 51 = true ∧ t.pends 52 = true) ∧ (u.leadE n d ≠ 0 → u.leadE n d ≤ 16 * q →
                4 * q ≤ u.leadE n d → t.leadE n d = u.leadE n d + q - u.leadE n d / 8 ∧ t.leadR n d = 0) ∧
                  t.leadE n (!d) = u.leadE n (!d) ∧ t.leadR n (!d) = u.leadR n (!d)) ∧
  (∀ (n : Fin 256) (d : Bool) (q : Nat) (k : Nat) (r : List (Bool × Nat × Nat)), Arrives (.leadMeasurement n) (fun u
    => (u.lane n).reports = (d, q, k) :: r ∧ k ≤ u.tick ∧ u.lnHold n = true)
    [] fun u t =>
      t.lane n = { u.lane n with reports := r }) ∧
  (∀ (n : Fin 256), Arrives (.leadMeasurement n) (fun u => (u.lane n).reports.all (fun e => decide (u.tick < e.2.2))
    = true)
    [] fun u t =>
      t.lane n = u.lane n)

/-- Feedback channels and forwarding ports take their commands. (R200, R203, R204, R206, R211) -/
def Obligations.FeedbackCommands : Prop :=
  (∀ (m : Fin 8) (c : Fin 24) (v : Word), Serves (.fbEnable m c v) m .FB_CFG c (fun u => u.fbEn c = false ∧
    fbReject c (u.merged m .FB_CFG c (v ||| 1#32)) = 0)
    (ofInst [.FB_CFG, .FB_STAT, .FB_VEL, .FB_ACC, .FB_VP] c) fun u t =>
      t.fbEn c = true ∧ t.get .FB_CFG c = u.merged m .FB_CFG c (v ||| 1#32) ∧ t.fld FB_STAT_REJ c = 0 ∧
        t.get .FB_VEL c = 0#32 ∧ t.get .FB_ACC c = 0#32 ∧ t.get .FB_VP c = 0#32 ∧ t.flag FB_STAT_IDX_OK c = false ∧
          (t.fbc c).tEn = u.Tn ∧ (t.fbc c).n = (u.fbc c).n) ∧
  (∀ (m : Fin 8) (c : Fin 24) (v : Word), Serves (.fbEnable m c v) m .FB_CFG c (fun u => u.fbEn c = false ∧
    fbReject c (u.merged m .FB_CFG c (v ||| 1#32)) ≠ 0)
    (ofInst [.FB_CFG, .FB_STAT] c) fun u t =>
      t.fbEn c = false ∧ t.fld FB_STAT_REJ c = fbReject c (u.merged m .FB_CFG c (v ||| 1#32))) ∧
  (∀ (m : Fin 8) (c : Fin 24), Serves (.fbFclr m c) m .FB_CTRL c (fun u => u.flag FB_STAT_FAULT c = true)
    (ofInst [.FB_STAT, .FB_EVT] c ++ evtRegs (80 + c.val)) fun u t =>
      t.flag FB_STAT_FAULT c = false ∧ t.rbit .FB_EVT c 10 = true ∧ (t.fbc c).blkN = 0 ∧ (t.fbc c).blkErr = 0 ∧
        (u.rbit .FB_EVT_MASK c 10 = true → t.pends (80 + c) = true)) ∧
  (∀ (m : Fin 8) (c : Fin 24), Serves (.fbFclr m c) m .FB_CTRL c (fun u => u.flag FB_STAT_FAULT c = false)
    [] fun u t =>
      t.fbs = u.fbs) ∧
  (∀ (m : Fin 8) (c : Fin 24), Serves (.fbCclr m c) m .FB_CTRL c (fun _ => True)
    (ofInst [.FB_CMP_CNT, .FB_ERRCNT] c) fun _ t =>
      t.get .FB_CMP_CNT c = 0#32 ∧ t.get .FB_ERRCNT c = 0#32) ∧
  (∀ (m : Fin 8) (c : Fin 24) (v : Word), Serves (.fbCmpWrite m c false v) m .FB_CMP c (fun u => u.flag
    FB_CMP_CFG_CMP_EN c = false ∨ u.flag FB_CMP_CFG_AUTO c = false ∨ cmpAhead (u.flag FB_CMP_CFG_CMP_DIR c) (u.fbPos
      c) (wint v) = true)
    (ofInst [.FB_CMP] c) fun _ t =>
      t.get .FB_CMP c = v) ∧
  (∀ (m : Fin 8) (c : Fin 24) (v : Word), Serves (.fbCmpWrite m c false v) m .FB_CMP c (fun u => u.flag
    FB_CMP_CFG_CMP_EN c = true ∧ u.flag FB_CMP_CFG_AUTO c = true ∧
      cmpAhead (u.flag FB_CMP_CFG_CMP_DIR c) (u.fbPos c) (wint v) = false)
    (ofInst [.FB_CMP, .FB_CMP_CNT, .FB_EVT] c ++ evtRegs (80 + c.val)) fun u t =>
      t.get .FB_CMP c = intw (wint v + (if u.flag FB_CMP_CFG_CMP_DIR c then -1 else 1) * ((((signed 32 (unsig 32
        (wint v - u.fbPos c))).natAbs) / (u.get .FB_CMP_SPACE c).toNat + 1) * (u.get .FB_CMP_SPACE c).toNat : Nat)) ∧
          t.fld FB_CMP_CNT_SKIP c = min (u.fld FB_CMP_CNT_SKIP c + (((signed 32 (unsig 32 (wint v - u.fbPos
            c))).natAbs) / (u.get .FB_CMP_SPACE c).toNat + 1)) 65535 ∧ t.rbit .FB_EVT c 5 = true) ∧
  (∀ (m : Fin 8) (c : Fin 24) (v : Word), Serves (.fbCmpWrite m c true v) m .FB_CMP_CFG c (fun _ => bitAt v 0 = false
    ∨ bitAt v 2 = false)
    (ofInst [.FB_CMP_CFG] c) fun u t =>
      t.get .FB_CMP_CFG c = u.merged m .FB_CMP_CFG c v) ∧
  (∀ (m : Fin 8) (n : Fin 8) (v : Word), Serves (.fwdCfgWrite m n v) m .FWD_CFG n (fun _ => bitsOf v 2 0 ≤ 4)
    (ofInst [.FWD_CFG] n) fun u t =>
      t.get .FWD_CFG n = u.merged m .FWD_CFG n v ∧
        (t.fwd n).next.getLast? = some (u.tick + 2, (decide (bitsOf (u.get .FWD_CFG n) 2 0 ≠ bitsOf v 2 0 ∨ bitsOf
          (u.get .FWD_CFG n) 12 8 ≠ bitsOf v 12 8 ∨ bitsOf (u.get .FWD_CFG n) 13 13 ≠ bitsOf v 13 13) || (u.fwd
            n).next.any fun e => e.1 == u.tick + 2 && e.2.1), u.merged m .FWD_CFG n v) ∧ (∀ e, e.1 ≠ u.tick + 2 →
              (e ∈ (t.fwd n).next ↔ e ∈ (u.fwd n).next))) ∧
  (∀ (n : Fin 8) (T : Nat) (dx : Int) (s : State), 
    let t := State.fwdEmulate n T dx s
    (t.fwd n).phase = (s.fwd n).phase + (((s.fwd n).holdN.getD (s.fld FWD_EMU_PPHM n) : Nat) : Int) * dx ∧ (dx = 0 →
      t.fwd n = s.fwd n) ∧ (s.fwdFmt n = true →
        (t.fwd n).quad = ((s.fwd n).quad + (if 0 ≤ (((s.fwd n).holdN.getD (s.fld FWD_EMU_PPHM n) : Nat) : Int) * dx
          then 1 else 3) * (crossings (if s.fwdFmt n then 25600000 else 51200000) (s.fwd n).phase ((s.fwd n).phase +
            (((s.fwd n).holdN.getD (s.fld FWD_EMU_PPHM n) : Nat) : Int) * dx)).length) % 4) ∧ (∀ j, j ≠ n.val →
              t.fwd j = s.fwd j) ∧ State.only ([]) s t)

/-- Edges move and stamp a channel, blanking ends, SSI transactions run and the observer steps as their rules say
(model choices: logs 23 and 144). What rests on logs 23 and 144 is the model's choice. (R184, R186, R190, R191, R192,
R193, R196, R201) -/
def Obligations.FeedbackEvents : Prop :=
  (∀ (c : Fin 24) (o : Fin 2000) (ta : Option Nat) (tb : Option Nat) (tz : Option Nat) (a : Bool) (b : Bool) (z :
    Bool), Arrives (.feedbackEdge c o ta tb tz) (fun u => u.deaf = false ∧ u.fbEn c = false ∧
      u.filtered c ta tb tz = (a, b, z))
    (ofInst [.FB_STAT] c) fun u t =>
      t.fld FB_STAT_LVL c = (u.fld FB_STAT_LVL c) ^^^ (b2n a + 2 * b2n b + 4 * b2n z) ∧ (t.fbc c).n = (u.fbc c).n ∧
        (t.fbc c).te = (u.fbc c).te) ∧
  (∀ (c : Fin 24) (o : Fin 2000) (h : Nat), Arrives (.feedbackEdge c o (some h) none none) (fun u => u.deaf = false ∧
    u.fld FB_FILT_FILT c < h ∧ (u.fbc c).rawA = false ∧ u.fbEn c = true ∧ u.fbMode c = 3 ∧ u.fld FB_CFG_RES c = 0 ∧
      u.fld FB_STAT_LVL c % 2 = 0 ∧ u.flag FB_CMP_CFG_CMP_EN c = false ∧ (u.fbc c).msN < 4000 ∧ u.fbAllN < 24000 ∧
        (u.fbc c).blkN < 1023)
    (ofInst [.FB_STAT, .FB_POS, .FB_VP, .FB_EDGE_TIME_LO, .FB_EDGE_TIME_HI] c) fun u t =>
      t.get .FB_POS c = intw ((u.fbc c).n + 1) ∧ (t.fbc c).n = (u.fbc c).n + 1 ∧ (t.fbc c).te = u.clk o ∧
        t.get .FB_EDGE_TIME_LO c = loW (u.clk o) ∧ t.get .FB_EDGE_TIME_HI c = hiW (u.clk o) ∧
          t.flag FB_STAT_STALE c = false ∧ t.flag FB_STAT_DIR c = false ∧ (t.fbc c).rawA = false) ∧
  (∀ (c : Fin 24) (o : Fin 2000) (h : Nat), Arrives (.feedbackEdge c o (some h) none none) (fun u => h ≤ u.fld
    FB_FILT_FILT c ∨ (u.fbc c).rawA = true)
    [] fun u t =>
      t.fbc c = { u.fbc c with rawA := !u.deaf && !(u.fbc c).rawA || u.deaf && (u.fbc c).rawA } ∧ (∀ j, j ≠ c.val →
        t.fbc j = u.fbc j)) ∧
  (∀ (c : Fin 24) (a : Bool), Arrives (.blankingEnd c a) (fun u => ((u.fbc c).blankEnd.any fun e => decide (e <
    u.Tn)) = true ∧ u.fbEn c = true ∧ u.fbMode c = 4 ∧ (decide (u.fld FB_STAT_LVL c % 2 = 1)) = a ∧
      (u.fbc c).accA ≠ a)
    (ofInst [.FB_POS, .FB_EDGE_TIME_LO, .FB_EDGE_TIME_HI] c) fun u t =>
      (t.fbc c).accA = a ∧ (t.fbc c).te = (u.fbc c).blankEnd.getD 0 ∧ (t.fbc c).n = (u.fbc c).n + b2n a) ∧
  (∀ (c : Fin 24) (a : Bool), Arrives (.blankingEnd c a) (fun u => ((u.fbc c).blankEnd.any fun e => decide (e <
    u.Tn)) = true ∧ (decide (u.fld FB_STAT_LVL c % 2 = 1)) = a ∧ (u.fbc c).accA = a)
    [] fun _ t =>
      (t.fbc c).blankEnd = none ∧ (t.fbc c).accA = a) ∧
  (∀ (c : Fin 24) (a : Bool), Arrives (.blankingEnd c a) (fun u => (u.fbc c).blankEnd.all (fun e => decide (u.Tn ≤
    e)) = true)
    [] fun u t =>
      t.fbs = u.fbs) ∧
  (∀ (c : Fin 24), Arrives (.fbChannelStale c) (fun u => u.fbEn c = true ∧ u.fbMode c ≠ 4 ∧
    u.fld FB_OBS_STALE_MS c ≠ 0 ∧ u.flag FB_STAT_STALE c = false ∧
      (u.fbc c).te + 200000 * u.fld FB_OBS_STALE_MS c ≤ u.Tn)
    (ofInst [.FB_STAT, .FB_VEL, .FB_ACC, .FB_EVT] c ++ evtRegs (80 + c.val)) fun u t =>
      t.flag FB_STAT_STALE c = true ∧ t.get .FB_VEL c = 0#32 ∧ t.get .FB_ACC c = 0#32 ∧ t.rbit .FB_EVT c 6 = true ∧
        (u.rbit .FB_EVT_MASK c 6 = true → t.pends (80 + c) = true)) ∧
  (∀ (c : Fin 24), Acts (.ssiTransactionStart c) (fun u => u.fbEn c = true ∧ u.fbMode c = 5 ∧ (u.fbc c).tEn ≤ u.T ∧
    (u.tick - (u.fbc c).tEn / 2000) % u.fld FB_SSI2_PERIOD c = 0 ∧
      ((u.fbc c).ssi.endT.all fun e => decide (e + 200 * u.fld FB_SSI_TM c ≤ u.Tn)) = true)
    [] fun u t =>
      (t.fbc c).ssi.busy = true ∧ (t.fbc c).ssi.latch = u.Tn) ∧
  (∀ (c : Fin 24), Acts (.ssiTransactionStart c) (fun u => u.fbEn c = true ∧ u.fbMode c = 5 ∧ (u.fbc c).tEn ≤ u.T ∧
    (u.tick - (u.fbc c).tEn / 2000) % u.fld FB_SSI2_PERIOD c = 0 ∧
      ((u.fbc c).ssi.endT.any fun e => decide (u.Tn < e + 200 * u.fld FB_SSI_TM c)) = true)
    (ofInst [.FB_ERRCNT] c) fun u t =>
      t.fld FB_ERRCNT_QERR c = min (u.fld FB_ERRCNT_QERR c + 1) 65535 ∧ (t.fbc c) = (u.fbc c)) ∧
  (∀ (c : Fin 24) (w : Word) (b : Bool), Arrives (.ssiSample c w false b) (fun u => u.deaf = false ∧
    u.fbEn c = true ∧ u.fbMode c = 5 ∧ (u.fbc c).ssi.busy = true ∧ (u.fbc c).ssi.latch + u.ssiTime c < u.Tn)
    (ofInst [.FB_STAT, .FB_EVT, .FB_ERRCNT] c ++ evtRegs (80 + c.val)) fun u t =>
      (t.fbc c).ssi.busy = false ∧ t.flag FB_STAT_SSI_OK c = false ∧ t.get .FB_POS c = u.get .FB_POS c ∧
        t.rbit .FB_EVT c 7 = true ∧ t.fld FB_ERRCNT_HALL c = min (u.fld FB_ERRCNT_HALL c + 1) 65535) ∧
  (∀ (c : Fin 24) (w : Word), Arrives (.ssiSample c w true false) (fun u => u.deaf = false ∧ u.fbEn c = true ∧
    u.fbMode c = 5 ∧ (u.fbc c).ssi.busy = true ∧ (u.fbc c).ssi.latch + u.ssiTime c < u.Tn ∧
      u.fld FB_SSI2_JMAX c = 0 ∧ u.flag FB_CMP_CFG_CMP_EN c = false)
    (ofInst [.FB_STAT, .FB_POS, .FB_SSI_RAW, .FB_VP, .FB_EDGE_TIME_LO, .FB_EDGE_TIME_HI] c) fun u t =>
      (t.fbc c).ssi.busy = false ∧ t.flag FB_STAT_SSI_OK c = true ∧ (t.fbc c).ssi.rejects = 0 ∧
        t.get .FB_SSI_RAW c = BitVec.ofNat 32 (if u.flag FB_SSI_GRAY c then grayToBin (u.fld FB_SSI_BITS c) (w.toNat
          % 2 ^ u.fld FB_SSI_BITS c) else w.toNat % 2 ^ u.fld FB_SSI_BITS c)) ∧
  (∀ (T : Nat) (c : Fin 24) (s : State), s.fbEn c = true → s.fbMode c ≠ 4 → 
    let t := State.fbObserve T c s
    t.get .FB_VEL c = f32.add (f32.add (s.get .FB_VEL c) (f32.mul (s.get .FB_ACC c) dt10us)) (f32.mul (s.fbc c).g2
      (f32.ofRat (s.fbResidual c T ((s.fbc c).xh + f32.toInt (f32.add (f32.mul (s.get .FB_VEL c) dt10us) (f32.mul
        (f32.mul half (s.get .FB_ACC c)) (f32.mul dt10us dt10us))) 16)) (65536 * spanDen (f32.abs (s.get .FB_VP
          c))))) ∧ t.get .FB_ACC c = f32.add (s.get .FB_ACC c) (f32.mul (s.fbc c).g3 (f32.ofRat (s.fbResidual c T
            ((s.fbc c).xh + f32.toInt (f32.add (f32.mul (s.get .FB_VEL c) dt10us) (f32.mul (f32.mul half (s.get
              .FB_ACC c)) (f32.mul dt10us dt10us))) 16)) (65536 * spanDen (f32.abs (s.get .FB_VP c))))) ∧
                (t.fbc c).xh = ((s.fbc c).xh + f32.toInt (f32.add (f32.mul (s.get .FB_VEL c) dt10us) (f32.mul
                  (f32.mul half (s.get .FB_ACC c)) (f32.mul dt10us dt10us))) 16) + f32.toInt (f32.mul (s.fbc c).g1
                    (f32.ofRat (s.fbResidual c T ((s.fbc c).xh + f32.toInt (f32.add (f32.mul (s.get .FB_VEL c)
                      dt10us) (f32.mul (f32.mul half (s.get .FB_ACC c)) (f32.mul dt10us dt10us))) 16)) (65536 *
                        spanDen (f32.abs (s.get .FB_VP c))))) 16 ∧ State.only (ofInst [.FB_VEL, .FB_ACC] c) s t)

/-- A slice is enabled or refused; duties and commits reach its stage two ticks on; its counters clear. (R243, R245,
R248, R258) -/
def Obligations.SliceCommands : Prop :=
  (∀ (m : Fin 8) (n : Fin 128) (v : Word), Serves (.sliceEnable m n v) m .VS_CFG n (fun u => u.vsEn n = false ∧
    u.vsReject n (u.merged m .VS_CFG n (v ||| 1#32)) = 0)
    (ofInst [.VS_CFG, .VS_STAT] n.val) fun u t =>
      t.get .VS_CFG n = u.merged m .VS_CFG n (v ||| 1#32) ∧ t.vsEn n = true ∧ t.fld VS_STAT_REJ n = 0 ∧
        (t.slice n).from' = max (u.slice n).from' (u.tick + 3) ∧ (t.slice n).out = (u.slice n).out) ∧
  (∀ (m : Fin 8) (n : Fin 128) (v : Word), Serves (.sliceEnable m n v) m .VS_CFG n (fun u => u.vsEn n = false ∧
    u.vsReject n (u.merged m .VS_CFG n (v ||| 1#32)) ≠ 0)
    (ofInst [.VS_CFG, .VS_STAT] n.val ++ evtRegs 134) fun u t =>
      t.vsEn n = false ∧ t.fld VS_STAT_REJ n = u.vsReject n (u.merged m .VS_CFG n (v ||| 1#32)) ∧
        t.pends 134 = true ∧ t.slices = u.slices) ∧
  (∀ (m : Fin 8) (n : Fin 128) (v : Word), Serves (.vsDutyWrite m n v) m .VS_DUTY n (fun _ => True)
    (ofInst [.VS_DUTY] n.val) fun u t =>
      t.get .VS_DUTY n = v &&& 0xFFFF#32 ∧
        (t.slice n).sh.ups = (u.slice n).sh.ups ++ [(2000 * (u.tick + 3), .duty (bitsOf v 15 0) false)]) ∧
  (∀ (m : Fin 8) (n : Fin 128), Serves (.vsCommit m n) m .VS_CTRL n (fun _ => True)
    [] fun u t =>
      (t.slice n).sh.ups = (u.slice n).sh.ups ++ [(2000 * (u.tick + 3), .commit)]) ∧
  (∀ (m : Fin 8) (n : Fin 128), Serves (.vsCclr m n) m .VS_CTRL n (fun _ => True)
    (ofInst [.VS_CNT] n.val) fun u t =>
      t.get .VS_CNT n = 0#32 ∧ t.slices = u.slices)

/-- A period starts with the values in effect, or with the shadows that are pending or committed, and the pulse begins
with it. (R244, R245, R248) -/
def Obligations.SliceReloads : Prop :=
  (∀ (n : Fin 128) (x : Nat), Arrives (.sliceReload n) (fun u => u.sliceNext n = some x ∧ u.vsMode n = 1 ∧
    (u.slice n).sh.ups = [] ∧ (u.vsPaired n = false ∨ (u.slice n).sh.commit = true) ∧ (u.slice n).sh.per < 2 ^ 32 ∧
      (u.slice n).sh.on < 2 ^ 32)
    (ofInst [.VS_ON, .VS_PER_ACT, .VS_STAT, .VS_CNT] n.val ++ [(.VS_CLIP, n.val / 16)] ++ evtRegs 128) fun u t =>
      t.get .VS_PER_ACT n = (if (u.slice n).sh.pendP || (u.slice n).sh.commit then BitVec.ofNat 32 (u.slice n).sh.per
        else u.get .VS_PER_ACT n) ∧
          t.get .VS_ON n = (if (u.slice n).sh.pendOn || (u.slice n).sh.commit then BitVec.ofNat 32 (u.slice n).sh.on
            else u.get .VS_ON n) ∧ (t.slice n).nextP = some (x + (t.get .VS_PER_ACT n).toNat) ∧
              (t.slice n).trainEnd = some (x + (t.get .VS_ON n).toNat) ∧
                ((t.get .VS_PER_ACT n).toNat ≤ (t.get .VS_ON n).toNat →
                  t.fld VS_CNT_CLIPS n = min (u.fld VS_CNT_CLIPS n + 1) (2 ^ (VS_CNT_CLIPS.hi + 1 - VS_CNT_CLIPS.lo)
                    - 1)) ∧ ((u.slice n).out = false → 0 < (t.get .VS_ON n).toNat → (t.slice n).out = true ∧
                      (t.slice n).edges = (u.slice n).edges ++ [(x, true)] ∧
                        t.fld VS_CNT_PULSES n = (u.fld VS_CNT_PULSES n + 1) % 2 ^ (VS_CNT_PULSES.hi + 1 -
                          VS_CNT_PULSES.lo)) ∧ (t.slice n).sh.pendP = false ∧ t.flag VS_STAT_PEND_ON n = false) ∧
  (∀ (n : Fin 128) (x : Nat), Arrives (.sliceReload n) (fun u => u.sliceNext n = some x ∧ u.vsMode n = 1 ∧
    (u.slice n).sh.ups = [] ∧ u.vsPaired n = true ∧ (u.slice n).sh.commit = false)
    (ofInst [.VS_ON, .VS_PER_ACT, .VS_STAT, .VS_CNT] n.val ++ [(.VS_CLIP, n.val / 16)] ++ evtRegs 128) fun u t =>
      t.get .VS_PER_ACT n = u.get .VS_PER_ACT n ∧ t.get .VS_ON n = u.get .VS_ON n ∧ (t.slice n).sh = (u.slice n).sh ∧
        (t.slice n).nextP = some (x + (t.get .VS_PER_ACT n).toNat)) ∧
  (∀ (n : Fin 128), Arrives (.sliceReload n) (fun u => u.sliceNext n = none)
    [] fun u t =>
      t.slices = u.slices)

/-- A bridge carrier starts or is refused, its periods follow on each other, and its commands act. (R248, R249, R250,
R258) -/
def Obligations.BridgePairs : Prop :=
  (∀ (m : Fin 8) (n : Fin 24) (v : Word), Serves (.bpEnable m n v) m .BP_CFG n (fun u => u.bpEn n = false ∧
    u.fld BP_DT_DT_R n + u.fld BP_DT_DT_F n < (u.get .BP_PERIOD n).toNat)
    (ofInst [.BP_CFG, .BP_STAT, .BP_ON, .BP_PER_ACT] n.val) fun u t =>
      t.bpEn n = true ∧ t.get .BP_CFG n = u.merged m .BP_CFG n (v ||| 1#32) ∧
        t.fld BP_STAT_REJ n = u.fld BP_STAT_REJ n ∧ t.get .BP_ON n = 0#32 ∧ t.get .BP_PER_ACT n = 0#32 ∧
          (t.pair n).nextP.isSome = true) ∧
  (∀ (m : Fin 8) (n : Fin 24) (v : Word), Serves (.bpEnable m n v) m .BP_CFG n (fun u => u.bpEn n = false ∧
    (u.get .BP_PERIOD n).toNat ≤ u.fld BP_DT_DT_R n + u.fld BP_DT_DT_F n)
    (ofInst [.BP_CFG, .BP_STAT] n.val ++ evtRegs 134) fun u t =>
      t.bpEn n = false ∧ t.fld BP_STAT_REJ n = 1 ∧ t.pends 134 = true ∧ t.pairs = u.pairs) ∧
  (∀ (n : Fin 24) (x : Nat), Arrives (.bridgePeriodStart n) (fun u => u.bpEn n = true ∧ (u.pair n).nextP = some x ∧
    x < u.Tn ∧ (u.pair n).sh.ups = [] ∧ u.bpPer n = 0)
    (ofInst [.BP_ON, .BP_PER_ACT, .BP_STAT, .BP_CNT] n.val ++ [(.BP_EVT, n.val / 6)] ++ evtRegs 129) fun u t =>
      (t.pair n).p0 = x ∧ t.get .BP_PER_ACT n = BitVec.ofNat 32 (u.pair n).sh.per ∧
        t.get .BP_ON n = BitVec.ofNat 32 (u.pair n).sh.on ∧ (t.pair n).nextP = some (x + (u.pair n).sh.per) ∧
          (t.pair n).sh.commit = false) ∧
  (∀ (n : Fin 24) (x : Nat), Arrives (.bridgePeriodStart n) (fun u => u.bpEn n = true ∧ (u.pair n).nextP = some x ∧
    x < u.Tn ∧ (u.pair n).sh.ups = [] ∧ u.bpPer n ≠ 0 ∧ (u.pair n).sh.per < 2 ^ 32 ∧ (u.pair n).sh.on < 2 ^ 32)
    (ofInst [.BP_ON, .BP_PER_ACT, .BP_STAT, .BP_CNT] n.val ++ [(.BP_EVT, n.val / 6)] ++ evtRegs 129) fun u t =>
      (t.pair n).p0 = x ∧ t.bpPer n = (if ((u.pair n).sh.pendP || (u.pair n).sh.commit) && !(u.bpPaired n && !(u.pair
        n).sh.commit) then (u.pair n).sh.per else u.bpPer n) ∧
          t.bpOn n = (if ((u.pair n).sh.pendOn || (u.pair n).sh.commit) && !(u.bpPaired n && !(u.pair n).sh.commit)
            then (u.pair n).sh.on else u.bpOn n) ∧ (t.pair n).nextP = some (x + t.bpPer n)) ∧
  (∀ (n : Fin 24), Arrives (.bridgePeriodStart n) (fun u => u.bpEn n = false ∨ (u.pair n).nextP = none)
    [] fun u t =>
      t.pairs = u.pairs) ∧
  (∀ (m : Fin 8) (n : Fin 24), Serves (.bpCommit m n) m .BP_CTRL n (fun _ => True)
    [] fun u t =>
      (t.pair n).sh.ups = (u.pair n).sh.ups ++ [(2000 * (u.tick + 3), .commit)]) ∧
  (∀ (m : Fin 8) (n : Fin 24), Serves (.bpCclr m n) m .BP_CTRL n (fun _ => True)
    (ofInst [.BP_CNT] n.val) fun u t =>
      t.get .BP_CNT n = 0#32 ∧ t.pairs = u.pairs)

/-- An enabled fault input latches and acts until it has left and is cleared. (R251, R252, R439) -/
def Obligations.FaultInputs : Prop :=
  (∀ (n : Fin 8) (o : Fin 2000), Arrives (.faultInputAssert n o) (fun u => u.deaf = false ∧
    u.flag PG_FLT_CFG_EN n = true ∧ u.rbit .PG_FLT_STAT 0 n = false ∧ u.rbit .PG_FLT_STAT 0 (8 + n) = false)
    ((List.range 16).flatMap groupRegs ++ ofAll [.BP_STAT] 24 ++ [(.PG_FLT_STAT, 0), (.PG_STAT, 0)] ++ [(.MOD_FAULT,
      0)] ++ evtRegs 130 ++ evtRegs 4) fun u t =>
      t.rbit .PG_FLT_STAT 0 n = true ∧ t.rbit .PG_FLT_STAT 0 (8 + n) = true ∧ (u.flag PG_FLT_CFG_BP_EN n = true →
        t.flag PG_STAT_FLT_HIZ 0 = true ∧ t.pends 130 = true ∧ ∀ i : Fin 24, t.bpHiz i = true) ∧
          (u.fld PG_FLT_CFG_VGMASK n ≠ 0 → t.pends 131 = true) ∧
            (∀ g : Fin 16, u.rbit .PG_FLT_CFG n (16 + g) = true → t.flag VG_STAT_FORCED g = true ∧
              t.flag VG_STAT_HS_ON g = false) ∧ (u.flag PG_FLT_CFG_BP_EN n = true ∨ u.fld PG_FLT_CFG_VGMASK n ≠ 0 →
                t.pends 4 = true ∧ bitAt (BitVec.ofNat 32 (t.fld MOD_FAULT_REACT 0)) 4 = true)) ∧
  (∀ (n : Fin 8) (o : Fin 2000), Arrives (.faultInputAssert n o) (fun u => u.deaf = false ∧
    u.flag PG_FLT_CFG_EN n = false)
    [] fun u t =>
      t.get .PG_FLT_STAT 0 = u.get .PG_FLT_STAT 0) ∧
  (∀ (n : Fin 8), Arrives (.faultInputDeassert n) (fun u => u.deaf = false)
    [(.PG_FLT_STAT, 0)] fun u t =>
      t.rbit .PG_FLT_STAT 0 n = false ∧ t.rbit .PG_FLT_STAT 0 (8 + n) = u.rbit .PG_FLT_STAT 0 (8 + n)) ∧
  (∀ (m : Fin 8) (v : Word), Serves (.pgFltClr m v) m .PG_FLT_CLR 0 (fun u => ∀ n : Fin 8, bitAt v n = true →
    u.rbit .PG_FLT_STAT 0 n = false)
    ((List.range 16).flatMap groupRegs ++ ofAll [.BP_STAT] 24 ++ [(.PG_FLT_STAT, 0), (.PG_STAT, 0)] ++ evtRegs 132)
      fun u t =>
      (∀ n : Fin 8, t.rbit .PG_FLT_STAT 0 (8 + n) = (u.rbit .PG_FLT_STAT 0 (8 + n) && !bitAt v n)) ∧
        ((∃ n : Fin 8, bitAt v n = true ∧ u.rbit .PG_FLT_STAT 0 (8 + n) = true) → t.pends 132 = true)) ∧
  (∀ (m : Fin 8) (v : Word), Refuses (.pgFltClr m v) m .PG_FLT_CLR 0 (fun u => (∃ n : Fin 8, bitAt v n = true ∧
    u.rbit .PG_FLT_STAT 0 n = true)))

/-- A load switch follows its source command, with an inrush window after a long rest, and restarts after a pause.
(R262, R264, R265, R266, R269, R270) -/
def Obligations.SwitchCommands : Prop :=
  (∀ (n : Fin 24) (o : Fin 2000), Arrives (.lsSourceCommandChange n o) (fun u => u.lsDown = false ∧
    u.lsSrc n = true ∧ u.flag LS_STAT_SRCCMD n = false ∧ u.lsHeld n = false ∧
      ((u.lsc n).offT.all fun e : Int => decide (e + 200000 * u.fld LS_INR_REARM n ≤ u.clk o)) = true)
    (ofInst [.LS_STAT] n.val) fun u t =>
      t.flag LS_STAT_SRCCMD n = true ∧ t.flag LS_STAT_OUT n = true ∧
        (t.lsc n).win = some (u.clk o + 200000 * u.fld LS_INR_INR_MS n) ∧ t.fld LS_STAT_STATE n = 1) ∧
  (∀ (n : Fin 24) (o : Fin 2000) (e : Int), Arrives (.lsSourceCommandChange n o) (fun u => u.lsDown = false ∧
    u.lsSrc n = true ∧ u.flag LS_STAT_SRCCMD n = false ∧ u.lsHeld n = false ∧ (u.lsc n).offT = some e ∧
      u.clk o < e + 200000 * u.fld LS_INR_REARM n)
    (ofInst [.LS_STAT] n.val) fun _ t =>
      t.flag LS_STAT_SRCCMD n = true ∧ t.flag LS_STAT_OUT n = true ∧ (t.lsc n).win = none ∧
        t.fld LS_STAT_STATE n = 2) ∧
  (∀ (n : Fin 24) (o : Fin 2000), Arrives (.lsSourceCommandChange n o) (fun u => u.lsDown = false ∧
    u.lsSrc n = true ∧ u.flag LS_STAT_SRCCMD n = false ∧ u.lsHeld n = true)
    (ofInst [.LS_STAT] n.val) fun u t =>
      t.flag LS_STAT_SRCCMD n = true ∧ t.flag LS_STAT_OUT n = u.flag LS_STAT_OUT n) ∧
  (∀ (n : Fin 24) (o : Fin 2000), Arrives (.lsSourceCommandChange n o) (fun u => u.lsDown = false ∧
    u.lsSrc n = false ∧ u.flag LS_STAT_SRCCMD n = true)
    (ofInst [.LS_STAT] n.val) fun u t =>
      t.flag LS_STAT_SRCCMD n = false ∧ t.flag LS_STAT_OUT n = false ∧ t.fld LS_STAT_RC n = 0 ∧
        (t.lsc n).win = none ∧ (t.lsc n).pause = (u.lsc n).pause ∧ (u.flag LS_STAT_OUT n = true →
          (t.lsc n).offT = some (u.clk o))) ∧
  (∀ (n : Fin 24) (o : Fin 2000), Arrives (.lsSourceCommandChange n o) (fun u => u.lsDown = true ∨ u.lsSrc n = u.flag
    LS_STAT_SRCCMD n)
    [] fun u t =>
      t.lss = u.lss) ∧
  (∀ (n : Fin 24) (b : Bool), Arrives (.lsinChange n b) (fun u => u.lsDown = false ∧ u.inReplay = false)
    (ofInst [.LS_STAT] n.val ++ [(.LS_PIN, 0)]) fun u t =>
      t.rbit .LS_PIN 0 n = b ∧ t.flag LS_STAT_PIN n = (b != ((u.lsc n).src / 4 == 1))) ∧
  (∀ (n : Fin 24) (b : Bool), Arrives (.lsinChange n b) (fun u => u.lsDown = true ∨ u.inReplay = true)
    [] fun u t =>
      t.lss = u.lss) ∧
  (∀ (n : Fin 24) (e : Nat), Arrives (.inrushWindowEnd n) (fun u => (u.lsc n).win = some e ∧
    (e < u.Tn ∨ (u.lsc n).loose = true))
    (ofInst [.LS_STAT] n.val) fun u t =>
      (t.lsc n).win = none ∧ t.flag LS_STAT_OUT n = u.flag LS_STAT_OUT n) ∧
  (∀ (n : Fin 24), Arrives (.inrushWindowEnd n) (fun u => (u.lsc n).win = none ∨ ((u.lsc n).loose = false ∧
    ((u.lsc n).win.all fun e => decide (u.Tn ≤ e)) = true))
    [] fun u t =>
      t.lss = u.lss) ∧
  (∀ (n : Fin 24) (k : Nat), Acts (.retryPauseEnd n) (fun u => (u.lsc n).pause = some k ∧
    (k ≤ u.tick ∨ (u.lsc n).loose = true) ∧ u.flag LS_STAT_SRCCMD n = true ∧ u.flag LS_STAT_OUT n = false ∧
      u.lsLatched n = false ∧ (u.lsc n).hot = false ∧ u.lsUv n = false)
    (ofInst [.LS_STAT, .LS_CNT, .LS_EVT] n.val ++ evtRegs (136 + n.val)) fun u t =>
      (t.lsc n).pause = none ∧ t.flag LS_STAT_OUT n = true ∧
        (t.lsc n).win = some (u.T + 200000 * u.fld LS_INR_INR_MS n) ∧
          t.fld LS_CNT_RESTARTS n = min (u.fld LS_CNT_RESTARTS n + 1) (2 ^ (LS_CNT_RESTARTS.hi + 1 -
            LS_CNT_RESTARTS.lo) - 1) ∧ t.rbit .LS_EVT n 4 = true ∧ (u.rbit .LS_EVT_MASK n 4 = true →
              t.pends (136 + n) = true)) ∧
  (∀ (n : Fin 24) (k : Nat), Acts (.retryPauseEnd n) (fun u => (u.lsc n).pause = some k ∧
    (k ≤ u.tick ∨ (u.lsc n).loose = true) ∧ u.flag LS_STAT_SRCCMD n = false)
    (ofInst [.LS_STAT] n.val) fun u t =>
      (t.lsc n).pause = none ∧ t.flag LS_STAT_OUT n = u.flag LS_STAT_OUT n) ∧
  (∀ (n : Fin 24), Acts (.retryPauseEnd n) (fun u => (u.lsc n).pause = none ∨ ((u.lsc n).loose = false ∧
    ((u.lsc n).pause.all fun k => decide (u.tick < k)) = true))
    [] fun u t =>
      t.lss = u.lss)

/-- Over-current, over-temperature and under-voltage turn a switch off and decide how it may come back. (R264, R265,
R267, R268, R269) -/
def Obligations.SwitchProtection : Prop :=
  (∀ (n : Fin 24) (o : Fin 2000) (i : Word), Arrives (.lsTrip n o i) (fun u => u.inReplay = false ∧
    u.flag LS_STAT_OUT n = true ∧ f32.le (u.lsThreshold n) i = true)
    (ofInst [.LS_STAT, .LS_CNT, .LS_EVT] n.val ++ evtRegs (136 + n.val) ++ ofInst [.LS_TLAST_LO, .LS_TLAST_HI] n.val)
      fun u t =>
      t.flag LS_STAT_OUT n = false ∧ t.fld LS_STAT_RC n = min (u.fld LS_STAT_RC n + 1) 15 ∧
        t.fld LS_CNT_TRIPS n = min (u.fld LS_CNT_TRIPS n + 1) (2 ^ (LS_CNT_TRIPS.hi + 1 - LS_CNT_TRIPS.lo) - 1) ∧
          t.get .LS_TLAST_LO n = loW (u.clk o) ∧ t.get .LS_TLAST_HI n = hiW (u.clk o) ∧ t.rbit .LS_EVT n 0 = true ∧
            (u.fld LS_CFG_RETRY_N n ≤ t.fld LS_STAT_RC n → t.flag LS_STAT_OC_LATCH n = true ∧
              t.rbit .LS_EVT n 1 = true) ∧ (t.fld LS_STAT_RC n < u.fld LS_CFG_RETRY_N n →
                (t.lsc n).pause = some (u.tick + 1 + lsPause (t.fld LS_STAT_RC n)) ∧
                  t.flag LS_STAT_OC_LATCH n = u.flag LS_STAT_OC_LATCH n)) ∧
  (∀ (n : Fin 24) (o : Fin 2000) (i : Word), Arrives (.lsTrip n o i) (fun u => u.inReplay = true ∨ u.flag LS_STAT_OUT
    n = false ∨ f32.le (u.lsThreshold n) i = false)
    [] fun u t =>
      t.lss = u.lss) ∧
  (∀ (n : Fin 24) (o : Fin 2000) (tj : Word), Arrives (.thOff n o tj) (fun u => u.inReplay = false ∧
    f32.le (degC 170) tj = true ∧ (u.lsc n).maxed = false)
    (ofInst [.LS_STAT, .LS_CNT, .LS_EVT] n.val ++ evtRegs (136 + n.val) ++ [(.LS_TJ, n.val)]) fun u t =>
      t.get .LS_TJ n = tj ∧ t.flag LS_STAT_OUT n = false ∧ t.rbit .LS_EVT n 2 = true ∧
        (u.flag LS_CFG_TH_MODE n = true → t.flag LS_STAT_TH_LATCH n = true ∧ t.rbit .LS_EVT n 3 = true) ∧
          (u.flag LS_CFG_TH_MODE n = false → (t.lsc n).hot = true)) ∧
  (∀ (n : Fin 24) (o : Fin 2000) (tj : Word), Arrives (.thOff n o tj) (fun u => u.inReplay = false ∧
    f32.le (degC 170) tj = true ∧ (u.lsc n).maxed = true)
    [(.LS_TJ, n.val)] fun u t =>
      t.get .LS_TJ n = tj ∧ t.lss = u.lss) ∧
  (∀ (n : Fin 24) (o : Fin 2000) (tj : Word), Arrives (.lsCoolDown n o tj) (fun u => u.inReplay = false ∧
    f32.le tj (degC 150) = true ∧ (u.lsc n).maxed = true ∧ (u.lsc n).hot = true ∧ u.flag LS_STAT_SRCCMD n = true ∧
      u.flag LS_STAT_OUT n = false ∧ u.lsLatched n = false ∧ u.lsUv n = false ∧ (u.lsc n).pause = none)
    (ofInst [.LS_STAT, .LS_CNT, .LS_EVT] n.val ++ evtRegs (136 + n.val) ++ [(.LS_TJ, n.val)]) fun u t =>
      t.get .LS_TJ n = tj ∧ (t.lsc n).hot = false ∧ t.flag LS_STAT_OUT n = true ∧
        (t.lsc n).win = some (u.clk o + 200000 * u.fld LS_INR_INR_MS n) ∧ t.rbit .LS_EVT n 4 = true ∧
          t.fld LS_CNT_RESTARTS n = min (u.fld LS_CNT_RESTARTS n + 1) (2 ^ (LS_CNT_RESTARTS.hi + 1 -
            LS_CNT_RESTARTS.lo) - 1)) ∧
  (∀ (n : Fin 24) (o : Fin 2000) (tj : Word), Arrives (.lsCoolDown n o tj) (fun u => u.inReplay = false ∧
    f32.le tj (degC 150) = true ∧ (u.lsc n).maxed = true ∧ u.flag LS_STAT_SRCCMD n = false)
    (ofInst [.LS_STAT, .LS_TJ] n.val) fun u t =>
      (t.lsc n).hot = false ∧ t.flag LS_STAT_OUT n = u.flag LS_STAT_OUT n) ∧
  (∀ (g : Fin 4) (o : Fin 2000) (mv : Nat), Arrives (.uvOff g o mv) (fun u => mv < 5000 ∧ u.inReplay = false ∧
    u.rbit .LS_SUP_STAT 0 g = false)
    ((lsOf g).flatMap (fun k => ofInst [.LS_STAT, .LS_CNT, .LS_EVT] k ++ evtRegs (136 + k)) ++ ofInst [.LS_SUP_STAT,
      .LS_VSUP01, .LS_VSUP23] 0) fun _ t =>
      t.rbit .LS_SUP_STAT 0 g = true ∧ t.lsMv g = mv ∧ (∀ k : Fin 24, lsGroup k = g → t.flag LS_STAT_OUT k = false ∧
        t.rbit .LS_EVT k 5 = true)) ∧
  (∀ (g : Fin 4) (o : Fin 2000) (mv : Nat), Arrives (.uvRestart g o mv) (fun u => 5500 ≤ mv ∧ u.inReplay = false ∧
    u.rbit .LS_SUP_STAT 0 g = true)
    ((lsOf g).flatMap (fun k => ofInst [.LS_STAT, .LS_CNT, .LS_EVT] k ++ evtRegs (136 + k)) ++ ofInst [.LS_SUP_STAT,
      .LS_VSUP01, .LS_VSUP23] 0) fun u t =>
      t.rbit .LS_SUP_STAT 0 g = false ∧ (∀ k : Fin 24, lsGroup k = g → u.flag LS_STAT_SRCCMD k = true →
        u.lsLatched k = false → (u.lsc k).hot = false → (u.lsc k).pause = none → u.flag LS_STAT_OUT k = false →
          t.flag LS_STAT_OUT k = true ∧ t.rbit .LS_EVT k 6 = true ∧
            t.fld LS_CNT_RESTARTS k = min (u.fld LS_CNT_RESTARTS k + 1) (2 ^ (LS_CNT_RESTARTS.hi + 1 -
              LS_CNT_RESTARTS.lo) - 1)) ∧ (∀ k : Fin 24, u.flag LS_STAT_SRCCMD k = false →
                t.flag LS_STAT_OUT k = u.flag LS_STAT_OUT k))

/-- Latches, counters and causes of the load-switch die clear by their bits; a cold die starts anew, a dead one drives
nothing. (R266, R267, R270, R273, R274, R275, R278) -/
def Obligations.SwitchDie : Prop :=
  (∀ (m : Fin 8) (n : Fin 24), Serves (.lsOcclr m n) m .LS_CTRL n (fun _ => True)
    (ofInst [.LS_STAT] n.val) fun u t =>
      t.flag LS_STAT_OC_LATCH n = false ∧ t.flag LS_STAT_TH_LATCH n = u.flag LS_STAT_TH_LATCH n ∧
        (u.flag LS_STAT_OC_LATCH n = true → u.flag LS_STAT_TH_LATCH n = false → u.flag LS_STAT_SRCCMD n = true →
          (u.lsc n).hot = false → u.lsUv n = false → (u.lsc n).pause = none → t.flag LS_STAT_OUT n = true) ∧
            (u.flag LS_STAT_TH_LATCH n = true → t.flag LS_STAT_OUT n = u.flag LS_STAT_OUT n)) ∧
  (∀ (m : Fin 8) (n : Fin 24), Serves (.lsThclr m n) m .LS_CTRL n (fun u => u.lsThclrErr n = false)
    (ofInst [.LS_STAT] n.val) fun u t =>
      t.flag LS_STAT_TH_LATCH n = false ∧ t.flag LS_STAT_OC_LATCH n = u.flag LS_STAT_OC_LATCH n) ∧
  (∀ (m : Fin 8) (n : Fin 24), Refuses (.lsThclr m n) m .LS_CTRL n (fun u => f32.lt (degC 150) (u.get .LS_TJ n) =
    true)) ∧
  (∀ (m : Fin 8) (n : Fin 24), Serves (.lsCclr m n) m .LS_CTRL n (fun _ => True)
    (ofInst [.LS_CNT] n.val) fun _ t =>
      t.get .LS_CNT n = 0#32) ∧
  (∀ (m : Fin 8), Serves (.coldClr m) m .LS_GCTRL 0 (fun _ => True)
    [(.LS_DIE, 0)] fun u t =>
      t.flag LS_DIE_COLD 0 = false ∧ t.flag LS_DIE_HB_LOST 0 = u.flag LS_DIE_HB_LOST 0) ∧
  (∀ (m : Fin 8), Serves (.hbClr m) m .LS_GCTRL 0 (fun _ => True)
    [(.LS_DIE, 0)] fun u t =>
      t.flag LS_DIE_HB_LOST 0 = false ∧ t.flag LS_DIE_COLD 0 = u.flag LS_DIE_COLD 0) ∧
  (Arrives (.hbLost) (fun _ => True)
    [(.LS_DIE, 0)] fun u t =>
      t.flag LS_DIE_HB_LOST 0 = true ∧ t.lsOsc = true ∧
        (∀ n : Fin 24, t.lsc n = { u.lsc n with loose := true, offOsc := true })) ∧
  (∀ (s : State), let u := s.met
    ∃ t, exec (.lsRetentionLoss) s = .next t ∧ t.resp = [] ∧ t.lsDown = true ∧ t.lss = [] ∧
      (∀ n : Fin 24, ∀ r ∈ [Reg.LS_CFG, .LS_INR, .LS_STAT, .LS_CNT, .LS_TLAST_LO, .LS_TLAST_HI], t.get r n =
        u.resetVal r n) ∧ (∀ n : Fin 24, t.lnDemand (152 + n) = false) ∧
          (∀ n : Fin 768, (n.val < 152 ∨ 176 ≤ n.val) → t.lnDemand n = u.lnDemand n) ∧
            (∀ r i, lsPaged (r.key i) = false → (r, i) ≠ (Reg.LN_CMD, 4) → (r, i) ≠ (Reg.LN_CMD, 5) →
              t.get r i = u.get r i) ∧ (∀ a, t.rdByte a = u.rdByte a)) ∧
  (∀ (o : Fin 2000) (s : State), let u := s.met
    ∃ t, exec (.dieCold o) s = .next t ∧ t.resp = [] ∧ t.lsDown = false ∧ t.lss = [] ∧ t.flag LS_DIE_COLD 0 = true ∧
      (∀ n : Fin 24, t.rbit .LS_EVT n 7 = true) ∧
        (∀ n : Fin 24, ∀ r ∈ [Reg.LS_CFG, .LS_INR, .LS_STAT, .LS_CNT, .LS_TLAST_LO, .LS_TLAST_HI], t.get r n =
          u.resetVal r n) ∧ (∀ n : Fin 24, t.lnDemand (152 + n) = false) ∧
            (∀ n : Fin 768, (n.val < 152 ∨ 176 ≤ n.val) → t.lnDemand n = u.lnDemand n) ∧
              (∀ r i, lsPaged (r.key i) = false → (r, i) ≠ (Reg.LN_CMD, 4) → (r, i) ≠ (Reg.LN_CMD, 5) →
                t.get r i = u.get r i) ∧ (∀ a, t.rdByte a = u.rdByte a))

/-- A loop is enabled or refused with its code, samples when due, and applies its output eight ticks later. (R314,
R315, R316, R317, R318, R319, R320, R321, R322, R323, R336) -/
def Obligations.ControlLoops : Prop :=
  (∀ (m : Fin 8) (n : Fin 64) (v : Word), Serves (.loopEnable m n v) m .LP_CFG n (fun u => u.lpEn n = false ∧
    u.lpReject n (u.merged m .LP_CFG n (v ||| 1#32)) = 0)
    (ofInst [.LP_CFG, .LP_PERIOD, .LP_STAT] n.val) fun u t =>
      t.get .LP_CFG n = (u.merged m .LP_CFG n (v ||| 1#32)) ∧ t.lpEn n = true ∧ t.flag LP_STAT_RUN n = true ∧
        (t.lp n).prev = none ∧ (t.lp n).first = true ∧ (t.lp n).smp = none ∧
          t.flag LP_STAT_BANK n = u.flag LP_STAT_BANK n ∧ t.flag LP_STAT_BPEND n = u.flag LP_STAT_BPEND n ∧
            (t.fld LP_CFG_SMODE n = 0 →
              t.get .LP_PERIOD n = BitVec.ofNat 32 (clampN 100 100000000 (u.get .LP_PERIOD n).toNat / 10 * 10))) ∧
  (∀ (m : Fin 8) (n : Fin 64) (v : Word), Serves (.loopEnable m n v) m .LP_CFG n (fun u => u.lpEn n = false ∧
    u.lpReject n (u.merged m .LP_CFG n (v ||| 1#32)) ≠ 0)
    (ofInst [.LP_CFG, .LP_STAT] n.val ++ evtRegs 197) fun u t =>
      t.lpEn n = false ∧ t.get .LP_CFG n = putBit (u.merged m .LP_CFG n (v ||| 1#32)) 0 false ∧
        t.fld LP_STAT_REJ n = u.lpReject n (u.merged m .LP_CFG n (v ||| 1#32)) ∧ t.pends 197 = true ∧ t.lps = u.lps) ∧
  (∀ (n : Fin 64), Acts (.loopSampleDispatch n) (fun u => u.lpDue n = false)
    [] fun u t =>
      t.lps = u.lps) ∧
  (∀ (n : Fin 64) (p : Nat), Acts (.loopSampleDispatch n) (fun u => u.lpDue n = true ∧ (u.lp n).taken = some p ∧
    u.tick - p < 10)
    (ofInst [.LP_CNT, .LP_EVT] n.val ++ [(.MOD_FAULT, 0)] ++ evtRegs (184 + n.val / 8)) fun u t =>
      t.fld LP_CNT_SKIPPED n = min (u.fld LP_CNT_SKIPPED n + 1) (2 ^ (LP_CNT_SKIPPED.hi + 1 - LP_CNT_SKIPPED.lo) - 1)
        ∧ t.rbit .LP_EVT n 7 = true ∧ (u.rbit .LP_EVT_MASK n 7 = true → t.pends (184 + n / 8) = true) ∧
          t.flag MOD_FAULT_PROMISE 0 = true ∧ (t.lp n).smp = (u.lp n).smp ∧ (t.lp n).taken = some p) ∧
  (∀ (n : Fin 64), Acts (.loopSampleDispatch n) (fun u => u.lpDue n = true ∧
    ((u.lp n).taken.all fun k => decide (10 ≤ u.tick - k)) = true ∧ (u.lp n).first = true ∧
      u.fld LP_SRC_SP_SRC n / 256 = 0 ∧ u.fld LP_SRC_FB_SRC n / 256 = 8 ∧ ∀ k : Fin 4, u.tgDrives k n = false)
    (ofInst [.LP_STAT] n.val) fun u t =>
      (t.lp n).smp.map (fun e => (e.k, e.y, e.r)) = some (u.tick, (f32.mul (u.get .LP_YK n) (u.get .AO_RB (u.fld
        LP_SRC_FB_SRC n % 256))), f32.mul (u.get .LP_SPK n) (u.get .LP_SP n)) ∧ (t.lp n).first = false ∧
          (t.lp n).prev = some u.tick ∧ t.flag LP_STAT_BPEND n = false ∧
            t.flag LP_STAT_BANK n = (u.flag LP_STAT_BANK n != u.flag LP_STAT_BPEND n) ∧
              (t.lp n).smp.map (·.v) = some (u.lpPresent n)) ∧
  (∀ (n : Fin 64) (p : Nat), Acts (.loopSampleDispatch n) (fun u => u.lpDue n = true ∧
    ((u.lp n).taken.all fun k => decide (10 ≤ u.tick - k)) = true ∧ (u.lp n).first = false ∧ (u.lp n).prev = some p ∧
      (u.lp n).st = 0 ∧ (u.lp n).await = false ∧ u.flag LP_STAT_BPEND n = false ∧ u.fld LP_SRC_SP_SRC n / 256 = 0 ∧
        u.fld LP_SRC2_FF_SRC n / 256 = 0 ∧ u.fld LP_SRC_FB_SRC n / 256 = 8 ∧ ∀ k : Fin 4, u.tgDrives k n = false)
    (ofInst [.LP_STAT] n.val) fun u t =>
      (t.lp n).smp.map (·.v) = some (f32.add (f32.add (f32.add (f32.mul (u.get .LP_KP (2 * n.val + u.fld LP_STAT_BANK
        n)) (f32.sub (f32.mul (u.get .LP_B (2 * n.val + u.fld LP_STAT_BANK n)) (State.lpRamp (u.get .LP_RLIM n)
          (u.get .LP_ALIM n) (f32.mul (u.get .LP_SPK n) (u.get .LP_SP n)) (u.lpTs n p) (u.lp n).r (u.lp n).rd).1)
            (f32.mul (u.get .LP_YK n) (u.get .AO_RB (u.fld LP_SRC_FB_SRC n % 256))))) (u.get .LP_I n)) (if f32.isZero
              (u.get .LP_TF (2 * n.val + u.fld LP_STAT_BANK n)) && f32.isZero (u.get .LP_KD (2 * n.val + u.fld
                LP_STAT_BANK n)) then 0#32 else f32.add (f32.mul (f32.div (u.get .LP_TF (2 * n.val + u.fld
                  LP_STAT_BANK n)) (f32.add (u.get .LP_TF (2 * n.val + u.fld LP_STAT_BANK n)) (u.lpTs n p))) (u.lp
                    n).d) (f32.mul (f32.div (u.get .LP_KD (2 * n.val + u.fld LP_STAT_BANK n)) (f32.add (u.get .LP_TF
                      (2 * n.val + u.fld LP_STAT_BANK n)) (u.lpTs n p))) (f32.sub (f32.sub (f32.mul (u.get .LP_C (2 *
                        n.val + u.fld LP_STAT_BANK n)) (State.lpRamp (u.get .LP_RLIM n) (u.get .LP_ALIM n) (f32.mul
                          (u.get .LP_SPK n) (u.get .LP_SP n)) (u.lpTs n p) (u.lp n).r (u.lp n).rd).1) (f32.mul (u.get
                            .LP_YK n) (u.get .AO_RB (u.fld LP_SRC_FB_SRC n % 256)))) (u.lp n).ed)))) (f32.mul (u.get
                              .LP_KFF (2 * n.val + u.fld LP_STAT_BANK n)) (u.get .LP_FF n))) ∧
                                (t.lp n).r = (State.lpRamp (u.get .LP_RLIM n) (u.get .LP_ALIM n) (f32.mul (u.get
                                  .LP_SPK n) (u.get .LP_SP n)) (u.lpTs n p) (u.lp n).r (u.lp n).rd).1 ∧
                                    (t.lp n).rd = (State.lpRamp (u.get .LP_RLIM n) (u.get .LP_ALIM n) (f32.mul (u.get
                                      .LP_SPK n) (u.get .LP_SP n)) (u.lpTs n p) (u.lp n).r (u.lp n).rd).2 ∧
                                        (t.lp n).smp.map (·.r) = some (State.lpRamp (u.get .LP_RLIM n) (u.get
                                          .LP_ALIM n) (f32.mul (u.get .LP_SPK n) (u.get .LP_SP n)) (u.lpTs n p) (u.lp
                                            n).r (u.lp n).rd).1 ∧ (t.lp n).d = (if f32.isZero (u.get .LP_TF (2 *
                                              n.val + u.fld LP_STAT_BANK n)) && f32.isZero (u.get .LP_KD (2 * n.val +
                                                u.fld LP_STAT_BANK n)) then 0#32 else f32.add (f32.mul (f32.div
                                                  (u.get .LP_TF (2 * n.val + u.fld LP_STAT_BANK n)) (f32.add (u.get
                                                    .LP_TF (2 * n.val + u.fld LP_STAT_BANK n)) (u.lpTs n p))) (u.lp
                                                      n).d) (f32.mul (f32.div (u.get .LP_KD (2 * n.val + u.fld
                                                        LP_STAT_BANK n)) (f32.add (u.get .LP_TF (2 * n.val + u.fld
                                                          LP_STAT_BANK n)) (u.lpTs n p))) (f32.sub (f32.sub (f32.mul
                                                            (u.get .LP_C (2 * n.val + u.fld LP_STAT_BANK n))
                                                              (State.lpRamp (u.get .LP_RLIM n) (u.get .LP_ALIM n)
                                                                (f32.mul (u.get .LP_SPK n) (u.get .LP_SP n)) (u.lpTs
                                                                  n p) (u.lp n).r (u.lp n).rd).1) (f32.mul (u.get
                                                                    .LP_YK n) (u.get .AO_RB (u.fld LP_SRC_FB_SRC n %
                                                                      256)))) (u.lp n).ed))) ∧
                                                                        (t.lp n).ed = (f32.sub (f32.mul (u.get .LP_C
                                                                          (2 * n.val + u.fld LP_STAT_BANK n))
                                                                            (State.lpRamp (u.get .LP_RLIM n) (u.get
                                                                              .LP_ALIM n) (f32.mul (u.get .LP_SPK n)
                                                                                (u.get .LP_SP n)) (u.lpTs n p) (u.lp
                                                                                  n).r (u.lp n).rd).1) (f32.mul
                                                                                    (u.get .LP_YK n) (u.get .AO_RB
                                                                                      (u.fld LP_SRC_FB_SRC n %
                                                                                        256)))) ∧ ((t.lp n).st = 0 →
                                                                                          (t.lp n).await = false →
                                                                                            (t.lp n).smp.map (·.w) =
                                                                                              some (f32.clamp
                                                                                                (f32.min (u.get
                                                                                                  .LP_OMIN n) (u.get
                                                                                                    .LP_OMAX n))
                                                                                                      (u.get .LP_OMAX
                                                                                                        n) (f32.add
                                                                                                          (f32.add
                                                                                                            (f32.add
                                                                                                              (f32.mul (u.get .LP_KP (2 * n.val + u.fld LP_STAT_BANK n)) (f32.sub (f32.mul (u.get .LP_B (2 * n.val + u.fld LP_STAT_BANK n)) (State.lpRamp (u.get .LP_RLIM n) (u.get .LP_ALIM n) (f32.mul (u.get .LP_SPK n) (u.get .LP_SP n)) (u.lpTs n p) (u.lp n).r (u.lp n).rd).1) (f32.mul (u.get .LP_YK n) (u.get .AO_RB (u.fld LP_SRC_FB_SRC n % 256))))) (u.get .LP_I n)) (if f32.isZero (u.get .LP_TF (2 * n.val + u.fld LP_STAT_BANK n)) && f32.isZero (u.get .LP_KD (2 * n.val + u.fld LP_STAT_BANK n)) then 0#32 else f32.add (f32.mul (f32.div (u.get .LP_TF (2 * n.val + u.fld LP_STAT_BANK n)) (f32.add (u.get .LP_TF (2 * n.val + u.fld LP_STAT_BANK n)) (u.lpTs n p))) (u.lp n).d) (f32.mul (f32.div (u.get .LP_KD (2 * n.val + u.fld LP_STAT_BANK n)) (f32.add (u.get .LP_TF (2 * n.val + u.fld LP_STAT_BANK n)) (u.lpTs n p))) (f32.sub (f32.sub (f32.mul (u.get .LP_C (2 * n.val + u.fld LP_STAT_BANK n)) (State.lpRamp (u.get .LP_RLIM n) (u.get .LP_ALIM n) (f32.mul (u.get .LP_SPK n) (u.get .LP_SP n)) (u.lpTs n p) (u.lp n).r (u.lp n).rd).1) (f32.mul (u.get .LP_YK n) (u.get .AO_RB (u.fld LP_SRC_FB_SRC n % 256)))) (u.lp n).ed)))) (f32.mul (u.get .LP_KFF (2 * n.val + u.fld LP_STAT_BANK n)) (u.get .LP_FF n))))) ∧ (t.lp n).taken = some u.tick) ∧
  (∀ a h g r d : Word, State.lpRamp 0#32 a g h r d = (g, 0#32)) ∧
  (∀ l h g r d : Word, f32.isZero l = false →
    State.lpRamp l 0#32 g h r d = let q := f32.clamp (f32.neg l) l (f32.div (f32.sub g r) h); (f32.add r (f32.mul q
      h), q)) ∧
  (∀ l a h g r d : Word, f32.isZero l = false → f32.isZero a = false →
    let e := f32.sub g r
    let c := f32.mul a h
    let k := f32.div c 0x40000000#32
    let v := f32.min (f32.min l (f32.div (f32.abs e) h)) (f32.sub (f32.sqrt (f32.add (f32.mul (f32.mul 0x40000000#32
      a) (f32.abs e)) (f32.mul k k))) k)
    let q := f32.add d (f32.clamp (f32.neg c) c (f32.sub (State.signTimes e v) d))
    let x := f32.add r (f32.mul q h)
    ((State.signOf (f32.sub g x) = State.signOf e ∨ f32.le (f32.abs q) c = false) →
      State.lpRamp l a g h r d = (x, q)) ∧
    (State.signOf (f32.sub g x) ≠ State.signOf e → f32.le (f32.abs q) c = true →
      State.lpRamp l a g h r d = (g, 0#32))) ∧
  (∀ (n : Fin 64), Acts (.loopSampleApply n) (fun u => u.lpResultDue n = none)
    [] fun u t =>
      t.lps = u.lps) ∧
  (∀ (n : Fin 64) (e : LpSmp), Acts (.loopSampleApply n) (fun u => u.lpResultDue n = some e ∧
    u.flag LP_CFG_GRP_EN n = false ∧ (u.lpTarget n).1 = 0 ∧ e.tests = [] ∧ e.causes = [])
    (ofInst [.LP_U, .LP_R, .LP_Y, .LP_V, .LP_I, .LP_STAT, .LP_CNT, .LP_EVT] n.val ++ evtRegs (184 + n.val / 8)) fun u
      t =>
      (e.integ = true → ∀ h, e.ts = some h →
        t.get .LP_I n = f32.add (f32.add e.i (f32.mul (f32.mul e.ki h) (f32.sub e.r e.y))) (f32.mul (if f32.isZero
          e.kt then f32.one else f32.min (f32.mul e.kt h) f32.one) (f32.sub (State.slewTo (some (u.get .LP_U n)) e.ts
            (u.get .LP_SLEW n) e.w) e.v))) ∧
              t.get .LP_U n = (State.slewTo (some (u.get .LP_U n)) e.ts (u.get .LP_SLEW n) e.w) ∧
                t.get .LP_R n = e.r ∧ t.get .LP_Y n = e.y ∧ t.get .LP_V n = e.v ∧ (e.integ = false →
                  t.get .LP_I n = e.i) ∧ (t.lp n).smp = none ∧ (t.lp n).w = some e.w ∧
                    t.fld LP_CNT_SAMPLES n = (u.fld LP_CNT_SAMPLES n + 1) % 2 ^ (LP_CNT_SAMPLES.hi + 1 -
                      LP_CNT_SAMPLES.lo) ∧ t.flag LP_STAT_LIMITED n = !f32.eq (State.slewTo (some (u.get .LP_U n))
                        e.ts (u.get .LP_SLEW n) e.w) e.v ∧ t.flag LP_STAT_LOST n = e.lost ∧
                          t.flag LP_STAT_PERM_OK n = e.perm ∧
                            (f32.eq (State.slewTo (some (u.get .LP_U n)) e.ts (u.get .LP_SLEW n) e.w) e.v = false →
                              u.flag LP_STAT_LIMITED n = false → t.rbit .LP_EVT n 4 = true ∧
                                (u.rbit .LP_EVT_MASK n 4 = true → t.pends (184 + n / 8) = true))) ∧
  (∀ (n : Fin 64) (e : LpSmp) (a : Fin 4), Acts (.loopSampleApply n) (fun u => u.lpResultDue n = some e ∧
    u.flag LP_CFG_GRP_EN n = false ∧ u.lpTarget n = (2, a.val) ∧ u.flag AO_CFG_SRC a = true ∧ e.dust = false ∧
      u.lpHolds 2 a = false ∧ e.tests = [] ∧ e.causes = [])
    (ofInst [.LP_U, .LP_R, .LP_Y, .LP_V, .LP_I, .LP_STAT, .LP_CNT, .LP_EVT] n.val ++ evtRegs (184 + n.val / 8) ++
      ofInst [.AO_VAL, .AO_STAT, .AO_EVT] a.val ++ evtRegs (176 + a.val)) fun u t =>
      t.get .LP_U n = (State.slewTo (some (u.get .LP_U n)) e.ts (u.get .LP_SLEW n) e.w) ∧
        t.get .AO_VAL a = (State.slewTo (some (u.get .LP_U n)) e.ts (u.get .LP_SLEW n) e.w) ∧
          (t.ao a).due = (u.ao a).due ++ [(u.tick + 2, (u.aoCode a (State.slewTo (some (u.get .LP_U n)) e.ts (u.get
            .LP_SLEW n) e.w)).1)]) ∧
  (∀ (n : Fin 64) (e : LpSmp), Acts (.loopSampleApply n) (fun u => u.lpResultDue n = some e ∧
    u.flag LP_CFG_GRP_EN n = false ∧ (u.lpTarget n).1 = 1 ∧ e.dust = true ∧ e.tests = [] ∧ e.causes = [])
    (ofInst [.LP_U, .LP_R, .LP_Y, .LP_V, .LP_I, .LP_STAT, .LP_CNT, .LP_EVT] n.val ++ evtRegs (184 + n.val / 8)) fun u
      t =>
      (t.lp n).smp = none ∧ t.get .LP_Y n = e.y ∧ (u.lpHolds 1 (u.lpTarget n).2 = false →
        t.lpDustDue = u.lpDustDue ++ [(u.tick + 2, 1, (u.lpTarget n).2, true)])) ∧
  (∀ (n : Fin 64) (a : Fin 64) (b : Fin 64) (g : Fin 16) (e : LpSmp) (f : LpSmp) (w1 : Word), Acts (.loopSampleApply
    n) (fun u => u.flag LP_CFG_GRP_EN n = true ∧ u.fld LP_CFG_GRP n = g ∧ u.grpMembers g = [a.val, b.val] ∧ a ≠ b ∧
      (n = a ∨ n = b) ∧ u.lpResultDue a = some e ∧ u.lpResultDue b = some f ∧ u.fld LP_GCFG_TGT_KIND g = 0 ∧
        e.tests = [] ∧ f.tests = [] ∧ e.causes = [] ∧ f.causes = [] ∧ f32.lt f.w e.w = true ∧
          w1 = State.slewTo (u.grp g).last e.ts (u.get .LP_GSLEW g) f.w)
    ([a.val, b.val].flatMap (fun n => ofInst [.LP_U, .LP_R, .LP_Y, .LP_V, .LP_I, .LP_STAT, .LP_CNT, .LP_EVT] n ++
      evtRegs (184 + n / 8)) ++ [(.LP_GSTAT0, g.val / 8), (.LP_GSTAT1, g.val / 8)]) fun _ t =>
      t.get .LP_U a = w1 ∧ t.get .LP_U b = w1 ∧ t.flag LP_STAT_WIN a = false ∧ t.flag LP_STAT_WIN b = true ∧
        (t.grp g).last = some w1 ∧ (t.grp g).win = some b.val ∧ (t.lp a).smp = none ∧ (t.lp b).smp = none)

/-- Bank swaps, clears and test generators. (R326, R330, R332, R333, R336) -/
def Obligations.ControlCommands : Prop :=
  (∀ (m : Fin 8) (n : Fin 64), Serves (.lpBswap m n) m .LP_CTRL n (fun _ => True)
    (ofInst [.LP_STAT] n.val) fun u t =>
      t.flag LP_STAT_BPEND n = true ∧ t.flag LP_STAT_BANK n = u.flag LP_STAT_BANK n ∧ t.lps = u.lps) ∧
  (∀ (m : Fin 8) (j : Fin 2) (v : Word), Serves (.lpGswap m j v) m .LP_GSWAP j (fun _ => True)
    (ofAll [.LP_STAT] 64) fun u t =>
      (∀ k : Fin 64, t.flag LP_STAT_BPEND k = (u.flag LP_STAT_BPEND k || (u.lpEn k && u.flag LP_CFG_GRP_EN k && u.fld
        LP_CFG_GRP k / 8 == j.val && bitAt v (u.fld LP_CFG_GRP k % 8)))) ∧ t.lps = u.lps) ∧
  (∀ (m : Fin 8) (n : Fin 64), Serves (.lpFclr m n) m .LP_CTRL n (fun _ => True)
    [] fun u t =>
      (t.lp n).fclr = true ∧ (t.lp n).st = (u.lp n).st) ∧
  (∀ (m : Fin 8) (n : Fin 64), Serves (.lpCclr m n) m .LP_CTRL n (fun _ => True)
    (ofInst [.LP_CNT] n.val) fun u t =>
      t.get .LP_CNT n = 0#32 ∧ t.lps = u.lps) ∧
  (∀ (m : Fin 8) (j : Fin 4), Serves (.tgStart j (.write m)) m .TG_CTRL j (fun u => u.flag TG_CFG_EN j = true ∧
    u.flag TG_STAT_RUN j = false ∧ u.flag TG_STAT_ARMED j = false)
    (ofInst [.TG_STAT] j.val) fun u t =>
      t.get .TG_STAT j = 1#32 ∧ (t.tg j).armed = u.tick + 1 ∧ (t.tg j).j = 0 ∧
        (t.tg j).lfsr = 2 ^ u.fld TG_CFG_ORDER j - 1 ∧ (t.tg j).f = u.get .TG_F0 j) ∧
  (∀ (m : Fin 8) (j : Fin 4), Serves (.tgStart j (.write m)) m .TG_CTRL j (fun u => u.flag TG_CFG_EN j = false ∨
    u.flag TG_STAT_RUN j = true ∨ u.flag TG_STAT_ARMED j = true)
    [] fun u t =>
      t.tgs = u.tgs) ∧
  (∀ (j : Fin 4), Acts (.tgStart j .mark) (fun u => u.captureReq.contains j.val = true ∧ u.flag TG_CFG_EN j = true ∧
    u.flag TG_STAT_RUN j = false ∧ u.flag TG_STAT_ARMED j = false)
    (ofInst [.TG_STAT] j.val) fun u t =>
      t.get .TG_STAT j = 1#32 ∧ (t.tg j).armed = u.tick ∧ (t.tg j).lfsr = 2 ^ u.fld TG_CFG_ORDER j - 1 ∧
        t.captureReq.contains j.val = false) ∧
  (∀ (j : Fin 4), Acts (.tgStart j .mark) (fun u => u.captureReq.contains j.val = false)
    [] fun u t =>
      t.tgs = u.tgs) ∧
  (∀ (m : Fin 8) (j : Fin 4), Serves (.tgStop m j) m .TG_CTRL j (fun _ => True)
    (ofInst [.TG_STAT] j.val) fun u t =>
      t.flag TG_STAT_RUN j = false ∧ t.flag TG_STAT_ARMED j = false ∧ t.flag TG_STAT_DONE j = u.flag TG_STAT_DONE j ∧
        t.tgs = u.tgs)
end

