-- ==== Sys2Proof/Laws/Bits.lean ====
section
/-!
SUPPORT. Sys2Proof/Laws/Bits.lean: fields of words: a field reads back what was put into it, and the other bits stand.
-/

namespace Sys2Proof.Machine

theorem bitsOf_lt (w : Word) (hi lo : Nat) : bitsOf w hi lo < 2 ^ (hi + 1 - lo) := Nat.mod_lt _ (by positivity)

theorem testBit_bitsOf (w : Word) (hi lo n : Nat) :
    (bitsOf w hi lo).testBit n = (decide (n < hi + 1 - lo) && w.getLsbD (lo + n)) := by
  simp [bitsOf, Nat.testBit_mod_two_pow, Nat.testBit_div_two_pow, BitVec.getLsbD, Nat.add_comm]

theorem getLsbD_maskOf (hi lo n : Nat) :
    (maskOf hi lo).getLsbD n = (decide (n < 32) && (decide (lo ≤ n) && decide (n - lo < hi + 1 - lo))) := by
  simp only [maskOf, BitVec.getLsbD_ofNat, Nat.testBit_mul_two_pow, Nat.testBit_two_pow_sub_one]
  try rfl

theorem getLsbD_putBits (w : Word) (hi lo v n : Nat) :
    (putBits w hi lo v).getLsbD n =
      if lo ≤ n ∧ n < hi + 1 ∧ n < 32 then v.testBit (n - lo) else w.getLsbD n := by
  by_cases h3 : n < 32
  · simp only [putBits, BitVec.getLsbD_or, BitVec.getLsbD_and, BitVec.getLsbD_not, getLsbD_maskOf, BitVec.getLsbD_ofNat,
      Nat.testBit_mul_two_pow, Nat.testBit_mod_two_pow]
    by_cases h1 : lo ≤ n
    · by_cases h2 : n < hi + 1
      · have h4 : n - lo < hi + 1 - lo := by omega
        simp [h1, h2, h3, h4]
      · have h4 : ¬ (n - lo < hi + 1 - lo) := by omega
        simp [h1, h2, h3, h4]
    · simp [h1, h3]
  · rw [if_neg (by omega), BitVec.getLsbD_of_ge _ _ (by omega), BitVec.getLsbD_of_ge _ _ (by omega)]

/-- A field reads back what was put into it, modulo its width. -/
theorem bitsOf_putBits_same (w : Word) {hi lo : Nat} (v : Nat) (h : hi < 32) :
    bitsOf (putBits w hi lo v) hi lo = v % 2 ^ (hi + 1 - lo) := by
  apply Nat.eq_of_testBit_eq
  intro n
  rw [testBit_bitsOf, getLsbD_putBits, Nat.testBit_mod_two_pow]
  by_cases hn : n < hi + 1 - lo
  · have : lo ≤ lo + n ∧ lo + n < hi + 1 ∧ lo + n < 32 := by omega
    simp [hn, this]
  · simp [hn]

/-- A field keeps its value when another one is written. -/
theorem bitsOf_putBits_ne (w : Word) {hi lo hi' lo' : Nat} (v : Nat) (h : hi < lo' ∨ hi' < lo) :
    bitsOf (putBits w hi' lo' v) hi lo = bitsOf w hi lo := by
  apply Nat.eq_of_testBit_eq
  intro n
  rw [testBit_bitsOf, testBit_bitsOf, getLsbD_putBits]
  by_cases hn : n < hi + 1 - lo
  · rw [if_neg (by omega)]
  · simp [hn]

theorem bitAt_eq (w : Word) (n : Nat) : bitAt w n = w.getLsbD n := by
  simp only [bitAt, BitVec.getLsbD, Nat.testBit_eq_decide_div_mod_eq]
  rfl

theorem bitsOf_one (w : Word) (n : Nat) : bitsOf w n n = b2n (bitAt w n) := by
  have h : n + 1 - n = 1 := by omega
  unfold bitsOf bitAt b2n
  rw [h]
  by_cases hm : w.toNat / 2 ^ n % 2 = 1
  · simp [hm]
  · have : w.toNat / 2 ^ n % 2 = 0 := by omega
    simp [this]

@[simp] theorem b2n_ne_zero (b : Bool) : (b2n b != 0) = b := by cases b <;> rfl
@[simp] theorem b2n_mod_two (b : Bool) : b2n b % 2 = b2n b := by cases b <;> rfl
theorem b2n_le (b : Bool) : b2n b ≤ 1 := by cases b <;> decide

/-- A bit reads back what was put into it. -/
theorem bitAt_putBit_same (w : Word) {n : Nat} (b : Bool) (h : n < 32) : bitAt (putBit w n b) n = b := by
  rw [bitAt_eq, putBit, getLsbD_putBits]
  have : n ≤ n ∧ n < n + 1 ∧ n < 32 := by omega
  cases b <;> simp [this, b2n]

/-- The other bits stand. -/
theorem bitAt_putBit_ne (w : Word) {n k : Nat} (b : Bool) (h : n ≠ k) : bitAt (putBit w k b) n = bitAt w n := by
  rw [bitAt_eq, bitAt_eq, putBit, getLsbD_putBits]
  rw [if_neg (by omega)]

@[simp] theorem bitAt_or (v w : Word) (n : Nat) : bitAt (v ||| w) n = (bitAt v n || bitAt w n) := by simp [bitAt_eq]
@[simp] theorem bitAt_and (v w : Word) (n : Nat) : bitAt (v &&& w) n = (bitAt v n && bitAt w n) := by simp [bitAt_eq]

/-- Four bytes spell the word they were taken from. -/
theorem bytesWord_wordBytes (w : Word) : bytesWord (wordBytes w) = w := by
  apply BitVec.eq_of_toNat_eq
  simp only [bytesWord, wordBytes, bytesLE, BitVec.toNat_ofNat]
  have := w.isLt
  omega

end Sys2Proof.Machine
end

