-- ==== Sys2Proof/Laws/Map.lean ====
section
/-!
SUPPORT. Sys2Proof/Laws/Map.lean: sparse maps: reading back what was written, and that writing keeps the canonical form.
-/

namespace Sys2Proof.Machine.SMap
variable {α : Type}

@[simp] theorem get_nil (d : α) (k : Nat) : get d [] k = d := rfl

theorem get_erase_same (d : α) (m : SMap α) (k : Nat) : get d (erase m k) k = d := by
  induction m with
  | nil => rfl
  | cons e r ih =>
    obtain ⟨j, v⟩ := e
    by_cases h : j = k <;> simp [erase, get, h, ih]

theorem get_erase_ne (d : α) (m : SMap α) {k n : Nat} (h : n ≠ k) : get d (erase m k) n = get d m n := by
  induction m with
  | nil => rfl
  | cons e r ih =>
    obtain ⟨j, v⟩ := e
    by_cases hj : j = k
    · subst hj; simp [erase, get, ih, Ne.symm h]
    · rcases eq_or_ne j n with rfl | hn <;> simp [erase, get, *]

theorem get_insert_same (d : α) (m : SMap α) (k : Nat) (v : α) : get d (insert m k v) k = v := by
  induction m with
  | nil => simp [insert, get]
  | cons e r ih =>
    obtain ⟨j, u⟩ := e
    by_cases hj : j = k
    · simp [insert, get, hj]
    · by_cases hk : k < j <;> simp [insert, get, hj, hk, ih]

theorem get_insert_ne (d : α) (m : SMap α) {k n : Nat} (v : α) (h : n ≠ k) :
    get d (insert m k v) n = get d m n := by
  induction m with
  | nil => simp [insert, get, Ne.symm h]
  | cons e r ih =>
    obtain ⟨j, u⟩ := e
    by_cases hj : j = k
    · subst hj; simp [insert, get, Ne.symm h]
    · by_cases hk : k < j
      · simp [insert, get, hj, hk, Ne.symm h]
      · rcases eq_or_ne j n with rfl | hn <;> simp [insert, get, *]

/-- A key reads what was last written to it. -/
@[simp] theorem get_set_same [DecidableEq α] (d : α) (m : SMap α) (k : Nat) (v : α) : get d (set d m k v) k = v := by
  unfold set
  split
  · next h => rw [get_erase_same, h]
  · exact get_insert_same ..

/-- The other keys read what they read before. -/
theorem get_set_ne [DecidableEq α] (d d' : α) (m : SMap α) {k n : Nat} (v : α) (h : n ≠ k) :
    get d (set d' m k v) n = get d m n := by
  unfold set
  split
  · exact get_erase_ne _ _ h
  · exact get_insert_ne _ _ _ h

theorem get_set [DecidableEq α] (d : α) (m : SMap α) (k n : Nat) (v : α) :
    get d (set d m k v) n = if n = k then v else get d m n := by
  split
  · next h => rw [h, get_set_same]
  · next h => exact get_set_ne _ _ _ _ h

/-! ### The canonical form -/

theorem wf_iff [DecidableEq α] (d : Nat → α) (m : SMap α) : wf d m = true ↔ Wf d m := by
  induction m with
  | nil => simp [wf, Wf, Sorted]
  | cons e r ih =>
    obtain ⟨j, v⟩ := e
    simp only [wf, Bool.and_eq_true, List.all_eq_true, decide_eq_true_eq, ih, Wf, Sorted, List.forall_mem_cons]
    tauto

theorem mem_erase {m : SMap α} {k : Nat} {e : Nat × α} (h : e ∈ erase m k) : e ∈ m := by
  induction m with
  | nil => exact h
  | cons a r ih =>
    obtain ⟨j, v⟩ := a
    by_cases hj : j = k
    · simp [erase, hj] at h; exact List.mem_cons_of_mem _ (ih h)
    · simp [erase, hj] at h
      rcases h with h | h
      · simp [h]
      · exact List.mem_cons_of_mem _ (ih h)

theorem mem_insert {m : SMap α} {k : Nat} {v : α} {e : Nat × α} (h : e ∈ insert m k v) : e = (k, v) ∨ e ∈ m := by
  induction m with
  | nil => simpa [insert] using h
  | cons a r ih =>
    obtain ⟨j, u⟩ := a
    by_cases hj : j = k
    · simp [insert, hj] at h; rcases h with h | h <;> simp [h]
    · by_cases hk : k < j
      · simp [insert, hj, hk] at h; simpa using h
      · simp [insert, hj, hk] at h
        rcases h with h | h
        · simp [h]
        · rcases ih h with h | h <;> simp [h]

theorem sorted_erase {m : SMap α} (k : Nat) (h : Sorted m) : Sorted (erase m k) := by
  induction m with
  | nil => exact h
  | cons a r ih =>
    obtain ⟨j, v⟩ := a
    by_cases hj : j = k
    · simpa [erase, hj] using ih h.2
    · simp only [erase, hj, if_false]
      exact ⟨fun e he => h.1 e (mem_erase he), ih h.2⟩

theorem sorted_insert {m : SMap α} (k : Nat) (v : α) (h : Sorted m) : Sorted (insert m k v) := by
  induction m with
  | nil => simp [insert, Sorted]
  | cons a r ih =>
    obtain ⟨j, u⟩ := a
    by_cases hj : j = k
    · subst hj; simpa [insert, Sorted] using h
    · by_cases hk : k < j
      · simp only [insert, hj, hk, if_true, if_false]
        refine ⟨?_, h⟩
        intro e he
        rcases List.mem_cons.1 he with he | he
        · simpa [he] using hk
        · exact hk.trans (h.1 e he)
      · simp only [insert, hj, hk, if_false]
        refine ⟨?_, ih h.2⟩
        intro e he
        rcases mem_insert he with he | he
        · subst he; simp only; omega
        · exact h.1 e he

/-- A write keeps the canonical form. -/
theorem wf_set [DecidableEq α] {d : Nat → α} {m : SMap α} (k : Nat) (v : α) (h : Wf d m) : Wf d (set (d k) m k v) := by
  unfold set
  split
  · exact ⟨sorted_erase k h.1, fun e he => h.2 e (mem_erase he)⟩
  · next hv =>
    refine ⟨sorted_insert k v h.1, fun e he => ?_⟩
    rcases mem_insert he with he | he
    · subst he; exact hv
    · exact h.2 e he

/-- Dropping entries keeps the canonical form. -/
theorem wf_filter {d : Nat → α} {m : SMap α} (p : Nat × α → Bool) (h : Wf d m) : Wf d (m.filter p) := by
  refine ⟨?_, fun e he => h.2 e (List.mem_filter.1 he).1⟩
  have hs := h.1
  clear h
  induction m with
  | nil => exact hs
  | cons a r ih =>
    obtain ⟨j, u⟩ := a
    by_cases hp : p (j, u)
    · rw [List.filter_cons_of_pos hp]
      exact ⟨fun e he => hs.1 e (List.mem_filter.1 he).1, ih hs.2⟩
    · rw [List.filter_cons_of_neg hp]; exact ih hs.2

/-- Dropping the keys a test names leaves the others' values. -/
theorem get_filter (d : α) (m : SMap α) (p : Nat → Bool) (k : Nat) :
    get d (m.filter fun e => p e.1) k = if p k then get d m k else d := by
  induction m with
  | nil => simp
  | cons e r ih =>
    obtain ⟨j, v⟩ := e
    by_cases hp : p j
    · rw [List.filter_cons_of_pos (by simpa using hp)]
      by_cases hj : j = k
      · subst hj; simp [get, hp]
      · simp [get, hj, ih]
    · rw [List.filter_cons_of_neg (by simpa using hp), ih]
      by_cases hj : j = k
      · subst hj; simp [hp]
      · simp [get, hj]

end Sys2Proof.Machine.SMap
end

