-- ==== Sys2Proof/Laws/State.lean ====
section
/-!
SUPPORT. Sys2Proof/Laws/State.lean: what each update of the state leaves alone, one lemma a field, and what a register reads
after a write.
-/

namespace Sys2Proof.Machine

theorem Reg.ctorIdx_lt (r : Reg) : r.ctorIdx < 1024 := by cases r <;> decide

theorem Reg.ctorIdx_inj {r r' : Reg} (h : r.ctorIdx = r'.ctorIdx) : r = r' := by
  rw [← Reg.ofNat_ctorIdx r, h, Reg.ofNat_ctorIdx]

/-- Keys tell registers apart. -/
theorem Reg.key_inj {r r' : Reg} {i i' : Nat} : r.key i = r'.key i' ↔ r = r' ∧ i = i' := by
  have h1 := r.ctorIdx_lt
  have h2 := r'.ctorIdx_lt
  constructor
  · intro h
    unfold Reg.key at h
    exact ⟨Reg.ctorIdx_inj (by omega), by omega⟩
  · rintro ⟨rfl, rfl⟩; rfl

@[simp] theorem Reg.ofKey_key (r : Reg) (i : Nat) : Reg.ofKey (r.key i) = (r, i) := by
  have h := r.ctorIdx_lt
  have h1 : (1024 * i + r.ctorIdx) % 1024 = r.ctorIdx := by omega
  have h2 : (1024 * i + r.ctorIdx) / 1024 = i := by omega
  simp only [Reg.ofKey, Reg.key, h1, h2, Reg.ofNat_ctorIdx]

namespace State

/-! ### Reading a register after a write -/

/-- A register reads what was last written to it; every other register stands. -/
theorem get_put (s : State) (r r' : Reg) (i i' : Nat) (v : Word) :
    (s.put r i v).get r' i' = if r' = r ∧ i' = i then v else s.get r' i' := by
  by_cases h : r' = r ∧ i' = i
  · obtain ⟨rfl, rfl⟩ := h; simp [get, put]
  · have : r'.key i' ≠ r.key i := fun hk => h (Reg.key_inj.1 hk)
    simp [get, put, h, SMap.get_set_ne _ _ _ _ this]

@[simp] theorem get_put_same (s : State) (r : Reg) (i : Nat) (v : Word) : (s.put r i v).get r i = v := by simp [get_put]

theorem get_put_reg {r r' : Reg} (h : r' ≠ r) (s : State) (i i' : Nat) (v : Word) :
    (s.put r i v).get r' i' = s.get r' i' := by simp [get_put, h]

theorem get_put_idx {i i' : Nat} (h : i' ≠ i) (s : State) (r r' : Reg) (v : Word) :
    (s.put r i v).get r' i' = s.get r' i' := by simp [get_put, h]

theorem get_setFld (s : State) (f : Field) (r : Reg) (i j v : Nat) :
    (s.setFld f i v).get r j = if r = f.reg ∧ j = i then putBits (s.get f.reg i) f.hi f.lo v else s.get r j := by
  rw [setFld, get_put]

theorem get_setFlag (s : State) (f : Field) (r : Reg) (i j : Nat) (b : Bool) :
    (s.setFlag f i b).get r j = if r = f.reg ∧ j = i then putBits (s.get f.reg i) f.hi f.lo (b2n b) else s.get r j :=
  get_setFld ..

theorem get_setRbit (s : State) (r r' : Reg) (i j b : Nat) (v : Bool) :
    (s.setRbit r i b v).get r' j = if r' = r ∧ j = i then putBit (s.get r i) b v else s.get r' j := by
  rw [setRbit, get_put]

/-- A field reads what was last written to it, modulo its width. -/
theorem fld_setFld_same (s : State) (f : Field) (i v : Nat) (h : f.hi < 32) :
    (s.setFld f i v).fld f i = v % 2 ^ (f.hi + 1 - f.lo) := by
  simp [fld, get_setFld, bitsOf_putBits_same _ _ h]

/-- A flag reads what was last written to it. -/
theorem flag_setFlag_same (s : State) (f : Field) (i : Nat) (b : Bool) (h : f.hi < 32 := by decide)
    (h1 : f.lo ≤ f.hi := by decide) : (s.setFlag f i b).flag f i = b := by
  rw [flag, setFlag, fld_setFld_same _ _ _ _ h]
  have : 2 ≤ 2 ^ (f.hi + 1 - f.lo) := by
    calc 2 = 2 ^ 1 := rfl
      _ ≤ _ := Nat.pow_le_pow_right (by decide) (by omega)
  rw [Nat.mod_eq_of_lt (lt_of_le_of_lt (b2n_le b) (by omega)), b2n_ne_zero]

/-- A field stands when a field of another register, or another field of its own, is written. -/
theorem fld_setFld_ne (s : State) (f g : Field) (i j v : Nat)
    (h : f.reg ≠ g.reg ∨ j ≠ i ∨ f.hi < g.lo ∨ g.hi < f.lo) : (s.setFld g i v).fld f j = s.fld f j := by
  rw [fld, fld, get_setFld]
  split
  · next hh =>
    obtain ⟨hr, rfl⟩ := hh
    rw [← hr]
    exact bitsOf_putBits_ne _ _ (by tauto)
  · rfl

theorem rbit_setRbit_same (s : State) (r : Reg) (i b : Nat) (v : Bool) (h : b < 32) : (s.setRbit r i b v).rbit r i b = v := by
  simp [rbit, get_setRbit, bitAt_putBit_same _ _ h]

/-- Raising an event writes EVT_PEND and EVT_RAW alone (R46). -/
theorem get_raise (s : State) (e : Nat) (r : Reg) (i : Nat) (h1 : r ≠ .EVT_PEND) (h2 : r ≠ .EVT_RAW) :
    (raise e s).get r i = s.get r i := by
  simp [raise, get_setRbit, h1, h2]

/-- A departure writes MOD_FAULT alone (R33). -/
theorem get_depart (s : State) (r : Reg) (i : Nat) (h : r ≠ .MOD_FAULT) : (depart s).get r i = s.get r i := by
  rw [depart, get_setFlag, if_neg]
  rintro ⟨h1, -⟩; exact h h1

/-- A departure stands until the next reset (R33). -/
theorem depart_promise (s : State) : (depart s).flag MOD_FAULT_PROMISE 0 = true := flag_setFlag_same _ _ _ _

@[simp] theorem get_logTo (s : State) (q inst cau evt stamp : Nat) (d : List Word) (r : Reg) (i : Nat) :
    (logTo q inst cau evt stamp d s).get r i = s.get r i := rfl

/-- A record on its way writes no register (R396). -/
@[simp] theorem get_log38 (s : State) (inst cau evt stamp : Nat) (d : List Word) (r : Reg) (i : Nat) :
    (log38 inst cau evt stamp d s).get r i = s.get r i := by
  unfold log38; split <;> rfl

/-- An occurrence noted writes no register (R396). -/
@[simp] theorem get_raiseOf (s : State) (e inst c : Nat) (r : Reg) (i : Nat) :
    (raiseOf e inst c s).get r i = (raise e s).get r i := rfl

theorem get_raiseLog (s : State) (e inst cau stamp : Nat) (d : List Word) (r : Reg) (i : Nat) (h1 : r ≠ .EVT_PEND)
    (h2 : r ≠ .EVT_RAW) : (raiseLog e inst cau stamp d s).get r i = s.get r i := by
  rw [raiseLog, get_log38, get_raise _ _ _ _ h1 h2]

@[simp] theorem get_recNote (s : State) (rk inst stamp : Nat) (b : List Word) (r : Reg) (i : Nat) :
    (recNote rk inst stamp b s).get r i = s.get r i := by
  unfold recNote; split <;> rfl

/-- A cause writes its cause register and the event bits alone. -/
theorem get_cause (s : State) (er mr : Reg) (i b e : Nat) (r : Reg) (j : Nat) (h0 : r ≠ er) (h1 : r ≠ .EVT_PEND)
    (h2 : r ≠ .EVT_RAW) : (cause er mr i b e s).get r j = s.get r j := by
  unfold cause
  dsimp only
  split
  · rw [get_raiseOf, get_raise _ _ _ _ h1 h2, get_setRbit, if_neg (by tauto)]
  · rw [get_setRbit, if_neg (by tauto)]

/-- A fault reaction writes MOD_FAULT and the event bits alone (R439). -/
theorem get_faultReact (s : State) (b inst stamp : Nat) (r : Reg) (i : Nat) (h0 : r ≠ .MOD_FAULT) (h1 : r ≠ .EVT_PEND)
    (h2 : r ≠ .EVT_RAW) : (faultReact b inst stamp s).get r i = s.get r i := by
  rw [faultReact, get_depart _ _ _ h0, get_raiseLog _ _ _ _ _ _ _ _ h1 h2, get_setFld, if_neg]
  rintro ⟨h, -⟩; exact h0 h

/-! ### Updates of registers leave every other field of the state alone -/

@[simp] theorem put_pending (s : State) (r : Reg) (i : Nat) (v : Word) : (s.put r i v).pending = s.pending := rfl
@[simp] theorem put_tick (s : State) (r : Reg) (i : Nat) (v : Word) : (s.put r i v).tick = s.tick := rfl
@[simp] theorem put_held (s : State) (r : Reg) (i : Nat) (v : Word) : (s.put r i v).held = s.held := rfl
@[simp] theorem put_img (s : State) (r : Reg) (i : Nat) (v : Word) : (s.put r i v).img = s.img := rfl
@[simp] theorem put_mem (s : State) (r : Reg) (i : Nat) (v : Word) : (s.put r i v).mem = s.mem := rfl
@[simp] theorem put_resp (s : State) (r : Reg) (i : Nat) (v : Word) : (s.put r i v).resp = s.resp := rfl
@[simp] theorem put_free (s : State) (r : Reg) (i : Nat) (v : Word) : (s.put r i v).free = s.free := rfl
@[simp] theorem put_acc (s : State) (r : Reg) (i : Nat) (v : Word) : (s.put r i v).acc = s.acc := rfl
@[simp] theorem put_snapDue (s : State) (r : Reg) (i : Nat) (v : Word) : (s.put r i v).snapDue = s.snapDue := rfl
@[simp] theorem put_qseq (s : State) (r : Reg) (i : Nat) (v : Word) : (s.put r i v).qseq = s.qseq := rfl
@[simp] theorem put_logs (s : State) (r : Reg) (i : Nat) (v : Word) : (s.put r i v).logs = s.logs := rfl
@[simp] theorem put_phase (s : State) (r : Reg) (i : Nat) (v : Word) : (s.put r i v).phase = s.phase := rfl
@[simp] theorem put_writes (s : State) (r : Reg) (i : Nat) (v : Word) : (s.put r i v).writes = s.writes := rfl
@[simp] theorem put_occs (s : State) (r : Reg) (i : Nat) (v : Word) : (s.put r i v).occs = s.occs := rfl
@[simp] theorem put_violT (s : State) (r : Reg) (i : Nat) (v : Word) : (s.put r i v).violT = s.violT := rfl
@[simp] theorem put_streamOut (s : State) (r : Reg) (i : Nat) (v : Word) : (s.put r i v).streamOut = s.streamOut := rfl
@[simp] theorem put_axes (s : State) (r : Reg) (i : Nat) (v : Word) : (s.put r i v).axes = s.axes := rfl
@[simp] theorem put_yaw (s : State) (r : Reg) (i : Nat) (v : Word) : (s.put r i v).yaw = s.yaw := rfl
@[simp] theorem put_gnss (s : State) (r : Reg) (i : Nat) (v : Word) : (s.put r i v).gnss = s.gnss := rfl
@[simp] theorem put_rates (s : State) (r : Reg) (i : Nat) (v : Word) : (s.put r i v).rates = s.rates := rfl
@[simp] theorem put_fbs (s : State) (r : Reg) (i : Nat) (v : Word) : (s.put r i v).fbs = s.fbs := rfl
@[simp] theorem put_fwds (s : State) (r : Reg) (i : Nat) (v : Word) : (s.put r i v).fwds = s.fwds := rfl
@[simp] theorem put_fbAllMs (s : State) (r : Reg) (i : Nat) (v : Word) : (s.put r i v).fbAllMs = s.fbAllMs := rfl
@[simp] theorem put_fbAllN (s : State) (r : Reg) (i : Nat) (v : Word) : (s.put r i v).fbAllN = s.fbAllN := rfl
@[simp] theorem put_lanes (s : State) (r : Reg) (i : Nat) (v : Word) : (s.put r i v).lanes = s.lanes := rfl
@[simp] theorem put_tpls (s : State) (r : Reg) (i : Nat) (v : Word) : (s.put r i v).tpls = s.tpls := rfl
@[simp] theorem put_eff1 (s : State) (r : Reg) (i : Nat) (v : Word) : (s.put r i v).eff1 = s.eff1 := rfl
@[simp] theorem put_eff2 (s : State) (r : Reg) (i : Nat) (v : Word) : (s.put r i v).eff2 = s.eff2 := rfl
@[simp] theorem put_effRem (s : State) (r : Reg) (i : Nat) (v : Word) : (s.put r i v).effRem = s.effRem := rfl
@[simp] theorem put_pulses (s : State) (r : Reg) (i : Nat) (v : Word) : (s.put r i v).pulses = s.pulses := rfl
@[simp] theorem put_sampleReq (s : State) (r : Reg) (i : Nat) (v : Word) : (s.put r i v).sampleReq = s.sampleReq := rfl
@[simp] theorem put_captureReq (s : State) (r : Reg) (i : Nat) (v : Word) : (s.put r i v).captureReq = s.captureReq := rfl
@[simp] theorem put_geo (s : State) (r : Reg) (i : Nat) (v : Word) : (s.put r i v).geo = s.geo := rfl
@[simp] theorem put_apps (s : State) (r : Reg) (i : Nat) (v : Word) : (s.put r i v).apps = s.apps := rfl
@[simp] theorem put_opens (s : State) (r : Reg) (i : Nat) (v : Word) : (s.put r i v).opens = s.opens := rfl
@[simp] theorem put_stiles (s : State) (r : Reg) (i : Nat) (v : Word) : (s.put r i v).stiles = s.stiles := rfl
@[simp] theorem put_mtiles (s : State) (r : Reg) (i : Nat) (v : Word) : (s.put r i v).mtiles = s.mtiles := rfl
@[simp] theorem put_imu (s : State) (r : Reg) (i : Nat) (v : Word) : (s.put r i v).imu = s.imu := rfl
@[simp] theorem put_shadow (s : State) (r : Reg) (i : Nat) (v : Word) : (s.put r i v).shadow = s.shadow := rfl
@[simp] theorem put_slices (s : State) (r : Reg) (i : Nat) (v : Word) : (s.put r i v).slices = s.slices := rfl
@[simp] theorem put_pairs (s : State) (r : Reg) (i : Nat) (v : Word) : (s.put r i v).pairs = s.pairs := rfl
@[simp] theorem put_valves (s : State) (r : Reg) (i : Nat) (v : Word) : (s.put r i v).valves = s.valves := rfl
@[simp] theorem put_vgroups (s : State) (r : Reg) (i : Nat) (v : Word) : (s.put r i v).vgroups = s.vgroups := rfl
@[simp] theorem put_fltEn (s : State) (r : Reg) (i : Nat) (v : Word) : (s.put r i v).fltEn = s.fltEn := rfl
@[simp] theorem put_vrecs (s : State) (r : Reg) (i : Nat) (v : Word) : (s.put r i v).vrecs = s.vrecs := rfl
@[simp] theorem put_relTick (s : State) (r : Reg) (i : Nat) (v : Word) : (s.put r i v).relTick = s.relTick := rfl
@[simp] theorem put_lss (s : State) (r : Reg) (i : Nat) (v : Word) : (s.put r i v).lss = s.lss := rfl
@[simp] theorem put_sense (s : State) (r : Reg) (i : Nat) (v : Word) : (s.put r i v).sense = s.sense := rfl
@[simp] theorem put_lsDown (s : State) (r : Reg) (i : Nat) (v : Word) : (s.put r i v).lsDown = s.lsDown := rfl
@[simp] theorem put_lsHold (s : State) (r : Reg) (i : Nat) (v : Word) : (s.put r i v).lsHold = s.lsHold := rfl
@[simp] theorem put_lsOsc (s : State) (r : Reg) (i : Nat) (v : Word) : (s.put r i v).lsOsc = s.lsOsc := rfl
@[simp] theorem put_pcs (s : State) (r : Reg) (i : Nat) (v : Word) : (s.put r i v).pcs = s.pcs := rfl
@[simp] theorem put_rot (s : State) (r : Reg) (i : Nat) (v : Word) : (s.put r i v).rot = s.rot := rfl
@[simp] theorem put_coefs (s : State) (r : Reg) (i : Nat) (v : Word) : (s.put r i v).coefs = s.coefs := rfl
@[simp] theorem put_gcs (s : State) (r : Reg) (i : Nat) (v : Word) : (s.put r i v).gcs = s.gcs := rfl
@[simp] theorem put_zcs (s : State) (r : Reg) (i : Nat) (v : Word) : (s.put r i v).zcs = s.zcs := rfl
@[simp] theorem put_aos (s : State) (r : Reg) (i : Nat) (v : Word) : (s.put r i v).aos = s.aos := rfl
@[simp] theorem put_lps (s : State) (r : Reg) (i : Nat) (v : Word) : (s.put r i v).lps = s.lps := rfl
@[simp] theorem put_grps (s : State) (r : Reg) (i : Nat) (v : Word) : (s.put r i v).grps = s.grps := rfl
@[simp] theorem put_tgs (s : State) (r : Reg) (i : Nat) (v : Word) : (s.put r i v).tgs = s.tgs := rfl
@[simp] theorem put_lpReleased (s : State) (r : Reg) (i : Nat) (v : Word) : (s.put r i v).lpReleased = s.lpReleased := rfl
@[simp] theorem put_lpDustDue (s : State) (r : Reg) (i : Nat) (v : Word) : (s.put r i v).lpDustDue = s.lpDustDue := rfl
@[simp] theorem put_upd4 (s : State) (r : Reg) (i : Nat) (v : Word) : (s.put r i v).upd4 = s.upd4 := rfl
@[simp] theorem put_dps (s : State) (r : Reg) (i : Nat) (v : Word) : (s.put r i v).dps = s.dps := rfl
@[simp] theorem put_sensT (s : State) (r : Reg) (i : Nat) (v : Word) : (s.put r i v).sensT = s.sensT := rfl
@[simp] theorem put_aeSince (s : State) (r : Reg) (i : Nat) (v : Word) : (s.put r i v).aeSince = s.aeSince := rfl
@[simp] theorem put_kcDue (s : State) (r : Reg) (i : Nat) (v : Word) : (s.put r i v).kcDue = s.kcDue := rfl
@[simp] theorem put_cans (s : State) (r : Reg) (i : Nat) (v : Word) : (s.put r i v).cans = s.cans := rfl
@[simp] theorem put_sbs (s : State) (r : Reg) (i : Nat) (v : Word) : (s.put r i v).sbs = s.sbs := rfl
@[simp] theorem put_canSeen (s : State) (r : Reg) (i : Nat) (v : Word) : (s.put r i v).canSeen = s.canSeen := rfl
@[simp] theorem put_closed (s : State) (r : Reg) (i : Nat) (v : Word) : (s.put r i v).closed = s.closed := rfl
@[simp] theorem put_cmdT (s : State) (r : Reg) (i : Nat) (v : Word) : (s.put r i v).cmdT = s.cmdT := rfl
@[simp] theorem put_sess (s : State) (r : Reg) (i : Nat) (v : Word) : (s.put r i v).sess = s.sess := rfl
@[simp] theorem put_ports (s : State) (r : Reg) (i : Nat) (v : Word) : (s.put r i v).ports = s.ports := rfl
@[simp] theorem put_out (s : State) (r : Reg) (i : Nat) (v : Word) : (s.put r i v).out = s.out := rfl
@[simp] theorem put_hcs (s : State) (r : Reg) (i : Nat) (v : Word) : (s.put r i v).hcs = s.hcs := rfl
@[simp] theorem put_hcMem (s : State) (r : Reg) (i : Nat) (v : Word) : (s.put r i v).hcMem = s.hcMem := rfl
@[simp] theorem put_hcImg (s : State) (r : Reg) (i : Nat) (v : Word) : (s.put r i v).hcImg = s.hcImg := rfl
@[simp] theorem put_boot (s : State) (r : Reg) (i : Nat) (v : Word) : (s.put r i v).boot = s.boot := rfl
@[simp] theorem put_mm (s : State) (r : Reg) (i : Nat) (v : Word) : (s.put r i v).mm = s.mm := rfl
@[simp] theorem put_recorder (s : State) (r : Reg) (i : Nat) (v : Word) : (s.put r i v).recorder = s.recorder := rfl
@[simp] theorem put_replay (s : State) (r : Reg) (i : Nat) (v : Word) : (s.put r i v).replay = s.replay := rfl
@[simp] theorem put_early (s : State) (r : Reg) (i : Nat) (v : Word) : (s.put r i v).early = s.early := rfl
@[simp] theorem put_imgKey (s : State) (r : Reg) (i : Nat) (v : Word) : (s.put r i v).imgKey = s.imgKey := rfl
@[simp] theorem setFld_pending (s : State) (f : Field) (i v : Nat) : (s.setFld f i v).pending = s.pending := rfl
@[simp] theorem setFld_tick (s : State) (f : Field) (i v : Nat) : (s.setFld f i v).tick = s.tick := rfl
@[simp] theorem setFld_held (s : State) (f : Field) (i v : Nat) : (s.setFld f i v).held = s.held := rfl
@[simp] theorem setFld_mem (s : State) (f : Field) (i v : Nat) : (s.setFld f i v).mem = s.mem := rfl
@[simp] theorem setFld_resp (s : State) (f : Field) (i v : Nat) : (s.setFld f i v).resp = s.resp := rfl
@[simp] theorem setFld_free (s : State) (f : Field) (i v : Nat) : (s.setFld f i v).free = s.free := rfl
@[simp] theorem setFld_acc (s : State) (f : Field) (i v : Nat) : (s.setFld f i v).acc = s.acc := rfl
@[simp] theorem setFld_logs (s : State) (f : Field) (i v : Nat) : (s.setFld f i v).logs = s.logs := rfl
@[simp] theorem setFld_writes (s : State) (f : Field) (i v : Nat) : (s.setFld f i v).writes = s.writes := rfl
@[simp] theorem setFld_occs (s : State) (f : Field) (i v : Nat) : (s.setFld f i v).occs = s.occs := rfl
@[simp] theorem setFld_closed (s : State) (f : Field) (i v : Nat) : (s.setFld f i v).closed = s.closed := rfl
@[simp] theorem setFld_out (s : State) (f : Field) (i v : Nat) : (s.setFld f i v).out = s.out := rfl
@[simp] theorem setFld_boot (s : State) (f : Field) (i v : Nat) : (s.setFld f i v).boot = s.boot := rfl
@[simp] theorem setFld_recorder (s : State) (f : Field) (i v : Nat) : (s.setFld f i v).recorder = s.recorder := rfl
@[simp] theorem setFld_early (s : State) (f : Field) (i v : Nat) : (s.setFld f i v).early = s.early := rfl
@[simp] theorem setFld_imgKey (s : State) (f : Field) (i v : Nat) : (s.setFld f i v).imgKey = s.imgKey := rfl
@[simp] theorem setFlag_pending (s : State) (f : Field) (i : Nat) (b : Bool) : (s.setFlag f i b).pending = s.pending := rfl
@[simp] theorem setFlag_tick (s : State) (f : Field) (i : Nat) (b : Bool) : (s.setFlag f i b).tick = s.tick := rfl
@[simp] theorem setFlag_held (s : State) (f : Field) (i : Nat) (b : Bool) : (s.setFlag f i b).held = s.held := rfl
@[simp] theorem setFlag_mem (s : State) (f : Field) (i : Nat) (b : Bool) : (s.setFlag f i b).mem = s.mem := rfl
@[simp] theorem setFlag_resp (s : State) (f : Field) (i : Nat) (b : Bool) : (s.setFlag f i b).resp = s.resp := rfl
@[simp] theorem setFlag_free (s : State) (f : Field) (i : Nat) (b : Bool) : (s.setFlag f i b).free = s.free := rfl
@[simp] theorem setFlag_acc (s : State) (f : Field) (i : Nat) (b : Bool) : (s.setFlag f i b).acc = s.acc := rfl
@[simp] theorem setFlag_logs (s : State) (f : Field) (i : Nat) (b : Bool) : (s.setFlag f i b).logs = s.logs := rfl
@[simp] theorem setFlag_writes (s : State) (f : Field) (i : Nat) (b : Bool) : (s.setFlag f i b).writes = s.writes := rfl
@[simp] theorem setFlag_occs (s : State) (f : Field) (i : Nat) (b : Bool) : (s.setFlag f i b).occs = s.occs := rfl
@[simp] theorem setFlag_closed (s : State) (f : Field) (i : Nat) (b : Bool) : (s.setFlag f i b).closed = s.closed := rfl
@[simp] theorem setFlag_out (s : State) (f : Field) (i : Nat) (b : Bool) : (s.setFlag f i b).out = s.out := rfl
@[simp] theorem setFlag_boot (s : State) (f : Field) (i : Nat) (b : Bool) : (s.setFlag f i b).boot = s.boot := rfl
@[simp] theorem setFlag_recorder (s : State) (f : Field) (i : Nat) (b : Bool) : (s.setFlag f i b).recorder = s.recorder := rfl
@[simp] theorem setFlag_early (s : State) (f : Field) (i : Nat) (b : Bool) : (s.setFlag f i b).early = s.early := rfl
@[simp] theorem setFlag_imgKey (s : State) (f : Field) (i : Nat) (b : Bool) : (s.setFlag f i b).imgKey = s.imgKey := rfl
@[simp] theorem setRbit_pending (s : State) (r : Reg) (i b : Nat) (v : Bool) : (s.setRbit r i b v).pending = s.pending := rfl
@[simp] theorem setRbit_tick (s : State) (r : Reg) (i b : Nat) (v : Bool) : (s.setRbit r i b v).tick = s.tick := rfl
@[simp] theorem setRbit_held (s : State) (r : Reg) (i b : Nat) (v : Bool) : (s.setRbit r i b v).held = s.held := rfl
@[simp] theorem setRbit_mem (s : State) (r : Reg) (i b : Nat) (v : Bool) : (s.setRbit r i b v).mem = s.mem := rfl
@[simp] theorem setRbit_resp (s : State) (r : Reg) (i b : Nat) (v : Bool) : (s.setRbit r i b v).resp = s.resp := rfl
@[simp] theorem setRbit_free (s : State) (r : Reg) (i b : Nat) (v : Bool) : (s.setRbit r i b v).free = s.free := rfl
@[simp] theorem setRbit_acc (s : State) (r : Reg) (i b : Nat) (v : Bool) : (s.setRbit r i b v).acc = s.acc := rfl
@[simp] theorem setRbit_logs (s : State) (r : Reg) (i b : Nat) (v : Bool) : (s.setRbit r i b v).logs = s.logs := rfl
@[simp] theorem setRbit_writes (s : State) (r : Reg) (i b : Nat) (v : Bool) : (s.setRbit r i b v).writes = s.writes := rfl
@[simp] theorem setRbit_occs (s : State) (r : Reg) (i b : Nat) (v : Bool) : (s.setRbit r i b v).occs = s.occs := rfl
@[simp] theorem setRbit_closed (s : State) (r : Reg) (i b : Nat) (v : Bool) : (s.setRbit r i b v).closed = s.closed := rfl
@[simp] theorem setRbit_out (s : State) (r : Reg) (i b : Nat) (v : Bool) : (s.setRbit r i b v).out = s.out := rfl
@[simp] theorem setRbit_boot (s : State) (r : Reg) (i b : Nat) (v : Bool) : (s.setRbit r i b v).boot = s.boot := rfl
@[simp] theorem setRbit_recorder (s : State) (r : Reg) (i b : Nat) (v : Bool) : (s.setRbit r i b v).recorder = s.recorder := rfl
@[simp] theorem setRbit_early (s : State) (r : Reg) (i b : Nat) (v : Bool) : (s.setRbit r i b v).early = s.early := rfl
@[simp] theorem setRbit_imgKey (s : State) (r : Reg) (i b : Nat) (v : Bool) : (s.setRbit r i b v).imgKey = s.imgKey := rfl
@[simp] theorem setFldOf_pending (s : State) (r : Reg) (i hi lo v : Nat) : (s.setFldOf r i hi lo v).pending = s.pending := rfl
@[simp] theorem setFldOf_tick (s : State) (r : Reg) (i hi lo v : Nat) : (s.setFldOf r i hi lo v).tick = s.tick := rfl
@[simp] theorem setFldOf_held (s : State) (r : Reg) (i hi lo v : Nat) : (s.setFldOf r i hi lo v).held = s.held := rfl
@[simp] theorem setFldOf_mem (s : State) (r : Reg) (i hi lo v : Nat) : (s.setFldOf r i hi lo v).mem = s.mem := rfl
@[simp] theorem setFldOf_resp (s : State) (r : Reg) (i hi lo v : Nat) : (s.setFldOf r i hi lo v).resp = s.resp := rfl
@[simp] theorem setFldOf_free (s : State) (r : Reg) (i hi lo v : Nat) : (s.setFldOf r i hi lo v).free = s.free := rfl
@[simp] theorem setFldOf_acc (s : State) (r : Reg) (i hi lo v : Nat) : (s.setFldOf r i hi lo v).acc = s.acc := rfl
@[simp] theorem setFldOf_logs (s : State) (r : Reg) (i hi lo v : Nat) : (s.setFldOf r i hi lo v).logs = s.logs := rfl
@[simp] theorem setFldOf_writes (s : State) (r : Reg) (i hi lo v : Nat) : (s.setFldOf r i hi lo v).writes = s.writes := rfl
@[simp] theorem setFldOf_occs (s : State) (r : Reg) (i hi lo v : Nat) : (s.setFldOf r i hi lo v).occs = s.occs := rfl
@[simp] theorem setFldOf_closed (s : State) (r : Reg) (i hi lo v : Nat) : (s.setFldOf r i hi lo v).closed = s.closed := rfl
@[simp] theorem setFldOf_out (s : State) (r : Reg) (i hi lo v : Nat) : (s.setFldOf r i hi lo v).out = s.out := rfl
@[simp] theorem setFldOf_boot (s : State) (r : Reg) (i hi lo v : Nat) : (s.setFldOf r i hi lo v).boot = s.boot := rfl
@[simp] theorem setFldOf_recorder (s : State) (r : Reg) (i hi lo v : Nat) : (s.setFldOf r i hi lo v).recorder = s.recorder := rfl
@[simp] theorem setFldOf_early (s : State) (r : Reg) (i hi lo v : Nat) : (s.setFldOf r i hi lo v).early = s.early := rfl
@[simp] theorem setFldOf_imgKey (s : State) (r : Reg) (i hi lo v : Nat) : (s.setFldOf r i hi lo v).imgKey = s.imgKey := rfl
@[simp] theorem incSat_pending (s : State) (f : Field) (i : Nat) : (s.incSat f i).pending = s.pending := rfl
@[simp] theorem incSat_tick (s : State) (f : Field) (i : Nat) : (s.incSat f i).tick = s.tick := rfl
@[simp] theorem incSat_held (s : State) (f : Field) (i : Nat) : (s.incSat f i).held = s.held := rfl
@[simp] theorem incSat_mem (s : State) (f : Field) (i : Nat) : (s.incSat f i).mem = s.mem := rfl
@[simp] theorem incSat_resp (s : State) (f : Field) (i : Nat) : (s.incSat f i).resp = s.resp := rfl
@[simp] theorem incSat_free (s : State) (f : Field) (i : Nat) : (s.incSat f i).free = s.free := rfl
@[simp] theorem incSat_acc (s : State) (f : Field) (i : Nat) : (s.incSat f i).acc = s.acc := rfl
@[simp] theorem incSat_logs (s : State) (f : Field) (i : Nat) : (s.incSat f i).logs = s.logs := rfl
@[simp] theorem incSat_writes (s : State) (f : Field) (i : Nat) : (s.incSat f i).writes = s.writes := rfl
@[simp] theorem incSat_occs (s : State) (f : Field) (i : Nat) : (s.incSat f i).occs = s.occs := rfl
@[simp] theorem incSat_closed (s : State) (f : Field) (i : Nat) : (s.incSat f i).closed = s.closed := rfl
@[simp] theorem incSat_out (s : State) (f : Field) (i : Nat) : (s.incSat f i).out = s.out := rfl
@[simp] theorem incSat_boot (s : State) (f : Field) (i : Nat) : (s.incSat f i).boot = s.boot := rfl
@[simp] theorem incSat_recorder (s : State) (f : Field) (i : Nat) : (s.incSat f i).recorder = s.recorder := rfl
@[simp] theorem incSat_early (s : State) (f : Field) (i : Nat) : (s.incSat f i).early = s.early := rfl
@[simp] theorem incSat_imgKey (s : State) (f : Field) (i : Nat) : (s.incSat f i).imgKey = s.imgKey := rfl
@[simp] theorem incMod_pending (s : State) (f : Field) (i : Nat) : (s.incMod f i).pending = s.pending := rfl
@[simp] theorem incMod_tick (s : State) (f : Field) (i : Nat) : (s.incMod f i).tick = s.tick := rfl
@[simp] theorem incMod_held (s : State) (f : Field) (i : Nat) : (s.incMod f i).held = s.held := rfl
@[simp] theorem incMod_mem (s : State) (f : Field) (i : Nat) : (s.incMod f i).mem = s.mem := rfl
@[simp] theorem incMod_resp (s : State) (f : Field) (i : Nat) : (s.incMod f i).resp = s.resp := rfl
@[simp] theorem incMod_free (s : State) (f : Field) (i : Nat) : (s.incMod f i).free = s.free := rfl
@[simp] theorem incMod_acc (s : State) (f : Field) (i : Nat) : (s.incMod f i).acc = s.acc := rfl
@[simp] theorem incMod_logs (s : State) (f : Field) (i : Nat) : (s.incMod f i).logs = s.logs := rfl
@[simp] theorem incMod_writes (s : State) (f : Field) (i : Nat) : (s.incMod f i).writes = s.writes := rfl
@[simp] theorem incMod_occs (s : State) (f : Field) (i : Nat) : (s.incMod f i).occs = s.occs := rfl
@[simp] theorem incMod_closed (s : State) (f : Field) (i : Nat) : (s.incMod f i).closed = s.closed := rfl
@[simp] theorem incMod_out (s : State) (f : Field) (i : Nat) : (s.incMod f i).out = s.out := rfl
@[simp] theorem incMod_boot (s : State) (f : Field) (i : Nat) : (s.incMod f i).boot = s.boot := rfl
@[simp] theorem incMod_recorder (s : State) (f : Field) (i : Nat) : (s.incMod f i).recorder = s.recorder := rfl
@[simp] theorem incMod_early (s : State) (f : Field) (i : Nat) : (s.incMod f i).early = s.early := rfl
@[simp] theorem incMod_imgKey (s : State) (f : Field) (i : Nat) : (s.incMod f i).imgKey = s.imgKey := rfl
@[simp] theorem addSat_pending (s : State) (f : Field) (i n : Nat) : (s.addSat f i n).pending = s.pending := rfl
@[simp] theorem addSat_tick (s : State) (f : Field) (i n : Nat) : (s.addSat f i n).tick = s.tick := rfl
@[simp] theorem addSat_held (s : State) (f : Field) (i n : Nat) : (s.addSat f i n).held = s.held := rfl
@[simp] theorem addSat_mem (s : State) (f : Field) (i n : Nat) : (s.addSat f i n).mem = s.mem := rfl
@[simp] theorem addSat_resp (s : State) (f : Field) (i n : Nat) : (s.addSat f i n).resp = s.resp := rfl
@[simp] theorem addSat_free (s : State) (f : Field) (i n : Nat) : (s.addSat f i n).free = s.free := rfl
@[simp] theorem addSat_acc (s : State) (f : Field) (i n : Nat) : (s.addSat f i n).acc = s.acc := rfl
@[simp] theorem addSat_logs (s : State) (f : Field) (i n : Nat) : (s.addSat f i n).logs = s.logs := rfl
@[simp] theorem addSat_writes (s : State) (f : Field) (i n : Nat) : (s.addSat f i n).writes = s.writes := rfl
@[simp] theorem addSat_occs (s : State) (f : Field) (i n : Nat) : (s.addSat f i n).occs = s.occs := rfl
@[simp] theorem addSat_closed (s : State) (f : Field) (i n : Nat) : (s.addSat f i n).closed = s.closed := rfl
@[simp] theorem addSat_out (s : State) (f : Field) (i n : Nat) : (s.addSat f i n).out = s.out := rfl
@[simp] theorem addSat_boot (s : State) (f : Field) (i n : Nat) : (s.addSat f i n).boot = s.boot := rfl
@[simp] theorem addSat_recorder (s : State) (f : Field) (i n : Nat) : (s.addSat f i n).recorder = s.recorder := rfl
@[simp] theorem addSat_early (s : State) (f : Field) (i n : Nat) : (s.addSat f i n).early = s.early := rfl
@[simp] theorem addSat_imgKey (s : State) (f : Field) (i n : Nat) : (s.addSat f i n).imgKey = s.imgKey := rfl
@[simp] theorem addMod_pending (s : State) (f : Field) (i n : Nat) : (s.addMod f i n).pending = s.pending := rfl
@[simp] theorem addMod_tick (s : State) (f : Field) (i n : Nat) : (s.addMod f i n).tick = s.tick := rfl
@[simp] theorem addMod_held (s : State) (f : Field) (i n : Nat) : (s.addMod f i n).held = s.held := rfl
@[simp] theorem addMod_mem (s : State) (f : Field) (i n : Nat) : (s.addMod f i n).mem = s.mem := rfl
@[simp] theorem addMod_resp (s : State) (f : Field) (i n : Nat) : (s.addMod f i n).resp = s.resp := rfl
@[simp] theorem addMod_free (s : State) (f : Field) (i n : Nat) : (s.addMod f i n).free = s.free := rfl
@[simp] theorem addMod_acc (s : State) (f : Field) (i n : Nat) : (s.addMod f i n).acc = s.acc := rfl
@[simp] theorem addMod_logs (s : State) (f : Field) (i n : Nat) : (s.addMod f i n).logs = s.logs := rfl
@[simp] theorem addMod_writes (s : State) (f : Field) (i n : Nat) : (s.addMod f i n).writes = s.writes := rfl
@[simp] theorem addMod_occs (s : State) (f : Field) (i n : Nat) : (s.addMod f i n).occs = s.occs := rfl
@[simp] theorem addMod_closed (s : State) (f : Field) (i n : Nat) : (s.addMod f i n).closed = s.closed := rfl
@[simp] theorem addMod_out (s : State) (f : Field) (i n : Nat) : (s.addMod f i n).out = s.out := rfl
@[simp] theorem addMod_boot (s : State) (f : Field) (i n : Nat) : (s.addMod f i n).boot = s.boot := rfl
@[simp] theorem addMod_recorder (s : State) (f : Field) (i n : Nat) : (s.addMod f i n).recorder = s.recorder := rfl
@[simp] theorem addMod_early (s : State) (f : Field) (i n : Nat) : (s.addMod f i n).early = s.early := rfl
@[simp] theorem addMod_imgKey (s : State) (f : Field) (i n : Nat) : (s.addMod f i n).imgKey = s.imgKey := rfl
@[simp] theorem put64_pending (s : State) (lo hi : Reg) (i t : Nat) : (s.put64 lo hi i t).pending = s.pending := rfl
@[simp] theorem put64_tick (s : State) (lo hi : Reg) (i t : Nat) : (s.put64 lo hi i t).tick = s.tick := rfl
@[simp] theorem put64_held (s : State) (lo hi : Reg) (i t : Nat) : (s.put64 lo hi i t).held = s.held := rfl
@[simp] theorem put64_mem (s : State) (lo hi : Reg) (i t : Nat) : (s.put64 lo hi i t).mem = s.mem := rfl
@[simp] theorem put64_resp (s : State) (lo hi : Reg) (i t : Nat) : (s.put64 lo hi i t).resp = s.resp := rfl
@[simp] theorem put64_free (s : State) (lo hi : Reg) (i t : Nat) : (s.put64 lo hi i t).free = s.free := rfl
@[simp] theorem put64_acc (s : State) (lo hi : Reg) (i t : Nat) : (s.put64 lo hi i t).acc = s.acc := rfl
@[simp] theorem put64_logs (s : State) (lo hi : Reg) (i t : Nat) : (s.put64 lo hi i t).logs = s.logs := rfl
@[simp] theorem put64_writes (s : State) (lo hi : Reg) (i t : Nat) : (s.put64 lo hi i t).writes = s.writes := rfl
@[simp] theorem put64_occs (s : State) (lo hi : Reg) (i t : Nat) : (s.put64 lo hi i t).occs = s.occs := rfl
@[simp] theorem put64_closed (s : State) (lo hi : Reg) (i t : Nat) : (s.put64 lo hi i t).closed = s.closed := rfl
@[simp] theorem put64_out (s : State) (lo hi : Reg) (i t : Nat) : (s.put64 lo hi i t).out = s.out := rfl
@[simp] theorem put64_boot (s : State) (lo hi : Reg) (i t : Nat) : (s.put64 lo hi i t).boot = s.boot := rfl
@[simp] theorem put64_recorder (s : State) (lo hi : Reg) (i t : Nat) : (s.put64 lo hi i t).recorder = s.recorder := rfl
@[simp] theorem put64_early (s : State) (lo hi : Reg) (i t : Nat) : (s.put64 lo hi i t).early = s.early := rfl
@[simp] theorem put64_imgKey (s : State) (lo hi : Reg) (i t : Nat) : (s.put64 lo hi i t).imgKey = s.imgKey := rfl
@[simp] theorem raise_pending (s : State) (e : Nat) : (raise e s).pending = s.pending := rfl
@[simp] theorem raise_tick (s : State) (e : Nat) : (raise e s).tick = s.tick := rfl
@[simp] theorem raise_held (s : State) (e : Nat) : (raise e s).held = s.held := rfl
@[simp] theorem raise_mem (s : State) (e : Nat) : (raise e s).mem = s.mem := rfl
@[simp] theorem raise_resp (s : State) (e : Nat) : (raise e s).resp = s.resp := rfl
@[simp] theorem raise_free (s : State) (e : Nat) : (raise e s).free = s.free := rfl
@[simp] theorem raise_acc (s : State) (e : Nat) : (raise e s).acc = s.acc := rfl
@[simp] theorem raise_logs (s : State) (e : Nat) : (raise e s).logs = s.logs := rfl
@[simp] theorem raise_writes (s : State) (e : Nat) : (raise e s).writes = s.writes := rfl
@[simp] theorem raise_occs (s : State) (e : Nat) : (raise e s).occs = s.occs := rfl
@[simp] theorem raise_closed (s : State) (e : Nat) : (raise e s).closed = s.closed := rfl
@[simp] theorem raise_out (s : State) (e : Nat) : (raise e s).out = s.out := rfl
@[simp] theorem raise_boot (s : State) (e : Nat) : (raise e s).boot = s.boot := rfl
@[simp] theorem raise_recorder (s : State) (e : Nat) : (raise e s).recorder = s.recorder := rfl
@[simp] theorem raise_early (s : State) (e : Nat) : (raise e s).early = s.early := rfl
@[simp] theorem raise_imgKey (s : State) (e : Nat) : (raise e s).imgKey = s.imgKey := rfl
@[simp] theorem depart_pending (s : State)  : (depart s).pending = s.pending := rfl
@[simp] theorem depart_tick (s : State)  : (depart s).tick = s.tick := rfl
@[simp] theorem depart_held (s : State)  : (depart s).held = s.held := rfl
@[simp] theorem depart_mem (s : State)  : (depart s).mem = s.mem := rfl
@[simp] theorem depart_resp (s : State)  : (depart s).resp = s.resp := rfl
@[simp] theorem depart_free (s : State)  : (depart s).free = s.free := rfl
@[simp] theorem depart_acc (s : State)  : (depart s).acc = s.acc := rfl
@[simp] theorem depart_logs (s : State)  : (depart s).logs = s.logs := rfl
@[simp] theorem depart_writes (s : State)  : (depart s).writes = s.writes := rfl
@[simp] theorem depart_occs (s : State)  : (depart s).occs = s.occs := rfl
@[simp] theorem depart_closed (s : State)  : (depart s).closed = s.closed := rfl
@[simp] theorem depart_out (s : State)  : (depart s).out = s.out := rfl
@[simp] theorem depart_boot (s : State)  : (depart s).boot = s.boot := rfl
@[simp] theorem depart_recorder (s : State)  : (depart s).recorder = s.recorder := rfl
@[simp] theorem depart_early (s : State)  : (depart s).early = s.early := rfl
@[simp] theorem depart_imgKey (s : State)  : (depart s).imgKey = s.imgKey := rfl
@[simp] theorem setAxPos_pending (s : State) (i : Nat) (x : Int) : (setAxPos i x s).pending = s.pending := rfl
@[simp] theorem setAxPos_tick (s : State) (i : Nat) (x : Int) : (setAxPos i x s).tick = s.tick := rfl
@[simp] theorem setAxPos_held (s : State) (i : Nat) (x : Int) : (setAxPos i x s).held = s.held := rfl
@[simp] theorem setAxPos_mem (s : State) (i : Nat) (x : Int) : (setAxPos i x s).mem = s.mem := rfl
@[simp] theorem setAxPos_resp (s : State) (i : Nat) (x : Int) : (setAxPos i x s).resp = s.resp := rfl
@[simp] theorem setAxPos_free (s : State) (i : Nat) (x : Int) : (setAxPos i x s).free = s.free := rfl
@[simp] theorem setAxPos_acc (s : State) (i : Nat) (x : Int) : (setAxPos i x s).acc = s.acc := rfl
@[simp] theorem setAxPos_logs (s : State) (i : Nat) (x : Int) : (setAxPos i x s).logs = s.logs := rfl
@[simp] theorem setAxPos_writes (s : State) (i : Nat) (x : Int) : (setAxPos i x s).writes = s.writes := rfl
@[simp] theorem setAxPos_occs (s : State) (i : Nat) (x : Int) : (setAxPos i x s).occs = s.occs := rfl
@[simp] theorem setAxPos_closed (s : State) (i : Nat) (x : Int) : (setAxPos i x s).closed = s.closed := rfl
@[simp] theorem setAxPos_out (s : State) (i : Nat) (x : Int) : (setAxPos i x s).out = s.out := rfl
@[simp] theorem setAxPos_boot (s : State) (i : Nat) (x : Int) : (setAxPos i x s).boot = s.boot := rfl
@[simp] theorem setAxPos_recorder (s : State) (i : Nat) (x : Int) : (setAxPos i x s).recorder = s.recorder := rfl
@[simp] theorem setAxPos_early (s : State) (i : Nat) (x : Int) : (setAxPos i x s).early = s.early := rfl
@[simp] theorem setAxPos_imgKey (s : State) (i : Nat) (x : Int) : (setAxPos i x s).imgKey = s.imgKey := rfl

/-! ### The other updates -/

@[simp] theorem logTo_pending (s : State) (q n c e t : Nat) (d : List Word) : (logTo q n c e t d s).pending = s.pending := rfl
@[simp] theorem logTo_tick (s : State) (q n c e t : Nat) (d : List Word) : (logTo q n c e t d s).tick = s.tick := rfl
@[simp] theorem logTo_held (s : State) (q n c e t : Nat) (d : List Word) : (logTo q n c e t d s).held = s.held := rfl
@[simp] theorem logTo_mem (s : State) (q n c e t : Nat) (d : List Word) : (logTo q n c e t d s).mem = s.mem := rfl
@[simp] theorem logTo_resp (s : State) (q n c e t : Nat) (d : List Word) : (logTo q n c e t d s).resp = s.resp := rfl
@[simp] theorem logTo_free (s : State) (q n c e t : Nat) (d : List Word) : (logTo q n c e t d s).free = s.free := rfl
@[simp] theorem logTo_acc (s : State) (q n c e t : Nat) (d : List Word) : (logTo q n c e t d s).acc = s.acc := rfl
@[simp] theorem logTo_boot (s : State) (q n c e t : Nat) (d : List Word) : (logTo q n c e t d s).boot = s.boot := rfl
@[simp] theorem logTo_closed (s : State) (q n c e t : Nat) (d : List Word) : (logTo q n c e t d s).closed = s.closed := rfl
@[simp] theorem logTo_recorder (s : State) (q n c e t : Nat) (d : List Word) : (logTo q n c e t d s).recorder = s.recorder := rfl
@[simp] theorem logTo_out (s : State) (q n c e t : Nat) (d : List Word) : (logTo q n c e t d s).out = s.out := rfl
@[simp] theorem logTo_early (s : State) (q n c e t : Nat) (d : List Word) : (logTo q n c e t d s).early = s.early := rfl
@[simp] theorem logTo_imgKey (s : State) (q n c e t : Nat) (d : List Word) : (logTo q n c e t d s).imgKey = s.imgKey := rfl
@[simp] theorem wrByte_pending (s : State) (a : Nat) (b : Byte) : (s.wrByte a b).pending = s.pending := rfl
@[simp] theorem wrByte_tick (s : State) (a : Nat) (b : Byte) : (s.wrByte a b).tick = s.tick := rfl
@[simp] theorem wrByte_held (s : State) (a : Nat) (b : Byte) : (s.wrByte a b).held = s.held := rfl
@[simp] theorem wrByte_resp (s : State) (a : Nat) (b : Byte) : (s.wrByte a b).resp = s.resp := rfl
@[simp] theorem wrByte_free (s : State) (a : Nat) (b : Byte) : (s.wrByte a b).free = s.free := rfl
@[simp] theorem wrByte_acc (s : State) (a : Nat) (b : Byte) : (s.wrByte a b).acc = s.acc := rfl
@[simp] theorem wrByte_boot (s : State) (a : Nat) (b : Byte) : (s.wrByte a b).boot = s.boot := rfl
@[simp] theorem wrByte_closed (s : State) (a : Nat) (b : Byte) : (s.wrByte a b).closed = s.closed := rfl
@[simp] theorem wrByte_recorder (s : State) (a : Nat) (b : Byte) : (s.wrByte a b).recorder = s.recorder := rfl
@[simp] theorem wrByte_out (s : State) (a : Nat) (b : Byte) : (s.wrByte a b).out = s.out := rfl
@[simp] theorem wrByte_logs (s : State) (a : Nat) (b : Byte) : (s.wrByte a b).logs = s.logs := rfl
@[simp] theorem wrByte_writes (s : State) (a : Nat) (b : Byte) : (s.wrByte a b).writes = s.writes := rfl
@[simp] theorem wrByte_occs (s : State) (a : Nat) (b : Byte) : (s.wrByte a b).occs = s.occs := rfl
@[simp] theorem wrByte_early (s : State) (a : Nat) (b : Byte) : (s.wrByte a b).early = s.early := rfl
@[simp] theorem wrByte_imgKey (s : State) (a : Nat) (b : Byte) : (s.wrByte a b).imgKey = s.imgKey := rfl
@[simp] theorem answer_pending (s : State) (a : Resp) : (s.answer a).pending = s.pending := rfl
@[simp] theorem answer_tick (s : State) (a : Resp) : (s.answer a).tick = s.tick := rfl
@[simp] theorem answer_held (s : State) (a : Resp) : (s.answer a).held = s.held := rfl
@[simp] theorem answer_mem (s : State) (a : Resp) : (s.answer a).mem = s.mem := rfl
@[simp] theorem answer_free (s : State) (a : Resp) : (s.answer a).free = s.free := rfl
@[simp] theorem answer_acc (s : State) (a : Resp) : (s.answer a).acc = s.acc := rfl
@[simp] theorem answer_boot (s : State) (a : Resp) : (s.answer a).boot = s.boot := rfl
@[simp] theorem answer_closed (s : State) (a : Resp) : (s.answer a).closed = s.closed := rfl
@[simp] theorem answer_recorder (s : State) (a : Resp) : (s.answer a).recorder = s.recorder := rfl
@[simp] theorem answer_out (s : State) (a : Resp) : (s.answer a).out = s.out := rfl
@[simp] theorem answer_logs (s : State) (a : Resp) : (s.answer a).logs = s.logs := rfl
@[simp] theorem answer_writes (s : State) (a : Resp) : (s.answer a).writes = s.writes := rfl
@[simp] theorem answer_occs (s : State) (a : Resp) : (s.answer a).occs = s.occs := rfl
@[simp] theorem answer_early (s : State) (a : Resp) : (s.answer a).early = s.early := rfl
@[simp] theorem answer_imgKey (s : State) (a : Resp) : (s.answer a).imgKey = s.imgKey := rfl
@[simp] theorem get_answer (s : State) (a : Resp) (r : Reg) (i : Nat) : (s.answer a).get r i = s.get r i := rfl
@[simp] theorem get_wrByte (s : State) (a : Nat) (b : Byte) (r : Reg) (i : Nat) : (s.wrByte a b).get r i = s.get r i := rfl
@[simp] theorem modAx_pending (s : State) (i : Nat) (f : Axis → Axis) : (modAx i f s).pending = s.pending := rfl
@[simp] theorem modAx_tick (s : State) (i : Nat) (f : Axis → Axis) : (modAx i f s).tick = s.tick := rfl
@[simp] theorem modAx_held (s : State) (i : Nat) (f : Axis → Axis) : (modAx i f s).held = s.held := rfl
@[simp] theorem modAx_mem (s : State) (i : Nat) (f : Axis → Axis) : (modAx i f s).mem = s.mem := rfl
@[simp] theorem modAx_resp (s : State) (i : Nat) (f : Axis → Axis) : (modAx i f s).resp = s.resp := rfl
@[simp] theorem modAx_free (s : State) (i : Nat) (f : Axis → Axis) : (modAx i f s).free = s.free := rfl
@[simp] theorem modAx_acc (s : State) (i : Nat) (f : Axis → Axis) : (modAx i f s).acc = s.acc := rfl
@[simp] theorem modAx_boot (s : State) (i : Nat) (f : Axis → Axis) : (modAx i f s).boot = s.boot := rfl
@[simp] theorem modAx_closed (s : State) (i : Nat) (f : Axis → Axis) : (modAx i f s).closed = s.closed := rfl
@[simp] theorem modAx_recorder (s : State) (i : Nat) (f : Axis → Axis) : (modAx i f s).recorder = s.recorder := rfl
@[simp] theorem modAx_out (s : State) (i : Nat) (f : Axis → Axis) : (modAx i f s).out = s.out := rfl
@[simp] theorem modAx_logs (s : State) (i : Nat) (f : Axis → Axis) : (modAx i f s).logs = s.logs := rfl
@[simp] theorem modAx_writes (s : State) (i : Nat) (f : Axis → Axis) : (modAx i f s).writes = s.writes := rfl
@[simp] theorem modAx_occs (s : State) (i : Nat) (f : Axis → Axis) : (modAx i f s).occs = s.occs := rfl
@[simp] theorem modAx_early (s : State) (i : Nat) (f : Axis → Axis) : (modAx i f s).early = s.early := rfl
@[simp] theorem modAx_imgKey (s : State) (i : Nat) (f : Axis → Axis) : (modAx i f s).imgKey = s.imgKey := rfl
@[simp] theorem get_modAx (s : State) (i : Nat) (f : Axis → Axis) (r : Reg) (j : Nat) : (modAx i f s).get r j = s.get r j := rfl
theorem ax_modAx (s : State) (i j : Nat) (f : Axis → Axis) : (modAx i f s).ax j = if j = i then f (s.ax i) else s.ax j := by
  simp [ax, modAx, setAx, SMap.get_set]
@[simp] theorem modFb_pending (s : State) (i : Nat) (f : Fb → Fb) : (modFb i f s).pending = s.pending := rfl
@[simp] theorem modFb_tick (s : State) (i : Nat) (f : Fb → Fb) : (modFb i f s).tick = s.tick := rfl
@[simp] theorem modFb_held (s : State) (i : Nat) (f : Fb → Fb) : (modFb i f s).held = s.held := rfl
@[simp] theorem modFb_mem (s : State) (i : Nat) (f : Fb → Fb) : (modFb i f s).mem = s.mem := rfl
@[simp] theorem modFb_resp (s : State) (i : Nat) (f : Fb → Fb) : (modFb i f s).resp = s.resp := rfl
@[simp] theorem modFb_free (s : State) (i : Nat) (f : Fb → Fb) : (modFb i f s).free = s.free := rfl
@[simp] theorem modFb_acc (s : State) (i : Nat) (f : Fb → Fb) : (modFb i f s).acc = s.acc := rfl
@[simp] theorem modFb_boot (s : State) (i : Nat) (f : Fb → Fb) : (modFb i f s).boot = s.boot := rfl
@[simp] theorem modFb_closed (s : State) (i : Nat) (f : Fb → Fb) : (modFb i f s).closed = s.closed := rfl
@[simp] theorem modFb_recorder (s : State) (i : Nat) (f : Fb → Fb) : (modFb i f s).recorder = s.recorder := rfl
@[simp] theorem modFb_out (s : State) (i : Nat) (f : Fb → Fb) : (modFb i f s).out = s.out := rfl
@[simp] theorem modFb_logs (s : State) (i : Nat) (f : Fb → Fb) : (modFb i f s).logs = s.logs := rfl
@[simp] theorem modFb_writes (s : State) (i : Nat) (f : Fb → Fb) : (modFb i f s).writes = s.writes := rfl
@[simp] theorem modFb_occs (s : State) (i : Nat) (f : Fb → Fb) : (modFb i f s).occs = s.occs := rfl
@[simp] theorem modFb_early (s : State) (i : Nat) (f : Fb → Fb) : (modFb i f s).early = s.early := rfl
@[simp] theorem modFb_imgKey (s : State) (i : Nat) (f : Fb → Fb) : (modFb i f s).imgKey = s.imgKey := rfl
@[simp] theorem get_modFb (s : State) (i : Nat) (f : Fb → Fb) (r : Reg) (j : Nat) : (modFb i f s).get r j = s.get r j := rfl
theorem fbc_modFb (s : State) (i j : Nat) (f : Fb → Fb) : (modFb i f s).fbc j = if j = i then f (s.fbc i) else s.fbc j := by
  simp [fbc, modFb, setFb, SMap.get_set]
@[simp] theorem modFwd_pending (s : State) (i : Nat) (f : Fwd → Fwd) : (modFwd i f s).pending = s.pending := rfl
@[simp] theorem modFwd_tick (s : State) (i : Nat) (f : Fwd → Fwd) : (modFwd i f s).tick = s.tick := rfl
@[simp] theorem modFwd_held (s : State) (i : Nat) (f : Fwd → Fwd) : (modFwd i f s).held = s.held := rfl
@[simp] theorem modFwd_mem (s : State) (i : Nat) (f : Fwd → Fwd) : (modFwd i f s).mem = s.mem := rfl
@[simp] theorem modFwd_resp (s : State) (i : Nat) (f : Fwd → Fwd) : (modFwd i f s).resp = s.resp := rfl
@[simp] theorem modFwd_free (s : State) (i : Nat) (f : Fwd → Fwd) : (modFwd i f s).free = s.free := rfl
@[simp] theorem modFwd_acc (s : State) (i : Nat) (f : Fwd → Fwd) : (modFwd i f s).acc = s.acc := rfl
@[simp] theorem modFwd_boot (s : State) (i : Nat) (f : Fwd → Fwd) : (modFwd i f s).boot = s.boot := rfl
@[simp] theorem modFwd_closed (s : State) (i : Nat) (f : Fwd → Fwd) : (modFwd i f s).closed = s.closed := rfl
@[simp] theorem modFwd_recorder (s : State) (i : Nat) (f : Fwd → Fwd) : (modFwd i f s).recorder = s.recorder := rfl
@[simp] theorem modFwd_out (s : State) (i : Nat) (f : Fwd → Fwd) : (modFwd i f s).out = s.out := rfl
@[simp] theorem modFwd_logs (s : State) (i : Nat) (f : Fwd → Fwd) : (modFwd i f s).logs = s.logs := rfl
@[simp] theorem modFwd_writes (s : State) (i : Nat) (f : Fwd → Fwd) : (modFwd i f s).writes = s.writes := rfl
@[simp] theorem modFwd_occs (s : State) (i : Nat) (f : Fwd → Fwd) : (modFwd i f s).occs = s.occs := rfl
@[simp] theorem modFwd_early (s : State) (i : Nat) (f : Fwd → Fwd) : (modFwd i f s).early = s.early := rfl
@[simp] theorem modFwd_imgKey (s : State) (i : Nat) (f : Fwd → Fwd) : (modFwd i f s).imgKey = s.imgKey := rfl
@[simp] theorem get_modFwd (s : State) (i : Nat) (f : Fwd → Fwd) (r : Reg) (j : Nat) : (modFwd i f s).get r j = s.get r j := rfl
theorem fwd_modFwd (s : State) (i j : Nat) (f : Fwd → Fwd) : (modFwd i f s).fwd j = if j = i then f (s.fwd i) else s.fwd j := by
  simp [fwd, modFwd, setFwd, SMap.get_set]

/-! ### Memory -/

theorem rdByte_wrByte (s : State) (a c : Nat) (b : Byte) :
    (s.wrByte a b).rdByte c = if c = a then b else s.rdByte c := SMap.get_set ..

/-- A byte outside the written ones stands. -/
theorem rdByte_wrBytes_ne (l : List Byte) : ∀ (s : State) (a c : Nat), c < a ∨ a + l.length ≤ c →
    (s.wrBytes a l).rdByte c = s.rdByte c := by
  induction l with
  | nil => intros; rfl
  | cons b l ih =>
    intro s a c h
    simp only [List.length_cons] at h
    rw [wrBytes, ih _ _ _ (by omega), rdByte_wrByte, if_neg (by omega)]

/-- The bytes read back what was written. -/
theorem rdBytes_wrBytes (l : List Byte) : ∀ (s : State) (a : Nat), (s.wrBytes a l).rdBytes a l.length = l := by
  induction l with
  | nil => intros; rfl
  | cons b l ih =>
    intro s a
    rw [List.length_cons, rdBytes, wrBytes, ih]
    have h : ((s.wrByte a b).wrBytes (a + 1) l).rdByte a = b := by
      rw [rdByte_wrBytes_ne _ _ _ _ (by omega), rdByte_wrByte, if_pos rfl]
    rw [h]

/-- A word reads back what was written. -/
theorem rdWord_wrWord (s : State) (a : Nat) (w : Word) : (s.wrWord a w).rdWord a = w := by
  have h := rdBytes_wrBytes (wordBytes w) s a
  have hl : (wordBytes w).length = 4 := rfl
  rw [hl] at h
  rw [rdWord, wrWord, h, bytesWord_wordBytes]

/-- The canonical form of the memory. -/
theorem wrByte_wf (s : State) (a : Nat) (b : Byte) (h : SMap.Wf (fun _ => unlistedByte) s.mem) :
    SMap.Wf (fun _ => unlistedByte) (s.wrByte a b).mem := SMap.wf_set (d := fun _ => unlistedByte) a b h

theorem wrBytes_wf (l : List Byte) : ∀ (s : State) (a : Nat), SMap.Wf (fun _ => unlistedByte) s.mem →
    SMap.Wf (fun _ => unlistedByte) (s.wrBytes a l).mem := by
  induction l with
  | nil => exact fun _ _ h => h
  | cons b l ih => exact fun s a h => ih _ _ (wrByte_wf s a b h)

theorem wrWord_wf (s : State) (a : Nat) (w : Word) (h : SMap.Wf (fun _ => unlistedByte) s.mem) :
    SMap.Wf (fun _ => unlistedByte) (s.wrWord a w).mem := wrBytes_wf _ _ _ h

theorem wrWords_wf (l : List Word) : ∀ (s : State) (a : Nat), SMap.Wf (fun _ => unlistedByte) s.mem →
    SMap.Wf (fun _ => unlistedByte) (s.wrWords a l).mem := by
  induction l with
  | nil => exact fun _ _ h => h
  | cons w l ih => exact fun s a h => ih _ _ (wrWord_wf s a w h)

end State
end Sys2Proof.Machine
end

