-- ==== Sys2Proof/Laws/Access.lean ====
section
/-!
SUPPORT. Sys2Proof/Laws/Access.lean: what a master's write does once its checks are passed, said once for all the write
commands.
-/

namespace Sys2Proof.Machine
namespace State

@[simp] theorem begin'_get (s : State) (r : Reg) (i : Nat) : s.begin'.get r i = s.get r i := rfl
@[simp] theorem begin'_resp (s : State) : s.begin'.resp = [] := rfl

/-! ### DBG's first access -/

theorem attach_of_ne {m : Nat} (h : m ≠ 7) (s : State) : attach m s = s := by simp [attach, h]

theorem attach_get (m : Nat) (s : State) (r : Reg) (i : Nat) (h1 : r ≠ .EVT_PEND) (h2 : r ≠ .EVT_RAW)
    (h3 : r ≠ .DG_STAT) : (attach m s).get r i = s.get r i := by
  unfold attach
  split
  · rw [get_raise _ _ _ _ h1 h2, get_setFlag, if_neg (by rintro ⟨h, -⟩; exact h3 h)]
  · rfl

theorem attach_fld (m : Nat) (s : State) (f : Field) (i : Nat) (h1 : f.reg ≠ .EVT_PEND) (h2 : f.reg ≠ .EVT_RAW)
    (h3 : f.reg ≠ .DG_STAT) : (attach m s).fld f i = s.fld f i := by simp only [fld, attach_get _ _ _ _ h1 h2 h3]

@[simp] theorem attach_boot (m : Nat) (s : State) : (attach m s).boot = s.boot := by unfold attach; split <;> rfl
@[simp] theorem attach_resp (m : Nat) (s : State) : (attach m s).resp = s.resp := by unfold attach; split <;> rfl
@[simp] theorem attach_mem (m : Nat) (s : State) : (attach m s).mem = s.mem := by unfold attach; split <;> rfl



/-! ### A write of a register that passes its checks -/

/-- What the register's own rules make of a write of `v` through the base view by the access `c`. -/
def wrRes (c : Access) (r : Reg) (i : Nat) (v : Word) (u : State) : State × WRes :=
  match r.info.acc with
  | .rw => regStore c r i ((u.view c.id r i &&& ~~~ r.info.wmask) ||| (v &&& r.info.wmask)) u
  | .kw => regStore c r i ((u.get r i &&& ~~~ r.info.wmask) ||| (v &&& r.info.wmask)) u
  | .w1 | .wo => regStore c r i (v &&& r.info.wmask) u
  | _ => (u, .err)

/-- The note that a recording takes of an applied write. -/
def noted (c : Access) (r : Reg) (i : Nat) (v : Word) (x : State) : State :=
  when (x.recording && recordable (regAddr r i) v) (recWriteNote c (regAddr r i) v) x

@[simp] theorem noted_get (x : State) (c : Access) (r : Reg) (i : Nat) (v : Word) (r' : Reg) (j : Nat) :
    (noted c r i v x).get r' j = x.get r' j := by
  unfold noted when
  split
  · simp only [recWriteNote]; exact get_recNote ..
  · rfl

@[simp] theorem noted_mem (x : State) (c : Access) (r : Reg) (i : Nat) (v : Word) : (noted c r i v x).mem = x.mem := by
  unfold noted when; split
  · simp only [recWriteNote, recNote]; split <;> rfl
  · rfl

@[simp] theorem noted_resp (x : State) (c : Access) (r : Reg) (i : Nat) (v : Word) : (noted c r i v x).resp = x.resp := by
  unfold noted when; split
  · simp only [recWriteNote, recNote]; split <;> rfl
  · rfl

@[simp] theorem answer_get (s : State) (a : Resp) (r : Reg) (i : Nat) : (s.answer a).get r i = s.get r i := rfl
@[simp] theorem answer_settled (s : State) (a : Resp) : (s.answer a).settled = s.settled := rfl

/-- A write that comes to wait is applied after those that wait already. -/
theorem settled_hold (s : State) (w : Waiting) :
    ({ s with writes := s.writes ++ [w] } : State).settled = applyWaiting w s.settled := by
  simp only [settled, List.foldl_append, List.foldl_cons, List.foldl_nil]

theorem loW_setWidth (v : Word) : loW (v.setWidth 64).toNat = v := by
  apply BitVec.eq_of_toNat_eq
  have := v.isLt
  simp [loW]; omega

/-- The address of an instance lies in its page's base view and leads back to the instance. -/
def located (r : Reg) (i : Nat) : Bool :=
  decide (regAt (wrPage r i) (wrOff r i) = some (r, i)) && decide (regAddr r i % 4096 < 1024) &&
  decide (regAddr r i < 0x100000) && decide (regAddr r i % 4 = 0) && (blockOf (wrPage r i)).isSome

theorem bitAlias_reg {a : Nat} (h : a < 0x100000) : bitAlias a = none := by
  unfold bitAlias
  rw [if_neg (by omega), if_neg (by omega)]

/-- The effect of a write at a located register is what the register's own rules make of it. -/
theorem spaceApply_reg (c : Access) (r : Reg) (i : Nat) (v : Word) (u : State) (hl : located r i = true)
    (hi : u.instOf c r i = i) (hk : r ≠ .GUARD_KEY) (ht : u.takes r i = true) :
    spaceApply c (regAddr r i) v u = wrRes c r i v u := by
  simp only [located, Bool.and_eq_true, decide_eq_true_eq] at hl
  obtain ⟨⟨⟨⟨hat, hvw⟩, hlt⟩, hal⟩, hb⟩ := hl
  simp only [takes, Bool.and_eq_true, Bool.not_eq_true'] at ht
  have hvw0 : regAddr r i % 4096 / 1024 = 0 := by omega
  unfold spaceApply
  rw [bitAlias_reg hlt]
  simp only [regWrite, wrRes]
  simp only [wrPage, wrOff] at hat ht
  simp only [hat, hi, hvw0, aliasVal, if_true, hk, if_false]
  refine Eq.trans (if_neg (by rw [Bool.not_eq_true]; exact ht.2)) ?_
  cases r.info.acc <;> rfl

/-- The entry that an accepted write of a located register leaves among the waiting ones. -/
def waits (m : Nat) (r : Reg) (i : Nat) (v : Word) (s : State) : Waiting :=
  { acc := { accOf m s with checked := false }, addr := regAddr r i, val := v }

@[simp] theorem spend_get (s : State) (r : Reg) (i : Nat) : s.spend.get r i = s.get r i := rfl
@[simp] theorem spend_rdByte (s : State) (a : Nat) : s.spend.rdByte a = s.rdByte a := rfl

/-- Using a key up changes its page's guard alone (R55). -/
theorem useKey_get (p : Nat) (s : State) (r : Reg) (i : Nat) (h : ¬ (r = .GUARD_STAT ∧ i = p)) :
    (useKey p s).get r i = s.get r i := by
  unfold useKey
  split
  · rfl
  · exact (get_setFlag ..).trans (if_neg h)

theorem useKey_rdByte (p : Nat) (s : State) (a : Nat) : (useKey p s).rdByte a = s.rdByte a := by
  unfold useKey
  split <;> rfl

/-- Of what a master can read, a write that is let through changes at once the key it uses up and nothing else. -/
theorem taken_only (m : Nat) (r : Reg) (i : Nat) (s : State) : State.only (keyReg r i) (s.metBy m) (s.taken m r i) := by
  unfold State.only regsOnly taken keyReg when
  by_cases hk : r.info.acc = .kw
  · simp only [hk, beq_self_eq_true, if_true]
    refine ⟨fun r' j h => ?_, fun a => ?_⟩
    · have hne : ¬ (r' = .GUARD_STAT ∧ j = wrPage r i) := by simpa using h
      rw [spend_get, useKey_get _ _ _ _ hne]
    · rw [spend_rdByte, useKey_rdByte]
  · simp only [hk, beq_iff_eq, if_false]
    exact ⟨fun _ _ _ => rfl, fun _ => rfl⟩

/-- An accepted write of a located register that passes the checks is answered without error, comes to wait, and has in
the state it meets the effect that the register's own rules give it. -/
theorem wr_ok (m : Nat) (r : Reg) (i : Nat) (v : Word) (s : State) (hl : located r i = true)
    (hi : ∀ c : Access, c.id = m → c.set = m → (s.meets m r i).instOf c r i = i)
    (hk : r ≠ .GUARD_KEY) (hn : actsAtOnce r = false) (hm : s.mayWrite m r i = true)
    (h : (wrRes (accOf m s) r i v (s.meets m r i)).2 = .ok)
    (h' : (wrRes { accOf m s with checked := false } r i v (s.meets m r i)).2 = .ok) :
    wr m r i v s.begin' =
      ({ s.taken m r i with writes := (s.taken m r i).writes ++ [waits m r i v s] } : State).answer (.ok 0#32) ∧
    (wr m r i v s.begin').settled = noted { accOf m s with checked := false } r i v
      (wrRes { accOf m s with checked := false } r i v (s.meets m r i)).1 := by
  have hl' := hl
  simp only [located, Bool.and_eq_true, decide_eq_true_eq] at hl
  obtain ⟨⟨⟨⟨hat, hvw⟩, hlt⟩, hal⟩, hb⟩ := hl
  simp only [mayWrite, mayAccess, Bool.and_eq_true, Bool.not_eq_true', Bool.or_eq_true] at hm
  obtain ⟨⟨⟨⟨⟨⟨⟨hca, hfr⟩, hsv⟩, hfs⟩, hpk⟩, hrp⟩, hg⟩, ht⟩ := hm
  have hca' : s.begin'.canAccess m = true := by
    rw [← hca]; simp only [canAccess, hcState, flag, metBy]; rw [attach_fld, attach_fld] <;> decide
  have hfr' : (decide (m < 7) && s.begin'.frozen m) = false := by
    rw [← hfr]; simp only [frozen, rbit, metBy]; rw [attach_get] <;> decide
  have hsv' : s.begin'.served = true := by
    rw [← hsv]; simp only [served, metBy, attach_boot]; rw [attach_fld] <;> decide
  have hown : hcOwn m (regAddr r i) = false := by simp [hcOwn]; omega
  have hvw1 : decide (regAddr r i % 4096 < 1024) = true := by simpa using hvw
  have hmod : regAddr r i % 4096 = regAddr r i % 1024 := by omega
  have hclk (p : Nat) (x : State) : (useKey p x).acc = x.acc ∧ (useKey p x).tick = x.tick := by
    unfold useKey; split <;> exact ⟨rfl, rfl⟩
  have hatk : ∀ x : State, (attach m x).acc = x.acc ∧ (attach m x).tick = x.tick := by
    intro x; unfold attach; split <;> exact ⟨rfl, rfl⟩
  -- the state that the write leaves waiting
  have hhold : ∀ x : State, x.spend = s.taken m r i → x.nowClk = s.nowClk →
      hold (Access.of m) (regAddr r i) v x =
        ({ s.taken m r i with writes := (s.taken m r i).writes ++ [waits m r i v s] }, .ok) := by
    intro x hx hc
    have hu : x.spend.settled = s.meets m r i := by rw [hx]; rfl
    have happ : spaceApply { Access.of m with t := x.nowClk } (regAddr r i) v x.spend.settled =
        wrRes (accOf m s) r i v (s.meets m r i) := by
      rw [hu, hc]; exact spaceApply_reg _ _ _ _ _ hl' (hi _ rfl rfl) hk ht
    unfold hold
    simp only [happ, h]
    rw [hx, hc]
    rfl
  have hpage : pageWrite (Access.of m) (regAddr r i) v (s.metBy m) =
      ({ s.taken m r i with writes := (s.taken m r i).writes ++ [waits m r i v s] }, .ok) := by
    simp only [wrPage, wrOff] at hat hg
    unfold pageWrite
    simp only [hat, hk, if_false, hvw1, and_true, hn, Bool.false_eq_true]
    by_cases hkw : r.info.acc = .kw
    · have hg' : (s.metBy m).guardKind (Access.of m).id (regAddr r i / 4096) = none := by
        simpa [hkw, Access.of] using hg
      have hh := hhold (useKey (wrPage r i) (s.metBy m)) (by simp [taken, hkw, when]) (by
        simp only [nowClk, State.T, (hclk _ _).1, (hclk _ _).2, metBy, (hatk _).1, (hatk _).2]; rfl)
      simp only [wrPage] at hh
      simp only [hkw, if_true, hg', hh, true_or]
    · rw [if_neg hkw]
      exact hhold (s.metBy m) (by simp [taken, hkw, when]) (by
        simp only [nowClk, State.T, metBy, (hatk _).1, (hatk _).2]; rfl)
  have hsp : spaceWrite (Access.of m) 4 (regAddr r i) v (s.metBy m) =
      ({ s.taken m r i with writes := (s.taken m r i).writes ++ [waits m r i v s] }, .ok) := by
    unfold spaceWrite
    simp only [wrPage, wrOff] at hb hfs hpk hrp
    have hb' : (blockOf (regAddr r i / 4096)).isNone = false := by
      simpa [Option.isNone_iff_eq_none, Option.isSome_iff_ne_none] using hb
    have hpk' : (s.metBy m).pageWriteKind (Access.of m) (regAddr r i / 4096) (regAddr r i % 1024) = none := by simpa using hpk
    have hf' : ((s.metBy m).failsafe && !failsafePage (regAddr r i / 4096)) = false := by
      rcases hfs with h | h <;> simp [h]
    simp only [hal, hlt, hb', hmod, hpk', hf', if_true, Bool.or_self]
    simp [hpage]
    simp_all
  have hww : wordWrite (Access.of m) 4 (regAddr r i) v s.begin' =
      ({ s.taken m r i with writes := (s.taken m r i).writes ++ [waits m r i v s] }, .ok 0#32) := by
    unfold wordWrite
    have h0 : ¬ ((true && decide (m < 7) && s.begin'.frozen m) = true) := by
      rw [Bool.true_and, Bool.not_eq_true]; exact hfr'
    have h1 : ¬ ((!s.begin'.served) = true) := by rw [hsv']; decide
    refine (if_neg h0).trans ((if_neg h1).trans ?_)
    have hsp' : spaceWrite (Access.of m) 4 (regAddr r i) v (attach (Access.of m).id s.begin') = _ := hsp
    dsimp only
    rw [hsp']
  have hacc : accWrite (Access.of m) 4 (regAddr r i) v s.begin' = _ :=
    (if_neg (show ¬ (hcOwn (Access.of m).id (regAddr r i) && decide (4 ≤ 4)) = true by simp [Access.of, hown])).trans hww
  have hwr : wr m r i v s.begin' =
      ({ s.taken m r i with writes := (s.taken m r i).writes ++ [waits m r i v s] } : State).answer (.ok 0#32) := by
    unfold wr busWrite
    change (if (!s.begin'.canAccess m) = true then s.begin' else _) = _
    rw [if_neg (by rw [hca']; decide), loW_setWidth, if_neg (by omega)]
    rw [hacc]
    rfl
  refine ⟨hwr, ?_⟩
  rw [hwr, answer_settled, settled_hold]
  have happ : spaceApply (waits m r i v s).acc (waits m r i v s).addr (waits m r i v s).val (s.taken m r i).settled =
      wrRes { accOf m s with checked := false } r i v (s.meets m r i) :=
    spaceApply_reg _ _ _ _ _ hl' (hi _ rfl rfl) hk ht
  have hs : (s.meets m r i).served = true := by
    simp only [takes, Bool.and_eq_true] at ht; exact ht.1
  unfold applyWaiting
  have hs' : (s.taken m r i).settled.served = true := hs
  rw [hs', happ]
  simp only [h']
  rfl

/-- What such a write answers and leaves at once. -/
theorem wr_written (m : Nat) (r : Reg) (i : Nat) (v : Word) (s : State) (hl : located r i = true)
    (hi : ∀ c : Access, c.id = m → c.set = m → (s.meets m r i).instOf c r i = i)
    (hk : r ≠ .GUARD_KEY) (hn : actsAtOnce r = false) (hm : s.mayWrite m r i = true)
    (h : (wrRes (accOf m s) r i v (s.meets m r i)).2 = .ok)
    (h' : (wrRes { accOf m s with checked := false } r i v (s.meets m r i)).2 = .ok) :
    Written m r i s (wr m r i v s.begin') := by
  rw [(wr_ok m r i v s hl hi hk hn hm h h').1]
  refine ⟨?_, taken_only m r i s⟩
  have : (s.taken m r i).resp = [] := by
    unfold taken when useKey metBy
    split <;> (try split) <;> simp [spend, setFlag, attach_resp, begin'_resp]
  simp [answer, this]

end State
end Sys2Proof.Machine
end

