-- ==== Sys2Proof/Laws/PerInstr.lean ====
section
/-!
SUPPORT. Sys2Proof/Laws/PerInstr.lean: the family Word, one lemma per command: no word spells it. The opcode table gives no
row any bits, so a command reaches the queue from outside and never out of an instruction word.
-/

namespace Sys2Proof.Laws.Word

/-- No word of any length spells the command. -/
def Statement (i : Sys2Proof.Instr) : Prop := ∀ nbits w : Nat, Sys2Proof.decodeTableWord nbits w ≠ some i

theorem statement (i : Sys2Proof.Instr) : Statement i := fun _ _ h => nomatch h

end Sys2Proof.Laws.Word

namespace Sys2Proof

open Machine

theorem Laws.Word.axisTick (x : TickIn) : Laws.Word.Statement (.axisTick x) :=
  Laws.Word.statement _
theorem Laws.Word.registerWrite (m : Fin 8) (size : Nat) (a : Word) (v : DWord) : Laws.Word.Statement (.registerWrite m size a v) :=
  Laws.Word.statement _
theorem Laws.Word.mramFault (k : MramRead) : Laws.Word.Statement (.mramFault k) :=
  Laws.Word.statement _
theorem Laws.Word.registerReadRc (m : Fin 8) (size : Nat) (a : Word) : Laws.Word.Statement (.registerReadRc m size a) :=
  Laws.Word.statement _
theorem Laws.Word.aliasWrite (m : Fin 8) (k : Fin 3) (p off : Fin 256) (v : Word) : Laws.Word.Statement (.aliasWrite m k p off v) :=
  Laws.Word.statement _
theorem Laws.Word.bitAliasWrite (m : Fin 8) (w : BitWord) (v : Word) : Laws.Word.Statement (.bitAliasWrite m w v) :=
  Laws.Word.statement _
theorem Laws.Word.snapTake (m : Fin 8) (p : Fin 256) : Laws.Word.Statement (.snapTake m p) :=
  Laws.Word.statement _
theorem Laws.Word.guardKeyWrite (m : Fin 8) (p : Fin 256) (v : Word) : Laws.Word.Statement (.guardKeyWrite m p v) :=
  Laws.Word.statement _
theorem Laws.Word.domainReset (m : Fin 8) (p : Fin 256) : Laws.Word.Statement (.domainReset m p) :=
  Laws.Word.statement _
theorem Laws.Word.domainResetDone (p : Fin 256) : Laws.Word.Statement (.domainResetDone p) :=
  Laws.Word.statement _
theorem Laws.Word.prUnfreeze (m : Fin 8) (v : Word) : Laws.Word.Statement (.prUnfreeze m v) :=
  Laws.Word.statement _
theorem Laws.Word.prGclr (m : Fin 8) (v : Word) : Laws.Word.Statement (.prGclr m v) :=
  Laws.Word.statement _
theorem Laws.Word.tableEdit (m : Fin 8) (e : TableEntry) (v : Word) : Laws.Word.Statement (.tableEdit m e v) :=
  Laws.Word.statement _
theorem Laws.Word.axEnable (m : Fin 8) (i : Fin 32) (v : Word) : Laws.Word.Statement (.axEnable m i v) :=
  Laws.Word.statement _
theorem Laws.Word.axDisable (m : Fin 8) (i : Fin 32) (v : Word) : Laws.Word.Statement (.axDisable m i v) :=
  Laws.Word.statement _
theorem Laws.Word.axKWrite (m : Fin 8) (i : Fin 32) (k : Fin 3) (v : Word) : Laws.Word.Statement (.axKWrite m i k v) :=
  Laws.Word.statement _
theorem Laws.Word.axStepWrite (m : Fin 8) (i : Fin 32) (v : Word) : Laws.Word.Statement (.axStepWrite m i v) :=
  Laws.Word.statement _
theorem Laws.Word.srcStale (i : Fin 32) (k : AxSrc) : Laws.Word.Statement (.srcStale i k) :=
  Laws.Word.statement _
theorem Laws.Word.srcRecover (i : Fin 32) (k : AxSrc) : Laws.Word.Statement (.srcRecover i k) :=
  Laws.Word.statement _
theorem Laws.Word.stopped (i : Fin 32) : Laws.Word.Statement (.stopped i) :=
  Laws.Word.statement _
theorem Laws.Word.slipCorrectionUpdate : Laws.Word.Statement (.slipCorrectionUpdate) :=
  Laws.Word.statement _
theorem Laws.Word.mainsEdge (h : Fin 3) (rising : Bool) (o : Fin 2000) : Laws.Word.Statement (.mainsEdge h rising o) :=
  Laws.Word.statement _
theorem Laws.Word.mainsMissingEdges (i : Fin 32) : Laws.Word.Statement (.mainsMissingEdges i) :=
  Laws.Word.statement _
theorem Laws.Word.mainsGone (i : Fin 32) : Laws.Word.Statement (.mainsGone i) :=
  Laws.Word.statement _
theorem Laws.Word.yawLost : Laws.Word.Statement (.yawLost) :=
  Laws.Word.statement _
theorem Laws.Word.gnssSentence (r : Fin 2) (o : Fin 2000) (l : List Byte) : Laws.Word.Statement (.gnssSentence r o l) :=
  Laws.Word.statement _
theorem Laws.Word.ppsEdge (r : Fin 2) (o : Fin 2000) : Laws.Word.Statement (.ppsEdge r o) :=
  Laws.Word.statement _
theorem Laws.Word.gmFixGo (m : Fin 8) : Laws.Word.Statement (.gmFixGo m) :=
  Laws.Word.statement _
theorem Laws.Word.imuTransaction : Laws.Word.Statement (.imuTransaction) :=
  Laws.Word.statement _
theorem Laws.Word.imuRecord (o : Fin 2000) (l : List Byte) : Laws.Word.Statement (.imuRecord o l) :=
  Laws.Word.statement _
theorem Laws.Word.lnPushGo (m : Fin 8) (v : Word) : Laws.Word.Statement (.lnPushGo m v) :=
  Laws.Word.statement _
theorem Laws.Word.templateRefresh (t : Fin 32) : Laws.Word.Statement (.templateRefresh t) :=
  Laws.Word.statement _
theorem Laws.Word.templateGapFrame (t : Fin 32) : Laws.Word.Statement (.templateGapFrame t) :=
  Laws.Word.statement _
theorem Laws.Word.laneEnable (m : Fin 8) (n : Fin 768) (v : Word) : Laws.Word.Statement (.laneEnable m n v) :=
  Laws.Word.statement _
theorem Laws.Word.laneDisable (m : Fin 8) (n : Fin 768) (v : Word) : Laws.Word.Statement (.laneDisable m n v) :=
  Laws.Word.statement _
theorem Laws.Word.lnFlush (m : Fin 8) (k : Fin 24) (v : Word) : Laws.Word.Statement (.lnFlush m k v) :=
  Laws.Word.statement _
theorem Laws.Word.lnDelayWrite (m : Fin 8) (n : Fin 256) (on : Bool) (v : Word) : Laws.Word.Statement (.lnDelayWrite m n on v) :=
  Laws.Word.statement _
theorem Laws.Word.leadMeasurement (n : Fin 256) : Laws.Word.Statement (.leadMeasurement n) :=
  Laws.Word.statement _
theorem Laws.Word.gmRunSet (m : Fin 8) : Laws.Word.Statement (.gmRunSet m) :=
  Laws.Word.statement _
theorem Laws.Word.gmRunClear (m : Fin 8) : Laws.Word.Statement (.gmRunClear m) :=
  Laws.Word.statement _
theorem Laws.Word.fixLost : Laws.Word.Statement (.fixLost) :=
  Laws.Word.statement _
theorem Laws.Word.spatialStepDispatch : Laws.Word.Statement (.spatialStepDispatch) :=
  Laws.Word.statement _
theorem Laws.Word.stepResults : Laws.Word.Statement (.stepResults) :=
  Laws.Word.statement _
theorem Laws.Word.tileIntake : Laws.Word.Statement (.tileIntake) :=
  Laws.Word.statement _
theorem Laws.Word.gmTcEvict (m : Fin 8) (v : Word) : Laws.Word.Statement (.gmTcEvict m v) :=
  Laws.Word.statement _
theorem Laws.Word.tileWant : Laws.Word.Statement (.tileWant) :=
  Laws.Word.statement _
theorem Laws.Word.maskWriteBack (tx ty : Fin 65536) : Laws.Word.Statement (.maskWriteBack tx ty) :=
  Laws.Word.statement _
theorem Laws.Word.mapClear (m : Fin 8) : Laws.Word.Statement (.mapClear m) :=
  Laws.Word.statement _
theorem Laws.Word.mapMerge (m : Fin 8) : Laws.Word.Statement (.mapMerge m) :=
  Laws.Word.statement _
theorem Laws.Word.mapFlush (m : Fin 8) : Laws.Word.Statement (.mapFlush m) :=
  Laws.Word.statement _
theorem Laws.Word.mapAdopt (m : Fin 8) : Laws.Word.Statement (.mapAdopt m) :=
  Laws.Word.statement _
theorem Laws.Word.mapDone : Laws.Word.Statement (.mapDone) :=
  Laws.Word.statement _
theorem Laws.Word.fbEnable (m : Fin 8) (c : Fin 24) (v : Word) : Laws.Word.Statement (.fbEnable m c v) :=
  Laws.Word.statement _
theorem Laws.Word.feedbackEdge (c : Fin 24) (o : Fin 2000) (ta tb tz : Option Nat) : Laws.Word.Statement (.feedbackEdge c o ta tb tz) :=
  Laws.Word.statement _
theorem Laws.Word.blankingEnd (c : Fin 24) (a : Bool) : Laws.Word.Statement (.blankingEnd c a) :=
  Laws.Word.statement _
theorem Laws.Word.fbChannelStale (c : Fin 24) : Laws.Word.Statement (.fbChannelStale c) :=
  Laws.Word.statement _
theorem Laws.Word.fbFclr (m : Fin 8) (c : Fin 24) : Laws.Word.Statement (.fbFclr m c) :=
  Laws.Word.statement _
theorem Laws.Word.fbCclr (m : Fin 8) (c : Fin 24) : Laws.Word.Statement (.fbCclr m c) :=
  Laws.Word.statement _
theorem Laws.Word.fbCmpWrite (m : Fin 8) (c : Fin 24) (cfg : Bool) (v : Word) : Laws.Word.Statement (.fbCmpWrite m c cfg v) :=
  Laws.Word.statement _
theorem Laws.Word.ssiTransactionStart (c : Fin 24) : Laws.Word.Statement (.ssiTransactionStart c) :=
  Laws.Word.statement _
theorem Laws.Word.ssiSample (c : Fin 24) (w : Word) (high trail : Bool) : Laws.Word.Statement (.ssiSample c w high trail) :=
  Laws.Word.statement _
theorem Laws.Word.fwdCfgWrite (m n : Fin 8) (v : Word) : Laws.Word.Statement (.fwdCfgWrite m n v) :=
  Laws.Word.statement _
theorem Laws.Word.valveCommandRise (n : Fin 128) : Laws.Word.Statement (.valveCommandRise n) :=
  Laws.Word.statement _
theorem Laws.Word.startGrant (g : Fin 16) : Laws.Word.Statement (.startGrant g) :=
  Laws.Word.statement _
theorem Laws.Word.peakEnd (n : Fin 128) : Laws.Word.Statement (.peakEnd n) :=
  Laws.Word.statement _
theorem Laws.Word.valveCommandFall (n : Fin 128) : Laws.Word.Statement (.valveCommandFall n) :=
  Laws.Word.statement _
theorem Laws.Word.decayEnd (n : Fin 128) : Laws.Word.Statement (.decayEnd n) :=
  Laws.Word.statement _
theorem Laws.Word.valveObservation (n : Fin 128) (o : Fin 2000) (x : ValveObs) : Laws.Word.Statement (.valveObservation n o x) :=
  Laws.Word.statement _
theorem Laws.Word.hsonTest (n : Fin 128) (down up : Bool) : Laws.Word.Statement (.hsonTest n down up) :=
  Laws.Word.statement _
theorem Laws.Word.hsoffWindow (g : Fin 16) : Laws.Word.Statement (.hsoffWindow g) :=
  Laws.Word.statement _
theorem Laws.Word.vgTwin (m : Fin 8) (g : Fin 16) : Laws.Word.Statement (.vgTwin m g) :=
  Laws.Word.statement _
theorem Laws.Word.testDone (g : Fin 16) (levels : BitVec 8) : Laws.Word.Statement (.testDone g levels) :=
  Laws.Word.statement _
theorem Laws.Word.hsTrip (g : Fin 16) (o : Fin 2000) : Laws.Word.Statement (.hsTrip g o) :=
  Laws.Word.statement _
theorem Laws.Word.vsupLow (g : Fin 16) (o : Fin 2000) (mv : Nat) : Laws.Word.Statement (.vsupLow g o mv) :=
  Laws.Word.statement _
theorem Laws.Word.vsupRestored (g : Fin 16) (mv : Nat) : Laws.Word.Statement (.vsupRestored g mv) :=
  Laws.Word.statement _
theorem Laws.Word.coilCooling (n : Fin 128) : Laws.Word.Statement (.coilCooling n) :=
  Laws.Word.statement _
theorem Laws.Word.vgLclr (m : Fin 8) (n : Fin 128) : Laws.Word.Statement (.vgLclr m n) :=
  Laws.Word.statement _
theorem Laws.Word.vgSclr (m : Fin 8) (n : Fin 128) : Laws.Word.Statement (.vgSclr m n) :=
  Laws.Word.statement _
theorem Laws.Word.vgRlearn (m : Fin 8) (n : Fin 128) : Laws.Word.Statement (.vgRlearn m n) :=
  Laws.Word.statement _
theorem Laws.Word.vgCctrlCclr (m : Fin 8) (n : Fin 128) : Laws.Word.Statement (.vgCctrlCclr m n) :=
  Laws.Word.statement _
theorem Laws.Word.vgCtrlCclr (m : Fin 8) (g : Fin 16) : Laws.Word.Statement (.vgCtrlCclr m g) :=
  Laws.Word.statement _
theorem Laws.Word.vgHsClr (m : Fin 8) (g : Fin 16) : Laws.Word.Statement (.vgHsClr m g) :=
  Laws.Word.statement _
theorem Laws.Word.vgDieClr (m : Fin 8) (d : Fin 4) : Laws.Word.Statement (.vgDieClr m d) :=
  Laws.Word.statement _
theorem Laws.Word.vgChannelEnable (m : Fin 8) (n : Fin 128) (v : Word) : Laws.Word.Statement (.vgChannelEnable m n v) :=
  Laws.Word.statement _
theorem Laws.Word.dieHot (d : Fin 4) (tj : Word) : Laws.Word.Statement (.dieHot d tj) :=
  Laws.Word.statement _
theorem Laws.Word.dieShut (d : Fin 4) (o : Fin 2000) (tj : Word) : Laws.Word.Statement (.dieShut d o tj) :=
  Laws.Word.statement _
theorem Laws.Word.dieCool (d : Fin 4) (tj : Word) : Laws.Word.Statement (.dieCool d tj) :=
  Laws.Word.statement _
theorem Laws.Word.groundOffsetTrip (d : Fin 4) (o : Fin 2000) : Laws.Word.Statement (.groundOffsetTrip d o) :=
  Laws.Word.statement _
theorem Laws.Word.regulationPeriodStart (n : Fin 128) : Laws.Word.Statement (.regulationPeriodStart n) :=
  Laws.Word.statement _
theorem Laws.Word.sliceEnable (m : Fin 8) (n : Fin 128) (v : Word) : Laws.Word.Statement (.sliceEnable m n v) :=
  Laws.Word.statement _
theorem Laws.Word.sliceReload (n : Fin 128) : Laws.Word.Statement (.sliceReload n) :=
  Laws.Word.statement _
theorem Laws.Word.vsDutyWrite (m : Fin 8) (n : Fin 128) (v : Word) : Laws.Word.Statement (.vsDutyWrite m n v) :=
  Laws.Word.statement _
theorem Laws.Word.vsCommit (m : Fin 8) (n : Fin 128) : Laws.Word.Statement (.vsCommit m n) :=
  Laws.Word.statement _
theorem Laws.Word.vsCclr (m : Fin 8) (n : Fin 128) : Laws.Word.Statement (.vsCclr m n) :=
  Laws.Word.statement _
theorem Laws.Word.bpEnable (m : Fin 8) (n : Fin 24) (v : Word) : Laws.Word.Statement (.bpEnable m n v) :=
  Laws.Word.statement _
theorem Laws.Word.bridgePeriodStart (n : Fin 24) : Laws.Word.Statement (.bridgePeriodStart n) :=
  Laws.Word.statement _
theorem Laws.Word.bpCommit (m : Fin 8) (n : Fin 24) : Laws.Word.Statement (.bpCommit m n) :=
  Laws.Word.statement _
theorem Laws.Word.bpCclr (m : Fin 8) (n : Fin 24) : Laws.Word.Statement (.bpCclr m n) :=
  Laws.Word.statement _
theorem Laws.Word.faultInputAssert (n : Fin 8) (o : Fin 2000) : Laws.Word.Statement (.faultInputAssert n o) :=
  Laws.Word.statement _
theorem Laws.Word.pgFltClr (m : Fin 8) (v : Word) : Laws.Word.Statement (.pgFltClr m v) :=
  Laws.Word.statement _
theorem Laws.Word.faultInputDeassert (n : Fin 8) : Laws.Word.Statement (.faultInputDeassert n) :=
  Laws.Word.statement _
theorem Laws.Word.lsSourceCommandChange (n : Fin 24) (o : Fin 2000) : Laws.Word.Statement (.lsSourceCommandChange n o) :=
  Laws.Word.statement _
theorem Laws.Word.lsinChange (n : Fin 24) (lvl : Bool) : Laws.Word.Statement (.lsinChange n lvl) :=
  Laws.Word.statement _
theorem Laws.Word.lsTrip (n : Fin 24) (o : Fin 2000) (i : Word) : Laws.Word.Statement (.lsTrip n o i) :=
  Laws.Word.statement _
theorem Laws.Word.retryPauseEnd (n : Fin 24) : Laws.Word.Statement (.retryPauseEnd n) :=
  Laws.Word.statement _
theorem Laws.Word.inrushWindowEnd (n : Fin 24) : Laws.Word.Statement (.inrushWindowEnd n) :=
  Laws.Word.statement _
theorem Laws.Word.thOff (n : Fin 24) (o : Fin 2000) (tj : Word) : Laws.Word.Statement (.thOff n o tj) :=
  Laws.Word.statement _
theorem Laws.Word.lsCoolDown (n : Fin 24) (o : Fin 2000) (tj : Word) : Laws.Word.Statement (.lsCoolDown n o tj) :=
  Laws.Word.statement _
theorem Laws.Word.uvOff (g : Fin 4) (o : Fin 2000) (mv : Nat) : Laws.Word.Statement (.uvOff g o mv) :=
  Laws.Word.statement _
theorem Laws.Word.uvRestart (g : Fin 4) (o : Fin 2000) (mv : Nat) : Laws.Word.Statement (.uvRestart g o mv) :=
  Laws.Word.statement _
theorem Laws.Word.hbLost : Laws.Word.Statement (.hbLost) :=
  Laws.Word.statement _
theorem Laws.Word.dieCold (o : Fin 2000) : Laws.Word.Statement (.dieCold o) :=
  Laws.Word.statement _
theorem Laws.Word.lsOcclr (m : Fin 8) (n : Fin 24) : Laws.Word.Statement (.lsOcclr m n) :=
  Laws.Word.statement _
theorem Laws.Word.lsThclr (m : Fin 8) (n : Fin 24) : Laws.Word.Statement (.lsThclr m n) :=
  Laws.Word.statement _
theorem Laws.Word.lsCclr (m : Fin 8) (n : Fin 24) : Laws.Word.Statement (.lsCclr m n) :=
  Laws.Word.statement _
theorem Laws.Word.coldClr (m : Fin 8) : Laws.Word.Statement (.coldClr m) :=
  Laws.Word.statement _
theorem Laws.Word.hbClr (m : Fin 8) : Laws.Word.Statement (.hbClr m) :=
  Laws.Word.statement _
theorem Laws.Word.lsRetentionLoss : Laws.Word.Statement (.lsRetentionLoss) :=
  Laws.Word.statement _
theorem Laws.Word.pcConversionEnd (n : Fin 32) (h l : List Chop) (ovH ovL : Bool) : Laws.Word.Statement (.pcConversionEnd n h l ovH ovL) :=
  Laws.Word.statement _
theorem Laws.Word.openWireTrip (x : Comparator) (o : Fin 2000) : Laws.Word.Statement (.openWireTrip x o) :=
  Laws.Word.statement _
theorem Laws.Word.openWireRelease (x : Comparator) : Laws.Word.Statement (.openWireRelease x) :=
  Laws.Word.statement _
theorem Laws.Word.calSlotStart : Laws.Word.Statement (.calSlotStart) :=
  Laws.Word.statement _
theorem Laws.Word.calTakeover : Laws.Word.Statement (.calTakeover) :=
  Laws.Word.statement _
theorem Laws.Word.calDone (ia ib dev : Word) (coef : PcCoef) (testOk : Bool) : Laws.Word.Statement (.calDone ia ib dev coef testOk) :=
  Laws.Word.statement _
theorem Laws.Word.pcCalreq (m : Fin 8) (n : Fin 32) : Laws.Word.Statement (.pcCalreq m n) :=
  Laws.Word.statement _
theorem Laws.Word.pcTestreq (m : Fin 8) (n : Fin 32) : Laws.Word.Statement (.pcTestreq m n) :=
  Laws.Word.statement _
theorem Laws.Word.pcCclr (m : Fin 8) (n : Fin 32) : Laws.Word.Statement (.pcCclr m n) :=
  Laws.Word.statement _
theorem Laws.Word.initCalEnd (cur : List CalIn) : Laws.Word.Statement (.initCalEnd cur) :=
  Laws.Word.statement _
theorem Laws.Word.gcResult (n : Fin 32) (o : Fin 2000) (samples : List GcSample) : Laws.Word.Statement (.gcResult n o samples) :=
  Laws.Word.statement _
theorem Laws.Word.shuntOff (n : Fin 32) (o : Fin 2000) : Laws.Word.Statement (.shuntOff n o) :=
  Laws.Word.statement _
theorem Laws.Word.shuntReconnect (n : Fin 32) (inRange : Bool) : Laws.Word.Statement (.shuntReconnect n inRange) :=
  Laws.Word.statement _
theorem Laws.Word.zcMeasurement (z : Fin 4) (re im : Word) (ovr : Bool) : Laws.Word.Statement (.zcMeasurement z re im ovr) :=
  Laws.Word.statement _
theorem Laws.Word.aoValWrite (m : Fin 8) (a : Fin 4) (v : Word) : Laws.Word.Statement (.aoValWrite m a v) :=
  Laws.Word.statement _
theorem Laws.Word.aoFault (a : Fin 4) (o : Fin 2000) : Laws.Word.Statement (.aoFault a o) :=
  Laws.Word.statement _
theorem Laws.Word.loopEnable (m : Fin 8) (n : Fin 64) (v : Word) : Laws.Word.Statement (.loopEnable m n v) :=
  Laws.Word.statement _
theorem Laws.Word.loopSampleDispatch (n : Fin 64) : Laws.Word.Statement (.loopSampleDispatch n) :=
  Laws.Word.statement _
theorem Laws.Word.loopSampleApply (n : Fin 64) : Laws.Word.Statement (.loopSampleApply n) :=
  Laws.Word.statement _
theorem Laws.Word.lpBswap (m : Fin 8) (n : Fin 64) : Laws.Word.Statement (.lpBswap m n) :=
  Laws.Word.statement _
theorem Laws.Word.lpGswap (m : Fin 8) (j : Fin 2) (v : Word) : Laws.Word.Statement (.lpGswap m j v) :=
  Laws.Word.statement _
theorem Laws.Word.lpFclr (m : Fin 8) (n : Fin 64) : Laws.Word.Statement (.lpFclr m n) :=
  Laws.Word.statement _
theorem Laws.Word.lpCclr (m : Fin 8) (n : Fin 64) : Laws.Word.Statement (.lpCclr m n) :=
  Laws.Word.statement _
theorem Laws.Word.tgStart (t : Fin 4) (a : TgArm) : Laws.Word.Statement (.tgStart t a) :=
  Laws.Word.statement _
theorem Laws.Word.tgStop (m : Fin 8) (t : Fin 4) : Laws.Word.Statement (.tgStop m t) :=
  Laws.Word.statement _
theorem Laws.Word.dpEnable (m : Fin 8) (p : Fin 4) (v : Word) : Laws.Word.Statement (.dpEnable m p v) :=
  Laws.Word.statement _
theorem Laws.Word.parcelBoundary (p : Fin 4) : Laws.Word.Statement (.parcelBoundary p) :=
  Laws.Word.statement _
theorem Laws.Word.modelStepDispatch : Laws.Word.Statement (.modelStepDispatch) :=
  Laws.Word.statement _
theorem Laws.Word.modelStepApply : Laws.Word.Statement (.modelStepApply) :=
  Laws.Word.statement _
theorem Laws.Word.parcelDischarge (p : Fin 4) : Laws.Word.Statement (.parcelDischarge p) :=
  Laws.Word.statement _
theorem Laws.Word.fillDone (p : Fin 4) : Laws.Word.Statement (.fillDone p) :=
  Laws.Word.statement _
theorem Laws.Word.dpFull (m : Fin 8) (p : Fin 4) : Laws.Word.Statement (.dpFull m p) :=
  Laws.Word.statement _
theorem Laws.Word.dpUnload (m : Fin 8) (p : Fin 4) : Laws.Word.Statement (.dpUnload m p) :=
  Laws.Word.statement _
theorem Laws.Word.dpBclr (m : Fin 8) (p : Fin 4) : Laws.Word.Statement (.dpBclr m p) :=
  Laws.Word.statement _
theorem Laws.Word.dpCclr (m : Fin 8) (p : Fin 4) : Laws.Word.Statement (.dpCclr m p) :=
  Laws.Word.statement _
theorem Laws.Word.zoneLost (p z : Fin 4) : Laws.Word.Statement (.zoneLost p z) :=
  Laws.Word.statement _
theorem Laws.Word.lockout (p : Fin 4) : Laws.Word.Statement (.lockout p) :=
  Laws.Word.statement _
theorem Laws.Word.seStale (n : Fin 32) : Laws.Word.Statement (.seStale n) :=
  Laws.Word.statement _
theorem Laws.Word.binEvaluation : Laws.Word.Statement (.binEvaluation) :=
  Laws.Word.statement _
theorem Laws.Word.canEnable (m c : Fin 8) (v : Word) : Laws.Word.Statement (.canEnable m c v) :=
  Laws.Word.statement _
theorem Laws.Word.canDisable (m c : Fin 8) (v : Word) : Laws.Word.Statement (.canDisable m c v) :=
  Laws.Word.statement _
theorem Laws.Word.integrationEnd (c : Fin 8) : Laws.Word.Statement (.integrationEnd c) :=
  Laws.Word.statement _
theorem Laws.Word.canFrameReceived (c : Fin 8) (o : Fin 2000) (f : CanBusIn) : Laws.Word.Statement (.canFrameReceived c o f) :=
  Laws.Word.statement _
theorem Laws.Word.canTxOffer (c : Fin 8) : Laws.Word.Statement (.canTxOffer c) :=
  Laws.Word.statement _
theorem Laws.Word.txDone (c : Fin 8) (o : Fin 2000) (delay : Nat) : Laws.Word.Statement (.txDone c o delay) :=
  Laws.Word.statement _
theorem Laws.Word.canProtocolError (c : Fin 8) (o : Fin 2000) (code : Fin 8) (data coll : Bool) (mv : CanErrIn) : Laws.Word.Statement (.canProtocolError c o code data coll mv) :=
  Laws.Word.statement _
theorem Laws.Word.buson (c : Fin 8) (o : Fin 2000) : Laws.Word.Statement (.buson c o) :=
  Laws.Word.statement _
theorem Laws.Word.txdTo (c : Fin 8) (o : Fin 2000) : Laws.Word.Statement (.txdTo c o) :=
  Laws.Word.statement _
theorem Laws.Word.canFlusha (m c : Fin 8) : Laws.Word.Statement (.canFlusha m c) :=
  Laws.Word.statement _
theorem Laws.Word.canFlushb (m c : Fin 8) : Laws.Word.Statement (.canFlushb m c) :=
  Laws.Word.statement _
theorem Laws.Word.canCclr (m c : Fin 8) : Laws.Word.Statement (.canCclr m c) :=
  Laws.Word.statement _
theorem Laws.Word.sbEntryDue (b : Fin 4) (e : Fin 64) : Laws.Word.Statement (.sbEntryDue b e) :=
  Laws.Word.statement _
theorem Laws.Word.sbTrig (m : Fin 8) (b : Fin 4) (hi : Bool) (v : Word) : Laws.Word.Statement (.sbTrig m b hi v) :=
  Laws.Word.statement _
theorem Laws.Word.sbTransactionStart (b : Fin 4) : Laws.Word.Statement (.sbTransactionStart b) :=
  Laws.Word.statement _
theorem Laws.Word.sbResponseEnd (b : Fin 4) (o : Fin 2000) (delay : Nat) (bad : Bool) (d : List Byte) : Laws.Word.Statement (.sbResponseEnd b o delay bad d) :=
  Laws.Word.statement _
theorem Laws.Word.sbTimeout (b : Fin 4) : Laws.Word.Statement (.sbTimeout b) :=
  Laws.Word.statement _
theorem Laws.Word.stray (b : Fin 4) : Laws.Word.Statement (.stray b) :=
  Laws.Word.statement _
theorem Laws.Word.sbCclr (m : Fin 8) (b : Fin 4) : Laws.Word.Statement (.sbCclr m b) :=
  Laws.Word.statement _
theorem Laws.Word.sbRequestEnd (b : Fin 4) : Laws.Word.Statement (.sbRequestEnd b) :=
  Laws.Word.statement _
theorem Laws.Word.qEnable (m : Fin 8) (q : Fin 48) (v : Word) : Laws.Word.Statement (.qEnable m q v) :=
  Laws.Word.statement _
theorem Laws.Word.qTailWrite (m : Fin 8) (q : Fin 48) (v : Word) : Laws.Word.Statement (.qTailWrite m q v) :=
  Laws.Word.statement _
theorem Laws.Word.qHeadWrite (m : Fin 8) (q : Fin 48) (v : Word) : Laws.Word.Statement (.qHeadWrite m q v) :=
  Laws.Word.statement _
theorem Laws.Word.qFlush (m : Fin 8) (q : Fin 48) : Laws.Word.Statement (.qFlush m q) :=
  Laws.Word.statement _
theorem Laws.Word.qCclr (m : Fin 8) (q : Fin 48) : Laws.Word.Statement (.qCclr m q) :=
  Laws.Word.statement _
theorem Laws.Word.cmdWrites (i : Fin 4) : Laws.Word.Statement (.cmdWrites i) :=
  Laws.Word.statement _
theorem Laws.Word.cmdReplay (i : Fin 4) : Laws.Word.Statement (.cmdReplay i) :=
  Laws.Word.statement _
theorem Laws.Word.zhaRead (f : ZhaFrame) : Laws.Word.Statement (.zhaRead f) :=
  Laws.Word.statement _
theorem Laws.Word.zhaWrite (f : ZhaFrame) : Laws.Word.Statement (.zhaWrite f) :=
  Laws.Word.statement _
theorem Laws.Word.zhaWriteList (f : ZhaFrame) : Laws.Word.Statement (.zhaWriteList f) :=
  Laws.Word.statement _
theorem Laws.Word.zhaCmdq (f : ZhaFrame) : Laws.Word.Statement (.zhaCmdq f) :=
  Laws.Word.statement _
theorem Laws.Word.zhaStreamAck (f : ZhaFrame) : Laws.Word.Statement (.zhaStreamAck f) :=
  Laws.Word.statement _
theorem Laws.Word.zhaPing (f : ZhaFrame) : Laws.Word.Statement (.zhaPing f) :=
  Laws.Word.statement _
theorem Laws.Word.streamFrameSend (i : Fin 4) : Laws.Word.Statement (.streamFrameSend i) :=
  Laws.Word.statement _
theorem Laws.Word.streamResend (i : Fin 4) : Laws.Word.Statement (.streamResend i) :=
  Laws.Word.statement _
theorem Laws.Word.arpRequest (p : Fin 2) (ip : Word) : Laws.Word.Statement (.arpRequest p ip) :=
  Laws.Word.statement _
theorem Laws.Word.icmpEcho (p : Fin 2) (data : List Byte) : Laws.Word.Statement (.icmpEcho p data) :=
  Laws.Word.statement _
theorem Laws.Word.hlLink (p : Fin 2) (up : Bool) (sqi : Fin 8) : Laws.Word.Statement (.hlLink p up sqi) :=
  Laws.Word.statement _
theorem Laws.Word.spiWrite (l : List Byte) : Laws.Word.Statement (.spiWrite l) :=
  Laws.Word.statement _
theorem Laws.Word.spiRead (l : List Byte) (made : Nat) : Laws.Word.Statement (.spiRead l made) :=
  Laws.Word.statement _
theorem Laws.Word.spiStatus : Laws.Word.Statement (.spiStatus) :=
  Laws.Word.statement _
theorem Laws.Word.spiErr (c : Fin 256) : Laws.Word.Statement (.spiErr c) :=
  Laws.Word.statement _
theorem Laws.Word.zhaFrameDrop (d : DropFrame) : Laws.Word.Statement (.zhaFrameDrop d) :=
  Laws.Word.statement _
theorem Laws.Word.arpReply (p : Fin 2) (ip : Word) : Laws.Word.Statement (.arpReply p ip) :=
  Laws.Word.statement _
theorem Laws.Word.arpEntryExpiry (i : Fin 4) : Laws.Word.Statement (.arpEntryExpiry i) :=
  Laws.Word.statement _
theorem Laws.Word.hcRunStart (m : Fin 8) (i : Fin 2) (v : Word) : Laws.Word.Statement (.hcRunStart m i v) :=
  Laws.Word.statement _
theorem Laws.Word.hcReloadDone (i : Fin 2) : Laws.Word.Statement (.hcReloadDone i) :=
  Laws.Word.statement _
theorem Laws.Word.hcRunHalt (m : Fin 8) (i : Fin 2) : Laws.Word.Statement (.hcRunHalt m i) :=
  Laws.Word.statement _
theorem Laws.Word.hcTrap (i : Fin 2) (pc cause tval : Word) : Laws.Word.Statement (.hcTrap i pc cause tval) :=
  Laws.Word.statement _
theorem Laws.Word.hcWdt (i : Fin 2) : Laws.Word.Statement (.hcWdt i) :=
  Laws.Word.statement _
theorem Laws.Word.hcKick (m : Fin 8) (i : Fin 2) : Laws.Word.Statement (.hcKick m i) :=
  Laws.Word.statement _
theorem Laws.Word.hcTimerInterrupt (i : Fin 2) : Laws.Word.Statement (.hcTimerInterrupt i) :=
  Laws.Word.statement _
theorem Laws.Word.hcDebug (i : Fin 2) (x : HcOp) : Laws.Word.Statement (.hcDebug i x) :=
  Laws.Word.statement _
theorem Laws.Word.powerOnReset : Laws.Word.Statement (.powerOnReset) :=
  Laws.Word.statement _
theorem Laws.Word.pinReset : Laws.Word.Statement (.pinReset) :=
  Laws.Word.statement _
theorem Laws.Word.modReset (m : Fin 8) : Laws.Word.Statement (.modReset m) :=
  Laws.Word.statement _
theorem Laws.Word.modResetRecord (m : Fin 8) : Laws.Word.Statement (.modResetRecord m) :=
  Laws.Word.statement _
theorem Laws.Word.modResetReplay (m : Fin 8) : Laws.Word.Statement (.modResetReplay m) :=
  Laws.Word.statement _
theorem Laws.Word.pllLock (mv : Nat) : Laws.Word.Statement (.pllLock mv) :=
  Laws.Word.statement _
theorem Laws.Word.mramReady : Laws.Word.Statement (.mramReady) :=
  Laws.Word.statement _
theorem Laws.Word.bootDone (a b : Image) : Laws.Word.Statement (.bootDone a b) :=
  Laws.Word.statement _
theorem Laws.Word.helperCoreAutostart : Laws.Word.Statement (.helperCoreAutostart) :=
  Laws.Word.statement _
theorem Laws.Word.release (m : Fin 8) : Laws.Word.Statement (.release m) :=
  Laws.Word.statement _
theorem Laws.Word.clkFault (o : Fin 2000) : Laws.Word.Statement (.clkFault o) :=
  Laws.Word.statement _
theorem Laws.Word.xtalDrift (ppm : Word) : Laws.Word.Statement (.xtalDrift ppm) :=
  Laws.Word.statement _
theorem Laws.Word.tickFault : Laws.Word.Statement (.tickFault) :=
  Laws.Word.statement _
theorem Laws.Word.vbatLLow (mv : Nat) : Laws.Word.Statement (.vbatLLow mv) :=
  Laws.Word.statement _
theorem Laws.Word.railFault : Laws.Word.Statement (.railFault) :=
  Laws.Word.statement _
theorem Laws.Word.tempMain (tj : Word) : Laws.Word.Statement (.tempMain tj) :=
  Laws.Word.statement _
theorem Laws.Word.heartbeatLostDie (d : Fin 4) : Laws.Word.Statement (.heartbeatLostDie d) :=
  Laws.Word.statement _
theorem Laws.Word.heartbeatResetRequest : Laws.Word.Statement (.heartbeatResetRequest) :=
  Laws.Word.statement _
theorem Laws.Word.supHbclr (m : Fin 8) : Laws.Word.Statement (.supHbclr m) :=
  Laws.Word.statement _
theorem Laws.Word.mmWrite (m : Fin 8) (v : Word) : Laws.Word.Statement (.mmWrite m v) :=
  Laws.Word.statement _
theorem Laws.Word.mmVerify (m : Fin 8) (v : Word) : Laws.Word.Statement (.mmVerify m v) :=
  Laws.Word.statement _
theorem Laws.Word.mmInvalidate (m : Fin 8) (v : Word) : Laws.Word.Statement (.mmInvalidate m v) :=
  Laws.Word.statement _
theorem Laws.Word.mmCommandDone (b : Image) : Laws.Word.Statement (.mmCommandDone b) :=
  Laws.Word.statement _
theorem Laws.Word.dbgHaltPin (low : Bool) : Laws.Word.Statement (.dbgHaltPin low) :=
  Laws.Word.statement _
theorem Laws.Word.dgHalt (m : Fin 8) : Laws.Word.Statement (.dgHalt m) :=
  Laws.Word.statement _
theorem Laws.Word.dgResume (m : Fin 8) : Laws.Word.Statement (.dgResume m) :=
  Laws.Word.statement _
theorem Laws.Word.dgMrst (m : Fin 8) : Laws.Word.Statement (.dgMrst m) :=
  Laws.Word.statement _
theorem Laws.Word.extest : Laws.Word.Statement (.extest) :=
  Laws.Word.statement _
theorem Laws.Word.nresetRelease : Laws.Word.Statement (.nresetRelease) :=
  Laws.Word.statement _
theorem Laws.Word.vbatLRestored (mv : Nat) : Laws.Word.Statement (.vbatLRestored mv) :=
  Laws.Word.statement _
theorem Laws.Word.rpRecHeadWrite (m : Fin 8) (v : Word) : Laws.Word.Statement (.rpRecHeadWrite m v) :=
  Laws.Word.statement _
theorem Laws.Word.replayStartCheck (i : Fin 4) : Laws.Word.Statement (.replayStartCheck i) :=
  Laws.Word.statement _
theorem Laws.Word.replayGo (m : Fin 8) : Laws.Word.Statement (.replayGo m) :=
  Laws.Word.statement _
theorem Laws.Word.replayRecordMerge : Laws.Word.Statement (.replayRecordMerge) :=
  Laws.Word.statement _
theorem Laws.Word.replayEnd : Laws.Word.Statement (.replayEnd) :=
  Laws.Word.statement _

end Sys2Proof
end

