-- ==== Sys2Proof/Machine/Outputs.lean ====
section
/-!
DEFINITION. Sys2Proof/Machine/Outputs.lean: what stands at the output pads. The internal outputs run on in replay while the
physical ones are held in the dust sheet (R35, R433, R448); a release in replay lets only the internal ones go.
-/

namespace Sys2Proof.Machine
namespace State

/-- The low side of valve channel `n` conducts; off in the dust sheet (R218, R236, R433). -/
def outLow (s : State) (n : Nat) : Bool := !s.inReplay && (s.valve n).low

/-- The high side of valve group `g` is on; off in the dust sheet (R233, R236, R433). -/
def outHigh (s : State) (g : Nat) : Bool := !s.inReplay && s.flag VG_STAT_HS_ON g

/-- The output of valve slice `n` at a clock of the present tick; low in the dust sheet (R243, R433). -/
def outSlice (s : State) (n t : Nat) : Bool := !s.inReplay && s.sliceHigh n t

/-- The levels of a bridge pair's pads at a clock; high impedance in the dust sheet (R249, R433). -/
def outPair (s : State) (n t : Nat) : Option Bool × Option Bool :=
  if s.inReplay then (none, none) else (s.bpPadH n t, s.bpPadL n t)

/-- The code at analog output `a`; AO_SAFE in the dust sheet, and 0 while disabled (R303, R305, R433). -/
def outAnalog (s : State) (a : Nat) : Nat := s.fld AO_CODE_CODE a

/-- The output of load switch `m`: its die holds it in replay (R277, R448). -/
def outSwitch (s : State) (m : Nat) : Bool := s.lsPhys.flag LS_STAT_OUT m

/-- The lines A, B and Z of forwarding port `n` (R204). -/
def outForward (s : State) (n line : Nat) : Bool := s.fwdPad n line

/-! ### Excitation of the precision channels (R286, R287) -/

/-- Whether the sources stand exchanged in the period that holds the clock `t`: with SWAP they are at every boundary. -/
def pcSwapped (s : State) (n t : Nat) : Bool :=
  s.flag PC_CFG_SWAP n && (t - (s.pc n).start) / s.pcPeriod n % 2 == 1

/-- What drives pads EXA and EXB of a channel: none with WIRE 0b00 or while disabled; EXB carries a source in the 3-wire
connection with SWAP only, since source A alone is used without. -/
def pcPads (s : State) (n t : Nat) : Option Source × Option Source :=
  let x := s.pcSwapped n t
  let w := s.fld PC_CFG_WIRE n
  if !s.flag PC_CFG_EN n || w == 0 then (none, none)
  else (some (if x then .b else .a), if w = 2 ∧ s.flag PC_CFG_SWAP n then some (if x then .a else .b) else none)

/-- The nominal current of a driven pad in µA. -/
def pcDrive (s : State) (n : Nat) : Option Nat := iexcSetting (s.fld PC_CFG_IEXC n)

/-! ### Sensor supplies (R478) -/

/-- The sensor supplies are on from the end of the main die's power-on reset, and off during every power-on and pin
reset. -/
def suppliesOn (s : State) : Bool := !(s.boot.rst == 1 || s.boot.rst == 2 || s.boot.rst == 3)

/-- The nominal output in mV of VS5_0 to VS5_3, and of VS12_0 and VS12_1, which follow VBAT_L; nothing switches or reads
them. -/
def outVs5 (s : State) (_n : Fin 4) : Nat := if s.suppliesOn then 5000 else 0

def outVs12 (s : State) (_n : Fin 2) : Nat := if s.suppliesOn then s.fld SUP_VBATL_MV 0 - 500 else 0

end State
end Sys2Proof.Machine
end

