-- ==== Sys2Proof/WellFormed.lean ====
section
/-!
DEFINITION. Sys2Proof/WellFormed.lean: which commands the module can meet: what the types of the operands leave open. A
meaning is total and answers an ill-formed command too; statements that need well-formedness say so.
-/

namespace Sys2Proof

open Machine

/-- An access is 1, 2, 4 or 8 bytes wide (R48). -/
def sizeOk (n : Nat) : Bool := n == 1 || n == 2 || n == 4 || n == 8

/-- What is read in a tick concerns parts the module has: 24 load switches, 4 supply groups, 4 analog outputs, 4 power
dies. -/
def tickInOk (x : TickIn) : Bool :=
  x.loads.all (fun e => decide (e.1 < 24)) && x.supplies.all (fun e => decide (e.1 < 4)) &&
  x.outputs.all (fun e => decide (e.1 < 4)) && x.dies.all (fun e => decide (e.1 < 4))

/-- A frame of a CAN bus (R368, ISO 11898-1): an identifier of 11 or 29 bits, a DLC of 4 bits, no remote frame in FD
format, BRS and ESI in FD format only, and as many data bytes as the DLC gives. -/
def canFrameOk (f : CanFrame) : Bool :=
  let n : Nat := if f.rtr then 0 else if f.dlc ≤ 8 then f.dlc else if !f.fdf then 8 else
    [12, 16, 20, 24, 32, 48, 64].getD (f.dlc - 9) 64
  decide (f.id < (if f.ide then 2 ^ 29 else 2 ^ 11)) && decide (f.dlc < 16) && !(f.fdf && f.rtr) &&
  (f.fdf || !(f.brs || f.esi)) && f.data.length == n

/-- At most one coil sample a microsecond, 10 in a tick (R226). -/
def valveObsOk : ValveObs → Bool
  | .coil l => decide (l.length ≤ 10)
  | .supply _ _ => true
  | .hold => true

/-- The chopped samples of a conversion period: 800 at most, each of two halves of 125 modulator samples (R281, R282). -/
def chopsOk (l : List Chop) : Bool :=
  decide (l.length ≤ 800) && l.all fun c => c.first.length == 125 && c.second.length == 125

/-- A primer image names 128 pages, 4 session keys of 32 bytes and 2 cores with at most 256 KiB each (R404, R426). -/
def imageOk (m : Image) : Bool :=
  m.sticky.all (fun p => decide (p < 256)) && decide (m.keys.length ≤ 4) && m.keys.all (fun k => k.length == 32) &&
  decide (m.cores.length ≤ 2) && m.cores.all (fun c => match c with | some b => decide (b.length ≤ 262144) | none => true)

/-- The checks, by command. -/
def Instr.wellFormed : Instr → Bool
  | .axisTick x => tickInOk x
  | .registerWrite _ n _ _ => sizeOk n
  | .registerReadRc _ n _ => sizeOk n
  | .imuRecord _ l => decide (l.length ≤ 15)
  | .valveObservation _ _ x => valveObsOk x
  | .canFrameReceived _ _ (.frame f) => canFrameOk f
  | .pcConversionEnd _ h l _ _ => chopsOk h && chopsOk l
  | .initCalEnd cur => decide (cur.length ≤ 33)
  | .gcResult _ _ l => decide (l.length ≤ 1024) && l.all fun e => decide (e.vs5.length ≤ 4)
  | .sbResponseEnd _ _ _ _ d => decide (d.length ≤ 256)
  | .spiErr c => c != 2 && c != 3 && c != 5
  | .bootDone a b => imageOk a && imageOk b
  | _ => true

end Sys2Proof
end

