-- ==== Sys2Proof/Tests/Slice0.lean ====
section
/-!
SUPPORT. Sys2Proof/Tests/Slice0.lean: the ill-formed operands that WellFormed refuses, and for every statement with
hypotheses a concrete state and operands that meet them together.
-/

namespace Sys2Proof.Machine
open State

set_option Elab.async false

/-- A module after its start-up: released from reset, the primer image running, master 2 the owner. -/
def ready : State :=
  ((({ State.reset with boot := { State.reset.boot with rst := 0 }, tick := 1000 } : State).setFld MOD_STAT_BOOT 0 1).setFld
    MOD_STAT_RLS_BLOCK 0 0).setFld PR_OWNER_OWNER 0 2

/-- The guard of a KW register's page in STICKY mode, unlocked. -/
def keyed (r : Reg) (i : Nat) (s : State) : State :=
  if r.info.acc = .kw then s.setFlag GUARD_STAT_MODE (wrPage r i) true else s

/-- A ZHA frame of session 3, tagged under the empty key. -/
def request (type : Nat) (seq : Word) (body : List Byte) : ZhaFrame :=
  let h := [0x48#8, 0x5A#8, 1#8, BitVec.ofNat 8 type, 3#8, 0#8] ++ natBytes body.length 2 ++ wordBytes 0#32 ++ wordBytes seq ++ body
  { port := 1, src := 5#32, sport := 9, payload := h ++ Sha.tag [] h }

/-- A module whose session 3 is set up on port 1, whose link is up. -/
def linked : State :=
  (((((ready.setFlag HL_PCFG_EN 1 true).setFlag HL_PSTAT_LINK 1 true).setFlag HL_SCFG_EN 3 true).setFld HL_SCFG_PORT 3 1).put
    .HL_SPEER 3 5#32).setFld HL_SPORT_PORT 3 9

/-- A module that awaits START on Q33, its image in slot A. -/
def replaying : State :=
  (((((ready.setFld RP_STAT_STATE 0 2).setFld MOD_STAT_RMODE 0 2).put .RP_CFG 0 8).put .RP_T0_LO 0 5000).wrWord 0x02C00010
    0x11).wrWord 0x02C00008 7

theorem maskCrc_of_mem {s t : State} (h : s.mem = t.mem) : s.maskCrc = t.maskCrc := by
  have h0 : s.rdByte = t.rdByte := funext fun a => by unfold State.rdByte; rw [h]
  have h2 : s.rdBytes = t.rdBytes := funext fun a => funext fun n => by
    induction n generalizing a with
    | zero => rfl
    | succ n ih => unfold State.rdBytes; rw [h0, ih]
  have h1 : s.rdWord = t.rdWord := funext fun a => by unfold State.rdWord; rw [h2]
  unfold State.maskCrc
  rw [h1, h2]

theorem crc_other (l : List Byte) : State.crc32 l ≠ 0#32 ∨ State.crc32 l ≠ 1#32 := by
  by_cases h : State.crc32 l = 0#32
  · right; rw [h]; decide
  · exact .inl h

theorem rpParse_start (c : Word) :
    State.rpParse [0x0403001C#32, 5000, 0, 0x11, 0, 0, 0, 7, 9, c, 77] =
      some (⟨1, 3, 5000, [0x11, 0, 0, 0, 7, 9, c]⟩, [77]) := rfl

/-- Such a module in which a START record that matches in every point stands in front. -/
def starting : State :=
  { replaying with replay :=
      { replaying.replay with qs := [(3, { words := [0x0403001C, 5000, 0, 0x11, 0, 0, 0, 7, 9, replaying.maskCrc, 77] })] } }

theorem starting_words :
    (starting.begin'.rpQueue 3).words = [0x0403001C#32, 5000, 0, 0x11, 0, 0, 0, 7, 9, replaying.maskCrc, 77] := rfl
theorem starting_mem : starting.begin'.mem = replaying.mem := rfl

/-! ### What WellFormed refuses -/

/-- Readings of a tick in which all is well. -/
def senses : TickIn :=
  { vbat := 13500, main := 0#32, dies := [], xtal := 0#32, rails := true, corrected := 0, loads := [], supplies := [], outputs := [] }

theorem test_wellFormed_tick : (Instr.axisTick senses).wellFormed = true := by decide +kernel
theorem test_illFormed_tick_load : (Instr.axisTick { senses with loads := [(24, 0#32, 0#32)] }).wellFormed = false := by decide +kernel
theorem test_illFormed_tick_supply : (Instr.axisTick { senses with supplies := [(4, 0)] }).wellFormed = false := by decide +kernel
theorem test_illFormed_tick_output : (Instr.axisTick { senses with outputs := [(4, 0#32, true)] }).wellFormed = false := by decide +kernel
theorem test_illFormed_tick_die : (Instr.axisTick { senses with dies := [(4, 0#32)] }).wellFormed = false := by decide +kernel
theorem test_illFormed_write_size : (Instr.registerWrite 0 3 0 0).wellFormed = false := by decide +kernel
theorem test_illFormed_read_size : (Instr.registerReadRc 0 0 0).wellFormed = false := by decide +kernel
theorem test_illFormed_imu_length : (Instr.imuRecord 0 (List.replicate 16 0#8)).wellFormed = false := by decide +kernel
theorem test_illFormed_coil_samples : (Instr.valveObservation 0 0 (.coil (List.replicate 11 0))).wellFormed = false := by decide +kernel
theorem test_illFormed_can_length : (Instr.canFrameReceived 0 0 (.frame { id := 5, dlc := 3, data := [1#8] })).wellFormed = false := by
  decide +kernel
theorem test_illFormed_can_id : (Instr.canFrameReceived 0 0 (.frame { id := 2048, dlc := 0, data := [] })).wellFormed = false := by
  decide +kernel
theorem test_illFormed_init_cal : (Instr.initCalEnd (List.replicate 34 {})).wellFormed = false := by decide +kernel
theorem test_illFormed_gc_samples : (Instr.gcResult 0 0 (List.replicate 1025 {})).wellFormed = false := by decide +kernel
theorem test_illFormed_response : (Instr.sbResponseEnd 0 0 0 false (List.replicate 257 0#8)).wellFormed = false := by decide +kernel
theorem test_illFormed_spi_command : (Instr.spiErr 2).wellFormed = false := by decide +kernel
theorem test_illFormed_image_page : (Instr.bootDone { sticky := [256] } {}).wellFormed = false := by decide +kernel
theorem test_illFormed_image_key : (Instr.bootDone {} { keys := [[0#8]] }).wellFormed = false := by decide +kernel

theorem test_StepTakesFront_meets_1 : ∃ (c : Instr) (r : List Instr) (s : State), s.pending = c :: r :=
  ⟨.pinReset, [], { ready with pending := [.pinReset] }, by decide +kernel⟩

theorem test_StepTakesFront_meets_2 : ∃ s : State, s.pending = [] :=
  ⟨ready, by decide +kernel⟩

theorem test_QueueDrainsInOrder_meets_1 : ∃ (c : Instr) (r : List Instr) (s : State), s.pending = c :: r :=
  ⟨.axisTick senses, [.pinReset], { ready with pending := [.axisTick senses, .pinReset] }, by decide +kernel⟩

theorem test_QueueDrainsInOrder_meets_2 : ∃ s t : State, step s = .next t ∧ Memory.wf s.mem :=
  ⟨{ ready.wrWord 0x01200000 5 with pending := [.nresetRelease] }, State.nresetHigh (ready.wrWord 0x01200000
    5).begin', rfl,
    by decide +kernel⟩

theorem test_PageCommands_meets_1 : ∃ (m : Fin 8) (p : Fin 256) (s : State), s.mayWrite m .EVT_MASK p = true ∧
  (blockOf p.val).isSome = true :=
  ⟨2, 0x7C, (keyed .EVT_MASK (0x7C : Fin 256) (ready)), by decide +kernel⟩

theorem test_PageCommands_meets_2 : ∃ (m : Fin 8) (p : Fin 256) (s : State), s.mayWrite m .EVT_MASK p = true ∧
  (blockOf p.val).isSome = true :=
  ⟨2, 0x7C, (keyed .EVT_MASK (0x7C : Fin 256) (ready.put .EVT_MASK (0x7C : Fin 256) 0x3C)), by decide +kernel⟩

theorem test_PageCommands_meets_3 : ∃ (m : Fin 8) (p : Fin 256) (s : State), s.mayWrite m .EVT_MASK p = true ∧
  (blockOf p.val).isSome = true :=
  ⟨2, 0x7C, (keyed .EVT_MASK (0x7C : Fin 256) (ready.put .EVT_MASK (0x7C : Fin 256) 0x3C)), by decide +kernel⟩

theorem test_PageCommands_meets_4 : ∃ (m : Fin 8) (p : Fin 256) (s : State), s.mayWrite m .EVT_MASK p = true ∧
  (blockOf p.val).isSome = true :=
  ⟨2, 0x7C, (keyed .EVT_MASK (0x7C : Fin 256) (ready.put .EVT_MASK (0x7C : Fin 256) 0x3C)), by decide +kernel⟩

theorem test_PageCommands_meets_5 : ∃ (m : Fin 8) (p : Fin 256) (s : State), s.mayWrite m .SNAP p = true ∧
  (blockOf p.val).isSome = true :=
  ⟨2, 0x7C, (keyed .SNAP (0x7C : Fin 256) (ready)), by decide +kernel⟩

theorem test_PageCommands_meets_6 : ∃ (m : Fin 8) (p : Fin 256) (s : State),
    let u := s.meets m .DOMAIN_RST p;
    s.mayWrite m .DOMAIN_RST p = true ∧ (blockOf p.val).isSome = true ∧ u.domainErr p = false :=
  ⟨2, 0x7C, keyed .DOMAIN_RST 0x7C ready, by decide +kernel⟩

theorem test_PageCommands_meets_7 : ∃ (m : Fin 8) (p : Fin 256) (s : State),
    let u := s.meets m .DOMAIN_RST p;
    s.mayWrite m .DOMAIN_RST p = true ∧ 0x60 ≤ p.val ∧ p.val ≤ 0x6B ∧ u.recording = false ∧
    (∀ e ∈ u.img, regPage (Reg.ofKey e.1).1 (Reg.ofKey e.1).2 ≠ p) :=
  ⟨2, 0x6B, keyed .DOMAIN_RST 0x6B ready, by decide +kernel⟩

theorem test_PageCommands_meets_8 : ∃ (p : Fin 256) (_ : State), (blockOf p.val).isSome = true :=
  ⟨0x7C, ready.setFlag PAGE_STAT_DRST_BUSY 0x7C true, by decide +kernel⟩

theorem test_PageCommands_meets_9 : ∃ (m : Fin 8) (p : Fin 256) (b : Block) (base : Nat) (s : State),
    let u := s.meets m .DOMAIN_RST p;
    s.mayWrite m .DOMAIN_RST p = true ∧ blockOf p.val = some (b, base) ∧ u.domainErr p = false :=
  ⟨2, 0x7C, .DG, 0x7C, keyed .DOMAIN_RST 0x7C ready, by decide +kernel⟩

theorem test_PageCommands_meets_10 : ∃ (p : Fin 256) (b : Block) (base : Nat) (_ : State), blockOf p.val = some (b,
  base) ∧ b ∈ [Block.PR, .ER, .AX, .GM, .FB, .FW, .VS, .BP, .GC, .LP, .DP, .MS, .CN, .SB, .RP, .DG] :=
  ⟨6, .AX, 4, (ready.put .AX_CFG 31 0x51), by decide +kernel⟩

theorem test_PageCommands_meets_11 : ∃ (p : Fin 256) (_ : State), blockOf p.val = some (Block.PC, 0x40) :=
  ⟨0x41, (ready.setFlag PC_ROT_STAT_HALT 0 true).setFld PC_ROT_STAT_FAILMOD 0 5, by decide +kernel⟩

theorem test_PageCommands_meets_12 : ∃ (p : Fin 256) (_ : State), blockOf p.val = some (Block.ZC, 0x4C) :=
  ⟨0x4C, ready.put .AO_VAL 3 5, by decide +kernel⟩

theorem test_PageCommands_meets_13 : ∃ (p : Fin 256) (_ : State), blockOf p.val = some (Block.QE, 0x6C) :=
  ⟨0x6C, ready.put .Q_TAIL 8 3, by decide +kernel⟩

theorem test_PageCommands_meets_14 : ∃ (p : Fin 256) (_ : State), blockOf p.val = some (Block.HL, 0x70) :=
  ⟨0x71, { ready with sess := [(3, { key := [1], outT := 5 })] }, by decide +kernel⟩

theorem test_ReadsClearPending_meets_1 : ∃ (m : Fin 7) (p : Fin 256) (s : State),
    let u := s.begin';
    u.canAccess m = true ∧ u.frozen m = false ∧ u.served = true ∧ (blockOf p.val).isSome = true ∧
    (u.failsafe = true → failsafePage p = true) ∧ 1 ≤ u.pageRight m p :=
  ⟨2, 0x7C, ready, by decide +kernel⟩

theorem test_ReadsClearPending_meets_2 : ∃ (p : Fin 256) (s : State),
    let u := s.begin';
    u.served = true ∧ (blockOf p.val).isSome = true ∧ (u.failsafe = true → failsafePage p = true) ∧
      1 ≤ u.pageRight 7 p ∧
    u.flag DG_STAT_ATTACHED 0 = true :=
  ⟨0x7C, (ready.setFld PR_OWNER_OWNER 0 7).setFlag DG_STAT_ATTACHED 0 true, by decide +kernel⟩

theorem test_MemoryWrites_meets_1 : ∃ (m : Fin 8) (a : Word) (s : State),
    let u := s.metBy m;
    u.canAccess m = true ∧ (m.val < 7 → u.frozen m = false) ∧ u.served = true ∧ u.failsafe = false ∧
    a.toNat % 4 = 0 ∧ memWritable a.toNat = true ∧ 2 ≤ u.memRight m a.toNat :=
  ⟨2, 0x013FFFFC, ready, by decide +kernel⟩

theorem test_MemoryWrites_meets_2 : ∃ (m : Fin 7) (a : Word) (s : State),
    let u := s.begin';
    2 ≤ m.val ∧ u.frozen m = false ∧ u.served = true ∧ u.failsafe = false ∧ a.toNat % 4 = 0 ∧ inMram a.toNat = true ∧
    1 ≤ u.memRight m a.toNat :=
  ⟨2, 0x02FFFFFC, ready, by decide +kernel⟩

theorem test_GuardCommands_meets_1 : ∃ (m : Fin 8) (p : Fin 256) (s : State), s.mayAccess m .GUARD_KEY p = true ∧
  (blockOf p.val).isSome = true ∧
    (s.metBy m).flag GUARD_STAT_MODE p = false ∧
    ((s.metBy m).flag GUARD_STAT_OPEN p = false ∨ (s.metBy m).fld GUARD_STAT_OPEN_MASTER p = m) :=
  ⟨2, 0x7C, ready, by decide +kernel⟩

theorem test_GuardCommands_meets_2 : ∃ (m : Fin 8) (p : Fin 256) (s : State), s.mayAccess m .GUARD_KEY p = true ∧
  (blockOf p.val).isSome = true ∧
    (s.metBy m).flag GUARD_STAT_MODE p = true ∧ (s.metBy m).flag GUARD_STAT_LOCKED p = false :=
  ⟨2, 0x7C, ready.setFlag GUARD_STAT_MODE 0x7C true, by decide +kernel⟩

theorem test_GuardCommands_meets_3 : ∃ (m : Fin 8) (s : State), s.mayAccess m .PR_UNFREEZE 0 = true ∧
  (s.metBy m).takes .PR_UNFREEZE 0 = true :=
  ⟨2, (keyed .PR_UNFREEZE 0 (((ready.setRbit .PR_FROZEN 0 0 true).setRbit .PR_FROZEN 0 6 true).setRbit .PR_FROZEN 0 3
    true)), by decide +kernel⟩

theorem test_GuardCommands_meets_4 : ∃ (m : Fin 8) (v : Word) (s : State), s.mayAccess m .PR_GCLR 0 = true ∧
  (s.metBy m).takes .PR_GCLR 0 = true ∧ (blockOf (bitsOf v 7 0)).isSome = true :=
  ⟨2, 0x7C, (keyed .PR_GCLR 0 (ready.put .GUARD_STAT 0x7C 0xF5FC)), by decide +kernel⟩

theorem test_GuardCommands_meets_5 : ∃ (m : Fin 8) (n : Fin 8) (s : State), s.mayAccess m .PR_MEM_BASE n = true ∧
  (s.metBy m).takes .PR_MEM_BASE n = true :=
  ⟨2, 7, (keyed .PR_MEM_BASE (7 : Fin 8) (ready)), by decide +kernel⟩

theorem test_GuardCommands_meets_6 : ∃ (m : Fin 8) (n : Fin 8) (s : State), s.mayAccess m .PR_MEM_LIM n = true ∧
  (s.metBy m).takes .PR_MEM_LIM n = true :=
  ⟨2, 7, (keyed .PR_MEM_LIM (7 : Fin 8) (ready)), by decide +kernel⟩

theorem test_GuardCommands_meets_7 : ∃ (m : Fin 8) (n : Fin 8) (s : State), s.mayAccess m .PR_MEM_ACC n = true ∧
  (s.metBy m).takes .PR_MEM_ACC n = true :=
  ⟨2, 7, (keyed .PR_MEM_ACC (7 : Fin 8) (ready)), by decide +kernel⟩

theorem test_GuardCommands_meets_8 : ∃ (m : Fin 8) (x : Fin 8) (k : Fin 16) (s : State),
    let u := s.metBy m;
    s.mayAccess m .PR_PAGE_ACC ((16 * x.val + k.val)) = true ∧
      (s.metBy m).takes .PR_PAGE_ACC ((16 * x.val + k.val)) = true ∧ x.val ≠ u.owner :=
  ⟨2, 7, 0, (keyed .PR_PAGE_ACC ((16 * (7 : Fin 8).val + (0 : Fin 16).val)) (ready)), by decide +kernel⟩

theorem test_TicksAdvance_meets_1 : ∃ s : State,
    let u := s.met;
    u.boot.rst = 0 ∧ u.boot.rstEnd = none :=
  ⟨ready, by decide +kernel⟩

theorem test_TicksAdvance_meets_2 : ∃ s : State,
    let u := s.met;
    u.boot.rst ≠ 0 ∧ u.boot.rstEnd = none :=
  ⟨State.reset, by decide +kernel⟩

theorem test_TicksAdvance_meets_3 : ∃ s : State, let v := s.begin'.settled
    s.begin'.still = false ∧ v.boot.rstEnd = none :=
  ⟨ready, by decide +kernel⟩

theorem test_TicksAdvance_meets_4 : ∃ (k : Nat) (s : State), let v := s.begin'.settled
    s.begin'.still = false ∧ v.boot.rstEnd = some k :=
  ⟨7, { ready with boot := { ready.boot with rst := 2, rstEnd := some 7 } }, by decide +kernel⟩

theorem test_TicksAdvance_meets_5 : ∃ (w x : Waiting) (s : State), s.writes = [w, x] :=
  ⟨{ acc := Access.of 2, addr := 0x4000C, val := 5 }, { acc := Access.of 2, addr := 0x4000C, val := 6 },
    { ready with writes := [{ acc := Access.of 2, addr := 0x4000C, val := 5 }, { acc := Access.of 2, addr := 0x4000C, val := 6 }] },
    by decide +kernel⟩

theorem test_AliasReads_meets_1 : ∃ (m : Fin 8) (p : Fin 256) (n : Nat) (off : Fin 1024) (v : Word) (s t0 : State), n
  ≤ 4 ∧
    exec (.registerReadRc m n (BitVec.ofNat 32 (4096 * p + off))) s = .next t0 ∧ t0.resp = [.ok v] :=
  ⟨2, 0x7C, 4, 0x0C, 5#32, ready.put .EVT_PEND 0x7C 5#32,
    State.busRead 2 4 0x7C00C (ready.put .EVT_PEND 0x7C 5#32).begin', by decide, rfl, by decide +kernel⟩

theorem test_BitAliasWords_meets_1 : ∃ (m : Fin 8) (s : State),
    let u := (s.metBy m).spend.settled;
    (s.metBy m).canAccess m = true ∧ ((m.val < 7 → (s.metBy m).frozen m = false)) ∧ (s.metBy m).served = true ∧
      (s.metBy m).failsafe = false ∧ 2 ≤ (s.metBy m).pageRight m 0x08 ∧ (s.metBy m).inReplay = false ∧
        u.flag PAGE_STAT_DRST_BUSY 0x08 = false :=
  ⟨2, ready, by decide +kernel⟩

theorem test_BitAliasWords_meets_2 : ∃ (m : Fin 8) (s : State),
    let u := (s.metBy m).spend.settled;
    (s.metBy m).canAccess m = true ∧ ((m.val < 7 → (s.metBy m).frozen m = false)) ∧ (s.metBy m).served = true ∧
      (s.metBy m).failsafe = false ∧ 2 ≤ (s.metBy m).pageRight m 0x3C ∧ (s.metBy m).inReplay = false ∧
        u.flag PAGE_STAT_DRST_BUSY 0x3C = false :=
  ⟨2, ready, by decide +kernel⟩

theorem test_BitAliasWords_meets_3 : ∃ (m : Fin 8) (s : State), 2 ≤ m.val ∧ (s.metBy m).canAccess m = true ∧
  ((m.val < 7 → (s.metBy m).frozen m = false)) ∧ (s.metBy m).served = true ∧ (s.metBy m).failsafe = false ∧
    2 ≤ (s.metBy m).pageRight m 0x08 ∧ (s.metBy m).inReplay = false ∧
      (s.metBy m).spend.settled.flag PAGE_STAT_DRST_BUSY 0x08 = true :=
  ⟨2, ready.setFlag PAGE_STAT_DRST_BUSY 0x08 true, by decide +kernel⟩

theorem test_BitAliasWords_meets_4 : ∃ (m : Fin 8) (s : State), 2 ≤ m.val ∧ (s.metBy m).canAccess m = true ∧
  ((m.val < 7 → (s.metBy m).frozen m = false)) ∧ (s.metBy m).served = true ∧ (s.metBy m).failsafe = false ∧
    2 ≤ (s.metBy m).pageRight m 0x3C ∧ (s.metBy m).inReplay = false ∧
      (s.metBy m).spend.settled.flag PAGE_STAT_DRST_BUSY 0x3C = true :=
  ⟨2, ready.setFlag PAGE_STAT_DRST_BUSY 0x3C true, by decide +kernel⟩

theorem test_Violations_meets_1 : ∃ (m : Fin 7) (p : Fin 256) (k : Fin 256) (s : State),
    let u := s.begin';
    u.canAccess m = true ∧ u.frozen m = false ∧ u.served = true ∧ u.failsafe = false ∧
      (blockOf p.val).isSome = true ∧ p.val ≠ 1 ∧ ((p.val = 0 → k.val ≠ 17)) ∧ u.pageRight m p < 2 :=
  ⟨3, 0x7C, 5, ready, by decide +kernel⟩

theorem test_Violations_meets_2 : ∃ (m : Fin 7) (s : State),
    let u := s.begin';
    u.canAccess m = true ∧ u.frozen m = false ∧ u.served = true ∧ u.failsafe = false ∧ m.val ≠ u.owner :=
  ⟨6, ready, by decide +kernel⟩

theorem test_Violations_meets_3 : ∃ (p : Fin 256) (s : State),
    let u := s.metBy 7;
    u.canAccess 7 = true ∧ u.served = true ∧ u.failsafe = false ∧ (blockOf p.val).isSome = true ∧
      u.pageRight 7 p < 2 :=
  ⟨0x7C, ready.setFlag DG_CFG_EN 0 true, by decide +kernel⟩

theorem test_Violations_meets_4 : ∃ (m : Fin 7) (n : Nat) (a : Word) (s : State),
    let u := s.begin';
    n ≤ 4 ∧ a.toNat < 0x10000000 ∧ u.canAccess m = true ∧ u.frozen m = true :=
  ⟨6, 4, 0x7C000, ready.setRbit .PR_FROZEN 0 6 true, by decide +kernel⟩

theorem test_TemplateFrames_meets_1 : ∃ (x : Fin 32) (q : Fin 24) (s : State),
    let u := s.begin';
    q.val = (8 + 2 * u.fld LN_TPL_CFG_CTRL x + u.fld LN_TPL_CFG_FIFO x) ∧ u.flag LN_TPL_CFG_EN x = true ∧
      u.fld LN_TPL_CFG_REFRESH x ≠ 0 ∧
        1000 * u.fld LN_TPL_CFG_REFRESH x ≤ u.tick - ((u.tpl x).last.getD (u.tpl x).tEn) ∧ u.tplGapOk x = true ∧
          u.roomy q = true :=
  ⟨31, 8, ((((((ready.put .LN_TPL_CFG (31 : Fin 32) 0x80000000).setFld LN_TPL_CFG_REFRESH (31 : Fin 32) 1).setFld
    LN_TPL_CFG_MIN_GAP (31 : Fin 32) 0).modTpl (31 : Fin 32) fun p => { p with tEn := 0, seq := 255 })).setFlag
      Q_GEOM_EN 8 true).put .Q_BASE 8 0x01178000, by decide +kernel⟩

theorem test_TemplateFrames_meets_2 : ∃ (x : Fin 32) (s : State),
    let u := s.begin';
    u.tplGapOk x = false :=
  ⟨31,
    { ((((ready.put .LN_TPL_CFG (31 : Fin 32) 0x80000000).setFld LN_TPL_CFG_REFRESH (31 : Fin 32) 1).setFld LN_TPL_CFG_MIN_GAP (31 : Fin 32) 50).modTpl (31 : Fin 32) fun p => { p with tEn := 0, seq := 255, waits := true, last := some 990 }) with tick := 1000 }, by decide +kernel⟩

theorem test_TemplateFrames_meets_3 : ∃ (x : Fin 32) (q : Fin 24) (s : State),
    let u := s.begin';
    q.val = (8 + 2 * u.fld LN_TPL_CFG_CTRL x + u.fld LN_TPL_CFG_FIFO x) ∧ u.flag LN_TPL_CFG_EN x = true ∧
      (u.tpl x).waits = true ∧ u.tplGapOk x = true ∧ u.roomy q = true :=
  ⟨31, 8, ((((((ready.put .LN_TPL_CFG (31 : Fin 32) 0x80000000).setFld LN_TPL_CFG_REFRESH (31 : Fin 32) 1).setFld
    LN_TPL_CFG_MIN_GAP (31 : Fin 32) 0).modTpl (31 : Fin 32) fun p =>
      { p with tEn := 0, seq := 255, waits := true })).setFlag Q_GEOM_EN 8 true).put .Q_BASE 8 0x01178000,
        by decide +kernel⟩

theorem test_TemplateFrames_meets_4 : ∃ (x : Fin 32) (q : Fin 24) (s : State),
    let u := s.begin';
    q.val = (8 + 2 * u.fld LN_TPL_CFG_CTRL x + u.fld LN_TPL_CFG_FIFO x) ∧ u.flag LN_TPL_CFG_EN x = true ∧
      u.fld LN_TPL_CFG_REFRESH x ≠ 0 ∧
        1000 * u.fld LN_TPL_CFG_REFRESH x ≤ u.tick - ((u.tpl x).last.getD (u.tpl x).tEn) ∧ u.tplGapOk x = true ∧
          u.flag Q_GEOM_EN q = true ∧ u.qN q ≤ u.qFill q :=
  ⟨31, 8, ((((((ready.put .LN_TPL_CFG (31 : Fin 32) 0x80000000).setFld LN_TPL_CFG_REFRESH (31 : Fin 32) 1).setFld
    LN_TPL_CFG_MIN_GAP (31 : Fin 32) 0).modTpl (31 : Fin 32) fun p => { p with tEn := 0, seq := 255 })).setFlag
      Q_GEOM_EN 8 true).put .Q_BASE 8 0x01178000 |>.put .Q_TAIL 8 1, by decide +kernel⟩

theorem test_GeometryRuns_meets_1 : ∃ (m : Fin 8) (s : State),
    let u := s.meets m .GM_CTRL 0;
    s.mayWrite m .GM_CTRL 0 = true ∧ u.gmRun = false ∧ u.runCode = 0 :=
  ⟨2, (keyed .GM_CTRL 0 ((((ready.put .AX_CFG 0 1).wrWord dirBase dirFormat).wrWord (dirBase + 0x10) 2).put
    .GM_CNT_LAP 0 7)), by decide +kernel⟩

theorem test_GeometryRuns_meets_2 : ∃ (m : Fin 8) (s : State),
    let u := s.meets m .GM_CTRL 0;
    s.mayWrite m .GM_CTRL 0 = true ∧ u.gmRun = false ∧ u.runCode ≠ 0 :=
  ⟨2, (keyed .GM_CTRL 0 ((ready.put .AX_CFG 0 1))), by decide +kernel⟩

theorem test_GeometryRuns_meets_3 : ∃ (m : Fin 8) (s : State),
    let u := s.meets m .GM_CTRL 0;
    s.mayWrite m .GM_CTRL 0 = true ∧ u.gmRun = true :=
  ⟨2, (((((ready.setFlag GM_CTRL_RUN 0 true).put .LN_CFG 5 1).setFld LN_CFG_HW 5 1).setRbit .LN_CMD 0 5 true).setLane
    5 { fill := 3 }), by decide +kernel⟩

theorem test_GeometryRuns_meets_4 : ∃ (m : Fin 8) (s : State),
    let u := s.meets m .GM_CTRL 0;
    s.mayWrite m .GM_CTRL 0 = true ∧ u.gmRun = true ∧ u.geo.covs = [] ∧ u.geo.lapRuns = [] ∧ u.geo.lostRuns = [] ∧
      u.mtiles = [] :=
  ⟨2, (keyed .GM_CTRL 0 ((((((ready.setFlag GM_CTRL_RUN 0 true).put .LN_CFG 5 1).setFld LN_CFG_HW 5 1).setRbit
    .LN_CMD 0 5 true).setLane 5 { fill := 3 }))), by decide +kernel⟩

theorem test_ValveStarts_meets_1 : ∃ (n : Fin 128) (x : Nat) (r : List (Nat × Bool)) (s : State),
    let u := s.met;
    (u.slice n).edges = (x, true) :: r ∧ u.vAble n = true ∧ u.vPhase n = 0 ∧ (u.valve n).act = false ∧
      u.flag VG_STAT_WIN_ACTIVE (n / 8) = false ∧ (u.vgrp (n / 8)).wait = [] ∧ u.vReady (n / 8) x = true ∧
        u.vFits n = true :=
  ⟨127, 5000, [], (((((ready.setFlag VG_CFG_EN 15 true).setFlag VG_STAT_DUST 15 false).setFlag VG_STAT_HS_ON 15
    true).setFlag VG_CCFG_EN (127 : Fin 128) true).setFlag VG_CFG_EN ((127 : Fin 128) / 8) true).modSlice (127 : Fin
      128) fun q => { q with edges := [(5000, true)] }, by decide +kernel⟩

theorem test_ValveStarts_meets_2 : ∃ (n : Fin 128) (x : Nat) (r : List (Nat × Bool)) (s : State),
    let u := s.met;
    (u.slice n).edges = (x, true) :: r ∧ u.vAble n = true ∧ u.vPhase n = 0 ∧ (u.valve n).act = false ∧
      u.flag VG_STAT_WIN_ACTIVE (n / 8) = false ∧
        ((u.vgrp (n / 8)).wait ≠ [] ∨ u.vReady (n / 8) x = false ∨ u.vFits n = false) :=
  ⟨127, 5000, [(7000, false)], ((((((ready.setFlag VG_CFG_EN 15 true).setFlag VG_STAT_DUST 15 false).setFlag
    VG_STAT_HS_ON 15 true).setFlag VG_CCFG_EN (127 : Fin 128) true).setFlag VG_CFG_EN ((127 : Fin 128) / 8)
      true).modSlice (127 : Fin 128) fun q => { q with edges := [(5000, true), (7000, false)] }).modVgrp 15 fun q =>
        { q with wait := [120] }, by decide +kernel⟩

theorem test_ValveStarts_meets_3 : ∃ (n : Fin 128) (x : Nat) (r : List (Nat × Bool)) (s : State),
    let u := s.met;
    (u.slice n).edges = (x, true) :: r ∧ u.vAble n = false :=
  ⟨127, 5000, [], ready.modSlice (127 : Fin 128) fun q => { q with edges := [(5000, true)] }, by decide +kernel⟩

theorem test_ValveStarts_meets_4 : ∃ (g : Fin 16) (n : Fin 128) (r : List Nat) (s : State),
    let u := s.met;
    (u.vgrp g).wait = n.val :: r ∧ n.val / 8 = g ∧
      max (max (u.vgrp g).freeT ((u.vgrp g).hsOnT + 4000)) (u.valve n).cstart < u.Tn ∧
        u.flag VG_STAT_HS_ON g = true ∧ u.vFits n = true :=
  ⟨15, 127, [], ((((((ready.setFlag VG_CFG_EN 15 true).setFlag VG_STAT_DUST 15 false).setFlag VG_STAT_HS_ON 15
    true).setFlag VG_CCFG_EN (127 : Fin 128) true).setFlag VG_CFG_EN ((127 : Fin 128) / 8) true).modVgrp 15 fun q =>
      { q with wait := [127], freeT := 600 }).modValve 127 fun v => { v with cstart := 1000, dcause := 1 },
        by decide +kernel⟩

theorem test_ValveStarts_meets_5 : ∃ (g : Fin 16) (s : State),
    let u := s.met;
    (u.vgrp g).wait = [] ∨ u.vFits ((u.vgrp g).wait.headD 0) = false :=
  ⟨15, (((ready.put .VG_BUDGET 15 16).modVgrp 15 fun q => { q with wait := [121] }).modValve 120 fun v =>
    { v with pk := 48 }).setVPhase 120 2, by decide +kernel⟩

theorem test_ValveStarts_meets_6 : ∃ (n : Fin 128) (s : State),
    let u := s.met;
    u.vPhase n = 3 ∧ (n % 8 * 1250 + 10000 - u.T % 10000) % 10000 < 2000 :=
  ⟨120, (ready.setVPhase (120 : Fin 128) 3).modValve (120 : Fin 128) fun v =>
    { v with det := { v.det with buf := [3] } }, by decide +kernel⟩

theorem test_ValveStarts_meets_7 : ∃ (n : Fin 128) (s : State),
    let u := s.met;
    2000 ≤ (n % 8 * 1250 + 10000 - u.T % 10000) % 10000 :=
  ⟨127, ready, by decide +kernel⟩

theorem test_ValveEnds_meets_1 : ∃ (n : Fin 128) (s : State),
    let u := s.met;
    u.vPhase n = 2 ∧ (u.valve n).peakEnd < u.Tn ∧ (u.valve n).det.half = true ∧ u.flag VG_CCFG_DET_EN n = false :=
  ⟨127, (((ready.setFlag VG_CCFG_DET_EN (127 : Fin 128) false).setFlag VG_CSTAT_OPEN_ON (127 : Fin 128)
    true).setVPhase (127 : Fin 128) 2).modValve (127 : Fin 128) fun v =>
      { v with peakEnd := 1999, pk := 48, det := { v.det with half := true, ipk := 900 } }, by decide +kernel⟩

theorem test_ValveEnds_meets_2 : ∃ (n : Fin 128) (s : State),
    let u := s.met;
    u.vPhase n = 2 ∧ (u.valve n).peakEnd < u.Tn ∧ (u.valve n).det.half = false ∧
      u.flag VG_STAT_VSUP_LOW (n / 8) = false ∧ u.inReplay = false ∧ u.flag VG_CCFG_DET_EN n = false :=
  ⟨127, ((ready.setFlag VG_CCFG_DET_EN (127 : Fin 128) false).setVPhase (127 : Fin 128) 2).put .VG_EVT_MASK 15 4,
    by decide +kernel⟩

theorem test_ValveEnds_meets_3 : ∃ (n : Fin 128) (s : State),
    let u := s.met;
    u.vPhase n = 2 ∧ (u.valve n).peakEnd < u.Tn ∧ (u.valve n).det.half = true ∧ u.inReplay = false ∧
      u.flag VG_CCFG_DET_EN n = true ∧ (u.valve n).det.openRes = none ∧
        (u.valve n).noOpen + 1 < u.fld VG_CCFG_STUCK_N n :=
  ⟨127, (ready.setVPhase (127 : Fin 128) 2).modValve (127 : Fin 128) fun v =>
    { v with det := { v.det with half := true } }, by decide +kernel⟩

theorem test_ValveEnds_meets_4 : ∃ (n : Fin 128) (x : Nat) (r : List (Nat × Bool)) (s : State),
    let u := s.met;
    (u.slice n).edges = (x, false) :: r ∧ u.vPhase n = 3 ∧ (u.valve n).offAt = none :=
  ⟨127, 1500, [], (ready.setVPhase (127 : Fin 128) 3).modSlice (127 : Fin 128) fun q =>
    { q with edges := [(1500, false)] }, by decide +kernel⟩

theorem test_ValveEnds_meets_5 : ∃ (n : Fin 128) (x : Nat) (r : List (Nat × Bool)) (s : State),
    let u := s.met;
    (u.slice n).edges = (x, false) :: r ∧ u.vPhase n = 1 :=
  ⟨127, 1500, [], (ready.setVPhase (127 : Fin 128) 1).modSlice (127 : Fin 128) fun q =>
    { q with edges := [(1500, false)] }, by decide +kernel⟩

theorem test_ValveEnds_meets_6 : ∃ (n : Fin 128) (x : Nat) (r : List (Nat × Bool)) (s : State),
    let u := s.met;
    (u.slice n).edges = (x, false) :: r ∧ u.vPhase n = 0 :=
  ⟨127, 1500, [], ready.modSlice (127 : Fin 128) fun q => { q with edges := [(1500, false)] }, by decide +kernel⟩

theorem test_ValveEnds_meets_7 : ∃ (n : Fin 128) (s : State),
    let u := s.met;
    u.vPhase n = 4 ∧ (u.valve n).decayT + 20000 * u.fld VG_CDET_REL_WIN n < u.Tn ∧ (u.valve n).act = false ∧
      (u.valve n).det.relRes = none :=
  ⟨127, ready.setVPhase (127 : Fin 128) 4 |>.setFld VG_CDET_REL_WIN (127 : Fin 128) 1, by decide +kernel⟩

theorem test_ValveEnds_meets_8 : ∃ (n : Fin 128) (x : Nat) (s : State),
    let u := s.met;
    u.vPhase n = 4 ∧ (u.valve n).det.relRes = some (some x) ∧
      (u.valve n).det.buf.foldl (· + ·) 0 < 4 * u.fld VG_CDET_FLOOR n :=
  ⟨127, 9, (ready.setVPhase (127 : Fin 128) 4).modValve (127 : Fin 128) fun v =>
    { v with det := { v.det with relRes := some (some 9), ts := 88 } }, by decide +kernel⟩

theorem test_ValveEnds_meets_9 : ∃ (n : Fin 128) (s : State),
    let u := s.met;
    u.vPhase n ≠ 4 :=
  ⟨127, ready, by decide +kernel⟩

theorem test_ValveEnds_meets_10 : ∃ (n : Fin 128) (s : State),
    let u := s.met;
    u.vPhase n = 2 ∧ (u.valve n).peakEnd < u.Tn ∧ u.inReplay = false :=
  ⟨127, (((ready.setFlag VG_CCFG_DET_EN (127 : Fin 128) false).setFlag VG_STAT_VSUP_LOW 15 true).setVPhase (127 : Fin
    128) 2).modValve (127 : Fin 128) fun v =>
      { v with peakEnd := 1999, pk := 48, det := { v.det with half := false, ipk := 900 } }, by decide +kernel⟩

theorem test_ValveEnds_meets_11 : ∃ (n : Fin 128) (x : Nat) (r : List (Nat × Bool)) (s : State),
    let u := s.met;
    (u.slice n).edges = (x, false) :: r ∧ u.vPhase n = 2 ∧ (u.valve n).offAt = none ∧ u.inReplay = false :=
  ⟨127, 1500, [], ((((ready.setFlag VG_CCFG_DET_EN (127 : Fin 128) false).setFlag VG_STAT_VSUP_LOW 15 true).setVPhase
    (127 : Fin 128) 2).modValve (127 : Fin 128) fun v =>
      { v with peakEnd := 1999, pk := 48, det := { v.det with half := false, ipk := 900 } }).modSlice (127 : Fin 128)
        fun q => { q with edges := [(1500, false)] }, by decide +kernel⟩

theorem test_ValveEnds_meets_12 : ∃ (n : Fin 128) (x : Nat) (s : State),
    let u := s.met;
    (u.slice n).edges = [] ∧ (u.slice n).out = false ∧ u.vPhase n = 3 ∧ (u.valve n).offAt = some x ∧ x < u.Tn :=
  ⟨127, 1500, (ready.setVPhase (127 : Fin 128) 3).modValve (127 : Fin 128) fun v =>
    { v with offAt := some 1500, coff := 7 }, by decide +kernel⟩

theorem test_ValveEnds_meets_13 : ∃ (n : Fin 128) (s : State),
    let u := s.met;
    u.vPhase n = 4 ∧ (u.valve n).decayT + 20000 * u.fld VG_CDET_REL_WIN n < u.Tn ∧ (u.valve n).act = true ∧
      (u.valve n).det.relRes = none ∧ u.flag VG_CCFG_DET_EN n = true ∧ u.inReplay = false :=
  ⟨127, ((ready.setVPhase (127 : Fin 128) 4 |>.setFld VG_CDET_REL_WIN (127 : Fin 128) 1).setFlag VG_CCFG_DET_EN (127
    : Fin 128) true).modValve (127 : Fin 128) fun v => { v with act := true }, by decide +kernel⟩

theorem test_ValveObservations_meets_1 : ∃ (n : Fin 128) (s : State),
    let u := s.met;
    u.deaf = false ∧ (u.vPhase n = 0 ∨ u.vPhase n = 1) :=
  ⟨127, ready.modValve (127 : Fin 128) fun v => { v with det := { v.det with buf := [1, 2, 3, 4] } },
    by decide +kernel⟩

theorem test_ValveObservations_meets_2 : ∃ (n : Fin 128) (i : Nat) (s : State),
    let u := s.met;
    u.deaf = false ∧ u.vPhase n = 3 ∧ i ≤ 768 :=
  ⟨127, 48, (ready.setVPhase (127 : Fin 128) 3).modValve (127 : Fin 128) fun v =>
    { v with low := true, target := 48 }, by decide +kernel⟩

theorem test_ValveObservations_meets_3 : ∃ (n : Fin 128) (i : Nat) (s : State),
    let u := s.met;
    u.deaf = false ∧ u.vPhase n = 3 ∧ 768 < i :=
  ⟨127, 769, (ready.setVPhase (127 : Fin 128) 3).modValve (127 : Fin 128) fun v =>
    { v with low := true, target := 48 }, by decide +kernel⟩

theorem test_ValveObservations_meets_4 : ∃ (n : Fin 128) (ma : Nat) (s : State),
    let u := s.met;
    u.deaf = false ∧ 128 * ma ≤ 1000 * ((chans (n / 8)).foldl (fun a k => a + (u.valve k).det.buf.headD 0) 0) + 64000
      :=
  ⟨127, 500, ready.modVgrp 15 fun q => { q with sgN := 5 }, by decide +kernel⟩

theorem test_ValveObservations_meets_5 : ∃ (n : Fin 128) (ma : Nat) (s : State),
    let u := s.met;
    u.deaf = false ∧ u.flag VG_STAT_HS_ON (n / 8) = true ∧ (u.vgrp (n / 8)).sgN + 1 ≠ 20 ∧
      1000 * ((chans (n / 8)).foldl (fun a k => a + (u.valve k).det.buf.headD 0) 0) + 64000 < 128 * ma :=
  ⟨127, 501, (ready.setFlag VG_STAT_HS_ON 15 true).modVgrp 15 fun q => { q with sgN := 5 }, by decide +kernel⟩

theorem test_ValveObservations_meets_6 : ∃ (n : Fin 128) (s : State),
    let u := s.met;
    u.deaf = false ∧ u.flag VG_CCFG_THM_EN n = true ∧ u.vPhase n = 3 ∧ 51 ≤ (u.valve n).holdN ∧
      (u.valve n).measDone = false ∧ u.flag VG_CSTAT_LEARN_PEND n = false ∧ f32.le 0x3D800000#32 (u.vAvgI n) = true :=
  ⟨127, (((ready.setVPhase (127 : Fin 128) 3).setFlag VG_CCFG_THM_EN (127 : Fin 128) true).put .VG_CRREF (127 : Fin
    128) 0x41400000).modValve (127 : Fin 128) fun q =>
      { q with holdN := 51, sumOn := 200000, sumV := 480000, numV := 40, sumI := 2560, numI := 40 },
        by decide +kernel⟩

theorem test_ValveObservations_meets_7 : ∃ (n : Fin 128) (s : State),
    let u := s.met;
    u.deaf = false ∧ u.flag VG_CCFG_THM_EN n = true ∧ u.vPhase n = 3 ∧ 51 ≤ (u.valve n).holdN ∧
      (u.valve n).measDone = false ∧ u.flag VG_CSTAT_LEARN_PEND n = true ∧ f32.le 0x3D800000#32 (u.vAvgI n) = true :=
  ⟨127, (((ready.setVPhase (127 : Fin 128) 3).setFlag VG_CCFG_THM_EN (127 : Fin 128) true).setFlag
    VG_CSTAT_LEARN_PEND (127 : Fin 128) true).modValve (127 : Fin 128) fun q =>
      { q with holdN := 51, sumOn := 200000, sumI := 2560, numI := 40 }, by decide +kernel⟩

theorem test_ValveObservations_meets_8 : ∃ (n : Fin 128) (i : Nat) (s : State),
    let u := s.met;
    u.deaf = false ∧ u.vPhase n = 2 ∧ i ≤ 768 ∧ u.flag VG_CCFG_DET_EN n = true ∧ (u.valve n).det.openRes = none ∧
      (i < (u.valve n).target ∨ (u.valve n).det.reached = true) ∧ (u.valve n).det.armed = false ∧
        (u.valve n).det.dip = false :=
  ⟨127, 32, (((ready.setFlag VG_CCFG_DET_EN (127 : Fin 128) true).setFld VG_CDET_FLOOR (127 : Fin 128) 32).setFld
    VG_CDET_DIP (127 : Fin 128) 8 |>.setFld VG_CDET_BUMP (127 : Fin 128) 4).setVPhase (127 : Fin 128) 2 |>.modValve
      (127 : Fin 128) fun v => { v with target := 192, det := { v.det with buf := [32, 32, 32] } }, by decide +kernel⟩

theorem test_ValveObservations_meets_9 : ∃ (n : Fin 128) (i : Nat) (s : State),
    let u := s.met;
    u.deaf = false ∧ u.vPhase n = 2 ∧ i ≤ 768 ∧ u.flag VG_CCFG_DET_EN n = true ∧ (u.valve n).det.openRes = none ∧
      (i < (u.valve n).target ∨ (u.valve n).det.reached = true) ∧ (u.valve n).det.armed = true ∧
        (u.valve n).det.dip = false :=
  ⟨127, 161, (((ready.setFlag VG_CCFG_DET_EN (127 : Fin 128) true).setFld VG_CDET_FLOOR (127 : Fin 128) 32).setFld
    VG_CDET_DIP (127 : Fin 128) 8 |>.setFld VG_CDET_BUMP (127 : Fin 128) 4).setVPhase (127 : Fin 128) 2 |>.modValve
      (127 : Fin 128) fun v =>
        { v with target := 192, det := { v.det with buf := [161, 161, 161], armed := true, mx := 676 } },
          by decide +kernel⟩

theorem test_ValveObservations_meets_10 : ∃ (n : Fin 128) (i : Nat) (s : State),
    let u := s.met;
    u.deaf = false ∧ u.vPhase n = 2 ∧ i ≤ 768 ∧ u.flag VG_CCFG_DET_EN n = true ∧ (u.valve n).det.openRes = none ∧
      (i < (u.valve n).target ∨ (u.valve n).det.reached = true) ∧ (u.valve n).det.dip = true ∧
        (((i :: (u.valve n).det.buf).take 4).foldl (· + ·) 0) < (u.valve n).det.mn + 8 :=
  ⟨127, 150, (((ready.setFlag VG_CCFG_DET_EN (127 : Fin 128) true).setFld VG_CDET_FLOOR (127 : Fin 128) 32).setFld
    VG_CDET_DIP (127 : Fin 128) 8 |>.setFld VG_CDET_BUMP (127 : Fin 128) 4).setVPhase (127 : Fin 128) 2 |>.modValve
      (127 : Fin 128) fun v =>
        { v with target := 192, det := { v.det with buf := [151, 151, 151], armed := true, dip := true, mn := 604, tm := 7 } }, by decide +kernel⟩

theorem test_ValveObservations_meets_11 : ∃ (n : Fin 128) (i : Nat) (s : State),
    let u := s.met;
    u.deaf = false ∧ u.vPhase n = 2 ∧ i ≤ 768 ∧ u.flag VG_CCFG_DET_EN n = true ∧ (u.valve n).det.openRes = none ∧
      (i < (u.valve n).target ∨ (u.valve n).det.reached = true) ∧ (u.valve n).det.dip = true ∧
        (u.valve n).det.mn + 8 ≤ (((i :: (u.valve n).det.buf).take 4).foldl (· + ·) 0) :=
  ⟨127, 153, (((ready.setFlag VG_CCFG_DET_EN (127 : Fin 128) true).setFld VG_CDET_FLOOR (127 : Fin 128) 32).setFld
    VG_CDET_DIP (127 : Fin 128) 8 |>.setFld VG_CDET_BUMP (127 : Fin 128) 4).setVPhase (127 : Fin 128) 2 |>.modValve
      (127 : Fin 128) fun v =>
        { v with target := 192, cstart := 5000, det := { v.det with buf := [153, 153, 153], armed := true, dip := true, mn := 604, tm := 1270000 } }, by decide +kernel⟩

theorem test_ValveObservations_meets_12 : ∃ (n : Fin 128) (i : Nat) (s : State),
    let u := s.met;
    u.deaf = false ∧ u.vPhase n = 2 ∧ i ≤ 768 ∧ u.flag VG_CCFG_DET_EN n = true ∧ (u.valve n).det.openRes = none ∧
      (u.valve n).target ≤ i ∧ (u.valve n).det.reached = false ∧ (u.valve n).det.dip = false ∧
        (u.valve n).noOpen + 1 < u.fld VG_CCFG_STUCK_N n :=
  ⟨127, 192, ((((ready.setFld VG_CCFG_STUCK_N (127 : Fin 128) 3).setFlag VG_CCFG_DET_EN (127 : Fin 128) true).setFld
    VG_CDET_FLOOR (127 : Fin 128) 32).setFld VG_CDET_DIP (127 : Fin 128) 8 |>.setFld VG_CDET_BUMP (127 : Fin 128)
      4).setVPhase (127 : Fin 128) 2 |>.modValve (127 : Fin 128) fun v =>
        { v with target := 192, det := { v.det with buf := [191, 191, 191], armed := true, mx := 764 } },
          by decide +kernel⟩

theorem test_ValveObservations_meets_13 : ∃ (n : Fin 128) (s : State),
    let u := s.met;
    u.deaf = false ∧ u.vPhase n = 4 ∧ u.flag VG_CCFG_DET_EN n = true ∧ (u.valve n).det.relRes = none ∧
      (u.valve n).act = true ∧ (u.valve n).det.bump = false :=
  ⟨127, (((ready.setFlag VG_CCFG_DET_EN (127 : Fin 128) true).setFld VG_CDET_FLOOR (127 : Fin 128) 32).setFld
    VG_CDET_DIP (127 : Fin 128) 8 |>.setFld VG_CDET_BUMP (127 : Fin 128) 4).setVPhase (127 : Fin 128) 4 |>.modValve
      (127 : Fin 128) fun v => { v with act := true, det := { v.det with buf := [35, 35, 35], rmn := 124 } },
        by decide +kernel⟩

theorem test_ValveObservations_meets_14 : ∃ (n : Fin 128) (i : Nat) (s : State),
    let u := s.met;
    u.deaf = false ∧ u.vPhase n = 4 ∧ u.flag VG_CCFG_DET_EN n = true ∧ (u.valve n).det.relRes = none ∧
      (u.valve n).act = true ∧ (u.valve n).det.bump = true ∧
        max (u.valve n).det.rmx (((i :: (u.valve n).det.buf).take 4).foldl (· + ·) 0) < (((i :: (u.valve
          n).det.buf).take 4).foldl (· + ·) 0) + 8 :=
  ⟨127, 38, (((ready.setFlag VG_CCFG_DET_EN (127 : Fin 128) true).setFld VG_CDET_FLOOR (127 : Fin 128) 32).setFld
    VG_CDET_DIP (127 : Fin 128) 8 |>.setFld VG_CDET_BUMP (127 : Fin 128) 4).setVPhase (127 : Fin 128) 4 |>.modValve
      (127 : Fin 128) fun v =>
        { v with act := true, det := { v.det with buf := [38, 38, 38], bump := true, rmx := 150 } },
          by decide +kernel⟩

theorem test_ValveObservations_meets_15 : ∃ (n : Fin 128) (i : Nat) (s : State),
    let u := s.met;
    u.deaf = false ∧ u.vPhase n = 4 ∧ u.flag VG_CCFG_DET_EN n = true ∧ (u.valve n).det.relRes = none ∧
      (u.valve n).act = true ∧ (u.valve n).det.bump = true ∧
        (((i :: (u.valve n).det.buf).take 4).foldl (· + ·) 0) + 8 ≤ (u.valve n).det.rmx :=
  ⟨127, 36, (((ready.setFlag VG_CCFG_DET_EN (127 : Fin 128) true).setFld VG_CDET_FLOOR (127 : Fin 128) 32).setFld
    VG_CDET_DIP (127 : Fin 128) 8 |>.setFld VG_CDET_BUMP (127 : Fin 128) 4).setVPhase (127 : Fin 128) 4 |>.modValve
      (127 : Fin 128) fun v =>
        { v with act := true, coff := 1303000, det := { v.det with buf := [36, 36, 36], bump := true, rmx := 152, trm := 1309000 } }, by decide +kernel⟩

theorem test_ValveTests_meets_1 : ∃ (n : Fin 128) (down : Bool) (s : State),
    let u := s.met;
    u.deaf = false ∧ u.flag VG_CFG_HSON_EN (n / 8) = true ∧ u.flag VG_STAT_HS_ON (n / 8) = true ∧
      u.flag VG_CCFG_EN n = true ∧ u.flag VG_CCFG_DIAG_EN n = true ∧ u.vPhase n = 0 ∧
        sampleEnd (u.vHsonDue n + (if down then 20000 else 40000)) < u.Tn :=
  ⟨127, false,
    ({ (((((ready.setFlag VG_CFG_EN 15 true).setFlag VG_STAT_DUST 15 false).setFlag VG_STAT_HS_ON 15 true).setFlag VG_CCFG_EN (127 : Fin 128) true).setFlag VG_CFG_EN ((127 : Fin 128) / 8) true) with tick := 10000 } : State).setFld VG_TEST_TEST_IDLE 15 1, by decide +kernel⟩

theorem test_ValveTests_meets_2 : ∃ (g : Fin 16) (s : State),
    let u := s.met;
    u.flag VG_CFG_WIN_EN g = true ∧ u.flag VG_CFG_EN g = true ∧ u.flag VG_STAT_HS_ON g = true ∧
      u.flag VG_STAT_WIN_ACTIVE g = false ∧ (∀ c : Fin 8, u.vPhase (8 * g + c) = 0 ∧
        u.flag VG_CSTAT_SS_LATCH (8 * g + c) = false ∧ u.flag VG_CSTAT_TT_LATCH (8 * g + c) = false) ∧
          (chans g).foldl (fun a k => max a (u.valve k).offSince) 0 + 200000 * u.fld VG_TEST_WIN_IDLE g < u.Tn ∧
            ((u.vgrp g).lastWin.all fun p => decide (p + 200000000 < u.Tn)) = true :=
  ⟨15,
    ({ (((ready.setFlag VG_CFG_EN (15 : Fin 16) true).setFlag VG_STAT_HS_ON (15 : Fin 16) true).setFld VG_TEST_WIN_IDLE (15 : Fin 16) 1) with tick := 10000 } : State), by decide +kernel⟩

theorem test_ValveTests_meets_3 : ∃ (m : Fin 8) (g : Fin 16) (s : State),
    let u := s.meets m .VG_CTRL g;
    s.mayWrite m .VG_CTRL g = true ∧ (∀ c : Fin 8, u.vPhase (8 * g + c) = 0) ∧ u.flag VG_STAT_HS_ON g = true ∧
      u.flag VG_STAT_WIN_ACTIVE g = false :=
  ⟨2, 15, (keyed .VG_CTRL (15 : Fin 16) (ready.setFlag VG_STAT_HS_ON (15 : Fin 16) true)), by decide +kernel⟩

theorem test_ValveTests_meets_4 : ∃ (m : Fin 8) (g : Fin 16) (s : State),
    let u := s.meets m .VG_CTRL g;
    s.mayWrite m .VG_CTRL g = true ∧ (∃ c : Fin 8, u.vPhase (8 * g + c) ≠ 0) :=
  ⟨2, 15, (keyed .VG_CTRL (15 : Fin 16) (ready.setVPhase 127 3)), by decide +kernel⟩

theorem test_ValveTests_meets_5 : ∃ (g : Fin 16) (s : State),
    let u := s.met;
    u.flag VG_STAT_WIN_ACTIVE g = true ∧ u.flag VG_STAT_HS_ON g = true ∧ (u.vgrp g).winT + 64000 < u.Tn :=
  ⟨15, (ready.setFlag VG_STAT_HS_ON (15 : Fin 16) true).setFlag VG_STAT_WIN_ACTIVE (15 : Fin 16) true,
    by decide +kernel⟩

theorem test_ValveTests_meets_6 : ∃ (g : Fin 16) (s : State),
    let u := s.met;
    u.flag VG_STAT_WIN_ACTIVE g = true ∧ u.flag VG_STAT_HS_ON g = false ∧ (u.vgrp g).winT + 60000 < u.Tn ∧
      u.Tn ≤ (u.vgrp g).winT + 64000 ∧ ∀ c : Fin 8, u.flag VG_CCFG_EN (8 * g + c) = false :=
  ⟨15, ({ ready.setFlag VG_STAT_WIN_ACTIVE (15 : Fin 16) true with tick := 30 } : State), by decide +kernel⟩

theorem test_ValveTests_meets_7 : ∃ (g : Fin 16) (s : State),
    let u := s.met;
    u.flag VG_STAT_WIN_ACTIVE g = true ∧ u.flag VG_STAT_HS_ON g = false ∧ (u.vgrp g).winT + 60000 < u.Tn ∧
      u.Tn ≤ (u.vgrp g).winT + 64000 ∧ u.inReplay = false ∧ ∀ c : Fin 8, u.vPhase (8 * g + c) = 0 :=
  ⟨15, (({ ready.setFlag VG_STAT_WIN_ACTIVE (15 : Fin 16) true with tick := 30 } : State).setFlag VG_CCFG_EN 127
    true).setFlag VG_CCFG_DIAG_EN 127 true |>.setFlag VG_CCFG_EN 120 true |>.setFlag VG_CCFG_DIAG_EN 120 true,
      by decide +kernel⟩

theorem test_ValveProtection_meets_1 : ∃ (s : State),
    let u := s.met;
    u.deaf = false :=
  ⟨((ready.setFlag VG_STAT_HS_ON 15 true).setVPhase (8 * 15 + 3) 3).setVPhase (8 * 15 + 5) 1, by decide +kernel⟩

theorem test_ValveProtection_meets_2 : ∃ (s : State),
    let u := s.met;
    u.deaf = false :=
  ⟨((ready.setFlag VG_STAT_HS_ON 15 true).setVPhase (8 * 15 + 3) 3).setVPhase (8 * 15 + 5) 1, by decide +kernel⟩

theorem test_ValveProtection_meets_3 : ∃ (d : Fin 4) (tj : Word) (s : State),
    let u := s.met;
    f32.le (degC 170) tj = true ∧ u.rbit .VG_DIESTAT 0 d = false :=
  ⟨3, 0x432A0000, ((ready.setFlag VG_STAT_HS_ON 15 true).setVPhase (8 * 15 + 3) 3).setVPhase (8 * 15 + 5) 1,
    by decide +kernel⟩

theorem test_ValveProtection_meets_4 : ∃ (tj : Word) (_ : State), f32.le (degC 170) tj = false :=
  ⟨0, ready, by decide +kernel⟩

theorem test_ValveProtection_meets_5 : ∃ (d : Fin 4) (tj : Word) (s : State),
    let u := s.met;
    f32.lt (degC 150) tj = true ∧ u.rbit .VG_DIESTAT 0 (4 + d) = false :=
  ⟨3, 0x43170000, ready, by decide +kernel⟩

theorem test_ValveProtection_meets_6 : ∃ (tj : Word) (_ : State), f32.lt tj (degC 150) = true :=
  ⟨0x43000000, ready.put .VG_DIESTAT 0 0xFF, by decide +kernel⟩

theorem test_ValveProtection_meets_7 : ∃ (g : Fin 16) (mv : Nat) (s : State),
    let u := s.met;
    mv < 6000 ∧ u.flag VG_STAT_VSUP_LOW g = false :=
  ⟨15, 5999, ready, by decide +kernel⟩

theorem test_ValveProtection_meets_8 : ∃ (g : Fin 16) (mv : Nat) (s : State),
    let u := s.met;
    6500 < mv ∧ u.flag VG_STAT_VSUP_LOW g = true :=
  ⟨15, 6501, ready.setFlag VG_STAT_VSUP_LOW (15 : Fin 16) true, by decide +kernel⟩

theorem test_ValveProtection_meets_9 : ∃ (mv : Nat) (_ : State), mv ≤ 6500 :=
  ⟨6500, ready.setFlag VG_STAT_VSUP_LOW (15 : Fin 16) true, by decide +kernel⟩

theorem test_ValveClears_meets_1 : ∃ (m : Fin 8) (n : Fin 128) (s : State),
    let u := s.meets m .VG_CCTRL n;
    s.mayWrite m .VG_CCTRL n = true ∧ u.vgLclrErr n = false :=
  ⟨2, 127, (keyed .VG_CCTRL (127 : Fin 128) ((ready.setFlag VG_CSTAT_SS_LATCH (127 : Fin 128) true).setFlag
    VG_CSTAT_TT_LATCH (127 : Fin 128) true)), by decide +kernel⟩

theorem test_ValveClears_meets_2 : ∃ (m : Fin 8) (n : Fin 128) (s : State),
    let u := s.meets m .VG_CCTRL n;
    s.mayWrite m .VG_CCTRL n = true ∧ u.vgLclrErr n = true :=
  ⟨2, 127, (keyed .VG_CCTRL (127 : Fin 128) ((ready.put .VG_CT (127 : Fin 128) 0x43480000).setFlag VG_CSTAT_TT_LATCH
    (127 : Fin 128) true)), by decide +kernel⟩

theorem test_ValveClears_meets_3 : ∃ (m : Fin 8) (n : Fin 128) (s : State), s.mayWrite m .VG_CCTRL n = true :=
  ⟨2, 127, (keyed .VG_CCTRL (127 : Fin 128) (ready.setFlag VG_CSTAT_STUCK (127 : Fin 128) true)), by decide +kernel⟩

theorem test_ValveClears_meets_4 : ∃ (m : Fin 8) (n : Fin 128) (s : State), s.mayWrite m .VG_CCTRL n = true :=
  ⟨2, 127, (keyed .VG_CCTRL (127 : Fin 128) (ready)), by decide +kernel⟩

theorem test_ValveClears_meets_5 : ∃ (m : Fin 8) (n : Fin 128) (s : State), s.mayWrite m .VG_CCTRL n = true :=
  ⟨2, 127, (keyed .VG_CCTRL (127 : Fin 128) (ready.put .VG_CCNT (127 : Fin 128) 9)), by decide +kernel⟩

theorem test_ValveClears_meets_6 : ∃ (m : Fin 8) (g : Fin 16) (s : State), s.mayWrite m .VG_CTRL g = true :=
  ⟨2, 15, (keyed .VG_CTRL (15 : Fin 16) ((ready.put .VG_CCNT 127 9).put .VG_GCNT (15 : Fin 16) 5)), by decide +kernel⟩

theorem test_ValveClears_meets_7 : ∃ (m : Fin 8) (g : Fin 16) (s : State), s.mayWrite m .VG_CTRL g = true :=
  ⟨2, 15, (keyed .VG_CTRL (15 : Fin 16) ((((ready.setFlag VG_CFG_EN (15 : Fin 16) true).setFlag VG_STAT_DUST (15 :
    Fin 16) false).setFlag VG_STAT_HS_LATCH (15 : Fin 16) true).setFlag VG_STAT_SG_LATCH (15 : Fin 16) true)),
      by decide +kernel⟩

theorem test_ValveClears_meets_8 : ∃ (m : Fin 8) (d : Fin 4) (s : State),
    let u := s.meets m .VG_CTRL 0;
    s.mayWrite m .VG_CTRL 0 = true ∧ u.rbit .VG_DIESTAT 0 (4 + d) = false :=
  ⟨2, 3, (keyed .VG_CTRL 0 ((ready.put .VG_DIESTAT 0 0x8).setFlag VG_STAT_FORCED 13 true)), by decide +kernel⟩

theorem test_ValveClears_meets_9 : ∃ (m : Fin 8) (d : Fin 4) (s : State),
    let u := s.meets m .VG_CTRL 0;
    s.mayWrite m .VG_CTRL 0 = true ∧ u.rbit .VG_DIESTAT 0 (4 + d) = true :=
  ⟨2, 3, (keyed .VG_CTRL 0 (ready.put .VG_DIESTAT 0 0x88)), by decide +kernel⟩

theorem test_ValveClears_meets_10 : ∃ (m : Fin 8) (n : Fin 128) (v : Word) (s : State),
    let u := s.meets m .VG_CCFG n;
    s.mayWrite m .VG_CCFG n = true ∧ u.flag VG_CCFG_EN n = false ∧ u.vgReject n v = 0 :=
  ⟨2, 127, 0xA, (keyed .VG_CCFG (127 : Fin 128) (ready)), by decide +kernel⟩

theorem test_ValveClears_meets_11 : ∃ (m : Fin 8) (n : Fin 128) (v : Word) (s : State),
    let u := s.meets m .VG_CCFG n;
    s.mayWrite m .VG_CCFG n = true ∧ u.flag VG_CCFG_EN n = false ∧ u.vgReject n v ≠ 0 :=
  ⟨2, 127, 0xE, (keyed .VG_CCFG (127 : Fin 128) (ready)), by decide +kernel⟩

theorem test_ValveClears_meets_12 : ∃ (n : Fin 128) (s : State),
    let u := s.begin';
    u.tick % 1000 = 0 ∧ u.flag VG_CCFG_THM_EN n = true ∧ u.vPhase n = 0 :=
  ⟨127, (ready.setFlag VG_CCFG_THM_EN (127 : Fin 128) true).put .VG_CT (127 : Fin 128) 0x42C80000, by decide +kernel⟩

theorem test_PrecisionChannels_meets_1 : ∃ (n : Fin 32) (h : List Chop) (l : List Chop) (s : State),
    let u := s.met;
    u.flag PC_CFG_EN n = true ∧ u.flag PC_ROT_STAT_INIT 0 = false ∧ u.T % u.pcPeriod n = 0 ∧
      (u.pc n).start + u.pcPeriod n ≤ u.T ∧ (u.pc n).last ≠ some u.T ∧ u.inReplay = false ∧ u.pcFit n h l = true ∧
        u.flag PC_CFG_SWAP n = false ∧ (u.pc n).disc = false ∧ (u.pc n).fresh = none :=
  ⟨31, (List.replicate 2 { first := List.replicate 125 (-77), second := List.replicate 125 0 }), (List.replicate 2
    { first := List.replicate 125 (5), second := List.replicate 125 0 }), (((((ready.setFlag PC_CFG_EN (31 : Fin 32)
      true).setFld PC_CFG_ODR (31 : Fin 32) 13).setFlag PC_ROT_STAT_INIT 0 false).setFlag PC_CFG_SWAP (31 : Fin 32)
        false).put .PC_EVT_MASK (31 : Fin 32) 0xFF), by decide +kernel⟩

theorem test_PrecisionChannels_meets_2 : ∃ (n : Fin 32) (h : List Chop) (l : List Chop) (s : State),
    let u := s.met;
    u.flag PC_CFG_EN n = true ∧ u.flag PC_ROT_STAT_INIT 0 = false ∧ u.T % u.pcPeriod n = 0 ∧
      (u.pc n).start + u.pcPeriod n ≤ u.T ∧ (u.pc n).last ≠ some u.T ∧ u.inReplay = false ∧ u.pcFit n h l = true ∧
        (u.pc n).disc = true :=
  ⟨31, (List.replicate 2 { first := List.replicate 125 (-77), second := List.replicate 125 0 }), (List.replicate 2
    { first := List.replicate 125 (5), second := List.replicate 125 0 }), ((((((ready.setFlag PC_CFG_EN (31 : Fin 32)
      true).setFld PC_CFG_ODR (31 : Fin 32) 13).setFlag PC_ROT_STAT_INIT 0 false).setFlag PC_CFG_SWAP (31 : Fin 32)
        false).put .PC_EVT_MASK (31 : Fin 32) 0xFF).put .PC_VAL (31 : Fin 32) 9).modPc (31 : Fin 32) fun p =>
          { p with disc := true }, by decide +kernel⟩

theorem test_PrecisionChannels_meets_3 : ∃ (n : Fin 32) (h : List Chop) (l : List Chop) (a : Bool) (s : State),
    let u := s.met;
    u.flag PC_CFG_EN n = true ∧ u.flag PC_ROT_STAT_INIT 0 = false ∧ u.T % u.pcPeriod n = 0 ∧
      (u.pc n).start + u.pcPeriod n ≤ u.T ∧ (u.pc n).last ≠ some u.T ∧ u.inReplay = false ∧ u.pcFit n h l = true ∧
        u.fld PC_CFG_PATH n = 2 ∧ u.fld PC_CFG_MEAS n = 0 ∧ u.flag PC_CFG_SWAP n = false ∧ (u.pc n).disc = false ∧
          (u.pc n).tripped = false ∧ (u.pc n).want ≤ 1 ∧ (u.pc n).settle = 0 ∧ (u.pc n).fresh = none ∧
            u.flag PC_STAT_OPEN_NOW n = false ∧ a = false ∧ (u.pcCodeH n h).natAbs ≤ 2 ^ 23 ∧
              (u.pc n).limHi = false ∧ f32.lt (u.get .PC_LIM_HI n) (u.pcVolt n (u.pcCodeH n h)) = true :=
  ⟨31, (List.replicate 2 { first := List.replicate 125 (8388608), second := List.replicate 125 0 }), (List.replicate
    2 { first := List.replicate 125 (5), second := List.replicate 125 0 }), false, (((((((ready.setFlag PC_CFG_EN (31
      : Fin 32) true).setFld PC_CFG_ODR (31 : Fin 32) 13).setFlag PC_ROT_STAT_INIT 0 false).setFlag PC_CFG_SWAP (31 :
        Fin 32) false).put .PC_EVT_MASK (31 : Fin 32) 0xFF).setFld PC_CFG_PATH (31 : Fin 32) 2).put .PC_LIM_HI (31 :
          Fin 32) 0x3F800000), by decide +kernel⟩

theorem test_PrecisionChannels_meets_4 : ∃ (n : Fin 32) (h : List Chop) (l : List Chop) (s : State),
    let u := s.met;
    u.flag PC_CFG_EN n = false ∨ u.flag PC_ROT_STAT_INIT 0 = true ∨ u.T % u.pcPeriod n ≠ 0 ∨ u.T < (u.pc n).start +
      u.pcPeriod n ∨ u.inReplay = true ∨ u.pcFit n h l = false :=
  ⟨31, (List.replicate 2 { first := List.replicate 125 (5), second := List.replicate 125 0 }), (List.replicate 2
    { first := List.replicate 125 (5), second := List.replicate 125 0 }), ready, by decide +kernel⟩

theorem test_PrecisionChannels_meets_5 : ∃ (n : Fin 32) (c : Source) (s : State),
    let u := s.met;
    u.deaf = false ∧ u.flag PC_CFG_EN n = true ∧ u.fld PC_CFG_MEAS n ≠ 0 ∧ (c = .a ∨ u.flag PC_CFG_SWAP n = true) ∧
      u.pcTripped n c = false :=
  ⟨31, .a, (((((ready.setFlag PC_CFG_EN (31 : Fin 32) true).setFld PC_CFG_ODR (31 : Fin 32) 13).setFlag
    PC_ROT_STAT_INIT 0 false).setFlag PC_CFG_SWAP (31 : Fin 32) false).put .PC_EVT_MASK (31 : Fin 32) 0xFF).setFld
      PC_CFG_MEAS (31 : Fin 32) 2, by decide +kernel⟩

theorem test_PrecisionChannels_meets_6 : ∃ (n : Fin 32) (c : Source) (s : State),
    let u := s.met;
    u.flag PC_CFG_EN n = false ∨ u.fld PC_CFG_MEAS n = 0 ∨ c = .b ∧
      u.flag PC_CFG_SWAP n = false ∨ u.pcTripped n c = true :=
  ⟨31, .a, ready, by decide +kernel⟩

theorem test_PrecisionChannels_meets_7 : ∃ (s : State),
    let u := s.met;
    u.deaf = false :=
  ⟨(ready.setFlag PC_STAT_OPEN_NOW (31 : Fin 32) true).modPc (31 : Fin 32) fun p => { p with tripA := true },
    by decide +kernel⟩

theorem test_PrecisionChannels_meets_8 : ∃ (m : Fin 8) (n : Fin 32) (s : State), s.mayWrite m .PC_CTRL n = true :=
  ⟨2, 31, (keyed .PC_CTRL (31 : Fin 32) (ready.put .PC_CNT (31 : Fin 32) 5)), by decide +kernel⟩

theorem test_CalibrationRotation_meets_1 : ∃ (n : Fin 32) (t0 : Bool) (q : List (Nat × Bool)) (s : State),
    let u := s.begin';
    u.T % 400000000 = 0 ∧ u.flag PC_ROT_STAT_INIT 0 = false ∧ u.rot.start ≠ u.T ∧ u.flag PC_ROT_ROT_EN 0 = true ∧
      u.flag PC_ROT_STAT_HALT 0 = false ∧ u.rot.queue = (n.val, t0) :: q :=
  ⟨31, true, [(3, false)],
    ({ (ready.setFlag PC_ROT_STAT_INIT 0 false).setFlag PC_ROT_ROT_EN 0 true with tick := 200000 } : State).modRot
      fun r => { r with queue := [(31, true), (3, false)] }, by decide +kernel⟩

theorem test_CalibrationRotation_meets_2 : ∃ (n : Fin 33) (s : State),
    let u := s.begin';
    u.T % 400000000 = 0 ∧ u.flag PC_ROT_STAT_INIT 0 = false ∧ u.rot.start ≠ u.T ∧ u.flag PC_ROT_ROT_EN 0 = true ∧
      u.flag PC_ROT_STAT_HALT 0 = false ∧ u.rot.queue = [] ∧ u.rot.next = n.val :=
  ⟨32, ({ (ready.setFlag PC_ROT_STAT_INIT 0 false).setFlag PC_ROT_ROT_EN 0 true with tick := 200000 } : State).modRot
    fun r => { r with next := 32 }, by decide +kernel⟩

theorem test_CalibrationRotation_meets_3 : ∃ (s : State),
    let u := s.begin';
    u.T % 400000000 = 0 ∧ u.flag PC_ROT_STAT_INIT 0 = false ∧ u.rot.start ≠ u.T ∧
      (u.flag PC_ROT_ROT_EN 0 = false ∨ u.flag PC_ROT_STAT_HALT 0 = true) :=
  ⟨(({ (ready.setFlag PC_ROT_STAT_INIT 0 false).setFlag PC_ROT_ROT_EN 0 true with tick := 200000 } : State).setFlag
    PC_ROT_STAT_HALT 0 true).modRot fun r => { r with slot := some 32 }, by decide +kernel⟩

theorem test_CalibrationRotation_meets_4 : ∃ (s : State),
    let u := s.begin';
    u.T % 400000000 ≠ 0 ∨ u.flag PC_ROT_STAT_INIT 0 = true :=
  ⟨ready, by decide +kernel⟩

theorem test_CalibrationRotation_meets_5 : ∃ (n : Fin 32) (s : State),
    let u := s.begin';
    (u.rot.slot = some n.val ∧ u.rot.taken = false ∧ (u.flag PC_CFG_EN n = true → u.T % u.pcPeriod n = 0 ∧
      u.rot.start + u.pcPeriod n ≤ u.T)) :=
  ⟨31, ((((((ready.setFlag PC_CFG_EN 31 true).setFld PC_CFG_ODR 31 13).setFlag PC_ROT_STAT_INIT 0 false).setFlag
    PC_CFG_SWAP 31 false).put .PC_EVT_MASK 31 0xFF).modRot fun r => { r with slot := some 31 }), by decide +kernel⟩

theorem test_CalibrationRotation_meets_6 : ∃ (n : Fin 32) (s : State),
    let u := s.begin';
    u.rot.slot = some n.val ∧ (u.rot.taken = true ∨ u.flag PC_CFG_EN n = true ∧ u.T < u.rot.start + u.pcPeriod n) :=
  ⟨31, ((((((ready.setFlag PC_CFG_EN 31 true).setFld PC_CFG_ODR 31 13).setFlag PC_ROT_STAT_INIT 0 false).setFlag
    PC_CFG_SWAP 31 false).put .PC_EVT_MASK 31 0xFF).modRot fun r => { r with slot := some 31, start := 1999999 }),
      by decide +kernel⟩

theorem test_CalibrationRotation_meets_7 : ∃ (n : Fin 32) (ia : Word) (ib : Word) (c : PcCoef) (s : State),
    let u := s.begin';
    u.rot.slot = some n.val ∧ u.rot.taken = true ∧ State.coefOk c = true ∧
      State.sourceOk (u.fld PC_CFG_IEXC n) ia = true ∧ State.sourceOk (u.fld PC_CFG_IEXC n) ib = true ∧
        u.rot.start + 380000000 ≤ u.T ∧ u.T < u.rot.start + 380002000 :=
  ⟨31, 0x437A0000, 0x437C0000, { off := 0x45800000 },
    { ((((ready.setFlag PC_ROT_STAT_INIT 0 false).put .PC_EVT_MASK 31 0xFF).modRot fun r => { r with slot := some 31, taken := true, retired := 9, test := true, start := 400000000 })) with tick := 390000 }, by decide +kernel⟩

theorem test_CalibrationRotation_meets_8 : ∃ (n : Fin 32) (ia : Word) (ib : Word) (c : PcCoef) (s : State),
    let u := s.begin';
    u.rot.slot = some n.val ∧ u.rot.taken = true ∧
      (State.coefOk c && State.sourceOk (u.fld PC_CFG_IEXC n) ia && State.sourceOk (u.fld PC_CFG_IEXC n) ib) = false
        ∧ u.rot.start + 380000000 ≤ u.T ∧ u.T < u.rot.start + 380002000 :=
  ⟨31, 0x437A0000, 0x437D0000, {},
    { ((((ready.setFlag PC_ROT_STAT_INIT 0 false).put .PC_EVT_MASK 31 0xFF).modRot fun r => { r with slot := some 31, taken := true, retired := 9, test := true, start := 400000000 })) with tick := 390000 }, by decide +kernel⟩

theorem test_CalibrationRotation_meets_9 : ∃ (s : State),
    let u := s.begin';
    u.rot.slot = some 32 ∧ u.rot.taken = false ∧ u.rot.start + 380000000 ≤ u.T ∧ u.T < u.rot.start + 380002000 :=
  ⟨{ ((((ready.setFlag PC_ROT_STAT_INIT 0 false).put .PC_EVT_MASK 31 0xFF).modRot fun r => { r with slot := some 32, taken := false, retired := 9, test := true, start := 400000000 })) with tick := 390000 }, by decide +kernel⟩

theorem test_CalibrationRotation_meets_10 : ∃ (s : State),
    let u := s.begin';
    u.T < u.rot.start + 380000000 :=
  ⟨{ (((((ready.setFlag PC_ROT_STAT_INIT 0 false).put .PC_EVT_MASK 31 0xFF).modRot fun r => { r with slot := some 32, taken := true, retired := 9, test := true, start := 400000000 }))) with tick := 389999 }, by decide +kernel⟩

theorem test_CalibrationRotation_meets_11 : ∃ (m : Fin 8) (n : Fin 32) (s : State),
    let u := s.meets m .PC_CTRL n;
    s.mayWrite m .PC_CTRL n = true ∧ u.rot.slot ≠ some n.val ∧ (u.rot.queue.any fun x => x.1 == n.val) = false :=
  ⟨2, 31, (keyed .PC_CTRL (31 : Fin 32) (ready.modRot fun r => { r with queue := [(3, true)] })), by decide +kernel⟩

theorem test_CalibrationRotation_meets_12 : ∃ (m : Fin 8) (n : Fin 32) (s : State),
    let u := s.meets m .PC_CTRL n;
    s.mayWrite m .PC_CTRL n = true ∧ (u.rot.queue.any fun x => x.1 == n.val) = true ∨ u.rot.slot = some n.val ∧
      u.rot.taken = false :=
  ⟨2, 31, (keyed .PC_CTRL (31 : Fin 32) (ready.modRot fun r => { r with queue := [(31, true), (3, false)] })),
    by decide +kernel⟩

theorem test_CalibrationRotation_meets_13 : ∃ (m : Fin 8) (n : Fin 32) (s : State),
    let u := s.meets m .PC_CTRL n;
    s.mayWrite m .PC_CTRL n = true ∧ u.rot.slot ≠ some n.val ∧ (u.rot.queue.any fun x => x.1 == n.val) = false :=
  ⟨2, 31, (keyed .PC_CTRL (31 : Fin 32) (ready.modRot fun r => { r with queue := [(3, true)] })), by decide +kernel⟩

theorem test_CalibrationRotation_meets_14 : ∃ (m : Fin 8) (n : Fin 32) (s : State),
    let u := s.meets m .PC_CTRL n;
    s.mayWrite m .PC_CTRL n = true ∧ u.rot.slot = some n.val ∧ u.rot.taken = false :=
  ⟨2, 31, (keyed .PC_CTRL (31 : Fin 32) (ready.modRot fun r => { r with slot := some 31 })), by decide +kernel⟩

theorem test_CalibrationRotation_meets_15 : ∃ (s : State),
    let u := s.begin';
    u.flag PC_ROT_STAT_INIT 0 = true :=
  ⟨ready.setFlag PC_ROT_STAT_INIT 0 true, by decide +kernel⟩

theorem test_CalibrationRotation_meets_16 : ∃ (s : State),
    let u := s.begin';
    u.flag PC_ROT_STAT_INIT 0 = false :=
  ⟨ready.setFlag PC_ROT_STAT_INIT 0 false, by decide +kernel⟩

theorem test_GeneralSensors_meets_1 : ∃ (n : Fin 32) (o : Fin 2000) (l : List GcSample) (s : State),
    let u := s.met;
    u.deaf = false ∧ u.flag GC_CFG_EN n = true ∧ l.length = 2 ^ u.fld GC_CFG_AVG n ∧ u.gcDue n (u.clk o) = true :=
  ⟨31, 0, [{ x := 7 }, { x := 8 }], ((ready.setFlag GC_CFG_EN (31 : Fin 32) true).put .GC_EVT_MASK (31 : Fin 32)
    0xFF).setFld GC_CFG_AVG (31 : Fin 32) 1, by decide +kernel⟩

theorem test_GeneralSensors_meets_2 : ∃ (n : Fin 32) (o : Fin 2000) (l : List GcSample) (s : State),
    let u := s.met;
    u.flag GC_CFG_EN n = false ∨ l.length ≠ 2 ^ u.fld GC_CFG_AVG n ∨ u.gcDue n (u.clk o) = false ∨ u.deaf = true :=
  ⟨31, 1999, [], ready, by decide +kernel⟩

theorem test_GeneralSensors_meets_3 : ∃ (n : Fin 32) (s : State),
    let u := s.met;
    u.deaf = false ∧ u.flag GC_CFG_EN n = true ∧ u.fld GC_CFG_RANGE n = 2 ∧ u.flag GC_STAT_SHUNT_OFF n = false :=
  ⟨31, ((ready.setFlag GC_CFG_EN (31 : Fin 32) true).put .GC_EVT_MASK (31 : Fin 32) 0xFF).setFld GC_CFG_RANGE (31 :
    Fin 32) 2, by decide +kernel⟩

theorem test_GeneralSensors_meets_4 : ∃ (n : Fin 32) (s : State),
    let u := s.met;
    u.fld GC_CFG_RANGE n ≠ 2 ∨ u.flag GC_CFG_EN n = false :=
  ⟨31, ready, by decide +kernel⟩

theorem test_GeneralSensors_meets_5 : ∃ (s : State),
    let u := s.met;
    u.deaf = false ∧ u.tick % 10000 = 0 :=
  ⟨{ ready.setFlag GC_STAT_SHUNT_OFF (31 : Fin 32) true with tick := 20000 }, by decide +kernel⟩

theorem test_GeneralSensors_meets_6 : ∃ (b : Bool) (s : State),
    let u := s.met;
    u.tick % 10000 ≠ 0 ∨ b = false :=
  ⟨false, ready.setFlag GC_STAT_SHUNT_OFF (31 : Fin 32) true, by decide +kernel⟩

theorem test_GeneralSensors_meets_7 : ∃ (z : Fin 4) (s : State),
    let u := s.met;
    u.zcDue z = true ∧ (u.zc z).idx < 4 ∧ u.flag ZC_CFG_TEMP_EN z = false ∧ ∀ p : Fin 4, u.dpEn p = false :=
  ⟨3, (((({ ready with tick := 4000 } : State).setFlag ZC_CFG_EN (3 : Fin 4) true).setFld ZC_CFG_PERIOD (3 : Fin 4)
    1).put .ZC_K_IM ((3 : Fin 4).val * 4) 0x40000000).setFld ZC_CFG_NF (3 : Fin 4) 2, by decide +kernel⟩

theorem test_GeneralSensors_meets_8 : ∃ (z : Fin 4) (s : State),
    let u := s.met;
    u.zcDue z = false :=
  ⟨3, ready, by decide +kernel⟩

theorem test_GeneralSensors_meets_9 : ∃ (m : Fin 8) (a : Fin 4) (s : State),
    let u := s.meets m .AO_VAL a;
    s.mayWrite m .AO_VAL a = true ∧ u.flag AO_CFG_SRC a = false :=
  ⟨2, 3, (keyed .AO_VAL (3 : Fin 4) (ready)), by decide +kernel⟩

theorem test_GeneralSensors_meets_10 : ∃ (m : Fin 8) (a : Fin 4) (s : State),
    let u := s.meets m .AO_VAL a;
    s.mayWrite m .AO_VAL a = true ∧ u.flag AO_CFG_SRC a = true :=
  ⟨2, 3, (keyed .AO_VAL (3 : Fin 4) (ready.setFlag AO_CFG_SRC 3 true)), by decide +kernel⟩

theorem test_GeneralSensors_meets_11 : ∃ (a : Fin 4) (s : State),
    let u := s.met;
    u.flag AO_CFG_EN a = true ∧ u.flag AO_STAT_FAULT a = false ∧ u.flag AO_CFG_MODE a = true :=
  ⟨3, (ready.setFlag AO_CFG_EN (3 : Fin 4) true).setFlag AO_CFG_MODE (3 : Fin 4) true, by decide +kernel⟩

theorem test_GeneralSensors_meets_12 : ∃ (a : Fin 4) (o : Fin 2000) (s : State),
    let u := s.met;
    u.flag AO_CFG_EN a = true ∧ u.flag AO_STAT_FAULT a = false ∧
      ((u.ao a).ask.any fun k => k + 200000 ≤ u.clk o) = true :=
  ⟨3, 1999, ((ready.setFlag AO_CFG_EN (3 : Fin 4) true).setFlag AO_CFG_MODE (3 : Fin 4) false).modAo (3 : Fin 4) fun
    x => { x with ask := some 1000 }, by decide +kernel⟩

theorem test_GeneralSensors_meets_13 : ∃ (a : Fin 4) (s : State),
    let u := s.met;
    u.flag AO_CFG_EN a = false ∨ u.flag AO_STAT_FAULT a = true ∨ u.flag AO_CFG_MODE a = false ∧ (u.ao a).ask = none :=
  ⟨3, ready, by decide +kernel⟩

theorem test_DryingPaths_meets_1 : ∃ (m : Fin 8) (p : Fin 4) (v : Word) (s : State),
    let u := s.meets m .DP_CFG p;
    s.mayWrite m .DP_CFG p = true ∧ u.dpEn p = false ∧
      u.dpReject p (putBits (u.merged m .DP_CFG p (v ||| 1#32)) 31 24 (clampN 1 255 (bitsOf (u.merged m .DP_CFG p (v
        ||| 1#32)) 31 24))) ≠ 0 :=
  ⟨2, 3, 0, (keyed .DP_CFG (3 : Fin 4) (ready)), by decide +kernel⟩

theorem test_DryingPaths_meets_2 : ∃ (m : Fin 8) (p : Fin 4) (v : Word) (s : State),
    let u := s.meets m .DP_CFG p;
    s.mayWrite m .DP_CFG p = true ∧ u.dpEn p = false ∧
      u.dpReject p (putBits (u.merged m .DP_CFG p (v ||| 1#32)) 31 24 (clampN 1 255 (bitsOf (u.merged m .DP_CFG p (v
        ||| 1#32)) 31 24))) = 0 ∧
          bitsOf (putBits (u.merged m .DP_CFG p (v ||| 1#32)) 31 24 (clampN 1 255 (bitsOf (u.merged m .DP_CFG p (v
            ||| 1#32)) 31 24))) 4 3 = 2 ∧ (u.dp p).col = [] ∧ (u.dp p).out = [] :=
  ⟨2, 3, 0x1F10, (keyed .DP_CFG (3 : Fin 4) ((((((((ready.put .AX_CFG 31 1).setFld AX_CFG_TYPE 31 3).setFld
    DP_GEOM_VP 3 100).setFld DP_GEOM_VCOL 3 300).setFlag ZC_CFG_EN 0 true).setFlag PC_CFG_EN 0 true).setFld
      DP_ZCFG_START 12 0).put .DP_MSEED 3 0x41900000)), by decide +kernel⟩

theorem test_DryingPaths_meets_3 : ∃ (m : Fin 8) (p : Fin 4) (v : Word) (s : State),
    let u := s.meets m .DP_CFG p;
    s.mayWrite m .DP_CFG p = true ∧ u.dpEn p = false ∧
      u.dpReject p (putBits (u.merged m .DP_CFG p (v ||| 1#32)) 31 24 (clampN 1 255 (bitsOf (u.merged m .DP_CFG p (v
        ||| 1#32)) 31 24))) = 0 ∧
          bitsOf (putBits (u.merged m .DP_CFG p (v ||| 1#32)) 31 24 (clampN 1 255 (bitsOf (u.merged m .DP_CFG p (v
            ||| 1#32)) 31 24))) 4 3 = 0 ∧ (u.dp p).col = [] ∧ (u.dp p).out = [] :=
  ⟨2, 3, 0x1F00, (keyed .DP_CFG (3 : Fin 4) ((((((((ready.put .AX_CFG 31 1).setFld AX_CFG_TYPE 31 3).setFld
    DP_GEOM_VP 3 100).setFld DP_GEOM_VCOL 3 300).setFlag ZC_CFG_EN 0 true).setFlag PC_CFG_EN 0 true).setFld
      DP_ZCFG_START 12 0))), by decide +kernel⟩

theorem test_DryingPaths_meets_4 : ∃ (m : Fin 8) (p : Fin 4) (v : Word) (s : State),
    let u := s.meets m .DP_CFG p;
    s.mayWrite m .DP_CFG p = true ∧ u.dpEn p = false ∧
      u.dpReject p (putBits (u.merged m .DP_CFG p (v ||| 1#32)) 31 24 (clampN 1 255 (bitsOf (u.merged m .DP_CFG p (v
        ||| 1#32)) 31 24))) = 0 ∧
          bitsOf (putBits (u.merged m .DP_CFG p (v ||| 1#32)) 31 24 (clampN 1 255 (bitsOf (u.merged m .DP_CFG p (v
            ||| 1#32)) 31 24))) 4 3 = 1 ∧ (u.dp p).col = [] ∧ (u.dp p).out = [] :=
  ⟨2, 3, 0x1F08, (keyed .DP_CFG (3 : Fin 4) ((((((((ready.put .AX_CFG 31 1).setFld AX_CFG_TYPE 31 3).setFld
    DP_GEOM_VP 3 100).setFld DP_GEOM_VCOL 3 300).setFlag ZC_CFG_EN 0 true).setFlag PC_CFG_EN 0 true).setFld
      DP_ZCFG_START 12 0).put .DP_MSEED 3 0x41900000 |>.setFld DP_FILL_FILL 3 250)), by decide +kernel⟩

theorem test_DryingPaths_meets_5 : ∃ (p : Fin 4) (s : State),
    let u := s.begin';
    u.dpBoundaryDue p = false :=
  ⟨3, ready, by decide +kernel⟩

theorem test_DryingPaths_meets_6 : ∃ (p : Fin 4) (s : State),
    let u := s.begin';
    u.dpBoundaryDue p = true ∧ (u.dp p).ins = [] ∧ (u.dp p).col.length < u.dpN p ∧
      ((u.dp p).nbTick ≠ u.tick ∨ (u.dp p).nbN ≠ 4) :=
  ⟨3, (((((((((((((ready.put .AX_CFG 31 1).setFld AX_CFG_TYPE 31 3).setFld DP_GEOM_VP 3 100).setFld DP_GEOM_VCOL 3
    300).setFlag ZC_CFG_EN 0 true).setFlag PC_CFG_EN 0 true).setFld DP_ZCFG_START 12 0)).put .DP_CFG 3 0x1F01).setFld
      DP_STAT_STATE 3 2).put .DP_EVT_MASK 3 0xFFFF)).modDp 3 fun d =>
        { d with nb := -5, last := some (0x41980000, 0x41A00000) }), by decide +kernel⟩

theorem test_DryingPaths_meets_7 : ∃ (p : Fin 4) (b : Parcel) (r : List Parcel) (x : Int) (y : Word) (s : State),
    let u := s.begin';
    u.dpBoundaryDue p = true ∧ (u.dp p).col = b :: r ∧ u.dpN p ≤ r.length + 1 ∧ (u.dp p).ins = [(x, y, none)] ∧
      0 ≤ diff48 x (wrap48 ((u.dp p).nb - State.litres (u.dpVp p))) ∧ diff48 x (u.dp p).nb < 0 ∧
        ((u.dp p).nbTick ≠ u.tick ∨ (u.dp p).nbN ≠ 4) :=
  ⟨3, { slot := 8, seq := 2 }, [{ slot := 9 }, { slot := 10 }], -7, 0x41980000, (((((((((((((ready.put .AX_CFG 31
    1).setFld AX_CFG_TYPE 31 3).setFld DP_GEOM_VP 3 100).setFld DP_GEOM_VCOL 3 300).setFlag ZC_CFG_EN 0 true).setFlag
      PC_CFG_EN 0 true).setFld DP_ZCFG_START 12 0)).put .DP_CFG 3 0x1F01).setFld DP_STAT_STATE 3 2).put .DP_EVT_MASK
        3 0xFFFF)).modDp 3 fun d =>
          { d with nb := -5, top := 10, col := [{ slot := 8, seq := 2 }, { slot := 9 }, { slot := 10 }], ins := [(-7, 0x41980000, none)] }), by decide +kernel⟩

theorem test_DryingPaths_meets_8 : ∃ (p : Fin 4) (s : State),
    let u := s.begin';
    u.dpBoundaryDue p = true ∧ (u.dp p).col.length < u.dpN p ∧ (u.dp p).nbTick = u.tick ∧ (u.dp p).nbN = 4 :=
  ⟨3, (((((((((((((ready.put .AX_CFG 31 1).setFld AX_CFG_TYPE 31 3).setFld DP_GEOM_VP 3 100).setFld DP_GEOM_VCOL 3
    300).setFlag ZC_CFG_EN 0 true).setFlag PC_CFG_EN 0 true).setFld DP_ZCFG_START 12 0)).put .DP_CFG 3 0x1F01).setFld
      DP_STAT_STATE 3 2).put .DP_EVT_MASK 3 0xFFFF)).modDp 3 fun d => { d with nb := -5, nbTick := 1000, nbN := 4 }),
        by decide +kernel⟩

theorem test_DryingPaths_meets_9 : ∃ (p : Fin 4) (s : State),
    let u := s.begin';
    u.dpOutletDue p = false :=
  ⟨3, ready, by decide +kernel⟩

theorem test_DryingPaths_meets_10 : ∃ (p : Fin 4) (q : Fin 48) (b : Parcel) (r : List Parcel) (s : State),
    let u := s.begin';
    q.val = 46 + u.fld DP_CFG_Q p ∧ u.roomy q = true ∧ u.dpOutletDue p = true ∧ (u.dp p).out = b :: r ∧
      b.slot < 1024 ∧ (u.qNext q + qSize q ≤ 0x01138000 ∨ 0x01178000 ≤ u.qNext q) ∧ u.flag DP_SENS_OUT_EN p = false :=
  ⟨3, 46, { slot := 4, seq := 300, pc := -1000000, m := 0x41700000, mIn := 0x41800000, steps := 3, zl := true }, [],
    (((((((((((((((ready.put .AX_CFG 31 1).setFld AX_CFG_TYPE 31 3).setFld DP_GEOM_VP 3 100).setFld DP_GEOM_VCOL 3
      300).setFlag ZC_CFG_EN 0 true).setFlag PC_CFG_EN 0 true).setFld DP_ZCFG_START 12 0)).put .DP_CFG 3
        0x1F01).setFld DP_STAT_STATE 3 2).put .DP_EVT_MASK 3 0xFFFF)).modDp 3 fun d =>
          { d with out := [{ slot := 4, seq := 300, pc := -1000000, m := 0x41700000, mIn := 0x41800000, steps := 3, zl := true }] })).setFlag Q_GEOM_EN 46 true).put .Q_BASE 46 0x01178000, by decide +kernel⟩

theorem test_DryingPaths_meets_11 : ∃ (p : Fin 4) (q : Fin 48) (b : Parcel) (r : List Parcel) (s : State),
    let u := s.begin';
    q.val = 46 + u.fld DP_CFG_Q p ∧ u.roomy q = true ∧ u.dpOutletDue p = true ∧ (u.dp p).out = b :: r ∧
      b.slot < 1024 ∧ (u.qNext q + qSize q ≤ 0x01138000 ∨ 0x01178000 ≤ u.qNext q) ∧ u.flag DP_SENS_OUT_EN p = true ∧
        b.outN ≠ 0 ∧ b.seed = false ∧
          f32.lt (f32.abs (f32.add (u.get .DP_BIAS p) (f32.mul (f32.sub (f32.sub (f32.div b.outSum (f32.ofInt
            b.outN)) b.m) (u.get .DP_BIAS p)) (f32.ofScaled 1 (u.fld DP_BIASCFG_BK p))))) (f32.ofRat (u.fld
              DP_BIASCFG_BLIM p) 100) = true :=
  ⟨3, 46,
    { slot := 4, seq := 300, pc := -1000000, m := 0x41700000, mIn := 0x41800000, steps := 3, zl := true, outSum := 0x41F80000, outN := 2 }, [{ slot := 5 }], (((((((((((((((((ready.put .AX_CFG 31 1).setFld AX_CFG_TYPE 31 3).setFld DP_GEOM_VP 3 100).setFld DP_GEOM_VCOL 3 300).setFlag ZC_CFG_EN 0 true).setFlag PC_CFG_EN 0 true).setFld DP_ZCFG_START 12 0)).put .DP_CFG 3 0x1F01).setFld DP_STAT_STATE 3 2).put .DP_EVT_MASK 3 0xFFFF)).modDp 3 fun d => { d with out := [{ slot := 4, seq := 300, pc := -1000000, m := 0x41700000, mIn := 0x41800000, steps := 3, zl := true, outSum := 0x41F80000, outN := 2 }, { slot := 5 }] })).setFlag Q_GEOM_EN 46 true).put .Q_BASE 46 0x01178000).setFlag DP_SENS_OUT_EN 3 true).setFld DP_BIASCFG_BLIM 3 500, by decide +kernel⟩

theorem test_DryingPaths_meets_12 : ∃ (p : Fin 4) (s : State),
    let u := s.begin';
    u.dpEn p = false ∨ u.dpState p ≠ 1 ∨ u.flag DP_SENS_LVL_EN p = false :=
  ⟨3, ready, by decide +kernel⟩

theorem test_DryingPaths_meets_13 : ∃ (p : Fin 4) (s : State),
    let u := s.begin';
    u.dpEn p = true ∧ u.dpState p = 1 ∧ u.flag DP_SENS_LVL_EN p = true ∧
      (u.fld FB_STAT_LVL (u.fld DP_SENS_LVL_FB p) % 2 == 1) = u.flag DP_SENS_LVL_POL p ∧
        (∀ b ∈ (u.dp p).col, b.slot < 1024) :=
  ⟨3, ((((((((((((((((ready.put .AX_CFG 31 1).setFld AX_CFG_TYPE 31 3).setFld DP_GEOM_VP 3 100).setFld DP_GEOM_VCOL 3
    300).setFlag ZC_CFG_EN 0 true).setFlag PC_CFG_EN 0 true).setFld DP_ZCFG_START 12 0)).put .DP_CFG 3 0x1F01).setFld
      DP_STAT_STATE 3 2).put .DP_EVT_MASK 3 0xFFFF)).modDp 3 fun d =>
        { d with seeds := 1, col := [{ slot := 9, seed := true }], ts := 1000000, bin := 600000, bins := [(0x41980000, 1, 0, 0), (0x41900000, 1, 0x41900000, 1)] })).setFld DP_STAT_STATE 3 1)).setFlag DP_SENS_LVL_EN 3 true |>.setFlag DP_SENS_LVL_POL 3 false, by decide +kernel⟩

theorem test_DryingPaths_meets_14 : ∃ (m : Fin 8) (p : Fin 4) (s : State),
    let u := s.meets m .DP_CTRL p;
    s.mayWrite m .DP_CTRL p = true ∧ u.dpState p = 1 :=
  ⟨2, 3, (keyed .DP_CTRL (3 : Fin 4) ((((((((((((((((ready.put .AX_CFG 31 1).setFld AX_CFG_TYPE 31 3).setFld
    DP_GEOM_VP 3 100).setFld DP_GEOM_VCOL 3 300).setFlag ZC_CFG_EN 0 true).setFlag PC_CFG_EN 0 true).setFld
      DP_ZCFG_START 12 0)).put .DP_CFG 3 0x1F01).setFld DP_STAT_STATE 3 2).put .DP_EVT_MASK 3 0xFFFF)).modDp 3 fun d
        => { d with seeds := 0, ts := 1000000, bin := 600000 })).setFld DP_STAT_STATE 3 1))), by decide +kernel⟩

theorem test_DryingPaths_meets_15 : ∃ (p : Fin 4) (s : State), s.dpEn p = true ∧ s.dpState p = 1 ∧
  (s.dp p).enter = 1 ∧ (∀ b ∈ (s.dp p).col, b.slot < 1024) :=
  ⟨3, (((((((((((((((ready.put .AX_CFG 31 1).setFld AX_CFG_TYPE 31 3).setFld DP_GEOM_VP 3 100).setFld DP_GEOM_VCOL 3
    300).setFlag ZC_CFG_EN 0 true).setFlag PC_CFG_EN 0 true).setFld DP_ZCFG_START 12 0)).put .DP_CFG 3 0x1F01).setFld
      DP_STAT_STATE 3 2).put .DP_EVT_MASK 3 0xFFFF)).modDp 3 fun d =>
        { d with enter := 1, seeds := 0, ts := 1000000, bin := 600000 })).setFld DP_STAT_STATE 3 1),
          by decide +kernel⟩

theorem test_DryingPaths_meets_16 : ∃ (p : Fin 4) (s : State), (∀ x : Fin 4, (s.dp x).enter = 0) ∧ s.dpEn p = true ∧
  s.dpState p = 2 ∧ s.dpBatch p = false ∧ diff48 (s.dpPos p) (s.dp p).fmax < 0 :=
  ⟨3, (((((((((((((ready.put .AX_CFG 31 1).setFld AX_CFG_TYPE 31 3).setFld DP_GEOM_VP 3 100).setFld DP_GEOM_VCOL 3
    300).setFlag ZC_CFG_EN 0 true).setFlag PC_CFG_EN 0 true).setFld DP_ZCFG_START 12 0)).put .DP_CFG 3 0x1F01).setFld
      DP_STAT_STATE 3 2).put .DP_EVT_MASK 3 0xFFFF)).modDp 3 fun d => { d with fmax := 100000000 }),
        by decide +kernel⟩

theorem test_DryingPaths_meets_17 : ∃ (p : Fin 4) (s : State), (∀ x : Fin 4, (s.dp x).enter = 0) ∧ s.dpEn p = true ∧
  s.dpState p = 2 ∧ s.dpBatch p = false ∧ 0 < diff48 (s.dpPos p) (s.dp p).fmax :=
  ⟨3, ((((((((((((((ready.put .AX_CFG 31 1).setFld AX_CFG_TYPE 31 3).setFld DP_GEOM_VP 3 100).setFld DP_GEOM_VCOL 3
    300).setFlag ZC_CFG_EN 0 true).setFlag PC_CFG_EN 0 true).setFld DP_ZCFG_START 12 0)).put .DP_CFG 3 0x1F01).setFld
      DP_STAT_STATE 3 2).put .DP_EVT_MASK 3 0xFFFF)).modDp 3 fun d => { d with fmax := -100000000 })).setFlag
        DP_STAT_REV 3 true, by decide +kernel⟩

theorem test_DryingPaths_meets_18 : ∃ (p : Fin 4) (q : Fin 48) (b : Parcel) (r : List Parcel) (s : State), s.dpState
  p = 3 ∧ ((∀ x : Fin 4, x ≠ p → s.dpState x ≠ 3)) ∧ (s.dp p).col = b :: r ∧ b.slot < 1024 ∧
    q.val = 46 + s.fld DP_CFG_Q p ∧ s.roomy q = true ∧ (s.qNext q + qSize q ≤ 0x01138000 ∨ 0x01178000 ≤ s.qNext q) :=
  ⟨3, 46, { slot := 4, seq := 300, pc := -1000000, m := 0x41700000, mIn := 0x41800000, steps := 3, zl := true }, [],
    ((((((((((((((((ready.put .AX_CFG 31 1).setFld AX_CFG_TYPE 31 3).setFld DP_GEOM_VP 3 100).setFld DP_GEOM_VCOL 3
      300).setFlag ZC_CFG_EN 0 true).setFlag PC_CFG_EN 0 true).setFld DP_ZCFG_START 12 0)).put .DP_CFG 3
        0x1F01).setFld DP_STAT_STATE 3 2).put .DP_EVT_MASK 3 0xFFFF)).modDp 3 fun d =>
          { d with col := [{ slot := 4, seq := 300, pc := -1000000, m := 0x41700000, mIn := 0x41800000, steps := 3, zl := true }] })).setFlag Q_GEOM_EN 46 true).put .Q_BASE 46 0x01178000).setFld DP_STAT_STATE 3 3, by decide +kernel⟩

theorem test_DryingPaths_meets_19 : ∃ (m : Fin 8) (p : Fin 4) (s : State),
    let u := s.meets m .DP_CTRL p;
    s.mayWrite m .DP_CTRL p = true ∧ u.dpState p ≠ 1 :=
  ⟨2, 3, (keyed .DP_CTRL (3 : Fin 4) (ready)), by decide +kernel⟩

theorem test_DryingModel_meets_1 : ∃ (s : State),
    let u := s.begin';
    u.tick % 100000 ≠ 0 :=
  ⟨ready, by decide +kernel⟩

theorem test_DryingModel_meets_2 : ∃ (s : State),
    let u := s.begin';
    u.tick % 100000 = 0 :=
  ⟨{ (((((((((((((ready.put .AX_CFG 31 1).setFld AX_CFG_TYPE 31 3).setFld DP_GEOM_VP 3 100).setFld DP_GEOM_VCOL 3 300).setFlag ZC_CFG_EN 0 true).setFlag PC_CFG_EN 0 true).setFld DP_ZCFG_START 12 0)).put .DP_CFG 3 0x1F01).setFld DP_STAT_STATE 3 2).put .DP_EVT_MASK 3 0xFFFF)).modDp 3 fun d => { d with col := [{ slot := 8, seq := 2, m := 0x41900000 }, { slot := 9 }] }) with tick := 100000 }, by decide +kernel⟩

theorem test_DryingModel_meets_3 : ∃ (s : State),
    let u := s.begin';
    (∀ p : Fin 4, ∀ e, (u.dp p).step = some e → e.k + 100 ≠ u.tick) :=
  ⟨ready, by decide +kernel⟩

theorem test_DryingModel_meets_4 : ∃ (p : Fin 4) (b : Parcel) (k0 : Nat) (m1 : Word) (g1 : Word) (q1 : Word) (s :
  State),
    let u := s.begin';
    ((u.dp p).col = [b] ∧ (u.dp p).step = some
      { k := k0, res := [{ slot := b.slot, seq := b.seq, stepped := some (m1, g1), pred := some q1 }] } ∧
        k0 + 100 = u.tick ∧ u.dpBatch p = false ∧ ∀ x : Fin 4, x ≠ p → (u.dp x).step = none) :=
  ⟨3, { slot := 8, seq := 2, m := 0x41900000 }, 900, 0x41880000, 0x41D00000, 0x41780000, (((((((((((((ready.put
    .AX_CFG 31 1).setFld AX_CFG_TYPE 31 3).setFld DP_GEOM_VP 3 100).setFld DP_GEOM_VCOL 3 300).setFlag ZC_CFG_EN 0
      true).setFlag PC_CFG_EN 0 true).setFld DP_ZCFG_START 12 0)).put .DP_CFG 3 0x1F01).setFld DP_STAT_STATE 3 2).put
        .DP_EVT_MASK 3 0xFFFF)).modDp 3 fun d =>
          { d with col := [{ slot := 8, seq := 2, m := 0x41900000 }], step := some { k := 900, res := [{ slot := 8, seq := 2, stepped := some (0x41880000, 0x41D00000), pred := some 0x41780000 }] } }), by decide +kernel⟩

theorem test_DryingModel_meets_5 : ∃ (m : Fin 8) (p : Fin 4) (s : State),
    let u := s.meets m .DP_CTRL p;
    s.mayWrite m .DP_CTRL p = true ∧ u.dpBatch p = true ∧ u.dpState p = 2 :=
  ⟨2, 3, (keyed .DP_CTRL (3 : Fin 4) ((ready.setFlag DP_CFG_MODE 3 true).setFld DP_STAT_STATE 3 2)),
    by decide +kernel⟩

theorem test_DryingModel_meets_6 : ∃ (m : Fin 8) (p : Fin 4) (s : State),
    let u := s.meets m .DP_CTRL p;
    s.mayWrite m .DP_CTRL p = true ∧ u.dpBatch p = false ∨ u.dpState p ≠ 2 :=
  ⟨2, 3, (keyed .DP_CTRL (3 : Fin 4) (ready)), by decide +kernel⟩

theorem test_DryingModel_meets_7 : ∃ (m : Fin 8) (p : Fin 4) (s : State), s.mayWrite m .DP_CTRL p = true :=
  ⟨2, 3, (keyed .DP_CTRL (3 : Fin 4) (ready.put .DP_BIAS 3 7)), by decide +kernel⟩

theorem test_DryingModel_meets_8 : ∃ (m : Fin 8) (p : Fin 4) (s : State), s.mayWrite m .DP_CTRL p = true :=
  ⟨2, 3, (keyed .DP_CTRL (3 : Fin 4) (ready.put .DP_CNT 3 7)), by decide +kernel⟩

theorem test_DryingModel_meets_9 : ∃ (p : Fin 4) (z : Fin 4) (s : State),
    let u := s.begin';
    u.dpEn p = true ∧ z.val < u.dpZones p ∧ u.rbit .DP_STAT p (8 + z) = false ∧ u.zoneTemp p z = none :=
  ⟨3, 0, (((((((((((((ready.put .AX_CFG 31 1).setFld AX_CFG_TYPE 31 3).setFld DP_GEOM_VP 3 100).setFld DP_GEOM_VCOL 3
    300).setFlag ZC_CFG_EN 0 true).setFlag PC_CFG_EN 0 true).setFld DP_ZCFG_START 12 0)).put .DP_CFG 3 0x1F01).setFld
      DP_STAT_STATE 3 2).put .DP_EVT_MASK 3 0xFFFF)).modDp 3 fun d =>
        { d with col := [{ slot := 8, pc := -1000 }, { slot := 9, pc := 5000 }] }), by decide +kernel⟩

theorem test_DryingModel_meets_10 : ∃ (p : Fin 4) (z : Fin 4) (s : State),
    let u := s.begin';
    u.dpEn p = false ∨ u.dpZones p ≤ z.val ∨ u.rbit .DP_STAT p (8 + z) = true ∨ u.zoneTemp p z ≠ none :=
  ⟨3, 3, ready, by decide +kernel⟩

theorem test_DryingModel_meets_11 : ∃ (p : Fin 4) (s : State),
    let u := s.met;
    u.flag DP_HEAT_EN p = true ∧ (u.fld FB_STAT_LVL (u.fld DP_HEAT_FB p) % 2 == 1) = u.flag DP_HEAT_POL p ∧
      u.flag DP_STAT_LOCKOUT p = false :=
  ⟨3, ((ready.setFlag DP_HEAT_EN 3 true).setFlag DP_HEAT_POL 3 false).put .DP_EVT_MASK 3 0xFFFF, by decide +kernel⟩

theorem test_DryingModel_meets_12 : ∃ (p : Fin 4) (s : State),
    let u := s.met;
    u.flag DP_HEAT_EN p = false ∨ (u.fld FB_STAT_LVL (u.fld DP_HEAT_FB p) % 2 == 1) = !u.flag DP_HEAT_POL p :=
  ⟨3, (ready.setFlag DP_STAT_LOCKOUT 3 true).setFlag DP_HEAT_EN 3 false, by decide +kernel⟩

theorem test_DryingModel_meets_13 : ∃ (n : Fin 32) (k : Nat) (s : State),
    let u := s.begin';
    SMap.get none u.sensT n = some k ∧ u.flag DP_SE_CFG_EN n = true ∧ k + 200000000 * u.fld DP_SE_TO_TO 0 ≤ u.T :=
  ⟨31, 7,
    { ((ready.setFlag DP_SE_CFG_EN (31 : Fin 32) true).setFld DP_SE_TO_TO 0 1) with tick := 100001, sensT := SMap.set none [] 31 (some 7) }, by decide +kernel⟩

theorem test_DryingModel_meets_14 : ∃ (n : Fin 32) (s : State),
    let u := s.begin';
    SMap.get none u.sensT n = none :=
  ⟨31, ready, by decide +kernel⟩

theorem test_DryingModel_meets_15 : ∃ (s : State),
    let u := s.begin';
    u.tick % 6000000 ≠ 0 :=
  ⟨ready, by decide +kernel⟩

theorem test_DryingModel_meets_16 : ∃ (s : State),
    let u := s.begin';
    u.tick % 6000000 = 0 :=
  ⟨(((((((((((((({ ready with tick := 6000000 } : State).setFlag DP_AE_CFG_EN 7 true).setFlag DP_SE_CFG_EN 31
    true).setFld DP_SE_CFG_BIN 31 7).put .DP_SE_VAL 31 0x41F00000).setFlag DP_AMB_EN 0 true).setFld DP_AMB_TPC 0
      5).setFld DP_AMB_RHGC 0 6).modPc 5 fun c => { c with valid := some (0x41200000, 7) }).modGc 6 fun c =>
        { c with valid := some (0x3F000000, 7) }).setFld DP_AE_LIM_RH_MAX 7 80).setFld DP_AE_ME_ME_HI 7 3000).setFld
          DP_AE_LIM_ALARM 7 60).setFld DP_AE_ME_ME_LO 7 0).setFld DP_AE_CFG_MIN_OFF 7 1 |>.setFld DP_AE_CFG_MIN_ON 7
            1, by decide +kernel⟩

theorem test_DryingModel_meets_17 : ∃ (b : Fin 8) (ta : Word) (rh : Word) (s : State),
    let u := s.begin';
    u.tick % 6000000 = 0 ∧ u.flag DP_AE_CFG_EN b = true ∧ u.binSensors b ≠ [] ∧ u.ambient = some (ta, rh) ∧
      u.binOpen b = true ∧ (((u.binSensors b).any fun x => f32.le (f32.ofInt (u.fld DP_AE_LIM_ALARM b)) x) && u.flag
        DP_AE_CFG_HOT_FORCE b) = false ∧
          (f32.le (f32.add ta (f32.ofRat (u.fld DP_AE_LIM_DT_OFF b) 10)) (State.meanOf (u.binSensors b)) && f32.le rh
            (f32.ofRat (u.fld DP_AE_LIM_RH_MAX b) 100) && f32.le (f32.ofRat (u.fld DP_AE_ME_ME_LO b) 100)
              (u.equilibrium (u.fld DP_AE_CFG_CROP b) ta rh) && f32.le (u.equilibrium (u.fld DP_AE_CFG_CROP b) ta rh)
                (f32.ofRat (u.fld DP_AE_ME_ME_HI b) 100)) = false ∧
                  SMap.get 0 u.aeSince b + 6000000 * u.fld DP_AE_CFG_MIN_ON b ≤ u.tick :=
  ⟨7, 0x41200000, 0x3F000000, (((((((((((((((({ ready with tick := 6000000 } : State).setFlag DP_AE_CFG_EN 7
    true).setFlag DP_SE_CFG_EN 31 true).setFld DP_SE_CFG_BIN 31 7).put .DP_SE_VAL 31 0x41F00000).setFlag DP_AMB_EN 0
      true).setFld DP_AMB_TPC 0 5).setFld DP_AMB_RHGC 0 6).modPc 5 fun c =>
        { c with valid := some (0x41200000, 7) }).modGc 6 fun c => { c with valid := some (0x3F000000, 7) }).setFld
          DP_AE_LIM_RH_MAX 7 80).setFld DP_AE_ME_ME_HI 7 3000).setFld DP_AE_LIM_ALARM 7 60).setFld DP_AE_ME_ME_LO 7
            0).setFld DP_AE_CFG_MIN_OFF 7 1 |>.setFld DP_AE_CFG_MIN_ON 7 1).setRbit .DP_AE_STAT 7 0 true).setFld
              DP_AE_LIM_DT_OFF 7 250, by decide +kernel⟩

theorem test_DryingModel_meets_18 : ∃ (b : Fin 8) (ta : Word) (rh : Word) (s : State),
    let u := s.begin';
    u.tick % 6000000 = 0 ∧ u.flag DP_AE_CFG_EN b = true ∧ u.binSensors b ≠ [] ∧ u.ambient = some (ta, rh) ∧
      u.binOpen b = true ∧ ((((u.binSensors b).any fun x => f32.le (f32.ofInt (u.fld DP_AE_LIM_ALARM b)) x) && u.flag
        DP_AE_CFG_HOT_FORCE b) = true ∨ (f32.le (f32.add ta (f32.ofRat (u.fld DP_AE_LIM_DT_OFF b) 10)) (State.meanOf
          (u.binSensors b)) && f32.le rh (f32.ofRat (u.fld DP_AE_LIM_RH_MAX b) 100) && f32.le (f32.ofRat (u.fld
            DP_AE_ME_ME_LO b) 100) (u.equilibrium (u.fld DP_AE_CFG_CROP b) ta rh) && f32.le (u.equilibrium (u.fld
              DP_AE_CFG_CROP b) ta rh) (f32.ofRat (u.fld DP_AE_ME_ME_HI b) 100)) = true ∨ u.tick < SMap.get 0
                u.aeSince b + 6000000 * u.fld DP_AE_CFG_MIN_ON b) :=
  ⟨7, 0x41200000, 0x3F000000, ((((((((((((((({ ready with tick := 6000000 } : State).setFlag DP_AE_CFG_EN 7
    true).setFlag DP_SE_CFG_EN 31 true).setFld DP_SE_CFG_BIN 31 7).put .DP_SE_VAL 31 0x41F00000).setFlag DP_AMB_EN 0
      true).setFld DP_AMB_TPC 0 5).setFld DP_AMB_RHGC 0 6).modPc 5 fun c =>
        { c with valid := some (0x41200000, 7) }).modGc 6 fun c => { c with valid := some (0x3F000000, 7) }).setFld
          DP_AE_LIM_RH_MAX 7 80).setFld DP_AE_ME_ME_HI 7 3000).setFld DP_AE_LIM_ALARM 7 60).setFld DP_AE_ME_ME_LO 7
            0).setFld DP_AE_CFG_MIN_OFF 7 1 |>.setFld DP_AE_CFG_MIN_ON 7 1).setRbit .DP_AE_STAT 7 0 true,
              by decide +kernel⟩

theorem test_DryingModel_meets_19 : ∃ (b : Fin 8) (ta : Word) (rh : Word) (s : State),
    let u := s.begin';
    u.tick % 6000000 = 0 ∧ u.flag DP_AE_CFG_EN b = true ∧ u.binSensors b ≠ [] ∧ u.ambient = some (ta, rh) ∧
      u.binOpen b = false ∧ ((((u.binSensors b).any fun x => f32.le (f32.ofInt (u.fld DP_AE_LIM_ALARM b)) x) &&
        u.flag DP_AE_CFG_HOT_FORCE b) = true ∨ (f32.le (f32.add ta (f32.ofRat (u.fld DP_AE_LIM_DT_ON b) 10))
          (State.meanOf (u.binSensors b)) && f32.le rh (f32.ofRat (u.fld DP_AE_LIM_RH_MAX b) 100) && f32.le
            (f32.ofRat (u.fld DP_AE_ME_ME_LO b) 100) (u.equilibrium (u.fld DP_AE_CFG_CROP b) ta rh) && f32.le
              (u.equilibrium (u.fld DP_AE_CFG_CROP b) ta rh) (f32.ofRat (u.fld DP_AE_ME_ME_HI b) 100)) = true) ∧
                SMap.get 0 u.aeSince b + 6000000 * u.fld DP_AE_CFG_MIN_OFF b ≤ u.tick :=
  ⟨7, 0x41200000, 0x3F000000, (((((((((((((({ ready with tick := 6000000 } : State).setFlag DP_AE_CFG_EN 7
    true).setFlag DP_SE_CFG_EN 31 true).setFld DP_SE_CFG_BIN 31 7).put .DP_SE_VAL 31 0x41F00000).setFlag DP_AMB_EN 0
      true).setFld DP_AMB_TPC 0 5).setFld DP_AMB_RHGC 0 6).modPc 5 fun c =>
        { c with valid := some (0x41200000, 7) }).modGc 6 fun c => { c with valid := some (0x3F000000, 7) }).setFld
          DP_AE_LIM_RH_MAX 7 80).setFld DP_AE_ME_ME_HI 7 3000).setFld DP_AE_LIM_ALARM 7 60).setFld DP_AE_ME_ME_LO 7
            0).setFld DP_AE_CFG_MIN_OFF 7 1 |>.setFld DP_AE_CFG_MIN_ON 7 1, by decide +kernel⟩

theorem test_DryingModel_meets_20 : ∃ (p : Fin 4) (z : Fin 4) (b : Parcel) (tv : Word) (me : Word) (k : Word) (s :
  State),
    let u := s.begin';
    (u.tick % 100000 = 0 ∧ u.dpEn p = true ∧ u.dpState p = 2 ∧ (u.dp p).step = none ∧ (u.dp p).col = [b] ∧
      u.zoneOf p (u.parcelDepth p b) = some z.val ∧ (State.zoneAir p u).1.getD z none = some (tv, me, k) ∧
        ∀ x : Fin 4, x ≠ p → u.dpState x ≠ 2) :=
  ⟨3, 0, { slot := 8, seq := 2, m := 0x41900000, tg := 0x41A00000, pc := -1000 }, 0x42480000, 0, 0x3A83126F,
    { ((((((((((((((ready.put .AX_CFG 31 1).setFld AX_CFG_TYPE 31 3).setFld DP_GEOM_VP 3 100).setFld DP_GEOM_VCOL 3 300).setFlag ZC_CFG_EN 0 true).setFlag PC_CFG_EN 0 true).setFld DP_ZCFG_START 12 0)).put .DP_CFG 3 0x1F01).setFld DP_STAT_STATE 3 2).put .DP_EVT_MASK 3 0xFFFF)).modDp 3 fun d => { d with col := [{ slot := 8, seq := 2, m := 0x41900000, tg := 0x41A00000, pc := -1000 }] }).put .DP_ZRH 12 0x3E800000 |>.put .DP_CR_K1 0 0x3A83126F |>.put .DP_CR_TAUG 0 0x43960000 |>.put .DP_CR_N 0 0x40000000 |>.put .DP_CR_C 0 0x42480000 |>.setFld DP_ZCFG_TPC 12 0 |>.modPc 0 fun x => { x with valid := some (0x42480000, 199000000) }) with tick := 100000 }, by decide +kernel⟩

theorem test_DryingModel_meets_21 : ∃ (p : Fin 4) (tv : Word) (s : State), s.dpZones p = 1 ∧
  s.zoneTemp p 0 = some tv ∧ s.fld DP_ZCFG_RHMODE (4 * p) = 0 :=
  ⟨3, 0x42480000,
    { ((((((((((((((ready.put .AX_CFG 31 1).setFld AX_CFG_TYPE 31 3).setFld DP_GEOM_VP 3 100).setFld DP_GEOM_VCOL 3 300).setFlag ZC_CFG_EN 0 true).setFlag PC_CFG_EN 0 true).setFld DP_ZCFG_START 12 0)).put .DP_CFG 3 0x1F01).setFld DP_STAT_STATE 3 2).put .DP_EVT_MASK 3 0xFFFF)).modDp 3 fun d => { d with col := [{ slot := 8, seq := 2, m := 0x41900000, tg := 0x41A00000, pc := -1000 }] }).put .DP_ZRH 12 0x3E800000 |>.put .DP_CR_K1 0 0x3A83126F |>.put .DP_CR_K2 0 0x3CF5C28F |>.put .DP_CR_TAUG 0 0x43960000 |>.put .DP_CR_A 0 0x38A7C5AC |>.put .DP_CR_N 0 0x40000000 |>.put .DP_CR_C 0 0x42480000 |>.setFld DP_ZCFG_TPC 12 0 |>.modPc 0 fun x => { x with valid := some (0x42480000, 199000000) }) with tick := 100000 }, by decide +kernel⟩

theorem test_DryingModel_meets_22 : ∃ (n : Fin 8) (s : State), (s.kcWant n = s.lnDemand (s.kcLane n) ∨ s.kcPending n
  = true) :=
  ⟨7, ready, by decide +kernel⟩

theorem test_DryingModel_meets_23 : ∃ (n : Fin 8) (s : State), s.kcWant n ≠ s.lnDemand (s.kcLane n) ∧
  s.kcPending n = false ∧ s.axState (s.lnAx (s.kcLane n)) ≠ 1 :=
  ⟨7, ready.setRbit .DP_KC_REQ 0 7 true, by decide +kernel⟩

theorem test_DryingModel_meets_24 : ∃ (n : Fin 8) (s : State), s.kcWant n ≠ s.lnDemand (s.kcLane n) ∧
  s.kcPending n = false ∧ s.axState (s.lnAx (s.kcLane n)) = 1 ∧ s.lnFull (s.kcLane n) = false :=
  ⟨7, (((((((((ready.put .LN_CMD 4 0).setRbit .DP_KC_REQ 0 7 true).put .AX_CFG 0 1).setFld AX_STAT_STATE 0
    1).setAxPos 0 65546000).put .AX_VEL 0 0x4A480000).setFld DP_KC_PH_PH_ON 7 0x4000).setFlag LN_CFG_EN 152
      true).modLane 152 fun l => { l with e8On := 8 * 18400 }), by decide +kernel⟩

theorem test_DryingModel_meets_25 : ∃ (n : Fin 8) (x : Bool) (s : State), s.kcDue = [(n.val, some x)] :=
  ⟨7, true, { ready with kcDue := SMap.set none [] 7 (some true) }, by decide +kernel⟩

theorem test_CanControllers_meets_1 : ∃ (m : Fin 8) (c : Fin 8) (v : Word) (s : State),
    let u := s.meets m .CAN_CFG c;
    s.mayWrite m .CAN_CFG c = true ∧ u.canEn c = false ∧ u.canReject c (u.merged m .CAN_CFG c (v ||| 1#32)) = 0 :=
  ⟨2, 7, 0x10, (keyed .CAN_CFG (7 : Fin 8) (((ready.put .CAN_NBT (7 : Fin 8) 0).setFld CAN_NBT_NSEG1 (7 : Fin 8)
    60).setFld CAN_NBT_NSEG2 (7 : Fin 8) 17)), by decide +kernel⟩

theorem test_CanControllers_meets_2 : ∃ (m : Fin 8) (c : Fin 8) (v : Word) (s : State),
    let u := s.meets m .CAN_CFG c;
    s.mayWrite m .CAN_CFG c = true ∧ u.canEn c = false ∧ u.canReject c (u.merged m .CAN_CFG c (v ||| 1#32)) ≠ 0 :=
  ⟨2, 7, 0x30, (keyed .CAN_CFG (7 : Fin 8) (((ready.put .CAN_NBT (7 : Fin 8) 0).setFld CAN_NBT_NSEG1 (7 : Fin 8)
    60).setFld CAN_NBT_NSEG2 (7 : Fin 8) 17)), by decide +kernel⟩

theorem test_CanControllers_meets_3 : ∃ (m : Fin 8) (c : Fin 8) (v : Word) (s : State),
    let u := s.meets m .CAN_CFG c;
    s.mayWrite m .CAN_CFG c = true ∧ u.canEn c = true ∧
      putBit (u.merged m .CAN_CFG c (v &&& ~~~ 1#32)) 0 true = u.get .CAN_CFG c :=
  ⟨2, 7, 0, (keyed .CAN_CFG (7 : Fin 8) (((ready.setFlag CAN_CFG_EN (7 : Fin 8) true).setFld CAN_STAT_STATE (7 : Fin
    8) 2).put .CAN_EVT_MASK (7 : Fin 8) 0xFFFF)), by decide +kernel⟩

theorem test_CanControllers_meets_4 : ∃ (c : Fin 8) (s : State),
    let u := s.met;
    u.deaf = false ∧ u.canEn c = true ∧ u.canState c = 1 :=
  ⟨7, ((ready.setFlag CAN_CFG_EN (7 : Fin 8) true).setFld CAN_STAT_STATE (7 : Fin 8) 1).put .CAN_EVT_MASK (7 : Fin 8)
    0xFFFF, by decide +kernel⟩

theorem test_CanControllers_meets_5 : ∃ (c : Fin 8) (s : State),
    let u := s.met;
    u.canEn c = false ∨ u.canState c ≠ 1 :=
  ⟨7, ready, by decide +kernel⟩

theorem test_CanControllers_meets_6 : ∃ (c : Fin 8) (s : State),
    let u := s.met;
    u.deaf = false ∧ u.canEn c = true ∧ 2 ≤ u.canState c ∧ u.canMode c ≠ 2 ∧ u.fld AX_YAW_CAN_CTRL 0 ≠ c :=
  ⟨7, (((ready.setFlag CAN_CFG_EN (7 : Fin 8) true).setFld CAN_STAT_STATE (7 : Fin 8) 2).put .CAN_EVT_MASK (7 : Fin
    8) 0xFFFF).setFld AX_YAW_CAN_CTRL 0 6 |>.setFld CAN_ERR_REC 7 200, by decide +kernel⟩

theorem test_CanControllers_meets_7 : ∃ (c : Fin 8) (o : Fin 2000) (f : CanFrame) (s : State),
    let u := s.met;
    u.deaf = false ∧ u.canEn c = true ∧ 2 ≤ u.canState c ∧ u.canMode c ≠ 2 ∧ u.fld AX_YAW_CAN_CTRL 0 = c ∧
      f.rtr = false ∧ f.ide = u.flag AX_YAW_CANID_IDE 0 ∧
        f.id = (if f.ide then u.fld AX_YAW_CANID_ID 0 else u.fld AX_YAW_CANID_ID 0 % 2048) ∧
          u.fld AX_YAW_CAN_OFS 0 + 2 ^ min 2 (u.fld AX_YAW_CAN_LEN 0) ≤ State.canLen f ∧
            (State.rateTake 50 1000 (u.clk o) u).2 = false :=
  ⟨7, 1999, { id := 0x123, dlc := 2, data := [0x11, 0x92] }, (((((ready.setFld AX_YAW_CAN_CTRL 0 7).setFld
    AX_YAW_CANID_ID 0 0x123).setFld AX_YAW_CAN_LEN 0 1).setFlag CAN_CFG_EN (7 : Fin 8) true).setFld CAN_STAT_STATE (7
      : Fin 8) 2).put .CAN_EVT_MASK (7 : Fin 8) 0xFFFF |>.setFlag AX_YAW_CAN_SIGNED 0 true, by decide +kernel⟩

theorem test_CanControllers_meets_8 : ∃ (c : Fin 8) (s : State),
    let u := s.met;
    u.deaf = false ∧ u.canEn c = true ∧ 2 ≤ u.canState c ∧ u.canMode c ≠ 2 :=
  ⟨7, (((ready.setFlag CAN_CFG_EN (7 : Fin 8) true).setFld CAN_STAT_STATE (7 : Fin 8) 2).put .CAN_EVT_MASK (7 : Fin
    8) 0xFFFF).modCan (7 : Fin 8) fun q => { q with tx := some (0, [1]), flushA := true }, by decide +kernel⟩

theorem test_CanControllers_meets_9 : ∃ (c : Fin 8) (s : State),
    let u := s.met;
    u.canOn c = false ∨ u.canState c < 2 ∨ u.canMode c = 2 :=
  ⟨7, ready, by decide +kernel⟩

theorem test_CanControllers_meets_10 : ∃ (c : Fin 8) (s : State),
    let u := s.met;
    u.deaf = false ∧ u.canState c = 5 :=
  ⟨7, (((ready.setFlag CAN_CFG_EN (7 : Fin 8) true).setFld CAN_STAT_STATE (7 : Fin 8) 5).put .CAN_EVT_MASK (7 : Fin
    8) 0xFFFF).setFld CAN_ERR_TEC (7 : Fin 8) 256, by decide +kernel⟩

theorem test_CanControllers_meets_11 : ∃ (c : Fin 8) (s : State),
    let u := s.met;
    u.deaf = false ∧ u.canEn c = true :=
  ⟨7, ((ready.setFlag CAN_CFG_EN (7 : Fin 8) true).setFld CAN_STAT_STATE (7 : Fin 8) 2).put .CAN_EVT_MASK (7 : Fin 8)
    0xFFFF, by decide +kernel⟩

theorem test_CanControllers_meets_12 : ∃ (m : Fin 8) (c : Fin 8) (s : State),
    let u := s.meets m .CAN_CTRL c;
    s.mayWrite m .CAN_CTRL c = true ∧ ((u.can c).tx.any fun e => e.1 == 0) = false :=
  ⟨2, 7, (keyed .CAN_CTRL (7 : Fin 8) ((ready.setFld Q_TAIL_INDEX 22 65535).setFlag Q_GEOM_EN 22 true)),
    by decide +kernel⟩

theorem test_CanControllers_meets_13 : ∃ (m : Fin 8) (c : Fin 8) (s : State),
    let u := s.meets m .CAN_CTRL c;
    s.mayWrite m .CAN_CTRL c = true ∧ ((u.can c).tx.any fun e => e.1 == 0) = true :=
  ⟨2, 7, (keyed .CAN_CTRL (7 : Fin 8) (ready.modCan (7 : Fin 8) fun q => { q with tx := some (0, [1]) })),
    by decide +kernel⟩

theorem test_CanControllers_meets_14 : ∃ (m : Fin 8) (c : Fin 8) (s : State),
    let u := s.meets m .CAN_CTRL c;
    s.mayWrite m .CAN_CTRL c = true ∧ ((u.can c).tx.any fun e => e.1 == 1) = false :=
  ⟨2, 7, (keyed .CAN_CTRL (7 : Fin 8) ((ready.setFld Q_TAIL_INDEX 23 65535).setFlag Q_GEOM_EN 23 true)),
    by decide +kernel⟩

theorem test_CanControllers_meets_15 : ∃ (m : Fin 8) (c : Fin 8) (s : State),
    let u := s.meets m .CAN_CTRL c;
    s.mayWrite m .CAN_CTRL c = true ∧ ((u.can c).tx.any fun e => e.1 == 1) = true :=
  ⟨2, 7, (keyed .CAN_CTRL (7 : Fin 8) (ready.modCan (7 : Fin 8) fun q => { q with tx := some (1, [1]) })),
    by decide +kernel⟩

theorem test_CanControllers_meets_16 : ∃ (m : Fin 8) (c : Fin 8) (s : State), s.mayWrite m .CAN_CTRL c = true :=
  ⟨2, 7, (keyed .CAN_CTRL (7 : Fin 8) ((ready.put .CAN_CNT_TX (7 : Fin 8) 9).put .CAN_CNT_ERR (7 : Fin 8) 8)),
    by decide +kernel⟩

theorem test_CanTransmission_meets_1 : ∃ (c : Fin 8) (x : List Word) (y : List Word) (s : State),
    let u := s.met;
    u.deaf = false ∧ u.canEn c = true ∧ (u.canState c = 2 ∨ u.canState c = 3) ∧ u.canMode c ≠ 1 ∧
      (u.can c).tx = none ∧ (u.can c).leave = false ∧ (u.can c).retry = none ∧ u.fifoHead c 0 = some x ∧
        u.elemBad c x = false ∧ u.fifoHead c 1 = some y ∧ u.elemBad c y = false :=
  ⟨7, (0x100#32 :: List.replicate 19 0#32), (0x0FF#32 :: List.replicate 19 0#32), (((ready.setFlag CAN_CFG_EN (7 :
    Fin 8) true).setFld CAN_STAT_STATE (7 : Fin 8) 2).put .CAN_EVT_MASK (7 : Fin 8) 0xFFFF) |>.put .Q_BASE 22
      0x01218000 |>.setFld Q_TAIL_INDEX 22 1 |>.setFlag Q_GEOM_EN 22 true |>.wrWord 0x01218000 0x100 |>.put .Q_BASE
        23 0x01228000 |>.setFld Q_TAIL_INDEX 23 1 |>.setFlag Q_GEOM_EN 23 true |>.wrWord 0x01228000 0x0FF,
          by decide +kernel⟩

theorem test_CanTransmission_meets_2 : ∃ (c : Fin 8) (x : List Word) (y : List Word) (s : State),
    let u := s.met;
    u.deaf = false ∧ u.canEn c = true ∧ (u.canState c = 2 ∨ u.canState c = 3) ∧ u.canMode c ≠ 1 ∧
      (u.can c).tx = none ∧ (u.can c).leave = false ∧ (u.can c).retry = some 0 ∧ u.fifoHead c 0 = some x ∧
        u.elemBad c x = false ∧ u.fifoHead c 1 = some y ∧ u.elemBad c y = false :=
  ⟨7, (0x100#32 :: List.replicate 19 0#32), (0x0FF#32 :: List.replicate 19 0#32), ((((ready.setFlag CAN_CFG_EN (7 :
    Fin 8) true).setFld CAN_STAT_STATE (7 : Fin 8) 2).put .CAN_EVT_MASK (7 : Fin 8) 0xFFFF) |>.put .Q_BASE 22
      0x01218000 |>.setFld Q_TAIL_INDEX 22 1 |>.setFlag Q_GEOM_EN 22 true |>.wrWord 0x01218000 0x100 |>.put .Q_BASE
        23 0x01228000 |>.setFld Q_TAIL_INDEX 23 1 |>.setFlag Q_GEOM_EN 23 true |>.wrWord 0x01228000 0x0FF).modCan 7
          fun q => { q with retry := some 0 }, by decide +kernel⟩

theorem test_CanTransmission_meets_3 : ∃ (c : Fin 8) (x : List Word) (s : State),
    let u := s.met;
    u.deaf = false ∧ u.canEn c = true ∧ (u.canState c = 2 ∨ u.canState c = 3) ∧ u.canMode c ≠ 1 ∧
      (u.can c).tx = none ∧ (u.can c).leave = false ∧ u.fifoHead c 0 = some x ∧ u.elemBad c x = true ∧
        u.qFill (8 + 2 * c) = 1 ∧ u.qFill (9 + 2 * c) = 0 ∧ (u.can c).retry = none :=
  ⟨7, (0x40000100#32 :: List.replicate 19 0#32), (((ready.setFlag CAN_CFG_EN (7 : Fin 8) true).setFld CAN_STAT_STATE
    (7 : Fin 8) 2).put .CAN_EVT_MASK (7 : Fin 8) 0xFFFF) |>.put .Q_BASE 22 0x01218000 |>.setFld Q_TAIL_INDEX 22 1
      |>.setFlag Q_GEOM_EN 22 true |>.wrWord 0x01218000 0x40000100, by decide +kernel⟩

theorem test_CanTransmission_meets_4 : ∃ (c : Fin 8) (x : List Word) (s : State),
    let u := s.met;
    u.deaf = false ∧ u.canEn c = true ∧ (u.canState c = 2 ∨ u.canState c = 3) ∧ u.canMode c ≠ 1 ∧
      (u.can c).tx = none ∧ (u.can c).leave = false ∧ u.fifoHead c 0 = some x ∧ u.elemBad c x = false ∧
        u.fifoHead c 1 = none :=
  ⟨7, (0x100#32 :: List.replicate 19 0#32), (((ready.setFlag CAN_CFG_EN (7 : Fin 8) true).setFld CAN_STAT_STATE (7 :
    Fin 8) 2).put .CAN_EVT_MASK (7 : Fin 8) 0xFFFF) |>.put .Q_BASE 22 0x01218000 |>.setFld Q_TAIL_INDEX 22 1
      |>.setFlag Q_GEOM_EN 22 true |>.wrWord 0x01218000 0x100, by decide +kernel⟩

theorem test_CanTransmission_meets_5 : ∃ (c : Fin 8) (y : List Word) (s : State),
    let u := s.met;
    u.deaf = false ∧ u.canEn c = true ∧ (u.canState c = 2 ∨ u.canState c = 3) ∧ u.canMode c ≠ 1 ∧
      (u.can c).tx = none ∧ (u.can c).leave = false ∧ u.fifoHead c 1 = some y ∧ u.elemBad c y = false ∧
        u.fifoHead c 0 = none :=
  ⟨7, (0x0FF#32 :: List.replicate 19 0#32), (((ready.setFlag CAN_CFG_EN (7 : Fin 8) true).setFld CAN_STAT_STATE (7 :
    Fin 8) 2).put .CAN_EVT_MASK (7 : Fin 8) 0xFFFF) |>.put .Q_BASE 23 0x01228000 |>.setFld Q_TAIL_INDEX 23 1
      |>.setFlag Q_GEOM_EN 23 true |>.wrWord 0x01228000 0x0FF, by decide +kernel⟩

theorem test_CanTransmission_meets_6 : ∃ (c : Fin 8) (s : State),
    let u := s.met;
    u.deaf = false ∧ (u.can c).tx = none ∧ (u.can c).leave = true :=
  ⟨7, ((ready.setFld CAN_STAT_STATE (7 : Fin 8) 2).setFld CAN_STAT_ACT (7 : Fin 8) 1).modCan (7 : Fin 8) fun q =>
    { q with leave := true }, by decide +kernel⟩

theorem test_CanTransmission_meets_7 : ∃ (c : Fin 8) (s : State),
    let u := s.met;
    (u.canEn c = false ∨ u.canMode c = 1) ∧ (u.can c).leave = false ∨ (u.can c).tx ≠ none ∨ u.inReplay = true :=
  ⟨7, ready, by decide +kernel⟩

theorem test_CanTransmission_meets_8 : ∃ (c : Fin 8) (f : Fin 2) (e : List Word) (s : State),
    let u := s.met;
    u.deaf = false ∧ (u.can c).tx = some (f.val, e) ∧ u.fld AX_YAW_CAN_CTRL 0 ≠ c ∧ (u.can c).flushA = false ∧
      (u.can c).flushB = false ∧ (u.can c).leave = false :=
  ⟨7, 1, [0x123, 0x00050000], ((((ready.setFlag CAN_CFG_EN (7 : Fin 8) true).setFld CAN_STAT_STATE (7 : Fin 8) 2).put
    .CAN_EVT_MASK (7 : Fin 8) 0xFFFF).modCan (7 : Fin 8) fun q =>
      { q with tx := some (1, [0x123, 0x00050000]) }).setFld AX_YAW_CAN_CTRL 0 6 |>.setFld CAN_ERR_TEC 7 9 |>.put
        .Q_BASE 23 0x01228000 |>.setFld Q_TAIL_INDEX 23 1 |>.setFlag Q_GEOM_EN 23 true |>.wrWord 0x01228000 0x123,
          by decide +kernel⟩

theorem test_CanTransmission_meets_9 : ∃ (c : Fin 8) (f : Fin 2) (e : List Word) (s : State),
    let u := s.met;
    u.deaf = false ∧ (u.can c).tx = some (f.val, e) ∧ (u.flag CAN_CFG_TXECHO c = true ∨ u.canMode c = 2) ∧
      u.fld AX_YAW_CAN_CTRL 0 ≠ c ∧ (u.can c).flushA = false ∧ (u.can c).flushB = false ∧ (u.can c).leave = false :=
  ⟨7, 1, [0x123, 0x00050000], ((((ready.setFlag CAN_CFG_EN (7 : Fin 8) true).setFld CAN_STAT_STATE (7 : Fin 8) 2).put
    .CAN_EVT_MASK (7 : Fin 8) 0xFFFF).modCan (7 : Fin 8) fun q =>
      { q with tx := some (1, [0x123, 0x00050000]) }).setFld AX_YAW_CAN_CTRL 0 6 |>.setFlag CAN_CFG_TXECHO 7 true,
        by decide +kernel⟩

theorem test_CanTransmission_meets_10 : ∃ (c : Fin 8) (s : State),
    let u := s.met;
    (u.can c).tx = none :=
  ⟨7, ready, by decide +kernel⟩

theorem test_CanTransmission_meets_11 : ∃ (c : Fin 8) (x : CanErrIn) (f : Nat) (e : List Word) (s : State),
    let u := s.met;
    u.deaf = false ∧ u.canEn c = true ∧ (u.can c).tx = some (f, e) ∧ x.ext = false ∧ u.canState c = 2 ∧
      u.fld CAN_ERR_TEC c + 8 ≤ 255 ∧ (u.can c).flushA = false ∧ (u.can c).flushB = false ∧ (u.can c).leave = false :=
  ⟨7, { delay := some 5 }, 1, [0xA0000123, 0x00050010], ((((ready.setFlag CAN_CFG_EN (7 : Fin 8) true).setFld
    CAN_STAT_STATE (7 : Fin 8) 2).put .CAN_EVT_MASK (7 : Fin 8) 0xFFFF).modCan (7 : Fin 8) fun q =>
      { q with tx := some (1, [0xA0000123, 0x00050010]) }).setFld CAN_ERR_TEC 7 247, by decide +kernel⟩

theorem test_CanTransmission_meets_12 : ∃ (c : Fin 8) (k : Fin 8) (x : CanErrIn) (f : Nat) (e : List Word) (s :
  State),
    let u := s.met;
    u.deaf = false ∧ u.canEn c = true ∧ (u.can c).tx = some (f, e) ∧ x.ext = true ∧ (k = 1 ∧
      2 ≤ u.canState c ∨ k = 3 ∧ u.canState c = 3) ∧ u.fld CAN_ERR_TEC c ≤ 255 ∧ (u.can c).flushA = false ∧
        (u.can c).flushB = false ∧ (u.can c).leave = false :=
  ⟨7, 1, { ext := true }, 1, [0xA0000123, 0x00050010], (((ready.setFlag CAN_CFG_EN (7 : Fin 8) true).setFld
    CAN_STAT_STATE (7 : Fin 8) 2).put .CAN_EVT_MASK (7 : Fin 8) 0xFFFF).modCan (7 : Fin 8) fun q =>
      { q with tx := some (1, [0xA0000123, 0x00050010]) }, by decide +kernel⟩

theorem test_CanTransmission_meets_13 : ∃ (c : Fin 8) (x : CanErrIn) (f : Nat) (e : List Word) (s : State),
    let u := s.met;
    u.deaf = false ∧ u.canEn c = true ∧ (u.can c).tx = some (f, e) ∧ x.ext = false ∧
      (u.canState c = 2 ∨ u.canState c = 3 ∨ u.canState c = 4) ∧ 255 < u.fld CAN_ERR_TEC c + 8 ∧
        (u.can c).flushA = false ∧ (u.can c).flushB = false ∧ (u.can c).leave = false :=
  ⟨7, {}, 1, [0xA0000123, 0x00050010], ((((ready.setFlag CAN_CFG_EN (7 : Fin 8) true).setFld CAN_STAT_STATE (7 : Fin
    8) 3).put .CAN_EVT_MASK (7 : Fin 8) 0xFFFF).modCan (7 : Fin 8) fun q =>
      { q with tx := some (1, [0xA0000123, 0x00050010]) }).setFld CAN_ERR_TEC 7 248, by decide +kernel⟩

theorem test_CanTransmission_meets_14 : ∃ (c : Fin 8) (s : State),
    let u := s.met;
    u.deaf = false ∧ u.canEn c = true ∧ 2 ≤ u.canState c ∧ (u.can c).tx = none ∧ u.fld CAN_ERR_TEC c ≤ 255 ∧
      (u.can c).flushA = false ∧ (u.can c).flushB = false ∧ (u.can c).leave = false :=
  ⟨7, (((ready.setFlag CAN_CFG_EN (7 : Fin 8) true).setFld CAN_STAT_STATE (7 : Fin 8) 2).put .CAN_EVT_MASK (7 : Fin
    8) 0xFFFF).setFld CAN_ERR_REC (7 : Fin 8) 250, by decide +kernel⟩

theorem test_CanTransmission_meets_15 : ∃ (c : Fin 8) (k : Fin 8) (f : Nat) (e : List Word) (s : State),
    let u := s.met;
    u.deaf = false ∧ u.canEn c = true ∧ (k = 4 ∨ k = 5) ∧ 2 ≤ u.canState c ∧ (u.can c).tx = some (f, e) ∧
      u.fld CAN_ERR_TEC c ≤ 247 ∧ (u.can c).flushA = false ∧ (u.can c).flushB = false ∧ (u.can c).leave = false :=
  ⟨7, 4, 1, [0x20000123, 0x00050000], (((ready.setFlag CAN_CFG_EN (7 : Fin 8) true).setFld CAN_STAT_STATE (7 : Fin 8)
    2).put .CAN_EVT_MASK (7 : Fin 8) 0xFFFF).modCan (7 : Fin 8) fun q =>
      { q with tx := some (1, [0x20000123, 0x00050000]) }, by decide +kernel⟩

theorem test_CanTransmission_meets_16 : ∃ (c : Fin 8) (k : Fin 8) (s : State),
    let u := s.met;
    u.deaf = false ∧ u.canEn c = true ∧ k ≠ 4 ∧ k ≠ 5 ∧ 2 ≤ u.canState c ∧ u.fld CAN_ERR_TEC c ≤ 247 ∧
      (u.can c).flushA = false ∧ (u.can c).flushB = false ∧ (u.can c).leave = false :=
  ⟨7, 1, ((ready.setFlag CAN_CFG_EN (7 : Fin 8) true).setFld CAN_STAT_STATE (7 : Fin 8) 2).put .CAN_EVT_MASK (7 : Fin
    8) 0xFFFF, by decide +kernel⟩

theorem test_CanTransmission_meets_17 : ∃ (c : Fin 8) (s : State),
    let u := s.met;
    u.canOn c = false ∨ u.canState c < 2 :=
  ⟨7, ready, by decide +kernel⟩

theorem test_SerialBuses_meets_1 : ∃ (b : Fin 4) (e : Fin 64) (s : State),
    let u := s.begin';
    u.sbEn b = true ∧ u.flag SB_PE_CFG_EN (64 * b.val + e.val) = true ∧
      u.fld SB_PE_CFG_PERIOD (64 * b.val + e.val) ≠ 0 ∧
        u.tick % (1000 * u.fld SB_PE_CFG_PERIOD (64 * b.val + e.val)) = 0 ∧
          ((u.sb b).perTick ≠ u.tick ∨ (u.sb b).per.contains e.val = false) ∧ (u.sb b).due.contains e.val = false :=
  ⟨3, 63, ((((ready.setFlag SB_CFG_EN 3 true).put .SB_EVT_MASK 3 0xFF).setFlag SB_PE_CFG_EN 255 true).setFld
    SB_PE_CFG_PERIOD 255 1), by decide +kernel⟩

theorem test_SerialBuses_meets_2 : ∃ (b : Fin 4) (e : Fin 64) (s : State),
    let u := s.begin';
    u.sbEn b = true ∧ u.flag SB_PE_CFG_EN (64 * b.val + e.val) = true ∧
      u.fld SB_PE_CFG_PERIOD (64 * b.val + e.val) ≠ 0 ∧
        u.tick % (1000 * u.fld SB_PE_CFG_PERIOD (64 * b.val + e.val)) = 0 ∧
          ((u.sb b).perTick ≠ u.tick ∨ (u.sb b).per.contains e.val = false) ∧ (u.sb b).due.contains e.val = true :=
  ⟨3, 63, (((((ready.setFlag SB_CFG_EN 3 true).put .SB_EVT_MASK 3 0xFF).setFlag SB_PE_CFG_EN 255 true).setFld
    SB_PE_CFG_PERIOD 255 1)).modSb 3 fun q => { q with due := [5, 63] }, by decide +kernel⟩

theorem test_SerialBuses_meets_3 : ∃ (b : Fin 4) (e : Fin 64) (s : State),
    let u := s.begin';
    u.sbEn b = false ∨ u.flag SB_PE_CFG_EN (64 * b.val + e.val) = false ∨ u.fld SB_PE_CFG_PERIOD (64 * b.val + e.val)
      = 0 ∨ u.tick % (1000 * u.fld SB_PE_CFG_PERIOD (64 * b.val + e.val)) ≠ 0 :=
  ⟨3, 63, ready, by decide +kernel⟩

theorem test_SerialBuses_meets_4 : ∃ (m : Fin 8) (b : Fin 4) (hi : Bool) (s : State),
    let u := s.meets m (trigReg hi) b;
    s.mayWrite m (trigReg hi) b = true ∧ u.sbEn b = true :=
  ⟨2, 3, true, (keyed (trigReg (true : Bool)) (3 : Fin 4) ((((((ready.setFlag SB_CFG_EN 3 true).put .SB_EVT_MASK 3
    0xFF).setFlag SB_PE_CFG_EN 255 true).setFld SB_PE_CFG_PERIOD 255 1)).modSb 3 fun q => { q with due := [5] })),
      by decide +kernel⟩

theorem test_SerialBuses_meets_5 : ∃ (m : Fin 8) (b : Fin 4) (hi : Bool) (s : State),
    let u := s.meets m (trigReg hi) b;
    s.mayWrite m (trigReg hi) b = true ∧ u.sbEn b = false :=
  ⟨2, 3, true, (keyed (trigReg (true : Bool)) (3 : Fin 4) (ready)), by decide +kernel⟩

theorem test_SerialBuses_meets_6 : ∃ (b : Fin 4) (e : Fin 64) (s : State),
    let u := s.begin';
    (u.sbEn b = true ∧ (u.sb b).tx = none ∧ (∀ k, (u.sb b).endT = some k →
      k + u.fld SB_TIME_MIN_GAP b * u.fld SB_BAUD_DIV b ≤ u.Tn) ∧ (u.sb b).due.contains e.val = true ∧
        u.flag SB_PE_CFG_EN (64 * b.val + e.val) = true ∧ (∀ k : Fin 64, k < e →
          (u.sb b).due.contains k.val = false ∨ u.flag SB_PE_CFG_EN (64 * b.val + k.val) = false)) :=
  ⟨3, 63, (((((ready.setFlag SB_CFG_EN 3 true).put .SB_EVT_MASK 3 0xFF).setFlag SB_PE_CFG_EN 255 true).setFld
    SB_PE_CFG_PERIOD 255 1)).modSb 3 fun q => { q with due := [63, 5] }, by decide +kernel⟩

theorem test_SerialBuses_meets_7 : ∃ (b : Fin 4) (s : State),
    let u := s.begin';
    u.sbEn b = false ∨ (u.sb b).tx ≠ none ∨ (u.sb b).due = [] :=
  ⟨3, ready, by decide +kernel⟩

theorem test_SerialBuses_meets_8 : ∃ (b : Fin 4) (x : SbTx) (s : State),
    let u := s.met;
    (u.sb b).tx = some x ∧ x.off = false ∧ x.offT < u.Tn :=
  ⟨3, { entry := 63, onT := 1000000, offT := 1900000, cfg := 0x1, wait := 5, off := false }, (((((ready.setFlag
    SB_CFG_EN 3 true).put .SB_EVT_MASK 3 0xFF).setFlag SB_PE_CFG_EN 255 true).setFld SB_PE_CFG_PERIOD 255 1)).modSb 3
      fun q =>
        { q with tx := some { entry := 63, onT := 1000000, offT := 1900000, cfg := 0x1, wait := 5, off := false } },
          by decide +kernel⟩

theorem test_SerialBuses_meets_9 : ∃ (b : Fin 4) (s : State),
    let u := s.met;
    (u.sb b).tx = none :=
  ⟨3, ready, by decide +kernel⟩

theorem test_SerialBuses_meets_10 : ∃ (b : Fin 4) (o : Fin 2000) (k : Nat) (d : List Byte) (x : SbTx) (s : State),
    let u := s.met;
    u.deaf = false ∧ (u.sb b).tx = some x ∧ x.off = true ∧ k ≤ 20000 * x.wait ∧ d ≠ [] ∧
      d.length ≤ bitsOf x.cfg 15 8 + (if bitAt x.cfg 2 then 1 else 0) ∧
        State.sbEndsAt x d.length k (u.clk o) = true :=
  ⟨3, 1999, 400, [7, 9],
    { entry := 63, onT := 1000000, gap := 3, bit := 1736, char := 17360, offT := 1966879, cfg := 0x201, wait := 5, off := true }, (((((((ready.setFlag SB_CFG_EN 3 true).put .SB_EVT_MASK 3 0xFF).setFlag SB_PE_CFG_EN 255 true).setFld SB_PE_CFG_PERIOD 255 1)).modSb 3 fun q => { q with tx := some { entry := 63, onT := 1000000, gap := 3, bit := 1736, char := 17360, offT := 1966879, cfg := 0x201, wait := 5, off := true } }).setFlag DP_SE_CFG_EN 31 true).setFld DP_SE_CFG_SB 31 3 |>.setFld DP_SE_CFG_POLL 31 63 |>.setFld DP_SE_CFG_OFS 31 1 |>.setFld DP_SE_CFG_LEN 31 0 |>.put .DP_SE_K 31 0x40000000, by decide +kernel⟩

theorem test_SerialBuses_meets_11 : ∃ (b : Fin 4) (o : Fin 2000) (k : Nat) (d : List Byte) (x : SbTx) (s : State),
    let u := s.met;
    (u.sb b).tx = some x ∧ State.sbEndsAt x d.length k (u.clk o) = false :=
  ⟨3, 1999, 401, [7, 9],
    { entry := 63, onT := 1000000, gap := 3, bit := 1736, char := 17360, offT := 1966879, cfg := 0x201, wait := 5, off := true }, (((((ready.setFlag SB_CFG_EN 3 true).put .SB_EVT_MASK 3 0xFF).setFlag SB_PE_CFG_EN 255 true).setFld SB_PE_CFG_PERIOD 255 1)).modSb 3 fun q => { q with tx := some { entry := 63, onT := 1000000, gap := 3, bit := 1736, char := 17360, offT := 1966879, cfg := 0x201, wait := 5, off := true } }, by decide +kernel⟩

theorem test_SerialBuses_meets_12 : ∃ n : Nat, n ≤ 1 :=
  ⟨1, by decide⟩

theorem test_SerialBuses_meets_13 : ∃ (b : Fin 4) (d : List Byte) (s : State),
    let u := s.met;
    (u.sb b).tx = none ∨ d = [] :=
  ⟨3, [1], ready, by decide +kernel⟩

theorem test_SerialBuses_meets_14 : ∃ (b : Fin 4) (x : SbTx) (s : State),
    let u := s.met;
    u.inReplay = false ∧ (u.sb b).tx = some x ∧ x.off = true ∧ x.offT + 20000 * x.wait < u.Tn :=
  ⟨3, { entry := 63, onT := 1000000, offT := 1900000, cfg := 0x201, wait := 5, off := true },
    ({ ((((((ready.setFlag SB_CFG_EN 3 true).put .SB_EVT_MASK 3 0xFF).setFlag SB_PE_CFG_EN 255 true).setFld SB_PE_CFG_PERIOD 255 1)).modSb 3 fun q => { q with tx := some { entry := 63, onT := 1000000, offT := 1900000, cfg := 0x201, wait := 5, off := true } }) with tick := 1050 } : State), by decide +kernel⟩

theorem test_SerialBuses_meets_15 : ∃ (b : Fin 4) (s : State),
    let u := s.met;
    (u.sb b).tx = none :=
  ⟨3, ready, by decide +kernel⟩

theorem test_SerialBuses_meets_16 : ∃ (b : Fin 4) (s : State),
    let u := s.met;
    u.deaf = false ∧ u.sbEn b = true ∧ ((u.sb b).tx.any (·.off)) = false ∧ u.flag SB_STAT_DRIVING b = false :=
  ⟨3, ((((ready.setFlag SB_CFG_EN 3 true).put .SB_EVT_MASK 3 0xFF).setFlag SB_PE_CFG_EN 255 true).setFld
    SB_PE_CFG_PERIOD 255 1), by decide +kernel⟩

theorem test_SerialBuses_meets_17 : ∃ (b : Fin 4) (s : State),
    let u := s.met;
    u.sbEn b = false ∨ u.flag SB_STAT_DRIVING b = true :=
  ⟨3, ready, by decide +kernel⟩

theorem test_SerialBuses_meets_18 : ∃ (m : Fin 8) (b : Fin 4) (s : State), s.mayWrite m .SB_CTRL b = true :=
  ⟨2, 3, (keyed .SB_CTRL (3 : Fin 4) ((ready.put .SB_CNT 3 5).put .SB_CNT2 3 9)), by decide +kernel⟩

theorem test_QueueCommands_meets_1 : ∃ (m : Fin 8) (q : Fin 48) (v : Word) (s : State),
    let u := s.meets m .Q_GEOM q;
    s.mayWrite m .Q_GEOM q = true ∧ u.flag Q_GEOM_EN q = false ∧
      ((u.put .Q_GEOM q (u.qGeomWord q (u.merged m .Q_GEOM q (v ||| 1#32)))).qReason q) = 0 :=
  ⟨2, 47, 0x30000, (keyed .Q_GEOM (47 : Fin 48) ((ready.put .Q_BASE 47 0x01200000).put .Q_HEAD 47 5)),
    by decide +kernel⟩

theorem test_QueueCommands_meets_2 : ∃ (m : Fin 8) (q : Fin 48) (v : Word) (s : State),
    let u := s.meets m .Q_GEOM q;
    s.mayWrite m .Q_GEOM q = true ∧ u.flag Q_GEOM_EN q = false ∧
      ((u.put .Q_GEOM q (u.qGeomWord q (u.merged m .Q_GEOM q (v ||| 1#32)))).qReason q) ≠ 0 :=
  ⟨2, 47, 0x30000, (keyed .Q_GEOM (47 : Fin 48) ((ready.put .Q_BASE 47 0x01178000))), by decide +kernel⟩

theorem test_QueueCommands_meets_3 : ∃ (m : Fin 8) (q : Fin 48) (v : Word) (s : State),
    let u := s.meets m .Q_TAIL q;
    s.mayWrite m .Q_TAIL q = true ∧ u.qTailErr q v = false ∧
      ((bitsOf v 15 0 + 65536 - u.qTail q) % 65536) ≤ (u.qN q - u.qFill q) :=
  ⟨2, 30, 4, (keyed .Q_TAIL (30 : Fin 48) ((((ready.setFlag Q_GEOM_EN 30 true)).setFld Q_GEOM_LOG2N 30 2))),
    by decide +kernel⟩

theorem test_QueueCommands_meets_4 : ∃ (m : Fin 8) (q : Fin 48) (v : Word) (s : State),
    let u := s.meets m .Q_TAIL q;
    s.mayWrite m .Q_TAIL q = true ∧ u.qTailErr q v = false ∧ u.qFill q ≤ u.qN q ∧
      (u.qN q - u.qFill q) < ((bitsOf v 15 0 + 65536 - u.qTail q) % 65536) :=
  ⟨2, 30, 9, (keyed .Q_TAIL (30 : Fin 48) ((((ready.setFlag Q_GEOM_EN 30 true)).setFld Q_GEOM_LOG2N 30 2).setFld
    Q_HEAD_INDEX 30 1 |>.setFld Q_TAIL_INDEX 30 2)), by decide +kernel⟩

theorem test_QueueCommands_meets_5 : ∃ (m : Fin 8) (q : Fin 48) (s : State),
    let u := s.meets m .Q_TAIL q;
    s.mayWrite m .Q_TAIL q = true ∧ (u.flag Q_GEOM_EN q = false ∨ State.qHwProd q = true) :=
  ⟨2, 0, (keyed .Q_TAIL (0 : Fin 48) ((ready.setFlag Q_GEOM_EN 0 true))), by decide +kernel⟩

theorem test_QueueCommands_meets_6 : ∃ (m : Fin 8) (q : Fin 48) (v : Word) (s : State),
    let u := s.meets m .Q_HEAD q;
    s.mayWrite m .Q_HEAD q = true ∧ u.qHeadErr q v = false :=
  ⟨2, 38, 1, (keyed .Q_HEAD (38 : Fin 48) ((((ready.setFlag Q_GEOM_EN 38 true)).setFld Q_TAIL_INDEX 38 1))),
    by decide +kernel⟩

theorem test_QueueCommands_meets_7 : ∃ (m : Fin 8) (q : Fin 48) (s : State),
    let u := s.meets m .Q_HEAD q;
    s.mayWrite m .Q_HEAD q = true ∧ (u.flag Q_GEOM_EN q = false ∨ State.qHwCons q = true) :=
  ⟨2, 8, (keyed .Q_HEAD (8 : Fin 48) ((ready.setFlag Q_GEOM_EN 8 true))), by decide +kernel⟩

theorem test_QueueCommands_meets_8 : ∃ (m : Fin 8) (q : Fin 48) (s : State),
    let u := s.meets m .Q_CTRL q;
    s.mayWrite m .Q_CTRL q = true ∧ ((8 ≤ q.val ∧ q.val ≤ 23 → (u.can ((q.val - 8) / 2)).tx = none)) :=
  ⟨2, 23, (keyed .Q_CTRL (23 : Fin 48) (((ready.setFlag Q_GEOM_EN 23 true)).setFld Q_TAIL_INDEX 23 65535)),
    by decide +kernel⟩

theorem test_QueueCommands_meets_9 : ∃ (m : Fin 8) (q : Fin 48) (s : State), s.mayWrite m .Q_CTRL q = true :=
  ⟨2, 47, (keyed .Q_CTRL (47 : Fin 48) ((ready.put .Q_CNT 47 9).setFlag Q_STAT_OVF 47 true)), by decide +kernel⟩

theorem test_QueueCommands_meets_10 : ∃ (i : Fin 4) (e : List Word) (ad : Word) (v : Word) (s : State),
    let u := s.begin';
    s.begin'.cmdReady i = true ∧ s.begin'.cmdHead i = e ∧ s.begin'.rpCarries i = false ∧
      bitsOf (e.headD 0#32) 31 28 = 1 ∧ bitsOf (e.headD 0#32) 23 16 = 1 ∧ (e.drop 2).take 2 = [ad, v] ∧
        ad.toNat % 4 = 0 ∧ memWritable ad.toNat = true ∧ u.served = true ∧ u.failsafe = false ∧
          (u.fld Q_GEOM_OWNER (30 + i.val)) < 7 ∧ u.frozen (u.fld Q_GEOM_OWNER (30 + i.val)) = false ∧
            2 ≤ u.memRight (u.fld Q_GEOM_OWNER (30 + i.val)) ad.toNat :=
  ⟨3, (0x10010000#32 :: 0#32 :: 0x01300004#32 :: 0x89ABCDEF#32 :: List.replicate 28 0#32), 0x01300004, 0x89ABCDEF,
    ((((((ready.setFlag Q_GEOM_EN 33 true).put .Q_BASE 33 0x01200000).setFld Q_TAIL_INDEX 33 1).wrWord 0x01200000
      0x10010000).wrWord 0x01200008 0x01300004).wrWord 0x0120000C 0x89ABCDEF).setFld PR_OWNER_OWNER 0 5 |>.setFld
        Q_GEOM_OWNER 33 5, by decide +kernel⟩

theorem test_QueueCommands_meets_11 : ∃ (i : Fin 4) (e : List Word) (s : State), s.begin'.cmdReady i = true ∧
  s.begin'.cmdHead i = e ∧ bitsOf (e.headD 0#32) 31 28 ≠ 2 ∧
    (bitsOf (e.headD 0#32) 31 28 ≠ 1 ∨ bitsOf (e.headD 0#32) 23 16 = 0 ∨ 15 < bitsOf (e.headD 0#32) 23 16) :=
  ⟨3, (0x30010000#32 :: 0#32 :: 0x01300004#32 :: 0x89ABCDEF#32 :: List.replicate 28 0#32), (((((ready.setFlag
    Q_GEOM_EN 33 true).put .Q_BASE 33 0x01200000).setFld Q_TAIL_INDEX 33 1).wrWord 0x01200000 0x30010000).wrWord
      0x01200008 0x01300004).wrWord 0x0120000C 0x89ABCDEF, by decide +kernel⟩

theorem test_QueueCommands_meets_12 : ∃ (i : Fin 4) (s : State),
    let u := s.begin';
    u.cmdReady i = false :=
  ⟨3, ready, by decide +kernel⟩

theorem test_QueueCommands_meets_13 : ∃ (i : Fin 4) (e : List Word) (s : State),
    let u := s.begin';
    u.cmdHead i = e ∧ bitsOf (e.headD 0#32) 31 28 = 2 ∧ u.rpCarries i = true ∧ u.served = true ∧
      u.flag Q_GEOM_EN (30 + i.val) = true ∧ u.qFill (30 + i.val) ≠ 0 ∧
        ((SMap.get {} u.replay.qs i.val : RpQueue).tick ≠ u.tick + 1 ∨ (SMap.get {} u.replay.qs i.val : RpQueue).n <
          16) :=
  ⟨3, (0x20000000#32 :: 0x200#32 :: 0x01300004#32 :: 0x89ABCDEF#32 :: List.replicate 28 0#32), ((((((((ready.setFlag
    Q_GEOM_EN 33 true).put .Q_BASE 33 0x01200000).setFld Q_TAIL_INDEX 33 1).wrWord 0x01200000 0x20000000).wrWord
      0x01200008 0x01300004).wrWord 0x0120000C 0x89ABCDEF).wrWord 0x01200004 0x200).setFld MOD_STAT_RMODE 0
        2).setRbit .RP_CFG 0 3 true, by decide +kernel⟩

theorem test_QueueCommands_meets_14 : ∃ (i : Fin 4) (e : List Word) (s : State), s.begin'.cmdReady i = true ∧
  s.begin'.cmdHead i = e ∧ s.begin'.rpCarries i = false ∧ bitsOf (e.headD 0#32) 31 28 = 2 :=
  ⟨3, (0x20010000#32 :: 0#32 :: 0x01300004#32 :: 0x89ABCDEF#32 :: List.replicate 28 0#32), (((((ready.setFlag
    Q_GEOM_EN 33 true).put .Q_BASE 33 0x01200000).setFld Q_TAIL_INDEX 33 1).wrWord 0x01200000 0x20010000).wrWord
      0x01200008 0x01300004).wrWord 0x0120000C 0x89ABCDEF, by decide +kernel⟩

theorem test_QueueCommands_meets_15 : ∃ (i : Fin 4) (s : State),
    let u := s.begin';
    bitsOf ((u.cmdHead i).headD 0#32) 31 28 ≠ 2 :=
  ⟨3, ready, by decide +kernel⟩

theorem test_ZhaRequests_meets_1 : ∃ (f : ZhaFrame) (i : Fin 4) (n : Nat) (ad : Nat) (s : State),
    let u := s.begin';
    State.zhaType f = 1 ∧ u.portUp f.port = true ∧ u.otherPort f = false ∧ u.zhaTest f = .accept ∧
      State.byte1 f.payload 4 = i.val ∧ u.served = true ∧ u.failsafe = false ∧ u.frozen (2 + i.val) = false ∧
        (State.zhaBody f).length = 8 ∧ 1 ≤ n ∧ n ≤ 256 ∧ (State.word4 (State.zhaBody f) 4) = BitVec.ofNat 32 n ∧
          ad % 4 = 0 ∧ (State.word4 (State.zhaBody f) 0) = BitVec.ofNat 32 ad ∧ ((∀ k, k < n →
            (inSram (ad + 4 * k) || inMram (ad + 4 * k)) = true ∧ 1 ≤ u.memRight (2 + i.val) (ad + 4 * k))) :=
  ⟨(request 1 1 (wordBytes 0x01300000#32 ++ wordBytes 2#32)), 3, 2, 0x01300000, linked.setFld PR_OWNER_OWNER 0 5
    |>.wrWord 0x01300004 0x89ABCDEF, by decide +kernel⟩

theorem test_ZhaRequests_meets_2 : ∃ (f : ZhaFrame) (i : Fin 4) (n : Nat) (ad : Nat) (s : State),
    let u := s.begin';
    State.zhaType f = 2 ∧ u.portUp f.port = true ∧ u.otherPort f = false ∧ u.zhaTest f = .accept ∧
      State.byte1 f.payload 4 = i.val ∧ u.served = true ∧ u.failsafe = false ∧ u.frozen (2 + i.val) = false ∧
        (State.zhaBody f).length = 8 + 4 * n ∧ 1 ≤ n ∧ n ≤ 256 ∧
          (State.word4 (State.zhaBody f) 4) = BitVec.ofNat 32 n ∧ ad % 4 = 0 ∧
            (State.word4 (State.zhaBody f) 0) = BitVec.ofNat 32 ad ∧ ((∀ k, k < n → memWritable (ad + 4 * k) = true ∧
              2 ≤ u.memRight (2 + i.val) (ad + 4 * k))) :=
  ⟨(request 2 1 (wordBytes 0x01300000#32 ++ wordBytes 2#32 ++ wordBytes 7#32 ++ wordBytes 0x89ABCDEF#32)), 3, 2,
    0x01300000, linked.setFld PR_OWNER_OWNER 0 5, by decide +kernel⟩

theorem test_ZhaRequests_meets_3 : ∃ (f : ZhaFrame) (i : Fin 4) (ad : Nat) (v : Word) (s : State),
    let u := s.begin';
    State.zhaType f = 3 ∧ u.portUp f.port = true ∧ u.otherPort f = false ∧ u.zhaTest f = .accept ∧
      State.byte1 f.payload 4 = i.val ∧ u.served = true ∧ u.failsafe = false ∧ u.frozen (2 + i.val) = false ∧
        (State.zhaBody f).length = 8 ∧ ad % 4 = 0 ∧ (State.word4 (State.zhaBody f) 0) = BitVec.ofNat 32 ad ∧
          (State.word4 (State.zhaBody f) 4) = v ∧ memWritable ad = true ∧ 2 ≤ u.memRight (2 + i.val) ad :=
  ⟨(request 3 1 (wordBytes 0x01300000#32 ++ wordBytes 0x89ABCDEF#32)), 3, 0x01300000, 0x89ABCDEF, linked.setFld
    PR_OWNER_OWNER 0 5, by decide +kernel⟩

theorem test_ZhaRequests_meets_4 : ∃ (f : ZhaFrame) (i : Fin 4) (r : List Byte) (s : State),
    let u := s.begin';
    State.zhaType f = 2 ∧ u.portUp f.port = true ∧ u.otherPort f = false ∧ u.zhaTest f = .dup ∧
      State.byte1 f.payload 4 = i.val ∧ (u.session i).stored = some r :=
  ⟨(request 2 1 (wordBytes 0#32)), 3, [7], (linked.put .HL_SSEQ 3 1).modSession 3 fun e =>
    { e with stored := some [7] }, by decide +kernel⟩

theorem test_ZhaRequests_meets_5 : ∃ (f : ZhaFrame) (i : Fin 4) (q : Fin 48) (s : State),
    let u := s.begin';
    State.zhaType f = 4 ∧ u.portUp f.port = true ∧ u.otherPort f = false ∧ u.zhaTest f = .accept ∧
      State.byte1 f.payload 4 = i.val ∧ u.served = true ∧ u.failsafe = false ∧ u.frozen (2 + i.val) = false ∧
        q.val = 30 + i.val ∧ (State.zhaBody f).length = 128 ∧ u.roomy q = true :=
  ⟨(request 4 1 ((List.range 128).map fun k => BitVec.ofNat 8 k)), 3, 33, ((linked.setFlag Q_GEOM_EN 33 true).put
    .Q_BASE 33 0x01200000), by decide +kernel⟩

theorem test_ZhaRequests_meets_6 : ∃ (f : ZhaFrame) (i : Fin 4) (q : Fin 48) (s : State),
    let u := s.begin';
    State.zhaType f = 4 ∧ u.portUp f.port = true ∧ u.otherPort f = false ∧ u.zhaTest f = .accept ∧
      State.byte1 f.payload 4 = i.val ∧ u.served = true ∧ u.failsafe = false ∧ u.frozen (2 + i.val) = false ∧
        q.val = 30 + i.val ∧ (State.zhaBody f).length = 128 ∧ u.roomy q = false :=
  ⟨(request 4 1 ((List.range 128).map fun k => BitVec.ofNat 8 k)), 3, 33, linked, by decide +kernel⟩

theorem test_ZhaRequests_meets_7 : ∃ (f : ZhaFrame) (i : Fin 4) (s : State),
    let u := s.begin';
    State.zhaType f = 5 ∧ u.portUp f.port = true ∧ u.otherPort f = false ∧ u.zhaTest f = .accept ∧
      State.byte1 f.payload 4 = i.val ∧ u.served = true ∧ u.failsafe = false ∧ u.frozen (2 + i.val) = false ∧
        (State.zhaBody f).length = 4 ∧ u.flag HL_SSTAT_OUT i = true ∧
          (State.word4 (State.zhaBody f) 0) = u.get .HL_SSSEQ i :=
  ⟨(request 5 1 (wordBytes 7#32)), 3,
    { (((linked.setFlag HL_SSTAT_OUT 3 true).put .HL_SSSEQ 3 7).setFld Q_TAIL_INDEX 37 5) with streamOut := SMap.set 0 [] 37 4 }, by decide +kernel⟩

theorem test_ZhaRequests_meets_8 : ∃ (f : ZhaFrame) (i : Fin 4) (s : State),
    let u := s.begin';
    State.zhaType f = 5 ∧ u.portUp f.port = true ∧ u.otherPort f = false ∧ u.zhaTest f = .accept ∧
      State.byte1 f.payload 4 = i.val ∧ u.served = true ∧ u.failsafe = false ∧ u.frozen (2 + i.val) = false ∧
        (State.zhaBody f).length = 4 ∧ u.flag HL_SSTAT_OUT i = false :=
  ⟨(request 5 1 (wordBytes 7#32)), 3, linked, by decide +kernel⟩

theorem test_ZhaRequests_meets_9 : ∃ (f : ZhaFrame) (i : Fin 4) (s : State),
    let u := s.begin';
    State.zhaType f = 6 ∧ u.portUp f.port = true ∧ u.otherPort f = false ∧ u.zhaTest f = .ping ∧
      State.byte1 f.payload 4 = i.val ∧ u.served = true ∧ u.failsafe = false ∧ u.frozen (2 + i.val) = false ∧
        (State.zhaBody f) = [] :=
  ⟨(request 6 1 ([])), 3, linked, by decide +kernel⟩

theorem test_ZhaRequests_meets_10 : ∃ (p : Fin 2) (s : State),
    let u := s.begin';
    u.portUp p = true :=
  ⟨1, linked, by decide +kernel⟩

theorem test_ZhaRequests_meets_11 : ∃ (f : ZhaFrame) (p : Fin 2) (s : State),
    let u := s.begin';
    f.port = p ∧ u.portUp p = true ∧ u.otherPort f = true :=
  ⟨{ request 2 1 [] with dport := 7 }, 1, linked, by decide +kernel⟩

theorem test_ZhaRequests_meets_12 : ∃ (f : ZhaFrame) (i : Fin 4) (s : State),
    let u := s.begin';
    u.portUp f.port = true ∧ u.otherPort f = false ∧ u.zhaTest f = .bad ∧ State.byte1 f.payload 4 = i.val ∧
      5 ≤ f.payload.length :=
  ⟨{ (request 2 1 []) with src := 6 }, 3, linked, by decide +kernel⟩

theorem test_ZhaRequests_meets_13 : ∃ (f : ZhaFrame) (i : Fin 4) (s : State),
    let u := s.begin';
    u.portUp f.port = true ∧ u.otherPort f = false ∧ u.zhaTest f = .auth ∧ State.byte1 f.payload 4 = i.val :=
  ⟨(request 2 1 []), 3, linked.modSession 3 fun e => { e with key := [1] }, by decide +kernel⟩

theorem test_ZhaRequests_meets_14 : ∃ (f : ZhaFrame) (i : Fin 4) (s : State),
    let u := s.begin';
    u.portUp f.port = true ∧ u.otherPort f = false ∧ u.zhaTest f = .stale ∧ State.byte1 f.payload 4 = i.val :=
  ⟨(request 2 1 []), 3, linked.put .HL_SSEQ 3 2, by decide +kernel⟩

theorem test_ZhaRequests_meets_15 : ∃ (f : ZhaFrame) (i : Fin 4) (s : State),
    let u := s.begin';
    u.portUp f.port = true ∧ u.otherPort f = false ∧ u.zhaTest f = .accept ∧ State.byte1 f.payload 4 = i.val ∧
      6 < State.zhaType f ∧ u.frozen (2 + i.val) = false :=
  ⟨(request 7 1 []), 3, linked, by decide +kernel⟩

theorem test_HostPorts_meets_1 : ∃ (i : Fin 4) (s : State),
    let u := s.begin';
    u.flag HL_SCFG_EN i = true ∧ u.flag HL_SCFG_STREAM_EN i = true ∧ u.portUp (u.fld HL_SCFG_PORT i) = true ∧
      u.flag HL_SSTAT_OUT i = false ∧ u.flag Q_GEOM_EN (34 + i) = true ∧ u.qFill (34 + i) ≠ 0 :=
  ⟨3, ((((linked.setFlag HL_SCFG_STREAM_EN 3 true).setFlag Q_GEOM_EN 37 true).put .Q_BASE 37 0x01200000).setFld
    Q_TAIL_INDEX 37 2).wrWord 0x01200020 0x89ABCDEF, by decide +kernel⟩

theorem test_HostPorts_meets_2 : ∃ (i : Fin 4) (s : State),
    let u := s.begin';
    u.flag HL_SSTAT_OUT i = true ∨ u.qFill (34 + i) = 0 ∨ u.flag HL_SCFG_STREAM_EN i = false :=
  ⟨3, ready, by decide +kernel⟩

theorem test_HostPorts_meets_3 : ∃ (i : Fin 4) (s : State),
    let u := s.begin';
    u.flag HL_SSTAT_OUT i = true ∧ u.flag HL_SCFG_EN i = true ∧ u.flag HL_SCFG_STREAM_EN i = true ∧
      u.portUp (u.fld HL_SCFG_PORT i) = true ∧ (u.session i).outT + 2000000 * u.fld HL_SCFG_SRTO i ≤ u.Tn :=
  ⟨3, (((linked.setFlag HL_SSTAT_OUT 3 true).setFlag HL_SCFG_STREAM_EN 3 true).setFld HL_SCFG_SRTO 3 1).modSession 3
    fun e => { e with frame := [7], outT := 2000 }, by decide +kernel⟩

theorem test_HostPorts_meets_4 : ∃ (i : Fin 4) (s : State),
    let u := s.begin';
    u.flag HL_SSTAT_OUT i = false ∨ u.flag HL_SCFG_STREAM_EN i = false :=
  ⟨3, ready, by decide +kernel⟩

theorem test_HostPorts_meets_5 : ∃ (p : Fin 2) (s : State),
    let u := s.begin';
    u.portUp p = true :=
  ⟨1, linked.put .HL_IP 1 0, by decide +kernel⟩

theorem test_HostPorts_meets_6 : ∃ (p : Fin 2) (s : State),
    let u := s.begin';
    u.portUp p = true :=
  ⟨1, linked, by decide +kernel⟩

theorem test_HostPorts_meets_7 : ∃ (i : Fin 4) (k : Nat) (s : State),
    let u := s.begin';
    (u.session i).arp = some k ∧ k + 60 * 200000000 ≤ u.Tn :=
  ⟨3, 1999, { ready.modSession 3 fun e => { e with arp := some 1999 } with tick := 6000000 }, by decide +kernel⟩

theorem test_HostPorts_meets_8 : ∃ (p : Fin 2) (d : List Byte) (s : State),
    let u := s.begin';
    u.portUp p = true ∧ u.flag HL_PCFG_ICMP_EN p = true ∧ d.length ≤ 1472 ∧
      ((SMap.get {} u.ports p.val : Port).sec ≠ u.T / 200000000 ∨ (SMap.get {} u.ports p.val : Port).echoes < 100) :=
  ⟨1, [1, 2], { linked.setFlag HL_PCFG_ICMP_EN 1 true with ports := SMap.set {} [] 1 { sec := 0, echoes := 99 } },
    by decide +kernel⟩

theorem test_HostPorts_meets_9 : ∃ (p : Fin 2) (d : List Byte) (s : State),
    let u := s.begin';
    u.portUp p = true ∧ (u.flag HL_PCFG_ICMP_EN p = false ∨ 1472 < d.length ∨ (SMap.get {} u.ports p.val : Port).sec
      = u.T / 200000000 ∧ 100 ≤ (SMap.get {} u.ports p.val : Port).echoes) :=
  ⟨1, [1, 2], { linked.setFlag HL_PCFG_ICMP_EN 1 true with ports := SMap.set {} [] 1 { sec := 0, echoes := 100 } },
    by decide +kernel⟩

theorem test_HostPorts_meets_10 : ∃ (p : Fin 2) (b : Bool) (s : State),
    let u := s.begin';
    u.served = true ∧ u.failsafe = false ∧ u.flag HL_PCFG_EN p = true ∧ u.flag HL_PSTAT_LINK p ≠ b :=
  ⟨1, false, linked, by decide +kernel⟩

theorem test_HostPorts_meets_11 : ∃ (p : Fin 2) (b : Bool) (s : State),
    let u := s.begin';
    u.flag HL_PSTAT_LINK p = b ∨ u.flag HL_PCFG_EN p = false :=
  ⟨1, true, linked, by decide +kernel⟩

theorem test_HostPorts_meets_12 : ∃ (l : List Byte) (s : State),
    let u := s.begin';
    s.begin'.spiOn = true ∧ u.served = true ∧ u.failsafe = false ∧ State.byte1 l 0 = 2 ∧ (State.byte1 l 5 + 1) ≤ 64 ∧
      l.length = 8 + 4 * (State.byte1 l 5 + 1) ∧ State.spiCrc (l.take (l.length - 2)) = l.drop (l.length - 2) ∧
        u.frozen 6 = false ∧ (State.spiWord ((l.drop 1).take 4)).toNat % 4 = 0 ∧ ((∀ k, k < (State.byte1 l 5 + 1) →
          memWritable ((State.spiWord ((l.drop 1).take 4)).toNat + 4 * k) = true ∧
            2 ≤ u.memRight 6 ((State.spiWord ((l.drop 1).take 4)).toNat + 4 * k))) :=
  ⟨(let l := [2#8, 1#8, 0x30#8, 0#8, 0#8, 1#8, 0#8, 0#8, 0#8, 7#8, 0x89#8, 0xAB#8, 0xCD#8, 0xEF#8]; l ++ State.spiCrc
    l), (ready.setFlag HL_SPI_CFG_EN 0 true).setFld PR_OWNER_OWNER 0 6, by decide +kernel⟩

theorem test_HostPorts_meets_13 : ∃ (l : List Byte) (s : State), s.begin'.spiOn = true ∧ State.byte1 l 0 = 2 ∧
  (l.length ≠ 8 + 4 * (State.byte1 l 5 + 1) ∨ 64 < (State.byte1 l 5 + 1) ∨ State.spiCrc (l.take (l.length - 2)) ≠
    l.drop (l.length - 2)) :=
  ⟨[2#8, 1#8, 0x30#8, 0#8, 0#8, 1#8], (ready.setFlag HL_SPI_CFG_EN 0 true).setFld PR_OWNER_OWNER 0 6,
    by decide +kernel⟩

theorem test_HostPorts_meets_14 : ∃ (l : List Byte) (j : Nat) (s : State),
    let u := s.begin';
    s.begin'.spiOn = true ∧ u.served = true ∧ u.failsafe = false ∧ State.byte1 l 0 = 3 ∧ 6 ≤ l.length ∧
      (State.byte1 l 5 + 1) ≤ 64 ∧ (State.byte1 l 5 + 1) ≤ j ∧ u.frozen 6 = false ∧
        (State.spiWord ((l.drop 1).take 4)).toNat % 4 = 0 ∧ ((∀ k, k < (State.byte1 l 5 + 1) →
          (inSram ((State.spiWord ((l.drop 1).take 4)).toNat + 4 * k) || inMram ((State.spiWord ((l.drop 1).take
            4)).toNat + 4 * k)) = true ∧ 1 ≤ u.memRight 6 ((State.spiWord ((l.drop 1).take 4)).toNat + 4 * k))) :=
  ⟨[3#8, 1#8, 0x30#8, 0#8, 0#8, 1#8], 2, (ready.setFlag HL_SPI_CFG_EN 0 true).setFld PR_OWNER_OWNER 0 6 |>.wrWord
    0x01300004 0x89ABCDEF, by decide +kernel⟩

theorem test_HostPorts_meets_15 : ∃ (l : List Byte) (s : State), s.begin'.spiOn = true ∧ State.byte1 l 0 = 3 ∧
  (l.length < 6 ∨ 64 < (State.byte1 l 5 + 1)) :=
  ⟨[3#8], (ready.setFlag HL_SPI_CFG_EN 0 true).setFld PR_OWNER_OWNER 0 6, by decide +kernel⟩

theorem test_HostPorts_meets_16 : ∃ (s : State),
    let u := s.begin';
    u.spiOn = true :=
  ⟨(ready.setFlag HL_SPI_CFG_EN 0 true).setFld PR_OWNER_OWNER 0 6 |>.setFld HL_SPI_STAT_INDEX 0 3, by decide +kernel⟩

theorem test_HostPorts_meets_17 : ∃ (c : Fin 256) (s : State),
    let u := s.begin';
    u.spiOn = true ∧ c.val ≠ 2 ∧ c.val ≠ 3 ∧ c.val ≠ 5 :=
  ⟨255, (ready.setFlag HL_SPI_CFG_EN 0 true).setFld PR_OWNER_OWNER 0 6, by decide +kernel⟩

theorem test_HostPorts_meets_18 : ∃ (c : Fin 256) (s : State),
    let u := s.begin';
    u.spiOn = false ∨ c.val = 2 ∨ c.val = 3 ∨ c.val = 5 :=
  ⟨255, ready, by decide +kernel⟩

theorem test_HelperCores_meets_1 : ∃ (m : Fin 8) (i : Fin 2) (v : Word) (s : State),
    let u := s.meets m .HC_RUN i;
    s.mayWrite m .HC_RUN i = true ∧ u.frozen i = false ∧ u.hcState i ≠ 1 ∧ u.hcState i ≠ 6 ∧ (u.hc i).image = true ∧
      u.flag HC_STAT_LOADING i = false ∧ bitAt v 1 = false :=
  ⟨2, 1, 4, (keyed .HC_RUN (1 : Fin 2) (((ready.setFld HC_STAT_STATE 1 0).modHc 1 fun c =>
    { c with image := true, mcause := 7, pc := 5, x := [(3, 9)] }))), by decide +kernel⟩

theorem test_HelperCores_meets_2 : ∃ (m : Fin 8) (i : Fin 2) (v : Word) (s : State),
    let u := s.meets m .HC_RUN i;
    s.mayWrite m .HC_RUN i = true ∧ u.frozen i = false ∧ u.hcState i ≠ 1 ∧ u.hcState i ≠ 6 ∧ (u.hc i).image = true ∧
      u.flag HC_STAT_LOADING i = false ∧ bitAt v 1 = true :=
  ⟨2, 1, 2, (keyed .HC_RUN (1 : Fin 2) (((ready.setFld HC_STAT_STATE 1 0).modHc 1 fun c =>
    { c with image := true }))), by decide +kernel⟩

theorem test_HelperCores_meets_3 : ∃ (m : Fin 8) (i : Fin 2) (s : State),
    let u := s.meets m .HC_RUN i;
    s.mayWrite m .HC_RUN i = true ∧ u.frozen i = false ∧
      (u.hcState i = 1 ∨ u.hcState i = 6 ∨ (u.hc i).image = false) :=
  ⟨2, 1, (keyed .HC_RUN (1 : Fin 2) (ready)), by decide +kernel⟩

theorem test_HelperCores_meets_4 : ∃ (m : Fin 8) (i : Fin 2) (s : State),
    let u := s.meets m .HC_RUN i;
    s.mayWrite m .HC_RUN i = true ∧ u.frozen i = true :=
  ⟨2, 1, (keyed .HC_RUN (1 : Fin 2) (keyed .HC_RUN 1 (ready.setRbit .PR_FROZEN 0 1 true))), by decide +kernel⟩

theorem test_HelperCores_meets_5 : ∃ (i : Fin 2) (s : State),
    let u := s.begin';
    u.flag HC_STAT_LOADING i = true ∧ u.frozen i = false :=
  ⟨1, { ready.setFlag HC_STAT_LOADING 1 true with hcMem := [(5, 1), (262149, 1)], hcImg := [(262144, 9)] },
    by decide +kernel⟩

theorem test_HelperCores_meets_6 : ∃ (i : Fin 2) (s : State),
    let u := s.begin';
    u.flag HC_STAT_LOADING i = true ∧ u.frozen i = true :=
  ⟨1, (ready.setFlag HC_STAT_LOADING 1 true).setRbit .PR_FROZEN 0 1 true, by decide +kernel⟩

theorem test_HelperCores_meets_7 : ∃ (i : Fin 2) (s : State),
    let u := s.begin';
    u.flag HC_STAT_LOADING i = false :=
  ⟨1, ready, by decide +kernel⟩

theorem test_HelperCores_meets_8 : ∃ (m : Fin 8) (i : Fin 2) (s : State),
    let u := s.meets m .HC_RUN i;
    s.mayWrite m .HC_RUN i = true ∧ u.hcState i = 1 :=
  ⟨2, 1, (keyed .HC_RUN (1 : Fin 2) (((ready.setFld HC_STAT_STATE 1 1).modHc 1 fun c =>
    { c with mcause := 7 }).setFlag GUARD_STAT_OPEN 0x10 true |>.setFld GUARD_STAT_OPEN_MASTER 0x10 1)),
      by decide +kernel⟩

theorem test_HelperCores_meets_9 : ∃ (m : Fin 8) (i : Fin 2) (s : State),
    let u := s.meets m .HC_RUN i;
    s.mayWrite m .HC_RUN i = true ∧ u.hcState i ≠ 1 :=
  ⟨2, 1, (keyed .HC_RUN (1 : Fin 2) (ready)), by decide +kernel⟩

theorem test_HelperCores_meets_10 : ∃ (i : Fin 2) (s : State),
    let u := s.begin';
    u.hcState i = 1 ∧ u.flag HC_CFG_TRAP_HALT i = true :=
  ⟨1, (((ready.setFld HC_STAT_STATE 1 1).modHc 1 fun c => { c with mcause := 7 }).setFlag GUARD_STAT_OPEN 0x10 true
    |>.setFld GUARD_STAT_OPEN_MASTER 0x10 1).setFlag HC_CFG_TRAP_HALT 1 true, by decide +kernel⟩

theorem test_HelperCores_meets_11 : ∃ (i : Fin 2) (s : State),
    let u := s.begin';
    u.hcState i = 1 ∧ u.flag HC_CFG_TRAP_HALT i = false :=
  ⟨1, (((ready.setFld HC_STAT_STATE 1 1).modHc 1 fun c =>
    { c with mcause := 7, mtvec := 0x10000103, mstatus := 8 })).setFlag HC_CFG_TRAP_HALT 1 false, by decide +kernel⟩

theorem test_HelperCores_meets_12 : ∃ (i : Fin 2) (s : State),
    let u := s.met;
    u.hcState i = 1 ∧ u.fld HC_WDT_TO i ≠ 0 ∧ (u.hc i).wdtT + 200000 * u.fld HC_WDT_TO i < u.Tn :=
  ⟨1, (((ready.setFld HC_STAT_STATE 1 1).modHc 1 fun c => { c with wdtT := 1000 })).setFld HC_WDT_TO 1 5,
    by decide +kernel⟩

theorem test_HelperCores_meets_13 : ∃ (i : Fin 2) (s : State),
    let u := s.met;
    u.hcState i ≠ 1 ∨ u.fld HC_WDT_TO i = 0 ∨ u.Tn ≤ (u.hc i).wdtT + 200000 * u.fld HC_WDT_TO i :=
  ⟨1, ready, by decide +kernel⟩

theorem test_HelperCores_meets_14 : ∃ (m : Fin 8) (i : Fin 2) (s : State), s.mayWrite m .HC_KICK i = true ∧
  m.val = i.val :=
  ⟨1, 1, (keyed .HC_KICK (1 : Fin 2) ((((ready.setFld HC_STAT_STATE 1 1).modHc 1 fun c =>
    { c with wdtT := 1000 })).setFld PR_OWNER_OWNER 0 1)), by decide +kernel⟩

theorem test_HelperCores_meets_15 : ∃ (m : Fin 8) (i : Fin 2) (s : State), s.mayWrite m .HC_KICK i = true :=
  ⟨2, 1, (keyed .HC_KICK (1 : Fin 2) (ready)), by decide +kernel⟩

theorem test_HelperCores_meets_16 : ∃ (i : Fin 2) (s : State),
    let u := s.begin';
    200 * (u.hc i).mtimecmp < u.Tn :=
  ⟨1, ((ready.setFld HC_STAT_STATE 1 1).modHc 1 fun c => { c with mtimecmp := 10000 }), by decide +kernel⟩

theorem test_HelperCores_meets_17 : ∃ (i : Fin 2) (s : State),
    let u := s.begin';
    u.Tn ≤ 200 * (u.hc i).mtimecmp :=
  ⟨1, ((ready.setFld HC_STAT_STATE 1 1).modHc 1 fun c => { c with mtimecmp := 20000 }), by decide +kernel⟩

theorem test_HelperCores_meets_18 : ∃ (i : Fin 2) (s : State),
    let u := s.begin';
    u.flag DG_CFG_EN 0 = true ∧ u.hcState i = 1 :=
  ⟨1, (((ready.setFld HC_STAT_STATE 1 1).modHc 1 fun c => { c with wdtT := 1000 }).setFlag GUARD_STAT_OPEN 0x10 true
    |>.setFld GUARD_STAT_OPEN_MASTER 0x10 1).setFlag DG_CFG_EN 0 true, by decide +kernel⟩

theorem test_HelperCores_meets_19 : ∃ (i : Fin 2) (s : State),
    let u := s.begin';
    u.flag DG_CFG_EN 0 = true ∧ u.hcState i = 6 :=
  ⟨1, (((ready.setFld HC_STAT_STATE 1 6).modHc 1 fun c => { c with wdtT := 1000 })).setFlag DG_CFG_EN 0 true,
    by decide +kernel⟩

theorem test_HelperCores_meets_20 : ∃ (i : Fin 2) (a : Word) (s : State),
    let u := s.begin';
    u.hcReach i a.toNat = true :=
  ⟨1, 0x1003FFFC,
    { (((ready.setFld HC_STAT_STATE 1 6).modHc 1 fun c => { c with wdtT := 1000 })).setFlag DG_CFG_EN 0 true with hcMem := [(524287, 9)] }, by decide +kernel⟩

theorem test_HelperCores_meets_21 : ∃ (i : Fin 2) (a : Word) (s : State),
    let u := s.begin';
    u.hcReach i a.toNat = true :=
  ⟨1, 0x1003FFFC, (((ready.setFld HC_STAT_STATE 1 6).modHc 1 fun c => { c with wdtT := 1000 })).setFlag DG_CFG_EN 0
    true, by decide +kernel⟩

theorem test_HelperCores_meets_22 : ∃ (i : Fin 2) (s : State),
    let u := s.begin';
    u.flag DG_CFG_EN 0 = true ∧ u.hcState i = 6 :=
  ⟨1, (((ready.setFld HC_STAT_STATE 1 6).modHc 1 fun c => { c with x := [(31, 9)] })).setFlag DG_CFG_EN 0 true,
    by decide +kernel⟩

theorem test_HelperCores_meets_23 : ∃ (i : Fin 2) (s : State),
    let u := s.begin';
    u.flag DG_CFG_EN 0 = true ∧ u.hcState i = 6 :=
  ⟨1, (((ready.setFld HC_STAT_STATE 1 6).modHc 1 fun c => { c with x := [(31, 9)] })).setFlag DG_CFG_EN 0 true,
    by decide +kernel⟩

theorem test_HelperCores_meets_24 : ∃ (s : State),
    let u := s.begin';
    u.flag DG_CFG_EN 0 = false :=
  ⟨ready.setFlag DG_CFG_EN 0 false, by decide +kernel⟩

theorem test_ResetsAndStartUp_meets_1 : ∃ (s : State),
    let u := s.begin';
    u.boot.rst ≠ 1 ∧ u.recording = false :=
  ⟨(((ready).put .EVT_MASK 5 7).put .RP_CFG 0 3).wrByte 0x01178001 9 |>.wrByte 0x02C00000 7 |>.wrByte 0x01300000 5
    |>.setFlag MOD_STAT_RELEASED 0 true |>.setFlag MOD_STAT_DUST 0 false, by decide +kernel⟩

theorem test_ResetsAndStartUp_meets_2 : ∃ (s : State),
    let u := s.begin';
    u.boot.rst = 1 :=
  ⟨{ (ready) with boot := { rst := 1 } }, by decide +kernel⟩

theorem test_ResetsAndStartUp_meets_3 : ∃ (m : Fin 8) (s : State),
    let u := s.meets m .MOD_CTRL 0;
    s.mayWrite m .MOD_CTRL 0 = true ∧ u.recording = false :=
  ⟨2, keyed .MOD_CTRL 0 ((((ready).put .EVT_MASK 5 7).put .RP_CFG 0 3).wrByte 0x01178001 9 |>.wrByte 0x02C00000 7
    |>.wrByte 0x01300000 5 |>.setFlag MOD_STAT_RELEASED 0 true |>.setFlag MOD_STAT_DUST 0 false), by decide +kernel⟩

theorem test_ResetsAndStartUp_meets_4 : ∃ (m : Fin 8) (s : State),
    let u := s.meets m .MOD_CTRL 0;
    s.mayWrite m .MOD_CTRL 0 = true ∧ u.recording = false :=
  ⟨2, keyed .MOD_CTRL 0 ((((ready).put .EVT_MASK 5 7).put .RP_CFG 0 3).wrByte 0x01178001 9 |>.wrByte 0x02C00000 7
    |>.wrByte 0x01300000 5 |>.setFlag MOD_STAT_RELEASED 0 true |>.setFlag MOD_STAT_DUST 0 false), by decide +kernel⟩

theorem test_ResetsAndStartUp_meets_5 : ∃ (m : Fin 8) (s : State),
    let u := s.meets m .MOD_CTRL 0;
    s.mayWrite m .MOD_CTRL 0 = true ∧ u.recording = false :=
  ⟨2, keyed .MOD_CTRL 0 ((((ready).put .EVT_MASK 5 7).put .RP_CFG 0 3).wrByte 0x01178001 9 |>.wrByte 0x02C00000 7
    |>.wrByte 0x01300000 5 |>.setFlag MOD_STAT_RELEASED 0 true |>.setFlag MOD_STAT_DUST 0 false), by decide +kernel⟩

theorem test_ResetsAndStartUp_meets_6 : ∃ (s : State),
    let u := s.begin';
    u.boot.rst = 2 :=
  ⟨{ (ready) with boot := { rst := 2 } }, by decide +kernel⟩

theorem test_ResetsAndStartUp_meets_7 : ∃ (s : State),
    let u := s.begin';
    u.boot.rst ≠ 2 :=
  ⟨ready, by decide +kernel⟩

theorem test_ResetsAndStartUp_meets_8 : ∃ (s : State),
    let u := s.begin';
    (u.boot.rst = 1 ∨ u.boot.rst = 3) ∧ u.boot.after = [] :=
  ⟨{ (ready) with boot := { rst := 3 } }, by decide +kernel⟩

theorem test_ResetsAndStartUp_meets_9 : ∃ (s : State),
    let u := s.begin';
    u.boot.rst = 4 ∧ u.recording = false :=
  ⟨{ (ready) with boot := { rst := 4, causes := 12 } }, by decide +kernel⟩

theorem test_ResetsAndStartUp_meets_10 : ∃ (s : State),
    let u := s.begin';
    u.boot.rst = 0 ∨ u.boot.rst = 2 :=
  ⟨ready, by decide +kernel⟩

theorem test_ResetsAndStartUp_meets_11 : ∃ (s : State),
    let u := s.begin';
    u.inReset = false ∧ u.flag SUP_STAT_MRAM_OK 0 = false ∧ u.fld MOD_STAT_BOOT 0 = 0 ∧
      u.boot.t0 + (if u.boot.cls = 2 then 0 else 200) ≤ u.tick :=
  ⟨(ready.setFld MOD_STAT_BOOT 0 0).wrWord 0x02FFF000 41, by decide +kernel⟩

theorem test_ResetsAndStartUp_meets_12 : ∃ (s : State),
    let u := s.begin';
    u.inReset = true ∨ u.flag SUP_STAT_MRAM_OK 0 = true ∨ u.fld MOD_STAT_BOOT 0 ≠ 0 :=
  ⟨ready, by decide +kernel⟩

theorem test_ResetsAndStartUp_meets_13 : ∃ (x : Image) (s : State),
    let u := s.begin';
    u.inReset = false ∧ u.fld MOD_STAT_BOOT 0 = 0 ∧ u.flag SUP_STAT_MRAM_OK 0 = true ∧
      u.imgOk 0 (x.bodyOk && State.ownerOk x) = true :=
  ⟨{ keys := [[1, 2], [3]], regs := [(0x1040, 3)] }, (let b := 0x02C00000 + 0x100000 * 0; let s : State :=
    (((((((ready.setFld MOD_STAT_BOOT 0 0).setFlag SUP_STAT_MRAM_OK 0 true).wrWord b 0x50524931).wrWord (b + 4)
      256).wrWord (b + 8) 7).wrWord (b + 12) 0x00010000)); let k := List.replicate 32 1#8;
        { s.wrBytes (b + 16) (Sha.tag k (s.rdBytes b 16 ++ s.rdBytes (b + 32) 224)) with imgKey := some k }),
          by decide +kernel⟩

theorem test_ResetsAndStartUp_meets_14 : ∃ (x : Image) (y : Image) (s : State),
    let u := s.begin';
    u.inReset = false ∧ u.fld MOD_STAT_BOOT 0 = 0 ∧ u.flag SUP_STAT_MRAM_OK 0 = true ∧
      u.imgOk 0 (x.bodyOk && State.ownerOk x) = false ∧ u.imgOk 1 (y.bodyOk && State.ownerOk y) = true :=
  ⟨{}, { keys := [[1, 2], [3]], regs := [(0x1040, 3)] }, (let b := 0x02C00000 + 0x100000 * 1; let s : State :=
    (((((((ready.setFld MOD_STAT_BOOT 0 0).setFlag SUP_STAT_MRAM_OK 0 true).wrWord b 0x50524931).wrWord (b + 4)
      256).wrWord (b + 8) 7).wrWord (b + 12) 0x00010000)); let k := List.replicate 32 1#8;
        { s.wrBytes (b + 16) (Sha.tag k (s.rdBytes b 16 ++ s.rdBytes (b + 32) 224)) with imgKey := some k }),
          by decide +kernel⟩

theorem test_ResetsAndStartUp_meets_15 : ∃ (x : Image) (y : Image) (s : State),
    let u := s.begin';
    u.inReset = false ∧ u.fld MOD_STAT_BOOT 0 = 0 ∧
      (u.flag SUP_STAT_MRAM_OK 0 = true ∨ u.boot.t0 + (if u.boot.cls = 2 then 800 else 1000) ≤ u.tick) ∧
        ((u.flag SUP_STAT_MRAM_OK 0 = true → u.imgOk 0 (x.bodyOk && State.ownerOk x) = false ∧
          u.imgOk 1 (y.bodyOk && State.ownerOk y) = false)) :=
  ⟨{}, {}, (ready.setFld MOD_STAT_BOOT 0 0), by decide +kernel⟩

theorem test_ResetsAndStartUp_meets_16 : ∃ (s : State),
    let u := s.begin';
    u.inReset = false ∧ u.boot.cores = false ∧ u.fld MOD_STAT_BOOT 0 = 1 ∧
      u.boot.t0 + (if u.boot.cls = 2 then 1500 else 1700) ≤ u.tick :=
  ⟨{ ((ready.setFlag HC_CFG_AUTOSTART 1 true).modHc 1 fun c => { c with image := true }) with tick := 1700 },
    by decide +kernel⟩

theorem test_ResetsAndStartUp_meets_17 : ∃ (s : State),
    let u := s.begin';
    u.inReset = true ∨ u.boot.cores = true ∨ u.fld MOD_STAT_BOOT 0 ≠ 1 :=
  ⟨(ready.setFld MOD_STAT_BOOT 0 0), by decide +kernel⟩

theorem test_ResetsAndStartUp_meets_18 : ∃ (m : Fin 8) (s : State),
    let u := s.meets m .MOD_CTRL 0;
    s.mayWrite m .MOD_CTRL 0 = true ∧ u.inReplay = false ∧ u.flag MOD_STAT_RELEASED 0 = false ∧
      u.fld MOD_STAT_RLS_BLOCK 0 = 0 :=
  ⟨2, (keyed .MOD_CTRL 0 ((ready.setFlag VG_CFG_EN 15 true).setFld LP_STAT_FSTATE 63 4)), by decide +kernel⟩

theorem test_ResetsAndStartUp_meets_19 : ∃ (m : Fin 8) (s : State),
    let u := s.meets m .MOD_CTRL 0;
    s.mayWrite m .MOD_CTRL 0 = true ∧ u.inReplay = false ∧ u.flag MOD_STAT_RELEASED 0 = true :=
  ⟨2, (keyed .MOD_CTRL 0 (ready.setFlag MOD_STAT_RELEASED 0 true)), by decide +kernel⟩

theorem test_ResetsAndStartUp_meets_20 : ∃ (m : Fin 8) (s : State),
    let u := s.meets m .MOD_CTRL 0;
    2 ≤ m.val ∧ s.mayWrite m .MOD_CTRL 0 = true ∧ u.flag MOD_STAT_RELEASED 0 = false ∧
      u.fld MOD_STAT_RLS_BLOCK 0 ≠ 0 :=
  ⟨2, keyed .MOD_CTRL 0 (ready.setFld MOD_STAT_RLS_BLOCK 0 16), by decide +kernel⟩

theorem test_ResetsAndStartUp_meets_21 : ∃ (q : Fin 24576) (s : State), bitAt (s.rdWord (dirBase + 0x108)) 0 = true ∧
  bitsOf (s.rdWord (dirBase + 0x104)) 14 0 = q :=
  ⟨5, (((ready.wrWord (dirBase + 0x108) 1).wrWord (dirBase + 0x104) 5).wrWord (dirBase + 0x3FC) 0x89ABCDEF),
    by decide +kernel⟩

theorem test_ResetsAndStartUp_meets_22 : ∃ (s : State), bitAt (s.rdWord (dirBase + 0x108)) 0 = false :=
  ⟨ready, by decide +kernel⟩

theorem test_SpatialSteps_meets_1 : ∃ (s : State),
    let u := s.begin';
    u.gmRun = true ∧ 0 ≤ diff48 (u.axPos u.gmAx) (wrap48 (u.geo.x0 + (u.geo.next * u.gmStep : Nat))) :=
  ⟨(ready.setFlag GM_CTRL_RUN 0 true), by decide +kernel⟩

theorem test_SpatialSteps_meets_2 : ∃ (s : State),
    let u := s.begin';
    diff48 (u.axPos u.gmAx) (wrap48 (u.geo.x0 + (u.geo.next * u.gmStep : Nat))) < 0 :=
  ⟨(ready.setFlag GM_CTRL_RUN 0 true).modGeo fun g => { g with next := 1 }, by decide +kernel⟩

theorem test_SpatialSteps_meets_3 : ∃ (s : State),
    let u := s.begin';
    ((u.geo.steps.take 1).all fun st => decide (st.d + 64 ≤ u.tick) && !st.outrun && st.marks.isEmpty &&
      st.duties.isEmpty) = true ∧ u.geo.steps ≠ [] ∧ u.geo.covs = [] :=
  ⟨((((ready.setFlag GM_APP_CFG_FEN 3 true).setFlag LN_CFG_EN 3 true).setRbit .LN_CMD 0 3 true).put .GM_APP_FLOW 3
    0x40000000).modGeo fun g => { g with steps := [{ n := 0, d := 936, clips := 2 }] }, by decide +kernel⟩

theorem test_SpatialSteps_meets_4 : ∃ (s : State),
    let u := s.begin';
    (u.geo.steps.all fun st => decide (u.tick < st.d + 64)) = true :=
  ⟨ready.modGeo fun g => { g with steps := [{ n := 0, d := 937, clips := 2 }] }, by decide +kernel⟩

theorem test_SpatialSteps_meets_5 : ∃ (s : State),
    let u := s.met;
    u.gmRun = true ∧ u.flag GM_STAT_DR_ONLY 0 = false ∧ 200000 * u.fld GM_FIX_TO_TO 0 ≤ u.Tn - u.geo.lastFix :=
  ⟨({ (ready.setFlag GM_CTRL_RUN 0 true) with tick := 100000 } : State).modGeo fun g => { g with fix1 := true },
    by decide +kernel⟩

theorem test_SpatialSteps_meets_6 : ∃ (s : State),
    let u := s.begin';
    u.gmRun = true ∧ u.tick % 10000 = 0 ∧ u.fld GM_WANT_DIST_DIST 0 ≠ 0 :=
  ⟨({ (ready.setFlag GM_CTRL_RUN 0 true) with tick := 10000 } : State).put .GM_WANT 3 5, by decide +kernel⟩

theorem test_SpatialSteps_meets_7 : ∃ (s : State),
    let u := s.begin';
    u.gmRun = true ∧ u.tick % 10000 = 0 ∧ u.fld GM_WANT_DIST_DIST 0 = 0 :=
  ⟨(({ (ready.setFlag GM_CTRL_RUN 0 true) with tick := 10000 } : State).put .GM_WANT 3 5).put .GM_WANT_DIST 0 0,
    by decide +kernel⟩

theorem test_SpatialSteps_meets_8 : ∃ (x : DWord) (y : DWord) (z : DWord) (s : State), x = f64.mul (f64.ofSingle
  (s.get .AX_YAW 0)) (f64.ofRat 1 100000) ∧
    y = f64.ofInt (if (s.ax s.gmAx).tEn = s.T then 0 else diff48 (s.axPos s.gmAx) (s.ax s.gmAx).prevX) ∧
      z = f64.add s.geo.th (f64.div x (f64.ofInt 2)) :=
  ⟨f64.mul (f64.ofSingle 0#32) (f64.ofRat 1 100000), f64.ofInt 0, f64.add 0 (f64.div (f64.mul (f64.ofSingle 0#32)
    (f64.ofRat 1 100000)) (f64.ofInt 2)), ready.modGeo fun g => { g with ox := f64.ofInt 3 }, by decide +kernel⟩

theorem test_SpatialSteps_meets_9 : ∃ (x : Fix) (s : State), s.poseAt x.epoch = none :=
  ⟨{ gnss := true, epoch := 999, stamp := 1500, pos := some ((f64.ofInt 1), (f64.ofInt 1)), head := none },
    { (((ready).setFld GM_BLEND_JUMP_LIM 0 1).setFld GM_BLEND_KP 0 1 |>.setFld GM_BLEND_KH 0 1) with geo := { ready.geo with hist := [⟨1000, 0, 0, 0⟩], fix1 := true, head1 := true, refused := 0, ox := (f64.ofInt 1) } }, by decide +kernel⟩

theorem test_SpatialSteps_meets_10 : ∃ (x : Fix) (y : PoseAt) (z : DWord) (w : DWord) (s : State), x.pos = some (z,
  w) ∧ x.head = none ∧ s.poseAt x.epoch = some y ∧ s.geo.fix1 = true ∧ s.geo.refused < 4 ∧
    f64.lt (f64.ofInt (102400 * s.fld GM_BLEND_JUMP_LIM 0)) (State.dist (s.fixResidual x y z w).1 (s.fixResidual x y
      z w).2) = true :=
  ⟨{ gnss := true, epoch := 1200, stamp := 1500, pos := some (f64.ofInt 20480000, f64.zero), head := none }, ⟨1200,
    0, 0, 0⟩, f64.ofInt 20480000, f64.zero,
      { (((ready).setFld GM_BLEND_JUMP_LIM 0 1).setFld GM_BLEND_KP 0 1 |>.setFld GM_BLEND_KH 0 1) with geo := { ready.geo with hist := [⟨1000, 0, 0, 0⟩], fix1 := true, head1 := true, refused := 3, ox := (f64.ofInt 1) } }, by decide +kernel⟩

theorem test_SpatialSteps_meets_11 : ∃ (x : Fix) (y : PoseAt) (z : DWord) (w : DWord) (s : State), x.pos = some (z,
  w) ∧ x.head = none ∧ s.poseAt x.epoch = some y ∧ s.geo.fix1 = true ∧ 4 ≤ s.geo.refused ∧
    f64.lt (f64.ofInt (102400 * s.fld GM_BLEND_JUMP_LIM 0)) (State.dist (s.fixResidual x y z w).1 (s.fixResidual x y
      z w).2) = true :=
  ⟨{ gnss := true, epoch := 1200, stamp := 1500, pos := some (f64.ofInt 20480000, f64.zero), head := none }, ⟨1200,
    0, 0, 0⟩, f64.ofInt 20480000, f64.zero,
      { (((ready).setFld GM_BLEND_JUMP_LIM 0 1).setFld GM_BLEND_KP 0 1 |>.setFld GM_BLEND_KH 0 1) with geo := { ready.geo with hist := [⟨1000, 0, 0, 0⟩], fix1 := true, head1 := true, refused := 4, ox := (f64.ofInt 1) } }, by decide +kernel⟩

theorem test_SpatialSteps_meets_12 : ∃ (x : Fix) (y : PoseAt) (z : DWord) (w : DWord) (s : State), x.pos = some (z,
  w) ∧ x.head = none ∧ s.poseAt x.epoch = some y ∧ s.geo.fix1 = true ∧
    f64.lt (f64.ofInt (102400 * s.fld GM_BLEND_JUMP_LIM 0)) (State.dist (s.fixResidual x y z w).1 (s.fixResidual x y
      z w).2) = false :=
  ⟨{ gnss := true, epoch := 1200, stamp := 1500, pos := some (f64.ofInt 2048, f64.zero), head := none }, ⟨1200, 0, 0,
    0⟩, f64.ofInt 2048, f64.zero,
      { (((ready).setFld GM_BLEND_JUMP_LIM 0 1).setFld GM_BLEND_KP 0 1 |>.setFld GM_BLEND_KH 0 1) with geo := { ready.geo with hist := [⟨1000, 0, 0, 0⟩], fix1 := true, head1 := true, refused := 3, ox := (f64.ofInt 1) } }, by decide +kernel⟩

theorem test_SpatialSteps_meets_13 : ∃ (x : Fix) (y : PoseAt) (z : DWord) (w : DWord) (s : State), x.pos = some (z,
  w) ∧ x.head = none ∧ s.poseAt x.epoch = some y ∧ s.geo.fix1 = false :=
  ⟨{ gnss := true, epoch := 1200, stamp := 1500, pos := some (f64.ofInt 20480000, f64.zero), head := none }, ⟨1200,
    0, 0, 0⟩, f64.ofInt 20480000, f64.zero,
      { (((ready).setFld GM_BLEND_JUMP_LIM 0 1).setFld GM_BLEND_KP 0 1 |>.setFld GM_BLEND_KH 0 1) with geo := { ready.geo with hist := [⟨1000, 0, 0, 0⟩], fix1 := false, head1 := true, refused := 0, ox := (f64.ofInt 1) } }, by decide +kernel⟩

theorem test_SpatialSteps_meets_14 : ∃ (x : Fix) (y : PoseAt) (z : DWord) (s : State), x.pos = none ∧
  x.head = some (z, 0) ∧ s.poseAt x.epoch = some y :=
  ⟨{ gnss := true, epoch := 1200, stamp := 1500, pos := none, head := some ((f64.ofInt 1), 0) }, ⟨1200, 0, 0, 0⟩,
    (f64.ofInt 1),
      { (((ready).setFld GM_BLEND_JUMP_LIM 0 1).setFld GM_BLEND_KP 0 1 |>.setFld GM_BLEND_KH 0 1) with geo := { ready.geo with hist := [⟨1000, 0, 0, 0⟩], fix1 := true, head1 := true, refused := 0, ox := (f64.ofInt 1) } }, by decide +kernel⟩

theorem test_StencilTiles_meets_1 : ∃ (s : State),
    let u := s.met;
    u.inReplay = false ∧ u.recording = false ∧ u.geo.intake ≠ some (u.tick + 1) ∧ u.qFill 28 ≠ 0 ∧
      bitsOf (u.rdWord ((u.qSlot 28 (u.qHead 28)) + 4)) 31 24 = 1 ∧
        bitAt (u.rdWord ((u.qSlot 28 (u.qHead 28)) + 4)) 0 = false ∧
          (u.stiles.length < 512 ∨ (u.stile (u.rdWord (u.qSlot 28 (u.qHead 28))).toNat).isSome = true) :=
  ⟨(((((ready.setFlag Q_GEOM_EN 28 true).put .Q_BASE 28 0x01178000).setFld Q_TAIL_INDEX 28 1).wrWord 0x01178000
    0x10).wrWord 0x01178004 0x01000000).wrWord 0x01178010 0xABCD, by decide +kernel⟩

theorem test_StencilTiles_meets_2 : ∃ (s : State),
    let u := s.met;
    u.inReplay = false ∧ u.recording = false ∧ u.geo.intake ≠ some (u.tick + 1) ∧ u.qFill 28 ≠ 0 ∧
      bitsOf (u.rdWord ((u.qSlot 28 (u.qHead 28)) + 4)) 31 24 = 3 ∧
        ((u.stile (u.rdWord (u.qSlot 28 (u.qHead 28))).toNat).all fun x => !u.stPinned x) = true :=
  ⟨({ ((((ready.setFlag Q_GEOM_EN 28 true).put .Q_BASE 28 0x01178000).setFld Q_TAIL_INDEX 28 1).wrWord 0x01178000 0x10).wrWord 0x01178004 0x03000000 with stiles := [(0x10, some {})] } : State), by decide +kernel⟩

theorem test_StencilTiles_meets_3 : ∃ (s : State),
    let u := s.met;
    u.inReplay = false ∧ u.recording = false ∧ u.geo.intake ≠ some (u.tick + 1) ∧ u.qFill 28 ≠ 0 ∧
      (bitsOf (u.rdWord ((u.qSlot 28 (u.qHead 28)) + 4)) 31 24 = 0 ∨ 4 ≤ bitsOf (u.rdWord ((u.qSlot 28 (u.qHead 28))
        + 4)) 31 24) :=
  ⟨((((ready.setFlag Q_GEOM_EN 28 true).put .Q_BASE 28 0x01178000).setFld Q_TAIL_INDEX 28 1).wrWord 0x01178000
    0x10).wrWord 0x01178004 0x04000000, by decide +kernel⟩

theorem test_StencilTiles_meets_4 : ∃ (s : State),
    let u := s.met;
    u.geo.intake = some (u.tick + 1) ∧ u.recording = false :=
  ⟨((((ready.setFlag Q_GEOM_EN 28 true).put .Q_BASE 28 0x01178000).setFld Q_TAIL_INDEX 28 1)).modGeo fun g =>
    { g with intake := some 1001 }, by decide +kernel⟩

theorem test_StencilTiles_meets_5 : ∃ (m : Fin 8) (v : Word) (s : State),
    let u := s.meets m .GM_TC_EVICT 0;
    s.mayWrite m .GM_TC_EVICT 0 = true ∧ ((u.stile v.toNat).all fun x => !u.stPinned x) = true :=
  ⟨2, 0x10, (keyed .GM_TC_EVICT 0
    (({ ready with stiles := [(0x10, some { last := 0, read := false }), (0x11, some {})] } : State))),
      by decide +kernel⟩

theorem test_StencilTiles_meets_6 : ∃ (m : Fin 8) (v : Word) (s : State),
    let u := s.meets m .GM_TC_EVICT 0;
    s.mayWrite m .GM_TC_EVICT 0 = true ∧ ((u.stile v.toNat).any fun x => u.stPinned x) = true :=
  ⟨2, 0x10, (keyed .GM_TC_EVICT 0 (({ ready with stiles := [(0x10, some { last := 0, read := true })] } : State))),
    by decide +kernel⟩

theorem test_StencilTiles_meets_7 : ∃ (s : State),
    let u := s.met;
    u.inReplay = false ∧ u.recording = false ∧ u.geo.intake ≠ some (u.tick + 1) ∧ u.qFill 28 ≠ 0 ∧
      bitsOf (u.rdWord ((u.qSlot 28 (u.qHead 28)) + 4)) 31 24 = 2 ∧
        bitAt (u.rdWord ((u.qSlot 28 (u.qHead 28)) + 4)) 0 = false ∧
          (u.stiles.length < 512 ∨ (u.stile (u.rdWord (u.qSlot 28 (u.qHead 28))).toNat).isSome = true) :=
  ⟨(((((ready.setFlag Q_GEOM_EN 28 true).put .Q_BASE 28 0x01178000).setFld Q_TAIL_INDEX 28 1).wrWord 0x01178000
    0x10).wrWord 0x01178004 0x02A00000), by decide +kernel⟩

theorem test_StencilTiles_meets_8 : ∃ (s : State),
    let u := s.met;
    u.inReplay = false ∧ u.recording = false ∧ u.geo.intake ≠ some (u.tick + 1) ∧ u.qFill 28 ≠ 0 ∧
      1 ≤ bitsOf (u.rdWord ((u.qSlot 28 (u.qHead 28)) + 4)) 31 24 ∧
        bitsOf (u.rdWord ((u.qSlot 28 (u.qHead 28)) + 4)) 31 24 ≤ 3 ∧
          bitAt (u.rdWord ((u.qSlot 28 (u.qHead 28)) + 4)) 0 = true ∧
            crc32 (u.rdBytes ((u.qSlot 28 (u.qHead 28)) + 16) 2048) ≠ u.rdWord ((u.qSlot 28 (u.qHead 28)) + 12) :=
  match crc_other (List.replicate 2048 0#8) with
  | .inl h =>
    ⟨(((((ready.setFlag Q_GEOM_EN 28 true).put .Q_BASE 28 0x01178000).setFld Q_TAIL_INDEX 28 1).wrWord 0x01178000
      0x10).wrWord 0x01178004 0x01000001).wrWord 0x0117800C 0, by decide +kernel, by decide +kernel,
        by decide +kernel, by decide +kernel, by decide +kernel, by decide +kernel, by decide +kernel,
      fun e => h ((congrArg State.crc32 (by decide +kernel)).trans (e.trans (by decide +kernel)))⟩
  | .inr h =>
    ⟨(((((ready.setFlag Q_GEOM_EN 28 true).put .Q_BASE 28 0x01178000).setFld Q_TAIL_INDEX 28 1).wrWord 0x01178000
      0x10).wrWord 0x01178004 0x01000001).wrWord 0x0117800C 1, by decide +kernel, by decide +kernel,
        by decide +kernel, by decide +kernel, by decide +kernel, by decide +kernel, by decide +kernel,
      fun e => h ((congrArg State.crc32 (by decide +kernel)).trans (e.trans (by decide +kernel)))⟩

theorem test_StencilTiles_meets_9 : ∃ (s : State),
    let u := s.met;
    u.inReplay = false ∧ u.recording = false ∧ u.geo.intake ≠ some (u.tick + 1) ∧ u.qFill 28 ≠ 0 ∧
      (bitsOf (u.rdWord ((u.qSlot 28 (u.qHead 28)) + 4)) 31 24 = 1 ∨ bitsOf (u.rdWord ((u.qSlot 28 (u.qHead 28)) +
        4)) 31 24 = 2) ∧ bitAt (u.rdWord ((u.qSlot 28 (u.qHead 28)) + 4)) 0 = false ∧ 512 ≤ u.stiles.length ∧
          u.stile (u.rdWord (u.qSlot 28 (u.qHead 28))).toNat = none ∧
            (u.stiles.all fun e => e.2.all fun x => u.stPinned x) = true :=
  ⟨({ ((((ready.setFlag Q_GEOM_EN 28 true).put .Q_BASE 28 0x01178000).setFld Q_TAIL_INDEX 28 1).wrWord 0x01178000 0x1000).wrWord 0x01178004 0x01000000 with stiles := (List.range 512).map fun k => (k, some { read := true }) } : State), by decide +kernel⟩

theorem test_StencilTiles_meets_10 : ∃ (s : State),
    let u := s.met;
    u.inReplay = false ∧ u.recording = false ∧ u.geo.intake ≠ some (u.tick + 1) ∧ u.qFill 28 ≠ 0 ∧
      bitsOf (u.rdWord ((u.qSlot 28 (u.qHead 28)) + 4)) 31 24 = 3 ∧
        bitAt (u.rdWord ((u.qSlot 28 (u.qHead 28)) + 4)) 0 = false ∧
          ((u.stile (u.rdWord (u.qSlot 28 (u.qHead 28))).toNat).any fun x => u.stPinned x) = true :=
  ⟨({ ((((ready.setFlag Q_GEOM_EN 28 true).put .Q_BASE 28 0x01178000).setFld Q_TAIL_INDEX 28 1).wrWord 0x01178000 0x10).wrWord 0x01178004 0x03000000 with stiles := [(0x10, some { read := true })] } : State), by decide +kernel⟩

theorem test_StencilTiles_meets_11 : ∃ (s : State),
    let u := s.met;
    u.recording = true ∧ u.inReplay = false ∧ u.geo.intake ≠ some (u.tick + 1) ∧ u.qFill 28 ≠ 0 :=
  ⟨(((((ready.setFlag Q_GEOM_EN 28 true).put .Q_BASE 28 0x01178000).setFld Q_TAIL_INDEX 28 1).setFld RP_STAT_STATE 0
    1).wrWord 0x01178000 0x10).wrWord 0x01178004 0x04000000, by decide +kernel⟩

theorem test_MaskingStore_meets_1 : ∃ (x : Fin 65536) (y : Fin 65536) (s : State),
    let u := s.begin';
    u.writeBackDue (65536 * y.val + x.val) = true ∧ u.inReplay = false ∧
      ((u.dirFind (65536 * y.val + x.val)).2.any fun q => decide (q < 24576)) = true :=
  ⟨7, 0, ((({ ready with tick := 200000, mtiles := [(7, some { cells := 0xFF })] } : State).wrWord (dirBase + 0x400 +
    8 * (7 * 40503 % 32640)) 7).wrWord (dirBase + 0x404 + 8 * (7 * 40503 % 32640)) 0x80000005), by decide +kernel⟩

theorem test_MaskingStore_meets_2 : ∃ (x : Fin 65536) (y : Fin 65536) (s : State),
    let u := s.begin';
    u.writeBackDue (65536 * y.val + x.val) = false :=
  ⟨65535, 65535, ready, by decide +kernel⟩

theorem test_MaskingStore_meets_3 : ∃ (m : Fin 8) (s : State),
    let u := s.meets m .GM_MAP_CMD 0;
    s.mayWrite m .GM_MAP_CMD 0 = true ∧ u.flag GM_STAT_MAP_BUSY 0 = false ∧ u.gmRun = false ∧
      u.replay.mergeSrc = none :=
  ⟨2, (keyed .GM_MAP_CMD 0 (((({ ready with tick := 200000, mtiles := [(7, some { cells := 0xFF })] } : State).wrWord
    (dirBase + 0x400 + 8 * (7 * 40503 % 32640)) 7).wrWord (dirBase + 0x404 + 8 * (7 * 40503 % 32640)) 0x80000005).put
      .GM_JOB 0 99)), by decide +kernel⟩

theorem test_MaskingStore_meets_4 : ∃ (m : Fin 8) (s : State),
    let u := s.meets m .GM_MAP_CMD 0;
    s.mayWrite m .GM_MAP_CMD 0 = true ∧ u.flag GM_STAT_MAP_BUSY 0 = false ∧ u.gmRun = false ∧
      u.rdWord dirBase = dirFormat ∧ u.mtiles = [] :=
  ⟨2, (keyed .GM_MAP_CMD 0 ((((((ready.wrWord (dirBase) dirFormat))).wrWord (dirBase + 8) 5).wrWord (dirBase + 0x10)
    1).wrWord (dirBase + 0x14) 77)), by decide +kernel⟩

theorem test_MaskingStore_meets_5 : ∃ (m : Fin 8) (s : State),
    let u := s.meets m .GM_MAP_CMD 0;
    s.mayWrite m .GM_MAP_CMD 0 = true ∧ u.flag GM_STAT_MAP_BUSY 0 = false ∧ u.mtiles = [] :=
  ⟨2, (keyed .GM_MAP_CMD 0 (ready)), by decide +kernel⟩

theorem test_MapMerging_meets_1 : ∃ (m : Fin 8) (s : State),
    let u := s.meets m .GM_MAP_CMD 0;
    s.mayWrite m .GM_MAP_CMD 0 = true ∧ u.flag GM_STAT_MAP_BUSY 0 = false ∧ u.recording = false ∧
      u.inReplay = false :=
  ⟨2, (keyed .GM_MAP_CMD 0 (((ready.put .GM_MAP_ARG 0 7).put .GM_MAP_SRC 0 0x01180000).wrWord 0x01180000 0x55)),
    by decide +kernel⟩

theorem test_MapMerging_meets_2 : ∃ (m : Fin 8) (s : State),
    let u := s.meets m .GM_MAP_CMD 0;
    s.mayWrite m .GM_MAP_CMD 0 = true ∧ u.flag GM_STAT_MAP_BUSY 0 = true :=
  ⟨2, (keyed .GM_MAP_CMD 0 (keyed .GM_MAP_CMD 0 (ready.setFlag GM_STAT_MAP_BUSY 0 true))), by decide +kernel⟩

theorem test_MapMerging_meets_3 : ∃ (s : State),
    let u := s.begin';
    u.flag GM_STAT_MAP_BUSY 0 = true ∧ (u.geo.merge.all fun e => (SMap.get none u.mtiles e.1).isSome) = true :=
  ⟨(({ ready with mtiles := [(7, some { cells := 0xF0 })] } : State).setFlag GM_STAT_MAP_BUSY 0 true).modGeo fun g =>
    { g with merge := some (7, 0x0F) }, by decide +kernel⟩

theorem test_MapMerging_meets_4 : ∃ (s : State),
    let u := s.begin';
    u.flag GM_STAT_MAP_BUSY 0 = false :=
  ⟨ready, by decide +kernel⟩

theorem test_StencilCells_meets_1 : ∃ (x : Int) (y : Int) (s : State),
    let u := s.met;
    u.inReplay = false ∧ u.recording = false ∧ u.geo.intake ≠ some (u.tick + 1) ∧ u.qFill 28 ≠ 0 ∧
      bitsOf (u.rdWord ((u.qSlot 28 (u.qHead 28)) + 4)) 31 24 = 1 ∧
        bitAt (u.rdWord ((u.qSlot 28 (u.qHead 28)) + 4)) 0 = false ∧
          (u.stiles.length < 512 ∨ (u.stile (u.rdWord (u.qSlot 28 (u.qHead 28))).toNat).isSome = true) ∧
            u.stencilKey x y = (u.rdWord (u.qSlot 28 (u.qHead 28))).toNat :=
  ⟨6451200, 6451200, ((((((((ready.setFlag Q_GEOM_EN 28 true).put .Q_BASE 28 0x01178000).setFld Q_TAIL_INDEX 28
    1).wrWord 0x01178000 0x80008000).wrWord 0x01178004 0x01000000).wrByte 0x01178010 0xAB).wrByte 0x0117802F
      0xC1).wrByte 0x0117880F 0xDE).wrByte 0x011787F0 0x35, by decide +kernel⟩

theorem test_Supervisor_meets_1 : ∃ (s : State),
    let u := s.met;
    u.inReset = false :=
  ⟨((((ready.setFlag MOD_STAT_RELEASED 0 true).setFlag MOD_STAT_DUST 0 false).setFlag PG_STAT_DUST 0 false).setFlag
    VG_CFG_EN 15 true |>.setFlag VG_STAT_HS_ON 15 true |>.setFlag VG_STAT_DUST 15 false |>.setFlag VS_CFG_EN 127 true
      |>.setFlag AO_CFG_EN 3 true), by decide +kernel⟩

theorem test_Supervisor_meets_2 : ∃ (s : State),
    let u := s.met;
    u.inReset = true :=
  ⟨State.reset, by decide +kernel⟩

theorem test_Supervisor_meets_3 : ∃ (x : Word) (s : State),
    let u := s.met;
    u.inReset = false ∧ f32.lt (f32.ofInt 500) (f32.abs x) = true :=
  ⟨0xC3FA0001, ready.setFlag SUP_STAT_XTAL_OK 0 true, by decide +kernel⟩

theorem test_Supervisor_meets_4 : ∃ (x : Word) (_ : State), f32.lt (f32.ofInt 500) (f32.abs x) = false :=
  ⟨0xC3FA0000, ready, by decide +kernel⟩

theorem test_Supervisor_meets_5 : ∃ (s : State),
    let u := s.met;
    u.inReset = false ∧ u.recording = false :=
  ⟨((((ready.setFlag MOD_STAT_RELEASED 0 true).setFlag MOD_STAT_DUST 0 false).setFlag PG_STAT_DUST 0 false).setFlag
    VG_CFG_EN 15 true |>.setFlag VG_STAT_HS_ON 15 true |>.setFlag VG_STAT_DUST 15 false |>.setFlag VS_CFG_EN 127 true
      |>.setFlag AO_CFG_EN 3 true), by decide +kernel⟩

theorem test_Supervisor_meets_6 : ∃ (s : State),
    let u := s.met;
    u.inReset = true :=
  ⟨State.reset, by decide +kernel⟩

theorem test_Supervisor_meets_7 : ∃ (x : Nat) (s : State),
    let u := s.met;
    u.inReset = false ∧ x < 7000 ∧ u.boot.vbatLow = false :=
  ⟨6999, ready.setFlag SUP_STAT_VBAT_OK 0 true, by decide +kernel⟩

theorem test_Supervisor_meets_8 : ∃ (x : Nat) (s : State),
    let u := s.met;
    u.inReset = true ∧ x < 7000 ∧ u.boot.vbatLow = false :=
  ⟨6999, State.reset, by decide +kernel⟩

theorem test_Supervisor_meets_9 : ∃ (x : Nat) (s : State),
    let u := s.met;
    7000 ≤ x ∨ u.boot.vbatLow = true :=
  ⟨7000, ready, by decide +kernel⟩

theorem test_Supervisor_meets_10 : ∃ (x : Nat) (s : State),
    let u := s.met;
    7500 ≤ x ∧ u.boot.vbatLow = true :=
  ⟨7500, { (ready.setFld MOD_STAT_RLS_BLOCK 0 4) with boot := { ready.boot with vbatLow := true } },
    by decide +kernel⟩

theorem test_Supervisor_meets_11 : ∃ (x : Nat) (s : State),
    let u := s.met;
    x < 7500 ∨ u.boot.vbatLow = false :=
  ⟨7499, ready, by decide +kernel⟩

theorem test_Supervisor_meets_12 : ∃ (s : State),
    let u := s.met;
    u.inReset = false :=
  ⟨ready.setFlag SUP_STAT_RAILS_OK 0 true, by decide +kernel⟩

theorem test_Supervisor_meets_13 : ∃ (x : Word) (s : State),
    let u := s.met;
    u.inReset = false ∧ f32.lt (f32.ofInt 120) x = true :=
  ⟨0x42F00001, ready, by decide +kernel⟩

theorem test_Supervisor_meets_14 : ∃ (x : Word) (_ : State), f32.lt (f32.ofInt 120) x = false :=
  ⟨0x42F00000, ready, by decide +kernel⟩

theorem test_Supervisor_meets_15 : ∃ (s : State),
    let u := s.met;
    u.inReset = false ∧ u.recording = false :=
  ⟨((((ready.setFlag MOD_STAT_RELEASED 0 true).setFlag MOD_STAT_DUST 0 false).setFlag PG_STAT_DUST 0 false).setFlag
    VG_CFG_EN 15 true |>.setFlag VG_STAT_HS_ON 15 true |>.setFlag VG_STAT_DUST 15 false |>.setFlag VS_CFG_EN 127 true
      |>.setFlag AO_CFG_EN 3 true), by decide +kernel⟩

theorem test_Supervisor_meets_16 : ∃ (s : State),
    let u := s.met;
    u.inReset = true :=
  ⟨State.reset, by decide +kernel⟩

theorem test_Supervisor_meets_17 : ∃ (m : Fin 8) (s : State), s.mayWrite m .SUP_CLR 0 = true :=
  ⟨2, (keyed .SUP_CLR 0 (ready.setFld SUP_STAT_DIE_HB 0 15)), by decide +kernel⟩

theorem test_Supervisor_meets_18 : ∃ (s : State),
    let u := s.met;
    u.flag DG_CFG_EN 0 = true ∧ u.inReset = false ∧ u.flag MOD_STAT_HALT 0 = false :=
  ⟨(((((((ready.setFlag MOD_STAT_RELEASED 0 true).setFlag MOD_STAT_DUST 0 false).setFlag PG_STAT_DUST 0
    false).setFlag VG_CFG_EN 15 true |>.setFlag VG_STAT_HS_ON 15 true |>.setFlag VG_STAT_DUST 15 false |>.setFlag
      VS_CFG_EN 127 true |>.setFlag AO_CFG_EN 3 true)).setFld PR_OWNER_OWNER 0 7).setFlag DG_CFG_EN 0 true),
        by decide +kernel⟩

theorem test_Supervisor_meets_19 : ∃ (x : Bool) (s : State),
    let u := s.met;
    x = false ∨ u.flag DG_CFG_EN 0 = false ∨ u.inReset = true ∨ u.flag MOD_STAT_HALT 0 = true :=
  ⟨false, (((((((ready.setFlag MOD_STAT_RELEASED 0 true).setFlag MOD_STAT_DUST 0 false).setFlag PG_STAT_DUST 0
    false).setFlag VG_CFG_EN 15 true |>.setFlag VG_STAT_HS_ON 15 true |>.setFlag VG_STAT_DUST 15 false |>.setFlag
      VS_CFG_EN 127 true |>.setFlag AO_CFG_EN 3 true)).setFld PR_OWNER_OWNER 0 7).setFlag DG_CFG_EN 0 true),
        by decide +kernel⟩

theorem test_Supervisor_meets_20 : ∃ (m : Fin 8) (s : State),
    let u := s.meets m .DG_CTRL 0;
    s.mayWrite m .DG_CTRL 0 = true ∧ m.val = 7 ∧ u.flag DG_CFG_EN 0 = true ∧ u.flag MOD_STAT_HALT 0 = false :=
  ⟨7, (keyed .DG_CTRL 0 ((((((((ready.setFlag MOD_STAT_RELEASED 0 true).setFlag MOD_STAT_DUST 0 false).setFlag
    PG_STAT_DUST 0 false).setFlag VG_CFG_EN 15 true |>.setFlag VG_STAT_HS_ON 15 true |>.setFlag VG_STAT_DUST 15 false
      |>.setFlag VS_CFG_EN 127 true |>.setFlag AO_CFG_EN 3 true)).setFld PR_OWNER_OWNER 0 7).setFlag DG_CFG_EN 0
        true))), by decide +kernel⟩

theorem test_Supervisor_meets_21 : ∃ (m : Fin 8) (s : State),
    let u := s.meets m .DG_CTRL 0;
    s.mayWrite m .DG_CTRL 0 = true ∧ m.val = 7 ∧ u.flag DG_CFG_EN 0 = true ∧ u.flag MOD_STAT_HALT 0 = true :=
  ⟨7, (keyed .DG_CTRL 0 ((((ready).setFld PR_OWNER_OWNER 0 7).setFlag DG_CFG_EN 0 true).setFlag MOD_STAT_HALT 0
    true)), by decide +kernel⟩

theorem test_Supervisor_meets_22 : ∃ (m : Fin 8) (s : State),
    let u := s.meets m .DG_CTRL 0;
    s.mayWrite m .DG_CTRL 0 = true ∧ m.val = 7 ∧ u.boot.dbgLow = false :=
  ⟨7, (keyed .DG_CTRL 0 ((((ready.setFld PR_OWNER_OWNER 0 7).setFlag MOD_STAT_HALT 0 true).setFlag DG_STAT_HALT 0
    true).setFlag DG_CFG_EN 0 true)), by decide +kernel⟩

theorem test_Supervisor_meets_23 : ∃ (m : Fin 8) (s : State),
    let u := s.meets m .DG_CTRL 0;
    s.mayWrite m .DG_CTRL 0 = true ∧ m.val = 7 ∧ u.boot.dbgLow = true :=
  ⟨7, (keyed .DG_CTRL 0
    (({ ((ready.setFld PR_OWNER_OWNER 0 7).setFlag MOD_STAT_HALT 0 true).setFlag DG_CFG_EN 0 true with boot := { ready.boot with dbgLow := true } } : State))), by decide +kernel⟩

theorem test_Supervisor_meets_24 : ∃ (s : State),
    let u := s.meets 7 .DG_CTRL 0;
    s.mayWrite 7 .DG_CTRL 0 = true ∧ u.recording = false :=
  ⟨(((((((ready.setFlag MOD_STAT_RELEASED 0 true).setFlag MOD_STAT_DUST 0 false).setFlag PG_STAT_DUST 0
    false).setFlag VG_CFG_EN 15 true |>.setFlag VG_STAT_HS_ON 15 true |>.setFlag VG_STAT_DUST 15 false |>.setFlag
      VS_CFG_EN 127 true |>.setFlag AO_CFG_EN 3 true)).setFld PR_OWNER_OWNER 0 7).setFlag DG_CFG_EN 0 true),
        by decide +kernel⟩

theorem test_Supervisor_meets_25 : ∃ (m : Fin 8) (s : State), s.mayWrite m .DG_CTRL 0 = true ∧ m.val ≠ 7 :=
  ⟨2, (keyed .DG_CTRL 0 (ready)), by decide +kernel⟩

theorem test_Supervisor_meets_26 : ∃ (m : Fin 8) (s : State), s.mayWrite m .DG_CTRL 0 = true ∧ m.val ≠ 7 :=
  ⟨2, (keyed .DG_CTRL 0 (ready)), by decide +kernel⟩

theorem test_Supervisor_meets_27 : ∃ (m : Fin 8) (s : State), s.mayWrite m .DG_CTRL 0 = true ∧ m.val ≠ 7 :=
  ⟨2, (keyed .DG_CTRL 0 (ready)), by decide +kernel⟩

theorem test_Supervisor_meets_28 : ∃ (s : State),
    let u := s.begin';
    u.flag DG_CFG_EN 0 = false :=
  ⟨(((ready).setFld PR_OWNER_OWNER 0 7).setFlag DG_CFG_EN 0 true).setFlag DG_CFG_EN 0 false, by decide +kernel⟩

theorem test_Supervisor_meets_29 : ∃ (s : State),
    let u := s.begin';
    u.flag DG_CFG_EN 0 = false :=
  ⟨(((ready).setFld PR_OWNER_OWNER 0 7).setFlag DG_CFG_EN 0 true).setFlag DG_CFG_EN 0 false, by decide +kernel⟩

theorem test_Supervisor_meets_30 : ∃ (s : State),
    let u := s.begin';
    u.flag DG_CFG_EN 0 = false :=
  ⟨(((ready).setFld PR_OWNER_OWNER 0 7).setFlag DG_CFG_EN 0 true).setFlag DG_CFG_EN 0 false, by decide +kernel⟩

theorem test_Supervisor_meets_31 : ∃ (s : State),
    let u := s.met;
    u.flag DG_CFG_EN 0 = true ∧ u.inReset = false ∧ u.flag MOD_STAT_HALT 0 = false :=
  ⟨(((((((ready.setFlag MOD_STAT_RELEASED 0 true).setFlag MOD_STAT_DUST 0 false).setFlag PG_STAT_DUST 0
    false).setFlag VG_CFG_EN 15 true |>.setFlag VG_STAT_HS_ON 15 true |>.setFlag VG_STAT_DUST 15 false |>.setFlag
      VS_CFG_EN 127 true |>.setFlag AO_CFG_EN 3 true)).setFld PR_OWNER_OWNER 0 7).setFlag DG_CFG_EN 0 true),
        by decide +kernel⟩

theorem test_Supervisor_meets_32 : ∃ (s : State),
    let u := s.met;
    u.flag DG_CFG_EN 0 = false ∨ u.inReset = true ∨ u.flag MOD_STAT_HALT 0 = true :=
  ⟨ready.setFlag DG_CFG_EN 0 false, by decide +kernel⟩

theorem test_MramController_meets_1 : ∃ (m : Fin 8) (v : Word) (s : State),
    let u := s.meets m .MM_CMD 0;
    s.mayWrite m .MM_CMD 0 = true ∧ u.mmErr (putBits v 1 0 1) = false ∧ u.flag MM_STAT_OPEN 0 = false :=
  ⟨2, 0x100, (keyed .MM_CMD 0 (((((ready.put .MM_SRC 0 0x01178000).put .MM_LEN 0 8).put .MM_OFS 0 0).wrBytes
    0x01178000 [1, 2, 3, 4, 5, 6, 7, 8]).wrWord 0x02D00000 0x50524931)), by decide +kernel⟩

theorem test_MramController_meets_2 : ∃ (m : Fin 8) (v : Word) (s : State),
    let u := s.meets m .MM_CMD 0;
    s.mayWrite m .MM_CMD 0 = true ∧ u.mmErr (putBits v 1 0 1) = false ∧ u.flag MM_STAT_OPEN 0 = true ∧
      u.fld MM_OFS_OFS 0 ≠ 0 :=
  ⟨2, 0x100, (keyed .MM_CMD 0 (((((((ready.put .MM_SRC 0 0x01178000).put .MM_LEN 0 8).put .MM_OFS 0 16).wrBytes
    0x01178000 [1, 2, 3, 4, 5, 6, 7, 8]).wrWord 0x02D00000 0x50524931).setFlag MM_STAT_OPEN 0 true).setFld
      MM_STAT_OPEN_SLOT 0 1)), by decide +kernel⟩

theorem test_MramController_meets_3 : ∃ (m : Fin 8) (v : Word) (s : State),
    let u := s.meets m .MM_CMD 0;
    s.mayWrite m .MM_CMD 0 = true ∧ u.mmErr (putBits v 1 0 2) = false :=
  ⟨2, 0x110, (keyed .MM_CMD 0 (ready)), by decide +kernel⟩

theorem test_MramController_meets_4 : ∃ (m : Fin 8) (v : Word) (s : State),
    let u := s.meets m .MM_CMD 0;
    s.mayWrite m .MM_CMD 0 = true ∧ u.mmErr (putBits v 1 0 3) = false :=
  ⟨2, 0x100, (keyed .MM_CMD 0 (((((((ready.put .MM_SRC 0 0x01178000).put .MM_LEN 0 8).put .MM_OFS 0 16).wrBytes
    0x01178000 [1, 2, 3, 4, 5, 6, 7, 8]).wrWord 0x02D00000 0x50524931).setFlag MM_STAT_OPEN 0 true).setFld
      MM_STAT_OPEN_SLOT 0 1)), by decide +kernel⟩

theorem test_MramController_meets_5 : ∃ (m : Fin 8) (v : Word) (s : State),
    let u := s.meets m .MM_CMD 0;
    s.mayWrite m .MM_CMD 0 = true ∧ u.mmErr (putBits v 1 0 1) = true :=
  ⟨2, 0, (keyed .MM_CMD 0 (({ ready with mm := { ready.mm with cmd := some (2, 0, false) } } : State))),
    by decide +kernel⟩

theorem test_MramController_meets_6 : ∃ (m : Fin 8) (v : Word) (s : State),
    let u := s.meets m .MM_CMD 0;
    s.mayWrite m .MM_CMD 0 = true ∧ u.mmErr (putBits v 1 0 2) = true :=
  ⟨2, 0, (keyed .MM_CMD 0 (({ ready with mm := { ready.mm with cmd := some (2, 0, false) } } : State))),
    by decide +kernel⟩

theorem test_MramController_meets_7 : ∃ (m : Fin 8) (v : Word) (s : State),
    let u := s.meets m .MM_CMD 0;
    s.mayWrite m .MM_CMD 0 = true ∧ u.mmErr (putBits v 1 0 3) = true :=
  ⟨2, 0, (keyed .MM_CMD 0 (ready)), by decide +kernel⟩

theorem test_MramController_meets_8 : ∃ (x : Fin 2) (w : Byte) (y : Byte) (z : Byte) (q : Byte) (s : State),
    let u := s.begin';
    u.mm.cmd = some (1, x.val, true) ∧ u.mm.magic = [(0, w), (1, y), (2, z), (3, q)] :=
  ⟨1, 0x31, 0x49, 0x52, 0x50, (let b := 0x02D00000; let s : State := (((((ready.wrWord b 0x50524931).wrWord (b + 4)
    256).wrWord (b + 8) 7).wrWord (b + 12) 0x00010000)); let k := List.replicate 32 1#8;
      { s.wrBytes (b + 16) (Sha.tag k (s.rdBytes b 16 ++ s.rdBytes (b + 32) 224)) with imgKey := some k, mm := { ready.mm with cmd := some (1, 1, true), magic := [(0, 0x31), (1, 0x49), (2, 0x52), (3, 0x50)] } }).wrWord 0x02D00000 0, by decide +kernel⟩

theorem test_MramController_meets_9 : ∃ (x : Nat) (s : State),
    let u := s.begin';
    u.mm.cmd = some (1, x, false) :=
  ⟨1,
    { (ready.setFlag MM_STAT_BUSY 0 true).setFlag MM_STAT_OPEN 0 true with mm := { ready.mm with cmd := some (1, 1, false) } }, by decide +kernel⟩

theorem test_MramController_meets_10 : ∃ (x : Fin 2) (y : Bool) (s : State),
    let u := s.begin';
    u.mm.cmd = some (2, x.val, y) :=
  ⟨1, false, (let b := 0x02D00000; let s : State := (((((ready.wrWord b 0x50524931).wrWord (b + 4) 256).wrWord (b +
    8) 7).wrWord (b + 12) 0x00010000)); let k := List.replicate 32 1#8;
      { s.wrBytes (b + 16) (Sha.tag k (s.rdBytes b 16 ++ s.rdBytes (b + 32) 224)) with imgKey := some k, mm := { ready.mm with cmd := some (2, 1, false) } }), by decide +kernel⟩

theorem test_MramController_meets_11 : ∃ (x : Nat) (y : Bool) (s : State),
    let u := s.begin';
    u.mm.cmd = some (3, x, y) :=
  ⟨1, false,
    { (ready.setFlag MM_STAT_BUSY 0 true).setFlag MM_STAT_OPEN 0 true with mm := { ready.mm with cmd := some (3, 1, false) } }, by decide +kernel⟩

theorem test_MramController_meets_12 : ∃ (s : State),
    let u := s.begin';
    u.mm.cmd = none :=
  ⟨ready, by decide +kernel⟩

theorem test_RecordAndReplay_meets_1 : ∃ (m : Fin 8) (s : State), s.mayWrite m .RP_REC_HEAD 0 = true :=
  ⟨2, (keyed .RP_REC_HEAD 0 (ready)), by decide +kernel⟩

theorem test_RecordAndReplay_meets_2 : ∃ (x : List Word) (s : State), x.length ≤ 30 ∧
  (s.fld RP_REC_TAIL_INDEX 0 + 65536 - s.fld RP_REC_HEAD_INDEX 0) % 65536 < 2 ^ s.fld RP_REC_GEOM_LOG2N 0 :=
  ⟨[7, 8],
    { ((((ready.put .RP_REC_BASE 0 0x01178000).setFld RP_REC_GEOM_LOG2N 0 4).setFld RP_REC_HEAD_INDEX 0 65530).setFld RP_REC_TAIL_INDEX 0 65535) with recorder := { ready.recorder with rseq := 65535, loss := true } }, by decide +kernel⟩

theorem test_RecordAndReplay_meets_3 : ∃ (s : State), 2 ^ s.fld RP_REC_GEOM_LOG2N 0 ≤ (s.fld RP_REC_TAIL_INDEX 0 +
  65536 - s.fld RP_REC_HEAD_INDEX 0) % 65536 :=
  ⟨((ready.setFld RP_REC_GEOM_LOG2N 0 4).setFld RP_REC_TAIL_INDEX 0 16).put .RP_EVT_MASK 0 31, by decide +kernel⟩

theorem test_RecordAndReplay_meets_4 : ∃ (i : Fin 4) (x : State.RpRec) (y : List Word) (s : State),
    let u := s.begin';
    u.fld RP_STAT_STATE 0 = 2 ∧ u.rpCarries i = true ∧ u.served = true ∧
      State.rpParse (u.rpQueue i).words = some (x, y) ∧ x.rk = 1 ∧
        x.body.take 5 = u.rdWords (State.imgSlot (u.fld MOD_STAT_SLOT 0) + 16) 4 ++ [u.rdWord (State.imgSlot (u.fld
          MOD_STAT_SLOT 0) + 8)] ∧ x.stamp = u.get64 .RP_T0_LO .RP_T0_HI 0 ∧ State.rpWord x 6 = u.maskCrc :=
  ⟨3, ⟨1, 3, 5000, [0x11, 0, 0, 0, 7, 9, replaying.maskCrc]⟩, [77], starting, by decide +kernel, by decide +kernel,
    by decide +kernel, (congrArg State.rpParse starting_words).trans (rpParse_start _), rfl, by decide +kernel,
      by decide +kernel,
    (maskCrc_of_mem starting_mem).symm⟩

theorem test_RecordAndReplay_meets_5 : ∃ (i : Fin 4) (x : State.RpRec) (y : List Word) (s : State),
    let u := s.begin';
    u.fld RP_STAT_STATE 0 = 2 ∧ u.rpCarries i = true ∧ u.served = true ∧
      State.rpParse (u.rpQueue i).words = some (x, y) ∧ x.rk = 1 ∧
        (x.body.take 5 ≠ u.rdWords (State.imgSlot (u.fld MOD_STAT_SLOT 0) + 16) 4 ++ [u.rdWord (State.imgSlot (u.fld
          MOD_STAT_SLOT 0) + 8)] ∨ x.stamp ≠ u.get64 .RP_T0_LO .RP_T0_HI 0 ∨ State.rpWord x 6 ≠ u.maskCrc) :=
  ⟨3, ⟨1, 3, 5000, [0x12, 0, 0, 0, 7, 9, 5]⟩, [77],
    { ((((((ready.setFld RP_STAT_STATE 0 2).setFld MOD_STAT_RMODE 0 2).put .RP_CFG 0 8).put .RP_T0_LO 0 5000).wrWord 0x02C00010 0x11).wrWord 0x02C00008 7) with replay := { ready.replay with qs := [((3 : Fin 4), { words := [0x0403001C, 5000, 0, 0x12, 0, 0, 0, 7, 9, 5, 77] })] } }, by decide +kernel⟩

theorem test_RecordAndReplay_meets_6 : ∃ (i : Fin 4) (s : State),
    let u := s.begin';
    u.fld RP_STAT_STATE 0 = 2 ∧ u.rpCarries i = true ∧ u.served = true ∧ (u.rpQueue i).words ≠ [] ∧
      ((State.rpParse (u.rpQueue i).words).all fun e => e.1.rk != 1) = true :=
  ⟨3,
    { ((((((ready.setFld RP_STAT_STATE 0 2).setFld MOD_STAT_RMODE 0 2).put .RP_CFG 0 8).put .RP_T0_LO 0 5000).wrWord 0x02C00010 0x11).wrWord 0x02C00008 7) with replay := { ready.replay with qs := [((3 : Fin 4), { words := [0x0803001C, 5000, 0, 0x11, 0, 0, 0, 7, 9, 5, 77] })] } }, by decide +kernel⟩

theorem test_RecordAndReplay_meets_7 : ∃ (i : Fin 4) (s : State),
    let u := s.begin';
    u.fld RP_STAT_STATE 0 ≠ 2 ∨ u.rpCarries i = false ∨ u.served = false :=
  ⟨3, ready, by decide +kernel⟩

theorem test_RecordAndReplay_meets_8 : ∃ (m : Fin 8) (s : State),
    let u := s.meets m .RP_CTRL 0;
    s.mayWrite m .RP_CTRL 0 = true ∧ u.fld RP_STAT_STATE 0 = 3 ∧ m.val = u.owner :=
  ⟨2, (keyed .RP_CTRL 0 (((ready.setFld RP_STAT_STATE 0 3).setFld MOD_STAT_RMODE 0 2).setFld MOD_STAT_RLS_BLOCK 0
    8)), by decide +kernel⟩

theorem test_RecordAndReplay_meets_9 : ∃ (m : Fin 8) (s : State),
    let u := s.meets m .RP_CTRL 0;
    s.mayWrite m .RP_CTRL 0 = true ∧ u.fld RP_STAT_STATE 0 ≠ 3 ∨ m.val ≠ u.owner :=
  ⟨2, (keyed .RP_CTRL 0 ((ready.setFld RP_STAT_STATE 0 2).setFld MOD_STAT_RMODE 0 2)), by decide +kernel⟩

theorem test_RecordAndReplay_meets_10 : ∃ (i : Fin 4) (x : State.RpRec) (s : State),
    let u := s.met;
    s.begin'.fld RP_STAT_STATE 0 = 4 ∧ u.replay.merged ≠ u.tick + 1 ∧ u.rpQueues = [i.val] ∧
      u.flag Q_GEOM_EN (30 + i) = false ∧ State.rpParse (u.rpQueue i).words = some (x, []) ∧
        State.rpTick x ≤ u.tick :=
  ⟨3, ⟨5, 0, 1999999, [8]⟩,
    { (((((((ready.put .RP_EVT_MASK 0 31).setFld RP_STAT_STATE 0 4).setFld MOD_STAT_RMODE 0 2).put .RP_CFG 0 8).put .RP_T0_LO 0 5000).wrWord 0x02C00010 0x11).wrWord 0x02C00008 7) with replay := { ready.replay with qs := [((3 : Fin 4), { words := [0x14000004, 1999999, 0, 8], last := 0 })], merged := 999 } }, by decide +kernel⟩

theorem test_RecordAndReplay_meets_11 : ∃ (i : Fin 4) (x : State.RpRec) (s : State),
    let u := s.met;
    s.begin'.fld RP_STAT_STATE 0 = 4 ∧ u.replay.merged ≠ u.tick + 1 ∧ u.rpQueues = [i.val] ∧
      u.flag Q_GEOM_EN (30 + i) = false ∧ State.rpParse (u.rpQueue i).words = some (x, []) ∧
        u.tick + 1 < State.rpTick x ∧ (u.rpQueue i).last ≤ x.stamp :=
  ⟨3, ⟨5, 0, 2002000, [8]⟩,
    { (((((((ready.put .RP_EVT_MASK 0 31).setFld RP_STAT_STATE 0 4).setFld MOD_STAT_RMODE 0 2).put .RP_CFG 0 8).put .RP_T0_LO 0 5000).wrWord 0x02C00010 0x11).wrWord 0x02C00008 7) with replay := { ready.replay with qs := [((3 : Fin 4), { words := [0x14000004, 2002000, 0, 8], last := 2002000 })], merged := 999 } }, by decide +kernel⟩

theorem test_RecordAndReplay_meets_12 : ∃ (i : Fin 4) (x : State.RpRec) (s : State),
    let u := s.met;
    s.begin'.fld RP_STAT_STATE 0 = 4 ∧ u.replay.merged ≠ u.tick + 1 ∧ u.rpQueues = [i.val] ∧
      u.flag Q_GEOM_EN (30 + i) = false ∧ State.rpParse (u.rpQueue i).words = some (x, []) ∧
        State.rpTick x = u.tick + 1 ∧ (u.rpQueue i).last ≤ x.stamp ∧ x.rk = 2 :=
  ⟨3, ⟨2, 0, 2001999, []⟩,
    { (((((((ready.put .RP_EVT_MASK 0 31).setFld RP_STAT_STATE 0 4).setFld MOD_STAT_RMODE 0 2).put .RP_CFG 0 8).put .RP_T0_LO 0 5000).wrWord 0x02C00010 0x11).wrWord 0x02C00008 7) with replay := { ready.replay with qs := [((3 : Fin 4), { words := [0x08000000, 2001999, 0], last := 0 })], merged := 999 } }, by decide +kernel⟩

theorem test_RecordAndReplay_meets_13 : ∃ (s : State),
    let u := s.met;
    s.begin'.fld RP_STAT_STATE 0 = 4 ∧ u.replay.merged = u.tick + 1 :=
  ⟨{ ((((((ready.setFld RP_STAT_STATE 0 4).setFld MOD_STAT_RMODE 0 2).put .RP_CFG 0 8).put .RP_T0_LO 0 5000).wrWord 0x02C00010 0x11).wrWord 0x02C00008 7) with replay := { ready.replay with merged := 1001 } }, by decide +kernel⟩

theorem test_RecordAndReplay_meets_14 : ∃ (s : State),
    let u := s.begin';
    u.fld RP_STAT_STATE 0 ≠ 4 :=
  ⟨ready, by decide +kernel⟩

theorem test_RecordAndReplay_meets_15 : ∃ (s : State),
    let u := s.begin';
    u.fld RP_STAT_STATE 0 = 4 ∧ u.replay.ended = true :=
  ⟨{ ((((((ready.setFld RP_STAT_STATE 0 4).setFld MOD_STAT_RMODE 0 2).put .RP_CFG 0 8).put .RP_T0_LO 0 5000).wrWord 0x02C00010 0x11).wrWord 0x02C00008 7).put .RP_EVT_MASK 0 31 with replay := { ready.replay with ended := true } }, by decide +kernel⟩

theorem test_RecordAndReplay_meets_16 : ∃ (s : State),
    let u := s.begin';
    u.fld RP_STAT_STATE 0 ≠ 4 ∨ u.replay.ended = false :=
  ⟨(((((ready.setFld RP_STAT_STATE 0 4).setFld MOD_STAT_RMODE 0 2).put .RP_CFG 0 8).put .RP_T0_LO 0 5000).wrWord
    0x02C00010 0x11).wrWord 0x02C00008 7, by decide +kernel⟩

theorem test_AxisEnable_meets_1 : ∃ (m : Fin 8) (i : Fin 32) (v : Word) (s : State),
    let u := s.meets m .AX_CFG i;
    s.mayWrite m .AX_CFG i = true ∧ u.axEn i = false ∧ u.axReject i (u.merged m .AX_CFG i (v ||| 1#32)) = 0 :=
  ⟨2, 31, 0x50, (keyed .AX_CFG (31 : Fin 32) (ready)), by decide +kernel⟩

theorem test_AxisEnable_meets_2 : ∃ (m : Fin 8) (i : Fin 32) (v : Word) (s : State),
    let u := s.meets m .AX_CFG i;
    s.mayWrite m .AX_CFG i = true ∧ u.axEn i = false ∧ u.axReject i (u.merged m .AX_CFG i (v ||| 1#32)) ≠ 0 :=
  ⟨2, 31, 0x70, (keyed .AX_CFG (31 : Fin 32) (ready)), by decide +kernel⟩

theorem test_AxisEnable_meets_3 : ∃ (i : Fin 32) (s : State), s.axEn i = true ∧ (s.ax i).tEn = s.T :=
  ⟨31, ((ready.put .AX_CFG 31 0x41).put .AX_PRE_LO 31 70000).modAx 31 fun a => { a with tEn := 2000000 },
    by decide +kernel⟩

theorem test_AxisCommands_meets_1 : ∃ (m : Fin 8) (i : Fin 32) (k : Fin 3) (v : Word) (s : State),
    let u := s.meets m (kReg k) i;
    s.mayWrite m (kReg k) i = true ∧ (f32.nonFinite v = false ∧ (u.axEn i = true → u.axKAccepts i k v = true)) :=
  ⟨2, 31, 2, 0x3F000000, (keyed (kReg (2 : Fin 3)) (31 : Fin 32) (ready)), by decide +kernel⟩

theorem test_AxisCommands_meets_2 : ∃ (m : Fin 8) (i : Fin 32) (s : State),
    let u := s.meets m .AX_STEP i;
    s.mayWrite m .AX_STEP i = true ∧ u.axEn i = true ∧ u.axType i = 6 :=
  ⟨2, 31, (keyed .AX_STEP (31 : Fin 32) (ready.put .AX_CFG (31 : Fin 32) 0x61)), by decide +kernel⟩

theorem test_AxisCommands_meets_3 : ∃ (m : Fin 8) (i : Fin 32) (s : State),
    let u := s.meets m .AX_STEP i;
    s.mayWrite m .AX_STEP i = true ∧ u.axEn i = false ∨ u.axType i ≠ 6 :=
  ⟨2, 31, (keyed .AX_STEP (31 : Fin 32) (ready.put .AX_CFG (31 : Fin 32) 0x51)), by decide +kernel⟩

theorem test_AxisCommands_meets_4 : ∃ (m : Fin 8) (i : Fin 32) (v : Word) (s : State),
    let u := s.meets m .AX_CFG i;
    s.mayWrite m .AX_CFG i = true ∧ u.axEn i = true ∧
      u.merged m .AX_CFG i (v &&& ~~~1#32) = u.get .AX_CFG i &&& ~~~1#32 :=
  ⟨2, 31, 0x50, keyed .AX_CFG 31 (ready.put .AX_CFG 31 0x51), by decide +kernel⟩

theorem test_AxisCommands_meets_5 : ∃ (i : Fin 32) (s : State), s.axEn i = false :=
  ⟨31, ready, by decide +kernel⟩

theorem test_AxisCommands_meets_6 : ∃ (i : Fin 32) (s : State), s.axEn i = true ∧ (s.ax i).tEn ≠ s.T ∧
  s.axType i = 5 :=
  ⟨31, ((((ready.put .AX_CFG (31 : Fin 32) 0x51).put .AX_POS_LO (31 : Fin 32) 0xFFFFFFFA).put .AX_POS_HI (31 : Fin
    32) 0x7FFF).modAx (31 : Fin 32) fun a => { a with tEn := 0 }), by decide +kernel⟩

theorem test_AxisCommands_meets_7 : ∃ (i : Fin 32) (s : State), s.axEn i = true ∧ (s.ax i).tEn ≠ s.T ∧
  s.axType i = 6 :=
  ⟨31, ((((ready.put .AX_CFG (31 : Fin 32) 0x61).put .AX_POS_LO (31 : Fin 32) 0xFFFFFFFA).put .AX_POS_HI (31 : Fin
    32) 0x7FFF).modAx (31 : Fin 32) fun a => { a with tEn := 0, stepDue := 20, stepNew := -5 }), by decide +kernel⟩

theorem test_AxisCommands_meets_8 : ∃ (i : Fin 32) (s : State), s.axEn i = true ∧ (s.ax i).tEn ≠ s.T ∧
  s.axType i = 4 :=
  ⟨31, ((((ready.put .AX_CFG (31 : Fin 32) 0x41).put .AX_POS_LO (31 : Fin 32) 0xFFFFFFFA).put .AX_POS_HI (31 : Fin
    32) 0x7FFF).modAx (31 : Fin 32) fun a =>
      { a with tEn := 0, mains := { f := 0x42480000, base := -5, tb := 1999000 } }), by decide +kernel⟩

theorem test_AxisCommands_meets_9 : ∃ (i : Fin 32) (s : State), s.axEn i = true ∧ (s.ax i).tEn ≠ s.T ∧
  s.axType i = 2 ∧ s.fld AX_CFG_SRC_AX i < i ∧ s.axEn (s.fld AX_CFG_SRC_AX i) = true :=
  ⟨31, ((((((ready.put .AX_CFG (31 : Fin 32) 0x21).put .AX_POS_LO (31 : Fin 32) 0xFFFFFFFA).put .AX_POS_HI (31 : Fin
    32) 0x7FFF).modAx (31 : Fin 32) fun a => { a with tEn := 0 })).put .AX_K0 (31 : Fin 32) 0xBF000000).put .AX_CFG 0
      0x51 |>.put .AX_POS_LO 0 77, by decide +kernel⟩

theorem test_AxisCommands_meets_10 : ∃ (i : Fin 32) (s : State), s.axEn i = true ∧ (s.ax i).tEn ≠ s.T ∧
  s.axType i = 2 ∧ s.axEn (s.fld AX_CFG_SRC_AX i) = false :=
  ⟨31, ((((ready.put .AX_CFG (31 : Fin 32) 0x21).put .AX_POS_LO (31 : Fin 32) 0xFFFFFFFA).put .AX_POS_HI (31 : Fin
    32) 0x7FFF).modAx (31 : Fin 32) fun a => { a with tEn := 0 }), by decide +kernel⟩

theorem test_AxisCommands_meets_11 : ∃ (i : Fin 32) (s : State), s.axEn i = true ∧ (s.ax i).tEn ≠ s.T ∧
  s.axType i = 1 ∨ s.axType i = 3 :=
  ⟨31, (((((((ready.put .AX_CFG (31 : Fin 32) 0x11).put .AX_POS_LO (31 : Fin 32) 0xFFFFFFFA).put .AX_POS_HI (31 : Fin
    32) 0x7FFF).modAx (31 : Fin 32) fun a => { a with tEn := 0 })).put .AX_K0 (31 : Fin 32) 0x40490FDB).put .FB_VEL 0
      0x447A0000).setFb 0 { ce := 5, te := 1999000, tin := 1999000, taken := true, n := 5 } |>.modAx (31 : Fin 32)
        fun a => { a with left := { factor := 0x40490FDB, c := 65536 * 3 } }, by decide +kernel⟩

theorem test_AxisCommands_meets_12 : ∃ (i : Fin 32) (s : State), s.axEn i = true ∧ (s.ax i).tEn ≠ s.T ∧
  s.axType i = 0 ∧ s.axState i = 2 :=
  ⟨31, ((((((ready.put .AX_CFG (31 : Fin 32) 0x1).put .AX_POS_LO (31 : Fin 32) 0xFFFFFFFA).put .AX_POS_HI (31 : Fin
    32) 0x7FFF).modAx (31 : Fin 32) fun a => { a with tEn := 0 })).put .AX_VEL (31 : Fin 32) 0x4A480000).setFld
      AX_STAT_STATE (31 : Fin 32) 2, by decide +kernel⟩

theorem test_AxisCommands_meets_13 : ∃ (i : Fin 32) (s : State), s.axEn i = true ∧ (s.ax i).tEn ≠ s.T ∧
  s.axType i = 0 ∧ s.axState i = 3 :=
  ⟨31, ((((((ready.put .AX_CFG (31 : Fin 32) 0x1).put .AX_POS_LO (31 : Fin 32) 0xFFFFFFFA).put .AX_POS_HI (31 : Fin
    32) 0x7FFF).modAx (31 : Fin 32) fun a => { a with tEn := 0 })).put .AX_VEL (31 : Fin 32) 0x4A480000).setFld
      AX_STAT_STATE (31 : Fin 32) 3, by decide +kernel⟩

theorem test_AxisCommands_meets_14 : ∃ (i : Fin 32) (s : State), s.axEn i = true ∧ (s.ax i).tEn ≠ s.T ∧
  s.axType i = 0 ∧ s.axState i = 1 ∧ s.fld AX_STAT_ACTIVE i < 3 :=
  ⟨31, (((((((ready.put .AX_CFG (31 : Fin 32) 0x1).put .AX_POS_LO (31 : Fin 32) 0xFFFFFFFA).put .AX_POS_HI (31 : Fin
    32) 0x7FFF).modAx (31 : Fin 32) fun a => { a with tEn := 0 })).put .AX_GNSS_V (31 : Fin 32) 0x43FA0000).setFld
      AX_STAT_STATE (31 : Fin 32) 1).setFld AX_STAT_ACTIVE (31 : Fin 32) 2, by decide +kernel⟩

theorem test_AxisSources_meets_1 : ∃ (i : Fin 32) (k : AxSrc) (s : State),
    let u := s.met;
    u.axStaleDue i k = true :=
  ⟨31, .left, ((((ready.put .AX_CFG (31 : Fin 32) 0x01).setFlag AX_SRC_WL_EN (31 : Fin 32) true).setFld AX_STAT_STATE
    (31 : Fin 32) 1).modAx (31 : Fin 32) fun a => { a with tEn := 0, okL := true }), by decide +kernel⟩

theorem test_AxisSources_meets_2 : ∃ (i : Fin 32) (k : AxSrc) (s : State),
    let u := s.met;
    u.axRecoverDue i k = true :=
  ⟨31, .left, ((((ready.put .AX_CFG (31 : Fin 32) 0x01).setFlag AX_SRC_WL_EN (31 : Fin 32) true).put .FB_CFG 0
    1).modAx (31 : Fin 32) fun a => { a with tEn := 0, okL := false, recL := { n := 16, t := 5 } }),
      by decide +kernel⟩

theorem test_AxisSources_meets_3 : ∃ (i : Fin 32) (s : State),
    let u := s.met;
    u.axStopDue i = true :=
  ⟨31, (((ready.put .AX_CFG (31 : Fin 32) 0x01).setFld AX_STAT_STATE (31 : Fin 32) 2).put .AX_VEL (31 : Fin 32)
    7).put .AX_FALL (31 : Fin 32) 0, by decide +kernel⟩

theorem test_AxisSources_meets_4 : ∃ (s : State),
    let u := s.met;
    (u.yawPick u.Tn).isNone = true ∧ u.flag AX_YAW_STAT_LOST 0 = false :=
  ⟨(ready.put .AX_YAW_CFG 0 2).put .AX_YAW 0 5, by decide +kernel⟩

theorem test_MainsAxis_meets_1 : ∃ (h : Fin 3) (o : Fin 2000) (s : State),
    let u := s.met;
    u.deaf = false ∧ (rateTake (2 + h) 140 (u.clk o) u).2 = false :=
  ⟨0, 1999, (((ready.put .AX_CFG 31 0x41).setFld AX_STAT_STATE 31 4).modAx 31 fun a =>
    { a with tEn := 0, mains := { f := 0x42480000, last := 0, armed := false, base := 655360, tb := 1900000 } }),
      by decide +kernel⟩

theorem test_MainsAxis_meets_2 : ∃ (i : Fin 32) (s : State),
    let u := s.met;
    u.axEn i = true ∧ u.axType i = 4 ∧ u.axState i = 1 ∧ (u.ax i).mains.missed = false ∧
      mainsSpan (u.ax i).mains.f 2 1 (u.Tn - (u.ax i).mains.last) = true :=
  ⟨31, ({ (ready.put .AX_CFG (31 : Fin 32) 0x41) with tick := 50000 } : State).setFld AX_STAT_STATE (31 : Fin 32) 9
    |>.modAx (31 : Fin 32) fun a =>
      { a with mains := { f := 0x42480000, last := 0, base := 655360, tb := 1900000 } }, by decide +kernel⟩

theorem test_MainsAxis_meets_3 : ∃ (i : Fin 32) (s : State),
    let u := s.met;
    u.axEn i = true ∧ u.axType i = 4 ∧ u.axState i = 1 ∧
      mainsSpan (u.ax i).mains.f 5 1 (u.Tn - (u.ax i).mains.last) = true :=
  ⟨31, ({ (ready.put .AX_CFG (31 : Fin 32) 0x41) with tick := 50000 } : State).setFld AX_STAT_STATE (31 : Fin 32) 1
    |>.modAx (31 : Fin 32) fun a =>
      { a with mains := { f := 0x42480000, last := 0, base := 655360, tb := 1900000 } }, by decide +kernel⟩

theorem test_ReceiversAndImu_meets_1 : ∃ (s : State),
    let u := s.met;
    u.deaf = false :=
  ⟨ready, by decide +kernel⟩

theorem test_ReceiversAndImu_meets_2 : ∃ (r : Fin 2) (o : Fin 2000) (l : List Byte) (s : State),
    let u := s.met;
    u.deaf = false ∧ (Nmea.parse l).map (·.1) = some 0 ∧ (rateTake (8 + 4 * r) 20 (u.clk o) u).2 = false :=
  ⟨1, 1999, [36, 71, 80, 71, 71, 65, 44, 48, 57, 50, 55, 53, 48, 46, 48, 48, 48, 44, 53, 51, 50, 49, 46, 54, 56, 48,
    50, 44, 78, 44, 48, 48, 54, 51, 48, 46, 51, 51, 55, 50, 44, 87, 44, 52, 44, 56, 44, 49, 46, 48, 51, 44, 54, 49,
      46, 55, 44, 77, 44, 53, 53, 46, 50, 44, 77, 44, 44, 42, 55, 51, 13, 10], ready, by decide +kernel⟩

theorem test_ReceiversAndImu_meets_3 : ∃ (l : List Byte) (s : State),
    let u := s.met;
    u.deaf = false ∧ Nmea.parse l = none :=
  ⟨[36, 71, 80, 71, 71, 65, 44, 49, 42, 52, 65, 13, 10], ready, by decide +kernel⟩

theorem test_ReceiversAndImu_meets_4 : ∃ (r : Fin 2) (o : Fin 2000) (l : List Byte) (s : State),
    let u := s.met;
    u.deaf = false ∧ ((Nmea.parse l).any fun p => p.1 == 3 && (Nmea.dec (Nmea.fieldAt p.2 0)).isSome) = true ∧
      (rateTake (11 + 4 * r) 20 (u.clk o) u).2 = false :=
  ⟨1, 1999, [36, 71, 80, 72, 68, 84, 44, 49, 50, 51, 46, 52, 44, 84, 42, 51, 49, 13, 10], ready, by decide +kernel⟩

theorem test_ReceiversAndImu_meets_5 : ∃ (r : Fin 2) (o : Fin 2000) (l : List Byte) (k : Nat) (s : State),
    let u := s.met;
    u.deaf = false ∧ (Nmea.parse l).map (·.1) = some k ∧ (k = 1 ∨ k = 2) ∧
      (rateTake (8 + 4 * r + k) 20 (u.clk o) u).2 = false :=
  ⟨1, 1999, [36, 71, 80, 82, 77, 67, 44, 48, 57, 50, 55, 53, 48, 46, 48, 48, 48, 44, 65, 44, 53, 51, 50, 49, 46, 54,
    56, 48, 50, 44, 78, 44, 48, 48, 54, 51, 48, 46, 51, 51, 55, 50, 44, 87, 44, 52, 46, 48, 48, 44, 51, 49, 46, 54,
      54, 44, 50, 56, 48, 53, 49, 49, 44, 44, 44, 65, 42, 52, 53, 13, 10], 1, ((((((ready.put .AX_CFG 31 1).setFlag
        AX_SRC_GNSS_EN 31 true).setFld AX_SRC_GNSS_SEL 31 1).setFld AX_GNSS_GNSS_TO 31 1000).modRcv 1 fun g =>
          { g with ggaT := some 1990000, ggaQ := 4 }).modAx 31 fun a => { a with tEn := 0, signG := false }),
            by decide +kernel⟩

theorem test_ReceiversAndImu_meets_6 : ∃ (s : State),
    let u := s.begin';
    u.flag GM_IMU_CFG_EN 0 = true ∧ u.imu.busy = false ∧ (u.tick - u.imu.t0) % u.fld GM_IMU_CFG_PERIOD 0 = 0 :=
  ⟨(ready.setFlag GM_IMU_CFG_EN 0 true).setFld GM_IMU_CFG_PERIOD 0 1, by decide +kernel⟩

theorem test_ReceiversAndImu_meets_7 : ∃ (o : Fin 2000) (s : State),
    let u := s.met;
    u.deaf = false ∧ u.imu.busy = true ∧ (rateTake 1 1000 (u.clk o) u).2 = false :=
  ⟨1999, { ready with imu := { busy := true } }, by decide +kernel⟩

theorem test_ReceiversAndImu_meets_8 : ∃ (s : State),
    let u := s.met;
    u.Tn % 200000000 = 0 :=
  ⟨{ ready with tick := 99999 }, by decide +kernel⟩

theorem test_ReceiversAndImu_meets_9 : ∃ (s : State),
    let u := s.met;
    u.Tn % 200000000 ≠ 0 :=
  ⟨ready, by decide +kernel⟩

theorem test_HostFix_meets_1 : ∃ (m : Fin 8) (s : State),
    let u := s.meets m .GM_FIX_GO 0;
    s.mayWrite m .GM_FIX_GO 0 = true ∧ u.fixCode (u.fixWord m) = 0 ∧ bitsOf (u.fixWord m 0) 31 28 ≠ 3 ∧
      (SMap.get (0, 0) u.rates 20).2 < 100 :=
  ⟨2, (keyed .GM_FIX_GO 0 ((ready.setFlag GM_CTRL_RUN 0 true).put .GM_FIX 16 0x10000000)), by decide +kernel⟩

theorem test_HostFix_meets_2 : ∃ (m : Fin 8) (s : State),
    let u := s.meets m .GM_FIX_GO 0;
    s.mayWrite m .GM_FIX_GO 0 = true ∧ u.fixCode (u.fixWord m) = 0 ∧ bitsOf (u.fixWord m 0) 31 28 = 3 ∧
      (SMap.get (0, 0) u.rates 1).2 < 1000 :=
  ⟨2, (keyed .GM_FIX_GO 0 (((ready.setFlag GM_CTRL_RUN 0 true).put .GM_FIX 16 0x30000002).put .GM_FIX 21
    0x3F800000)), by decide +kernel⟩

theorem test_HostFix_meets_3 : ∃ (m : Fin 8) (n : Nat) (s : State),
    let u := s.meets m .GM_FIX_GO 0;
    2 ≤ m.val ∧ s.mayWrite m .GM_FIX_GO 0 = true ∧ u.fixCode (u.fixWord m) = 0 ∧ bitsOf (u.fixWord m 0) 31 28 ≠ 3 ∧
    SMap.get (0, 0) u.rates 20 = (u.nowClk / 200000000, n) ∧ 100 ≤ n :=
  ⟨2, 100, { (ready.setFlag GM_CTRL_RUN 0 true).put .GM_FIX 16 0x10000000 with rates := [(20, (0, 100))] }, by
    refine ⟨by decide, by decide +kernel, by decide +kernel, by decide +kernel, ?_, by decide⟩
    have h : ∀ x : Nat, (2000000 + x % 2000) / 200000000 = 0 := fun x => by omega
    exact congrArg (fun k => (k, 100)) (h _).symm⟩

theorem test_HostFix_meets_4 : ∃ (m : Fin 8) (s : State),
    let u := s.meets m .GM_FIX_GO 0;
    2 ≤ m.val ∧ s.mayWrite m .GM_FIX_GO 0 = true ∧ u.fixCode (u.fixWord m) ≠ 0 :=
  ⟨2, ready, by decide +kernel⟩

theorem test_LaneCommands_meets_1 : ∃ (m : Fin 8) (n : Fin 256) (v : Word) (s : State),
    let u := s.meets m .LN_CFG n;
    s.mayWrite m .LN_CFG n = true ∧ u.lnCfgErr n (u.merged m .LN_CFG n (v ||| 1#32)) = false :=
  ⟨2, 255, 5, (keyed .LN_CFG (255 : Fin 256) (ready)), by decide +kernel⟩

theorem test_LaneCommands_meets_2 : ∃ (m : Fin 8) (n : Fin 512) (v : Word) (s : State),
    let u := s.meets m .LN_RCFG n;
    s.mayWrite m .LN_RCFG n = true ∧ u.lnRcfgErr (256 + n) (u.merged m .LN_RCFG n (v ||| 1#32)) = false :=
  ⟨2, 511, 5, (keyed .LN_RCFG (511 : Fin 512) (ready)), by decide +kernel⟩

theorem test_LaneCommands_meets_3 : ∃ (m : Fin 8) (n : Fin 256) (v : Word) (s : State),
    let u := s.meets m .LN_CFG n;
    s.mayWrite m .LN_CFG n = true ∧ u.lnEn n = true ∧ u.lnCfgErr n (u.merged m .LN_CFG n (v &&& ~~~1#32)) = false :=
  ⟨2, 255, 5, (keyed .LN_CFG (255 : Fin 256) ((ready.put .LN_CFG (255 : Fin 256) 5).setLane (255 : Fin 256)
    { fill := 3 })), by decide +kernel⟩

theorem test_LaneCommands_meets_4 : ∃ (m : Fin 8) (n : Fin 512) (v : Word) (s : State),
    let u := s.meets m .LN_RCFG n;
    s.mayWrite m .LN_RCFG n = true ∧ u.lnEn (256 + n) = true ∧
      u.lnRcfgErr (256 + n) (u.merged m .LN_RCFG n (v &&& ~~~1#32)) = false :=
  ⟨2, 511, 1, (keyed .LN_RCFG (511 : Fin 512) ((ready.put .LN_RCFG (511 : Fin 512) 1).setLane (256 + (511 : Fin 512))
    { fill := 3 })), by decide +kernel⟩

theorem test_LaneCommands_meets_5 : ∃ (m : Fin 8) (k : Fin 8) (s : State), s.mayWrite m .LN_FLUSH k = true :=
  ⟨2, 7, (keyed .LN_FLUSH (7 : Fin 8) ((ready.setLane 255 { fill := 3 }).setLane 100 { fill := 2 })),
    by decide +kernel⟩

theorem test_LaneCommands_meets_6 : ∃ (m : Fin 8) (k : Fin 16) (s : State), s.mayWrite m .LN_RFLUSH k = true :=
  ⟨2, 15, (keyed .LN_RFLUSH (15 : Fin 16) ((ready.setLane 767 { fill := 3 }).setLane 300 { fill := 2 })),
    by decide +kernel⟩

theorem test_LaneCommands_meets_7 : ∃ (m : Fin 8) (n : Fin 256) (s : State), s.mayWrite m .LN_DON n = true :=
  ⟨2, 255, (keyed .LN_DON (255 : Fin 256) (ready)), by decide +kernel⟩

theorem test_LaneCommands_meets_8 : ∃ (m : Fin 8) (n : Fin 256) (s : State), s.mayWrite m .LN_DOFF n = true :=
  ⟨2, 255, (keyed .LN_DOFF (255 : Fin 256) (ready)), by decide +kernel⟩

theorem test_MarksArePushed_meets_1 : ∃ (m : Fin 8) (v : Word) (s : State),
    let u := s.meets m .LN_PUSH_GO 0;
    let n := bitsOf v 9 0
    let k : Mark := ⟨u.get .LN_PUSH0 m, u.get .LN_PUSH1 m, u.get .LN_PUSH2 m, u.get .LN_PUSH3 m⟩
    s.mayWrite m .LN_PUSH_GO 0 = true ∧
      u.pushCode n k (markTarget k.arg.toNat) (u.markRight (Access.of m) k.arg.toNat) = 0 ∧
    (u.lane n).flushDue = false :=
  ⟨2, 255, ((ready.put .LN_CFG 255 1).put .AX_CFG 0 0x51).put .LN_PUSH1 2 0x1000, by decide +kernel⟩

theorem test_MarksArePushed_meets_2 : ∃ (m : Fin 8) (v : Word) (s : State),
    let u := s.meets m .LN_PUSH_GO 0;
    let n := bitsOf v 9 0
    let k : Mark := ⟨u.get .LN_PUSH0 m, u.get .LN_PUSH1 m, u.get .LN_PUSH2 m, u.get .LN_PUSH3 m⟩
    let c := u.pushCode n k (markTarget k.arg.toNat) (u.markRight (Access.of m) k.arg.toNat)
    2 ≤ m.val ∧ s.mayWrite m .LN_PUSH_GO 0 = true ∧ c ≠ 0 ∧ c ≠ 6 :=
  ⟨2, 1023, ready, by decide +kernel⟩

theorem test_MarksArePushed_meets_3 : ∃ (n : Fin 768) (s : State), mkAct (s.headMark n) = 1 ∨ mkAct (s.headMark n) =
  2 :=
  ⟨255, (((ready.put .LN_CFG (255 : Fin 768) 1).put .AX_CFG 0 0x51).setLane (255 : Fin 768)
    { head := 3, fill := 2 }).wrWords (lnSlot (255 : Fin 768) 3) [0, 0x1000, 0, 0], by decide +kernel⟩

theorem test_MarksArePushed_meets_4 : ∃ (n : Fin 256) (s : State), mkAct (s.headMark n) = 5 :=
  ⟨255, (((ready.put .LN_CFG (255 : Fin 256) 1).put .AX_CFG 0 0x51).setLane (255 : Fin 256)
    { head := 3, fill := 2 }).wrWords (lnSlot (255 : Fin 256) 3) [0, 0x5000, 6, 0], by decide +kernel⟩

theorem test_MarksArePushed_meets_5 : ∃ (n : Fin 256) (i : Fin 32) (s : State), mkAct (s.headMark n) = 8 ∧
  (s.headMark n).arg = BitVec.ofNat 32 (regAddr .AX_STEP i) ∧ s.axEn i = true ∧ s.axType i = 6 ∧
    s.flag PAGE_STAT_DRST_BUSY (regPage .AX_STEP i) = false :=
  ⟨255, 31, (((ready.put .LN_CFG (255 : Fin 256) 1).put .AX_CFG 31 0x61).setLane (255 : Fin 256)
    { head := 3, fill := 2 }).wrWords (lnSlot (255 : Fin 256) 3) [0, 0x8000, BitVec.ofNat 32 (regAddr .AX_STEP 31),
      0xFFFFFFF0], by decide +kernel⟩

theorem test_MarksArePushed_meets_6 : ∃ (n : Fin 256) (i : Fin 32) (s : State), mkAct (s.headMark n) = 8 ∧
  (s.headMark n).arg = BitVec.ofNat 32 (regAddr .AX_STEP i) ∧
    s.flag PAGE_STAT_DRST_BUSY (regPage .AX_STEP i) = true :=
  ⟨255, 31, (((ready.put .LN_CFG (255 : Fin 256) 1).setFlag PAGE_STAT_DRST_BUSY (regPage .AX_STEP 31) true).setLane
    (255 : Fin 256) { head := 3, fill := 2 }).wrWords (lnSlot (255 : Fin 256) 3) [0, 0x8000, BitVec.ofNat 32 (regAddr
      .AX_STEP 31), 0xFFFFFFF0], by decide +kernel⟩

theorem test_MarksArePushed_meets_7 : ∃ (n : Fin 768) (s : State), mkAct (s.headMark n) = 0 :=
  ⟨255, (((ready.put .LN_CFG (255 : Fin 768) 1).put .AX_CFG 0 0x51).setLane (255 : Fin 768)
    { head := 3, fill := 2 }).wrWords (lnSlot (255 : Fin 768) 3) [0, 0, 0, 0], by decide +kernel⟩

theorem test_LeadLearning_meets_1 : ∃ (n : Fin 256) (d : Bool) (q : Nat) (k : Nat) (r : List (Bool × Nat × Nat)) (s :
  State),
    let u := s.met;
    (u.lane n).reports = (d, q, k) :: r ∧ k ≤ u.tick ∧ u.lnHold n = false :=
  ⟨255, true, 500, 1000, [], ready.setLane (255 : Fin 256) { reports := [(true, 500, 1000)], e8On := 4100 },
    by decide +kernel⟩

theorem test_LeadLearning_meets_2 : ∃ (n : Fin 256) (d : Bool) (q : Nat) (k : Nat) (r : List (Bool × Nat × Nat)) (s :
  State),
    let u := s.met;
    (u.lane n).reports = (d, q, k) :: r ∧ k ≤ u.tick ∧ u.lnHold n = true :=
  ⟨127, true, 500, 1000, [], (ready.setLane 127 { reports := [(true, 500, 1000)], e8On := 4100 }).setFlag
    VG_CSTAT_STUCK 127 true, by decide +kernel⟩

theorem test_LeadLearning_meets_3 : ∃ (n : Fin 256) (s : State),
    let u := s.met;
    (u.lane n).reports.all (fun e => decide (u.tick < e.2.2)) = true :=
  ⟨255, ready.setLane (255 : Fin 256) { reports := [(true, 500, 1001)], e8On := 4100 }, by decide +kernel⟩

theorem test_FeedbackCommands_meets_1 : ∃ (m : Fin 8) (c : Fin 24) (v : Word) (s : State),
    let u := s.meets m .FB_CFG c;
    s.mayWrite m .FB_CFG c = true ∧ u.fbEn c = false ∧ fbReject c (u.merged m .FB_CFG c (v ||| 1#32)) = 0 :=
  ⟨2, 23, 8, (keyed .FB_CFG (23 : Fin 24) (ready)), by decide +kernel⟩

theorem test_FeedbackCommands_meets_2 : ∃ (m : Fin 8) (c : Fin 24) (v : Word) (s : State),
    let u := s.meets m .FB_CFG c;
    s.mayWrite m .FB_CFG c = true ∧ u.fbEn c = false ∧ fbReject c (u.merged m .FB_CFG c (v ||| 1#32)) ≠ 0 :=
  ⟨2, 23, 14, (keyed .FB_CFG (23 : Fin 24) (ready)), by decide +kernel⟩

theorem test_FeedbackCommands_meets_3 : ∃ (m : Fin 8) (c : Fin 24) (s : State),
    let u := s.meets m .FB_CTRL c;
    s.mayWrite m .FB_CTRL c = true ∧ u.flag FB_STAT_FAULT c = true :=
  ⟨2, 23, (keyed .FB_CTRL (23 : Fin 24) ((ready.setFlag FB_STAT_FAULT (23 : Fin 24) true).put .FB_EVT_MASK (23 : Fin
    24) 0xFFFF)), by decide +kernel⟩

theorem test_FeedbackCommands_meets_4 : ∃ (m : Fin 8) (c : Fin 24) (s : State),
    let u := s.meets m .FB_CTRL c;
    s.mayWrite m .FB_CTRL c = true ∧ u.flag FB_STAT_FAULT c = false :=
  ⟨2, 23, (keyed .FB_CTRL (23 : Fin 24) (ready)), by decide +kernel⟩

theorem test_FeedbackCommands_meets_5 : ∃ (m : Fin 8) (c : Fin 24) (s : State), s.mayWrite m .FB_CTRL c = true :=
  ⟨2, 23, (keyed .FB_CTRL (23 : Fin 24) ((ready.put .FB_CMP_CNT (23 : Fin 24) 5).put .FB_ERRCNT (23 : Fin 24) 9)),
    by decide +kernel⟩

theorem test_FeedbackCommands_meets_6 : ∃ (m : Fin 8) (c : Fin 24) (v : Word) (s : State),
    let u := s.meets m .FB_CMP c;
    s.mayWrite m .FB_CMP c = true ∧
      u.flag FB_CMP_CFG_CMP_EN c = false ∨ u.flag FB_CMP_CFG_AUTO c = false ∨ cmpAhead (u.flag FB_CMP_CFG_CMP_DIR c)
        (u.fbPos c) (wint v) = true :=
  ⟨2, 23, 77, (keyed .FB_CMP (23 : Fin 24) (ready)), by decide +kernel⟩

theorem test_FeedbackCommands_meets_7 : ∃ (m : Fin 8) (c : Fin 24) (v : Word) (s : State),
    let u := s.meets m .FB_CMP c;
    s.mayWrite m .FB_CMP c = true ∧ u.flag FB_CMP_CFG_CMP_EN c = true ∧ u.flag FB_CMP_CFG_AUTO c = true ∧
      cmpAhead (u.flag FB_CMP_CFG_CMP_DIR c) (u.fbPos c) (wint v) = false :=
  ⟨2, 23, 900, (keyed .FB_CMP (23 : Fin 24) ((((ready.put .FB_CMP_CFG (23 : Fin 24) 5).put .FB_CMP_SPACE (23 : Fin
    24) 250).put .FB_POS (23 : Fin 24) 1037))), by decide +kernel⟩

theorem test_FeedbackCommands_meets_8 : ∃ (m : Fin 8) (c : Fin 24) (v : Word) (s : State), s.mayWrite m .FB_CMP_CFG c
  = true ∧ bitAt v 0 = false ∨ bitAt v 2 = false :=
  ⟨2, 23, 3, (keyed .FB_CMP_CFG (23 : Fin 24) (ready)), by decide +kernel⟩

theorem test_FeedbackCommands_meets_9 : ∃ (m : Fin 8) (n : Fin 8) (v : Word) (s : State), s.mayWrite m .FWD_CFG n =
  true ∧ bitsOf v 2 0 ≤ 4 :=
  ⟨2, 7, 0x2101, (keyed .FWD_CFG (7 : Fin 8) (ready)), by decide +kernel⟩

theorem test_FeedbackEvents_meets_1 : ∃ (c : Fin 24) (ta : Option Nat) (tb : Option Nat) (tz : Option Nat) (a : Bool)
  (b : Bool) (z : Bool) (s : State),
    let u := s.met;
    u.deaf = false ∧ u.fbEn c = false ∧ u.filtered c ta tb tz = (a, b, z) :=
  ⟨23, some 9, none, some 40, true, false, true, ready.put .FB_STAT (23 : Fin 24) 0x05, by decide +kernel⟩

theorem test_FeedbackEvents_meets_2 : ∃ (c : Fin 24) (h : Nat) (s : State),
    let u := s.met;
    u.deaf = false ∧ u.fld FB_FILT_FILT c < h ∧ (u.fbc c).rawA = false ∧ u.fbEn c = true ∧ u.fbMode c = 3 ∧
      u.fld FB_CFG_RES c = 0 ∧ u.fld FB_STAT_LVL c % 2 = 0 ∧ u.flag FB_CMP_CFG_CMP_EN c = false ∧
        (u.fbc c).msN < 4000 ∧ u.fbAllN < 24000 ∧ (u.fbc c).blkN < 1023 :=
  ⟨23, 99, ((ready.put .FB_CFG (23 : Fin 24) 7).modFb (23 : Fin 24) fun f => { f with tEn := 0 }), by decide +kernel⟩

theorem test_FeedbackEvents_meets_3 : ∃ (c : Fin 24) (h : Nat) (s : State),
    let u := s.met;
    h ≤ u.fld FB_FILT_FILT c ∨ (u.fbc c).rawA = true :=
  ⟨23, 0, (ready.put .FB_CFG (23 : Fin 24) 7), by decide +kernel⟩

theorem test_FeedbackEvents_meets_4 : ∃ (c : Fin 24) (a : Bool) (s : State),
    let u := s.met;
    ((u.fbc c).blankEnd.any fun e => decide (e < u.Tn)) = true ∧ u.fbEn c = true ∧ u.fbMode c = 4 ∧
      (decide (u.fld FB_STAT_LVL c % 2 = 1)) = a ∧ (u.fbc c).accA ≠ a :=
  ⟨23, true, ((ready.put .FB_CFG (23 : Fin 24) 9).put .FB_STAT (23 : Fin 24) 1).setFb (23 : Fin 24)
    { blankEnd := some 77 }, by decide +kernel⟩

theorem test_FeedbackEvents_meets_5 : ∃ (c : Fin 24) (a : Bool) (s : State),
    let u := s.met;
    ((u.fbc c).blankEnd.any fun e => decide (e < u.Tn)) = true ∧ (decide (u.fld FB_STAT_LVL c % 2 = 1)) = a ∧
      (u.fbc c).accA = a :=
  ⟨23, true, ((ready.put .FB_CFG (23 : Fin 24) 9).put .FB_STAT (23 : Fin 24) 1).setFb (23 : Fin 24)
    { blankEnd := some 77, accA := true }, by decide +kernel⟩

theorem test_FeedbackEvents_meets_6 : ∃ (c : Fin 24) (s : State),
    let u := s.met;
    (u.fbc c).blankEnd.all (fun e => decide (u.Tn ≤ e)) = true :=
  ⟨23, ((ready.put .FB_CFG (23 : Fin 24) 9).put .FB_STAT (23 : Fin 24) 1).setFb (23 : Fin 24)
    { blankEnd := some 2002000 }, by decide +kernel⟩

theorem test_FeedbackEvents_meets_7 : ∃ (c : Fin 24) (s : State),
    let u := s.met;
    u.fbEn c = true ∧ u.fbMode c ≠ 4 ∧ u.fld FB_OBS_STALE_MS c ≠ 0 ∧ u.flag FB_STAT_STALE c = false ∧
      (u.fbc c).te + 200000 * u.fld FB_OBS_STALE_MS c ≤ u.Tn :=
  ⟨23, ((ready.put .FB_CFG (23 : Fin 24) 1).setFld FB_OBS_STALE_MS (23 : Fin 24) 2).put .FB_VEL (23 : Fin 24)
    0x3F800000, by decide +kernel⟩

theorem test_FeedbackEvents_meets_8 : ∃ (c : Fin 24) (s : State),
    let u := s.begin';
    u.fbEn c = true ∧ u.fbMode c = 5 ∧ (u.fbc c).tEn ≤ u.T ∧
      (u.tick - (u.fbc c).tEn / 2000) % u.fld FB_SSI2_PERIOD c = 0 ∧
        ((u.fbc c).ssi.endT.all fun e => decide (e + 200 * u.fld FB_SSI_TM c ≤ u.Tn)) = true :=
  ⟨23, (ready.put .FB_CFG (23 : Fin 24) 11).setFld FB_SSI2_PERIOD (23 : Fin 24) 1, by decide +kernel⟩

theorem test_FeedbackEvents_meets_9 : ∃ (c : Fin 24) (s : State),
    let u := s.begin';
    u.fbEn c = true ∧ u.fbMode c = 5 ∧ (u.fbc c).tEn ≤ u.T ∧
      (u.tick - (u.fbc c).tEn / 2000) % u.fld FB_SSI2_PERIOD c = 0 ∧
        ((u.fbc c).ssi.endT.any fun e => decide (u.Tn < e + 200 * u.fld FB_SSI_TM c)) = true :=
  ⟨23, (((ready.put .FB_CFG (23 : Fin 24) 11).setFld FB_SSI2_PERIOD (23 : Fin 24) 1).setFld FB_SSI_TM (23 : Fin 24)
    20).setFb (23 : Fin 24) { ssi := { busy := true, endT := some 1999000 } }, by decide +kernel⟩

theorem test_FeedbackEvents_meets_10 : ∃ (c : Fin 24) (s : State),
    let u := s.met;
    u.deaf = false ∧ u.fbEn c = true ∧ u.fbMode c = 5 ∧ (u.fbc c).ssi.busy = true ∧
      (u.fbc c).ssi.latch + u.ssiTime c < u.Tn :=
  ⟨23, (ready.put .FB_CFG (23 : Fin 24) 11).setFb (23 : Fin 24) { ssi := { busy := true } }, by decide +kernel⟩

theorem test_FeedbackEvents_meets_11 : ∃ (c : Fin 24) (s : State),
    let u := s.met;
    u.deaf = false ∧ u.fbEn c = true ∧ u.fbMode c = 5 ∧ (u.fbc c).ssi.busy = true ∧
      (u.fbc c).ssi.latch + u.ssiTime c < u.Tn ∧ u.fld FB_SSI2_JMAX c = 0 ∧ u.flag FB_CMP_CFG_CMP_EN c = false :=
  ⟨23, ((ready.put .FB_CFG (23 : Fin 24) 11).setFld FB_SSI_BITS (23 : Fin 24) 12).setFb (23 : Fin 24)
    { ssi := { busy := true } }, by decide +kernel⟩

theorem test_FeedbackEvents_meets_12 : ∃ (c : Fin 24) (s : State), s.fbEn c = true ∧ s.fbMode c ≠ 4 :=
  ⟨23, ((((ready.put .FB_CFG (23 : Fin 24) 7).put .FB_VEL (23 : Fin 24) 0x44FA0000).put .FB_ACC (23 : Fin 24)
    0x43FA0000).put .FB_VP (23 : Fin 24) 0x44F00000).setFb (23 : Fin 24)
      { ce := 9, xh := 550000, te := 1900000, taken := true, g1 := 0x3D000000, g2 := 0x43000000, g3 := 0x45000000 },
        by decide +kernel⟩

theorem test_SliceCommands_meets_1 : ∃ (m : Fin 8) (n : Fin 128) (v : Word) (s : State),
    let u := s.meets m .VS_CFG n;
    s.mayWrite m .VS_CFG n = true ∧ u.vsEn n = false ∧ u.vsReject n (u.merged m .VS_CFG n (v ||| 1#32)) = 0 :=
  ⟨2, 127, 2, (keyed .VS_CFG (127 : Fin 128) (ready)), by decide +kernel⟩

theorem test_SliceCommands_meets_2 : ∃ (m : Fin 8) (n : Fin 128) (v : Word) (s : State),
    let u := s.meets m .VS_CFG n;
    s.mayWrite m .VS_CFG n = true ∧ u.vsEn n = false ∧ u.vsReject n (u.merged m .VS_CFG n (v ||| 1#32)) ≠ 0 :=
  ⟨2, 127, 6, (keyed .VS_CFG (127 : Fin 128) (ready)), by decide +kernel⟩

theorem test_SliceCommands_meets_3 : ∃ (m : Fin 8) (n : Fin 128) (s : State), s.mayWrite m .VS_DUTY n = true :=
  ⟨2, 127, (keyed .VS_DUTY (127 : Fin 128) (ready)), by decide +kernel⟩

theorem test_SliceCommands_meets_4 : ∃ (m : Fin 8) (n : Fin 128) (s : State), s.mayWrite m .VS_CTRL n = true :=
  ⟨2, 127, (keyed .VS_CTRL (127 : Fin 128) (ready)), by decide +kernel⟩

theorem test_SliceCommands_meets_5 : ∃ (m : Fin 8) (n : Fin 128) (s : State), s.mayWrite m .VS_CTRL n = true :=
  ⟨2, 127, (keyed .VS_CTRL (127 : Fin 128) (ready.put .VS_CNT (127 : Fin 128) 77)), by decide +kernel⟩

theorem test_SliceReloads_meets_1 : ∃ (n : Fin 128) (x : Nat) (s : State),
    let u := s.met;
    u.sliceNext n = some x ∧ u.vsMode n = 1 ∧ (u.slice n).sh.ups = [] ∧
      (u.vsPaired n = false ∨ (u.slice n).sh.commit = true) ∧ (u.slice n).sh.per < 2 ^ 32 ∧
        (u.slice n).sh.on < 2 ^ 32 :=
  ⟨127, 1500, (((ready.put .VS_CFG (127 : Fin 128) 3).put .VS_ON (127 : Fin 128) 1000).put .VS_PER_ACT (127 : Fin
    128) 9000).modSlice (127 : Fin 128) fun q => { q with cmd := true, nextP := some 1500 }, by decide +kernel⟩

theorem test_SliceReloads_meets_2 : ∃ (n : Fin 128) (x : Nat) (s : State),
    let u := s.met;
    u.sliceNext n = some x ∧ u.vsMode n = 1 ∧ (u.slice n).sh.ups = [] ∧ u.vsPaired n = true ∧
      (u.slice n).sh.commit = false :=
  ⟨127, 1500, (((ready.put .VS_CFG (127 : Fin 128) 0xB).put .VS_ON (127 : Fin 128) 700).put .VS_PER_ACT (127 : Fin
    128) 9000).modSlice (127 : Fin 128) fun q =>
      { q with cmd := true, nextP := some 1500, sh := { per := 600, on := 50, pendP := true, pendOn := true } },
        by decide +kernel⟩

theorem test_SliceReloads_meets_3 : ∃ (n : Fin 128) (s : State),
    let u := s.met;
    u.sliceNext n = none :=
  ⟨127, ((((ready.put .VS_CFG (127 : Fin 128) 3).put .VS_ON (127 : Fin 128) 700).put .VS_PER_ACT (127 : Fin 128)
    9000).modSlice (127 : Fin 128) fun q => { q with cmd := true, nextP := some 1500 }).modSlice (127 : Fin 128) fun
      q => { q with nextP := some 3000000 }, by decide +kernel⟩

theorem test_BridgePairs_meets_1 : ∃ (m : Fin 8) (n : Fin 24) (s : State),
    let u := s.meets m .BP_CFG n;
    s.mayWrite m .BP_CFG n = true ∧ u.bpEn n = false ∧
      u.fld BP_DT_DT_R n + u.fld BP_DT_DT_F n < (u.get .BP_PERIOD n).toNat :=
  ⟨2, 23, (keyed .BP_CFG (23 : Fin 24) (ready.put .BP_ON (23 : Fin 24) 5)), by decide +kernel⟩

theorem test_BridgePairs_meets_2 : ∃ (m : Fin 8) (n : Fin 24) (s : State),
    let u := s.meets m .BP_CFG n;
    s.mayWrite m .BP_CFG n = true ∧ u.bpEn n = false ∧
      (u.get .BP_PERIOD n).toNat ≤ u.fld BP_DT_DT_R n + u.fld BP_DT_DT_F n :=
  ⟨2, 23, (keyed .BP_CFG (23 : Fin 24) ((ready.put .BP_PERIOD (23 : Fin 24) 200).put .BP_DT (23 : Fin 24)
    0x00640064)), by decide +kernel⟩

theorem test_BridgePairs_meets_3 : ∃ (n : Fin 24) (x : Nat) (s : State),
    let u := s.met;
    u.bpEn n = true ∧ (u.pair n).nextP = some x ∧ x < u.Tn ∧ (u.pair n).sh.ups = [] ∧ u.bpPer n = 0 :=
  ⟨23, 1500, (ready.put .BP_CFG (23 : Fin 24) 1).modPair (23 : Fin 24) fun q =>
    { q with nextP := some 1500, sh := { per := 600, on := 50 } }, by decide +kernel⟩

theorem test_BridgePairs_meets_4 : ∃ (n : Fin 24) (x : Nat) (s : State),
    let u := s.met;
    u.bpEn n = true ∧ (u.pair n).nextP = some x ∧ x < u.Tn ∧ (u.pair n).sh.ups = [] ∧ u.bpPer n ≠ 0 ∧
      (u.pair n).sh.per < 2 ^ 32 ∧ (u.pair n).sh.on < 2 ^ 32 :=
  ⟨23, 1500, ((ready.put .BP_CFG (23 : Fin 24) 1).modPair (23 : Fin 24) fun q =>
    { q with nextP := some 1500, sh := { per := 600, on := 50, pendP := true } }).put .BP_PER_ACT (23 : Fin 24) 900,
      by decide +kernel⟩

theorem test_BridgePairs_meets_5 : ∃ (n : Fin 24) (s : State),
    let u := s.met;
    u.bpEn n = false ∨ (u.pair n).nextP = none :=
  ⟨23, ready, by decide +kernel⟩

theorem test_BridgePairs_meets_6 : ∃ (m : Fin 8) (n : Fin 24) (s : State), s.mayWrite m .BP_CTRL n = true :=
  ⟨2, 23, (keyed .BP_CTRL (23 : Fin 24) (ready)), by decide +kernel⟩

theorem test_BridgePairs_meets_7 : ∃ (m : Fin 8) (n : Fin 24) (s : State), s.mayWrite m .BP_CTRL n = true :=
  ⟨2, 23, (keyed .BP_CTRL (23 : Fin 24) (ready.put .BP_CNT (23 : Fin 24) 77)), by decide +kernel⟩

theorem test_FaultInputs_meets_1 : ∃ (n : Fin 8) (s : State),
    let u := s.met;
    u.deaf = false ∧ u.flag PG_FLT_CFG_EN n = true ∧ u.rbit .PG_FLT_STAT 0 n = false ∧
      u.rbit .PG_FLT_STAT 0 (8 + n) = false :=
  ⟨7, (ready.put .PG_FLT_CFG (7 : Fin 8) 0x80010003).setFlag VG_STAT_HS_ON 15 true, by decide +kernel⟩

theorem test_FaultInputs_meets_2 : ∃ (n : Fin 8) (s : State),
    let u := s.met;
    u.deaf = false ∧ u.flag PG_FLT_CFG_EN n = false :=
  ⟨7, ready, by decide +kernel⟩

theorem test_FaultInputs_meets_3 : ∃ (s : State),
    let u := s.met;
    u.deaf = false :=
  ⟨ready.put .PG_FLT_STAT 0 0xFFFF, by decide +kernel⟩

theorem test_FaultInputs_meets_4 : ∃ (m : Fin 8) (v : Word) (s : State),
    let u := s.meets m .PG_FLT_CLR 0;
    s.mayWrite m .PG_FLT_CLR 0 = true ∧ (∀ n : Fin 8, bitAt v n = true → u.rbit .PG_FLT_STAT 0 n = false) :=
  ⟨2, 0x81, (keyed .PG_FLT_CLR 0 ((ready.put .PG_FLT_STAT 0 0x8300).put .PG_FLT_CFG 1 0x10001)), by decide +kernel⟩

theorem test_FaultInputs_meets_5 : ∃ (m : Fin 8) (v : Word) (s : State),
    let u := s.meets m .PG_FLT_CLR 0;
    s.mayWrite m .PG_FLT_CLR 0 = true ∧ (∃ n : Fin 8, bitAt v n = true ∧ u.rbit .PG_FLT_STAT 0 n = true) :=
  ⟨2, 0x80, (keyed .PG_FLT_CLR 0 (ready.put .PG_FLT_STAT 0 0x8080)), by decide +kernel⟩

theorem test_SwitchCommands_meets_1 : ∃ (n : Fin 24) (o : Fin 2000) (s : State),
    let u := s.met;
    u.lsDown = false ∧ u.lsSrc n = true ∧ u.flag LS_STAT_SRCCMD n = false ∧ u.lsHeld n = false ∧
      ((u.lsc n).offT.all fun e : Int => decide (e + 200000 * u.fld LS_INR_REARM n ≤ u.clk o)) = true :=
  ⟨23, 1999, ready.setFlag LS_STAT_REG (23 : Fin 24) true, by decide +kernel⟩

theorem test_SwitchCommands_meets_2 : ∃ (n : Fin 24) (o : Fin 2000) (e : Int) (s : State),
    let u := s.met;
    u.lsDown = false ∧ u.lsSrc n = true ∧ u.flag LS_STAT_SRCCMD n = false ∧ u.lsHeld n = false ∧
      (u.lsc n).offT = some e ∧ u.clk o < e + 200000 * u.fld LS_INR_REARM n :=
  ⟨23, 1999, 2001000, ((ready.setFlag LS_STAT_REG (23 : Fin 24) true).setFld LS_INR_REARM (23 : Fin 24) 3).modLs (23
    : Fin 24) fun c => { c with offT := some 2001000 }, by decide +kernel⟩

theorem test_SwitchCommands_meets_3 : ∃ (n : Fin 24) (s : State),
    let u := s.met;
    u.lsDown = false ∧ u.lsSrc n = true ∧ u.flag LS_STAT_SRCCMD n = false ∧ u.lsHeld n = true :=
  ⟨23, (ready.setFlag LS_STAT_REG (23 : Fin 24) true).modLs (23 : Fin 24) fun c => { c with hot := true },
    by decide +kernel⟩

theorem test_SwitchCommands_meets_4 : ∃ (n : Fin 24) (s : State),
    let u := s.met;
    u.lsDown = false ∧ u.lsSrc n = false ∧ u.flag LS_STAT_SRCCMD n = true :=
  ⟨23, ((ready.setFlag LS_STAT_SRCCMD (23 : Fin 24) true).setFlag LS_STAT_OUT (23 : Fin 24) true).setFld LS_STAT_RC
    (23 : Fin 24) 5, by decide +kernel⟩

theorem test_SwitchCommands_meets_5 : ∃ (n : Fin 24) (s : State),
    let u := s.met;
    u.lsDown = true ∨ u.lsSrc n = u.flag LS_STAT_SRCCMD n :=
  ⟨23, ready, by decide +kernel⟩

theorem test_SwitchCommands_meets_6 : ∃ (s : State),
    let u := s.met;
    u.lsDown = false ∧ u.inReplay = false :=
  ⟨ready.modLs (23 : Fin 24) fun c => { c with src := 5 }, by decide +kernel⟩

theorem test_SwitchCommands_meets_7 : ∃ (s : State),
    let u := s.met;
    u.lsDown = true ∨ u.inReplay = true :=
  ⟨replaying, by decide +kernel⟩

theorem test_SwitchCommands_meets_8 : ∃ (n : Fin 24) (e : Nat) (s : State),
    let u := s.met;
    (u.lsc n).win = some e ∧ (e < u.Tn ∨ (u.lsc n).loose = true) :=
  ⟨23, 9, (ready.setFlag LS_STAT_OUT (23 : Fin 24) true).modLs (23 : Fin 24) fun c => { c with win := some 9 },
    by decide +kernel⟩

theorem test_SwitchCommands_meets_9 : ∃ (n : Fin 24) (s : State),
    let u := s.met;
    (u.lsc n).win = none ∨ ((u.lsc n).loose = false ∧ ((u.lsc n).win.all fun e => decide (u.Tn ≤ e)) = true) :=
  ⟨23, ready, by decide +kernel⟩

theorem test_SwitchCommands_meets_10 : ∃ (n : Fin 24) (k : Nat) (s : State),
    let u := s.begin';
    (u.lsc n).pause = some k ∧ (k ≤ u.tick ∨ (u.lsc n).loose = true) ∧ u.flag LS_STAT_SRCCMD n = true ∧
      u.flag LS_STAT_OUT n = false ∧ u.lsLatched n = false ∧ (u.lsc n).hot = false ∧ u.lsUv n = false :=
  ⟨23, 1000, ((ready.setFlag LS_STAT_SRCCMD (23 : Fin 24) true).put .LS_EVT_MASK (23 : Fin 24) 0xFF).modLs (23 : Fin
    24) fun c => { c with pause := some 1000 }, by decide +kernel⟩

theorem test_SwitchCommands_meets_11 : ∃ (n : Fin 24) (k : Nat) (s : State),
    let u := s.begin';
    (u.lsc n).pause = some k ∧ (k ≤ u.tick ∨ (u.lsc n).loose = true) ∧ u.flag LS_STAT_SRCCMD n = false :=
  ⟨23, 1000, ready.modLs (23 : Fin 24) fun c => { c with pause := some 1000 }, by decide +kernel⟩

theorem test_SwitchCommands_meets_12 : ∃ (n : Fin 24) (s : State),
    let u := s.begin';
    (u.lsc n).pause = none ∨ ((u.lsc n).loose = false ∧ ((u.lsc n).pause.all fun k => decide (u.tick < k)) = true) :=
  ⟨23, ready, by decide +kernel⟩

theorem test_SwitchProtection_meets_1 : ∃ (n : Fin 24) (i : Word) (s : State),
    let u := s.met;
    u.inReplay = false ∧ u.flag LS_STAT_OUT n = true ∧ f32.le (u.lsThreshold n) i = true :=
  ⟨23, 0x41000000, (ready.setFlag LS_STAT_OUT (23 : Fin 24) true).setFld LS_CFG_RETRY_N (23 : Fin 24) 3,
    by decide +kernel⟩

theorem test_SwitchProtection_meets_2 : ∃ (n : Fin 24) (i : Word) (s : State),
    let u := s.met;
    u.inReplay = true ∨ u.flag LS_STAT_OUT n = false ∨ f32.le (u.lsThreshold n) i = false :=
  ⟨23, 0, ready, by decide +kernel⟩

theorem test_SwitchProtection_meets_3 : ∃ (n : Fin 24) (tj : Word) (s : State),
    let u := s.met;
    u.inReplay = false ∧ f32.le (degC 170) tj = true ∧ (u.lsc n).maxed = false :=
  ⟨23, 0x432A0000, (ready.setFlag LS_STAT_OUT (23 : Fin 24) true).setFlag LS_CFG_TH_MODE (23 : Fin 24) true,
    by decide +kernel⟩

theorem test_SwitchProtection_meets_4 : ∃ (n : Fin 24) (tj : Word) (s : State),
    let u := s.met;
    u.inReplay = false ∧ f32.le (degC 170) tj = true ∧ (u.lsc n).maxed = true :=
  ⟨23, 0x432A0000, ready.modLs (23 : Fin 24) fun c => { c with maxed := true }, by decide +kernel⟩

theorem test_SwitchProtection_meets_5 : ∃ (n : Fin 24) (tj : Word) (s : State),
    let u := s.met;
    u.inReplay = false ∧ f32.le tj (degC 150) = true ∧ (u.lsc n).maxed = true ∧ (u.lsc n).hot = true ∧
      u.flag LS_STAT_SRCCMD n = true ∧ u.flag LS_STAT_OUT n = false ∧ u.lsLatched n = false ∧ u.lsUv n = false ∧
        (u.lsc n).pause = none :=
  ⟨23, 0x43160000, (ready.setFlag LS_STAT_SRCCMD (23 : Fin 24) true).modLs (23 : Fin 24) fun c =>
    { c with hot := true, maxed := true }, by decide +kernel⟩

theorem test_SwitchProtection_meets_6 : ∃ (n : Fin 24) (tj : Word) (s : State),
    let u := s.met;
    u.inReplay = false ∧ f32.le tj (degC 150) = true ∧ (u.lsc n).maxed = true ∧ u.flag LS_STAT_SRCCMD n = false :=
  ⟨23, 0x43160000, ready.modLs (23 : Fin 24) fun c => { c with hot := true, maxed := true }, by decide +kernel⟩

theorem test_SwitchProtection_meets_7 : ∃ (g : Fin 4) (mv : Nat) (s : State),
    let u := s.met;
    mv < 5000 ∧ u.inReplay = false ∧ u.rbit .LS_SUP_STAT 0 g = false :=
  ⟨3, 4999, ready.setFlag LS_STAT_OUT 23 true, by decide +kernel⟩

theorem test_SwitchProtection_meets_8 : ∃ (g : Fin 4) (mv : Nat) (s : State),
    let u := s.met;
    5500 ≤ mv ∧ u.inReplay = false ∧ u.rbit .LS_SUP_STAT 0 g = true :=
  ⟨3, 5500, (ready.put .LS_SUP_STAT 0 0xF).setFlag LS_STAT_SRCCMD 23 true, by decide +kernel⟩

theorem test_SwitchDie_meets_1 : ∃ (m : Fin 8) (n : Fin 24) (s : State), s.mayWrite m .LS_CTRL n = true :=
  ⟨2, 23, (keyed .LS_CTRL (23 : Fin 24) ((ready.setFlag LS_STAT_OC_LATCH (23 : Fin 24) true).setFlag LS_STAT_SRCCMD
    (23 : Fin 24) true)), by decide +kernel⟩

theorem test_SwitchDie_meets_2 : ∃ (m : Fin 8) (n : Fin 24) (s : State),
    let u := s.meets m .LS_CTRL n;
    s.mayWrite m .LS_CTRL n = true ∧ u.lsThclrErr n = false :=
  ⟨2, 23, (keyed .LS_CTRL (23 : Fin 24) ((ready.setFlag LS_STAT_TH_LATCH (23 : Fin 24) true).setFlag LS_STAT_SRCCMD
    (23 : Fin 24) true)), by decide +kernel⟩

theorem test_SwitchDie_meets_3 : ∃ (m : Fin 8) (n : Fin 24) (s : State),
    let u := s.meets m .LS_CTRL n;
    s.mayWrite m .LS_CTRL n = true ∧ f32.lt (degC 150) (u.get .LS_TJ n) = true :=
  ⟨2, 23, (keyed .LS_CTRL (23 : Fin 24) (ready.put .LS_TJ (23 : Fin 24) 0x43170000)), by decide +kernel⟩

theorem test_SwitchDie_meets_4 : ∃ (m : Fin 8) (n : Fin 24) (s : State), s.mayWrite m .LS_CTRL n = true :=
  ⟨2, 23, (keyed .LS_CTRL (23 : Fin 24) (ready.put .LS_CNT (23 : Fin 24) 5)), by decide +kernel⟩

theorem test_SwitchDie_meets_5 : ∃ (m : Fin 8) (s : State), s.mayWrite m .LS_GCTRL 0 = true :=
  ⟨2, (keyed .LS_GCTRL 0 ((ready.setFlag LS_DIE_COLD 0 true).setFlag LS_DIE_HB_LOST 0 true)), by decide +kernel⟩

theorem test_SwitchDie_meets_6 : ∃ (m : Fin 8) (s : State), s.mayWrite m .LS_GCTRL 0 = true :=
  ⟨2, (keyed .LS_GCTRL 0 ((ready.setFlag LS_DIE_COLD 0 true).setFlag LS_DIE_HB_LOST 0 true)), by decide +kernel⟩

theorem test_ControlLoops_meets_1 : ∃ (m : Fin 8) (n : Fin 64) (v : Word) (s : State),
    let u := s.meets m .LP_CFG n;
    s.mayWrite m .LP_CFG n = true ∧ u.lpEn n = false ∧ u.lpReject n (u.merged m .LP_CFG n (v ||| 1#32)) = 0 :=
  ⟨2, 63, 0, (keyed .LP_CFG (63 : Fin 64) (((ready.setFld LP_SRC_FB_SRC (63 : Fin 64) (8 * 256)).setFlag LP_STAT_BANK
    (63 : Fin 64) true).put .LP_PERIOD (63 : Fin 64) 0xFFFFFFFF)), by decide +kernel⟩

theorem test_ControlLoops_meets_2 : ∃ (m : Fin 8) (n : Fin 64) (v : Word) (s : State),
    let u := s.meets m .LP_CFG n;
    s.mayWrite m .LP_CFG n = true ∧ u.lpEn n = false ∧ u.lpReject n (u.merged m .LP_CFG n (v ||| 1#32)) ≠ 0 :=
  ⟨2, 63, 0, (keyed .LP_CFG (63 : Fin 64) (ready.setFld LP_SRC_FB_SRC (63 : Fin 64) 0)), by decide +kernel⟩

theorem test_ControlLoops_meets_3 : ∃ (n : Fin 64) (s : State),
    let u := s.begin';
    u.lpDue n = false :=
  ⟨63, ready, by decide +kernel⟩

theorem test_ControlLoops_meets_4 : ∃ (n : Fin 64) (p : Nat) (s : State),
    let u := s.begin';
    u.lpDue n = true ∧ (u.lp n).taken = some p ∧ u.tick - p < 10 :=
  ⟨63, 991,
    { ((((ready.setFlag LP_CFG_EN (63 : Fin 64) true).setFld LP_CFG_SMODE (63 : Fin 64) 2).put .LP_EVT_MASK (63 : Fin 64) 0xFF).modLp (63 : Fin 64) fun l => { l with taken := some 991 }) with sampleReq := [63] }, by decide +kernel⟩

theorem test_ControlLoops_meets_5 : ∃ (n : Fin 64) (s : State),
    let u := s.begin';
    u.lpDue n = true ∧ ((u.lp n).taken.all fun k => decide (10 ≤ u.tick - k)) = true ∧ (u.lp n).first = true ∧
      u.fld LP_SRC_SP_SRC n / 256 = 0 ∧ u.fld LP_SRC_FB_SRC n / 256 = 8 ∧ ∀ k : Fin 4, u.tgDrives k n = false :=
  ⟨63,
    { (((((((ready.setFlag LP_CFG_EN (63 : Fin 64) true).setFld LP_CFG_SMODE (63 : Fin 64) 2).put .LP_EVT_MASK (63 : Fin 64) 0xFF).setFld LP_SRC_FB_SRC (63 : Fin 64) 2051).put .LP_SP (63 : Fin 64) 0x40A00000).put .AO_RB 3 0x3F800000).setFlag LP_STAT_BPEND (63 : Fin 64) true) with sampleReq := [63] }, by decide +kernel⟩

theorem test_ControlLoops_meets_6 : ∃ (n : Fin 64) (p : Nat) (s : State),
    let u := s.begin';
    u.lpDue n = true ∧ ((u.lp n).taken.all fun k => decide (10 ≤ u.tick - k)) = true ∧ (u.lp n).first = false ∧
      (u.lp n).prev = some p ∧ (u.lp n).st = 0 ∧ (u.lp n).await = false ∧ u.flag LP_STAT_BPEND n = false ∧
        u.fld LP_SRC_SP_SRC n / 256 = 0 ∧ u.fld LP_SRC2_FF_SRC n / 256 = 0 ∧ u.fld LP_SRC_FB_SRC n / 256 = 8 ∧
          ∀ k : Fin 4, u.tgDrives k n = false :=
  ⟨63, 980,
    { ((((((((((((ready.setFlag LP_CFG_EN (63 : Fin 64) true).setFld LP_CFG_SMODE (63 : Fin 64) 2).put .LP_EVT_MASK (63 : Fin 64) 0xFF).setFld LP_SRC_FB_SRC (63 : Fin 64) 2051).put .LP_SP (63 : Fin 64) 0x40A00000).put .AO_RB 3 0x3F800000).setFlag LP_STAT_BANK (63 : Fin 64) true).put .LP_KP 127 0x40000000).put .LP_OMAX (63 : Fin 64) 0x40800000).put .LP_I (63 : Fin 64) 0x3E000000).modLp (63 : Fin 64) fun l => { l with prev := some 980, taken := some 980, first := false, await := false, r := 0x3F800000, d := 0x3DCCCCCD })) with sampleReq := [63] }, by decide +kernel⟩

theorem test_ControlLoops_meets_7 : ∃ l : Word, f32.isZero l = false :=
  ⟨0x40000000, by decide +kernel⟩

theorem test_ControlLoops_meets_8 : ∃ l a : Word, f32.isZero l = false ∧ f32.isZero a = false :=
  ⟨0x40000000, 0x40000000, by decide +kernel⟩

theorem test_ControlLoops_meets_9 : ∃ (n : Fin 64) (s : State),
    let u := s.begin';
    u.lpResultDue n = none :=
  ⟨63, ready, by decide +kernel⟩

theorem test_ControlLoops_meets_10 : ∃ (n : Fin 64) (e : LpSmp) (s : State),
    let u := s.begin';
    u.lpResultDue n = some e ∧ u.flag LP_CFG_GRP_EN n = false ∧ (u.lpTarget n).1 = 0 ∧ e.tests = [] ∧ e.causes = [] :=
  ⟨63, { k := 992, y := 5, r := 6, v := 0x40A00000, w := 0x40000000, lost := true, ts := some 0x3C23D70A },
    ((((ready.setFlag LP_CFG_EN (63 : Fin 64) true).setFld LP_CFG_SMODE (63 : Fin 64) 2).put .LP_EVT_MASK (63 : Fin
      64) 0xFF).modLp (63 : Fin 64) fun l =>
        { l with smp := some { k := 992, y := 5, r := 6, v := 0x40A00000, w := 0x40000000, lost := true, ts := some 0x3C23D70A } }).put .LP_SLEW (63 : Fin 64) 0x3F800000, by decide +kernel⟩

theorem test_ControlLoops_meets_11 : ∃ (n : Fin 64) (e : LpSmp) (a : Fin 4) (s : State),
    let u := s.begin';
    u.lpResultDue n = some e ∧ u.flag LP_CFG_GRP_EN n = false ∧ u.lpTarget n = (2, a.val) ∧
      u.flag AO_CFG_SRC a = true ∧ e.dust = false ∧ u.lpHolds 2 a = false ∧ e.tests = [] ∧ e.causes = [] :=
  ⟨63, { k := 992, y := 5, r := 6, v := 0x40A00000, w := 0x40000000, lost := true }, 3, ((((((ready.setFlag LP_CFG_EN
    (63 : Fin 64) true).setFld LP_CFG_SMODE (63 : Fin 64) 2).put .LP_EVT_MASK (63 : Fin 64) 0xFF).modLp (63 : Fin 64)
      fun l =>
        { l with smp := some { k := 992, y := 5, r := 6, v := 0x40A00000, w := 0x40000000, lost := true } }).setFld
          LP_CFG_TGT_KIND (63 : Fin 64) 2).setFld LP_CFG_TGT_IDX (63 : Fin 64) 3).setFlag AO_CFG_SRC 3 true,
            by decide +kernel⟩

theorem test_ControlLoops_meets_12 : ∃ (n : Fin 64) (e : LpSmp) (s : State),
    let u := s.begin';
    u.lpResultDue n = some e ∧ u.flag LP_CFG_GRP_EN n = false ∧ (u.lpTarget n).1 = 1 ∧ e.dust = true ∧ e.tests = [] ∧
      e.causes = [] :=
  ⟨63, { k := 992, y := 5, r := 6, v := 0x40A00000, w := 0x40000000, lost := true, dust := true }, ((((ready.setFlag
    LP_CFG_EN (63 : Fin 64) true).setFld LP_CFG_SMODE (63 : Fin 64) 2).put .LP_EVT_MASK (63 : Fin 64) 0xFF).modLp (63
      : Fin 64) fun l =>
        { l with smp := some { k := 992, y := 5, r := 6, v := 0x40A00000, w := 0x40000000, lost := true, dust := true } }).setFld LP_CFG_TGT_KIND (63 : Fin 64) 1, by decide +kernel⟩

theorem test_ControlLoops_meets_13 : ∃ (n : Fin 64) (a : Fin 64) (b : Fin 64) (g : Fin 16) (e : LpSmp) (f : LpSmp)
  (w1 : Word) (s : State),
    let u := s.begin';
    u.flag LP_CFG_GRP_EN n = true ∧ u.fld LP_CFG_GRP n = g ∧ u.grpMembers g = [a.val, b.val] ∧ a ≠ b ∧
      (n = a ∨ n = b) ∧ u.lpResultDue a = some e ∧ u.lpResultDue b = some f ∧ u.fld LP_GCFG_TGT_KIND g = 0 ∧
        e.tests = [] ∧ f.tests = [] ∧ e.causes = [] ∧ f.causes = [] ∧ f32.lt f.w e.w = true ∧
          w1 = State.slewTo (u.grp g).last e.ts (u.get .LP_GSLEW g) f.w :=
  ⟨3, 3, 63, 15, { k := 992, w := 0x40A00000 }, { k := 992, w := 0x40000000 }, 0x40000000, ((([3, 63].foldl (fun (s :
    State) k => ((s.setFlag LP_CFG_EN k true).setFlag LP_CFG_GRP_EN k true).setFld LP_CFG_GRP k 15) ready).modLp 3
      fun l => { l with smp := some { k := 992, w := 0x40A00000 } }).modLp 63 fun l =>
        { l with smp := some { k := 992, w := 0x40000000 } }), by decide +kernel⟩

theorem test_ControlCommands_meets_1 : ∃ (m : Fin 8) (n : Fin 64) (s : State), s.mayWrite m .LP_CTRL n = true :=
  ⟨2, 63, (keyed .LP_CTRL (63 : Fin 64) (ready)), by decide +kernel⟩

theorem test_ControlCommands_meets_2 : ∃ (m : Fin 8) (j : Fin 2) (s : State), s.mayWrite m .LP_GSWAP j = true :=
  ⟨2, 1, (keyed .LP_GSWAP (1 : Fin 2) ([3, 63].foldl (fun (s : State) k => ((s.setFlag LP_CFG_EN k true).setFlag
    LP_CFG_GRP_EN k true).setFld LP_CFG_GRP k (k % 4 + 12)) ready)), by decide +kernel⟩

theorem test_ControlCommands_meets_3 : ∃ (m : Fin 8) (n : Fin 64) (s : State), s.mayWrite m .LP_CTRL n = true :=
  ⟨2, 63, (keyed .LP_CTRL (63 : Fin 64) (ready.modLp (63 : Fin 64) fun l => { l with st := 3 })), by decide +kernel⟩

theorem test_ControlCommands_meets_4 : ∃ (m : Fin 8) (n : Fin 64) (s : State), s.mayWrite m .LP_CTRL n = true :=
  ⟨2, 63, (keyed .LP_CTRL (63 : Fin 64) (ready.put .LP_CNT (63 : Fin 64) 7)), by decide +kernel⟩

theorem test_ControlCommands_meets_5 : ∃ (m : Fin 8) (j : Fin 4) (s : State),
    let u := s.meets m .TG_CTRL j;
    s.mayWrite m .TG_CTRL j = true ∧ u.flag TG_CFG_EN j = true ∧ u.flag TG_STAT_RUN j = false ∧
      u.flag TG_STAT_ARMED j = false :=
  ⟨2, 3, (keyed .TG_CTRL (3 : Fin 4) (((ready.setFlag TG_CFG_EN (3 : Fin 4) true).put .TG_F0 (3 : Fin 4) 5).setFld
    TG_CFG_ORDER (3 : Fin 4) 9)), by decide +kernel⟩

theorem test_ControlCommands_meets_6 : ∃ (m : Fin 8) (j : Fin 4) (s : State),
    let u := s.meets m .TG_CTRL j;
    s.mayWrite m .TG_CTRL j = true ∧
      u.flag TG_CFG_EN j = false ∨ u.flag TG_STAT_RUN j = true ∨ u.flag TG_STAT_ARMED j = true :=
  ⟨2, 3, (keyed .TG_CTRL (3 : Fin 4) (ready)), by decide +kernel⟩

theorem test_ControlCommands_meets_7 : ∃ (j : Fin 4) (s : State),
    let u := s.begin';
    u.captureReq.contains j.val = true ∧ u.flag TG_CFG_EN j = true ∧ u.flag TG_STAT_RUN j = false ∧
      u.flag TG_STAT_ARMED j = false :=
  ⟨3, { ready.setFlag TG_CFG_EN (3 : Fin 4) true with captureReq := [3] }, by decide +kernel⟩

theorem test_ControlCommands_meets_8 : ∃ (j : Fin 4) (s : State),
    let u := s.begin';
    u.captureReq.contains j.val = false :=
  ⟨3, ready, by decide +kernel⟩

theorem test_ControlCommands_meets_9 : ∃ (m : Fin 8) (j : Fin 4) (s : State), s.mayWrite m .TG_CTRL j = true :=
  ⟨2, 3, (keyed .TG_CTRL (3 : Fin 4) ((ready.setFlag TG_STAT_RUN (3 : Fin 4) true).setFlag TG_STAT_DONE (3 : Fin 4)
    true)), by decide +kernel⟩


end Sys2Proof.Machine
end

section

/-!
The step, the state after reset, and the tick (O1, O11, O7).
-/

namespace Sys2Proof.Machine
open State

/-- Settles O1: both parts are the equations of `step`. -/
theorem stepTakesFront : Obligations.StepTakesFront := by
  refine ⟨fun c r s h => ?_, fun s h => ?_⟩ <;> simp only [step, h]

/-- A flag that no index resets to 1 is 0 after reset, where no register is listed. -/
theorem reset_flag {f : Field} {w : Word} (hw : ∀ i, f.reg.resetAt i = w) (h : bitsOf w f.hi f.lo = 0) (i : Nat) :
    State.reset.flag f i = false := by
  have hg : State.reset.get f.reg i = w := hw i
  simp [flag, fld, hg, h]

/-- Settles O11: no register is listed in the state after reset, so each reads its reset value. -/
theorem resetState : Obligations.ResetState := by
  refine ⟨⟨rfl, rfl, rfl, rfl⟩, fun i => ?_, fun n => ?_, fun c => ?_, by decide, fun p => rfl⟩
  · exact reset_flag (f := AX_CFG_EN) (fun _ => rfl) (by decide) i
  · unfold lnEn
    split
    · exact reset_flag (f := LN_CFG_EN) (fun _ => rfl) (by decide) n
    · exact reset_flag (f := LN_RCFG_EN) (fun _ => rfl) (by decide) (n - 256)
  · exact reset_flag (f := FB_CFG_EN) (fun _ => rfl) (by decide) c

/-- A module whose replay set its clock back by one tick; a module reset that a master wrote waits for the coming
tick. -/
def overtaken : State :=
  { (ready.setFld MOD_STAT_RMODE 0 2).setFld RP_STAT_STATE 0 4 with
    replay := { ready.replay with ofs := 2000 }
    writes := [{ acc := Access.of 2, addr := 0x44, val := 0x100#32 }] }

theorem overtaken_tick : (axisTick senses overtaken.begin').tick = 1002 := by decide +kernel

theorem overtaken_met :
    overtaken.met.boot.rst = 0 ∧ overtaken.met.boot.rstEnd = none ∧ overtaken.met.tick = 1000 := by decide +kernel

/-- Refutes O7: its first part asks for no reset before the tick, but a waiting write that the tick applies can be the
module reset, which gives the clock back what the replay took: the tick after 1000 is then 1002, not 1001. -/
theorem not_ticksAdvance : ¬ Obligations.TicksAdvance := by
  unfold Obligations.TicksAdvance
  intro h
  obtain ⟨hrst, hend, htick⟩ := overtaken_met
  obtain ⟨t, ht, hk, -⟩ := h.1 senses overtaken hrst hend
  obtain rfl : axisTick senses overtaken.begin' = t := by injection ht
  rw [overtaken_tick, htick] at hk
  exact absurd hk (by decide)
end Sys2Proof.Machine

end

section

/-!
What the work of the blocks leaves alone: no block takes a command from the queue, changes the one-time image key, takes
back an answer or, but for the functions of the next part, writes memory. One rule for each function of the model.
-/

namespace Sys2Proof.Machine

/-- What the work of the blocks leaves alone or keeps in order: the waiting commands, the image key, the answers given
and the memory. -/
structure Kept where
  pending : List Instr
  imgKey : Option (List Byte)
  resp : List Resp
  mem : SMap Byte

namespace State

/-- These parts of a state. -/
def kept (s : State) : Kept := ⟨s.pending, s.imgKey, s.resp, s.mem⟩

@[simp] theorem kept_eta (s : State) : Kept.mk s.pending s.imgKey s.resp s.mem = s.kept := by
  unfold kept
  rfl

/-- An update of other fields leaves them: the one place where the fields of `State` are counted. -/
@[simp] theorem kept_mk (q x1 x2 x3 x4 m x6 x7 a x9 x10 x11 x12 x13 x14 x15 x16 x17 x18 x19 x20 x21 x22 x23 x24 x25 x26
    x27 x28 x29 x30 x31 x32 x33 x34 x35 x36 x37 x38 x39 x40 x41 x42 x43 x44 x45 x46 x47 x48 x49 x50 x51 x52
    x53 x54 x55 x56 x57 x58 x59 x60 x61 x62 x63 x64 x65 x66 x67 x68 x69 x70 x71 x72 x73 x74 x75 x76 x77
    x78 x79 x80 x81 x82 x83 k) :
    (State.mk q x1 x2 x3 x4 m x6 x7 a x9 x10 x11 x12 x13 x14 x15 x16 x17 x18 x19 x20 x21 x22 x23 x24 x25 x26 x27
      x28 x29 x30 x31 x32 x33 x34 x35 x36 x37 x38 x39 x40 x41 x42 x43 x44 x45 x46 x47 x48 x49 x50 x51 x52
      x53 x54 x55 x56 x57 x58 x59 x60 x61 x62 x63 x64 x65 x66 x67 x68 x69 x70 x71 x72 x73 x74 x75 x76 x77
      x78 x79 x80 x81 x82 x83 k).kept = ⟨q, k, a, m⟩ := by
  unfold kept
  rfl

section
variable {α β : Type}

@[simp] theorem ite_kept (c : Prop) [Decidable c] (s t : State) :
    (if c then s else t).kept = if c then s.kept else t.kept := apply_ite ..

@[simp] theorem ite_fst_kept (c : Prop) [Decidable c] (s t : State × α) :
    (if c then s else t).1.kept = if c then s.1.kept else t.1.kept := apply_ite (fun x : State × α => x.1.kept) ..

@[simp] theorem ite_snd_kept (c : Prop) [Decidable c] (s t : α × State) :
    (if c then s else t).2.kept = if c then s.2.kept else t.2.kept := apply_ite (fun x : α × State => x.2.kept) ..

@[simp] theorem foldl_kept {f : State → α → State} (h : ∀ s a, (f s a).kept = s.kept) (l : List α) (s : State) :
    (l.foldl f s).kept = s.kept := by
  induction l generalizing s with
  | nil => rfl
  | cons a l ih => rw [List.foldl_cons, ih, h]

/-- A work over pairs of a state and an outcome leaves what each of its parts leaves. -/
@[simp] theorem foldl_fst_kept {f : State × β → α → State × β} (h : ∀ x a, (f x a).1.kept = x.1.kept)
    (l : List α) (x : State × β) : (l.foldl f x).1.kept = x.1.kept := by
  induction l generalizing x with
  | nil => rfl
  | cons a l ih => rw [List.foldl_cons, ih, h]

@[simp] theorem foldl_snd_kept {f : β × State → α → β × State} (h : ∀ x a, (f x a).2.kept = x.2.kept)
    (l : List α) (x : β × State) : (l.foldl f x).2.kept = x.2.kept := by
  induction l generalizing x with
  | nil => rfl
  | cons a l ih => rw [List.foldl_cons, ih, h]

@[simp] theorem each_kept {f : α → State → State} (h : ∀ a s, (f a s).kept = s.kept) (l : List α) (s : State) :
    (each l f s).kept = s.kept := foldl_kept (fun s a => h a s) l s

@[simp] theorem when_kept {f : State → State} (h : ∀ s, (f s).kept = s.kept) (c : Bool) (s : State) :
    (when c f s).kept = s.kept := by
  unfold when
  split
  · exact h s
  · rfl

end


section
variable (s : State) (a b c d e g h i j k m n p q t z stamp inst mv kind cau code key id size evt : Nat)
  (v w : Word) (on : Bool)

/-! ### Ops -/

@[simp] theorem put_kept (r : Reg) : (put s r i v).kept = s.kept := by simp [put]
@[simp] theorem setFld_kept (f : Field) (v : Nat) : (setFld s f i v).kept = s.kept := by simp [setFld]
@[simp] theorem setFlag_kept (f : Field) (b : Bool) : (setFlag s f i b).kept = s.kept := by simp [setFlag]
@[simp] theorem setRbit_kept (r : Reg) (v : Bool) : (setRbit s r i b v).kept = s.kept := by simp [setRbit]
@[simp] theorem setFldOf_kept (r : Reg) (hi lo v : Nat) : (setFldOf s r i hi lo v).kept = s.kept := by simp [setFldOf]
@[simp] theorem incSat_kept (f : Field) : (incSat s f i).kept = s.kept := by simp [incSat]
@[simp] theorem incMod_kept (f : Field) : (incMod s f i).kept = s.kept := by simp [incMod]
@[simp] theorem addSat_kept (f : Field) : (addSat s f i n).kept = s.kept := by simp [addSat]
@[simp] theorem put64_kept (lo hi : Reg) : (put64 s lo hi i t).kept = s.kept := by simp [put64]
@[simp] theorem recNote_kept (rk : Nat) (body : List Word) : (recNote rk inst stamp body s).kept = s.kept := by
  simp [recNote]
@[simp] theorem depart_kept : (depart s).kept = s.kept := by simp [depart]
@[simp] theorem raise_kept : (raise e s).kept = s.kept := by simp [raise]
@[simp] theorem occur_kept (stamp : Option Nat) : (occur e inst cau stamp s).kept = s.kept := by simp [occur]
@[simp] theorem raiseOf_kept : (raiseOf e inst cau s).kept = s.kept := by simp [raiseOf]
@[simp] theorem cause_kept (er mr : Reg) : (cause er mr i b e s).kept = s.kept := by simp [cause]
@[simp] theorem qCause_kept : (qCause q c s).kept = s.kept := by
  unfold qCause
  split <;> simp
@[simp] theorem qStat_kept : (qStat q s).kept = s.kept := by simp [qStat]
@[simp] theorem qSetTail_kept : (qSetTail q t s).kept = s.kept := by simp [qSetTail]
@[simp] theorem qSetHead_kept : (qSetHead q h s).kept = s.kept := by simp [qSetHead]
@[simp] theorem qSeqInc_kept : (qSeqInc q s).kept = s.kept := by simp [qSeqInc]
@[simp] theorem qReject_kept : (qReject q n s).kept = s.kept := by simp [qReject]
@[simp] theorem logTo_kept (detail : List Word) : (logTo q inst cau evt stamp detail s).kept = s.kept := by
  simp [logTo]
@[simp] theorem log38_kept (detail : List Word) : (log38 inst cau evt stamp detail s).kept = s.kept := by simp [log38]
@[simp] theorem qLostBy_kept (detail : List Word) : (qLostBy q stamp detail s).kept = s.kept := by simp [qLostBy]
@[simp] theorem qLost_kept : (qLost q stamp s).kept = s.kept := by simp [qLost]
@[simp] theorem log41_kept (detail : List Word) : (log41 inst cau evt stamp detail s).kept = s.kept := by simp [log41]
@[simp] theorem raiseLog_kept (detail : List Word) : (raiseLog e inst cau stamp detail s).kept = s.kept := by
  simp [raiseLog]
@[simp] theorem faultReact_kept : (faultReact b inst stamp s).kept = s.kept := by simp [faultReact]
@[simp] theorem put4_kept (r : Reg) : (put4 r i v s).kept = s.kept := by simp [put4]
@[simp] theorem clear4_kept (r : Reg) : (clear4 r s).kept = s.kept := by simp [clear4]
@[simp] theorem freeVal_kept : (freeVal s).2.kept = s.kept := by simp [freeVal]
@[simp] theorem setAx_kept (a : Axis) : (setAx s i a).kept = s.kept := by simp [setAx]
@[simp] theorem modAx_kept (f : Axis → Axis) : (modAx i f s).kept = s.kept := by simp [modAx]
@[simp] theorem setAxPos_kept (x1 : Int) : (setAxPos i x1 s).kept = s.kept := by simp [setAxPos]
@[simp] theorem setFb_kept (f : Fb) : (setFb s i f).kept = s.kept := by simp [setFb]
@[simp] theorem modFb_kept (f : Fb → Fb) : (modFb i f s).kept = s.kept := by simp [modFb]
@[simp] theorem setFwd_kept (f : Fwd) : (setFwd s i f).kept = s.kept := by simp [setFwd]
@[simp] theorem modFwd_kept (f : Fwd → Fwd) : (modFwd i f s).kept = s.kept := by simp [modFwd]

/-! ### Feedback -/

@[simp] theorem fbCause_kept : (fbCause c b s).kept = s.kept := by simp [fbCause]
@[simp] theorem fbCauseLog_kept (more : List Word) : (fbCauseLog c b t more s).kept = s.kept := by simp [fbCauseLog]
@[simp] theorem fbFault_kept : (fbFault c t s).kept = s.kept := by simp [fbFault]
@[simp] theorem fbFaultClear_kept : (fbFaultClear c s).kept = s.kept := by simp [fbFaultClear]
@[simp] theorem fwdEmit_kept (line : Nat) (v : Bool) : (fwdEmit n line t v s).kept = s.kept := by simp [fwdEmit]
@[simp] theorem fwdPulse_kept (w : Nat) : (fwdPulse n t w s).kept = s.kept := by simp [fwdPulse]
@[simp] theorem fwdPass_kept (l : Nat) (v : Bool) : (fwdPass c l t v s).kept = s.kept := by simp [fwdPass]
@[simp] theorem fbHits_kept (x y : Int) : (fbHits c t x y k s).kept = s.kept := by
  induction k generalizing s with
  | zero => rfl
  | succ k ih => simp [fbHits, ih]
@[simp] theorem fbMove_kept (d : Int) : (fbMove c t d s).kept = s.kept := by simp [fbMove]
@[simp] theorem fbAdvance_kept : (fbAdvance c s).kept = s.kept := by simp [fbAdvance]
@[simp] theorem fbTake_kept (tin : Nat) (down : Bool) : (fbTake c t tin down s).kept = s.kept := by simp [fbTake]
@[simp] theorem fbWithhold_kept : (fbWithhold c s).kept = s.kept := by simp [fbWithhold]
@[simp] theorem fbTally_kept : (fbTally c t s).kept = s.kept := by simp [fbTally]
@[simp] theorem fbBlock_kept : (fbBlock c k s).kept = s.kept := by simp [fbBlock]
@[simp] theorem fbStep_kept (d : Int) (inv : Bool) : (fbStep c t d inv s).kept = s.kept := by simp [fbStep]
@[simp] theorem fbQuad_kept (a b a' b' : Bool) : (fbQuad c t a b a' b' s).kept = s.kept := by simp [fbQuad]
@[simp] theorem fbHall_kept : (fbHall c t h s).kept = s.kept := by
  simp only [fbHall]
  split
  · simp
  · split
    · simp
    · split <;> simp
@[simp] theorem fbIndex_kept : (fbIndex c t s).kept = s.kept := by simp [fbIndex]
@[simp] theorem fbRate_kept : (fbRate c t k s).kept = s.kept := by
  simp only [fbRate]
  repeat' split
  all_goals simp
@[simp] theorem fbEdge_kept (ta tb tz : Bool) : (fbEdge c t ta tb tz s).kept = s.kept := by
  simp only [fbEdge]
  repeat' split
  all_goals simp
@[simp] theorem fbPlainTake_kept (lvl : Bool) : (fbPlainTake c t lvl s).kept = s.kept := by simp [fbPlainTake]
@[simp] theorem ssiReject_kept : (ssiReject c b t s).kept = s.kept := by simp [ssiReject]
@[simp] theorem ssiSample_kept (w : Nat) (high trail : Bool) : (ssiSample c t w high trail s).kept = s.kept := by
  simp [ssiSample]
@[simp] theorem fbGains_kept : (fbGains c s).kept = s.kept := by simp [fbGains]
@[simp] theorem fbObserve_kept (T : Nat) : (fbObserve T c s).kept = s.kept := by simp [fbObserve]
@[simp] theorem fbObserveAll_kept : (fbObserveAll s).kept = s.kept := by simp [fbObserveAll]
@[simp] theorem fbGoStale_kept : (fbGoStale c s).kept = s.kept := by simp [fbGoStale]
@[simp] theorem ssiStart_kept : (ssiStart c s).kept = s.kept := by simp [ssiStart]
@[simp] theorem fbStart_kept : (fbStart c s).kept = s.kept := by simp [fbStart]
@[simp] theorem fbCfgStore_kept : (fbCfgStore c v s).kept = s.kept := by simp [fbCfgStore]
@[simp] theorem fbCtrl_kept : (fbCtrl c v s).kept = s.kept := by simp [fbCtrl]
@[simp] theorem fwdCfgStore_kept : (fwdCfgStore n v s).kept = s.kept := by simp [fwdCfgStore]
@[simp] theorem fwdEmuStore_kept : (fwdEmuStore n v s).kept = s.kept := by simp [fwdEmuStore]
@[simp] theorem fwdLine_kept (line : Nat) (v : Bool) : (fwdLine n line v s).kept = s.kept := by
  unfold fwdLine
  split <;> simp
@[simp] theorem fwdDrain_kept (T : Nat) : (fwdDrain T n s).kept = s.kept := by simp [fwdDrain]
@[simp] theorem fwdTake_kept : (fwdTake n s).kept = s.kept := by
  unfold fwdTake
  split <;> simp
@[simp] theorem fwdSettle_kept : (fwdSettle n s).kept = s.kept := by simp [fwdSettle]
@[simp] theorem fwdEmulate_kept (T1 : Nat) (dx : Int) : (fwdEmulate n T1 dx s).kept = s.kept := by simp [fwdEmulate]

/-! ### Axes -/

@[simp] theorem setAxOk_kept (k : AxSrc) (b : Bool) : (setAxOk i k b s).kept = s.kept := by simp [setAxOk]
@[simp] theorem setAxRec_kept (k : AxSrc) (r : Recov) : (setAxRec i k r s).kept = s.kept := by simp [setAxRec]
@[simp] theorem axOkBits_kept : (axOkBits i s).kept = s.kept := by simp [axOkBits]
@[simp] theorem axGnssStore_kept : (axGnssStore i v s).kept = s.kept := by simp [axGnssStore]
@[simp] theorem axStart_kept : (axStart i s).kept = s.kept := by simp [axStart]
@[simp] theorem axStop_kept : (axStop i s).kept = s.kept := by simp [axStop]
@[simp] theorem axCfgStore_kept : (axCfgStore i v s).kept = s.kept := by simp [axCfgStore]
@[simp] theorem axStep_kept (marked : Bool) : (axStep i v marked s).kept = s.kept := by simp [axStep]
@[simp] theorem axObs_kept : (axObs s).kept = s.kept := by simp [axObs]
@[simp] theorem axSelect_kept : (axSelect i s).kept = s.kept := by simp [axSelect]
@[simp] theorem axStale_kept (k : AxSrc) : (axStale i k s).kept = s.kept := by
  unfold axStale
  split <;> simp
@[simp] theorem axRecover_kept (k : AxSrc) : (axRecover i k s).kept = s.kept := by
  unfold axRecover
  split <;> simp
@[simp] theorem axRecEdge_kept (k : AxSrc) : (axRecEdge i k t s).kept = s.kept := by simp [axRecEdge]
@[simp] theorem axEdgeNote_kept : (axEdgeNote c t s).kept = s.kept := by simp [axEdgeNote]
@[simp] theorem axStopped_kept : (axStopped i s).kept = s.kept := by simp [axStopped]
@[simp] theorem axSlip_kept : (axSlip i s).kept = s.kept := by simp [axSlip]
@[simp] theorem axAdvance_kept (inc : Int) : (axAdvance i inc s).kept = s.kept := by simp [axAdvance]
@[simp] theorem setVA_kept (a : Word) : (setVA i v a s).kept = s.kept := by simp [setVA]
@[simp] theorem axSigns_kept : (axSigns i s).kept = s.kept := by simp [axSigns]
@[simp] theorem axFlags_kept : (axFlags i s).kept = s.kept := by simp [axFlags]
@[simp] theorem axGround_kept : (axGround i s).kept = s.kept := by
  simp only [axGround]
  repeat' split
  all_goals simp
@[simp] theorem axCounted_kept : (axCounted i s).kept = s.kept := by simp [axCounted]
@[simp] theorem axDerived_kept : (axDerived i s).kept = s.kept := by simp [axDerived]
@[simp] theorem axMains_kept : (axMains i s).kept = s.kept := by simp [axMains]
@[simp] theorem axAtEnable_kept : (axAtEnable i s).kept = s.kept := by simp [axAtEnable]
@[simp] theorem axWork_kept : (axWork i s).kept = s.kept := by simp [axWork]
@[simp] theorem axUpdate_kept : (axUpdate i s).kept = s.kept := by simp [axUpdate]
@[simp] theorem yawUpdate_kept : (yawUpdate s).kept = s.kept := by
  unfold yawUpdate
  split <;> simp
@[simp] theorem yawLoss_kept : (yawLoss s).kept = s.kept := by simp [yawLoss]
@[simp] theorem axesPhase_kept : (axesPhase s).kept = s.kept := by simp [axesPhase]
@[simp] theorem rateTake_kept (limit : Nat) : (rateTake key limit t s).1.kept = s.kept := by simp [rateTake]
@[simp] theorem axOver_kept : (axOver inst t s).kept = s.kept := by simp [axOver]
@[simp] theorem mainsUnlock_kept : (mainsUnlock i t s).kept = s.kept := by simp [mainsUnlock]
@[simp] theorem mainsAcquire_kept : (mainsAcquire i t s).kept = s.kept := by simp [mainsAcquire]
@[simp] theorem mainsReturn_kept : (mainsReturn i t s).kept = s.kept := by simp [mainsReturn]
@[simp] theorem mainsRun_kept : (mainsRun i t s).kept = s.kept := by simp [mainsRun]
@[simp] theorem mainsEdge_kept (rising : Bool) : (mainsEdge h rising t s).kept = s.kept := by
  unfold mainsEdge
  simp only [ite_kept, axOver_kept, rateTake_kept, recNote_kept]
  rw [each_kept (fun i s => by rw [ite_kept]; split <;> (try split) <;> simp)]
  simp
@[simp] theorem mainsMissing_kept : (mainsMissing i s).kept = s.kept := by simp [mainsMissing]
@[simp] theorem mainsGone_kept : (mainsGone i s).kept = s.kept := by simp [mainsGone]

/-! ### Marks -/

@[simp] theorem setLane_kept (l : Lane) : (setLane s n l).kept = s.kept := by simp [setLane]
@[simp] theorem modLane_kept (f : Lane → Lane) : (modLane n f s).kept = s.kept := by simp [modLane]
@[simp] theorem modTpl_kept (f : Tpl → Tpl) : (modTpl t f s).kept = s.kept := by simp [modTpl]
@[simp] theorem setDemand_kept (b : Bool) : (setDemand n b s).kept = s.kept := by simp [setDemand]
@[simp] theorem setForce_kept (b : Bool) : (setForce n b s).kept = s.kept := by simp [setForce]
@[simp] theorem forceUpdate_kept : (forceUpdate s).kept = s.kept := by simp [forceUpdate]
@[simp] theorem lnPop_kept : (lnPop n s).kept = s.kept := by simp [lnPop]
@[simp] theorem lnFlush_kept : (lnFlush n s).kept = s.kept := by simp [lnFlush]
@[simp] theorem lnFlushDue_kept : (lnFlushDue n s).kept = s.kept := by simp [lnFlushDue]
@[simp] theorem lnFlushAllDue_kept : (lnFlushAllDue s).kept = s.kept := by simp [lnFlushAllDue]
@[simp] theorem lnFlushWrite_kept (base : Nat) (marked : Bool) : (lnFlushWrite base v marked s).kept = s.kept := by
  simp [lnFlushWrite]
@[simp] theorem laneFlushAxis_kept : (laneFlushAxis i s).kept = s.kept := by simp [laneFlushAxis]
@[simp] theorem leadCheck_kept : (leadCheck n s).kept = s.kept := by simp [leadCheck]
@[simp] theorem lnDelayStore_kept : (lnDelayStore n on v s).kept = s.kept := by simp [lnDelayStore]
@[simp] theorem lnProfStore_kept : (lnProfStore p v s).kept = s.kept := by simp [lnProfStore]
@[simp] theorem tplDelayStore_kept (r : Reg) : (tplDelayStore r t v s).kept = s.kept := by simp [tplDelayStore]
@[simp] theorem lnMeasure_kept : (lnMeasure n on m s).kept = s.kept := by simp [lnMeasure]
@[simp] theorem lnApplyReport_kept : (lnApplyReport n s).kept = s.kept := by
  unfold lnApplyReport
  split <;> simp
@[simp] theorem lnReport_kept : (lnReport n on m s).kept = s.kept := by simp [lnReport]
@[simp] theorem lnMeasStart_kept : (lnMeasStart n on s).kept = s.kept := by simp [lnMeasStart]
@[simp] theorem lnFbEdge_kept (lvl : Bool) : (lnFbEdge c t lvl s).kept = s.kept :=
  each_kept (fun n s => by split <;> simp) _ _
@[simp] theorem lnCfgStore_kept : (lnCfgStore n v s).kept = s.kept := by simp [lnCfgStore]
@[simp] theorem lnRcfgStore_kept : (lnRcfgStore n v s).kept = s.kept := by simp [lnRcfgStore]
@[simp] theorem lnMarkTested_kept : (lnMarkTested s).kept = s.kept := by simp [lnMarkTested]
@[simp] theorem markLate_kept (m : Mark) (past : Int) : (markLate n m past s).kept = s.kept := by simp [markLate]
@[simp] theorem markAct_kept (m : Mark) : (markAct n m s).kept = s.kept := by
  unfold markAct
  split <;> simp
@[simp] theorem mwError_kept (m : Mark) : (mwError n m s).kept = s.kept := by simp [mwError]
@[simp] theorem tplCfgStore_kept : (tplCfgStore t v s).kept = s.kept := by simp [tplCfgStore]
@[simp] theorem effChanges_kept (e : BitVec 256) (r : BitVec 512) : (effChanges e r s).kept = s.kept := by
  simp [effChanges]
@[simp] theorem lanesReset_kept : (lanesReset s).kept = s.kept := by simp [lanesReset]

/-! ### Masking -/

@[simp] theorem rpCause_kept (detail : List Word) : (rpCause b stamp detail s).kept = s.kept := by simp [rpCause]
@[simp] theorem mapMerge_kept : (mapMerge s).kept = s.kept := by simp [mapMerge]
@[simp] theorem tileRefuse_kept : (tileRefuse code s).kept = s.kept := by simp [tileRefuse]
@[simp] theorem tileNew_kept (c : BitVec 16384) : (tileNew key c s).kept = s.kept := by
  simp only [tileNew]
  repeat' split
  all_goals simp
@[simp] theorem tileInstall_kept (c : BitVec 16384) : (tileInstall key c s).kept = s.kept := by
  unfold tileInstall
  split <;> simp
@[simp] theorem tileEvict_kept : (tileEvict key s).1.kept = s.kept := by
  unfold tileEvict
  split <;> simp
@[simp] theorem tileElement_kept (w0 w1 w3 : Word) (tile : List Byte) :
    (tileElement w0 w1 w3 tile s).kept = s.kept := by
  unfold tileElement
  split <;> simp only [ite_kept, tileRefuse_kept, tileInstall_kept, tileEvict_kept, ite_self]
@[simp] theorem tileIntake_kept : (tileIntake s).kept = s.kept := by simp [tileIntake]
@[simp] theorem zoneRead_kept (x0 y : Int) : (zoneRead x0 y s).1.kept = s.kept := by
  simp only [zoneRead]
  split <;> simp

/-! ### Pose -/

@[simp] theorem modGeo_kept (f : Geo → Geo) : (modGeo f s).kept = s.kept := by simp [modGeo]
@[simp] theorem modRcv_kept (r : Nat) (f : Gnss → Gnss) : (modRcv r f s).kept = s.kept := by simp [modRcv]
@[simp] theorem ppsPair_kept (r : Nat) (tau : Option Nat) : (ppsPair r t tau s).kept = s.kept := by
  unfold ppsPair
  split <;> simp
@[simp] theorem queueFix_kept (f : Fix) : (queueFix f s).kept = s.kept := by simp [queueFix]
@[simp] theorem speedAxis_kept (r : Nat) (fs : List (List Byte)) : (speedAxis r t kind fs i s).kept = s.kept := by
  simp only [speedAxis]
  repeat' split
  all_goals simp
@[simp] theorem courseTake_kept (r : Nat) (fs : List (List Byte)) : (courseTake r t kind fs s).kept = s.kept := by
  unfold courseTake
  repeat' split
  all_goals simp
@[simp] theorem gnssTake_kept (r : Nat) (fs : List (List Byte)) : (gnssTake r t kind fs s).kept = s.kept := by
  unfold gnssTake
  repeat' split
  all_goals simp
@[simp] theorem gnssSentence_kept (r : Nat) (l : List Byte) : (gnssSentence r t l s).kept = s.kept := by
  unfold gnssSentence
  repeat' split
  all_goals simp
@[simp] theorem ppsEdge_kept (r : Nat) : (ppsEdge r t s).kept = s.kept := by simp [ppsEdge]
@[simp] theorem yawRecord_kept (epoch : Nat) : (yawRecord w epoch t s).kept = s.kept := by simp [yawRecord]
@[simp] theorem hostFix_kept (w : Nat → Word) : (hostFix w t s).1.kept = s.kept := by simp [hostFix]
@[simp] theorem imuStart_kept : (imuStart s).kept = s.kept := by
  unfold imuStart
  split <;> simp
@[simp] theorem imuRecord_kept (l : List Byte) : (imuRecord t l s).kept = s.kept := by simp [imuRecord]
@[simp] theorem posFix_kept (rx ry : DWord) : (posFix rx ry s).kept = s.kept := by simp [posFix]
@[simp] theorem headFix_kept (d : DWord) : (headFix d s).kept = s.kept := by simp [headFix]
@[simp] theorem fixHead_kept (f : Fix) (p : PoseAt) : (fixHead f p s).kept = s.kept := by
  unfold fixHead
  split <;> simp
@[simp] theorem applyFix_kept (f : Fix) : (applyFix f s).kept = s.kept := by
  unfold applyFix
  repeat' split
  all_goals simp
@[simp] theorem applyFixes_kept : (applyFixes s).kept = s.kept := by simp [applyFixes]
@[simp] theorem deadReckon_kept : (deadReckon s).kept = s.kept := by simp [deadReckon]
@[simp] theorem poseHistory_kept : (poseHistory s).kept = s.kept := by simp [poseHistory]
@[simp] theorem poseShow_kept : (poseShow s).kept = s.kept := by simp [poseShow]
@[simp] theorem hdtShow_kept : (hdtShow s).kept = s.kept := by simp [hdtShow]
@[simp] theorem posePhase_kept : (posePhase s).kept = s.kept := by simp [posePhase]
@[simp] theorem fixLost_kept : (fixLost s).kept = s.kept := by simp [fixLost]

/-! ### Geometry -/

@[simp] theorem modApp_kept (f : Applic → Applic) : (modApp i f s).kept = s.kept := by simp [modApp]
@[simp] theorem modOpn_kept (f : Opens → Opens) : (modOpn n f s).kept = s.kept := by simp [modOpn]
@[simp] theorem opnCommand_kept : (opnCommand n on t s).kept = s.kept := by simp [opnCommand]
@[simp] theorem opnPulse_kept : (opnPulse n t s).kept = s.kept := by simp [opnPulse]
@[simp] theorem opnValveOpen_kept (t : Option Nat) : (opnValveOpen n t s).kept = s.kept := by simp [opnValveOpen]
@[simp] theorem opnValveRel_kept (t : Option Nat) (off : Nat) : (opnValveRel n t off s).kept = s.kept := by
  unfold opnValveRel
  split <;> rfl
@[simp] theorem opnSettle_kept : (opnSettle n s).kept = s.kept := by
  simp only [opnSettle]
  split <;> simp
@[simp] theorem opnForced_kept : (opnForced n t s).kept = s.kept := by simp [opnForced]
@[simp] theorem opnFbEdge_kept (lvl : Bool) : (opnFbEdge c t lvl s).kept = s.kept := by simp [opnFbEdge]
@[simp] theorem opnForce_kept : (opnForce n d s).kept = s.kept := by simp [opnForce]
@[simp] theorem appLowv_kept (vi : Word) : (appLowv i vi s).kept = s.kept := by simp [appLowv]
@[simp] theorem stencilMiss_kept : (stencilMiss i key s).kept = s.kept := by simp [stencilMiss]
@[simp] theorem appZone_kept (x1 y : Int) : (appZone i x1 y s).1.kept = s.kept := by
  simp only [appZone]
  repeat' split
  all_goals simp
@[simp] theorem decide'_kept (vi : Word) (x : Int) : (decide' i vi x s).1.kept = s.kept := by
  simp only [decide']
  split <;> simp
@[simp] theorem evalPoint_kept (x : Int) (r : State × GeoStep) : (evalPoint i x r).1.kept = r.1.kept := by
  simp [evalPoint]
@[simp] theorem evalApp_kept (r : State × GeoStep) : (evalApp i r).1.kept = r.1.kept := by
  simp only [evalApp]
  split <;> simp
@[simp] theorem sweepOf_kept (r : State × List Sweep) : (sweepOf i r).1.kept = r.1.kept := by
  simp only [sweepOf, ite_fst_kept]
  split
  · split <;> simp
  · simp
@[simp] theorem lowvAll_kept : (lowvAll s).kept = s.kept := by simp [lowvAll]
@[simp] theorem covReady_kept (l : List CovStep) : (covReady n l s).1.kept = s.kept := by
  induction l generalizing s with
  | nil => rfl
  | cons c r ih => unfold covReady; simp [ih]
@[simp] theorem stepDispatch_kept : (stepDispatch s).kept = s.kept := by simp [stepDispatch]
@[simp] theorem flowSums_kept : (flowSums s).kept = s.kept := by simp [flowSums]
@[simp] theorem dutyFire_kept {f : Nat → Nat → State → State} (h : ∀ i d s, (f i d s).kept = s.kept) :
    (dutyFire f s).kept = s.kept := by
  simp only [dutyFire, ite_kept]
  rw [each_kept (fun i s => by split <;> simp [h]), ite_self]
@[simp] theorem tileWant_kept : (tileWant s).kept = s.kept := by simp [tileWant]
@[simp] theorem runStart_kept : (runStart s).kept = s.kept := by simp [runStart]

/-! ### Coverage -/

@[simp] theorem addCnt_kept (r : Reg) : (addCnt r n s).kept = s.kept := by simp [addCnt]
@[simp] theorem geomOver_kept : (geomOver n s).kept = s.kept := by simp [geomOver]

/-! ### Pulse -/

@[simp] theorem modSlice_kept (f : Slice → Slice) : (modSlice n f s).kept = s.kept := by simp [modSlice]
@[simp] theorem modPair_kept (f : Pair → Pair) : (modPair n f s).kept = s.kept := by simp [modPair]
@[simp] theorem sliceUpd_kept (u : Upd) : (sliceUpd n k u s).kept = s.kept := by simp [sliceUpd]
@[simp] theorem sliceSettle_kept (p : Nat → Bool) : (sliceSettle n p s).kept = s.kept := by simp [sliceSettle]
@[simp] theorem slicePend_kept : (slicePend n s).kept = s.kept := by simp [slicePend]
@[simp] theorem sliceClip_kept : (sliceClip n s).kept = s.kept := by simp [sliceClip]
@[simp] theorem sliceOut_kept (v : Bool) : (sliceOut n t v s).kept = s.kept := by simp [sliceOut]
@[simp] theorem sliceStart_kept : (sliceStart n t s).kept = s.kept := by
  simp only [sliceStart]
  split <;> simp
@[simp] theorem sliceStop_kept : (sliceStop n t s).kept = s.kept := by simp [sliceStop]
@[simp] theorem sliceKill_kept : (sliceKill n t s).kept = s.kept := by simp [sliceKill]
@[simp] theorem sliceReload_kept : (sliceReload n s).kept = s.kept := by
  unfold sliceReload
  split <;> simp
@[simp] theorem sliceAxis_kept : (sliceAxis n s).kept = s.kept := by simp [sliceAxis]
@[simp] theorem slicesOut_kept : (slicesOut s).kept = s.kept := by simp [slicesOut]
@[simp] theorem vsCfgStore_kept : (vsCfgStore n v s).kept = s.kept := by simp [vsCfgStore]
@[simp] theorem vsPeriodStore_kept : (vsPeriodStore n k v s).kept = s.kept := by simp [vsPeriodStore]
@[simp] theorem vsPhaseStore_kept : (vsPhaseStore n k v s).kept = s.kept := by simp [vsPhaseStore]
@[simp] theorem vsDutyStore_kept : (vsDutyStore n k v s).kept = s.kept := by simp [vsDutyStore]
@[simp] theorem sliceDuty_kept : (sliceDuty n d s).kept = s.kept := by simp [sliceDuty]
@[simp] theorem vsCtrlStore_kept : (vsCtrlStore n k v s).kept = s.kept := by simp [vsCtrlStore]
@[simp] theorem bpLeave_kept : (bpLeave n k s).kept = s.kept := by simp [bpLeave]
@[simp] theorem bpLeaveAll_kept : (bpLeaveAll k s).kept = s.kept := by simp [bpLeaveAll]
@[simp] theorem bpAllHiz_kept : (bpAllHiz s).kept = s.kept := by simp [bpAllHiz]
@[simp] theorem bpDrive_kept (lane : Bool) : (bpDrive n t lane s).kept = s.kept := by simp [bpDrive]
@[simp] theorem pairsOut_kept : (pairsOut s).kept = s.kept := by simp [pairsOut]
@[simp] theorem bpPend_kept : (bpPend n s).kept = s.kept := by simp [bpPend]
@[simp] theorem bpClip_kept (dt : Bool) : (bpClip n dt s).kept = s.kept := by simp [bpClip]
@[simp] theorem bpPeriod_kept (per on : Nat) (sh : Shadow) : (bpPeriod n t per on sh s).kept = s.kept := by
  simp [bpPeriod]
@[simp] theorem bpReload_kept : (bpReload n s).kept = s.kept := by
  unfold bpReload
  split <;> simp
@[simp] theorem bpCfgStore_kept : (bpCfgStore n v s).kept = s.kept := by simp [bpCfgStore]
@[simp] theorem pairUpd_kept (u : Upd) : (pairUpd n k u s).kept = s.kept := by simp [pairUpd]
@[simp] theorem bpPeriodStore_kept : (bpPeriodStore n k v s).kept = s.kept := by simp [bpPeriodStore]
@[simp] theorem bpPhaseStore_kept : (bpPhaseStore n k v s).kept = s.kept := by simp [bpPhaseStore]
@[simp] theorem bpDutyStore_kept : (bpDutyStore n k v s).kept = s.kept := by simp [bpDutyStore]
@[simp] theorem pairDuty_kept : (pairDuty n k d s).kept = s.kept := by simp [pairDuty]
@[simp] theorem bpCtrlStore_kept : (bpCtrlStore n k v s).kept = s.kept := by simp [bpCtrlStore]
@[simp] theorem stagesSettle_kept : (stagesSettle s).kept = s.kept := by simp [stagesSettle]
@[simp] theorem sliceDomainReset_kept : (sliceDomainReset s).kept = s.kept := by simp [sliceDomainReset]
@[simp] theorem pairDomainReset_kept : (pairDomainReset s).kept = s.kept := by simp [pairDomainReset]
@[simp] theorem pgDust_kept : (pgDust t s).kept = s.kept := by simp [pgDust]
@[simp] theorem pgRelease_kept : (pgRelease k s).kept = s.kept := by simp [pgRelease]

/-! ### Valves -/

@[simp] theorem modValve_kept (f : Valve → Valve) : (modValve n f s).kept = s.kept := by simp [modValve]
@[simp] theorem modVgrp_kept (f : VGroup → VGroup) : (modVgrp g f s).kept = s.kept := by simp [modVgrp]
@[simp] theorem modDet_kept (f : Detect → Detect) : (modDet n f s).kept = s.kept := by simp [modDet]
@[simp] theorem setVPhase_kept : (setVPhase n p s).kept = s.kept := by simp [setVPhase]
@[simp] theorem vgCause_kept : (vgCause g b inst stamp s).kept = s.kept := by simp [vgCause]
@[simp] theorem vRecord_kept (ws : List Word) : (vRecord n ws s).kept = s.kept := by simp [vRecord]
@[simp] theorem vActRecord_kept (cut : Bool) : (vActRecord n cut s).kept = s.kept := by simp [vActRecord]
@[simp] theorem vTestRecord_kept (res : Nat) (win : Bool) : (vTestRecord n t res win s).kept = s.kept := by
  simp [vTestRecord]
@[simp] theorem vShow_kept : (vShow g s).kept = s.kept := by simp [vShow]
@[simp] theorem vFreed_kept : (vFreed g t s).kept = s.kept := by simp [vFreed]
@[simp] theorem vOpenRes_kept (r : Option Nat) : (vOpenRes n t r s).kept = s.kept := by
  unfold vOpenRes
  split <;> simp
@[simp] theorem vOpenEnd_kept : (vOpenEnd n t s).kept = s.kept := by simp [vOpenEnd]
@[simp] theorem vUnstick_kept : (vUnstick n t s).kept = s.kept := by simp [vUnstick]
@[simp] theorem vRelRes_kept (r : Option Nat) : (vRelRes n t r s).kept = s.kept := by
  unfold vRelRes
  split <;> simp
@[simp] theorem vRelCut_kept (rise : Bool) : (vRelCut n rise s).kept = s.kept := by simp [vRelCut]
@[simp] theorem vOpenOn_kept : (vOpenOn n t s).kept = s.kept := by simp [vOpenOn]
@[simp] theorem vPeakOver_kept : (vPeakOver n t s).kept = s.kept := by simp [vPeakOver]
@[simp] theorem vDecay_kept : (vDecay n t s).kept = s.kept := by simp [vDecay]
@[simp] theorem vGrant_kept : (vGrant n t s).kept = s.kept := by simp [vGrant]
@[simp] theorem vStartGrant_kept : (vStartGrant g s).kept = s.kept := by
  unfold vStartGrant
  split <;> simp
@[simp] theorem vLimits_kept {f : State → State} (h : ∀ s, (f s).kept = s.kept) :
    (vLimits g f s).kept = s.kept := by
  unfold vLimits; split <;> simp [h]
@[simp] theorem vHsOn_kept : (vHsOn g t s).kept = s.kept := by simp [vHsOn]
@[simp] theorem vRequest_kept : (vRequest n t s).kept = s.kept := by simp [vRequest]
@[simp] theorem vRise_kept : (vRise n s).kept = s.kept := by
  unfold vRise
  split <;> simp
@[simp] theorem vFallAt_kept : (vFallAt n t s).kept = s.kept := by
  simp only [vFallAt]
  repeat' split
  all_goals simp
@[simp] theorem vFall.take_kept (kept : Bool) : (vFall.take n t kept s).kept = s.kept := by simp [vFall.take]
@[simp] theorem vFall_kept : (vFall n s).kept = s.kept := by
  simp only [vFall]
  repeat' split
  all_goals simp
@[simp] theorem vPeakEnd_kept : (vPeakEnd n s).kept = s.kept := by simp [vPeakEnd]
@[simp] theorem vDecayEnd_kept : (vDecayEnd n s).kept = s.kept := by simp [vDecayEnd]
@[simp] theorem vForce_kept : (vForce n t s).kept = s.kept := by
  unfold vForce
  split <;> simp
@[simp] theorem vHsOff_kept : (vHsOff g t s).kept = s.kept := by simp [vHsOff]
@[simp] theorem vgFollow_kept : (vgFollow g t s).kept = s.kept := by simp [vgFollow]
/-- A change of a group leaves what the change itself leaves. -/
@[simp] theorem vgChange_kept {f : State → State} (h : ∀ s, (f s).kept = s.kept) :
    (vgChange g t f s).kept = s.kept := by
  simp [vgChange, h]
@[simp] theorem vHsTrip_kept : (vHsTrip g t s).kept = s.kept := by simp [vHsTrip]
@[simp] theorem vLatch_kept (f : Field) : (vLatch n t b f s).kept = s.kept := by simp [vLatch]
@[simp] theorem vShortSup_kept : (vShortSup n t s).kept = s.kept := by simp [vShortSup]
@[simp] theorem vShortGnd_kept : (vShortGnd g t s).kept = s.kept := by simp [vShortGnd]
@[simp] theorem vDetOpen_kept (sum : Nat) (top : Bool) : (vDetOpen n t sum top s).kept = s.kept := by simp [vDetOpen]
@[simp] theorem vDetRel_kept (sum : Nat) : (vDetRel n t sum s).kept = s.kept := by simp [vDetRel]
@[simp] theorem vSample_kept : (vSample n t i s).kept = s.kept := by simp [vSample]
@[simp] theorem vSamples_kept (l : List Nat) : (vSamples n t l s).kept = s.kept := by
  induction l generalizing t s with
  | nil => rfl
  | cons i r ih => simp [vSamples, ih]
@[simp] theorem vSupLow_kept : (vSupLow g t mv s).kept = s.kept := by simp [vSupLow]
@[simp] theorem vSupBack_kept : (vSupBack g mv s).kept = s.kept := by simp [vSupBack]
@[simp] theorem vGroupSample_kept (ma : Nat) : (vGroupSample g t mv ma s).kept = s.kept := by simp [vGroupSample]
@[simp] theorem vPeriod_kept : (vPeriod n s).kept = s.kept := by simp [vPeriod]
@[simp] theorem vTherm_kept : (vTherm n t s).kept = s.kept := by simp [vTherm]
@[simp] theorem vThermResult_kept (i d : Word) : (vThermResult n t v i d s).kept = s.kept := by simp [vThermResult]
@[simp] theorem vHoldMeas_kept : (vHoldMeas n t s).kept = s.kept := by simp [vHoldMeas]
@[simp] theorem vCool_kept : (vCool n s).kept = s.kept := by simp [vCool]
@[simp] theorem vHsonRes_kept (t0 res : Nat) : (vHsonRes n t0 t res s).kept = s.kept := by simp [vHsonRes]
@[simp] theorem vHsonTest_kept (down up : Bool) : (vHsonTest n down up s).kept = s.kept := by simp [vHsonTest]
@[simp] theorem vWindow_kept : (vWindow g t s).kept = s.kept := by simp [vWindow]
@[simp] theorem vHsoffWindow_kept : (vHsoffWindow g s).kept = s.kept := by simp [vHsoffWindow]
@[simp] theorem vWindowRes_kept (high : Bool) : (vWindowRes n t high s).kept = s.kept := by simp [vWindowRes]
@[simp] theorem vWindowSample_kept (levels : BitVec 8) : (vWindowSample g levels s).kept = s.kept := by
  simp [vWindowSample]
@[simp] theorem vTestDone_kept (levels : BitVec 8) : (vTestDone g levels s).kept = s.kept := by simp [vTestDone]
@[simp] theorem vgForcing_kept : (vgForcing g t s).kept = s.kept := by simp [vgForcing]
@[simp] theorem vgForcings_kept : (vgForcings t s).kept = s.kept := by simp [vgForcings]
@[simp] theorem dieHot_kept (temp : Word) : (dieHot d temp s).kept = s.kept := by simp [dieHot]
@[simp] theorem dieCool_kept (temp : Word) : (dieCool d temp s).kept = s.kept := by simp [dieCool]
@[simp] theorem dieShut_kept (temp : Word) : (dieShut d t temp s).kept = s.kept := by simp [dieShut]
@[simp] theorem dieReads_kept (temp : Word) : (dieReads d t temp s).kept = s.kept := by simp [dieReads]
@[simp] theorem vTestFrom_kept {f : State → State} (h : ∀ s, (f s).kept = s.kept) :
    (vTestFrom g f s).kept = s.kept := by
  simp [vTestFrom, h]
@[simp] theorem vgCfgStore_kept : (vgCfgStore g v s).kept = s.kept := by simp [vgCfgStore]
@[simp] theorem vgTestStore_kept : (vgTestStore g v s).kept = s.kept := by simp [vgTestStore]
@[simp] theorem vgCcfgStore.store_kept : (vgCcfgStore.store n v s).kept = s.kept := by simp [vgCcfgStore.store]
@[simp] theorem vgCcfgStore_kept : (vgCcfgStore n v s).kept = s.kept := by simp [vgCcfgStore]
@[simp] theorem vgCtrlStore_kept : (vgCtrlStore g v s).kept = s.kept := by simp [vgCtrlStore]
@[simp] theorem vgCctrlStore_kept : (vgCctrlStore n v s).kept = s.kept := by simp [vgCctrlStore]
@[simp] theorem fltFollow_kept : (fltFollow t k s).kept = s.kept := by simp [fltFollow]
@[simp] theorem fltAssert_kept : (fltAssert n t s).kept = s.kept := by simp [fltAssert]
@[simp] theorem fltDeassert_kept : (fltDeassert n s).kept = s.kept := by simp [fltDeassert]
@[simp] theorem fltClrStore_kept : (fltClrStore v s).kept = s.kept := by simp [fltClrStore]
@[simp] theorem fltCfgStore_kept : (fltCfgStore n v s).kept = s.kept := by simp [fltCfgStore]
@[simp] theorem vgDustFollow_kept : (vgDustFollow g t s).kept = s.kept := by simp [vgDustFollow]
@[simp] theorem vgDust_kept : (vgDust t s).kept = s.kept := by simp [vgDust]
@[simp] theorem vgDieDust_kept : (vgDieDust d t on s).kept = s.kept := by simp [vgDieDust]
@[simp] theorem vgRelease_kept : (vgRelease t s).kept = s.kept := by simp [vgRelease]
@[simp] theorem vgResetStart_kept : (vgResetStart g t s).kept = s.kept := by simp [vgResetStart]
@[simp] theorem vgResetEnd_kept : (vgResetEnd g t s).kept = s.kept := by simp [vgResetEnd]

/-! ### LoadSwitches -/

@[simp] theorem modLs_kept (f : Ls → Ls) : (modLs m f s).kept = s.kept := by simp [modLs]
@[simp] theorem lsPhys_kept : (lsPhys s).kept = s.kept := by
  unfold lsPhys
  split <;> simp
@[simp] theorem lsPins_kept : (lsPins s).kept = s.kept := by simp [lsPins]
@[simp] theorem lsShow_kept : (lsShow m s).kept = s.kept := by simp [lsShow]
@[simp] theorem lsCause_kept : (lsCause m b t mv s).kept = s.kept := by simp [lsCause]
@[simp] theorem lsOn_kept (win : Bool) : (lsOn m t win s).kept = s.kept := by simp [lsOn]
@[simp] theorem lsOff_kept : (lsOff m t s).kept = s.kept := by simp [lsOff]
@[simp] theorem lsLong_kept : (lsLong m t s).2.kept = s.kept := by
  unfold lsLong
  split <;> simp
@[simp] theorem lsRestart_kept (b : Option Nat) : (lsRestart m t b s).kept = s.kept := by
  unfold lsRestart
  repeat' split
  all_goals simp
@[simp] theorem lsCommand_kept : (lsCommand m t s).kept = s.kept := by simp [lsCommand]
@[simp] theorem lsPinShow_kept : (lsPinShow m s).kept = s.kept := by simp [lsPinShow]
@[simp] theorem lsinChange_kept (lvl : Bool) : (lsinChange m lvl s).kept = s.kept := by simp [lsinChange]
@[simp] theorem lsSettle_kept : (lsSettle m k s).kept = s.kept := by
  simp only [lsSettle]
  split <;> simp
@[simp] theorem lsPhase_kept : (lsPhase s).kept = s.kept := by simp [lsPhase]
@[simp] theorem lsTrips_kept : (lsTrips m t s).kept = s.kept := by simp [lsTrips]
@[simp] theorem lsTrip_kept (i : Word) : (lsTrip m t i s).kept = s.kept := by simp [lsTrip]
@[simp] theorem lsPauseEnd_kept : (lsPauseEnd m s).kept = s.kept := by
  unfold lsPauseEnd
  split <;> simp
@[simp] theorem lsWindowEnd_kept : (lsWindowEnd m s).kept = s.kept := by
  unfold lsWindowEnd
  split <;> simp
@[simp] theorem lsThOffs_kept : (lsThOffs m t s).kept = s.kept := by simp [lsThOffs]
@[simp] theorem lsThOff_kept (tj : Word) : (lsThOff m t tj s).kept = s.kept := by simp [lsThOff]
@[simp] theorem lsCools_kept : (lsCools m t s).kept = s.kept := by simp [lsCools]
@[simp] theorem lsCool_kept (tj : Word) : (lsCool m t tj s).kept = s.kept := by simp [lsCool]
@[simp] theorem lsVsup_kept : (lsVsup g mv s).kept = s.kept := by
  unfold lsVsup
  split <;> simp
@[simp] theorem lsUvOffs_kept : (lsUvOffs g t mv s).kept = s.kept := by simp [lsUvOffs]
@[simp] theorem lsUvOff_kept : (lsUvOff g t mv s).kept = s.kept := by simp [lsUvOff]
@[simp] theorem lsUvBacks_kept : (lsUvBacks g t s).kept = s.kept := by simp [lsUvBacks]
@[simp] theorem lsUvBack_kept : (lsUvBack g t mv s).kept = s.kept := by simp [lsUvBack]
@[simp] theorem lsCfgStore_kept : (lsCfgStore m v s).kept = s.kept := by simp [lsCfgStore]
@[simp] theorem lsCtrlStore_kept : (lsCtrlStore m t v s).kept = s.kept := by simp [lsCtrlStore]
@[simp] theorem lsGctrlStore_kept : (lsGctrlStore v s).kept = s.kept := by simp [lsGctrlStore]
@[simp] theorem lsMeasure_kept (l : List (Nat × Word × Word)) (v : List (Nat × Nat)) :
    (lsMeasure l v s).kept = s.kept := by simp [lsMeasure]
@[simp] theorem lsSense_kept : (lsSense s).kept = s.kept := by simp [lsSense]
@[simp] theorem lsRegsReset_kept : (lsRegsReset s).kept = s.kept := by simp [lsRegsReset]
@[simp] theorem lsLoss_kept : (lsLoss s).kept = s.kept := by simp [lsLoss]
@[simp] theorem lsCold_kept : (lsCold t s).kept = s.kept := by simp [lsCold]
@[simp] theorem switchesLost_kept : (switchesLost s).kept = s.kept := by simp [switchesLost]
@[simp] theorem lsThrough_kept (d : Int) : (lsThrough d s).kept = s.kept := by simp [lsThrough]
@[simp] theorem lsDomainReset_kept : (lsDomainReset s).kept = s.kept := by simp [lsDomainReset]
@[simp] theorem lsReplayStart_kept : (lsReplayStart s).kept = s.kept := by simp [lsReplayStart]
@[simp] theorem lsReplayEnd_kept : (lsReplayEnd s).kept = s.kept := by
  unfold lsReplayEnd
  split <;> simp

/-! ### Sensors -/

@[simp] theorem modPc_kept (f : Pc → Pc) : (modPc n f s).kept = s.kept := by simp [modPc]
@[simp] theorem modGc_kept (f : Gc → Gc) : (modGc n f s).kept = s.kept := by simp [modGc]
@[simp] theorem modZc_kept (f : Zc → Zc) : (modZc z f s).kept = s.kept := by simp [modZc]
@[simp] theorem modAo_kept (f : Ao → Ao) : (modAo a f s).kept = s.kept := by simp [modAo]
@[simp] theorem setCoef_kept (x1 : PcCoef) : (setCoef c x1 s).kept = s.kept := by simp [setCoef]
@[simp] theorem modRot_kept (f : Rot → Rot) : (modRot f s).kept = s.kept := by simp [modRot]
@[simp] theorem pcCross_kept (h l : Int) (ov : Bool) : (pcCross n h l ov s).kept = s.kept := by simp [pcCross]
@[simp] theorem pcCause_kept : (pcCause n b t s).kept = s.kept := by simp [pcCause]
@[simp] theorem pcShowI_kept : (pcShowI n s).kept = s.kept := by simp [pcShowI]
@[simp] theorem pcResult_kept (raw : Int) (flags : Nat) (ibar : Word) (live : Bool) :
    (pcResult n t raw flags ibar live s).kept = s.kept := by simp [pcResult]
@[simp] theorem pcConversion_kept (xh xl : List Chop) (ovH ovL : Bool) :
    (pcConversion n xh xl ovH ovL s).kept = s.kept := by simp [pcConversion]
@[simp] theorem pcCompare_kept (src : Source) : (pcCompare n src on s).kept = s.kept := by simp [pcCompare]
@[simp] theorem pcTrip_kept (src : Source) : (pcTrip n src t s).kept = s.kept := by simp [pcTrip]
@[simp] theorem pcRelease_kept (src : Source) : (pcRelease n src s).kept = s.kept := by simp [pcRelease]
@[simp] theorem pcCfgStore_kept : (pcCfgStore n v s).kept = s.kept := by simp [pcCfgStore]
@[simp] theorem rotShow_kept : (rotShow s).kept = s.kept := by simp [rotShow]
@[simp] theorem rotExchange_kept : (rotExchange n s).kept = s.kept := by simp [rotExchange]
@[simp] theorem rotSpareSlot_kept : (rotSpareSlot s).kept = s.kept := by simp [rotSpareSlot]
@[simp] theorem rotSlotStart_kept : (rotSlotStart s).kept = s.kept := by simp [rotSlotStart]
@[simp] theorem rotTakeover_kept : (rotTakeover s).kept = s.kept := by
  unfold rotTakeover
  split <;> simp
@[simp] theorem rotDone_kept (ia ib dev : Word) (c : PcCoef) (testOk : Bool) :
    (rotDone ia ib dev c testOk s).kept = s.kept := by
  simp only [rotDone]
  split <;> simp
@[simp] theorem rotRequest_kept (test : Bool) : (rotRequest n test s).kept = s.kept := by simp [rotRequest]
@[simp] theorem pcCtrlStore_kept : (pcCtrlStore n v s).kept = s.kept := by simp [pcCtrlStore]
@[simp] theorem initCalEnd_kept (cur : List CalIn) : (initCalEnd cur s).kept = s.kept := by simp [initCalEnd]
@[simp] theorem gcCause_kept : (gcCause n b t s).kept = s.kept := by simp [gcCause]
@[simp] theorem gcValue_kept (code : Int) (flags : Nat) : (gcValue n t code flags s).kept = s.kept := by
  simp [gcValue]
@[simp] theorem gcResult_kept (samples : List GcSample) : (gcResult n t samples s).kept = s.kept := by simp [gcResult]
@[simp] theorem shuntOff_kept : (shuntOff n t s).kept = s.kept := by simp [shuntOff]
@[simp] theorem shuntReconnect_kept (inRange : Bool) : (shuntReconnect n inRange s).kept = s.kept := by
  simp [shuntReconnect]
@[simp] theorem gcCfgStore_kept : (gcCfgStore n v s).kept = s.kept := by simp [gcCfgStore]
@[simp] theorem zcCause_kept : (zcCause z b t s).kept = s.kept := by simp [zcCause]
@[simp] theorem zcResult_kept (re im : Word) (slot : Nat) (ovr : Bool) :
    (zcResult z t re im slot ovr s).kept = s.kept := by simp [zcResult]
@[simp] theorem zcMeasure_kept (re im : Word) (ovr : Bool) : (zcMeasure z re im ovr s).kept = s.kept := by
  simp [zcMeasure]
@[simp] theorem zcCfgStore_kept : (zcCfgStore z v s).kept = s.kept := by simp [zcCfgStore]
@[simp] theorem aoCause_kept : (aoCause a b t s).kept = s.kept := by simp [aoCause]
@[simp] theorem aoSend_kept : (aoSend a k v s).kept = s.kept := by simp [aoSend]
@[simp] theorem aoWrite_kept : (aoWrite a k v s).kept = s.kept := by simp [aoWrite]
@[simp] theorem aoDrive_kept : (aoDrive a c s).kept = s.kept := by simp [aoDrive]
@[simp] theorem aoSafeNow_kept : (aoSafeNow a s).kept = s.kept := by simp [aoSafeNow]
@[simp] theorem aoResafe_kept : (aoResafe a s).kept = s.kept := by simp [aoResafe]
@[simp] theorem aoDust_kept : (aoDust s).kept = s.kept := by simp [aoDust]
@[simp] theorem aoRelease_kept : (aoRelease k s).kept = s.kept := by simp [aoRelease]
@[simp] theorem aoPhase_kept : (aoPhase s).kept = s.kept := by simp [aoPhase]
@[simp] theorem aoLoopDust_kept : (aoLoopDust a k on s).kept = s.kept := by simp [aoLoopDust]
@[simp] theorem aoFails_kept : (aoFails a t s).kept = s.kept := by simp [aoFails]
@[simp] theorem aoFault_kept : (aoFault a t s).kept = s.kept := by simp [aoFault]
@[simp] theorem aoReadback_kept (l : List (Nat × Word × Bool)) : (aoReadback l s).kept = s.kept := by
  simp [aoReadback]
@[simp] theorem aoCfgStore_kept : (aoCfgStore a v s).kept = s.kept := by simp [aoCfgStore]
@[simp] theorem aoLimStore_kept : (aoLimStore a v s).kept = s.kept := by simp [aoLimStore]
@[simp] theorem aoSafeStore_kept : (aoSafeStore a v s).kept = s.kept := by simp [aoSafeStore]
@[simp] theorem pcDomainReset_kept : (pcDomainReset s).kept = s.kept := by simp [pcDomainReset]
@[simp] theorem gcDomainReset_kept : (gcDomainReset s).kept = s.kept := by simp [gcDomainReset]
@[simp] theorem zcDomainReset_kept : (zcDomainReset s).kept = s.kept := by simp [zcDomainReset]

/-! ### Control -/

@[simp] theorem modLp_kept (f : Lp → Lp) : (modLp n f s).kept = s.kept := by simp [modLp]
@[simp] theorem modGrp_kept (f : Grp → Grp) : (modGrp g f s).kept = s.kept := by simp [modGrp]
@[simp] theorem modTg_kept (f : Tg → Tg) : (modTg t f s).kept = s.kept := by simp [modTg]
@[simp] theorem lpCause_kept : (lpCause n b k s).kept = s.kept := by simp [lpCause]
@[simp] theorem lpResult_kept (prev : Option Nat) (v : Option (Word × Nat)) : (lpResult prev v s).2.kept = s.kept := by
  unfold lpResult
  split <;> simp
@[simp] theorem lpSource_kept (own : Word) (prev : Option Nat) : (lpSource code own prev s).2.kept = s.kept := by
  unfold lpSource
  split <;> simp
@[simp] theorem tgSample_kept : (tgSample n s).2.kept = s.kept := by simp [tgSample]
@[simp] theorem tgStart_kept : (tgStart t k s).kept = s.kept := by simp [tgStart]
@[simp] theorem tgStop_kept : (tgStop t s).kept = s.kept := by simp [tgStop]
@[simp] theorem tgEnough_kept : (tgEnough t s).kept = s.kept := by simp [tgEnough]
@[simp] theorem lpSample_kept : (lpSample n s).kept = s.kept := by simp [lpSample]
@[simp] theorem lpDispatch_kept : (lpDispatch n s).kept = s.kept := by
  simp only [lpDispatch]
  repeat' split
  all_goals simp
@[simp] theorem lpWrite_kept (u : Word) (dust : Bool) : (lpWrite kind i u dust s).kept = s.kept := by simp [lpWrite]
@[simp] theorem grpShow_kept (win : Nat) (valid : Bool) : (grpShow g win valid s).kept = s.kept := by simp [grpShow]
@[simp] theorem lpDustPhase_kept : (lpDustPhase s).kept = s.kept := by simp [lpDustPhase]
@[simp] theorem lpEnable_kept : (lpEnable n v s).kept = s.kept := by simp [lpEnable]
@[simp] theorem lpCfgStore_kept : (lpCfgStore n v s).kept = s.kept := by simp [lpCfgStore]
@[simp] theorem lpFreshStore_kept : (lpFreshStore n v s).kept = s.kept := by simp [lpFreshStore]
@[simp] theorem lpCtrlStore_kept : (lpCtrlStore n v s).kept = s.kept := by simp [lpCtrlStore]
@[simp] theorem lpGswapStore_kept : (lpGswapStore j v s).kept = s.kept := by simp [lpGswapStore]
@[simp] theorem lpGcfgStore_kept : (lpGcfgStore g v s).kept = s.kept := by simp [lpGcfgStore]
@[simp] theorem tgCfgStore_kept : (tgCfgStore t v s).kept = s.kept := by simp [tgCfgStore]
@[simp] theorem tgCapStore_kept : (tgCapStore t v s).kept = s.kept := by simp [tgCapStore]
@[simp] theorem tgCtrlStore_kept : (tgCtrlStore t k v s).kept = s.kept := by simp [tgCtrlStore]
@[simp] theorem lpRelease_kept : (lpRelease s).kept = s.kept := by simp [lpRelease]
@[simp] theorem lpHalt_kept : (lpHalt s).kept = s.kept := by simp [lpHalt]
@[simp] theorem lpDomainReset_kept : (lpDomainReset s).kept = s.kept := by simp [lpDomainReset]

/-! ### Drying -/

@[simp] theorem modDp_kept (f : Dp → Dp) : (modDp p f s).kept = s.kept := by simp [modDp]
@[simp] theorem dpCause_kept : (dpCause p b s).kept = s.kept := by simp [dpCause]
@[simp] theorem gcOrFree_kept : (gcOrFree n s).2.kept = s.kept := by
  unfold gcOrFree
  split <;> simp
@[simp] theorem zoneRh_kept (t : Word) : (zoneRh p z t s).2.kept = s.kept := by
  simp only [zoneRh]
  repeat' split
  all_goals simp
@[simp] theorem zoneAir_kept : (zoneAir p s).2.kept = s.kept := foldl_snd_kept (fun _ _ => by split <;> simp) _ _
@[simp] theorem parcShow_kept : (parcShow p s).kept = s.kept := by simp [parcShow]
@[simp] theorem layerTime_kept (a : Parcel) : (layerTime p a s).2.kept = s.kept := by
  unfold layerTime
  split <;> simp
@[simp] theorem dpStepOutputs_kept : (dpStepOutputs p s).kept = s.kept := by
  simp only [dpStepOutputs]
  split <;> simp
@[simp] theorem dpNewest_kept : (dpNewest p s).kept = s.kept := by
  unfold dpNewest
  split <;> simp
@[simp] theorem dpRun_kept (x1 : Int) : (dpRun p x1 s).kept = s.kept := by simp [dpRun]
@[simp] theorem dpFill_kept : (dpFill p t s).kept = s.kept := by simp [dpFill]
@[simp] theorem binAdd_kept (m : Word) (tz : Option Word) : (binAdd p t m tz s).kept = s.kept := by simp [binAdd]
@[simp] theorem biasUpdate_kept (a : Parcel) (mOut : Word) : (biasUpdate p a mOut s).kept = s.kept := by
  simp [biasUpdate]
@[simp] theorem dpDispatch_kept : (dpDispatch p s).kept = s.kept := by simp [dpDispatch]
@[simp] theorem modelDispatch_kept : (modelDispatch s).kept = s.kept := by simp [modelDispatch]
@[simp] theorem zoneLost_kept : (zoneLost p z s).kept = s.kept := by simp [zoneLost]
@[simp] theorem zoneBack_kept : (zoneBack n s).kept = s.kept := by simp [zoneBack]
@[simp] theorem dpLockout_kept : (dpLockout p s).kept = s.kept := by simp [dpLockout]
@[simp] theorem dpZcfgStore_kept : (dpZcfgStore i v s).kept = s.kept := by simp [dpZcfgStore]
@[simp] theorem dpCtrlStore_kept : (dpCtrlStore p v s).kept = s.kept := by simp [dpCtrlStore]
@[simp] theorem sensorResponse_kept (data : List Byte) : (sensorResponse b e t data s).kept = s.kept := by
  simp [sensorResponse]
@[simp] theorem sensorStale_kept : (sensorStale n s).kept = s.kept := by
  unfold sensorStale
  split <;> simp
@[simp] theorem binMove_kept (want : Bool) : (binMove b want s).kept = s.kept := by simp [binMove]
@[simp] theorem binEvaluate_kept : (binEvaluate b s).kept = s.kept := by
  simp only [binEvaluate]
  split <;> simp
@[simp] theorem binsEvaluate_kept : (binsEvaluate s).kept = s.kept := by simp [binsEvaluate]
@[simp] theorem aeCfgStore_kept : (aeCfgStore b v s).kept = s.kept := by simp [aeCfgStore]
@[simp] theorem seCfgStore_kept : (seCfgStore n v s).kept = s.kept := by simp [seCfgStore]
@[simp] theorem kcCfgStore_kept : (kcCfgStore n v s).kept = s.kept := by simp [kcCfgStore]
@[simp] theorem kcUntimed_kept : (kcUntimed s).kept = s.kept :=
  each_kept (fun n s => by split <;> simp) _ _
@[simp] theorem kcConfirm_kept : (kcConfirm n s).kept = s.kept := by
  simp only [kcConfirm, ite_kept, raiseLog_kept, setFlag_kept]
  split <;> simp <;> split <;> simp
@[simp] theorem storeDomainReset_kept : (storeDomainReset s).kept = s.kept := by simp [storeDomainReset]

/-! ### Buses -/

@[simp] theorem modCan_kept (f : Can → Can) : (modCan c f s).kept = s.kept := by simp [modCan]
@[simp] theorem modSb_kept (f : Sb → Sb) : (modSb b f s).kept = s.kept := by simp [modSb]
@[simp] theorem canCause_kept : (canCause c b t id s).kept = s.kept := by simp [canCause]
@[simp] theorem canLevels_kept : (canLevels c t s).kept = s.kept := by simp [canLevels]
@[simp] theorem canIntake_kept (f : CanFrame) (echo : Bool) (tag : Nat) :
    (canIntake c t f echo tag s).kept = s.kept := by simp [canIntake]
@[simp] theorem yawFrame_kept (f : CanFrame) : (yawFrame c t f s).kept = s.kept := by simp [yawFrame]
@[simp] theorem canRecOk_kept : (canRecOk c t s).kept = s.kept := by simp [canRecOk]
@[simp] theorem fifoPop_kept (f : Nat) : (fifoPop c f s).kept = s.kept := by simp [fifoPop]
@[simp] theorem dropBad_kept (f : Nat) : (dropBad c f n s).kept = s.kept := by
  induction n generalizing s with
  | zero => rfl
  | succ n ih => unfold dropBad; split <;> simp [ih]
@[simp] theorem canQuiet_kept : (canQuiet c s).kept = s.kept := by simp [canQuiet]
@[simp] theorem canOfferHead_kept : (canOfferHead c s).kept = s.kept := by
  simp only [canOfferHead]
  repeat' split
  all_goals simp
@[simp] theorem fifoFlush_kept (f : Nat) : (fifoFlush c f s).kept = s.kept := by simp [fifoFlush]
@[simp] theorem canRest_kept (act : Nat) : (canRest c act s).kept = s.kept := by simp [canRest]
@[simp] theorem canIdle_kept : (canIdle c s).kept = s.kept := by simp [canIdle]
@[simp] theorem canStart_kept : (canStart c s).kept = s.kept := by simp [canStart]
@[simp] theorem canFrame_kept (f : CanFrame) : (canFrame c t f s).kept = s.kept := by simp [canFrame]
@[simp] theorem canReceive_kept (x2 : CanBusIn) : (canReceive c t x2 s).kept = s.kept := by
  unfold canReceive
  split <;> simp
@[simp] theorem canTxDone_kept (delay : Nat) : (canTxDone c t delay s).kept = s.kept := by
  unfold canTxDone
  split <;> simp
@[simp] theorem canMove_kept (data coll : Bool) (x4 : CanErrIn) : (canMove c code data coll x4 s).kept = s.kept := by
  simp [canMove]
@[simp] theorem canDelay_kept (x1 : CanErrIn) : (canDelay c x1 s).kept = s.kept := by
  unfold canDelay
  split <;> simp
@[simp] theorem canError_kept (data won : Bool) (x5 : CanErrIn) : (canError c t code data won x5 s).kept = s.kept := by
  simp only [canError]
  repeat' split
  all_goals simp
@[simp] theorem canOffer_kept : (canOffer c s).kept = s.kept := by simp [canOffer]
@[simp] theorem canIntegrated_kept : (canIntegrated c s).kept = s.kept := by simp [canIntegrated]
@[simp] theorem canBusOn_kept : (canBusOn c t s).kept = s.kept := by simp [canBusOn]
@[simp] theorem canTxdTo_kept : (canTxdTo c t s).kept = s.kept := by simp [canTxdTo]
@[simp] theorem canCfgStore_kept : (canCfgStore c v s).kept = s.kept := by simp [canCfgStore]
@[simp] theorem canCtrlStore_kept : (canCtrlStore c v s).kept = s.kept := by simp [canCtrlStore]
@[simp] theorem canDomainReset_kept : (canDomainReset c s).kept = s.kept := by simp [canDomainReset]
@[simp] theorem sbCause_kept : (sbCause b i s).kept = s.kept := by simp [sbCause]
@[simp] theorem sbDue_kept : (sbDue b e s).kept = s.kept := by simp [sbDue]
@[simp] theorem sbEntryDue_kept : (sbEntryDue b e s).kept = s.kept := by simp [sbEntryDue]
@[simp] theorem sbTrig_kept (base : Nat) : (sbTrig b base v s).kept = s.kept := by simp [sbTrig]
@[simp] theorem sbStart_kept : (sbStart b s).kept = s.kept := by
  simp only [sbStart, ite_kept]
  split
  · rw [ite_eq_right_iff]
    intro _
    split <;> simp
  · rw [ite_eq_right_iff]
    intro _
    split <;> simp
@[simp] theorem sbPhase_kept : (sbPhase s).kept = s.kept := by
  unfold sbPhase
  split
  · rfl
  · exact each_kept (fun b s => by split <;> simp) _ _
@[simp] theorem sbEnd_kept : (sbEnd b t s).kept = s.kept := by simp [sbEnd]
@[simp] theorem sbRequestEnd_kept : (sbRequestEnd b s).kept = s.kept := by
  unfold sbRequestEnd
  split <;> simp
@[simp] theorem sbOutcome_kept (entry status delay : Nat) (data : List Byte) :
    (sbOutcome b entry t status delay data s).kept = s.kept := by
  simp only [sbOutcome]
  rw [when_kept (fun s => sensorResponse_kept ..)]
  split <;> simp only [sbCause_kept, ite_kept, incMod_kept, incSat_kept, modSb_kept, recNote_kept, ite_self]
@[simp] theorem sbResponse_kept (delay : Nat) (bad : Bool) (d : List Byte) :
    (sbResponse b t delay bad d s).kept = s.kept := by
  unfold sbResponse
  split <;> simp
@[simp] theorem sbTimeout_kept : (sbTimeout b s).kept = s.kept := by
  unfold sbTimeout
  split <;> simp
@[simp] theorem sbReplay_kept (entry status delay : Nat) (d : List Byte) :
    (sbReplay b entry t status delay d s).kept = s.kept := by simp [sbReplay]
@[simp] theorem canReplay_kept (f : CanFrame) (echo : Bool) : (canReplay c t f echo s).kept = s.kept := by
  simp [canReplay]
@[simp] theorem canReplayDrain_kept : (canReplayDrain s).kept = s.kept := by simp [canReplayDrain]
@[simp] theorem canReplayHeads_kept : (canReplayHeads s).kept = s.kept := by simp [canReplayHeads]
@[simp] theorem sbStray_kept : (sbStray b s).kept = s.kept := by simp [sbStray]
@[simp] theorem sbCfgStore_kept : (sbCfgStore b v s).kept = s.kept := by simp [sbCfgStore]
@[simp] theorem sbCtrlStore_kept : (sbCtrlStore b v s).kept = s.kept := by simp [sbCtrlStore]
@[simp] theorem sbDomainReset_kept : (sbDomainReset b s).kept = s.kept := by simp [sbDomainReset]

/-! ### Queues -/

@[simp] theorem qUnheld_kept : (qUnheld q n s).kept = s.kept := by simp [qUnheld]
@[simp] theorem qStart_kept : (qStart q s).kept = s.kept := by simp [qStart]
@[simp] theorem qGeomStore_kept : (qGeomStore q v s).kept = s.kept := by simp [qGeomStore]
@[simp] theorem qTailStore_kept : (qTailStore q stamp v s).kept = s.kept := by simp [qTailStore]
@[simp] theorem qHeadStore_kept : (qHeadStore q v s).kept = s.kept := by simp [qHeadStore]
@[simp] theorem qCtrlStore_kept : (qCtrlStore q v s).kept = s.kept := by simp [qCtrlStore]
@[simp] theorem qErr_kept (detail : List Word) : (qErr q stamp detail s).kept = s.kept := by simp [qErr]
@[simp] theorem qDomainReset_kept : (qDomainReset s).kept = s.kept := by simp [qDomainReset]
@[simp] theorem streamLoss_kept : (streamLoss q stamp s).kept = s.kept := by simp [streamLoss]
@[simp] theorem snapSources_kept : (snapSources p s).kept = s.kept := by
  unfold snapSources
  repeat' split
  all_goals simp
@[simp] theorem snapPage_kept : (snapPage p s).kept = s.kept := by simp [snapPage]
@[simp] theorem snapAll_kept : (snapAll s).kept = s.kept := by simp [snapAll]
@[simp] theorem replayClock_kept : (replayClock s).kept = s.kept := by simp [replayClock]

/-! ### Boot -/

@[simp] theorem imgPut_kept (r : Reg) : (imgPut r i v s).kept = s.kept := by simp [imgPut]
@[simp] theorem imgLoad_kept (base : Nat) (x : Image) : (imgLoad base x s).kept = s.kept := by
  simp [imgLoad]
  exact each_kept (fun e s => by split <;> simp) _ _
@[simp] theorem modHc_kept (f : Hc → Hc) : (modHc i f s).kept = s.kept := by simp [modHc]
@[simp] theorem keysOff_kept : (keysOff m s).kept = s.kept := by simp [keysOff]
@[simp] theorem hcReload_kept : (hcReload i s).kept = s.kept := by simp [hcReload]
@[simp] theorem hcStart_kept : (hcStart i s).kept = s.kept := by simp [hcStart]
@[simp] theorem hcEnter_kept (pc cause tval : Word) : (hcEnter i pc cause tval s).kept = s.kept := by simp [hcEnter]
@[simp] theorem hcHalt_kept (st : Nat) (pc : Word) : (hcHalt i st pc s).kept = s.kept := by simp [hcHalt]
@[simp] theorem corePc_kept : (corePc s).2.kept = s.kept := by simp [corePc]
@[simp] theorem hcFreeze_kept : (hcFreeze i t s).kept = s.kept := by simp [hcFreeze]
@[simp] theorem hcRun_kept (reload : Bool) : (hcRun i reload s).kept = s.kept := by simp [hcRun]
@[simp] theorem hcReloadDone_kept : (hcReloadDone i s).kept = s.kept := by simp [hcReloadDone]
@[simp] theorem hcDomainReset_kept : (hcDomainReset i s).kept = s.kept := by simp [hcDomainReset]
@[simp] theorem rlsUpdate_kept : (rlsUpdate s).kept = s.kept := by simp [rlsUpdate]
@[simp] theorem dustIn_kept : (dustIn t s).kept = s.kept := by simp [dustIn]
@[simp] theorem releaseNow_kept : (releaseNow k s).kept = s.kept := by simp [releaseNow]
@[simp] theorem haltNow_kept : (haltNow s).kept = s.kept := by simp [haltNow]
@[simp] theorem haltEnd_kept : (haltEnd s).kept = s.kept := by simp [haltEnd]
@[simp] theorem dieSilent_kept : (dieSilent d s).kept = s.kept := by simp [dieSilent]
@[simp] theorem dieStatReset_kept : (dieStatReset s).kept = s.kept := by simp [dieStatReset]
@[simp] theorem flushEarly_kept : (flushEarly s).kept = s.kept := by simp [flushEarly]
@[simp] theorem bootDone_kept (a b : Image) : (bootDone a b s).kept = s.kept := by simp [bootDone]
@[simp] theorem resetDone_kept : (resetDone s).kept = s.kept := by simp [resetDone]
@[simp] theorem raiseSup_kept : (raiseSup e s).kept = s.kept := by simp [raiseSup]
@[simp] theorem modResetEnd_kept : (modResetEnd s).kept = s.kept := by simp [modResetEnd]
@[simp] theorem regsReset_kept (ps : List Nat) : (regsReset ps s).kept = s.kept := by simp [regsReset]
@[simp] theorem lnKeepLs_kept (old : State) : (lnKeepLs old s).kept = s.kept := by simp [lnKeepLs]
@[simp] theorem domainDone_kept : (domainDone p s).kept = s.kept := by
  unfold domainDone
  split <;> simp
@[simp] theorem mmVerify_kept (slot : Nat) (bodyOk : Bool) : (mmVerify slot bodyOk s).kept = s.kept := by
  simp [mmVerify]

/-! ### Bus -/

@[simp] theorem spend_kept : (spend s).kept = s.kept := by simp [spend]
@[simp] theorem logViolation_kept (addr : Nat) (wr : Bool) : (logViolation m kind addr wr t s).kept = s.kept := by
  simp [logViolation]
@[simp] theorem violate_kept (addr : Nat) (wr : Bool) (page : Option Nat) :
    (violate m kind addr wr page s).kept = s.kept := by
  unfold violate
  repeat' split
  all_goals simp
@[simp] theorem tableEdit_kept (r : Reg) : (tableEdit r i v s).kept = s.kept := by simp [tableEdit]
@[simp] theorem pageAccStore_kept : (pageAccStore i v s).kept = s.kept := by simp [pageAccStore]
@[simp] theorem unfreeze_kept : (unfreeze v s).kept = s.kept := by simp [unfreeze]
@[simp] theorem guardClear_kept : (guardClear p s).kept = s.kept := by simp [guardClear]
@[simp] theorem recTile_kept (body : List Word) : (recTile kind body s).kept = s.kept := by simp [recTile]
@[simp] theorem fixGo_kept (c : Access) : (fixGo c s).1.kept = s.kept := by simp [fixGo]
@[simp] theorem hcRunWrite_kept : (hcRunWrite i v s).kept = s.kept := by simp [hcRunWrite]
@[simp] theorem snapTake_kept : (snapTake p s).kept = s.kept := by simp [snapTake]
@[simp] theorem guardKey_kept : (guardKey id p v a s).1.kept = s.kept := by simp [guardKey]
@[simp] theorem bitWrite_kept : (bitWrite p n v s).1.kept = s.kept := by simp [bitWrite]
@[simp] theorem recWriteNote_kept (c : Access) : (recWriteNote c a v s).kept = s.kept := by simp [recWriteNote]
@[simp] theorem useKey_kept : (useKey p s).kept = s.kept := by simp [useKey]
@[simp] theorem attach_kept : (attach id s).kept = s.kept := by simp [attach]
@[simp] theorem hcFault_kept (cause : Nat) : (hcFault id a cause s).kept = s.kept := by simp [hcFault]
@[simp] theorem regRead_kept (c : Access) (lanes : Word) : (regRead c a lanes s).1.kept = s.kept := by
  simp only [regRead]
  split <;> simp
@[simp] theorem spaceRead_kept (c : Access) (lanes : Word) : (spaceRead c a lanes s).1.kept = s.kept := by
  unfold spaceRead
  repeat' split
  all_goals simp
@[simp] theorem wordRead_kept (c : Access) : (wordRead c size a s).1.kept = s.kept := by
  simp only [wordRead]
  repeat' split
  all_goals simp
@[simp] theorem localWrite_kept (x : Nat) : (localWrite i a n x s).kept = s.kept := by simp [localWrite]
@[simp] theorem mtimecmpSet_kept : (mtimecmpSet i c s).kept = s.kept := by simp [mtimecmpSet]
@[simp] theorem hcOwnWrite_kept : (hcOwnWrite i size a v s).1.kept = s.kept := by simp [hcOwnWrite]
@[simp] theorem hcOwnRead_kept : (hcOwnRead i size a s).1.kept = s.kept := by simp [hcOwnRead]
@[simp] theorem accRead_kept (c : Access) : (accRead c size a s).1.kept = s.kept := by simp [accRead]

/-! ### Host -/

@[simp] theorem modSession_kept (f : Session → Session) : (modSession i f s).kept = s.kept := by simp [modSession]
@[simp] theorem send_kept (f : OutFrame) : (send f s).kept = s.kept := by simp [send]
@[simp] theorem portRx_kept : (portRx p s).kept = s.kept := by simp [portRx]
@[simp] theorem linkChange_kept (up : Bool) (sqi : Nat) : (linkChange p up sqi s).kept = s.kept := by
  simp [linkChange]
@[simp] theorem arpRequest_kept (ip : Word) : (arpRequest p ip s).kept = s.kept := by simp [arpRequest]
@[simp] theorem arpReply_kept (ip : Word) : (arpReply p ip s).kept = s.kept := by simp [arpReply]
@[simp] theorem arpExpiry_kept : (arpExpiry i s).kept = s.kept := by
  unfold arpExpiry
  split <;> simp
@[simp] theorem icmpEcho_kept (data : List Byte) : (icmpEcho p data s).kept = s.kept := by simp [icmpEcho]
@[simp] theorem ethDrop_kept : (ethDrop p s).kept = s.kept := by simp [ethDrop]
@[simp] theorem sendPeer_kept (b : List Byte) : (sendPeer i b s).kept = s.kept := by simp [sendPeer]
@[simp] theorem streamAck_kept (n : Word) : (streamAck i n s).kept = s.kept := by simp [streamAck]
@[simp] theorem zhaPing_kept (seq : Word) (empty : Bool) : (zhaPing i seq empty s).kept = s.kept := by simp [zhaPing]
@[simp] theorem streamSend_kept : (streamSend i s).kept = s.kept := by simp [streamSend]
@[simp] theorem streamResend_kept : (streamResend i s).kept = s.kept := by simp [streamResend]
@[simp] theorem spiFrame_kept : (spiFrame s).kept = s.kept := by simp [spiFrame]
@[simp] theorem spiBad_kept : (spiBad s).kept = s.kept := by simp [spiBad]
@[simp] theorem spiResult_kept (index : Nat) : (spiResult code index s).kept = s.kept := by simp [spiResult]
@[simp] theorem spiStatus_kept : (spiStatus s).kept = s.kept := by simp [spiStatus]
@[simp] theorem spiErr_kept (cmd : Nat) : (spiErr cmd s).kept = s.kept := by simp [spiErr]
@[simp] theorem cmdPop_kept : (cmdPop i s).kept = s.kept := by simp [cmdPop]
@[simp] theorem cmdErr_kept (w0 : Word) : (cmdErr i t w0 k s).kept = s.kept := by simp [cmdErr]
@[simp] theorem rpTake_kept : (rpTake i s).kept = s.kept := by simp [rpTake]
@[simp] theorem cmdReplay_kept : (cmdReplay i s).kept = s.kept := by simp [cmdReplay]

/-! ### Replay -/

@[simp] theorem plainEdge_kept (lvl : Bool) : (plainEdge c t lvl s).kept = s.kept := by simp [plainEdge]
@[simp] theorem blankEnd_kept (T : Nat) : (blankEnd c T s).kept = s.kept := by
  unfold blankEnd
  split <;> simp
@[simp] theorem edgePass_kept (ta tb tz : Bool) : (edgePass c t ta tb tz s).kept = s.kept := by simp [edgePass]
@[simp] theorem edgeTake_kept (ta tb tz : Option Nat) : (edgeTake c t ta tb tz s).kept = s.kept := by simp [edgeTake]
@[simp] theorem pcTake_kept : (pcTake n s).kept = s.kept := by simp [pcTake]
@[simp] theorem rpValve_kept (r : RpRec) : (rpValve r s).kept = s.kept := by
  unfold rpValve
  split <;> simp
@[simp] theorem rpSwitch_kept (r : RpRec) : (rpSwitch r s).kept = s.kept := by
  unfold rpSwitch
  split <;> simp
@[simp] theorem modRpQueue_kept (f : RpQueue → RpQueue) : (modRpQueue i f s).kept = s.kept := by simp [modRpQueue]
@[simp] theorem rpLate_kept (by' : Nat) : (rpLate by' s).kept = s.kept := by simp [rpLate]
@[simp] theorem rpGather_kept (x : State × List RpRec) : (rpGather i k n x).1.kept = x.1.kept := by
  induction n generalizing x with
  | zero => rfl
  | succ n ih =>
    simp only [rpGather]
    split
    · rfl
    · simp [ih]
@[simp] theorem rpStart_kept : (rpStart i s).kept = s.kept := by
  simp only [rpStart]
  split
  · have hu : (if (s.rpQueue i).words.isEmpty && s.flag Q_GEOM_EN (30 + i) then rpTake i s else s).kept = s.kept := by
      simp
    revert hu
    generalize (if (s.rpQueue i).words.isEmpty && s.flag Q_GEOM_EN (30 + i) then rpTake i s else s) = u
    intro hu
    split
    · exact hu
    · split
      · split <;> simp [hu]
      · simp [hu]
  · rfl
@[simp] theorem rpEnd_kept : (rpEnd s).kept = s.kept := by simp [rpEnd]

/-! ### Tick -/

@[simp] theorem tickSenses_kept (x0 : TickIn) : (tickSenses x0 s).kept = s.kept := by simp [tickSenses]
@[simp] theorem tickIntake_kept : (tickIntake s).kept = s.kept := by simp [tickIntake]
@[simp] theorem tickAxes_kept : (tickAxes s).kept = s.kept := by simp [tickAxes]
@[simp] theorem tickOutputs_kept : (tickOutputs s).kept = s.kept := by simp [tickOutputs]
@[simp] theorem laneChanges_kept (e : BitVec 256) (r : BitVec 512) : (laneChanges e r s).kept = s.kept := by
  simp [laneChanges]
@[simp] theorem inPhase_kept : (inPhase n s).kept = s.kept := by simp [inPhase]

/-! ### Rows -/

@[simp] theorem mramBad_kept : (mramBad s).kept = s.kept := by simp [mramBad]
@[simp] theorem slipUpdate_kept : (slipUpdate s).kept = s.kept := by simp [slipUpdate]
@[simp] theorem srcStale_kept (k : AxSrc) : (srcStale i k s).kept = s.kept := by simp [srcStale]
@[simp] theorem srcRecover_kept (k : AxSrc) : (srcRecover i k s).kept = s.kept := by simp [srcRecover]
@[simp] theorem axisStopped_kept : (axisStopped i s).kept = s.kept := by simp [axisStopped]
@[simp] theorem tileTake_kept : (tileTake s).kept = s.kept := by simp [tileTake]
@[simp] theorem ssiTake_kept (high trail : Bool) : (ssiTake c w high trail s).kept = s.kept := by simp [ssiTake]
@[simp] theorem valveSee_kept (x2 : ValveObs) : (valveSee n t x2 s).kept = s.kept := by
  unfold valveSee
  split <;> simp
@[simp] theorem groundTrip_kept : (groundTrip d t s).kept = s.kept := by simp [groundTrip]
@[simp] theorem pcEnd_kept (h l : List Chop) (ovH ovL : Bool) : (pcEnd n h l ovH ovL s).kept = s.kept := by
  simp [pcEnd]
@[simp] theorem hcTrap_kept (pc cause tval : Word) : (hcTrap i pc cause tval s).kept = s.kept := by simp [hcTrap]
@[simp] theorem hcWdt_kept : (hcWdt i s).kept = s.kept := by simp [hcWdt]
@[simp] theorem hcTimer_kept : (hcTimer i s).kept = s.kept := by simp [hcTimer]
@[simp] theorem nresetHigh_kept : (nresetHigh s).kept = s.kept := by simp [nresetHigh]
@[simp] theorem bootEnd_kept (a b : Image) : (bootEnd a b s).kept = s.kept := by simp [bootEnd]
@[simp] theorem coresStart_kept : (coresStart s).kept = s.kept := by simp [coresStart]
@[simp] theorem clkFault_kept : (clkFault t s).kept = s.kept := by
  simp only [clkFault, ite_kept, rlsUpdate_kept, kept_mk, kept_eta, setFlag_kept, setFld_kept, faultReact_kept,
    dustIn_kept, ite_self]
@[simp] theorem xtalDrift_kept (ppm : Word) : (xtalDrift ppm s).kept = s.kept := by simp [xtalDrift]
@[simp] theorem vbatLow_kept : (vbatLow mv s).kept = s.kept := by simp [vbatLow]
@[simp] theorem vbatBack_kept : (vbatBack mv s).kept = s.kept := by simp [vbatBack]
@[simp] theorem railFault_kept : (railFault s).kept = s.kept := by simp [railFault]
@[simp] theorem tempMain_kept (tj : Word) : (tempMain tj s).kept = s.kept := by simp [tempMain]
@[simp] theorem dbgPin_kept (low : Bool) : (dbgPin low s).kept = s.kept := by simp [dbgPin]
@[simp] theorem extestHalt_kept : (extestHalt s).kept = s.kept := by simp [extestHalt]

end

end State
end Sys2Proof.Machine

end

section

/-!
The functions that write memory. They leave the queue, the image key and the answers, and a memory in canonical form they
leave in canonical form; stated after any work that did so, so that the rules compose.
-/

namespace Sys2Proof.Machine

/-- What the commands keep: the waiting commands and the image key as they are, the memory in canonical form. -/
structure Kept.Holds (k₀ k : Kept) : Prop where
  pending : k.pending = k₀.pending
  imgKey : k.imgKey = k₀.imgKey
  mem : Memory.wf k₀.mem → Memory.wf k.mem

/-- What work that answers nothing keeps: the answers too. -/
structure Kept.Sound (k₀ k : Kept) : Prop extends Kept.Holds k₀ k where
  resp : k.resp = k₀.resp

namespace Kept

@[simp] theorem Holds.refl (k : Kept) : Holds k k := ⟨rfl, rfl, id⟩

theorem Holds.trans {k l m : Kept} (h : Holds k l) (h' : Holds l m) : Holds k m :=
  ⟨h'.pending.trans h.pending, h'.imgKey.trans h.imgKey, h'.mem ∘ h.mem⟩

@[simp] theorem Sound.refl (k : Kept) : Sound k k := ⟨.refl k, rfl⟩

theorem Sound.trans {k l m : Kept} (h : Sound k l) (h' : Sound l m) : Sound k m :=
  ⟨h.toHolds.trans h'.toHolds, h'.resp.trans h.resp⟩

@[simp] theorem sound_ite (c : Prop) [Decidable c] (k l m : Kept) :
    Sound k (if c then l else m) ↔ if c then Sound k l else Sound k m := by split <;> rfl

@[simp] theorem holds_ite (c : Prop) [Decidable c] (k l m : Kept) :
    Holds k (if c then l else m) ↔ if c then Holds k l else Holds k m := by split <;> rfl

end Kept

open Kept

namespace State

theorem memAfter_wf (por : Bool) {m : SMap Byte} (h : Memory.wf m) : Memory.wf (memAfter por m) :=
  (SMap.wf_iff _ _).2 (SMap.wf_filter _ ((SMap.wf_iff _ _).1 h))

section
variable {α β : Type} {l : Kept} {s : State}

@[simp] theorem foldl_sound {f : State → α → State} (hf : ∀ s a, Sound s.kept (f s a).kept) (x : List α)
    (h : Sound l s.kept) : Sound l (x.foldl f s).kept := by
  induction x generalizing s with
  | nil => exact h
  | cons a x ih => exact ih (h.trans (hf s a))

@[simp] theorem foldl_fst_sound {f : State × β → α → State × β} (hf : ∀ x a, Sound x.1.kept (f x a).1.kept)
    (x : List α) {y : State × β} (h : Sound l y.1.kept) : Sound l (x.foldl f y).1.kept := by
  induction x generalizing y with
  | nil => exact h
  | cons a x ih => exact ih (h.trans (hf y a))

@[simp] theorem each_sound {f : α → State → State} (hf : ∀ a s, Sound s.kept (f a s).kept) (x : List α)
    (h : Sound l s.kept) : Sound l (each x f s).kept := foldl_sound (fun s a => hf a s) x h

@[simp] theorem when_sound {f : State → State} (hf : ∀ s, Sound s.kept (f s).kept) (c : Bool) (h : Sound l s.kept) :
    Sound l (when c f s).kept := by
  unfold when
  split
  · exact h.trans (hf s)
  · exact h

/-- A byte is stored in canonical form: the one way that memory is written. -/
@[simp] theorem wrByte_sound (a : Nat) (b : Byte) (h : Sound l s.kept) : Sound l (s.wrByte a b).kept :=
  h.trans ⟨⟨rfl, rfl, fun hm => (SMap.wf_iff _ _).2 (wrByte_wf s a b ((SMap.wf_iff _ _).1 hm))⟩, rfl⟩

@[simp] theorem wrBytes_sound (a : Nat) (x : List Byte) (h : Sound l s.kept) : Sound l (s.wrBytes a x).kept := by
  induction x generalizing a s with
  | nil => exact h
  | cons b x ih => exact ih (a + 1) (wrByte_sound a b h)

@[simp] theorem wrWord_sound (a : Nat) (w : Word) (h : Sound l s.kept) : Sound l (s.wrWord a w).kept :=
  wrBytes_sound a _ h

@[simp] theorem wrWords_sound (a : Nat) (x : List Word) (h : Sound l s.kept) : Sound l (s.wrWords a x).kept := by
  induction x generalizing a s with
  | nil => exact h
  | cons w x ih => exact ih (a + 4) (wrWord_sound a w h)

end

section
variable {l : Kept} {s : State} {a b c d e g i j k m n p q t z id key stamp size evt typ app : Nat}
  {v : Word} (h : Sound l s.kept)
include h

/-! ### Ops -/

@[simp] theorem qPut_sound {ws : List Word} : Sound l (qPut q ws s).kept := by simp [qPut, h]
@[simp] theorem qDropOld_sound : Sound l (qDropOld s q).kept := by simp [qDropOld, h]
@[simp] theorem qOfferRaw_sound {ws : Nat → List Word} : Sound l (qOfferRaw q ws s).1.kept := by simp [qOfferRaw, h]
@[simp] theorem qOffer_sound {ws : Nat → List Word} : Sound l (qOffer q stamp ws s).kept := by simp [qOffer, h]
@[simp] theorem logWrite_sound {r : LogRec} : Sound l (logWrite r s).kept := by simp [logWrite, h]
@[simp] theorem logFlush_sound : Sound l (logFlush s).kept := by
  have hf (x : List LogRec) {s : State} (h : Sound l s.kept) : Sound l (x.foldl (fun s r => logWrite r s) s).kept :=
    foldl_sound (fun _ _ => logWrite_sound (.refl _)) x h
  exact hf _ (by simpa using hf _ (by simpa using h))

/-! ### Queues -/

@[simp] theorem streamOffer_sound {ws : Nat → List Word} : Sound l (streamOffer q stamp ws s).kept := by
  simp [streamOffer, h]
@[simp] theorem noticeAll_sound : Sound l (noticeAll e s).kept := by simp [noticeAll, h]
@[simp] theorem router_sound : Sound l (router s).kept := by simp [router, h]
@[simp] theorem endTick_sound : Sound l (endTick s).kept := by
  simp [endTick, logFlush_sound (router_sound (logFlush_sound h))]

/-! ### Drying -/

@[simp] theorem parcelStore_sound {a : Parcel} : Sound l (parcelStore p a s).kept := by simp [parcelStore, h]
@[simp] theorem dpApply_sound {e : DpStep} : Sound l (dpApply p e s).kept := by
  have hs (x : List Parcel) {s : State} (h : Sound l s.kept) : Sound l (each x (fun a s => parcelStore p a s) s).kept :=
    each_sound (fun _ _ => parcelStore_sound (.refl _)) x h
  simp only [dpApply, ite_kept, dpStepOutputs_kept, ite_self]
  refine each_sound (fun z s => ?_) _ (hs _ (by simp [h]))
  split <;> simp
@[simp] theorem modelApply_sound : Sound l (modelApply s).kept := by
  refine each_sound (fun p s => ?_) _ h
  split
  · split <;> simp
  · simp

/-! ### Control -/

@[simp] theorem captureRecord_sound {e : LpSmp} {t : Nat × Nat × Word} : Sound l (captureRecord n e t s).kept := by
  simp [captureRecord, h]
@[simp] theorem lpFinish_sound {e : LpSmp} {u : Word} : Sound l (lpFinish n e u s).kept := by simp [lpFinish, h]
@[simp] theorem grpApply_sound : Sound l (grpApply g s).kept := by
  simp only [grpApply]
  split
  · rw [when_kept fun s => lpCause_kept ..]
    refine each_sound (fun m s => ?_) _ (by simp [h])
    split <;> simp
  · exact h
@[simp] theorem lpApply_sound : Sound l (lpApply n s).kept := by
  unfold lpApply
  split <;> simp [h]

/-! ### Boot -/

@[simp] theorem loopsDue_sound : Sound l (loopsDue s).kept := by simp [loopsDue, h]

/-! ### Marks -/

@[simp] theorem lnPut_sound {m : Mark} : Sound l (lnPut n m s).kept := by simp [lnPut, h]
@[simp] theorem lnHwPlace_sound {m : Mark} : Sound l (lnHwPlace n m s).kept := by simp [lnHwPlace, h]

/-! ### Masking -/

/-- A tile is stored through the journal: the copy, the entry that names it, the tile in its slot, the entry cleared. -/
theorem journal_sound {c : List Byte} :
    Sound l ((((((s.wrBytes (dirBase + 0x200) c).wrWord (dirBase + 0x100) (BitVec.ofNat 32 key)).wrWord
      (dirBase + 0x104) (BitVec.ofNat 32 q)).wrWord (dirBase + 0x108) 1#32).wrBytes (slotAddr q) c).wrWord
      (dirBase + 0x108) 0#32).kept :=
  wrWord_sound _ _ (wrBytes_sound _ _ (wrWord_sound _ _ (wrWord_sound _ _ (wrWord_sound _ _ (wrBytes_sound _ _ h)))))
@[simp] theorem writeBack_sound : Sound l (writeBack key s).kept := by
  simp only [writeBack]
  split
  · exact h
  split
  · split <;> simp [h]
  split
  · rw [kept_mk, kept_eta]
    exact journal_sound (by simpa using h)
  · simp [h]
@[simp] theorem cacheRoom_sound : Sound l (cacheRoom s).1.kept := by
  simp only [cacheRoom]
  repeat' split
  all_goals simp [h]
@[simp] theorem slotAlloc_sound {bits : BitVec 4096} : Sound l (slotAlloc key bits s).kept := by
  unfold slotAlloc
  split
  · exact h
  split
  · exact h
  · exact wrWord_sound _ _ (wrWord_sound _ _ (wrWord_sound _ _ (wrBytes_sound _ _ h)))
@[simp] theorem maskSet_sound {bits : BitVec 4096} : Sound l (maskSet key bits s).1.kept := by
  unfold maskSet
  split <;> simp [h]

/-! ### Coverage -/

@[simp] theorem writeCells_sound {x : List (Int × Int)} : Sound l (writeCells x s).1.kept := by
  induction x generalizing s with
  | nil => exact h
  | cons g x ih => exact ih (maskSet_sound h)
@[simp] theorem addTotal_sound {off : Nat} : Sound l (addTotal off n s).kept := by simp [addTotal, h]
@[simp] theorem q39_sound {r : GeoRun} : Sound l (q39 typ app r s).kept := by simp [q39, h]
@[simp] theorem runsEnd_sound {c : CovStep} : Sound l (runsEnd c s).kept := by
  simp only [runsEnd, modGeo_kept]
  refine each_sound (fun e s => ?_) _ (each_sound (fun e s => ?_) _ h) <;> split <;> simp
@[simp] theorem lostStep_sound {w : Sweep} {lost : Nat} {held : Bool} : Sound l (lostStep w lost n held s).kept := by
  simp [lostStep]
  split <;> simp [h]
@[simp] theorem lapStep_sound {w : Sweep} {lap wet : Nat} : Sound l (lapStep w lap wet n s).kept := by
  simp [lapStep]
  split <;> simp [h]
@[simp] theorem sumStep_sound {c : CovStep} {cov wet : Nat} : Sound l (sumStep c cov wet s).kept := by
  simp [sumStep, h]
@[simp] theorem covWrite_sound {all : Bool} {c : CovStep} {wait : List (Int × Int)} :
    Sound l (covWrite all c wait s).1.kept := by
  simp only [covWrite]
  refine sumStep_sound (each_sound (fun q s => lostStep_sound (lapStep_sound (.refl _))) _ (runsEnd_sound ?_))
  refine addTotal_sound (addTotal_sound ?_)
  simp only [addCnt_kept]
  exact writeCells_sound (writeCells_sound (by simpa using h))
@[simp] theorem covResults_sound : Sound l (covResults n s).kept := by simp [covResults, h]
@[simp] theorem stepResults_sound : Sound l (stepResults s).kept := by
  simp only [stepResults]
  split
  · exact h
  split
  · exact h
  refine covResults_sound ?_
  simp only [flowSums_kept, ite_kept, raise_kept, addSat_kept, ite_self]
  rw [each_kept fun d s => modApp_kept ..]
  exact each_sound (fun m s => lnHwPlace_sound (.refl _)) _ (by simp [h])

/-! ### Boot -/

@[simp] theorem stepsDue_sound : Sound l (stepsDue s).kept := by simp [stepsDue, h]
@[simp] theorem closeTick_sound : Sound l (closeTick s).kept := by
  unfold closeTick
  split
  · exact h
  · exact endTick_sound (by simpa using modelApply_sound (loopsDue_sound (stepsDue_sound h)))

/-! ### Marks -/

@[simp] theorem pushAccept_sound {m : Mark} : Sound l (pushAccept id n m s).kept := by simp [pushAccept, h]

/-! ### Bus -/

@[simp] theorem pushGo_sound {c : Access} : Sound l (pushGo c n s).1.kept := by simp [pushGo, h]

/-! ### Boot -/

@[simp] theorem recElement_sound {ws : List Word} {cont : Bool} : Sound l (recElement ws cont s).kept := by
  simp [recElement, h]
@[simp] theorem recCut_sound {at' : Nat} {ends : List Nat} {ws : List Word} :
    Sound l (recCut n at' ends ws s).kept := by
  induction n generalizing at' ws s with
  | zero => exact h
  | succ n ih =>
    unfold recCut
    split
    · exact h
    · exact ih (recElement_sound h)
@[simp] theorem recWrite_sound : Sound l (recWrite s).kept := by simp [recWrite, h]
@[simp] theorem recEnd_sound : Sound l (recEnd s).kept := by simp [recEnd, h]
@[simp] theorem resetTo_sound {cls causes : Nat} : Sound l (resetTo cls causes s).kept := by
  have h1 : Sound l (when (!(cls == 2)) (lsThrough (s.T + s.replay.ofs)) (lsReplayEnd s)).kept := by simpa using h
  refine h1.trans ?_
  simp only [resetTo, rlsUpdate_kept, dieStatReset_kept, lsPins_kept, each_kept fun i s => lsShow_kept .., ite_kept,
    setFld_kept, ite_self, kept_mk]
  exact ⟨⟨rfl, rfl, memAfter_wf _⟩, rfl⟩
@[simp] theorem modReset_sound {causes rmode : Nat} {after : List Nat} :
    Sound l (modReset causes rmode after s).kept := by
  simp [modReset, h]

/-! ### Bus -/

@[simp] theorem modCtrl_sound {c : Access} : Sound l (modCtrl c v s).1.kept := by simp [modCtrl, h]

/-! ### Masking -/

@[simp] theorem writeBackAll_sound : Sound l (writeBackAll s).kept := by simp [writeBackAll, h]

/-! ### Coverage -/

@[simp] theorem covDiscard_sound : Sound l (covDiscard s).kept := by
  simp only [covDiscard, modGeo_kept]
  refine each_sound (fun e s => ?_) _ (each_sound (fun e s => ?_) _
    (each_sound (fun c s => covWrite_sound (.refl _)) _ (by simpa using h))) <;> split <;> simp
@[simp] theorem runEnd_sound : Sound l (runEnd s).kept := by
  have h1 : Sound l (each (pick 768 s.gmFed) (fun n s => setDemand n false (lnFlush n s)) s).kept := by simpa using h
  simpa [runEnd] using writeBackAll_sound (covDiscard_sound h1)
@[simp] theorem gmAxisStop_sound : Sound l (gmAxisStop i s).kept := by simp [gmAxisStop, h]
@[simp] theorem geoReset_sound : Sound l (geoReset s).kept := by simp [geoReset, h]

/-! ### Drying -/

@[simp] theorem parcelFree_sound {a : Parcel} : Sound l (parcelFree p a s).kept := by simp [parcelFree, h]
@[simp] theorem dpDomainReset_sound : Sound l (dpDomainReset p s).kept := by simp [dpDomainReset, h]

/-! ### Boot -/

@[simp] theorem blockReset_sound {b : Block} {base : Nat} : Sound l (blockReset b base p s).kept := by
  unfold blockReset
  split <;> simp [h]
@[simp] theorem domainReset_sound : Sound l (domainReset p s).kept := by
  unfold domainReset
  split <;> simp [h]

/-! ### Bus -/

@[simp] theorem axCfgWrite_sound : Sound l (axCfgWrite i v s).kept := by simp [axCfgWrite, h]

/-! ### Coverage -/

@[simp] theorem gmCtrlStore_sound : Sound l (gmCtrlStore v s).kept := by simp [gmCtrlStore, h]

/-! ### Masking -/

@[simp] theorem mapClear_sound : Sound l (mapClear s).kept := by
  simp only [mapClear, kept_mk, kept_eta, setFlag_kept]
  iterate 5 refine wrWord_sound _ _ ?_
  iterate 4 refine wrBytes_sound _ _ ?_
  exact h
@[simp] theorem mapAdopt_sound : Sound l (mapAdopt s).kept := by simp [mapAdopt, h]
@[simp] theorem mapStart_sound : Sound l (mapStart v s).kept := by
  unfold mapStart
  split <;> simp [h]

/-! ### Bus -/

@[simp] theorem mapWrite_sound : Sound l (mapWrite v s).kept := by
  simp [mapWrite]
  split <;> simp [h]

/-! ### Drying -/

@[simp] theorem parcelNew_sound {pc : Int} {m tg : Word} {seed filled noMeas : Bool} :
    Sound l (parcelNew p pc m tg seed filled noMeas s).kept := by
  simp [parcelNew, h]
@[simp] theorem ringEmpty_sound : Sound l (ringEmpty p s).kept := by simp [ringEmpty, h]
@[simp] theorem dpStart_sound : Sound l (dpStart p s).kept := by simp [dpStart, h]
@[simp] theorem dpCfgStore_sound : Sound l (dpCfgStore p v s).kept := by simp [dpCfgStore, h]

/-! ### Boot -/

@[simp] theorem mmStart_sound : Sound l (mmStart v s).kept := by
  simp only [mmStart]
  split
  · exact h
  split
  · split
    · split <;> simp [h]
    · split <;> simp [h]
  · simp [h]

/-! ### Bus -/

@[simp] theorem dgCtrl_sound : Sound l (dgCtrl v s).kept := by simp [dgCtrl, h]
@[simp] theorem store_sound {c : Access} {r : Reg} : Sound l (store c r i v s).1.kept := by
  unfold store
  cases r
  all_goals simp [h]
@[simp] theorem regStore_sound {c : Access} {r : Reg} : Sound l (regStore c r i v s).1.kept := by
  unfold regStore
  split <;> simp [h]
@[simp] theorem regWrite_sound {c : Access} : Sound l (regWrite c a v s).1.kept := by
  simp only [regWrite]
  repeat' split
  all_goals simp [h]
@[simp] theorem spaceApply_sound {c : Access} : Sound l (spaceApply c a v s).1.kept := by
  unfold spaceApply
  split <;> simp [h]
@[simp] theorem applyWaiting_sound {w : Waiting} : Sound l (applyWaiting w s).kept := by
  have h1 := spaceApply_sound (c := w.acc) (a := w.addr) (v := w.val) h
  simp only [applyWaiting]
  split
  · exact h
  split
  · simp [h, h1]
  · exact h1
@[simp] theorem markedWrite_sound : Sound l (markedWrite a v s).1.kept := by simp [markedWrite, h]

/-! ### Tick -/

theorem fireMark_sound {mw : Word → Word → State → State × Bool} (hw : ∀ a v s, Sound s.kept (mw a v s).1.kept)
    {f : Fire} : Sound l (fireMark mw f s).kept := by
  refine h.trans ?_
  simp only [fireMark]
  generalize hu : when f.late _ _ = u
  have hu : u.kept = s.kept := by
    subst hu
    simp
  rw [← hu]
  split
  · split
    · exact hw _ _ u
    · simp
  · simp
@[simp] theorem tickMarks_sound : Sound l (tickMarks s).kept := by
  simp only [tickMarks]
  rw [each_kept fun i s => sliceAxis_kept .., dutyFire_kept _ fun i d s => sliceDuty_kept .., kcUntimed_kept]
  exact each_sound (fun f s => fireMark_sound (.refl _) fun a v s => markedWrite_sound (.refl _)) _ (by simpa using h)

/-! ### Valves -/

@[simp] theorem vRecordsOut_sound : Sound l (vRecordsOut s).kept := by
  refine each_sound (fun n s => each_sound (fun e s => ?_) _ (.refl _)) _ (by simpa using h)
  exact qOffer_sound (.refl _)

/-! ### Buses -/

@[simp] theorem sbRecordPhase_sound : Sound l (sbRecordPhase s).kept := by
  refine each_sound (fun b s => each_sound (fun r s => ?_) _ (by simp)) _ h
  simp
@[simp] theorem canRxPhase_sound : Sound l (canRxPhase s).kept := by
  refine each_sound (fun b s => each_sound (fun r s => ?_) _ (by simp)) _ h
  simp

/-! ### Drying -/

@[simp] theorem kcPlace_sound : Sound l (kcPlace n s).kept := by simp [kcPlace, h]
@[simp] theorem kcPhase_sound : Sound l (kcPhase s).kept := by simp [kcPhase, h]
@[simp] theorem dischargeRecord_sound {a : Parcel} {mOut : Option Word} :
    Sound l (dischargeRecord p typ a mOut s).kept := by
  simp [dischargeRecord, h]
@[simp] theorem dpUnloadPhase_sound : Sound l (dpUnloadPhase s).kept := by
  refine each_sound (fun p s => ?_) _ h
  split <;> simp
@[simp] theorem dpPlace_sound {x1 : Int} : Sound l (dpPlace p x1 s).kept := by simp [dpPlace, h]
@[simp] theorem fillParcels_sound : Sound l (fillParcels p t s).kept := by simp [fillParcels, h]
@[simp] theorem dpFillEnd_sound : Sound l (dpFillEnd p t s).kept := by simp [dpFillEnd, h]
@[simp] theorem dpEnter_sound : Sound l (dpEnter p s).kept := by
  unfold dpEnter
  split <;> simp [h]
@[simp] theorem dpTrack_sound : Sound l (dpTrack s).kept := by simp [dpTrack, h]

/-! ### Marks -/

@[simp] theorem tplSend_sound : Sound l (tplSend t s).kept := by simp [tplSend, h]
@[simp] theorem tplDue_sound : Sound l (tplDue t s).kept := by simp [tplDue, h]
@[simp] theorem tplPhase_sound : Sound l (tplPhase s).kept := by simp [tplPhase, h]

/-! ### Tick -/

@[simp] theorem tickDispatch_sound : Sound l (tickDispatch s).kept := by
  refine kcPhase_sound (dpUnloadPhase_sound (dpTrack_sound (tplPhase_sound ?_)))
  simpa using vRecordsOut_sound (sbRecordPhase_sound (canRxPhase_sound h))
@[simp] theorem tickWork_sound {x : TickIn} : Sound l (tickWork x s).kept := by
  have h1 := tickMarks_sound (s := inPhase 3 (tickAxes (inPhase 2 (tickIntake (tickSenses x (inPhase 1 s))))))
    (by simpa using h)
  have h2 {e r} := tickDispatch_sound (s := inPhase 4 (laneChanges e r _)) (by simpa using h1)
  exact recWrite_sound (by simp [h2])

/-! ### Bus -/

@[simp] theorem hold_sound {c : Access} : Sound l (hold c a v s).1.kept := by
  simp [hold]
  split <;> simp [h]
@[simp] theorem pageWrite_sound {c : Access} : Sound l (pageWrite c a v s).1.kept := by
  simp only [pageWrite]
  repeat' split
  all_goals simp [h]
@[simp] theorem spaceWrite_sound {c : Access} : Sound l (spaceWrite c size a v s).1.kept := by
  simp only [spaceWrite]
  split
  · exact h
  split
  · split
    · exact h
    split
    · exact h
    split
    · exact h
    · exact pageWrite_sound h
  split
  · split
    · exact h
    · simp [h]
  · simp [h]
@[simp] theorem wordWrite_sound {c : Access} : Sound l (wordWrite c size a v s).1.kept := by
  simp only [wordWrite]
  repeat' split
  all_goals simp [h]
@[simp] theorem accWrite_sound {c : Access} : Sound l (accWrite c size a v s).1.kept := by simp [accWrite, h]

/-! ### Marks -/

@[simp] theorem tplRefresh_sound : Sound l (tplRefresh t s).kept := by simp [tplRefresh, h]
@[simp] theorem tplGap_sound : Sound l (tplGap t s).kept := by simp [tplGap, h]

/-! ### Rows -/

@[simp] theorem maskBack_sound : Sound l (maskBack key s).kept := by simp [maskBack, h]

/-! ### Masking -/

@[simp] theorem mapDone_sound : Sound l (mapDone s).kept := by
  unfold mapDone
  repeat' split
  all_goals simp [h]

/-! ### Drying -/

@[simp] theorem dpOutlet_sound {m : Word} : Sound l (dpOutlet p m s).kept := by simp [dpOutlet, h]
@[simp] theorem dpReading_sound : Sound l (dpReading z t s).kept := by simp [dpReading, h]

/-! ### Replay -/

@[simp] theorem zcTake_sound : Sound l (zcTake z t s).kept := by simp [zcTake, h]

/-! ### Rows -/

@[simp] theorem zcEnd_sound {re im : Word} {ovr : Bool} : Sound l (zcEnd z re im ovr s).kept := by simp [zcEnd, h]

/-! ### Drying -/

@[simp] theorem dpBoundary_sound : Sound l (dpBoundary p s).kept := by
  unfold dpBoundary
  split
  · extract_lets d vp n s₁ s₂ s₃ q s₄
    have h₂ : Sound l s₂.kept := by simp [s₂, s₁, h]
    have h₃ : Sound l s₃.kept := by
      simp only [s₃]
      split
      · split
        · exact parcelStore_sound (by simpa using h₂)
        · exact h₂
      · exact h₂
    split
    · simpa using parcelNew_sound (s := s₄) (by simpa [s₄] using h₃)
    · simpa using parcelNew_sound (s := s₄) (by simpa [s₄] using h₃)
  · exact h
@[simp] theorem dpDischarge_sound : Sound l (dpDischarge p s).kept := by
  unfold dpDischarge
  repeat' split
  all_goals simp [h]
@[simp] theorem dpFillDone_sound : Sound l (dpFillDone p s).kept := by simp [dpFillDone, h]

/-! ### Host -/

@[simp] theorem cmdqPush_sound {body : List Byte} : Sound l (cmdqPush i body s).1.kept := by simp [cmdqPush, h]

/-! ### Boot -/

@[simp] theorem powerReset_sound : Sound l (powerReset s).kept := by simp [powerReset, h]
@[simp] theorem pinReset_sound : Sound l (pinReset s).kept := by simp [pinReset, h]

/-! ### Rows -/

@[simp] theorem pinLow_sound : Sound l (pinLow s).kept := by simp [pinLow, h]

/-! ### Boot -/

@[simp] theorem pllLock_sound {mv : Nat} : Sound l (pllLock mv s).kept := by
  simp only [pllLock]
  split <;> simp [h]

/-! ### Rows -/

@[simp] theorem pllLocked_sound {mv : Nat} : Sound l (pllLocked mv s).kept := by simp [pllLocked, h]

/-! ### Masking -/

@[simp] theorem journalReplay_sound : Sound l (journalReplay s).kept := by simp [journalReplay, h]

/-! ### Rows -/

@[simp] theorem mramReady_sound : Sound l (mramReady s).kept := by simp [mramReady, h]
@[simp] theorem tickFault_sound : Sound l (tickFault s).kept := by simp [tickFault, h]
@[simp] theorem hbRequest_sound : Sound l (hbRequest s).kept := by simp [hbRequest, h]

/-! ### Boot -/

@[simp] theorem mmDone_sound {b : Image} : Sound l (mmDone b s).kept := by
  unfold mmDone
  split <;> simp [h]

/-! ### Replay -/

@[simp] theorem rpWrite_sound {c : Access} : Sound l (rpWrite c a v s).kept := by
  have go {s : State} (h : Sound l s.kept) : Sound l (match (spaceApply c a v s).2 with
      | .viol k b => violate c.id k b true (violPage k b) (spaceApply c a v s).1
      | _ => (spaceApply c a v s).1).kept := by
    split <;> simp [h]
  simp only [rpWrite]
  split
  · exact h
  split
  · split <;> simp [h]
  · split
    · split
      · simp [h]
      · exact go (by simpa using h)
    · exact go h
  · exact go h
@[simp] theorem rpApply_sound {r : RpRec} : Sound l (rpApply r s).kept := by
  unfold rpApply
  split <;> simp [h]
@[simp] theorem rpMerge_sound : Sound l (rpMerge s).kept := by
  have h1 := closeTick_sound h
  simp only [rpMerge]
  split
  · split
    · exact h1
    · refine each_sound (fun r s => rpApply_sound (.refl _)) _ ?_
      rw [foldl_fst_kept fun x i => rpGather_kept ..]
      simpa using h1
  · exact h

end

end State
end Sys2Proof.Machine

end

section

/-!
What the commands do besides: they answer, and a bus write or a tick carries out what waits before it.
-/

namespace Sys2Proof.Machine
open Kept
namespace State
section
variable {l : Kept} {s : State} {a i k m n p size t : Nat} {v : Word}

theorem begin_holds : Holds s.kept s.begin'.kept := ⟨rfl, rfl, id⟩

theorem answer_holds {r : Resp} : Holds s.kept (s.answer r).kept := ⟨rfl, rfl, id⟩

theorem andAnswer_holds {x : State × Resp} (h : Sound l x.1.kept) : Holds l (andAnswer x).kept :=
  h.toHolds.trans answer_holds

theorem settled_holds : Holds s.kept s.settled.kept := by
  have h : Holds s.kept { s with resp := [], writes := [] }.kept := ⟨rfl, rfl, id⟩
  refine h.trans (foldl_sound (fun u w => applyWaiting_sound (.refl _)) _ (closeTick_sound (.refl _))).toHolds

@[simp] theorem axisTick_holds {x : TickIn} : Holds s.kept (axisTick x s).kept := by
  unfold axisTick
  split
  · exact (closeTick_sound (.refl _)).toHolds
  · refine settled_holds.trans (Sound.toHolds ?_)
    simp only
    split
    · split
      · exact tickWork_sound (by simp)
      · simp
    · exact tickWork_sound (by simp)

@[simp] theorem busWrite_holds {v : BitVec 64} : Holds s.kept (busWrite m size a v s).kept := by
  simp only [busWrite]
  split
  · exact .refl _
  split
  · exact (andAnswer_holds (accWrite_sound (.refl _))).trans (andAnswer_holds (accWrite_sound (.refl _)))
  · exact andAnswer_holds (accWrite_sound (.refl _))

@[simp] theorem busRead_holds : Holds s.kept (busRead m size a s).kept := by
  have h {a n : Nat} {s : State} : Holds s.kept (andAnswer (accRead (.of m) n a s)).kept := andAnswer_holds (by simp)
  simp only [busRead]
  split
  · exact .refl _
  split
  · exact h.trans h
  · exact h

@[simp] theorem wr_holds {r : Reg} : Holds s.kept (wr m r i v s).kept := busWrite_holds
@[simp] theorem lnEnable_holds : Holds s.kept (lnEnable m n v s).kept := by
  unfold lnEnable
  split <;> simp
@[simp] theorem lnFlushWord_holds : Holds s.kept (lnFlushWord m k v s).kept := by
  unfold lnFlushWord
  split <;> simp
@[simp] theorem tableWrite_holds {e : TableEntry} : Holds s.kept (tableWrite m e v s).kept := by
  unfold tableWrite; split <;> simp
@[simp] theorem bitWordWrite_holds {w : BitWord} : Holds s.kept (bitWordWrite m w v s).kept := by
  unfold bitWordWrite; split <;> simp
@[simp] theorem tgArm_holds {x : TgArm} : Holds s.kept (tgArm t x s).kept := by
  unfold tgArm
  split
  · simp
  · split <;> simp

@[simp] theorem mramFault_holds {x : MramRead} : Holds s.kept (mramFault x s).kept := by
  unfold mramFault
  split
  · simp only
    split
    · split
      · rw [mramBad_kept]
        refine Holds.trans ?_ answer_holds
        simp
      · refine Holds.trans ?_ answer_holds
        simp
    · simp
  · simp

@[simp] theorem hcDebug_holds {o : HcOp} : Holds s.kept (hcDebug i o s).kept := by
  unfold hcDebug
  split
  case h_3 | h_5 =>
    split
    · exact answer_holds
    · simp
  case h_4 | h_6 =>
    split
    · exact Holds.trans (by simp) answer_holds
    · simp
  all_goals split <;> simp

theorem writeRun_holds {c : Access} {x : List (Nat × Word)} : Holds s.kept (writeRun c k x s).1.kept := by
  induction x generalizing k s with
  | nil => exact .refl _
  | cons e x ih =>
    have h : Holds s.kept (andAnswer (wordWrite c 4 e.1 e.2 s)).kept := andAnswer_holds (wordWrite_sound (.refl _))
    simp only [writeRun]
    split
    · split
      · exact h.trans ih
      · exact h
    · exact h

theorem readRun_holds {c : Access} {x : List Nat} {ws : List Word} : Holds s.kept (readRun c k x ws s).1.kept := by
  induction x generalizing k ws s with
  | nil => exact .refl _
  | cons e x ih =>
    have h : Holds s.kept (andAnswer (wordRead c 4 e s)).kept := andAnswer_holds (by simp)
    simp only [readRun]
    split
    · exact h.trans ih
    · exact h

theorem zhaExec_holds {type : Nat} {body : List Byte} : Holds s.kept (zhaExec i type body s).1.kept := by
  simp only [zhaExec]
  split
  · exact .refl _
  split
  · exact readRun_holds
  split
  · exact writeRun_holds
  split
  · exact writeRun_holds
  split
  · exact (cmdqPush_sound (.refl _)).toHolds
  split <;> simp

theorem zhaAccept_holds {type : Nat} {seq : Word} {body : List Byte} :
    Holds s.kept (zhaAccept i type seq body s).kept := by
  unfold zhaAccept
  extract_lets u x r
  have h : Holds s.kept x.1.kept := Holds.trans (by simp [u]) zhaExec_holds
  split
  · simpa [r] using h
  · exact h

theorem zhaReceive_holds {f : ZhaFrame} : Holds s.kept (zhaReceive f s).kept := by
  simp only [zhaReceive]
  split
  · exact .refl _
  split
  · simp
  split
  case h_6 => exact Holds.trans (by simp) zhaAccept_holds
  case h_5 => split <;> simp
  all_goals simp

@[simp] theorem zhaRow_holds {type : Nat} {f : ZhaFrame} : Holds s.kept (zhaRow type f s).kept := by
  unfold zhaRow
  split
  · exact zhaReceive_holds
  · exact .refl _

@[simp] theorem zhaDrop_holds {d : DropFrame} : Holds s.kept (zhaDrop d s).kept := by
  unfold zhaDrop
  split
  · simp
  · simp only
    split
    · exact zhaReceive_holds
    · exact .refl _

@[simp] theorem spiWrite_holds {x : List Byte} : Holds s.kept (spiWrite x s).kept := by
  unfold spiWrite
  split
  · extract_lets u n d a ws y
    have h : Holds s.kept y.1.kept := Holds.trans (by simp [u]) writeRun_holds
    split
    · simp [u]
    split
    · simp [u]
    split
    · split <;> simpa using h
    · exact h
  · exact .refl _

@[simp] theorem spiRead_holds {x : List Byte} : Holds s.kept (spiRead x n s).kept := by
  unfold spiRead
  split
  · extract_lets u n d a y ws body
    have h : Holds s.kept y.1.kept := by
      simp only [y]
      split
      · simp [u]
      · exact Holds.trans (by simp [u]) readRun_holds
    split
    · simp [u]
    split
    · exact h
    · simpa using h
  · exact .refl _

@[simp] theorem cmdWrites_holds : Holds s.kept (cmdWrites i s).kept := by
  unfold cmdWrites
  extract_lets e w t n c u y
  split
  · exact .refl _
  have h : Holds s.kept y.1.kept := Holds.trans (by simp [u]) writeRun_holds
  split
  · simp [u]
  split
  · split
    · simpa using h
    · exact h
  · exact h

end

end State
end Sys2Proof.Machine

end

section

/-!
Every command of the set goes on, and O2.
-/

namespace Sys2Proof.Machine
open Kept State

@[simp] theorem Kept.holds_of_sound {k l : Kept} (h : Sound k l) : Holds k l := h.toHolds

/-- A command goes on to a state that keeps what `Holds` says. -/
def GoesOn (k : Kept) : Res → Prop
  | .next t => Holds k t.kept
  | _ => False

/-- Every command does: a step of the arm begins with no answer, and its work is of the layers above. -/
theorem exec_goesOn (c : Instr) (s : State) : GoesOn s.kept (exec c s) := by
  have h {u : State} : Sound u.kept u.closeTick.kept := closeTick_sound (.refl _)
  cases c
  all_goals
    change Holds s.kept _
    refine begin_holds.trans ?_
  case zcMeasurement => exact (zcEnd_sound h).toHolds
  case tickFault => exact (tickFault_sound h).toHolds
  case heartbeatResetRequest => exact (hbRequest_sound h).toHolds
  all_goals simp

theorem step_goesOn (s : State) : GoesOn ⟨s.pending.tail, s.imgKey, s.resp, s.mem⟩ (step s) := by
  unfold step
  split
  next h =>
    rw [h]
    exact ⟨h, rfl, id⟩
  next c r h =>
    rw [h]
    exact exec_goesOn c { s with pending := r }

/-- Settles O2: every step, whatever command is in front, goes on and keeps what `Kept.Holds` says. -/
theorem queueDrainsInOrder : Obligations.QueueDrainsInOrder := by
  refine ⟨fun c r s h => ?_, fun s t h hm => ?_⟩
  · have hs := step_goesOn s
    unfold GoesOn at hs
    split at hs
    next t ht => exact ⟨t, ht, hs.pending.trans (by rw [h, List.tail_cons]), hs.imgKey⟩
    next => exact hs.elim
  · have hs := step_goesOn s
    rw [h] at hs
    exact hs.mem hm
end Sys2Proof.Machine

end

section

/-!
Words in memory, the writes of masters to it, and an uncorrectable word that one reads (O5).
-/

namespace Sys2Proof.Machine
open Kept
namespace State

section
variable {s t : State}

theorem rdByte_of_kept (h : t.kept = s.kept) (a : Nat) : t.rdByte a = s.rdByte a := by
  have hm : t.mem = s.mem := congrArg Kept.mem h
  rw [rdByte, rdByte, hm]

theorem resp_of_sound (h : Sound s.kept t.kept) : t.resp = s.resp := h.resp

theorem resp_of_kept (h : t.kept = s.kept) : t.resp = s.resp := congrArg Kept.resp h

theorem get_of_regs (h : t.regs = s.regs) (r : Reg) (i : Nat) : t.get r i = s.get r i := by rw [get, get, h]

/-- Work outside the registers and the memory. -/
theorem only_of_regs (hr : t.regs = s.regs) (hm : t.mem = s.mem) (l : List (Reg × Nat)) : State.only l s t :=
  ⟨fun r i _ => get_of_regs hr r i, fun a => congrArg (SMap.get unlistedByte · a) hm⟩

end

/-! ### The checks before DBG is attached -/

section
variable (m n : Nat) (s : State)

theorem metBy_canAccess : (s.metBy m).canAccess n = s.begin'.canAccess n := by
  simp only [canAccess, hcState, flag, metBy]
  rw [attach_fld, attach_fld] <;> decide

theorem metBy_frozen : (s.metBy m).frozen n = s.begin'.frozen n := by
  simp only [frozen, rbit, metBy]
  rw [attach_get] <;> decide

theorem metBy_served : (s.metBy m).served = s.begin'.served := by
  simp only [served, metBy, attach_boot]
  rw [attach_fld] <;> decide

end

/-! ### Words in memory -/

@[simp] theorem get_wrBytes (r : Reg) (i : Nat) (l : List Byte) (s : State) (a : Nat) :
    (s.wrBytes a l).get r i = s.get r i := by
  induction l generalizing s a with
  | nil => rfl
  | cons b l ih => rw [wrBytes, ih, get_wrByte]

@[simp] theorem get_wrWord (s : State) (a : Nat) (w : Word) (r : Reg) (i : Nat) : (s.wrWord a w).get r i = s.get r i :=
  get_wrBytes ..

/-- The low byte of a word stands first (R40). -/
theorem rdByte_wrWord (s : State) (a : Nat) (w : Word) (k : Fin 4) :
    (s.wrWord a w).rdByte (a + k) = w.extractLsb' (8 * k) 8 := by
  simp only [wrWord, wordBytes, wrBytes, rdByte_wrByte]
  fin_cases k <;> simp [BitVec.extractLsb', Nat.shiftRight_eq_div_pow, Nat.add_assoc]

theorem rdByte_wrWord_ne (s : State) (a : Nat) (w : Word) {b : Nat} (h : b < a ∨ a + 4 ≤ b) :
    (s.wrWord a w).rdByte b = s.rdByte b := rdByte_wrBytes_ne _ _ _ _ h

@[simp] theorem rdByte_answer (s : State) (r : Resp) (a : Nat) : (s.answer r).rdByte a = s.rdByte a := rfl

/-- A master's write to writable memory that passes the checks stores a word there. -/
theorem busWrite_memory {m a : Nat} (v : Word) (s : State) (hc : (s.metBy m).canAccess m = true)
    (hf : m < 7 → (s.metBy m).frozen m = false) (hs : (s.metBy m).served = true) (hfs : (s.metBy m).failsafe = false)
    (ha : a % 4 = 0) (hw : memWritable a = true) (hr : 2 ≤ (s.metBy m).memRight m a) :
    busWrite m 4 a (v.setWidth 64) s.begin' = ((s.metBy m).wrWord a v).answer (.ok 0#32) := by
  have hb := hw
  simp only [memWritable, Bool.or_eq_true, Bool.and_eq_true, decide_eq_true_eq] at hb
  have hown : hcOwn m a = false := by
    simp [hcOwn, inSram, inMram]
    omega
  have hsp : spaceWrite (Access.of m) 4 a v (s.metBy m) = ((s.metBy m).wrWord a v, .ok) := by
    have hin : (inSram a || inMram a) = true := by
      simp [inSram, inMram]
      omega
    have hno : memOwn a = false := by
      simp [memOwn]
      omega
    have hr' : ¬ (s.metBy m).memRight m a < 2 := by omega
    simp only [spaceWrite]
    rw [if_neg (by omega), if_neg (by omega), if_neg (by omega), if_pos hin]
    simp [hno, hfs, hr', hw, Access.of]
  have hww : wordWrite (Access.of m) 4 a v s.begin' = ((s.metBy m).wrWord a v, .ok 0#32) := by
    rw [metBy_frozen] at hf
    rw [metBy_served] at hs
    have h0 : ((Access.of m).checked && decide ((Access.of m).id < 7) && s.begin'.frozen (Access.of m).id) = false := by
      change (true && decide (m < 7) && s.begin'.frozen m) = false
      simpa using hf
    unfold wordWrite
    rw [if_neg (by simp [h0]), if_neg (by simp [hs])]
    have hsp' : spaceWrite (Access.of m) 4 a v (attach (Access.of m).id s.begin') = _ := hsp
    simp only [hsp']
  rw [metBy_canAccess] at hc
  unfold busWrite
  rw [if_neg (by simp [hc]), if_neg (by omega), loW_setWidth]
  unfold accWrite
  rw [if_neg (by simp [Access.of, hown]), hww]
  rfl

/-- A master's read of readable MRAM that passes the checks is answered with the word there. -/
theorem wordRead_mram {m a : Nat} (u : State) (hm : m < 7) (hf : u.frozen m = false) (hs : u.served = true)
    (hfs : u.failsafe = false) (ha : a % 4 = 0) (hin : inMram a = true) (hr : 1 ≤ u.memRight m a) :
    ∃ v, wordRead (Access.of m) 4 a u = (u.spend, .ok v) := by
  have hb := hin
  simp only [inMram, Bool.and_eq_true, decide_eq_true_eq] at hb
  have hsp : spaceRead (Access.of m) (a - 0) (laneMask 4 a) u = (u, .ok (u.seenWord a)) := by
    have hr' : u.memRight m a ≠ 0 := by omega
    rw [Nat.sub_zero]
    unfold spaceRead
    rw [if_neg (by omega), if_neg (by omega), if_pos (by simp [hin])]
    simp [hfs, hr', Access.of]
  unfold wordRead
  rw [if_neg (by simp [Access.of, hf]), if_neg (by simp [hs])]
  have hat : attach (Access.of m).id u = u := attach_of_ne (by simp [Access.of]; omega) u
  simp only [hat, ha, hsp]
  exact ⟨_, rfl⟩

/-! ### An uncorrectable word (R453) -/

theorem satInc_eq_min (n v : Nat) : satInc n v = min (v + 1) (2 ^ n - 1) := by
  have := Nat.one_le_two_pow (n := n)
  unfold satInc
  split <;> omega

theorem fld_of_get {s t : State} {f : Field} {i : Nat} (h : t.get f.reg i = s.get f.reg i) : t.fld f i = s.fld f i := by
  rw [fld, fld, h]

theorem get_setFld_of_ne {s : State} {f : Field} {i j v : Nat} {r : Reg} (h : (r, j) ≠ (f.reg, i)) :
    (s.setFld f i v).get r j = s.get r j := by
  rw [get_setFld, if_neg fun hh => h (Prod.ext hh.1 hh.2)]

/-- A counter stops at its greatest value. -/
theorem fld_incSat (s : State) (f : Field) (i : Nat) (h : f.hi < 32 := by decide) :
    (s.incSat f i).fld f i = min (s.fld f i + 1) (2 ^ (f.hi + 1 - f.lo) - 1) := by
  have := Nat.one_le_two_pow (n := f.hi + 1 - f.lo)
  rw [incSat, fld_setFld_same _ _ _ _ h, satInc_eq_min]
  exact Nat.mod_eq_of_lt (by omega)

theorem raise_pends (s : State) (e : Nat) (h : (evtHome e).2 < 32) : (raise e s).pends e = true := by
  rw [pends, rbit, raise, get_setRbit, if_neg (by simp)]
  exact rbit_setRbit_same _ _ _ _ _ h

theorem raiseLog_pends (s : State) (e inst cau stamp : Nat) (d : List Word) (h : (evtHome e).2 < 32) :
    (raiseLog e inst cau stamp d s).pends e = true := by
  simpa [pends, rbit, raiseLog] using raise_pends s e h

/-- An event writes the two registers that it stands in. -/
theorem get_raise_of_notMem {s : State} {e : Nat} {r : Reg} {i : Nat} (h : (r, i) ∉ evtRegs e) :
    (raise e s).get r i = s.get r i := by
  simp only [evtRegs, List.mem_cons, Prod.mk.injEq, List.not_mem_nil, or_false, not_or] at h
  rw [raise, get_setRbit, if_neg h.2, get_setRbit, if_neg h.1]

theorem mramBad_uncorr (s : State) : (mramBad s).fld MM_ECC_UNCORR 0 = min (s.fld MM_ECC_UNCORR 0 + 1) 65535 := by
  refine Eq.trans ?_ (fld_incSat s MM_ECC_UNCORR 0)
  exact fld_of_get ((get_raiseLog _ _ _ _ _ _ _ _ (by decide) (by decide)).trans (spend_get ..))

theorem mramBad_pends (s : State) : (mramBad s).pends 13 = true := raiseLog_pends _ _ _ _ _ _ (by decide)

theorem mramBad_mm (s : State) : (mramBad s).mm = s.mm := by
  unfold mramBad raiseLog log38
  split <;> rfl

theorem mramBad_only (s : State) : State.only ([(.MM_ECC, 0)] ++ evtRegs 13) s (mramBad s) := by
  refine ⟨fun r i h => ?_, rdByte_of_kept (by simp)⟩
  rw [List.mem_append, not_or, List.mem_singleton] at h
  obtain ⟨hr, he⟩ := h
  rw [mramBad, raiseLog, get_log38, get_raise_of_notMem he]
  exact get_setFld_of_ne hr

end State

open State

theorem exec_registerWrite (m : Fin 8) (n : Nat) (a : Word) (v : DWord) (s : State) :
    exec (.registerWrite m n a v) s = .next (busWrite m n a.toNat v s.begin') := rfl

theorem exec_mramFault (k : MramRead) (s : State) : exec (.mramFault k) s = .next (mramFault k s.begin') := rfl

/-- A faulty word that a master reads is answered with an error. -/
theorem mramFault_access {m : Fin 7} {a : Word} {u : State} (hm : 2 ≤ m.val) (hf : u.frozen m = false)
    (hs : u.served = true) (hfs : u.failsafe = false) (ha : a.toNat % 4 = 0) (hin : inMram a.toNat = true)
    (hr : 1 ≤ u.memRight m a.toNat) :
    mramFault (.access m.castSucc a) u = mramBad (u.spend.answer .error) := by
  obtain ⟨v, hv⟩ := wordRead_mram u m.isLt hf hs hfs ha hin hr
  have hc : u.canAccess m.val = true := by
    have := m.isLt
    rw [canAccess, if_neg (by omega)]
    simp
    omega
  have hh (u : State) : hcFault m.val a.toNat 5 u = u := if_neg (by omega)
  simp only [mramFault, Fin.val_castSucc, hc, hin, Bool.and_true, if_true, hv, hh]

theorem mramFault_tile (x y : Fin 65536) (u : State) : ∃ u' : State, mramFault (.tile x y) u = mramBad u' ∧
    (∀ r i, u'.get r i = u.get r i) ∧ u'.kept = u.kept ∧ 65536 * y.val + x.val ∈ u'.mm.bad := by
  refine ⟨_, rfl, ?_⟩
  split
  next h => exact ⟨fun _ _ => rfl, rfl, by simpa using h⟩
  next => exact ⟨fun _ _ => rfl, rfl, by simp⟩

/-- Settles O5: a write that passes its checks is `busWrite_memory`; a faulty word is counted by `mramBad`. -/
theorem memoryWrites : Obligations.MemoryWrites := by
  refine ⟨?_, ?_, ?_⟩
  · intro m a v s u hc hf hs hfs ha hw hr
    rw [exec_registerWrite, busWrite_memory v s hc hf hs hfs ha hw hr]
    refine ⟨_, rfl, ?_, fun r i _ => ?_, fun k => ?_, fun b hb => ?_⟩
    · have hresp : (u.wrWord a.toNat v).resp = u.resp := resp_of_sound (wrWord_sound a.toNat v (.refl u.kept))
      rw [answer, hresp]
      simp [u, metBy]
    · rw [get_answer, get_wrWord]
    · rw [rdByte_answer, rdByte_wrWord]
    · rw [rdByte_answer, rdByte_wrWord_ne _ _ _ hb]
  · intro m a s u hm hf hs hfs ha hin hr
    rw [exec_mramFault, mramFault_access hm hf hs hfs ha hin hr]
    exact ⟨_, rfl, resp_of_kept (mramBad_kept _), mramBad_uncorr _, mramBad_pends _,
      mramBad_only (u.spend.answer .error)⟩
  · intro x y s _
    rw [exec_mramFault]
    obtain ⟨u, hu, hg, hk, hb⟩ := mramFault_tile x y s.begin'
    rw [hu]
    obtain ⟨hreg, hmem⟩ := mramBad_only u
    refine ⟨_, rfl, resp_of_kept ((mramBad_kept u).trans hk), ⟨fun r i h => (hreg r i h).trans (hg r i), ?_⟩, ?_,
      mramBad_pends u, ?_⟩
    · exact fun a => (hmem a).trans (rdByte_of_kept hk a)
    · rw [mramBad_uncorr]
      simp only [fld, hg]
    · rw [mramBad_mm]
      exact hb
end Sys2Proof.Machine

end

section

/-!
A write command by what the register's own rules make of the write: where it serves, and where it is refused.
-/

namespace Sys2Proof.Machine
open Kept State

/-- A write command serves where its register's own rules accept the write and have the effect claimed; a register whose
writes no recording notes. -/
theorem serves_of_wrRes {x : Instr} {m : Nat} {r : Reg} {i : Nat} {v : Word} {ok : State → Prop}
    {l : List (Reg × Nat)} {eff : State → State → Prop}
    (he : ∀ s, exec x s = .next (wr m r i v s.begin')) (hl : located r i = true)
    (hi : ∀ (u : State) (c : Access), u.instOf c r i = i) (hk : r ≠ .GUARD_KEY) (hn : actsAtOnce r = false)
    (hq : recordable (regAddr r i) v = false)
    (h : ∀ c u, c.id = m → ok u → ∃ t, wrRes c r i v u = (t, .ok) ∧ State.only l u t ∧ eff u t) :
    Serves x m r i ok l eff := by
  intro s hm ho
  obtain ⟨t₀, h₀, -, -⟩ := h (accOf m s) _ rfl ho
  obtain ⟨t, ht, honly, heff⟩ := h { accOf m s with checked := false } _ rfl ho
  have hi' : ∀ c : Access, c.id = m → c.set = m → (s.meets m r i).instOf c r i = i := fun c _ _ => hi _ c
  have hset : (wr m r i v s.begin').settled = t := by
    rw [(wr_ok m r i v s hl hi' hk hn hm (by rw [h₀]) (by rw [ht])).2, ht]
    simp [noted, hq, when]
  refine ⟨_, he s, wr_written m r i v s hl hi' hk hn hm (by rw [h₀]) (by rw [ht]), ?_, ?_⟩
  · rw [hset]
    exact honly
  · rw [hset]
    exact heff

/-- A write that only its register's own rules refuse uses up its clock and is answered with an error. -/
theorem wr_refused {m : Nat} {r : Reg} {i : Nat} {v : Word} {s : State} (h2 : 2 ≤ m) (hl : located r i = true)
    (hi : ∀ (u : State) (c : Access), u.instOf c r i = i) (hk : r ≠ .GUARD_KEY) (hn : actsAtOnce r = false)
    (hkw : r.info.acc ≠ .kw) (hs : refusalShows r = false) (hm : s.mayWrite m r i = true)
    (h : (wrRes (accOf m s) r i v (s.meets m r i)).2 = .err) :
    wr m r i v s.begin' = (s.metBy m).spend.answer .error := by
  have hl' := hl
  simp only [located, Bool.and_eq_true, decide_eq_true_eq] at hl'
  obtain ⟨⟨⟨⟨hat, hvw⟩, hlt⟩, hal⟩, hb⟩ := hl'
  simp only [mayWrite, mayAccess, Bool.and_eq_true, Bool.not_eq_true', Bool.or_eq_true] at hm
  obtain ⟨⟨⟨⟨⟨⟨⟨hca, hfr⟩, hsv⟩, hfs⟩, hpk⟩, hrp⟩, -⟩, ht⟩ := hm
  rw [metBy_canAccess] at hca
  rw [metBy_frozen] at hfr
  rw [metBy_served] at hsv
  have hclk : (s.metBy m).nowClk = s.nowClk := by
    simp only [metBy, attach]
    split <;> rfl
  have hhold : hold (Access.of m) (regAddr r i) v (s.metBy m) = ((s.metBy m).spend, .err) := by
    have hmeets : (s.metBy m).spend.settled = s.meets m r i := by simp [meets, taken, hkw, when]
    have happ : spaceApply { Access.of m with t := (s.metBy m).nowClk } (regAddr r i) v (s.metBy m).spend.settled =
        wrRes (accOf m s) r i v (s.meets m r i) := by
      rw [hmeets, hclk]
      exact spaceApply_reg _ _ _ _ _ hl (hi _ _) hk ht
    simp only [wrPage, wrOff] at hat
    have hmod : regAddr r i % 4096 = regAddr r i % 1024 := by omega
    unfold hold
    simp only [happ, h, hmod, hat, hs, Bool.and_false, Bool.false_eq_true, if_false]
  have hpage : pageWrite (Access.of m) (regAddr r i) v (s.metBy m) = ((s.metBy m).spend, .err) := by
    simp only [wrPage, wrOff] at hat
    simp [pageWrite, hat, hk, hkw, hn, hhold]
  have hsp : spaceWrite (Access.of m) 4 (regAddr r i) v (s.metBy m) = ((s.metBy m).spend, .err) := by
    simp only [wrPage, wrOff] at hb hfs hpk hrp
    have hmod : regAddr r i % 4096 = regAddr r i % 1024 := by omega
    have hb' : (blockOf (regAddr r i / 4096)).isNone = false := by simpa using hb
    have hf' : ((s.metBy m).failsafe && !failsafePage (regAddr r i / 4096)) = false := by
      rcases hfs with h | h <;> simp [h]
    have hpk' : (s.metBy m).pageWriteKind (Access.of m) (regAddr r i / 4096) (regAddr r i % 1024) = none := by
      simpa using hpk
    have hrp' : ((Access.of m).checked && (s.metBy m).inReplay && recordedPage (regAddr r i / 4096) &&
        !isSnap (regAddr r i)) = false := by simpa [Access.of] using hrp
    unfold spaceWrite
    simp [hal, hlt, hb', hmod, hpk', hf', hrp', hpage]
  have hww : wordWrite (Access.of m) 4 (regAddr r i) v s.begin' = ((s.metBy m).spend, .error) := by
    have hsp' : spaceWrite (Access.of m) 4 (regAddr r i) v (attach (Access.of m).id s.begin') = _ := hsp
    have hhc : hcFault (Access.of m).id (regAddr r i) 7 (s.metBy m).spend = (s.metBy m).spend :=
      if_neg (by simp [Access.of]; omega)
    have h0 : ((Access.of m).checked && decide ((Access.of m).id < 7) && s.begin'.frozen (Access.of m).id) = false :=
      hfr
    unfold wordWrite
    rw [if_neg (by simp [h0]), if_neg (by simp [hsv])]
    simp only [hsp', hhc]
  have hown : hcOwn (Access.of m).id (regAddr r i) = false := by
    simp [hcOwn]
    omega
  unfold wr busWrite
  rw [if_neg (by simp [hca]), if_neg (by omega), loW_setWidth]
  unfold accWrite
  rw [if_neg (by simp [hown]), hww]
  rfl

/-- A write command is refused where its register's own rules refuse the write. -/
theorem refuses_of_wrRes {x : Instr} {m : Nat} {r : Reg} {i : Nat} {v : Word} {ok : State → Prop}
    (he : ∀ s, exec x s = .next (wr m r i v s.begin')) (hl : located r i = true)
    (hi : ∀ (u : State) (c : Access), u.instOf c r i = i) (hk : r ≠ .GUARD_KEY) (hn : actsAtOnce r = false)
    (hkw : r.info.acc ≠ .kw) (hs : refusalShows r = false)
    (h : ∀ c u, c.id = m → c.checked = true → ok u → (wrRes c r i v u).2 = .err) : Refuses x m r i ok := by
  intro s h2 hm ho
  refine ⟨_, he s, ?_⟩
  rw [wr_refused h2 hl hi hk hn hkw hs hm (h _ _ rfl rfl ho)]
  refine ⟨?_, ?_, fun _ _ _ => rfl, fun _ => rfl⟩
  · simp [answer, spend, metBy]
  · simp only [metBy, attach]
    split <;> rfl

end Sys2Proof.Machine

end

section

/-!
Recording and replay (O40): the causes, the record ring, the START check, the start, the merge and the end.
-/

namespace Sys2Proof.Machine
open Kept
namespace State

/-! ### Causes -/

theorem get_cause_of_notMem {s : State} {er mr r : Reg} {i j b e : Nat} (h0 : ¬ (r = er ∧ j = i))
    (h : (r, j) ∉ evtRegs e) : (cause er mr i b e s).get r j = s.get r j := by
  simp only [cause]
  split
  · rw [get_raiseOf, get_raise_of_notMem h, get_setRbit, if_neg h0]
  · rw [get_setRbit, if_neg h0]

theorem cause_rbit (s : State) {er : Reg} (mr : Reg) (i b e : Nat) (hb : b < 32) (h1 : er ≠ .EVT_PEND)
    (h2 : er ≠ .EVT_RAW) : (cause er mr i b e s).rbit er i b = true := by
  have h := rbit_setRbit_same s er i b true hb
  simp only [cause]
  split
  · rwa [rbit, get_raiseOf, get_raise _ _ _ _ h1 h2]
  · exact h

theorem cause_pends {s : State} {er mr : Reg} {i b e : Nat} (hr : mr ≠ er) (he : (evtHome e).2 < 32)
    (hm : s.rbit mr i b = true) : (cause er mr i b e s).pends e = true := by
  have hm' : (s.setRbit er i b true).rbit mr i b = true := by
    rwa [rbit, get_setRbit, if_neg fun h => hr h.1]
  simp only [cause, hm', if_true]
  rw [pends, rbit, get_raiseOf]
  exact raise_pends _ _ he

section
variable (er mr : Reg) (inst i b e cau evt stamp : Nat) (d : List Word) (s : State)

theorem cause_replay : (cause er mr i b e s).replay = s.replay := by
  simp only [cause]
  split <;> rfl

theorem cause_recorder : (cause er mr i b e s).recorder = s.recorder := by
  simp only [cause]
  split <;> rfl

theorem log38_replay : (log38 inst cau evt stamp d s).replay = s.replay := by
  unfold log38
  split <;> rfl

theorem log38_recorder : (log38 inst cau evt stamp d s).recorder = s.recorder := by
  unfold log38
  split <;> rfl

end

section
variable (b stamp : Nat) (d : List Word) (s : State)

/-- The event of a replay cause (R454). -/
def rpEvt (b : Nat) : Nat := if b = 0 then 252 else 253

theorem get_rpCause (r : Reg) (i : Nat) :
    (rpCause b stamp d s).get r i = (cause .RP_EVT .RP_EVT_MASK 0 b (rpEvt b) s).get r i := by
  simp only [rpCause, rpEvt]
  split
  · rfl
  · exact get_log38 ..

theorem get_rpCause_of_notMem {r : Reg} {i : Nat} (h0 : (r, i) ≠ (.RP_EVT, 0)) (h : (r, i) ∉ evtRegs (rpEvt b)) :
    (rpCause b stamp d s).get r i = s.get r i := by
  rw [get_rpCause, get_cause_of_notMem (fun hh => h0 (Prod.ext hh.1 hh.2)) h]

theorem fld_rpCause (f : Field) (i : Nat) (h0 : f.reg ≠ .RP_EVT := by decide) (h1 : f.reg ≠ .EVT_PEND := by decide)
    (h2 : f.reg ≠ .EVT_RAW := by decide) : (rpCause b stamp d s).fld f i = s.fld f i :=
  fld_of_get ((get_rpCause ..).trans (get_cause _ _ _ _ _ _ _ _ h0 h1 h2))

theorem rpCause_rbit (hb : b < 32) : (rpCause b stamp d s).rbit .RP_EVT 0 b = true := by
  rw [rbit, get_rpCause]
  exact cause_rbit s _ _ _ _ hb (by decide) (by decide)

theorem rpCause_pends (hm : s.rbit .RP_EVT_MASK 0 b = true) : (rpCause b stamp d s).pends (rpEvt b) = true := by
  rw [pends, rbit, get_rpCause]
  refine cause_pends (by decide) ?_ hm
  unfold rpEvt
  split <;> decide

@[simp] theorem rpCause_replay : (rpCause b stamp d s).replay = s.replay := by
  simp only [rpCause]
  split
  · exact cause_replay ..
  · rw [log38_replay, cause_replay]

@[simp] theorem rpCause_recorder : (rpCause b stamp d s).recorder = s.recorder := by
  simp only [rpCause]
  split
  · exact cause_recorder ..
  · rw [log38_recorder, cause_recorder]

end

/-! ### The record ring -/

theorem rdByte_wrWords_ne (l : List Word) : ∀ (s : State) (a : Nat) {b : Nat}, b < a ∨ a + 4 * l.length ≤ b →
    (s.wrWords a l).rdByte b = s.rdByte b := by
  induction l with
  | nil => intros; rfl
  | cons w l ih =>
    intro s a b h
    rw [List.length_cons] at h
    rw [wrWords, ih _ _ (by omega), rdByte_wrWord_ne _ _ _ (by omega)]

theorem rdWord_congr {s t : State} {a : Nat} (h : ∀ b, a ≤ b → b < a + 4 → t.rdByte b = s.rdByte b) :
    t.rdWord a = s.rdWord a := by
  simp only [rdWord, rdBytes]
  rw [h _ (by omega) (by omega), h _ (by omega) (by omega), h _ (by omega) (by omega), h _ (by omega) (by omega)]

/-- The words read back what was written. -/
theorem rdWords_wrWords (l : List Word) : ∀ (s : State) (a : Nat), (s.wrWords a l).rdWords a l.length = l := by
  induction l with
  | nil => intros; rfl
  | cons w l ih =>
    intro s a
    have h : ((s.wrWord a w).wrWords (a + 4) l).rdWord a = w :=
      (rdWord_congr fun b _ hb => rdByte_wrWords_ne _ _ _ (by omega)).trans (rdWord_wrWord s a w)
    rw [List.length_cons, rdWords, wrWords, ih, h]

@[simp] theorem get_wrWords (r : Reg) (i : Nat) (l : List Word) (s : State) (a : Nat) :
    (s.wrWords a l).get r i = s.get r i := by
  induction l generalizing s a with
  | nil => rfl
  | cons w l ih => rw [wrWords, ih, get_wrWord]

theorem rdWords_of_mem {s t : State} (h : t.mem = s.mem) (a n : Nat) : t.rdWords a n = s.rdWords a n := by
  induction n generalizing a with
  | zero => rfl
  | succ n ih => rw [rdWords, rdWords, ih, rdWord_congr fun b _ _ => congrArg (SMap.get unlistedByte · b) h]

/-- The recorder's own state. -/
def setRecorder (x : Recorder) (s : State) : State := { s with recorder := x }

@[simp] theorem get_setRecorder (x : Recorder) (s : State) (r : Reg) (i : Nat) :
    (setRecorder x s).get r i = s.get r i := rfl
@[simp] theorem setRecorder_mem (x : Recorder) (s : State) : (setRecorder x s).mem = s.mem := rfl
@[simp] theorem setRecorder_recorder (x : Recorder) (s : State) : (setRecorder x s).recorder = x := rfl

@[simp] theorem setRecorder_kept (x : Recorder) (s : State) : (setRecorder x s).kept = s.kept := by simp [setRecorder]
theorem setRecorder_setRecorder (x y : Recorder) (s : State) : setRecorder x (setRecorder y s) = setRecorder x s := rfl

theorem wrWords_setRecorder (x : Recorder) (l : List Word) (s : State) (a : Nat) :
    (setRecorder x s).wrWords a l = setRecorder x (s.wrWords a l) := by
  induction l generalizing s a with
  | nil => rfl
  | cons w l ih =>
    have h : (setRecorder x s).wrWord a w = setRecorder x (s.wrWord a w) := rfl
    rw [wrWords, h, ih, wrWords]

end State
open State

/-! ### Recording (R443) -/

/-- The slot of the record ring that TAIL names. -/
def recSlot (s : State) : Nat :=
  (s.get .RP_REC_BASE 0).toNat / 128 * 128 + 128 * (s.fld RP_REC_TAIL_INDEX 0 % 2 ^ s.fld RP_REC_GEOM_LOG2N 0)

/-- The words of a record element: its head, its sequence number with length and flags, and its records, padded. -/
def recWords (x : List Word) (c : Bool) (s : State) : List Word :=
  [0x20010000#32, BitVec.ofNat 32 (s.recorder.rseq * 65536 + x.length * 256 + 2 * b2n s.recorder.loss + b2n c)] ++ x ++
    List.replicate (30 - x.length) 0#32

theorem recWords_length {x : List Word} {c : Bool} {s : State} (h : x.length ≤ 30) :
    (recWords x c s).length = 32 := by
  simp [recWords]
  omega

/-- While the ring has room, an element goes into the slot that TAIL names. -/
theorem recElement_room {x : List Word} {c : Bool} {s : State} (hx : x.length ≤ 30)
    (h : (s.fld RP_REC_TAIL_INDEX 0 + 65536 - s.fld RP_REC_HEAD_INDEX 0) % 65536 < 2 ^ s.fld RP_REC_GEOM_LOG2N 0) :
    recElement x c s = (setRecorder { s.recorder with rseq := modInc 16 s.recorder.rseq, loss := false }
      (s.wrWords (recSlot s) (recWords x c s))).setFld RP_REC_TAIL_INDEX 0
        ((s.fld RP_REC_TAIL_INDEX 0 + 1) % 65536) := by
  have hw : [0x20010000#32, BitVec.ofNat 32 (s.recorder.rseq * 65536 + x.length * 256 + 2 * b2n s.recorder.loss +
      b2n c)] ++ (x ++ List.replicate 30 0#32).take 30 = recWords x c s := by
    rw [recWords, List.append_assoc, List.take_append, List.take_of_length_le hx, List.take_replicate,
      Nat.min_eq_left (by omega)]
  have hr (y : Recorder) : (setRecorder y s).wrWords (recSlot s) (recWords x c s) =
      setRecorder y (s.wrWords (recSlot s) (recWords x c s)) := wrWords_setRecorder ..
  simp only [recElement]
  rw [if_neg (by omega), hw]
  change (setRecorder { ((setRecorder { s.recorder with rseq := modInc 16 s.recorder.rseq } s).wrWords (recSlot s)
    (recWords x c s)).recorder with loss := false } ((setRecorder { s.recorder with rseq := modInc 16 s.recorder.rseq }
      s).wrWords (recSlot s) (recWords x c s))).setFld _ _ _ = _
  rw [hr, setRecorder_recorder, setRecorder_setRecorder]

/-- On a full ring it is counted as lost. -/
theorem recElement_full {x : List Word} {c : Bool} {s : State}
    (h : 2 ^ s.fld RP_REC_GEOM_LOG2N 0 ≤ (s.fld RP_REC_TAIL_INDEX 0 + 65536 - s.fld RP_REC_HEAD_INDEX 0) % 65536) :
    recElement x c s = rpCause 1 s.T [] (incSat
      (setRecorder { s.recorder with rseq := modInc 16 s.recorder.rseq, loss := true } s) RP_CNT_LOST 0) := by
  simp only [recElement]
  rw [if_pos h]
  rfl

/-! ### The START check (R447) -/

/-- The code of the point in which a START record does not match, or 0. -/
def startCode (u : State) (x : RpRec) : Nat :=
  if x.body.take 5 ≠ u.rdWords (imgSlot (u.fld MOD_STAT_SLOT 0) + 16) 4 ++
    [u.rdWord (imgSlot (u.fld MOD_STAT_SLOT 0) + 8)] then 1
  else if x.stamp ≠ u.get64 .RP_T0_LO .RP_T0_HI 0 then 2 else if rpWord x 6 ≠ u.maskCrc then 3 else 0

/-- The same of the first record of a queue; a queue that does not begin with a whole START record shows code 4. -/
def startCheck (u : State) (i : Nat) : Nat :=
  match rpParse (u.rpQueue i).words with
  | some (x, _) => if x.rk ≠ 1 then 4 else startCode u x
  | none => 4

theorem startCode_le (u : State) (x : RpRec) : startCode u x ≤ 3 := by
  unfold startCode
  split_ifs <;> omega

theorem startCheck_of_start {u : State} {i : Nat} {x : RpRec} {y : List Word}
    (hp : rpParse (u.rpQueue i).words = some (x, y)) (hk : x.rk = 1) : startCheck u i = startCode u x := by
  simp [startCheck, hp, hk]

theorem startCheck_of_other {u : State} {i : Nat}
    (h : ((rpParse (u.rpQueue i).words).all fun e => e.1.rk != 1) = true) : startCheck u i = 4 := by
  unfold startCheck
  split
  next x _ hp =>
    rw [hp] at h
    exact if_pos (by simpa using h)
  next => rfl

theorem rpQueue_modRpQueue (i : Nat) (f : RpQueue → RpQueue) (s : State) :
    (modRpQueue i f s).rpQueue i = f (s.rpQueue i) := SMap.get_set_same ..

@[simp] theorem get_modRpQueue (i : Nat) (f : RpQueue → RpQueue) (s : State) (r : Reg) (j : Nat) :
    (modRpQueue i f s).get r j = s.get r j := rfl

theorem fld_modRpQueue (i : Nat) (f : RpQueue → RpQueue) (s : State) (x : Field) (j : Nat) :
    (modRpQueue i f s).fld x j = s.fld x j := rfl

theorem ne_nil_of_rpParse {ws : List Word} {e : RpRec × List Word} (h : rpParse ws = some e) : ws ≠ [] := by
  rintro rfl
  cases h

/-- What a refused START record leaves: its code, and an empty queue in which START is awaited further. -/
def startRefused (i code : Nat) (u : State) : State :=
  rpCause 2 u.T [BitVec.ofNat 32 code] (modRpQueue i (fun q => { q with words := [] }) (u.setFld RP_STAT_REJ 0 code))

/-- What a START record that matches leaves: the records after it, and STATE 3. -/
def startTaken (i : Nat) (x : RpRec) (y : List Word) (u : State) : State :=
  (modRpQueue i (fun q => { q with words := y, last := x.stamp }) (u.setFld RP_STAT_REJ 0 0)).setFld RP_STAT_STATE 0 3

theorem rpStart_idle {u : State} {i : Nat}
    (h : u.fld RP_STAT_STATE 0 ≠ 2 ∨ u.rpCarries i = false ∨ u.served = false) : rpStart i u = u := by
  unfold rpStart
  rw [if_neg]
  rintro ⟨h1, h2, h3⟩
  simp [h1, h2, h3] at h

section
variable {u : State} {i : Nat} (h1 : u.fld RP_STAT_STATE 0 = 2) (h2 : u.rpCarries i = true) (h3 : u.served = true)
include h1 h2 h3

theorem rpStart_refused {code : Nat} (hw : (u.rpQueue i).words ≠ []) (hc : startCheck u i = code) (h0 : code ≠ 0) :
    rpStart i u = startRefused i code u := by
  subst hc
  have hw' : (u.rpQueue i).words.isEmpty = false := by simpa using hw
  unfold rpStart
  rw [if_pos ⟨h1, h2, h3⟩]
  simp only [hw', Bool.false_and, Bool.false_eq_true, if_false]
  exact if_neg h0

theorem rpStart_taken {x : RpRec} {y : List Word} (hp : rpParse (u.rpQueue i).words = some (x, y)) (hk : x.rk = 1)
    (hc : startCode u x = 0) : rpStart i u = startTaken i x y u := by
  have hw' : (u.rpQueue i).words.isEmpty = false := by simpa using ne_nil_of_rpParse hp
  have hc' : startCheck u i = 0 := (startCheck_of_start hp hk).trans hc
  unfold rpStart
  rw [if_pos ⟨h1, h2, h3⟩]
  simp only [hw', Bool.false_and, Bool.false_eq_true, if_false]
  refine (if_pos hc').trans ?_
  simp only [hp, startTaken]
  exact congrArg (fun n => State.setFld (modRpQueue i _ (u.setFld RP_STAT_REJ 0 n)) _ _ _)
    ((if_neg (not_not.2 hk)).trans hc)

end

theorem startTaken_only (i : Nat) (x : RpRec) (y : List Word) (u : State) :
    State.only [(.RP_STAT, 0)] u (startTaken i x y u) := by
  refine ⟨fun r j h => ?_, fun _ => rfl⟩
  rw [List.mem_singleton] at h
  rw [startTaken, get_setFld_of_ne h, get_modRpQueue, get_setFld_of_ne h]

theorem startTaken_rej (i : Nat) (x : RpRec) (y : List Word) (u : State) :
    (startTaken i x y u).fld RP_STAT_REJ 0 = 0 := by
  rw [startTaken, fld_setFld_ne _ _ _ _ _ _ (by decide), fld_modRpQueue, fld_setFld_same _ _ _ _ (by decide)]
  rfl

theorem startTaken_queue (i : Nat) (x : RpRec) (y : List Word) (u : State) :
    (startTaken i x y u).rpQueue i = { u.rpQueue i with words := y, last := x.stamp } :=
  rpQueue_modRpQueue i (fun q => { q with words := y, last := x.stamp }) (u.setFld RP_STAT_REJ 0 0)

theorem startRefused_only (i code : Nat) (u : State) :
    State.only ([(.RP_STAT, 0), (.RP_EVT, 0)] ++ evtRegs 253) u (startRefused i code u) := by
  refine ⟨fun r j h => ?_, rdByte_of_kept (by simp [startRefused])⟩
  simp only [List.mem_append, List.mem_cons, List.not_mem_nil, or_false, not_or] at h
  obtain ⟨⟨h1, h2⟩, h3⟩ := h
  refine (get_rpCause_of_notMem 2 _ _ _ h2 h3).trans ?_
  rw [get_modRpQueue, get_setFld_of_ne h1]

theorem startRefused_rej {i code : Nat} (u : State) (h : code ≤ 4) :
    (startRefused i code u).fld RP_STAT_REJ 0 = code := by
  refine (fld_rpCause 2 _ _ _ RP_STAT_REJ 0).trans ?_
  rw [fld_modRpQueue, fld_setFld_same _ _ _ _ (by decide)]
  exact Nat.mod_eq_of_lt (lt_of_le_of_lt h (by decide))

theorem startRefused_state (i code : Nat) (u : State) :
    (startRefused i code u).fld RP_STAT_STATE 0 = u.fld RP_STAT_STATE 0 := by
  refine (fld_rpCause 2 _ _ _ RP_STAT_STATE 0).trans ?_
  rw [fld_modRpQueue, fld_setFld_ne _ _ _ _ _ _ (by decide)]

theorem startRefused_words (i code : Nat) (u : State) : ((startRefused i code u).rpQueue i).words = [] := by
  rw [startRefused, rpQueue, rpCause_replay]
  exact congrArg RpQueue.words (rpQueue_modRpQueue ..)

theorem startRefused_pends {i code : Nat} {u : State} (h : u.rbit .RP_EVT_MASK 0 2 = true) :
    (startRefused i code u).pends 253 = true := by
  refine rpCause_pends 2 _ _ _ ?_
  rwa [rbit, get_modRpQueue, get_setFld_of_ne (by decide)]

/-! ### The start of a replay (R447) -/

/-- What RP_CTRL.GO leaves: STATE 4, and the next tick the first of the replay. -/
def replayGone (u : State) : State :=
  rlsUpdate { u.setFld RP_STAT_STATE 0 4 with replay := { u.replay with go := true } }

theorem rlsUpdate_get {u : State} {r : Reg} {j : Nat} (h : (r, j) ≠ (.MOD_STAT, 0)) :
    (rlsUpdate u).get r j = u.get r j :=
  get_setFld_of_ne h

theorem fld_rlsUpdate_rpStat (u : State) : (rlsUpdate u).fld RP_STAT_STATE 0 = u.fld RP_STAT_STATE 0 :=
  fld_of_get (rlsUpdate_get (by decide))

/-- A module whose replay runs is not held back by it (bit 3 of RLS_BLOCK). -/
theorem rlsUpdate_block {u : State} (h : u.fld RP_STAT_STATE 0 = 4) :
    (rlsUpdate u).fld MOD_STAT_RLS_BLOCK 0 / 8 % 2 = 0 := by
  simp only [rlsUpdate, h]
  rw [fld_setFld_same _ _ _ _ (by decide)]
  simp only [bne_self_eq_false, Bool.and_false]
  generalize (u.fld MOD_STAT_BOOT 0 != 1) = a
  generalize (u.boot.rst == 4) = b
  generalize u.boot.vbatLow = c
  generalize u.flag MOD_STAT_HALT 0 = d
  revert a b c d
  decide

theorem replayGone_only (u : State) : State.only [(.RP_STAT, 0), (.MOD_STAT, 0)] u (replayGone u) := by
  refine ⟨fun r j h => ?_, fun _ => rfl⟩
  simp only [List.mem_cons, List.not_mem_nil, or_false, not_or] at h
  rw [replayGone, rlsUpdate_get h.2]
  change (u.setFld RP_STAT_STATE 0 4).get r j = u.get r j
  exact get_setFld_of_ne h.1

theorem replayGone_state (u : State) : (replayGone u).fld RP_STAT_STATE 0 = 4 := by
  rw [replayGone, fld_rlsUpdate_rpStat]
  exact fld_setFld_same u RP_STAT_STATE 0 4 (by decide)

theorem wrRes_rpCtrl (c : Access) (u : State) : wrRes c .RP_CTRL 0 1#32 u =
    if (u.fld RP_STAT_STATE 0 != 3 || (c.checked && c.id != u.owner)) = true then (u, .err)
    else (replayGone u, .ok) := by
  have hc : checkVal .RP_CTRL (1#32 &&& Reg.RP_CTRL.info.wmask) = some 1#32 := by decide
  change regStore c .RP_CTRL 0 (1#32 &&& Reg.RP_CTRL.info.wmask) u = _
  unfold regStore
  rw [hc]
  rfl

theorem exec_replayGo (m : Fin 8) (s : State) :
    exec (.replayGo m) s = .next (wr m .RP_CTRL 0 1#32 s.begin') := rfl

theorem replayGo_serves (m : Fin 8) :
    Serves (.replayGo m) m .RP_CTRL 0 (fun u => u.fld RP_STAT_STATE 0 = 3 ∧ m.val = u.owner)
      [(.RP_STAT, 0), (.MOD_STAT, 0)] fun _ t =>
        t.fld RP_STAT_STATE 0 = 4 ∧ t.replay.go = true ∧ t.fld MOD_STAT_RLS_BLOCK 0 / 8 % 2 = 0 := by
  refine serves_of_wrRes (exec_replayGo m) (by decide) (fun _ _ => rfl) (by decide) (by decide) (by decide) ?_
  rintro c u hid ⟨hst, how⟩
  refine ⟨replayGone u, ?_, replayGone_only u, replayGone_state u, rfl, rlsUpdate_block ?_⟩
  · rw [wrRes_rpCtrl, if_neg]
    simp [hst, hid, how]
  · exact fld_setFld_same u RP_STAT_STATE 0 4 (by decide)

theorem replayGo_refuses (m : Fin 8) :
    Refuses (.replayGo m) m .RP_CTRL 0 fun u => u.fld RP_STAT_STATE 0 ≠ 3 ∨ m.val ≠ u.owner := by
  refine refuses_of_wrRes (exec_replayGo m) (by decide) (fun _ _ => rfl) (by decide) (by decide) (by decide)
    (by decide) ?_
  intro c u hid hck ho
  rw [wrRes_rpCtrl, if_pos]
  simpa [hck, hid] using ho

/-- A write through the base view gives a field of 16 bits at bit 0 its value. -/
theorem bitsOf_merge (w v : Word) : bitsOf ((w &&& ~~~ 0xFFFF#32) ||| (v &&& 0xFFFF#32)) 15 0 = bitsOf v 15 0 := by
  have hb (x : Word) : bitsOf x 15 0 = (x.setWidth 16).toNat := by simp [bitsOf]
  rw [hb, hb]
  have hm : (0xFFFF#32).setWidth 16 = BitVec.allOnes 16 := rfl
  rw [BitVec.setWidth_or, BitVec.setWidth_and, BitVec.setWidth_and, BitVec.setWidth_not (by decide), hm,
    BitVec.not_allOnes, BitVec.and_zero, BitVec.zero_or, BitVec.and_allOnes]

theorem recHeadWrite_serves (m : Fin 8) (v : Word) : Serves (.rpRecHeadWrite m v) m .RP_REC_HEAD 0 (fun _ => True)
    [(.RP_REC_HEAD, 0)] fun u t => t.fld RP_REC_HEAD_INDEX 0 = bitsOf v 15 0 ∧ t.recorder = u.recorder := by
  refine serves_of_wrRes (fun _ => rfl) (by decide) (fun _ _ => rfl) (by decide) (by decide) rfl ?_
  intro c u _ _
  refine ⟨u.put .RP_REC_HEAD 0 ((u.get .RP_REC_HEAD 0 &&& ~~~ 0xFFFF#32) ||| (v &&& 0xFFFF#32)), rfl,
    ⟨fun r j h => ?_, fun _ => rfl⟩, ?_, rfl⟩
  · rw [get_put, if_neg (by simpa using h)]
  · rw [fld]
    exact (congrArg (bitsOf · 15 0) (get_put_same ..)).trans (bitsOf_merge ..)

/-! ### The merge of a tick's records (R449) -/

theorem met_resp (s : State) : s.met.resp = [] := resp_of_sound (closeTick_sound (.refl s.begin'.kept))

theorem exec_replayRecordMerge (s : State) : exec .replayRecordMerge s = .next (rpMerge s.begin') := rfl

theorem rpGather_of_nil {i k n : Nat} {x : State × List RpRec} (h : (x.1.rpQueue i).words = []) :
    rpGather i k n x = x := by
  cases n with
  | zero => rfl
  | succ n => simp [rpGather, h, rpParse]

/-- The state in which the records of the coming tick are gathered. -/
def merging (u : State) : State := { u with replay := { u.replay with merged := u.tick + 1 } }

/-- The one record of a queue is taken out. -/
def rpTaken (i : Nat) (x : RpRec) (u : State) : State :=
  modRpQueue i (fun q => { q with words := [], last := max q.last x.stamp }) u

theorem rpTaken_words (i : Nat) (x : RpRec) (u : State) : ((rpTaken i x u).rpQueue i).words = [] :=
  congrArg RpQueue.words (rpQueue_modRpQueue ..)

section
variable {i k n : Nat} {x : RpRec} {u : State} {l : List RpRec} (hp : rpParse (u.rpQueue i).words = some (x, []))
include hp

theorem rpGather_late (h : rpTick x < k) :
    rpGather i k (n + 1) (u, l) = (rpLate (k - rpTick x) (rpTaken i x u), l) := by
  have hw : ((rpLate (k - rpTick x) (rpTaken i x u)).rpQueue i).words = [] := by
    rw [rpLate, rpQueue, rpCause_replay]
    exact rpTaken_words ..
  simp only [rpGather, hp]
  rw [if_neg (by omega), if_pos (by simp [h])]
  exact rpGather_of_nil hw

theorem rpGather_later (h : k < rpTick x) (hl : (u.rpQueue i).last ≤ x.stamp) :
    rpGather i k (n + 1) (u, l) = (u, l) := by
  simp only [rpGather, hp]
  exact if_pos ⟨h, hl⟩

theorem rpGather_now (h : rpTick x = k) (hl : (u.rpQueue i).last ≤ x.stamp) :
    rpGather i k (n + 1) (u, []) = (rpTaken i x u, [x]) := by
  simp only [rpGather, hp]
  rw [if_neg (by omega), if_neg (by simp; omega), if_neg (by simp)]
  exact rpGather_of_nil (rpTaken_words ..)

end

/-- The records of the coming tick are carried out in order. -/
def merge (k : Nat) (v : State) : State :=
  let v := each v.rpQueues
    (fun i s => if s.flag Q_GEOM_EN (30 + i) then each (List.range 16) (fun _ => rpTake i) s else s) v
  let x := v.rpQueues.foldl (fun x i => rpGather i k (x.1.rpQueue i).words.length x) (v, [])
  each (x.2.foldl (fun l r => rpInsert r l) []) rpApply x.1

theorem rpMerge_first {s : State} (h4 : s.begin'.fld RP_STAT_STATE 0 = 4)
    (hm : s.met.replay.merged ≠ s.met.tick + 1) : rpMerge s.begin' = merge (s.met.tick + 1) (merging s.met) := by
  simp only [rpMerge]
  rw [if_pos h4]
  exact if_neg hm

theorem rpMerge_again {s : State} (h4 : s.begin'.fld RP_STAT_STATE 0 = 4) (hm : s.met.replay.merged = s.met.tick + 1) :
    rpMerge s.begin' = s.met := by
  simp only [rpMerge]
  rw [if_pos h4]
  exact if_pos hm

theorem rpMerge_idle {s : State} (h4 : s.fld RP_STAT_STATE 0 ≠ 4) : rpMerge s = s := by
  simp only [rpMerge]
  exact if_neg h4

/-- Where one queue carries the replay, and no element of it waits to be taken, its records are gathered. -/
theorem merge_one {v : State} {i k : Nat} {x : RpRec} (hq : v.rpQueues = [i]) (he : v.flag Q_GEOM_EN (30 + i) = false)
    (hp : rpParse (v.rpQueue i).words = some (x, [])) :
    ∃ n, merge k v = each (((rpGather i k (n + 1) (v, [])).2).foldl (fun l r => rpInsert r l) []) rpApply
      (rpGather i k (n + 1) (v, [])).1 := by
  obtain ⟨n, hn⟩ := Nat.exists_eq_succ_of_ne_zero
    (fun h => ne_nil_of_rpParse hp (List.eq_nil_of_length_eq_zero h))
  refine ⟨n, ?_⟩
  simp only [merge, hq, each, List.foldl_cons, List.foldl_nil, he, Bool.false_eq_true, if_false, hn]

section
variable {i : Nat} {x : RpRec} {u : State} (hq : u.rpQueues = [i]) (he : u.flag Q_GEOM_EN (30 + i) = false)
  (hp : rpParse (u.rpQueue i).words = some (x, []))
include hq he hp

theorem merge_late (h : rpTick x ≤ u.tick) :
    merge (u.tick + 1) (merging u) = rpLate (u.tick + 1 - rpTick x) (rpTaken i x (merging u)) := by
  obtain ⟨n, hn⟩ := merge_one (v := merging u) (k := u.tick + 1) hq he hp
  rw [hn, rpGather_late (u := merging u) hp (Nat.lt_succ_of_le h)]
  rfl

theorem merge_later (h : u.tick + 1 < rpTick x) (hl : (u.rpQueue i).last ≤ x.stamp) :
    merge (u.tick + 1) (merging u) = merging u := by
  obtain ⟨n, hn⟩ := merge_one (v := merging u) (k := u.tick + 1) hq he hp
  rw [hn, rpGather_later (u := merging u) hp h hl]
  rfl

theorem merge_now (h : rpTick x = u.tick + 1) (hl : (u.rpQueue i).last ≤ x.stamp) :
    merge (u.tick + 1) (merging u) = rpApply x (rpTaken i x (merging u)) := by
  obtain ⟨n, hn⟩ := merge_one (v := merging u) (k := u.tick + 1) hq he hp
  rw [hn, rpGather_now (u := merging u) hp h hl]
  rfl

end

/-- An END record has been carried out. -/
def endReplay (u : State) : State := { u with replay := { u.replay with ended := true } }

theorem rpApply_end {x : RpRec} (h : x.rk = 2) (u : State) :
    rpApply x u = endReplay u := by
  simp only [rpApply, h]
  rfl

/-! ### A late record -/

theorem rpLate_only (n : Nat) (u : State) :
    State.only ([(.RP_LATE, 0), (.RP_CNT, 0), (.RP_EVT, 0)] ++ evtRegs 252) u (rpLate n u) := by
  refine ⟨fun r j h => ?_, rdByte_of_kept (by simp [rpLate])⟩
  simp only [List.mem_append, List.mem_cons, List.not_mem_nil, or_false, not_or] at h
  obtain ⟨⟨h1, h2, h3⟩, h4⟩ := h
  rw [rpLate, get_rpCause_of_notMem 0 _ _ _ h3 h4, incSat, get_setFld_of_ne h2, get_put,
    if_neg fun hh => h1 (Prod.ext hh.1 hh.2)]

theorem rpLate_shown (n : Nat) (u : State) : (rpLate n u).get .RP_LATE 0 = BitVec.ofNat 32 n := by
  rw [rpLate, get_rpCause_of_notMem 0 _ _ _ (by decide) (by decide), incSat, get_setFld_of_ne (by decide), get_put_same]

theorem rpLate_counted (n : Nat) (u : State) : (rpLate n u).fld RP_CNT_LATE 0 =
    min (u.fld RP_CNT_LATE 0 + 1) (2 ^ (RP_CNT_LATE.hi + 1 - RP_CNT_LATE.lo) - 1) := by
  rw [rpLate, fld_rpCause 0 _ _ _ RP_CNT_LATE 0, fld_incSat _ RP_CNT_LATE]
  have h : (u.put .RP_LATE 0 (BitVec.ofNat 32 n)).fld RP_CNT_LATE 0 = u.fld RP_CNT_LATE 0 :=
    fld_of_get (get_put_reg (by decide) ..)
  rw [h]

theorem rpLate_pends {n : Nat} {u : State} (h : u.rbit .RP_EVT_MASK 0 0 = true) : (rpLate n u).pends 252 = true := by
  refine rpCause_pends 0 _ _ _ ?_
  rwa [rbit, incSat, get_setFld_of_ne (by decide), get_put_reg (by decide)]

theorem rpLate_replay (n : Nat) (u : State) : (rpLate n u).replay = u.replay := by
  rw [rpLate, rpCause_replay]
  rfl

/-! ### The end of a replay (R450) -/

/-- What the end of a replay leaves. -/
def replayEnded (u : State) : State := rlsUpdate (rpCause 4 u.T [] (u.setFld RP_STAT_STATE 0 5))

theorem rpEnd_ended {u : State} (h : u.fld RP_STAT_STATE 0 = 4) (he : u.replay.ended = true) :
    rpEnd u = replayEnded u := if_pos ⟨h, he⟩

theorem rpEnd_idle {u : State} (h : u.fld RP_STAT_STATE 0 ≠ 4 ∨ u.replay.ended = false) : rpEnd u = u := by
  refine if_neg ?_
  rintro ⟨h1, h2⟩
  simp [h1, h2] at h

theorem replayEnded_only (u : State) :
    State.only ([(.RP_STAT, 0), (.RP_EVT, 0), (.MOD_STAT, 0)] ++ evtRegs 253) u (replayEnded u) := by
  refine ⟨fun r j h => ?_, rdByte_of_kept (by simp [replayEnded])⟩
  simp only [List.mem_append, List.mem_cons, List.not_mem_nil, or_false, not_or] at h
  obtain ⟨⟨h1, h2, h3⟩, h4⟩ := h
  rw [replayEnded, rlsUpdate_get h3, get_rpCause_of_notMem 4 _ _ _ h2 h4, get_setFld_of_ne h1]

theorem replayEnded_state (u : State) : (replayEnded u).fld RP_STAT_STATE 0 = 5 := by
  rw [replayEnded, fld_rlsUpdate_rpStat, fld_rpCause 4 _ _ _ RP_STAT_STATE 0, fld_setFld_same _ _ _ _ (by decide)]
  rfl

theorem replayEnded_cause (u : State) : (replayEnded u).rbit .RP_EVT 0 4 = true := by
  rw [replayEnded, rbit, rlsUpdate_get (by decide)]
  exact rpCause_rbit 4 _ _ _ (by decide)

theorem replayEnded_pends {u : State} (h : u.rbit .RP_EVT_MASK 0 4 = true) : (replayEnded u).pends 253 = true := by
  rw [replayEnded, pends, rbit, rlsUpdate_get (by decide)]
  refine rpCause_pends 4 _ _ _ ?_
  rwa [rbit, get_setFld_of_ne (by decide)]

theorem replayEnded_dust (u : State) : (replayEnded u).flag MOD_STAT_DUST 0 = u.flag MOD_STAT_DUST 0 := by
  rw [flag, flag, replayEnded, rlsUpdate, fld_setFld_ne _ _ _ _ _ _ (by decide), fld_rpCause 4 _ _ _ MOD_STAT_DUST 0,
    fld_setFld_ne _ _ _ _ _ _ (by decide)]

/-! ### The statement, part by part -/

theorem recElement_stores (x : List Word) (c : Bool) (s : State) (hx : x.length ≤ 30)
    (h : (s.fld RP_REC_TAIL_INDEX 0 + 65536 - s.fld RP_REC_HEAD_INDEX 0) % 65536 < 2 ^ s.fld RP_REC_GEOM_LOG2N 0) :
    let t := recElement x c s
    t.rdWords (recSlot s) 32 = recWords x c s ∧
      t.fld RP_REC_TAIL_INDEX 0 = (s.fld RP_REC_TAIL_INDEX 0 + 1) % 65536 ∧
      t.recorder = { s.recorder with rseq := modInc 16 s.recorder.rseq, loss := false } ∧
      State.onlyBut [(.RP_REC_TAIL, 0)] (fun a => decide (recSlot s ≤ a) && decide (a < recSlot s + 128)) s t := by
  intro t
  have hl := recWords_length (c := c) (s := s) hx
  have ht : t.mem = (s.wrWords (recSlot s) (recWords x c s)).mem := by
    simp only [t, recElement_room hx h, setFld_mem, setRecorder_mem]
  refine ⟨?_, ?_, ?_, fun r j hr => ?_, fun a ha => ?_⟩
  · rw [rdWords_of_mem ht, ← hl, rdWords_wrWords]
  · simp only [t, recElement_room hx h]
    rw [fld_setFld_same _ _ _ _ (by decide)]
    exact Nat.mod_mod ..
  · simp only [t, recElement_room hx h, setFld_recorder, setRecorder_recorder]
  · rw [List.mem_singleton] at hr
    simp only [t, recElement_room hx h]
    rw [get_setFld_of_ne hr, get_setRecorder, get_wrWords]
  · have hr : t.rdByte a = (s.wrWords (recSlot s) (recWords x c s)).rdByte a :=
      congrArg (SMap.get unlistedByte · a) ht
    rw [hr, rdByte_wrWords_ne]
    simp at ha
    omega

theorem recElement_loses (x : List Word) (c : Bool) (s : State)
    (h : 2 ^ s.fld RP_REC_GEOM_LOG2N 0 ≤ (s.fld RP_REC_TAIL_INDEX 0 + 65536 - s.fld RP_REC_HEAD_INDEX 0) % 65536) :
    let t := recElement x c s
    t.recorder = { s.recorder with rseq := modInc 16 s.recorder.rseq, loss := true } ∧
      t.fld RP_CNT_LOST 0 = min (s.fld RP_CNT_LOST 0 + 1) (2 ^ (RP_CNT_LOST.hi + 1 - RP_CNT_LOST.lo) - 1) ∧
      t.rbit .RP_EVT 0 1 = true ∧ (s.rbit .RP_EVT_MASK 0 1 = true → t.pends 253 = true) ∧
      State.only ([(.RP_CNT, 0), (.RP_EVT, 0)] ++ evtRegs 253) s t := by
  intro t
  simp only [t, recElement_full h]
  refine ⟨?_, ?_, rpCause_rbit 1 _ _ _ (by decide), fun hm => ?_, fun r j hr => ?_, rdByte_of_kept (by simp)⟩
  · rw [rpCause_recorder]
    rfl
  · rw [fld_rpCause 1 _ _ _ RP_CNT_LOST 0, fld_incSat _ RP_CNT_LOST]
    rfl
  · refine rpCause_pends 1 _ _ _ ?_
    rw [rbit, incSat, get_setFld_of_ne (by decide)]
    exact hm
  · simp only [List.mem_append, List.mem_cons, List.not_mem_nil, or_false, not_or] at hr
    obtain ⟨⟨h1, h2⟩, h3⟩ := hr
    rw [get_rpCause_of_notMem 1 _ _ _ h2 h3, incSat, get_setFld_of_ne h1]
    rfl

theorem exec_replayStartCheck (i : Fin 4) (s : State) : exec (.replayStartCheck i) s = .next (rpStart i s.begin') := rfl

theorem exec_replayEnd (s : State) : exec .replayEnd s = .next (rpEnd s.begin') := rfl

theorem startRefused_answers (i code : Nat) (s : State) : (startRefused i code s.begin').resp = [] :=
  resp_of_kept (s := s.begin') (by simp [startRefused])

theorem startCheck_matches (i : Fin 4) (x : RpRec) (y : List Word) :
    Acts (.replayStartCheck i) (fun u => u.fld RP_STAT_STATE 0 = 2 ∧ u.rpCarries i = true ∧ u.served = true ∧
      rpParse (u.rpQueue i).words = some (x, y) ∧ x.rk = 1 ∧ startCode u x = 0) [(.RP_STAT, 0)] fun _ t =>
        t.fld RP_STAT_STATE 0 = 3 ∧ t.fld RP_STAT_REJ 0 = 0 ∧ (t.rpQueue i).words = y ∧
        (t.rpQueue i).last = x.stamp := by
  rintro s ⟨h1, h2, h3, hp, hk, hc⟩
  rw [exec_replayStartCheck, rpStart_taken h1 h2 h3 hp hk hc]
  refine ⟨_, rfl, rfl, startTaken_only .., fld_setFld_same _ _ _ _ (by decide), startTaken_rej .., ?_, ?_⟩
  · rw [startTaken_queue]
  · rw [startTaken_queue]

/-- A queue that does not pass the check: what is claimed of a mismatch and of a first record that is no START. -/
theorem startCheck_refuses (i : Fin 4) (s : State) {code : Nat} (h1 : s.begin'.fld RP_STAT_STATE 0 = 2)
    (h2 : s.begin'.rpCarries i = true) (h3 : s.begin'.served = true) (hw : (s.begin'.rpQueue i).words ≠ [])
    (hc : startCheck s.begin' i = code) (h0 : code ≠ 0) (h4 : code ≤ 4) :
    ∃ t, exec (.replayStartCheck i) s = .next t ∧ t.resp = [] ∧
      State.only ([(.RP_STAT, 0), (.RP_EVT, 0)] ++ evtRegs 253) s.begin' t ∧ t.fld RP_STAT_REJ 0 = code ∧
      t.fld RP_STAT_STATE 0 = 2 ∧ (t.rpQueue i).words = [] ∧ t.rbit .RP_EVT 0 2 = true ∧
      (s.begin'.rbit .RP_EVT_MASK 0 2 = true → t.pends 253 = true) := by
  rw [exec_replayStartCheck, rpStart_refused h1 h2 h3 hw hc h0]
  exact ⟨_, rfl, startRefused_answers .., startRefused_only .., startRefused_rej _ h4,
    (startRefused_state ..).trans h1, startRefused_words .., rpCause_rbit 2 _ _ _ (by decide), startRefused_pends⟩

section
variable (i n : Nat) (x : RpRec) (u : State)

theorem lateTaken_resp : (rpLate n (rpTaken i x (merging u))).resp = u.resp :=
  resp_of_kept (by simp [rpLate, rpTaken, merging])

theorem lateTaken_effect : let t := rpLate n (rpTaken i x (merging u))
    t.replay.merged = u.tick + 1 ∧ (t.rpQueue i).words = [] ∧ t.get .RP_LATE 0 = BitVec.ofNat 32 n ∧
      t.fld RP_CNT_LATE 0 = min (u.fld RP_CNT_LATE 0 + 1) (2 ^ (RP_CNT_LATE.hi + 1 - RP_CNT_LATE.lo) - 1) ∧
      t.rbit .RP_EVT 0 0 = true ∧ (u.rbit .RP_EVT_MASK 0 0 = true → t.pends 252 = true) ∧
      t.replay.ended = u.replay.ended ∧
      State.only ([(.RP_LATE, 0), (.RP_CNT, 0), (.RP_EVT, 0)] ++ evtRegs 252) u t := by
  intro t
  have hr : t.replay = (rpTaken i x (merging u)).replay := rpLate_replay ..
  obtain ⟨hreg, hmem⟩ := rpLate_only n (rpTaken i x (merging u))
  refine ⟨?_, ?_, rpLate_shown .., rpLate_counted .., rpCause_rbit 0 _ _ _ (by decide), fun h => rpLate_pends h, ?_,
    hreg, hmem⟩
  · rw [hr]
    rfl
  · rw [rpQueue, hr]
    exact rpTaken_words ..
  · rw [hr]
    rfl

theorem merging_resp : (merging u).resp = u.resp := rfl

theorem endTaken_resp : (endReplay (rpTaken i x (merging u))).resp = u.resp := by
  simp only [endReplay, rpTaken, modRpQueue, merging]

theorem merging_only : State.only [] u (merging u) := only_of_regs rfl rfl _

theorem endTaken_only : State.only [] u (endReplay (rpTaken i x (merging u))) := by
  refine only_of_regs ?_ ?_ _ <;> simp only [endReplay, rpTaken, modRpQueue, merging]

theorem merging_effect : (merging u).replay.merged = u.tick + 1 ∧ (merging u).replay.qs = u.replay.qs ∧
    (merging u).replay.ended = u.replay.ended ∧ State.only [] u (merging u) := ⟨rfl, rfl, rfl, merging_only u⟩

theorem endTaken_effect : (endReplay (rpTaken i x (merging u))).replay.merged = u.tick + 1 ∧
    ((endReplay (rpTaken i x (merging u))).rpQueue i).words = [] ∧
    (endReplay (rpTaken i x (merging u))).replay.ended = true ∧
    State.only [] u (endReplay (rpTaken i x (merging u))) :=
  ⟨rfl, rpTaken_words i x (merging u), rfl, endTaken_only i x u⟩

end

/-- Settles O40: each part from the rule of its command. -/
theorem recordAndReplay : Obligations.RecordAndReplay := by
  refine ⟨recHeadWrite_serves, recElement_stores, recElement_loses, ?_, ?_, ?_, ?_, replayGo_serves, replayGo_refuses,
    ?_, ?_, ?_, ?_, ?_, ?_, ?_⟩
  · intro i x y s h
    obtain ⟨h1, h2, h3, hp, hk, hi, ht, hm⟩ := h
    refine startCheck_matches i x y s ⟨h1, h2, h3, hp, hk, ?_⟩
    simp only [startCode, hi, ht, hm, ne_eq, not_true_eq_false, if_false]
  · intro i x y s h
    obtain ⟨h1, h2, h3, hp, hk, hne⟩ := h
    have h0 : startCode s.begin' x ≠ 0 := by
      unfold startCode
      split_ifs <;> simp_all
    obtain ⟨t, ht, hr, ho, hrej, hrest⟩ := startCheck_refuses i s h1 h2 h3 (ne_nil_of_rpParse hp)
      (startCheck_of_start hp hk) h0 ((startCode_le ..).trans (by decide))
    refine ⟨t, ht, hr, ho, hrej.trans ?_, hrest⟩
    unfold startCode at h0 ⊢
    split_ifs <;> simp_all
  · intro i s h
    obtain ⟨h1, h2, h3, hw, ha⟩ := h
    exact startCheck_refuses i s h1 h2 h3 hw (startCheck_of_other ha) (by decide) le_rfl
  · intro i s h
    rw [exec_replayStartCheck, rpStart_idle h]
    exact ⟨_, rfl, rfl, only_of_regs rfl rfl _, rfl⟩
  · intro i x s u h4 hm hq he hp ht
    rw [exec_replayRecordMerge, rpMerge_first h4 hm, merge_late hq he hp ht]
    exact ⟨_, rfl, (lateTaken_resp ..).trans (met_resp s), lateTaken_effect i _ x s.met⟩
  · intro i x s u h4 hm hq he hp ht hl
    rw [exec_replayRecordMerge, rpMerge_first h4 hm, merge_later hq he hp ht hl]
    exact ⟨_, rfl, (merging_resp _).trans (met_resp s), merging_effect s.met⟩
  · intro i x s u h4 hm hq he hp ht hl hk
    rw [exec_replayRecordMerge, rpMerge_first h4 hm, merge_now hq he hp ht hl, rpApply_end hk]
    exact ⟨_, rfl, (endTaken_resp ..).trans (met_resp s), endTaken_effect i x s.met⟩
  · intro s u h4 hm
    rw [exec_replayRecordMerge, rpMerge_again h4 hm]
    exact ⟨_, rfl, met_resp s, rfl, only_of_regs rfl rfl _⟩
  · intro s h
    rw [exec_replayRecordMerge, rpMerge_idle h]
    exact ⟨_, rfl, rfl, only_of_regs rfl rfl _, rfl⟩
  · rintro s ⟨h, he⟩
    rw [exec_replayEnd, rpEnd_ended h he]
    refine ⟨_, rfl, resp_of_kept (s := s.begin') (by simp [replayEnded]), replayEnded_only _, replayEnded_state _,
      replayEnded_cause _, replayEnded_pends, replayEnded_dust _⟩
  · intro s h
    rw [exec_replayEnd, rpEnd_idle h]
    exact ⟨_, rfl, rfl, only_of_regs rfl rfl _, rfl⟩

end Sys2Proof.Machine

end

section

/-!
Statements about pages that fail: snapshots, reads by DBG, reads at the SET offsets, words of the bit window (O3, O4, O8, O9).
-/

namespace Sys2Proof.Machine
open State

theorem exec_registerReadRc (m : Fin 8) (n : Nat) (a : Word) (s : State) :
    exec (.registerReadRc m n a) s = .next (busRead m n a.toNat s.begin') := rfl

theorem exec_bitAliasWrite (m : Fin 8) (w : BitWord) (v : Word) (s : State) :
    exec (.bitAliasWrite m w v) s = .next (bitWordWrite m w v s.begin') := rfl

/-- A module that has a snapshot of the reserved page 0x1D marked. -/
def reservedMarked : State := { ready with snapDue := [0x1D] }

theorem reservedMarked_count : (snapAll reservedMarked).fld PAGE_STAT_SNAP_CNT 0x1D = 0 := by decide +kernel

/-- Refutes O3: its last part lets SNAP_CNT of every marked page count one, but `snapAll` takes the marked pages that are
allocated, so the count of the reserved page 0x1D stays 0. -/
theorem not_pageCommands : ¬ Obligations.PageCommands := by
  rintro ⟨-, -, -, -, -, -, -, -, -, -, -, -, -, -, -, -, -, -, -, -, -, -, -, -, -, -, hall⟩
  obtain ⟨-, hcount⟩ := hall reservedMarked
  have h := hcount 0x1D
  rw [show ((0x1D : Fin 128) : Nat) = 0x1D from rfl, reservedMarked_count] at h
  exact absurd h (by decide +kernel)

/-- A module whose owner is DBG, attached, while no test port is enabled. -/
def unplugged : State := (ready.setFld PR_OWNER_OWNER 0 7).setFlag DG_STAT_ATTACHED 0 true

theorem unplugged_meets : unplugged.begin'.served = true ∧ (blockOf 0x7C).isSome = true ∧
    (unplugged.begin'.failsafe = true → failsafePage 0x7C = true) ∧ 1 ≤ unplugged.begin'.pageRight 7 0x7C ∧
    unplugged.begin'.flag DG_STAT_ATTACHED 0 = true := by decide +kernel

/-- Without an enabled test port DBG makes no access, and nothing is answered (R440). -/
theorem unplugged_silent (a : Nat) : (busRead 7 4 a unplugged.begin').resp = [] := by
  have h : unplugged.begin'.canAccess 7 = false := by decide +kernel
  simp [busRead, h]

/-- Refutes O4: its second part asks that DBG is attached, not that DG_CFG.EN lets it make accesses; with EN at 0 the
read has no answer. -/
theorem not_readsClearPending : ¬ Obligations.ReadsClearPending := by
  rintro ⟨-, hdbg⟩
  obtain ⟨hs, hb, hf, hr, ha⟩ := unplugged_meets
  obtain ⟨t, ht, hresp, -⟩ := hdbg 0x7C unplugged hs hb hf hr ha
  obtain rfl : busRead 7 4 _ unplugged.begin' = t := by injection ht
  rw [unplugged_silent] at hresp
  exact absurd hresp (List.cons_ne_nil _ _).symm

/-- Offset 0x0C is a multiple of 3, and 0x40C, where its SET view stands, is none. -/
theorem ready_reads_three : (busRead 2 3 0x0C ready.begin').resp = [.ok 0#32] ∧
    (busRead 2 3 0x40C ready.begin').resp = [.error] := by decide +kernel

/-- Refutes O8: it speaks of every size up to 4. A read of 3 bytes counts as aligned at 0x0C, where the base view of
EVT_PEND answers 0, and as unaligned at 0x40C, its SET view, which answers an error. -/
theorem not_aliasReads : ¬ Obligations.AliasReads := by
  intro h
  obtain ⟨hbase, halias⟩ := ready_reads_three
  obtain ⟨t, ht, hresp, -⟩ := h 2 0 3 0x0C 0 0#32 ready _ (by decide) (exec_registerReadRc ..) hbase
  obtain rfl : busRead 2 3 0x40C ready.begin' = t := by injection ht
  rw [halias] at hresp
  exact absurd hresp (by decide)

/-- A module reset that a master wrote waits for the coming tick. -/
def resetWaiting : State := { ready with writes := [{ acc := Access.of 2, addr := 0x44, val := 0x100#32 }] }

theorem resetWaiting_meets : (resetWaiting.metBy 2).canAccess 2 = true ∧ (resetWaiting.metBy 2).frozen 2 = false ∧
    (resetWaiting.metBy 2).served = true ∧ (resetWaiting.metBy 2).failsafe = false ∧
    2 ≤ (resetWaiting.metBy 2).pageRight 2 0x08 ∧ (resetWaiting.metBy 2).inReplay = false ∧
    (resetWaiting.metBy 2).spend.settled.flag PAGE_STAT_DRST_BUSY 0x08 = false := by decide +kernel

theorem resetWaiting_demand :
    (bitWordWrite 2 (.lane 0) 1#32 resetWaiting.begin').settled.lnDemand 0 = false := by decide +kernel

/-- Refutes O9: its first part does not ask that the state the word meets serves accesses. Where the reset of the module
is written just before it, the word is answered and then lost: the demand bit of lane 0 stays 0. -/
theorem not_bitAliasWords : ¬ Obligations.BitAliasWords := by
  rintro ⟨hlane, -⟩
  obtain ⟨hc, hf, hs, hfs, hr, hrp, hb⟩ := resetWaiting_meets
  obtain ⟨w, t, hw, -, rfl, hd, -⟩ := hlane 2 0 1#32 resetWaiting hc (fun _ => hf) hs hfs hr hrp hb
  obtain rfl : bitWordWrite 2 (.lane 0) 1#32 resetWaiting.begin' = w := by injection hw
  rw [show ((0 : Fin 256) : Nat) = 0 from rfl, resetWaiting_demand] at hd
  exact absurd hd (by decide)

end Sys2Proof.Machine

end

section

/-!
The open keys of a master, and violations, which withdraw them (O10).
-/

namespace Sys2Proof.Machine
namespace State

/-! ### A flag cleared on a list of pages -/

section
variable (l : List Nat) (f : Field) (s : State)

theorem get_each_clear {r : Reg} {i : Nat} (h : ∀ p ∈ l, (r, i) ≠ (f.reg, p)) :
    (each l (fun p s => s.setFlag f p false) s).get r i = s.get r i := by
  induction l generalizing s with
  | nil => rfl
  | cons p l ih =>
    refine (ih (s.setFlag f p false) fun q hq => h q (List.mem_cons_of_mem _ hq)).trans ?_
    rw [setFlag, get_setFld_of_ne (h p List.mem_cons_self)]

theorem flag_each_clear (p : Nat) (h : f.hi < 32 := by decide) (h1 : f.lo ≤ f.hi := by decide) :
    (each l (fun p s => s.setFlag f p false) s).flag f p = (s.flag f p && !l.contains p) := by
  induction l generalizing s with
  | nil => simp [each]
  | cons q l ih =>
    refine (ih (s.setFlag f q false)).trans ?_
    by_cases hq : p = q
    · subst hq
      simp [flag_setFlag_same _ _ _ _ h h1]
    · have hf : (s.setFlag f q false).flag f p = s.flag f p := by
        rw [flag, flag, setFlag, fld_setFld_ne _ _ _ _ _ _ (by tauto)]
      simp [hf, hq]

end

/-! ### Open keys (R56) -/

theorem mem_pages : ∀ p : Fin 256, (blockOf p.val).isSome = true → p.val ∈ pages := by decide +kernel

theorem get_keysOff (m : Nat) (s : State) {r : Reg} {i : Nat} (h : (r, i) ∉ ofAll [.GUARD_STAT] 256) :
    (keysOff m s).get r i = s.get r i := by
  refine get_each_clear _ GUARD_STAT_OPEN s fun p hp => ?_
  intro hh
  have hlt : p < 128 := List.mem_range.1 (List.mem_filter.1 (List.mem_filter.1 hp).1).1
  exact h (by simp [hh, ofAll, GUARD_STAT_OPEN]; omega)

/-- A page stays open where its key is another master's. -/
theorem keysOff_open (m : Nat) (s : State) (p : Fin 256) (hp : (blockOf p.val).isSome = true) :
    (keysOff m s).flag GUARD_STAT_OPEN p =
      (s.flag GUARD_STAT_OPEN p && s.fld GUARD_STAT_OPEN_MASTER p != m) := by
  rw [keysOff, flag_each_clear _ GUARD_STAT_OPEN]
  have hm := mem_pages p hp
  cases ho : s.flag GUARD_STAT_OPEN p <;> simp [ho, hm, bne, Bool.beq_eq_decide_eq]

/-! ### Violations -/

theorem get_logViolation (m kind addr : Nat) (wr : Bool) (t : Nat) (s : State) {r : Reg} (i : Nat)
    (h : r ∉ [Reg.PR_VLOG_ADDR, .PR_VLOG_INFO, .PR_VLOG_TIME_LO, .PR_VLOG_TIME_HI]) :
    (logViolation m kind addr wr t s).get r i = s.get r i := by
  simp only [List.mem_cons, List.not_mem_nil, or_false, not_or] at h
  obtain ⟨h1, h2, h3, h4⟩ := h
  simp only [logViolation, put64, get_put_reg h4, get_put_reg h3, get_put_reg h2, get_put_reg h1]

/-- The record of a violation in a page's GUARD_STAT (R65, R70). -/
def markViol (m kind t p : Nat) (s : State) : State :=
  (({ s with violT := SMap.set 0 s.violT p (t + 1) } : State).setFlag GUARD_STAT_VIOL p true
    |>.setFld GUARD_STAT_VIOL_MASTER p m).setFld GUARD_STAT_VIOL_KIND p kind

/-- What a violation keeps of a field of GUARD_STAT beside its record. -/
theorem fld_markViol (m kind t p : Nat) (s : State) {f : Field} (i : Nat) (h : f.hi < 7) :
    (markViol m kind t p s).fld f i = s.fld f i := by
  rw [markViol, fld_setFld_ne, fld_setFld_ne, setFlag, fld_setFld_ne]
  · rfl
  all_goals
    refine .inr (.inr (.inl ?_))
    simp only [GUARD_STAT_VIOL, GUARD_STAT_VIOL_MASTER, GUARD_STAT_VIOL_KIND]
    omega

/-- A master that is no helper core is frozen, with the log and its page's record written and the violation counted;
its keys are withdrawn next. -/
def violFrozen (m kind addr : Nat) (wr : Bool) (page : Option Nat) (s : State) : State :=
  let u := when (!s.logKeeps m s.nowClk) (logViolation m kind addr wr s.nowClk) s.spend
  let u := match page with
    | some p => when (!u.pageKeeps m s.nowClk p) (markViol m kind s.nowClk p) u
    | none => u
  (u.incSat PR_VIOL_CNT_CNT 0).setRbit .PR_FROZEN 0 m true

theorem violFrozen_fld (m kind addr : Nat) (wr : Bool) (page : Option Nat) (s : State) {f : Field} (i : Nat)
    (hr : f.reg = .GUARD_STAT) (h : f.hi < 7) : (violFrozen m kind addr wr page s).fld f i = s.fld f i := by
  have hlog : (when (!s.logKeeps m s.nowClk) (logViolation m kind addr wr s.nowClk) s.spend).fld f i = s.fld f i := by
    unfold when
    split
    · exact fld_of_get (get_logViolation _ _ _ _ _ s.spend _ (by rw [hr]; decide))
    · rfl
  have hlast (u : State) : ((u.incSat PR_VIOL_CNT_CNT 0).setRbit .PR_FROZEN 0 m true).fld f i = u.fld f i :=
    fld_of_get (by rw [get_setRbit, if_neg (by simp [hr]), incSat, get_setFld_of_ne (by simp [hr, PR_VIOL_CNT_CNT])])
  have hmark (c : Bool) (p : Nat) (u : State) : (when c (markViol m kind s.nowClk p) u).fld f i = u.fld f i := by
    unfold when
    split
    · exact fld_markViol _ _ _ _ _ _ h
    · rfl
  cases page with
  | none => simp only [violFrozen, hlast, hlog]
  | some p => simp only [violFrozen, hlast, hmark, hlog]

theorem get_when_raise (c : Bool) (e : Nat) (s : State) (r : Reg) (i : Nat) (h1 : r ≠ .EVT_PEND) (h2 : r ≠ .EVT_RAW) :
    (when c (raise e) s).get r i = s.get r i := by
  unfold when
  split
  · exact get_raise _ _ _ _ h1 h2
  · rfl

/-- What follows the withdrawal of the keys leaves GUARD_STAT alone. -/
theorem get_violate_guard {m kind addr : Nat} (wr : Bool) (page : Option Nat) (s : State) (h2 : 2 ≤ m) (h7 : m < 7)
    (i : Nat) : (violate m kind addr wr page s).get .GUARD_STAT i =
      (keysOff m (violFrozen m kind addr wr page s)).get .GUARD_STAT i := by
  have hno7 : ¬ m = 7 := by omega
  have hno2 : ¬ m < 2 := by omega
  simp only [violate, hno7, hno2, if_false]
  rw [get_depart _ _ _ (by decide), get_when_raise _ _ _ _ _ (by decide) (by decide), get_raiseOf,
    get_raise _ _ _ _ (by decide) (by decide), get_raiseLog _ _ _ _ _ _ _ _ (by decide) (by decide)]
  split
  · exact (get_setFlag ..).trans (if_neg fun h => nomatch h.1)
  · rfl

/-- A violation of a master that is no helper core withdraws every key of the master (R56). -/
theorem violate_open {m kind addr : Nat} (wr : Bool) (page : Option Nat) (s : State) (h2 : 2 ≤ m) (h7 : m < 7)
    (p : Fin 256) (hp : (blockOf p.val).isSome = true) :
    (violate m kind addr wr page s).flag GUARD_STAT_OPEN p =
      (s.flag GUARD_STAT_OPEN p && s.fld GUARD_STAT_OPEN_MASTER p != m) := by
  rw [flag, fld_of_get (get_violate_guard wr page s h2 h7 p), ← flag, keysOff_open _ _ _ hp, flag, flag,
    violFrozen_fld _ _ _ _ _ _ _ rfl (by decide), violFrozen_fld _ _ _ _ _ _ _ rfl (by decide)]

/-- A write that the tables deny to a master that is no helper core is a violation of its page. -/
theorem busWrite_denied {m a k : Nat} (v : DWord) (u : State) (h2 : 2 ≤ m) (h7 : m < 7) (hf : u.frozen m = false)
    (hs : u.served = true) (hfs : u.failsafe = false) (ha : a % 4 = 0) (hlt : a < 0x100000)
    (hb : (blockOf (a / 4096)).isSome = true)
    (hk : u.pageWriteKind (Access.of m) (a / 4096) (a % 4096) = some k) (h5 : k ≠ 5) :
    busWrite m 4 a v u = (violate m k a true (some (a / 4096)) u).answer .error := by
  have hc : u.canAccess m = true := by
    rw [canAccess, if_neg (by omega)]
    simp
    omega
  have hown : hcOwn m a = false := by
    simp [hcOwn]
    omega
  have hsp : spaceWrite (Access.of m) 4 a (loW v.toNat) u = (u, .viol k a) := by
    have hb' : (blockOf (a / 4096)).isNone = false := by simpa using hb
    unfold spaceWrite
    rw [if_neg (by omega), if_pos hlt]
    simp [hb', hfs, hk]
  have hviol : violPage k a = some (a / 4096) := by rw [violPage, if_neg h5, pageAt, if_pos hlt]
  have hfault (x : State) : hcFault m a 7 x = x := if_neg (by omega)
  have hww : wordWrite (Access.of m) 4 a (loW v.toNat) u = (violate m k a true (some (a / 4096)) u, .error) := by
    unfold wordWrite
    rw [if_neg (by simp [Access.of, hf]), if_neg (by simp [hs]), attach_of_ne (by simp [Access.of]; omega)]
    simp only [hsp]
    simp only [Access.of, hfault, hviol]
  unfold busWrite
  rw [if_neg (by simp [hc]), if_neg (by omega)]
  unfold accWrite
  rw [if_neg (by simp [Access.of, hown]), hww]
  rfl

end State
open State

/-- Master 3 holds the open key of page 0x08, on which it has no right, and the page's violation record holds one of
master 5 at the clock of the next access. -/
def keyHeld : State := ({ ready with violT := [(8, ready.nowClk + 1)] } : State).put .GUARD_STAT 8 0x59C#32

theorem keyHeld_meets : keyHeld.begin'.canAccess 3 = true ∧ keyHeld.begin'.frozen 3 = false ∧
    keyHeld.begin'.served = true ∧ keyHeld.begin'.failsafe = false ∧ (blockOf 8).isSome = true ∧
    keyHeld.begin'.pageRight 3 8 < 2 ∧ keyHeld.begin'.pageWriteKind (Access.of 3) 8 0 = some 4 := by decide +kernel

theorem keyHeld_guard : keyHeld.begin'.flag GUARD_STAT_OPEN 8 = true ∧
    keyHeld.begin'.fld GUARD_STAT_OPEN_MASTER 8 = 3 ∧ keyHeld.begin'.flag GUARD_STAT_VIOL 8 = true ∧
    keyHeld.begin'.fld GUARD_STAT_VIOL_MASTER 8 = 5 := by decide +kernel

theorem keyHeld_keeps : keyHeld.begin'.pageKeeps 3 keyHeld.begin'.nowClk 8 = true := by
  obtain ⟨-, -, hv, hm⟩ := keyHeld_guard
  have ht : SMap.get 0 keyHeld.begin'.violT 8 = keyHeld.begin'.nowClk + 1 := rfl
  rw [pageKeeps, ht, hv, hm]
  simp

/-- Refutes O10: its first part keeps the whole GUARD_STAT of a page whose record stands, but the freeze withdraws every
key of the master (R56), and its OPEN bit falls where the master held the key of that page. -/
theorem not_violations : ¬ Obligations.Violations := by
  rintro ⟨hpage, -⟩
  obtain ⟨hc, hf, hs, hfs, hb, hr, hk⟩ := keyHeld_meets
  obtain ⟨hopen, hmaster, -, -⟩ := keyHeld_guard
  have hshut : (violate 3 4 0x8000 true (some 8) keyHeld.begin').flag GUARD_STAT_OPEN (8 : Fin 256) = false :=
    (violate_open true (some 8) _ (by decide) (by decide) 8 hb).trans (by simp [hmaster])
  obtain ⟨t, ht, -, -, -, -, -, hkept, -⟩ := hpage 3 8 0 0 keyHeld hc hf hs hfs hb (by decide) (by decide) hr
  have hsame : t.flag GUARD_STAT_OPEN (8 : Fin 256) = true :=
    (congrArg (· != 0) (fld_of_get (f := GUARD_STAT_OPEN) (hkept keyHeld_keeps))).trans hopen
  rw [exec_registerWrite] at ht
  have hden := busWrite_denied 0 _ (by decide) (by decide) hf hs hfs (a := 0x8000) rfl (by decide) hb hk (by decide)
  obtain rfl : (violate 3 4 0x8000 true (some 8) keyHeld.begin').answer .error = t := by
    rw [← hden]
    injection ht
  simp only [flag, fld, get_answer] at hsame hshut
  exact absurd (hshut.symm.trans hsame) (by decide)

end Sys2Proof.Machine

end

section

/-!
Writes that act as they complete (R56, R63, R68): keys, the release of masters, violation records and the protection
tables (O6).
-/

namespace Sys2Proof.Machine
open Kept
namespace State

theorem only_of_kept {l : List (Reg × Nat)} {s t : State} (h : regsOnly l s t) (hk : t.kept = s.kept) :
    State.only l s t := ⟨h, rdByte_of_kept hk⟩

/-- A field stands when a field of another register, or another field of its own, is written, at any index. -/
theorem fld_setFld_other {s : State} {f g : Field} {i j v : Nat}
    (h : f.reg ≠ g.reg ∨ f.hi < g.lo ∨ g.hi < f.lo) : (s.setFld g i v).fld f j = s.fld f j :=
  fld_setFld_ne _ _ _ _ _ _ (h.imp_right .inr)

/-! ### A write whose checks are passed, by what its page makes of it -/

/-- How the write of a master at an address is answered, by what has become of it in `u` (R48, R65). -/
def answered (m a : Nat) (u : State) : WRes → State × Resp
  | .ok => (u, .ok 0#32)
  | .err => (hcFault m a 7 u, .error)
  | .viol k b => (violate m k b true (violPage k b) (hcFault m a 7 u), .error)

section
variable {m : Nat} {r : Reg} {i : Nat} {v : Word} {s u : State}

/-- What `located` says of an address. -/
theorem located_spec (hl : located r i = true) :
    regAt (regAddr r i / 4096) (regAddr r i % 1024) = some (r, i) ∧ regAddr r i % 4096 < 1024 ∧
      regAddr r i < 0x100000 ∧ regAddr r i % 4 = 0 ∧ (blockOf (regAddr r i / 4096)).isSome = true := by
  simp only [located, Bool.and_eq_true, decide_eq_true_eq, and_assoc] at hl
  exact hl

theorem spaceWrite_eq_pageWrite (hl : located r i = true) (hm : s.mayAccess m r i = true) :
    spaceWrite (Access.of m) 4 (regAddr r i) v (s.metBy m) = pageWrite (Access.of m) (regAddr r i) v (s.metBy m) := by
  obtain ⟨-, hvw, hlt, hal, hb⟩ := located_spec hl
  simp only [mayAccess, wrPage, wrOff, Bool.and_eq_true, Bool.not_eq_true', Bool.or_eq_true] at hm
  obtain ⟨⟨⟨⟨-, hfs⟩, hpk⟩, hrp⟩, -⟩ := hm
  have hmod : regAddr r i % 4096 = regAddr r i % 1024 := by omega
  have hb' : (blockOf (regAddr r i / 4096)).isNone = false := by simpa using hb
  have hf' : ((s.metBy m).failsafe && !failsafePage (regAddr r i / 4096)) = false := by
    rcases hfs with h | h <;> simp [h]
  have hpk' : (s.metBy m).pageWriteKind (Access.of m) (regAddr r i / 4096) (regAddr r i % 1024) = none := by
    simpa using hpk
  have hrp' : ((Access.of m).checked && (s.metBy m).inReplay && recordedPage (regAddr r i / 4096) &&
      !isSnap (regAddr r i)) = false := by simpa [Access.of] using hrp
  unfold spaceWrite
  simp [hal, hlt, hb', hmod, hpk', hf', hrp']

theorem wr_of_wordWrite {a : Resp} (hl : located r i = true) (hm : s.mayAccess m r i = true)
    (h : wordWrite (Access.of m) 4 (regAddr r i) v s.begin' = (u, a)) : wr m r i v s.begin' = u.answer a := by
  obtain ⟨-, -, hlt, -, -⟩ := located_spec hl
  simp only [mayAccess, Bool.and_eq_true] at hm
  obtain ⟨⟨⟨⟨⟨⟨hca, -⟩, -⟩, -⟩, -⟩, -⟩, -⟩ := hm
  rw [metBy_canAccess] at hca
  have hown : hcOwn (Access.of m).id (regAddr r i) = false := by
    simp [hcOwn]
    omega
  unfold wr busWrite
  rw [if_neg (by simp [hca]), if_neg (by omega), loW_setWidth]
  unfold accWrite
  rw [if_neg (by simp [hown]), h]
  rfl

theorem wordWrite_of_pageWrite (hl : located r i = true) (hm : s.mayAccess m r i = true) {x : WRes}
    (h : pageWrite (Access.of m) (regAddr r i) v (s.metBy m) = (u, x)) :
    wordWrite (Access.of m) 4 (regAddr r i) v s.begin' = answered m (regAddr r i) u x := by
  have hsp : spaceWrite (Access.of m) 4 (regAddr r i) v (attach (Access.of m).id s.begin') = (u, x) :=
    (spaceWrite_eq_pageWrite hl hm).trans h
  simp only [mayAccess, Bool.and_eq_true, Bool.not_eq_true'] at hm
  obtain ⟨⟨⟨⟨⟨⟨-, hfr⟩, hsv⟩, -⟩, -⟩, -⟩, -⟩ := hm
  rw [metBy_frozen] at hfr
  rw [metBy_served] at hsv
  have h0 : ((Access.of m).checked && decide ((Access.of m).id < 7) && s.begin'.frozen (Access.of m).id) = false :=
    hfr
  unfold wordWrite
  rw [if_neg (by simp [h0]), if_neg (by simp [hsv])]
  simp only [hsp]
  cases x <;> rfl

theorem wr_of_pageWrite_ok (hl : located r i = true) (hm : s.mayAccess m r i = true)
    (h : pageWrite (Access.of m) (regAddr r i) v (s.metBy m) = (u, .ok)) :
    wr m r i v s.begin' = u.answer (.ok 0#32) :=
  wr_of_wordWrite hl hm (wordWrite_of_pageWrite hl hm h)

theorem wr_of_pageWrite_err (h2 : 2 ≤ m) (hl : located r i = true) (hm : s.mayAccess m r i = true)
    (h : pageWrite (Access.of m) (regAddr r i) v (s.metBy m) = (u, .err)) :
    wr m r i v s.begin' = u.answer .error := by
  have hf : hcFault m (regAddr r i) 7 u = u := if_neg (by omega)
  exact wr_of_wordWrite hl hm ((wordWrite_of_pageWrite hl hm h).trans (by rw [answered, hf]))

end
end State
open State

theorem metBy_resp (m : Nat) (s : State) : (s.metBy m).resp = [] := (attach_resp ..).trans (begin'_resp s)

/-- A write that acts as it completes serves where its register's own rules accept it and have the effect claimed. -/
theorem servesNow_of_wrRes {x : Instr} {m : Nat} {r : Reg} {i : Nat} {v : Word} {ok : State → Prop}
    {l : List (Reg × Nat)} {eff : State → State → Prop}
    (he : ∀ s, exec x s = .next (wr m r i v s.begin')) (hl : located r i = true)
    (hi : ∀ (u : State) (c : Access), u.instOf c r i = i) (hn : actsAtOnce r = true) (hk : r ≠ .GUARD_KEY)
    (hkw : r.info.acc ≠ .kw)
    (h : ∀ c u, c.id = m → ok u → ∃ t, wrRes c r i v u = (t, .ok) ∧ regsOnly l u t ∧ t.kept = u.kept ∧
      eff u (t.answer (.ok 0#32))) : ServesNow x m r i ok l eff := by
  intro s hm ht ho
  obtain ⟨t, hw, honly, hkept, heff⟩ := h (Access.of m) _ rfl ho
  obtain ⟨hat, -, hlt, -, -⟩ := located_spec hl
  have hreg : regWrite (Access.of m) (regAddr r i) v (s.metBy m) = (t, .ok) := by
    have := spaceApply_reg (Access.of m) r i v (s.metBy m) hl (hi _ _) hk ht
    rwa [spaceApply, bitAlias_reg hlt, hw] at this
  have hpage : pageWrite (Access.of m) (regAddr r i) v (s.metBy m) = (t, .ok) := by
    simp [pageWrite, hat, hk, hkw, hn, hreg]
  refine ⟨_, he s, ?_, ?_, ?_⟩
  · rw [wr_of_pageWrite_ok hl hm hpage, answer, resp_of_kept hkept, metBy_resp]
    rfl
  · rw [wr_of_pageWrite_ok hl hm hpage]
    exact ⟨honly, fun a => (rdByte_answer ..).trans (rdByte_of_kept hkept a)⟩
  · rwa [wr_of_pageWrite_ok hl hm hpage]

/-! ### Keys (R55) -/

section
variable {m p : Nat} {v : Word} {s x : State}

theorem located_guardKey : ∀ p : Fin 256, (blockOf p.val).isSome = true → located .GUARD_KEY p = true := by
  decide +kernel

theorem regAddr_guardKey (p : Nat) : regAddr .GUARD_KEY p = 4096 * p + 0x1C := by
  have h : regAddr .GUARD_KEY p = 4096 * (0 + p / 1) + 0x1C + 0 * (p % 1) := rfl
  omega

/-- A write of GUARD_KEY that has done its work waits for nothing but its record. -/
theorem spaceApply_guardKey (hl : located .GUARD_KEY p = true) (c : Access) (u : State) :
    spaceApply c (regAddr .GUARD_KEY p) v u = (u, .ok) := by
  obtain ⟨hat, -, hlt, -, -⟩ := located_spec hl
  rw [spaceApply, bitAlias_reg hlt]
  have hoff : decide (0x40 ≤ regAddr .GUARD_KEY p % 1024) = false := by
    rw [regAddr_guardKey, decide_eq_false_iff_not]
    omega
  have hvw : regAddr .GUARD_KEY p % 4096 / 1024 = 0 := by
    rw [regAddr_guardKey]
    omega
  simp [regWrite, hat, hoff, hvw]

theorem pageWrite_guardKey (hl : located .GUARD_KEY p = true)
    (h : guardKey m p v (regAddr .GUARD_KEY p) s = (x, .ok)) :
    ∃ w, pageWrite (Access.of m) (regAddr .GUARD_KEY p) v s = ({ x.spend with writes := w }, .ok) := by
  have hpage : regAddr .GUARD_KEY p / 4096 = p := by
    rw [regAddr_guardKey]
    omega
  have hbase : decide (regAddr .GUARD_KEY p % 4096 < 1024) = true := by
    rw [regAddr_guardKey, decide_eq_true_eq]
    omega
  have hat := (located_spec hl).1
  rw [hpage] at hat
  have hg : guardKey (Access.of m).id p v (regAddr .GUARD_KEY p) s = (x, .ok) := h
  refine ⟨x.spend.writes ++
    [{ acc := { Access.of m with t := x.nowClk, checked := false }, addr := regAddr .GUARD_KEY p, val := v }], ?_⟩
  simp only [pageWrite, hpage, hat, hbase, if_true, hg, hold, spaceApply_guardKey hl]

theorem exec_guardKeyWrite (m : Fin 8) (p : Fin 256) (v : Word) (s : State) :
    exec (.guardKeyWrite m p v) s = .next (wr m .GUARD_KEY p v s.begin') := rfl

/-- An accepted write of GUARD_KEY is answered and leaves what `guardKey` makes of it. -/
theorem exec_guardKeyWrite_accepted {m : Fin 8} {p : Fin 256} {v : Word} {s x : State}
    (hm : s.mayAccess m .GUARD_KEY p = true) (hb : (blockOf p.val).isSome = true)
    (h : guardKey m p v (regAddr .GUARD_KEY p) (s.metBy m) = (x, .ok)) :
    ∃ t, exec (.guardKeyWrite m p v) s = .next t ∧ t.resp = [.ok 0#32] ∧ t.regs = x.regs ∧ t.mem = (s.metBy m).mem := by
  have hl := located_guardKey p hb
  obtain ⟨w, hw⟩ := pageWrite_guardKey hl h
  have hk : x.kept = (s.metBy m).kept := by
    have := guardKey_kept (s := s.metBy m) (id := m.val) (p := p.val) (v := v) (a := regAddr .GUARD_KEY p)
    rwa [h] at this
  refine ⟨_, exec_guardKeyWrite m p v s, ?_⟩
  rw [wr_of_pageWrite_ok hl hm hw]
  refine ⟨?_, rfl, congrArg Kept.mem hk⟩
  have hr : x.resp = [] := (resp_of_kept hk).trans (metBy_resp m s)
  simp [answer, spend, hr]

end

/-- The right key opens a page that no other master has open. -/
theorem guardKey_opens {m p : Nat} {v : Word} (a : Nat) {u : State} (hv : v.toNat = 0x5EA10000 + p)
    (hmode : u.flag GUARD_STAT_MODE p = false)
    (ho : u.flag GUARD_STAT_OPEN p = false ∨ u.fld GUARD_STAT_OPEN_MASTER p = m) :
    guardKey m p v a u = ((u.setFlag GUARD_STAT_OPEN p true).setFld GUARD_STAT_OPEN_MASTER p m, .ok) := by
  have hno : (u.flag GUARD_STAT_OPEN p && u.fld GUARD_STAT_OPEN_MASTER p != m) = false := by
    rcases ho with h | h <;> simp [h]
  simp [guardKey, hmode, hv, hno]

/-- The right key locks a page that is not locked, with E027. -/
theorem guardKey_locks {m p : Nat} {v : Word} (a : Nat) {u : State} (hv : v.toNat = 0x10C40000 + p)
    (hmode : u.flag GUARD_STAT_MODE p = true) (hl : u.flag GUARD_STAT_LOCKED p = false) :
    guardKey m p v a u = (raise 27 (u.setFlag GUARD_STAT_LOCKED p true), .ok) := by
  simp [guardKey, hmode, hv, hl]

/-! ### The release of masters (R68) -/

/-- One master is released. -/
def release (m : Nat) (s : State) : State :=
  let s := s.setRbit .PR_FROZEN 0 m false
  if 2 ≤ m ∧ m < 6 then s.setFlag HL_SSTAT_FROZEN (m - 2) false else s

theorem get_release {m : Nat} {s : State} {r : Reg} {i : Nat}
    (h : (r, i) ∉ [(Reg.PR_FROZEN, 0)] ++ ofAll [.HL_SSTAT] 4) : (release m s).get r i = s.get r i := by
  simp only [List.mem_append, List.mem_singleton, not_or] at h
  obtain ⟨h1, h2⟩ := h
  have h1' : ¬ (r = .PR_FROZEN ∧ i = 0) := fun hh => h1 (Prod.ext hh.1 hh.2)
  simp only [release]
  split
  next hm =>
    rw [setFlag, get_setFld_of_ne, get_setRbit, if_neg h1']
    rintro ⟨⟩
    exact h2 (by simp [ofAll, HL_SSTAT_FROZEN]; omega)
  next => rw [get_setRbit, if_neg h1']

theorem release_frozen (m : Nat) (s : State) {j : Nat} (hj : j < 7) :
    (release m s).frozen j = (s.frozen j && j != m) := by
  have hset : (s.setRbit .PR_FROZEN 0 m false).frozen j = (s.frozen j && j != m) := by
    by_cases h : j = m
    · subst h
      simp [frozen, rbit_setRbit_same _ _ _ _ _ (by omega : j < 32)]
    · simp [frozen, rbit, get_setRbit, bitAt_putBit_ne _ _ h, h]
  rw [← hset, release]
  split
  · simp only [frozen, rbit]
    rw [setFlag, get_setFld_of_ne (by simp [HL_SSTAT_FROZEN])]
  · rfl

section
variable (l : List Nat) (s : State)

theorem get_each_release {r : Reg} {i : Nat} (h : (r, i) ∉ [(Reg.PR_FROZEN, 0)] ++ ofAll [.HL_SSTAT] 4) :
    (each l release s).get r i = s.get r i := by
  induction l generalizing s with
  | nil => rfl
  | cons m l ih => exact (ih (release m s)).trans (get_release h)

theorem each_release_frozen {j : Nat} (hj : j < 7) :
    (each l release s).frozen j = (s.frozen j && !l.contains j) := by
  induction l generalizing s with
  | nil => simp [each]
  | cons m l ih =>
    refine (ih (release m s)).trans ?_
    rw [release_frozen m s hj, List.contains_cons, Bool.not_or, Bool.and_assoc]
    rfl

end

theorem unfreeze_eq (v : Word) (s : State) :
    unfreeze v s = each (pick 7 fun m => bitAt v m && s.frozen m && m != s.owner) release s := rfl

theorem unfreeze_frozen (v : Word) (s : State) {j : Nat} (hj : j < 7) :
    (unfreeze v s).frozen j = (s.frozen j && !(bitAt v j && j != s.owner)) := by
  rw [unfreeze_eq, each_release_frozen _ _ hj]
  cases hf : s.frozen j <;> simp [pick, hj, hf, bne, Bool.beq_eq_decide_eq]

/-! ### The tables (R63) -/

section
variable {r : Reg} (i : Nat) (v : Word) (s : State)

theorem get_tableEdit (h1 : r ≠ .EVT_PEND) (h2 : r ≠ .EVT_RAW) : (tableEdit r i v s).get r i = v := by
  unfold tableEdit
  split
  next h => exact h
  next => rw [get_raise _ _ _ _ h1 h2, get_put_same]

theorem tableEdit_regsOnly : regsOnly ([(r, i)] ++ evtRegs 26) s (tableEdit r i v s) := by
  intro r' j h
  simp only [List.mem_append, List.mem_singleton, not_or] at h
  obtain ⟨hr, he⟩ := h
  unfold tableEdit
  split
  · rfl
  · rw [get_raise_of_notMem he, get_put, if_neg fun hh => hr (Prod.ext hh.1 hh.2)]

theorem tableEdit_pends (h : s.get r i ≠ v) : (tableEdit r i v s).pends 26 = true := by
  rw [tableEdit, if_neg h]
  exact raise_pends _ _ (by decide)

end

/-- A write to an entry of the memory table stores the merged value. -/
theorem wrRes_memTable {r : Reg} (hr : r = .PR_MEM_BASE ∨ r = .PR_MEM_LIM ∨ r = .PR_MEM_ACC) (c : Access) (i : Nat)
    (v : Word) (u : State) : wrRes c r i v u = (tableEdit r i (u.merged c.id r i v) u, .ok) := by
  rcases hr with rfl | rfl | rfl <;> rfl

theorem memTable_serves {m : Fin 8} {r : Reg} {x : Instr} {i : Nat} {v : Word}
    (hr : r = .PR_MEM_BASE ∨ r = .PR_MEM_LIM ∨ r = .PR_MEM_ACC) (hl : located r i = true)
    (he : ∀ s, exec x s = .next (wr m r i v s.begin')) :
    ServesNow x m r i (fun _ => True) ([(r, i)] ++ evtRegs 26) fun u t =>
      t.get r i = u.merged m r i v ∧ (u.get r i ≠ u.merged m r i v → t.pends 26 = true) := by
  have hi : ∀ (u : State) (c : Access), u.instOf c r i = i := by
    rcases hr with rfl | rfl | rfl <;> exact fun _ _ => rfl
  have hev : r ≠ .EVT_PEND ∧ r ≠ .EVT_RAW := by rcases hr with rfl | rfl | rfl <;> decide
  refine servesNow_of_wrRes he hl hi ?_ ?_ ?_ fun c u hc _ =>
    ⟨_, hc ▸ wrRes_memTable hr c i v u, tableEdit_regsOnly i _ u, by simp, get_tableEdit i _ u hev.1 hev.2,
      fun h => tableEdit_pends i _ u h⟩
  all_goals rcases hr with rfl | rfl | rfl <;> decide

theorem located_pageAcc : ∀ (x : Fin 8) (k : Fin 16), located .PR_PAGE_ACC (16 * x.val + k.val) = true := by
  decide +kernel

/-- An entry of the page table that is not the owner's stores the rights of the pages that exist (R64). -/
theorem wrRes_pageAcc (c : Access) (x : Fin 8) (k : Fin 16) (v : Word) (u : State) (ho : x.val ≠ u.owner) :
    wrRes c .PR_PAGE_ACC (16 * x.val + k.val) v u =
      (tableEdit .PR_PAGE_ACC (16 * x.val + k.val) (v &&& accMask k) u, .ok) := by
  have hx : (16 * x.val + k.val) / 16 = x.val := by omega
  have hk : (16 * x.val + k.val) % 16 = k.val := by omega
  have hv (w : Word) : (w &&& ~~~ 0xFFFFFFFF#32) ||| (v &&& 0xFFFFFFFF#32) = v := by
    rw [show v &&& 0xFFFFFFFF#32 = v from BitVec.and_allOnes]
    simp
  change regStore c .PR_PAGE_ACC (16 * x.val + k.val)
    ((u.view c.id .PR_PAGE_ACC (16 * x.val + k.val) &&& ~~~ 0xFFFFFFFF#32) ||| (v &&& 0xFFFFFFFF#32)) u = _
  rw [hv]
  change (pageAccStore (16 * x.val + k.val) v u, WRes.ok) = _
  rw [pageAccStore, hx, hk, if_neg ho]

theorem pageAcc_serves (m x : Fin 8) (k : Fin 16) (v : Word) :
    ServesNow (.tableEdit m (.pageAcc x k) v) m .PR_PAGE_ACC (16 * x.val + k.val) (fun u => x.val ≠ u.owner)
      ([(.PR_PAGE_ACC, 16 * x.val + k.val)] ++ evtRegs 26) fun u t =>
        t.get .PR_PAGE_ACC (16 * x.val + k.val) = v &&& accMask k ∧
          (u.get .PR_PAGE_ACC (16 * x.val + k.val) ≠ v &&& accMask k → t.pends 26 = true) :=
  servesNow_of_wrRes (fun _ => rfl) (located_pageAcc x k) (fun _ _ => rfl) (by decide) (by decide) (by decide)
    fun c u _ ho => ⟨_, wrRes_pageAcc c x k v u ho, tableEdit_regsOnly _ _ u, by simp,
      get_tableEdit _ _ u (by decide) (by decide), fun h => tableEdit_pends _ _ u h⟩

/-! ### The record of a page (R56) -/

theorem get_guardClear {p i : Nat} {r : Reg} (s : State) (h : (r, i) ≠ (.GUARD_STAT, p)) :
    (guardClear p s).get r i = s.get r i := by
  have hne (f : Field) (hf : f.reg = .GUARD_STAT) : (r, i) ≠ (f.reg, p) := by rwa [hf]
  unfold guardClear
  split
  · simp only [setFlag]
    rw [get_setFld_of_ne (hne _ rfl), get_setFld_of_ne (hne _ rfl), get_setFld_of_ne (hne _ rfl),
      get_setFld_of_ne (hne _ rfl)]
  · rfl

theorem guardClear_shows {p : Nat} (s : State) (hb : (blockOf p).isSome = true) :
    (guardClear p s).flag GUARD_STAT_VIOL p = false ∧ (guardClear p s).fld GUARD_STAT_VIOL_MASTER p = 0 ∧
      (guardClear p s).fld GUARD_STAT_VIOL_KIND p = 0 ∧ (guardClear p s).flag GUARD_STAT_OPEN p = false := by
  rw [guardClear, if_pos hb]
  refine ⟨?_, ?_, ?_, flag_setFlag_same ..⟩
  · rw [flag, setFlag, fld_setFld_other (by decide), fld_setFld_other (by decide),
      fld_setFld_other (by decide), ← flag]
    exact flag_setFlag_same ..
  · rw [setFlag, fld_setFld_other (by decide), fld_setFld_other (by decide)]
    exact fld_setFld_same _ _ _ _ (by decide)
  · rw [setFlag, fld_setFld_other (by decide)]
    exact fld_setFld_same _ _ _ _ (by decide)

theorem wrRes_gclr (c : Access) (v : Word) (u : State) :
    wrRes c .PR_GCLR 0 v u = (guardClear (bitsOf v 7 0) u, .ok) := by
  have hv : bitsOf (v &&& 0xFF#32) 7 0 = bitsOf v 7 0 := by
    have := Nat.and_two_pow_sub_one_eq_mod v.toNat 8
    simp_all [bitsOf]
  rw [← hv]
  rfl

theorem wrRes_unfreeze (c : Access) (v : Word) (u : State) : wrRes c .PR_UNFREEZE 0 v u = (unfreeze v u, .ok) := by
  have hv : v &&& 0xFFFFFFFF#32 = v := BitVec.and_allOnes
  calc wrRes c .PR_UNFREEZE 0 v u = (unfreeze (v &&& 0xFFFFFFFF#32) u, .ok) := rfl
    _ = _ := by rw [hv]

/-- Settles O6: keys by `guardKey`, the others by what their register's own rules make of the write. -/
theorem guardCommands : Obligations.GuardCommands := by
  refine ⟨?_, ?_, ?_, ?_, ?_, ?_, ?_, fun m x k v => pageAcc_serves m x k v⟩
  · intro m p s hm hb hmode ho
    have hv : (BitVec.ofNat 32 (0x5EA10000 + p)).toNat = 0x5EA10000 + p := by
      simp only [BitVec.toNat_ofNat]
      omega
    obtain ⟨t, ht, hresp, hregs, hmem⟩ := exec_guardKeyWrite_accepted hm hb (guardKey_opens _ hv hmode ho)
    refine ⟨t, ht, hresp, ?_, ?_, fun r i hr => ?_, fun a => congrArg (SMap.get unlistedByte · a) hmem⟩
    · rw [flag, fld_of_get (get_of_regs hregs ..), fld_setFld_other (by decide), ← flag]
      exact flag_setFlag_same ..
    · rw [fld_of_get (get_of_regs hregs ..), fld_setFld_same _ _ _ _ (by decide)]
      exact Nat.mod_eq_of_lt m.isLt
    · rw [List.mem_singleton] at hr
      rw [get_of_regs hregs, get_setFld_of_ne hr, setFlag, get_setFld_of_ne hr]
  · intro m p s hm hb hmode hl
    have hv : (BitVec.ofNat 32 (0x10C40000 + p)).toNat = 0x10C40000 + p := by
      simp only [BitVec.toNat_ofNat]
      omega
    obtain ⟨t, ht, hresp, hregs, hmem⟩ := exec_guardKeyWrite_accepted hm hb (guardKey_locks _ hv hmode hl)
    refine ⟨t, ht, hresp, ?_, ?_, fun r i hr => ?_, fun a => congrArg (SMap.get unlistedByte · a) hmem⟩
    · rw [flag, fld_of_get ((get_of_regs hregs ..).trans (get_raise _ _ _ _ (by decide) (by decide))), ← flag]
      exact flag_setFlag_same ..
    · rw [pends, rbit, get_of_regs hregs]
      exact raise_pends _ 27 (by decide)
    · simp only [List.mem_append, List.mem_singleton, not_or] at hr
      rw [get_of_regs hregs, get_raise_of_notMem hr.2, setFlag, get_setFld_of_ne hr.1]
  · intro m v
    exact servesNow_of_wrRes (fun _ => rfl) (by decide) (fun _ _ => rfl) (by decide) (by decide) (by decide)
      fun c u _ _ => ⟨_, wrRes_unfreeze c v u, fun r i h => get_each_release _ u h, by simp,
        fun j => unfreeze_frozen v u j.isLt⟩
  · intro m v
    exact servesNow_of_wrRes (fun _ => rfl) (by decide) (fun _ _ => rfl) (by decide) (by decide) (by decide)
      fun c u _ hb => ⟨_, wrRes_gclr c v u, fun r i h => get_guardClear u (by simpa using h), by simp,
        guardClear_shows u hb⟩
  · exact fun m n v => memTable_serves (.inl rfl) ((by decide : ∀ n : Fin 8, located .PR_MEM_BASE n = true) n)
      fun _ => rfl
  · exact fun m n v => memTable_serves (.inr (.inl rfl)) ((by decide : ∀ n : Fin 8, located .PR_MEM_LIM n = true) n)
      fun _ => rfl
  · exact fun m n v => memTable_serves (.inr (.inr rfl)) ((by decide : ∀ n : Fin 8, located .PR_MEM_ACC n = true) n)
      fun _ => rfl

end Sys2Proof.Machine

end

section

/-!
Helper cores (O31): start, reload, halt, trap, watchdog, timer and external debug.
-/

namespace Sys2Proof.Machine
open Kept
namespace State

/-! ### Parts of the state along a list, and the cores' own fields -/

/-- A part of the state that no step changes stands. -/
theorem each_same {α β : Type} (g : State → β) {f : α → State → State} (h : ∀ a s, g (f a s) = g s) (l : List α)
    (s : State) : g (each l f s) = g s := by
  induction l generalizing s with
  | nil => rfl
  | cons a l ih => exact (ih (f a s)).trans (h a s)

section
variable (i m : Nat) (s : State)

theorem hc_modHc (f : Hc → Hc) (j : Nat) : (modHc i f s).hc j = if j = i then f (s.hc i) else s.hc j := by
  simp [hc, modHc, SMap.get_set]

theorem hc_modHc_same (f : Hc → Hc) : (modHc i f s).hc i = f (s.hc i) := by simp [hc_modHc]

@[simp] theorem get_modHc (f : Hc → Hc) (r : Reg) (j : Nat) : (modHc i f s).get r j = s.get r j := rfl

@[simp] theorem keysOff_hcs : (keysOff m s).hcs = s.hcs := by
  unfold keysOff
  exact each_same State.hcs (by intros; rfl) _ _

@[simp] theorem raiseLog_hcs (e inst cau stamp : Nat) (d : List Word) :
    (raiseLog e inst cau stamp d s).hcs = s.hcs := by
  unfold raiseLog log38
  split <;> rfl

end

theorem hc_of_hcs {s t : State} (h : t.hcs = s.hcs) (i : Nat) : t.hc i = s.hc i := by rw [hc, hc, h]

theorem ne_of_notMem_ofInst {r r' : Reg} {i j : Nat} (h : (r, j) ∉ ofInst [r'] i) : (r, j) ≠ (r', i) := by
  simpa [ofInst] using h

/-! ### A core starts (R415) -/

section
variable (i : Nat) (s : State)

theorem get_hcStart {r : Reg} {j : Nat} (h : (r, j) ∉ ofInst [.HC_STAT] i) : (hcStart i s).get r j = s.get r j := by
  have h := ne_of_notMem_ofInst h
  rw [hcStart, get_modHc, setFlag, get_setFld_of_ne h, get_setFld_of_ne h]

theorem hcStart_state : (hcStart i s).hcState i = 1 := by
  have h : ((s.setFld HC_STAT_STATE i 1).setFlag HC_STAT_LOADING i false).fld HC_STAT_STATE i = 1 := by
    rw [setFlag, fld_setFld_other (by decide), fld_setFld_same _ _ _ _ (by decide)]
    rfl
  exact h

theorem hcStart_loading : (hcStart i s).flag HC_STAT_LOADING i = false :=
  flag_setFlag_same (s.setFld HC_STAT_STATE i 1) HC_STAT_LOADING i false

theorem hcStart_hc : (hcStart i s).hc i =
    { image := (s.hc i).image, mtimecmp := (s.hc i).mtimecmp, timer := (s.hc i).timer, wdtT := s.T } :=
  hc_modHc_same ..

/-- A core that RUN starts at once, one that it reloads first, and one that it leaves alone. -/
theorem hcRun_starts (h1 : s.hcState i ≠ 1) (h6 : s.hcState i ≠ 6) (hi : (s.hc i).image = true)
    (hl : s.flag HC_STAT_LOADING i = false) (reload : Bool) :
    hcRun i reload s = if reload then s.setFlag HC_STAT_LOADING i true else hcStart i s :=
  if_neg (by simp [h1, h6, hi, hl])

theorem hcRun_idle (h : s.hcState i = 1 ∨ s.hcState i = 6 ∨ (s.hc i).image = false) (reload : Bool) :
    hcRun i reload s = s := if_pos (by tauto)

end

/-! ### A core halts (R56, R415) -/

/-- The registers that show a halt. -/
def haltRegs (i : Nat) : List (Reg × Nat) := ofInst [.HC_STAT, .HC_PC, .HC_CAUSE, .HC_TVAL] i

/-- A core stops with its registers taken, its keys not yet withdrawn. -/
def hcStop (i st : Nat) (pc : Word) (s : State) : State :=
  (((((s.modHc i fun c => { c with pc := pc }).setFld HC_STAT_STATE i st).put .HC_PC i pc).put .HC_CAUSE i
    (s.hc i).mcause).put .HC_TVAL i (s.hc i).mtval)

theorem hcHalt_eq (i st : Nat) (pc : Word) (s : State) : hcHalt i st pc s = when (st != 6) (keysOff i) (hcStop i st pc s) :=
  rfl

section
variable (i st : Nat) (pc : Word) (s : State)

theorem get_hcStop {r : Reg} {j : Nat} (h : (r, j) ∉ haltRegs i) : (hcStop i st pc s).get r j = s.get r j := by
  simp only [haltRegs, ofInst, List.map_cons, List.map_nil, List.mem_cons, List.not_mem_nil, or_false, not_or] at h
  obtain ⟨h1, h2, h3, h4⟩ := h
  rw [hcStop, get_put, if_neg fun hh => h4 (Prod.ext hh.1 hh.2), get_put, if_neg fun hh => h3 (Prod.ext hh.1 hh.2),
    get_put, if_neg fun hh => h2 (Prod.ext hh.1 hh.2), get_setFld_of_ne h1, get_modHc]

/-- What a halt shows. -/
theorem hcStop_shows (hst : st < 8) : (hcStop i st pc s).hcState i = st ∧ (hcStop i st pc s).get .HC_PC i = pc ∧
    (hcStop i st pc s).get .HC_CAUSE i = (s.hc i).mcause ∧ (hcStop i st pc s).get .HC_TVAL i = (s.hc i).mtval := by
  refine ⟨?_, ?_, ?_, get_put_same ..⟩
  · have h := fld_setFld_same (s.modHc i fun c => { c with pc := pc }) HC_STAT_STATE i st (by decide)
    rw [hcState, hcStop, fld, get_put_reg (by decide), get_put_reg (by decide), get_put_reg (by decide), ← fld, h]
    exact Nat.mod_eq_of_lt hst
  · rw [hcStop, get_put_reg (by decide), get_put_reg (by decide), get_put_same]
  · rw [hcStop, get_put_reg (by decide), get_put_same]

theorem hcStop_hc : (hcStop i st pc s).hc i = { s.hc i with pc := pc } :=
  hc_modHc_same i s fun c => { c with pc := pc }

theorem hcHalt_debug : hcHalt i 6 pc s = hcStop i 6 pc s := rfl

theorem hcHalt_hc : (hcHalt i st pc s).hc i = { s.hc i with pc := pc } := by
  rw [hcHalt_eq, ← hcStop_hc i st pc s, when]
  split
  · exact hc_of_hcs (keysOff_hcs ..) i
  · rfl

variable {st} (h6 : st ≠ 6)
include h6

theorem hcHalt_keys : hcHalt i st pc s = keysOff i (hcStop i st pc s) := by
  rw [hcHalt_eq, when, if_pos (by simpa using h6)]

theorem get_hcHalt {r : Reg} {j : Nat} (h : (r, j) ∉ haltRegs i ++ ofAll [.GUARD_STAT] 256) :
    (hcHalt i st pc s).get r j = s.get r j := by
  rw [List.mem_append, not_or] at h
  rw [hcHalt_keys i pc s h6, get_keysOff _ _ h.2, get_hcStop _ _ _ _ h.1]

theorem get_hcHalt_shown {r : Reg} (hr : r ≠ .GUARD_STAT) (j : Nat) :
    (hcHalt i st pc s).get r j = (hcStop i st pc s).get r j := by
  rw [hcHalt_keys i pc s h6, get_keysOff _ _ (by simp [ofAll, hr.symm])]

/-- The keys of a core that halts are withdrawn. -/
theorem hcHalt_open (p : Fin 256) (hp : (blockOf p.val).isSome = true) :
    (hcHalt i st pc s).flag GUARD_STAT_OPEN p =
      (s.flag GUARD_STAT_OPEN p && s.fld GUARD_STAT_OPEN_MASTER p != i) := by
  have hg : (hcStop i st pc s).get .GUARD_STAT p = s.get .GUARD_STAT p :=
    get_hcStop _ _ _ _ (by simp [haltRegs, ofInst])
  rw [hcHalt_keys i pc s h6, keysOff_open _ _ _ hp, flag, flag, fld_of_get (f := GUARD_STAT_OPEN) hg,
    fld_of_get (f := GUARD_STAT_OPEN_MASTER) hg]

theorem hcHalt_shows (hst : st < 8) : (hcHalt i st pc s).hcState i = st ∧ (hcHalt i st pc s).get .HC_PC i = pc ∧
    (hcHalt i st pc s).get .HC_CAUSE i = (s.hc i).mcause ∧ (hcHalt i st pc s).get .HC_TVAL i = (s.hc i).mtval := by
  rw [hcState, fld_of_get (f := HC_STAT_STATE) (get_hcHalt_shown i pc s h6 (by decide) i),
    get_hcHalt_shown i pc s h6 (by decide), get_hcHalt_shown i pc s h6 (by decide),
    get_hcHalt_shown i pc s h6 (by decide)]
  exact hcStop_shows i st pc s hst

end

/-! ### A halt with its record -/

/-- A core halts with a record of event `e`. -/
def hcHaltLog (i st e t : Nat) (pc : Word) (s : State) : State :=
  raiseLog e i noCause t ((hcHalt i st pc s).hcDetail i) (hcHalt i st pc s)

section
variable (i e t : Nat) {st : Nat} (pc : Word) (s : State) (h6 : st ≠ 6)

theorem get_hcHaltLog_shown {r : Reg} (j : Nat) (h1 : r ≠ .EVT_PEND) (h2 : r ≠ .EVT_RAW) :
    (hcHaltLog i st e t pc s).get r j = (hcHalt i st pc s).get r j := get_raiseLog _ _ _ _ _ _ _ _ h1 h2

theorem hcHaltLog_hc : (hcHaltLog i st e t pc s).hc i = { s.hc i with pc := pc } :=
  (hc_of_hcs (raiseLog_hcs ..) i).trans (hcHalt_hc ..)

include h6

theorem get_hcHaltLog {r : Reg} {j : Nat} (h : (r, j) ∉ haltRegs i ++ ofAll [.GUARD_STAT] 256 ++ evtRegs e) :
    (hcHaltLog i st e t pc s).get r j = s.get r j := by
  rw [List.mem_append, not_or] at h
  rw [hcHaltLog, raiseLog, get_log38, get_raise_of_notMem h.2, get_hcHalt i pc s h6 h.1]

theorem hcHaltLog_open (p : Fin 256) (hp : (blockOf p.val).isSome = true) :
    (hcHaltLog i st e t pc s).flag GUARD_STAT_OPEN p =
      (s.flag GUARD_STAT_OPEN p && s.fld GUARD_STAT_OPEN_MASTER p != i) := by
  rw [← hcHalt_open i pc s h6 p hp, flag, flag,
    fld_of_get (f := GUARD_STAT_OPEN) (get_hcHaltLog_shown i e t pc s p (by decide) (by decide))]

theorem hcHaltLog_shows (hst : st < 8) : (hcHaltLog i st e t pc s).hcState i = st ∧
    (hcHaltLog i st e t pc s).get .HC_PC i = pc ∧ (hcHaltLog i st e t pc s).get .HC_CAUSE i = (s.hc i).mcause ∧
    (hcHaltLog i st e t pc s).get .HC_TVAL i = (s.hc i).mtval := by
  rw [hcState, fld_of_get (f := HC_STAT_STATE) (get_hcHaltLog_shown i e t pc s i (by decide) (by decide)),
    get_hcHaltLog_shown i e t pc s i (by decide) (by decide), get_hcHaltLog_shown i e t pc s i (by decide) (by decide),
    get_hcHaltLog_shown i e t pc s i (by decide) (by decide)]
  exact hcHalt_shows i pc s h6 hst

omit h6 in
theorem hcHaltLog_pends (he : (evtHome e).2 < 32) : (hcHaltLog i st e t pc s).pends e = true :=
  raiseLog_pends _ _ _ _ _ _ he

omit h6 in
@[simp] theorem hcHaltLog_kept : (hcHaltLog i st e t pc s).kept = s.kept := by simp [hcHaltLog]

end

/-! ### Traps, the watchdog, external debug -/

section
variable (i : Nat) (s : State)

theorem hcTrap_halts (x y z : Word) (h : s.hcState i = 1) (hh : s.flag HC_CFG_TRAP_HALT i = true) :
    hcTrap i x y z s = hcHaltLog i 3 (248 + i) (hcEnter i x y z s).nowClk x (hcEnter i x y z s).spend := by
  have hh' : (hcEnter i x y z s).flag HC_CFG_TRAP_HALT i = true := hh
  simp only [hcTrap, h, hh', if_true]
  rfl

theorem hcTrap_enters (x y z : Word) (h : s.hcState i = 1) (hh : s.flag HC_CFG_TRAP_HALT i = false) :
    hcTrap i x y z s = hcEnter i x y z s := by
  have hh' : (hcEnter i x y z s).flag HC_CFG_TRAP_HALT i = false := hh
  simp only [hcTrap, h, hh', if_true, Bool.false_eq_true, if_false]

theorem hcEnter_hc (x y z : Word) : (hcEnter i x y z s).hc i =
    { s.hc i with
      mepc := x, mcause := y, mtval := z, pc := (s.hc i).mtvec &&& 0xFFFFFFFC#32
      mstatus := putBits (putBit (putBit (s.hc i).mstatus 7 (bitAt (s.hc i).mstatus 3)) 3 false) 12 11 3 } :=
  hc_modHc_same i s fun c => { c with
    mepc := x, mcause := y, mtval := z, pc := c.mtvec &&& 0xFFFFFFFC#32
    mstatus := putBits (putBit (putBit c.mstatus 7 (bitAt c.mstatus 3)) 3 false) 12 11 3 }

theorem hcWdt_halts (h : s.hcState i = 1) (h0 : s.fld HC_WDT_TO i ≠ 0)
    (ht : (s.hc i).wdtT + 200000 * s.fld HC_WDT_TO i < s.Tn) :
    hcWdt i s = hcHaltLog i 4 (250 + i) ((s.hc i).wdtT + 200000 * s.fld HC_WDT_TO i) s.corePc.1 s.corePc.2 :=
  if_pos ⟨h, h0, ht⟩

theorem hcWdt_idle (h : s.hcState i ≠ 1 ∨ s.fld HC_WDT_TO i = 0 ∨
    s.Tn ≤ (s.hc i).wdtT + 200000 * s.fld HC_WDT_TO i) : hcWdt i s = s := by
  refine if_neg ?_
  rintro ⟨h1, h2, h3⟩
  omega

theorem hcDebug_unplugged (x : HcOp) (h : s.flag DG_CFG_EN 0 = false) : hcDebug i x s = s := by
  cases x <;> simp [hcDebug, hcReach, hcInDebug, h]

theorem hcDebug_halt (x : Word) (h : s.flag DG_CFG_EN 0 = true) (hs : s.hcState i = 1) :
    hcDebug i (.halt x) s = hcStop i 6 x (s.modHc i fun h => { h with wdtT := s.T - h.wdtT }) := by
  simp [hcDebug, h, hs, hcHalt_debug]

theorem hcDebug_resume (h : s.flag DG_CFG_EN 0 = true) (hs : s.hcState i = 6) :
    hcDebug i .resume s = (s.setFld HC_STAT_STATE i 1).modHc i fun h => { h with wdtT := s.T - h.wdtT } := by
  simp [hcDebug, h, hs]

theorem hcInDebug_of (h : s.flag DG_CFG_EN 0 = true) (hs : s.hcState i = 6) : s.hcInDebug i = true := by
  simp [hcInDebug, h, hs]

end

/-! ### The local memory of a core (R413, R415) -/

/-- Bytes written one after the other: the last one written to a key stands. -/
theorem get_foldl_set (l : List (Nat × Byte)) (m : SMap Byte) (k : Nat) :
    SMap.get 0#8 (l.foldl (fun m e => SMap.set 0#8 m e.1 e.2) m) k =
      ((l.filter (·.1 == k)).getLast?.map (·.2)).getD (SMap.get 0#8 m k) := by
  induction l generalizing m with
  | nil => rfl
  | cons e l ih =>
    rw [List.foldl_cons, ih, SMap.get_set]
    by_cases h : e.1 = k
    · rw [List.filter_cons_of_pos (by simp [h]), List.getLast?_cons, if_pos h.symm]
      cases (l.filter (·.1 == k)).getLast? <;> rfl
    · rw [List.filter_cons_of_neg (by simp [h]), if_neg (Ne.symm h)]

/-- A reload brings the core's own memory to its image and leaves the other core's. -/
theorem get_hcReload (i : Nat) (s : State) (k : Nat) : SMap.get 0#8 (hcReload i s).hcMem k =
    if k / 262144 = i then ((s.hcImg.filter (·.1 == k)).getLast?.map (·.2)).getD 0#8 else SMap.get 0#8 s.hcMem k := by
  have hold : SMap.get 0#8 (s.hcMem.filter fun e => !(e.1 / 262144 == i)) k =
      if k / 262144 = i then 0#8 else SMap.get 0#8 s.hcMem k := by
    rw [SMap.get_filter 0#8 s.hcMem (fun a => !(a / 262144 == i))]
    by_cases h : k / 262144 = i <;> simp [h]
  have hmine : (s.hcImg.filter fun e => e.1 / 262144 == i).filter (·.1 == k) =
      if k / 262144 = i then s.hcImg.filter (·.1 == k) else [] := by
    rw [List.filter_filter]
    split
    next h =>
      refine List.filter_congr fun e _ => ?_
      by_cases hk : e.1 = k <;> simp [hk, h]
    next h =>
      refine List.filter_eq_nil_iff.2 fun e _ => ?_
      by_cases hk : e.1 = k <;> simp [hk, h]
  refine (get_foldl_set ..).trans ?_
  rw [hmine, hold]
  split <;> rfl

section
variable (i : Nat) (s : State)

theorem hcReload_regs : (hcReload i s).regs = s.regs := rfl
theorem hcReload_hcs : (hcReload i s).hcs = s.hcs := rfl

theorem hcReload_own {a : Nat} (ha : a < 262144) : (hcReload i s).localByte i a =
    ((s.hcImg.filter (·.1 == 262144 * i + a)).getLast?.map (·.2)).getD 0#8 :=
  (get_hcReload ..).trans (if_pos (by omega))

theorem hcReload_other (hi : i < 2) {a : Nat} (ha : a < 262144) :
    (hcReload i s).localByte (1 - i) a = s.localByte (1 - i) a := (get_hcReload ..).trans (if_neg (by omega))

/-- The three outcomes of the end of a reload. -/
theorem hcReloadDone_starts (h : s.flag HC_STAT_LOADING i = true) (hf : s.frozen i = false) :
    hcReloadDone i s = hcStart i (hcReload i s) := by
  have hf' : (hcReload i s).frozen i = false := hf
  simp [hcReloadDone, h, hf']

theorem hcReloadDone_frozen (h : s.flag HC_STAT_LOADING i = true) (hf : s.frozen i = true) :
    hcReloadDone i s = (hcReload i s).setFlag HC_STAT_LOADING i false := by
  have hf' : (hcReload i s).frozen i = true := hf
  simp [hcReloadDone, h, hf']

theorem hcReloadDone_idle (h : s.flag HC_STAT_LOADING i = false) : hcReloadDone i s = s := by simp [hcReloadDone, h]

theorem localWrite_regs (a n v : Nat) : (localWrite i a n v s).regs = s.regs := by
  unfold localWrite
  exact each_same State.regs (by intros; rfl) _ _

theorem localWrite_hcs (a n v : Nat) : (localWrite i a n v s).hcs = s.hcs := by
  unfold localWrite
  exact each_same State.hcs (by intros; rfl) _ _

@[simp] theorem localByte_answer (a : Nat) (r : Resp) : (s.answer r).localByte i a = s.localByte i a := rfl

/-- The low byte of a word stands first. -/
theorem localByte_localWrite (a v : Nat) (k : Fin 4) :
    (localWrite i a 4 v s).localByte i (a + k) = BitVec.ofNat 8 (v / 2 ^ (8 * k.val)) := by
  have hr : List.range 4 = [0, 1, 2, 3] := rfl
  simp only [localWrite, localByte, each, hr, List.foldl_cons, List.foldl_nil, SMap.get_set]
  fin_cases k <;> simp [← Nat.add_assoc]

end

/-! ### Writes of HC_RUN and HC_KICK -/

section
variable (c : Access) (i : Nat) (v : Word) (u : State)

theorem hcRun_bits (g : Word) {n : Nat} (hn : n < 2) : bitAt ((g &&& ~~~ 3#32) ||| (v &&& 3#32)) n = bitAt v n := by
  interval_cases n <;> simp [bitAt_eq]

theorem wrRes_hcRun : wrRes c .HC_RUN i v u = if bitAt v 0 && u.frozen i then (u, .err) else
    (hcRunWrite i ((u.get .HC_RUN i &&& ~~~ 3#32) ||| (v &&& 3#32)) u, .ok) := by
  rw [← hcRun_bits v (u.get .HC_RUN i) (by decide : 0 < 2)]
  rfl

theorem wrRes_hcRun_refused (hb : bitAt v 0 = true) (hf : u.frozen i = true) : wrRes c .HC_RUN i v u = (u, .err) := by
  rw [wrRes_hcRun, if_pos (by simp [hb, hf])]

theorem wrRes_hcRun_start (hb : bitAt v 0 = true) (hf : u.frozen i = false) :
    wrRes c .HC_RUN i v u = (hcRun i (bitAt v 1) u, .ok) := by
  rw [wrRes_hcRun, if_neg (by simp [hf]), hcRunWrite, hcRun_bits _ _ (by decide), hcRun_bits _ _ (by decide), hb]
  rfl

theorem wrRes_hcRun_halt (hb : bitAt v 0 = false) (h : u.hcState i = 1) :
    wrRes c .HC_RUN i v u = (hcHalt i 2 u.corePc.1 u.corePc.2, .ok) := by
  rw [wrRes_hcRun, if_neg (by simp [hb]), hcRunWrite, hcRun_bits _ _ (by decide), hb, if_neg (by decide), if_pos h]

theorem wrRes_hcRun_halted (hb : bitAt v 0 = false) (h : u.hcState i ≠ 1) : wrRes c .HC_RUN i v u = (u, .ok) := by
  rw [wrRes_hcRun, if_neg (by simp [hb]), hcRunWrite, hcRun_bits _ _ (by decide), hb, if_neg (by decide), if_neg h]

theorem wrRes_hcKick : wrRes c .HC_KICK i 1#32 u = if c.id != i then (u, .err) else
    (u.modHc i fun h => { h with wdtT := u.Tn }, .ok) := rfl

end

theorem located_hcRun (i : Fin 2) : located .HC_RUN i = true := by
  fin_cases i <;> decide
theorem located_hcKick (i : Fin 2) : located .HC_KICK i = true := by
  fin_cases i <;> decide

/-- The pages of the cores are not recorded (R444). -/
theorem recordable_hcRun (i : Fin 2) (v : Word) : recordable (regAddr .HC_RUN i) v = false := by
  fin_cases i <;> rfl
theorem recordable_hcKick (i : Fin 2) (v : Word) : recordable (regAddr .HC_KICK i) v = false := by
  fin_cases i <;> rfl

/-! ### A KW register's refusal leaves the key as it was (R55) -/

/-- A key that is used up and given back. -/
theorem get_useKey_setFlag {m p : Nat} {u : State} (hg : u.guardKind m p = none)
    (hm : u.flag GUARD_STAT_MODE p = false) (r : Reg) (i : Nat) :
    ((useKey p u).setFlag GUARD_STAT_OPEN p true).get r i = u.get r i := by
  have hopen : u.flag GUARD_STAT_OPEN p = true := by
    by_contra h
    simp [guardKind, hm, h] at hg
  have hbit : (u.get .GUARD_STAT p).getLsbD 2 = true := by
    have := (b2n_ne_zero _).symm.trans ((congrArg (· != 0) (bitsOf_one (u.get .GUARD_STAT p) 2)).symm.trans hopen)
    rwa [bitAt_eq] at this
  rw [useKey, hm, if_neg (by decide)]
  by_cases hr : (r, i) = (.GUARD_STAT, p)
  · obtain ⟨rfl, rfl⟩ := Prod.mk.inj hr
    rw [get_setFlag, if_pos ⟨rfl, rfl⟩]
    change putBits ((u.setFlag GUARD_STAT_OPEN i false).get .GUARD_STAT i) 2 2 1 = _
    rw [get_setFlag, if_pos ⟨rfl, rfl⟩]
    change putBits (putBits (u.get .GUARD_STAT i) 2 2 0) 2 2 1 = _
    apply BitVec.eq_of_getLsbD_eq
    intro n hn
    rw [getLsbD_putBits, getLsbD_putBits]
    by_cases h2 : n = 2
    · subst h2
      simp [hbit]
    · rw [if_neg (by omega), if_neg (by omega)]
  · rw [setFlag, get_setFld_of_ne hr, setFlag, get_setFld_of_ne hr]

/-- A write of a KW register that only the register's own rules refuse changes nothing a master can read. -/
theorem pageWrite_kw_refused {m : Nat} {r : Reg} {i : Nat} {v : Word} {s : State} (hl : located r i = true)
    (hi : ∀ (u : State) (c : Access), u.instOf c r i = i) (hk : r ≠ .GUARD_KEY) (hkw : r.info.acc = .kw)
    (hs : refusalShows r = false) (hm : s.mayWrite m r i = true)
    (h : ∀ c, c.id = m → (wrRes c r i v (s.meets m r i)).2 = .err) :
    ∃ u, pageWrite (Access.of m) (regAddr r i) v (s.metBy m) = (u, .err) ∧ u.writes = (s.metBy m).writes ∧
      u.kept = (s.metBy m).kept ∧ ∀ r' j, u.get r' j = (s.metBy m).get r' j := by
  obtain ⟨hat, hvw, -, -, -⟩ := located_spec hl
  simp only [mayWrite, mayAccess, Bool.and_eq_true, Bool.not_eq_true', wrPage] at hm
  obtain ⟨⟨-, hg⟩, ht⟩ := hm
  have hg' : (s.metBy m).guardKind (Access.of m).id (regAddr r i / 4096) = none := by simpa [hkw, Access.of] using hg
  have hmeets : (useKey (regAddr r i / 4096) (s.metBy m)).spend.settled = s.meets m r i := by
    simp [meets, taken, hkw, when, wrPage]
  have hmod : regAddr r i % 4096 = regAddr r i % 1024 := by omega
  have hhold : hold (Access.of m) (regAddr r i) v (useKey (regAddr r i / 4096) (s.metBy m)) =
      ((useKey (regAddr r i / 4096) (s.metBy m)).spend, .err) := by
    have happ (c : Access) : spaceApply c (regAddr r i) v (useKey (regAddr r i / 4096) (s.metBy m)).spend.settled =
        wrRes c r i v (s.meets m r i) := by
      rw [hmeets]
      exact spaceApply_reg _ _ _ _ _ hl (hi _ _) hk ht
    have he (t : Nat) : (wrRes { Access.of m with t := t } r i v (s.meets m r i)).2 = .err := h _ rfl
    simp only [hold, happ, he, hmod, hat, hs, Bool.and_false, Bool.false_eq_true, if_false]
  have hpage : pageWrite (Access.of m) (regAddr r i) v (s.metBy m) =
      if (s.metBy m).flag GUARD_STAT_MODE (regAddr r i / 4096) = true then
        ((useKey (regAddr r i / 4096) (s.metBy m)).spend, .err)
      else ((useKey (regAddr r i / 4096) (s.metBy m)).spend.setFlag GUARD_STAT_OPEN (regAddr r i / 4096) true,
        .err) := by
    have hvw' : decide (regAddr r i % 4096 < 1024) = true := by simpa using hvw
    simp [pageWrite, hat, hk, hkw, hvw', hg', hhold]
  have hwr (p : Nat) (x : State) : (useKey p x).writes = x.writes := by
    unfold useKey
    split <;> rfl
  rw [hpage]
  by_cases hmode : (s.metBy m).flag GUARD_STAT_MODE (regAddr r i / 4096) = true
  · refine ⟨_, if_pos hmode, hwr .., by simp, fun r' j => ?_⟩
    rw [spend_get, useKey, if_pos hmode]
  · exact ⟨_, if_neg hmode, hwr .., by simp, get_useKey_setFlag hg' (by simpa using hmode)⟩

end State
open State

/-- A write command of a KW register is refused where its register's own rules refuse the write. -/
theorem refuses_of_wrRes_kw {x : Instr} {m : Nat} {r : Reg} {i : Nat} {v : Word} {ok : State → Prop}
    (he : ∀ s, exec x s = .next (wr m r i v s.begin')) (hl : located r i = true)
    (hi : ∀ (u : State) (c : Access), u.instOf c r i = i) (hk : r ≠ .GUARD_KEY) (hkw : r.info.acc = .kw)
    (hs : refusalShows r = false) (h : ∀ c u, c.id = m → ok u → (wrRes c r i v u).2 = .err) : Refuses x m r i ok := by
  intro s h2 hm ho
  obtain ⟨u, hu, hw, hkept, hget⟩ := pageWrite_kw_refused hl hi hk hkw hs hm fun c hc => h c _ hc ho
  have hma : s.mayAccess m r i = true := by
    simp only [mayWrite, Bool.and_eq_true] at hm
    exact hm.1
  refine ⟨_, he s, ?_⟩
  rw [wr_of_pageWrite_err h2 hl hma hu]
  refine ⟨?_, ?_, fun r' j _ => hget r' j, fun a => (rdByte_answer ..).trans (rdByte_of_kept hkept a)⟩
  · have hr : u.resp = [] := (resp_of_kept hkept).trans (metBy_resp m s)
    simp [answer, hr]
  · have hb : (s.metBy m).writes = s.writes := by
      simp only [metBy, attach]
      split <;> rfl
    exact hw.trans hb

/-! ### The statement, part by part -/

section
variable (m : Fin 8) (i : Fin 2)

/-- A write of HC_RUN or HC_KICK serves where its register's own rules give the effect and leave memory alone. -/
theorem hcRun_serves {x : Instr} {v : Word} {ok : State → Prop} {l : List (Reg × Nat)} {eff : State → State → Prop}
    (he : ∀ s, exec x s = .next (wr m .HC_RUN i v s.begin'))
    (h : ∀ c u, ok u → ∃ t, wrRes c .HC_RUN i v u = (t, .ok) ∧ regsOnly l u t ∧ t.kept = u.kept ∧ eff u t) :
    Serves x m .HC_RUN i ok l eff := by
  refine serves_of_wrRes he (located_hcRun i) (fun _ _ => rfl) (by decide) (by decide) (recordable_hcRun i v) ?_
  intro c u _ ho
  obtain ⟨t, ht, hregs, hkept, heff⟩ := h c u ho
  exact ⟨t, ht, only_of_kept hregs hkept, heff⟩

theorem hcRunStart_bit (v : Word) : bitAt (v ||| 1#32) 0 = true := by simp [bitAt_eq]

theorem hcRunStart_reload (v : Word) : bitAt (v ||| 1#32) 1 = bitAt v 1 := by simp [bitAt_eq]

theorem hcRunStart_serves (v : Word) : Serves (.hcRunStart m i v) m .HC_RUN i (fun u => u.frozen i = false ∧
    u.hcState i ≠ 1 ∧ u.hcState i ≠ 6 ∧ (u.hc i).image = true ∧ u.flag HC_STAT_LOADING i = false ∧ bitAt v 1 = false)
    (ofInst [.HC_STAT] i.val) fun u t =>
      t.hcState i = 1 ∧ t.flag HC_STAT_LOADING i = false ∧ (t.hc i).pc = 0x10000000#32 ∧
        t.hc i = { image := true, mtimecmp := (u.hc i).mtimecmp, timer := (u.hc i).timer, wdtT := u.T } := by
  refine hcRun_serves m i (fun _ => rfl) ?_
  rintro c u ⟨hf, h1, h6, hi, hl, hr⟩
  refine ⟨hcStart i u, ?_, fun r j h => get_hcStart _ u h, by simp, hcStart_state .., hcStart_loading .., ?_, ?_⟩
  · rw [wrRes_hcRun_start _ _ _ _ (hcRunStart_bit v) hf, hcRunStart_reload, hr, hcRun_starts _ _ h1 h6 hi hl]
    rfl
  · rw [hcStart_hc]
  · rw [hcStart_hc, hi]

theorem hcRunStart_reloads (v : Word) : Serves (.hcRunStart m i v) m .HC_RUN i (fun u => u.frozen i = false ∧
    u.hcState i ≠ 1 ∧ u.hcState i ≠ 6 ∧ (u.hc i).image = true ∧ u.flag HC_STAT_LOADING i = false ∧ bitAt v 1 = true)
    (ofInst [.HC_STAT] i.val) fun u t =>
      t.flag HC_STAT_LOADING i = true ∧ t.hcState i = u.hcState i ∧ t.hcs = u.hcs := by
  refine hcRun_serves m i (fun _ => rfl) ?_
  rintro c u ⟨hf, h1, h6, hi, hl, hr⟩
  refine ⟨u.setFlag HC_STAT_LOADING i true, ?_, fun r j h => ?_, by simp, flag_setFlag_same .., ?_, rfl⟩
  · rw [wrRes_hcRun_start _ _ _ _ (hcRunStart_bit v) hf, hcRunStart_reload, hr, hcRun_starts _ _ h1 h6 hi hl]
    rfl
  · exact get_setFld_of_ne (ne_of_notMem_ofInst h)
  · exact fld_setFld_other (by decide)

theorem hcRunStart_idles (v : Word) : Serves (.hcRunStart m i v) m .HC_RUN i (fun u => u.frozen i = false ∧
    (u.hcState i = 1 ∨ u.hcState i = 6 ∨ (u.hc i).image = false)) [] fun u t => t.hcs = u.hcs := by
  refine hcRun_serves m i (fun _ => rfl) ?_
  rintro c u ⟨hf, h⟩
  refine ⟨u, ?_, fun _ _ _ => rfl, rfl, rfl⟩
  rw [wrRes_hcRun_start _ _ _ _ (hcRunStart_bit v) hf, hcRun_idle _ _ h]

theorem hcRunStart_refuses (v : Word) : Refuses (.hcRunStart m i v) m .HC_RUN i (fun u => u.frozen i = true) :=
  refuses_of_wrRes_kw (fun _ => rfl) (located_hcRun i) (fun _ _ => rfl) (by decide) (by decide) (by decide)
    fun c u _ hf => by rw [wrRes_hcRun_refused _ _ _ _ (hcRunStart_bit v) hf]

theorem hcRunHalt_serves : Serves (.hcRunHalt m i) m .HC_RUN i (fun u => u.hcState i = 1)
    (ofInst [.HC_STAT, .HC_PC, .HC_CAUSE, .HC_TVAL] i.val ++ ofAll [.GUARD_STAT] 256) fun u t =>
      t.hcState i = 2 ∧ t.get .HC_CAUSE i = (u.hc i).mcause ∧ t.get .HC_TVAL i = (u.hc i).mtval ∧
        (∀ p : Fin 256, p.val ≠ 0x72 + i.val → (blockOf p).isSome = true →
          t.flag GUARD_STAT_OPEN p = (u.flag GUARD_STAT_OPEN p && u.fld GUARD_STAT_OPEN_MASTER p != i)) := by
  refine hcRun_serves m i (fun _ => rfl) fun c u h => ?_
  obtain ⟨hst, -, hcause, htval⟩ := hcHalt_shows i u.corePc.1 u.corePc.2 (st := 2) (by decide) (by decide)
  exact ⟨_, wrRes_hcRun_halt _ _ _ _ (by decide) h, fun r j hr => get_hcHalt _ _ u.corePc.2 (by decide) hr, by simp, hst,
    hcause, htval, fun p _ hp => hcHalt_open _ _ u.corePc.2 (by decide) p hp⟩

theorem hcRunHalt_idles : Serves (.hcRunHalt m i) m .HC_RUN i (fun u => u.hcState i ≠ 1) [] fun u t => t.hcs = u.hcs :=
  hcRun_serves m i (fun _ => rfl) fun c u h =>
    ⟨u, wrRes_hcRun_halted _ _ _ _ (by decide) h, fun _ _ _ => rfl, rfl, rfl⟩

theorem hcKick_serves : Serves (.hcKick m i) m .HC_KICK i (fun _ => m.val = i.val) [] fun u t =>
    (t.hc i).wdtT = u.Tn ∧ (t.hc i).timer = (u.hc i).timer := by
  refine serves_of_wrRes (fun _ => rfl) (located_hcKick i) (fun _ _ => rfl) (by decide) (by decide)
    (recordable_hcKick i _) ?_
  intro c u hc hi
  refine ⟨_, (wrRes_hcKick c i u).trans (if_neg (by simp [hc, hi])), only_of_kept (fun _ _ _ => rfl) (by simp), ?_⟩
  rw [hc_modHc_same]
  exact ⟨rfl, rfl⟩

theorem hcKick_refuses : Refuses (.hcKick m i) m .HC_KICK i (fun _ => True) := by
  intro s h2
  exact refuses_of_wrRes (x := .hcKick m i) (v := 1#32) (ok := fun _ => True) (fun _ => rfl) (located_hcKick i)
    (fun _ _ => rfl) (by decide) (by decide) (by decide) (by decide) (fun c u hc _ _ => by
      have hne : (c.id != i.val) = true := by
        rw [bne_iff_ne]
        omega
      rw [wrRes_hcKick, if_pos hne]) s h2

/-! A work or an event that is a function of the model. -/

theorem acts_of {x : Instr} {f : State → State} {ok : State → Prop} {l : List (Reg × Nat)}
    {eff : State → State → Prop} (he : ∀ s, exec x s = .next (f s.begin'))
    (h : ∀ u, ok u → regsOnly l u (f u) ∧ (f u).kept = u.kept ∧ eff u (f u)) : Acts x ok l eff := by
  intro s ho
  obtain ⟨hregs, hkept, heff⟩ := h _ ho
  exact ⟨_, he s, (resp_of_kept hkept).trans (begin'_resp s), only_of_kept hregs hkept, heff⟩

theorem arrives_of {x : Instr} {f : State → State} {ok : State → Prop} {l : List (Reg × Nat)}
    {eff : State → State → Prop} (he : ∀ s, exec x s = .next (f s.met))
    (h : ∀ u, ok u → regsOnly l u (f u) ∧ (f u).kept = u.kept ∧ eff u (f u)) : Arrives x ok l eff := by
  intro s ho
  obtain ⟨hregs, hkept, heff⟩ := h _ ho
  exact ⟨_, he s, (resp_of_kept hkept).trans (met_resp s), only_of_kept hregs hkept, heff⟩

theorem hcReloadDone_acts : Acts (.hcReloadDone i) (fun u => u.flag HC_STAT_LOADING i = true ∧ u.frozen i = false)
    (ofInst [.HC_STAT] i.val) fun u t =>
      t.hcState i = 1 ∧ t.flag HC_STAT_LOADING i = false ∧ (∀ a, a < 262144 →
        t.localByte i a = ((u.hcImg.filter (·.1 == 262144 * i.val + a)).getLast?.map (·.2)).getD 0#8) ∧
          (∀ a, a < 262144 → t.localByte (1 - i.val) a = u.localByte (1 - i.val) a) ∧ (t.hc i).mcause = 0#32 ∧
            (t.hc i).pc = 0x10000000#32 := by
  refine acts_of (f := hcReloadDone i) (fun _ => rfl) ?_
  rintro u ⟨hl, hf⟩
  rw [hcReloadDone_starts _ _ hl hf]
  refine ⟨fun r j h => get_hcStart _ (hcReload i u) h, by simp, hcStart_state .., hcStart_loading ..,
    fun a ha => hcReload_own _ u ha, fun a ha => hcReload_other _ u i.isLt ha, ?_, ?_⟩
  · rw [hcStart_hc]
  · rw [hcStart_hc]

theorem hcReloadDone_frozen_acts : Acts (.hcReloadDone i)
    (fun u => u.flag HC_STAT_LOADING i = true ∧ u.frozen i = true) (ofInst [.HC_STAT] i.val) fun u t =>
      t.hcState i = u.hcState i ∧ t.flag HC_STAT_LOADING i = false ∧ t.hcs = u.hcs := by
  refine acts_of (f := hcReloadDone i) (fun _ => rfl) ?_
  rintro u ⟨hl, hf⟩
  rw [hcReloadDone_frozen _ _ hl hf]
  refine ⟨fun r j h => ?_, by simp, ?_, flag_setFlag_same .., rfl⟩
  · exact get_setFld_of_ne (s := hcReload i u) (ne_of_notMem_ofInst h)
  · exact fld_setFld_other (s := hcReload i u) (f := HC_STAT_STATE) (by decide)

theorem hcTrap_acts (x y z : Word) : Acts (.hcTrap i x y z) (fun u => u.hcState i = 1 ∧
    u.flag HC_CFG_TRAP_HALT i = true)
    (ofInst [.HC_STAT, .HC_PC, .HC_CAUSE, .HC_TVAL] i.val ++ ofAll [.GUARD_STAT] 256 ++ evtRegs (248 + i.val)) fun u
      t =>
      t.hcState i = 3 ∧ t.get .HC_PC i = x ∧ t.get .HC_CAUSE i = y ∧ t.get .HC_TVAL i = z ∧ (t.hc i).mepc = x ∧
        (t.hc i).pc = x ∧ t.pends (248 + i) = true ∧ (∀ p : Fin 256, p.val ≠ 0x72 + i.val →
          (blockOf p).isSome = true →
            t.flag GUARD_STAT_OPEN p = (u.flag GUARD_STAT_OPEN p && u.fld GUARD_STAT_OPEN_MASTER p != i)) := by
  refine acts_of (f := hcTrap i x y z) (fun _ => rfl) ?_
  rintro u ⟨h, hh⟩
  rw [hcTrap_halts _ _ _ _ _ h hh]
  have hc : ((hcEnter i x y z u).spend).hc i = _ := hcEnter_hc i u x y z
  obtain ⟨hst, hpc, hcause, htval⟩ := hcHaltLog_shows i (248 + i) (hcEnter i x y z u).nowClk x
    (hcEnter i x y z u).spend (st := 3) (by decide) (by decide)
  rw [hc] at hcause htval
  refine ⟨fun r j hr => get_hcHaltLog _ _ _ _ (hcEnter i x y z u).spend (by decide) hr, by simp, hst, hpc, hcause, htval,
    ?_, ?_, hcHaltLog_pends _ _ _ _ _ ((by decide : ∀ i : Fin 2, (evtHome (248 + i)).2 < 32) i),
    fun p _ hp => hcHaltLog_open _ _ _ _ (hcEnter i x y z u).spend (by decide) p hp⟩
  · rw [hcHaltLog_hc, hc]
  · rw [hcHaltLog_hc]

theorem hcTrap_enters_acts (x y z : Word) : Acts (.hcTrap i x y z) (fun u => u.hcState i = 1 ∧
    u.flag HC_CFG_TRAP_HALT i = false)
    [] fun u t =>
      (t.hc i).mepc = x ∧ (t.hc i).mcause = y ∧ (t.hc i).mtval = z ∧ (t.hc i).pc = (u.hc i).mtvec &&& 0xFFFFFFFC#32 ∧
        bitAt (t.hc i).mstatus 3 = false ∧ bitAt (t.hc i).mstatus 7 = bitAt (u.hc i).mstatus 3 ∧ t.hcState i = 1 := by
  refine acts_of (f := hcTrap i x y z) (fun _ => rfl) ?_
  rintro u ⟨h, hh⟩
  rw [hcTrap_enters _ _ _ _ _ h hh]
  refine ⟨fun _ _ _ => rfl, by simp, ?_⟩
  rw [hcEnter_hc]
  have hhi (w : Word) (n : Nat) (hn : n < 11) : bitAt (putBits w 12 11 3) n = bitAt w n := by
    rw [bitAt_eq, bitAt_eq, getLsbD_putBits, if_neg (by omega)]
  refine ⟨rfl, rfl, rfl, rfl, ?_, ?_, h⟩
  · rw [hhi _ _ (by decide), bitAt_putBit_same _ _ (by decide)]
  · rw [hhi _ _ (by decide), bitAt_putBit_ne _ _ (by decide), bitAt_putBit_same _ _ (by decide)]

theorem hcWdt_arrives : Arrives (.hcWdt i) (fun u => u.hcState i = 1 ∧ u.fld HC_WDT_TO i ≠ 0 ∧
    (u.hc i).wdtT + 200000 * u.fld HC_WDT_TO i < u.Tn)
    (ofInst [.HC_STAT, .HC_PC, .HC_CAUSE, .HC_TVAL] i.val ++ ofAll [.GUARD_STAT] 256 ++ evtRegs (250 + i.val)) fun u
      t =>
      t.hcState i = 4 ∧ t.pends (250 + i) = true ∧ (∀ p : Fin 256, p.val ≠ 0x72 + i.val → (blockOf p).isSome = true →
        t.flag GUARD_STAT_OPEN p = (u.flag GUARD_STAT_OPEN p && u.fld GUARD_STAT_OPEN_MASTER p != i)) := by
  refine arrives_of (f := hcWdt i) (fun _ => rfl) ?_
  rintro u ⟨h, h0, ht⟩
  rw [hcWdt_halts _ _ h h0 ht]
  obtain ⟨hst, -⟩ := hcHaltLog_shows i (250 + i) ((u.hc i).wdtT + 200000 * u.fld HC_WDT_TO i) u.corePc.1 u.corePc.2
    (st := 4) (by decide) (by decide)
  exact ⟨fun r j hr => get_hcHaltLog _ _ _ _ u.corePc.2 (by decide) hr, by simp, hst,
    hcHaltLog_pends _ _ _ _ _ ((by decide : ∀ i : Fin 2, (evtHome (250 + i)).2 < 32) i),
    fun p _ hp => hcHaltLog_open _ _ _ _ u.corePc.2 (by decide) p hp⟩

theorem hcDebug_halt_acts (x : Word) : Acts (.hcDebug i (.halt x)) (fun u => u.flag DG_CFG_EN 0 = true ∧
    u.hcState i = 1)
    (ofInst [.HC_STAT, .HC_PC, .HC_CAUSE, .HC_TVAL] i.val) fun u t =>
      t.hcState i = 6 ∧ t.get .HC_PC i = x ∧ (t.hc i).pc = x ∧ (t.hc i).wdtT = u.T - (u.hc i).wdtT := by
  refine acts_of (f := hcDebug i (.halt x)) (fun _ => rfl) ?_
  rintro u ⟨he, hs⟩
  rw [hcDebug_halt _ _ _ he hs]
  obtain ⟨hst, hpc, -⟩ := hcStop_shows i 6 x (u.modHc i fun h => { h with wdtT := u.T - h.wdtT }) (by decide)
  refine ⟨fun r j hr => get_hcStop _ _ _ (u.modHc i _) hr, by simp [hcStop], hst, hpc, ?_, ?_⟩
  · rw [hcStop_hc]
  · rw [hcStop_hc, hc_modHc_same]

theorem hcDebug_resume_acts : Acts (.hcDebug i .resume) (fun u => u.flag DG_CFG_EN 0 = true ∧ u.hcState i = 6)
    (ofInst [.HC_STAT] i.val) fun u t => t.hcState i = 1 ∧ (t.hc i).wdtT = u.T - (u.hc i).wdtT := by
  refine acts_of (f := hcDebug i .resume) (fun _ => rfl) ?_
  rintro u ⟨he, hs⟩
  rw [hcDebug_resume _ _ he hs]
  refine ⟨fun r j h => ?_, by simp, ?_, ?_⟩
  · exact get_setFld_of_ne (s := u) (ne_of_notMem_ofInst h)
  · exact fld_setFld_same u HC_STAT_STATE i 1 (by decide)
  · rw [hc_modHc_same]
    rfl

end

theorem exec_hcDebug (i : Fin 2) (x : HcOp) (s : State) : exec (.hcDebug i x) s = .next (hcDebug i x s.begin') := rfl

section
variable (i : Fin 2) {s : State}

theorem hcDebug_readMem (a : Word) (h : s.begin'.hcReach i a.toNat = true) :
    ∃ t, exec (.hcDebug i (.readMem a)) s = .next t ∧
      t.resp = [.ok (BitVec.ofNat 32 (s.begin'.localRead i (a.toNat - 0x10000000) 4))] ∧ t.hcs = s.begin'.hcs ∧
        t.hcMem = s.begin'.hcMem ∧ State.only [] s.begin' t := by
  refine ⟨_, exec_hcDebug .., ?_⟩
  simp only [hcDebug, h, if_true]
  exact ⟨rfl, rfl, rfl, only_of_regs rfl rfl _⟩

theorem hcDebug_writeMem (a v : Word) (h : s.begin'.hcReach i a.toNat = true) :
    ∃ t, exec (.hcDebug i (.writeMem a v)) s = .next t ∧ t.resp = [.ok 0#32] ∧ t.hcs = s.begin'.hcs ∧
      (∀ k : Fin 4, t.localByte i (a.toNat - 0x10000000 + k) = BitVec.ofNat 8 (v.toNat / 2 ^ (8 * k.val))) ∧
        State.only [] s.begin' t := by
  refine ⟨_, exec_hcDebug .., ?_⟩
  simp only [hcDebug, h, if_true]
  have hk := localWrite_kept s.begin' (a.toNat - 0x10000000) i 4 v.toNat
  refine ⟨?_, localWrite_hcs .., fun k => ?_, ?_⟩
  · rw [answer, resp_of_kept hk]
    rfl
  · rw [localByte_answer, localByte_localWrite]
  · exact only_of_regs (localWrite_regs ..) (congrArg Kept.mem hk) _

theorem hcDebug_readReg (n : Fin 32) (he : s.begin'.flag DG_CFG_EN 0 = true) (hs : s.begin'.hcState i = 6) :
    ∃ t, exec (.hcDebug i (.readReg n)) s = .next t ∧ t.resp = [.ok (SMap.get 0#32 (s.begin'.hc i).x n.val)] ∧
      t.hcs = s.begin'.hcs ∧ State.only [] s.begin' t := by
  refine ⟨_, exec_hcDebug .., ?_⟩
  simp only [hcDebug, hcInDebug_of _ _ he hs, if_true]
  exact ⟨rfl, rfl, only_of_regs rfl rfl _⟩

/-- x0 takes nothing. -/
theorem hcDebug_writeReg (n : Fin 32) (v : Word) (he : s.begin'.flag DG_CFG_EN 0 = true)
    (hs : s.begin'.hcState i = 6) :
    ∃ t, exec (.hcDebug i (.writeReg n v)) s = .next t ∧ t.resp = [.ok 0#32] ∧
      SMap.get 0#32 (t.hc i).x n.val = (if n.val = 0 then SMap.get 0#32 (s.begin'.hc i).x 0 else v) ∧
        (t.hc i).pc = (s.begin'.hc i).pc ∧ State.only [] s.begin' t := by
  refine ⟨_, exec_hcDebug .., ?_⟩
  simp only [hcDebug, hcInDebug_of _ _ he hs, if_true, when]
  by_cases hn : n.val = 0
  · simp only [hn, bne_self_eq_false, Bool.false_eq_true, if_false, if_true]
    exact ⟨rfl, rfl, rfl, only_of_regs rfl rfl _⟩
  · have hb : (n.val != 0) = true := by simpa using hn
    have hc := hc_modHc_same i s.begin' fun h => { h with x := SMap.set 0#32 h.x n.val v }
    simp only [hb, hn, if_true, if_false]
    have hpc := congrArg Hc.pc hc
    exact ⟨rfl, (congrArg (fun h => SMap.get 0#32 (Hc.x h) n.val) hc).trans (SMap.get_set_same ..), hpc,
      only_of_regs rfl rfl _⟩

end

/-- Settles O31: each part from the rule of its command. -/
theorem helperCores : Obligations.HelperCores := by
  refine ⟨hcRunStart_serves, hcRunStart_reloads, hcRunStart_idles, hcRunStart_refuses, hcReloadDone_acts,
    hcReloadDone_frozen_acts, ?_, hcRunHalt_serves, hcRunHalt_idles, hcTrap_acts, hcTrap_enters_acts, hcWdt_arrives, ?_,
    hcKick_serves, hcKick_refuses, ?_, ?_, hcDebug_halt_acts, hcDebug_resume_acts, fun i a s => hcDebug_readMem i a,
    fun i a v s => hcDebug_writeMem i a v, fun i n s => hcDebug_readReg i n, fun i n v s => hcDebug_writeReg i n v, ?_⟩
  · intro i
    refine acts_of (f := hcReloadDone i) (fun _ => rfl) fun u h => ?_
    rw [hcReloadDone_idle _ _ h]
    exact ⟨fun _ _ _ => rfl, rfl, rfl, rfl⟩
  · intro i
    refine arrives_of (f := hcWdt i) (fun _ => rfl) fun u h => ?_
    rw [hcWdt_idle _ _ h]
    exact ⟨fun _ _ _ => rfl, rfl, rfl⟩
  · intro i
    refine acts_of (f := hcTimer i) (fun _ => rfl) fun u h => ?_
    rw [hcTimer, if_pos h, hc_modHc_same]
    exact ⟨fun _ _ _ => rfl, by simp, rfl, rfl⟩
  · intro i
    refine acts_of (f := hcTimer i) (fun _ => rfl) fun u h => ?_
    rw [hcTimer, if_neg (by omega)]
    exact ⟨fun _ _ _ => rfl, rfl, rfl⟩
  · intro i x
    refine acts_of (f := hcDebug i x) (fun _ => rfl) fun u h => ?_
    rw [hcDebug_unplugged _ _ _ h]
    exact ⟨fun _ _ _ => rfl, rfl, rfl⟩

end Sys2Proof.Machine

end

section

/-!
Writes, events and works by the function of the model that carries them out: what is left to show of each is what the
function changes.
-/

namespace Sys2Proof.Machine
open Kept State

namespace State

/-! ### What a chain of register updates leaves alone -/

section
variable {l l' : List (Reg × Nat)} {s t u : State}

@[simp] theorem regsOnly_refl (l : List (Reg × Nat)) (s : State) : regsOnly l s s := fun _ _ _ => rfl

theorem regsOnly_of_get (h : ∀ r i, t.get r i = s.get r i) : regsOnly l s t := fun r i _ => h r i

theorem regsOnly.trans (h : regsOnly l s t) (h' : regsOnly l t u) : regsOnly l s u :=
  fun r i hr => (h' r i hr).trans (h r i hr)

theorem regsOnly.mono (h : regsOnly l s t) (hl : ∀ r i, (r, i) ∈ l → (r, i) ∈ l') : regsOnly l' s t :=
  fun r i hr => h r i fun hx => hr (hl _ _ hx)

@[simp] theorem mem_ofInst {r : Reg} {rs : List Reg} {i j : Nat} : (r, j) ∈ ofInst rs i ↔ r ∈ rs ∧ j = i := by
  simp [ofInst, eq_comm]

@[simp] theorem mem_ofAll {r : Reg} {rs : List Reg} {i n : Nat} : (r, i) ∈ ofAll rs n ↔ r ∈ rs ∧ i < n := by
  simp [ofAll]

/-- Work on registers of the list alone adds nothing to what else has changed. -/
theorem regsOnly_congr (h : regsOnly l t u) : regsOnly l s u ↔ regsOnly l s t :=
  ⟨fun h' r i hr => (h r i hr).symm.trans (h' r i hr), fun h' => h'.trans h⟩

@[simp] theorem regsOnly_put {r : Reg} {i : Nat} {v : Word} (hm : (r, i) ∈ l) :
    regsOnly l s (t.put r i v) ↔ regsOnly l s t :=
  regsOnly_congr fun r' j hr => by rw [get_put, if_neg fun hh => hr (by rwa [hh.1, hh.2])]

@[simp] theorem regsOnly_setFld {f : Field} {i v : Nat} (hm : (f.reg, i) ∈ l) :
    regsOnly l s (t.setFld f i v) ↔ regsOnly l s t := regsOnly_put hm

@[simp] theorem regsOnly_setFlag {f : Field} {i : Nat} {b : Bool} (hm : (f.reg, i) ∈ l) :
    regsOnly l s (t.setFlag f i b) ↔ regsOnly l s t := regsOnly_put hm

@[simp] theorem regsOnly_incSat {f : Field} {i : Nat} (hm : (f.reg, i) ∈ l) :
    regsOnly l s (t.incSat f i) ↔ regsOnly l s t := regsOnly_put hm

@[simp] theorem regsOnly_setRbit {r : Reg} {i b : Nat} {v : Bool} (hm : (r, i) ∈ l) :
    regsOnly l s (t.setRbit r i b v) ↔ regsOnly l s t := regsOnly_put hm

@[simp] theorem mem_evtRegs {r : Reg} {i e : Nat} :
    (r, i) ∈ evtRegs e ↔ (r = .EVT_PEND ∨ r = .EVT_RAW) ∧ i = (evtHome e).1 := by simp [evtRegs, or_and_right]

@[simp] theorem regsOnly_raise {e : Nat} (hp : (.EVT_PEND, (evtHome e).1) ∈ l) (hr : (.EVT_RAW, (evtHome e).1) ∈ l) :
    regsOnly l s (raise e t) ↔ regsOnly l s t := by rw [raise, regsOnly_setRbit hr, regsOnly_setRbit hp]

@[simp] theorem regsOnly_raiseOf {e inst c : Nat} (hp : (.EVT_PEND, (evtHome e).1) ∈ l)
    (hr : (.EVT_RAW, (evtHome e).1) ∈ l) : regsOnly l s (raiseOf e inst c t) ↔ regsOnly l s t :=
  (regsOnly_congr fun _ _ _ => get_raiseOf ..).trans (regsOnly_raise hp hr)

@[simp] theorem regsOnly_log38 {inst c e stamp : Nat} {d : List Word} :
    regsOnly l s (log38 inst c e stamp d t) ↔ regsOnly l s t := regsOnly_congr fun _ _ _ => get_log38 ..

@[simp] theorem regsOnly_raiseLog {e inst c stamp : Nat} {d : List Word} (hp : (.EVT_PEND, (evtHome e).1) ∈ l)
    (hr : (.EVT_RAW, (evtHome e).1) ∈ l) : regsOnly l s (raiseLog e inst c stamp d t) ↔ regsOnly l s t := by
  rw [raiseLog, regsOnly_log38, regsOnly_raise hp hr]

@[simp] theorem regsOnly_recNote {rk inst stamp : Nat} {b : List Word} :
    regsOnly l s (recNote rk inst stamp b t) ↔ regsOnly l s t := regsOnly_congr fun _ _ _ => get_recNote ..

@[simp] theorem regsOnly_modAx {i : Nat} {f : Axis → Axis} : regsOnly l s (modAx i f t) ↔ regsOnly l s t := .rfl

@[simp] theorem regsOnly_setAx {i : Nat} {a : Axis} : regsOnly l s (t.setAx i a) ↔ regsOnly l s t := .rfl

@[simp] theorem regsOnly_ite {c : Prop} [Decidable c] {t' : State} :
    regsOnly l s (if c then t else t') ↔ if c then regsOnly l s t else regsOnly l s t' := by
  split <;> rfl

theorem regsOnly_when {c : Bool} {f : State → State} (h : regsOnly l t (f t)) :
    regsOnly l s (when c f t) ↔ regsOnly l s t := by
  unfold when
  split
  · exact regsOnly_congr h
  · rfl

theorem regsOnly_each {α : Type} {f : α → State → State} {x : List α} (hf : ∀ a ∈ x, ∀ s, regsOnly l s (f a s))
    (t : State) : regsOnly l t (each x f t) := by
  induction x generalizing t with
  | nil => exact regsOnly_refl l t
  | cons a x ih => exact (hf a List.mem_cons_self t).trans (ih (fun b hb => hf b (List.mem_cons_of_mem _ hb)) _)

end

/-! ### Fields and registers through updates of others -/

section
variable (s : State) (f g : Field) (r r' : Reg) (i j v : Nat) (w : Word)

theorem get_setFld_other (h : r ≠ f.reg) : (s.setFld f i v).get r j = s.get r j := get_put_reg h ..
theorem fld_put_other (h : f.reg ≠ r) : (s.put r i w).fld f j = s.fld f j := fld_of_get (get_put_reg h ..)
theorem fld_modAx (a : Axis → Axis) : (modAx i a s).fld f j = s.fld f j := rfl

theorem fld_raise (e : Nat) (h : f.reg ≠ .EVT_PEND) (h' : f.reg ≠ .EVT_RAW) : (raise e s).fld f i = s.fld f i :=
  fld_of_get (get_raise _ _ _ _ h h')
theorem fld_raiseOf (e n c : Nat) (h : f.reg ≠ .EVT_PEND) (h' : f.reg ≠ .EVT_RAW) :
    (raiseOf e n c s).fld f i = s.fld f i := fld_of_get ((get_raiseOf ..).trans (get_raise _ _ _ _ h h'))
theorem fld_raiseLog (e n c t : Nat) (d : List Word) (h : f.reg ≠ .EVT_PEND) (h' : f.reg ≠ .EVT_RAW) :
    (raiseLog e n c t d s).fld f i = s.fld f i := fld_of_get (get_raiseLog _ _ _ _ _ _ _ _ h h')
theorem fld_recNote (k n t : Nat) (b : List Word) : (recNote k n t b s).fld f i = s.fld f i :=
  fld_of_get (get_recNote ..)

theorem fld_setFld_lt (h : f.hi < 32) (hv : v < 2 ^ (f.hi + 1 - f.lo)) : (s.setFld f i v).fld f i = v := by
  rw [fld_setFld_same _ _ _ _ h, Nat.mod_eq_of_lt hv]

end
end State

/-! ### Write commands on pages that a recording notes (R444) -/

namespace State

theorem recNote_eq_setRecorder (rk inst stamp : Nat) (b : List Word) (s : State) :
    ∃ y, recNote rk inst stamp b s = setRecorder y s := by
  unfold recNote
  split
  · exact ⟨_, rfl⟩
  · exact ⟨s.recorder, rfl⟩

/-- The note of a write is in the recorder alone. -/
theorem noted_eq_setRecorder (c : Access) (r : Reg) (i : Nat) (v : Word) (s : State) :
    ∃ y, noted c r i v s = setRecorder y s := by
  unfold noted when
  split
  · obtain ⟨y, hy⟩ := recNote_eq_setRecorder 0x0F (c.id + 16 * (if c.set < 8 then 0 else c.set - 7)) s.T
      [BitVec.ofNat 32 s.recorder.ord, BitVec.ofNat 32 (regAddr r i), v] s
    refine ⟨{ y with ord := s.recorder.ord + 1 }, ?_⟩
    rw [recWriteNote, hy]
    rfl
  · exact ⟨s.recorder, rfl⟩

end State

/-- A write command serves where its register's own rules accept the write and have the effect claimed, whatever the
recorder holds; `p` marks the bytes it may store. -/
theorem servesTo_of_wrRes {x : Instr} {m : Nat} {r : Reg} {i : Nat} {v : Word} {ok : State → Prop}
    {l : List (Reg × Nat)} {p : State → Nat → Bool} {eff : State → State → Prop}
    (he : ∀ s, exec x s = .next (wr m r i v s.begin')) (hl : located r i = true)
    (hi : ∀ (u : State) (c : Access), u.instOf c r i = i) (hk : r ≠ .GUARD_KEY) (hn : actsAtOnce r = false)
    (hrec : ∀ u t y, eff u t → eff u (setRecorder y t))
    (h : ∀ c u, c.id = m → c.marked = false → ok u → ∃ t, wrRes c r i v u = (t, .ok) ∧
      onlyBut l (p u) u t ∧ eff u t) :
    ServesTo x m r i ok l p eff := by
  intro s hm ho
  obtain ⟨t₀, h₀, -, -⟩ := h (accOf m s) _ rfl rfl ho
  obtain ⟨t, ht, hregs, heff⟩ := h { accOf m s with checked := false } _ rfl rfl ho
  have hi' : ∀ c : Access, c.id = m → c.set = m → (s.meets m r i).instOf c r i = i := fun c _ _ => hi _ c
  obtain ⟨y, hy⟩ := noted_eq_setRecorder { accOf m s with checked := false } r i v t
  have hset : (wr m r i v s.begin').settled = setRecorder y t := by
    rw [(wr_ok m r i v s hl hi' hk hn hm (by rw [h₀]) (by rw [ht])).2, ht, hy]
  refine ⟨_, he s, wr_written m r i v s hl hi' hk hn hm (by rw [h₀]) (by rw [ht]), ?_, ?_⟩
  · rw [hset]
    exact hregs
  · rw [hset]
    exact hrec _ _ _ heff

theorem serves_of_servesTo {x : Instr} {m : Nat} {r : Reg} {i : Nat} {ok : State → Prop} {l : List (Reg × Nat)}
    {eff : State → State → Prop} (h : ServesTo x m r i ok l (fun _ _ => false) eff) : Serves x m r i ok l eff := by
  intro s hm ho
  obtain ⟨t, he, hw, ⟨hr, hb⟩, heff⟩ := h s hm ho
  exact ⟨t, he, hw, ⟨hr, fun a => hb a rfl⟩, heff⟩

/-- The same of a write that stores nothing. -/
theorem serves_of_wrRes_noted {x : Instr} {m : Nat} {r : Reg} {i : Nat} {v : Word} {ok : State → Prop}
    {l : List (Reg × Nat)} {eff : State → State → Prop}
    (he : ∀ s, exec x s = .next (wr m r i v s.begin')) (hl : located r i = true)
    (hi : ∀ (u : State) (c : Access), u.instOf c r i = i) (hk : r ≠ .GUARD_KEY) (hn : actsAtOnce r = false)
    (hrec : ∀ u t y, eff u t → eff u (setRecorder y t))
    (h : ∀ c u, c.id = m → c.marked = false → ok u → ∃ t, wrRes c r i v u = (t, .ok) ∧ regsOnly l u t ∧
      t.kept = u.kept ∧ eff u t) :
    Serves x m r i ok l eff := by
  refine serves_of_servesTo (servesTo_of_wrRes he hl hi hk hn hrec fun c u hc hmk ho => ?_)
  obtain ⟨t, ht, hr, hkept, heff⟩ := h c u hc hmk ho
  exact ⟨t, ht, ⟨hr, fun a _ => rdByte_of_kept hkept a⟩, heff⟩

end Sys2Proof.Machine

end

section

/-!
Axes: their registers, the enabling write, the enable tick (O41).
-/

namespace Sys2Proof.Machine
open Kept State
namespace State

/-! ### The registers of an axis -/

@[simp] theorem AX_CFG_EN_reg : AX_CFG_EN.reg = .AX_CFG := by rw [AX_CFG_EN]
@[simp] theorem AX_STAT_STATE_reg : AX_STAT_STATE.reg = .AX_STAT := by rw [AX_STAT_STATE]
@[simp] theorem AX_STAT_ACTIVE_reg : AX_STAT_ACTIVE.reg = .AX_STAT := by rw [AX_STAT_ACTIVE]
@[simp] theorem AX_STAT_WHEEL_OK_reg : AX_STAT_WHEEL_OK.reg = .AX_STAT := by rw [AX_STAT_WHEEL_OK]
@[simp] theorem AX_STAT_RADAR_OK_reg : AX_STAT_RADAR_OK.reg = .AX_STAT := by rw [AX_STAT_RADAR_OK]
@[simp] theorem AX_STAT_GNSS_OK_reg : AX_STAT_GNSS_OK.reg = .AX_STAT := by rw [AX_STAT_GNSS_OK]
@[simp] theorem AX_STAT_LOWSPD_reg : AX_STAT_LOWSPD.reg = .AX_STAT := by rw [AX_STAT_LOWSPD]
@[simp] theorem AX_STAT_REVERSE_reg : AX_STAT_REVERSE.reg = .AX_STAT := by rw [AX_STAT_REVERSE]
@[simp] theorem AX_STAT_LOCK_reg : AX_STAT_LOCK.reg = .AX_STAT := by rw [AX_STAT_LOCK]
@[simp] theorem AX_STAT_REJ_reg : AX_STAT_REJ.reg = .AX_STAT := by rw [AX_STAT_REJ]
@[simp] theorem AX_CNT_STALE_CNT_reg : AX_CNT_STALE_CNT.reg = .AX_CNT := by rw [AX_CNT_STALE_CNT]
@[simp] theorem AX_CNT_SW_CNT_reg : AX_CNT_SW_CNT.reg = .AX_CNT := by rw [AX_CNT_SW_CNT]

section
variable (i : Nat) (s : State)

theorem axEn_eq_bitAt : s.axEn i = bitAt (s.get .AX_CFG i) 0 := by
  rw [axEn, flag, fld, AX_CFG_EN, bitsOf_one, b2n_ne_zero]

theorem axPreset_range : -2 ^ 47 ≤ s.axPreset i ∧ s.axPreset i < 2 ^ 47 := by
  unfold axPreset signed
  omega

theorem wrap48_range (x : Int) : -2 ^ 47 ≤ wrap48 x ∧ wrap48 x < 2 ^ 47 := by
  unfold wrap48 signed
  omega

theorem wrap48_of_range {x : Int} (h : -2 ^ 47 ≤ x) (h' : x < 2 ^ 47) : wrap48 x = x := by
  unfold wrap48 signed unsig
  omega

/-- A position is held modulo 2^48 (R16). -/
theorem axPos_setAxPos (x : Int) : (setAxPos i x s).axPos i = wrap48 x := by
  obtain ⟨hlo, hhi⟩ := wrap48_range x
  have h : (setAxPos i x s).axPos i = signed 48 ((loW (unsig 64 (wrap48 x))).toNat +
      2 ^ 32 * (hiW (unsig 64 (wrap48 x))).toNat) := by
    rw [axPos, setAxPos, get_put_same, get_put_reg (by decide), get_put_same]
  rw [h]
  simp only [loW, hiW, unsig, signed, BitVec.toNat_ofNat]
  omega

theorem get_setAxPos {r : Reg} (j : Nat) (x : Int) (h : r ≠ .AX_POS_LO) (h' : r ≠ .AX_POS_HI) :
    (setAxPos i x s).get r j = s.get r j := by
  rw [setAxPos, get_put_reg h', get_put_reg h]

theorem fld_setAxPos (f : Field) (j : Nat) (x : Int) (h : f.reg ≠ .AX_POS_LO) (h' : f.reg ≠ .AX_POS_HI) :
    (setAxPos i x s).fld f j = s.fld f j := fld_of_get (get_setAxPos _ _ _ _ h h')

theorem axPos_congr {s t : State} (hlo : t.get .AX_POS_LO i = s.get .AX_POS_LO i)
    (hhi : t.get .AX_POS_HI i = s.get .AX_POS_HI i) : t.axPos i = s.axPos i := by
  rw [axPos, axPos, hlo, hhi]

section
variable (r : Reg) (f : Field) (j v e c n b t : Nat) (w : Word) (d : List Word) (x : Bool)
@[simp] theorem ax_put : (s.put r j w).ax i = s.ax i := rfl
@[simp] theorem ax_setFld : (s.setFld f j v).ax i = s.ax i := rfl
@[simp] theorem ax_setFlag : (s.setFlag f j x).ax i = s.ax i := rfl
@[simp] theorem ax_incSat : (s.incSat f j).ax i = s.ax i := rfl
@[simp] theorem ax_raise : (raise e s).ax i = s.ax i := rfl
@[simp] theorem ax_raiseOf : (raiseOf e n c s).ax i = s.ax i := rfl
@[simp] theorem ax_log38 : (log38 n c e t d s).ax i = s.ax i := by
  unfold log38
  split <;> rfl
@[simp] theorem ax_raiseLog : (raiseLog e n c t d s).ax i = s.ax i := ax_log38 ..
end
@[simp] theorem ax_setAx_same (a : Axis) : (s.setAx i a).ax i = a := SMap.get_set_same ..
@[simp] theorem ax_modAx_same (f : Axis → Axis) : (modAx i f s).ax i = f (s.ax i) := ax_setAx_same ..
theorem ax_modAx_ne {j : Nat} (h : j ≠ i) (f : Axis → Axis) : (modAx i f s).ax j = s.ax j := by
  rw [ax_modAx, if_neg h]

/-! ### The enabling write (R74, R75) -/

theorem axReject_le (v : Word) : s.axReject i v ≤ 6 := by
  unfold axReject
  dsimp only
  split_ifs <;> omega

theorem axStart_regs : regsOnly (ofInst [.AX_CORR_W, .AX_CORR_R, .AX_STAT] i) s (axStart i s) := by
  simp [axStart, axOkBits]

/-- Each configured source but GNSS is healthy as the axis starts (R82). -/
theorem bestSrc_fresh (hl : (s.ax i).okL = s.axHas i .left) (hr : (s.ax i).okR = s.axHas i .right)
    (hd : (s.ax i).okRad = s.axHas i .radar) (hg : (s.ax i).okG = false) :
    s.bestSrc i = 3 ↔ s.axHas i .left = false ∧ s.axHas i .radar = false := by
  have hw : s.wheelOk i = s.axHas i .left := by
    rw [wheelOk, hl, hr]
    cases s.axHas i .left <;> cases s.axHas i .right <;> rfl
  have hd' : s.radarOk i = s.axHas i .radar := by rw [radarOk, hd, Bool.and_self]
  have hg' : s.gnssOk i = false := by rw [gnssOk, hg, Bool.and_false]
  rw [bestSrc, hw, hd', hg']
  cases s.axHas i .left <;> cases s.axHas i .radar <;> simp

theorem axHas_put {r : Reg} (k : AxSrc) (j : Nat) (v : Word) (h : r ≠ .AX_SRC) :
    (s.put r j v).axHas i k = s.axHas i k := by
  have h' : ∀ f : Field, f.reg = .AX_SRC → (s.put r j v).flag f i = s.flag f i := fun f hf => by
    rw [flag, flag, fld_put_other _ _ _ _ _ _ (by rwa [hf, ne_comm])]
  cases k <;> exact h' _ rfl

theorem axStart_state : (axStart i s).axState i = if s.axType i = 4 then 4 else
    if s.axType i = 0 ∧ s.axHas i .left = false ∧ s.axHas i .radar = false then 3 else 1 := by
  have hb (a : Axis) (hl : a.okL = s.axHas i .left) (hr : a.okR = s.axHas i .right) (hd : a.okRad = s.axHas i .radar)
      (hg : a.okG = false) : (((s.setAx i a).put .AX_CORR_W i f32.one).put .AX_CORR_R i f32.one).bestSrc i = 3 ↔
        s.axHas i .left = false ∧ s.axHas i .radar = false := by
    have hk (k : AxSrc) : (((s.setAx i a).put .AX_CORR_W i f32.one).put .AX_CORR_R i f32.one).axHas i k =
        s.axHas i k := by
      rw [axHas_put _ _ _ _ _ (by decide), axHas_put _ _ _ _ _ (by decide)]
      rfl
    have ha : (((s.setAx i a).put .AX_CORR_W i f32.one).put .AX_CORR_R i f32.one).ax i = a := ax_setAx_same ..
    rw [bestSrc_fresh _ _ (by rw [ha, hk, hl]) (by rw [ha, hk, hr]) (by rw [ha, hk, hd]) (by rw [ha, hg]), hk, hk]
  simp (disch := decide) only [axState, axStart, axOkBits, setFlag, fld_setFld_other, fld_setFld_same]
  by_cases h0 : s.axType i = 0
  · simp only [tGround, h0, if_true]
    rw [if_congr (hb _ rfl rfl rfl rfl) rfl rfl]
    simp only [true_and, OfNat.zero_ne_ofNat, if_false]
    split <;> rfl
  · simp only [tGround, tMains, h0, if_false, false_and]
    by_cases h4 : s.axType i = 4 <;> simp [h4, AX_STAT_STATE]

theorem axStart_rej : (axStart i s).fld AX_STAT_REJ i = 0 := by
  simp (disch := decide) [axStart, axOkBits, setFlag, fld_setFld_other, fld_setFld_same]

theorem axStart_corr : (axStart i s).get .AX_CORR_W i = f32.one ∧ (axStart i s).get .AX_CORR_R i = f32.one := by
  simp (disch := decide) [axStart, axOkBits, setFlag, get_setFld_other, get_put_reg]

theorem axStart_tEn : ((axStart i s).ax i).tEn = s.Tn := by simp [axStart, axOkBits]

/-- What a refused enable leaves: its code and E032 (R75). -/
def axRefused (i : Nat) (v : Word) (s : State) : State := raiseLog 32 i noCause s.Tn []
  (((s.put .AX_CFG i v).setFlag AX_CFG_EN i false).setFld AX_STAT_REJ i (s.axReject i v))

/-- What an accepted write of AX_CFG to a disabled axis does, when it enables it. -/
theorem axCfgWrite_enable {v : Word} (hv : bitAt v 0 = true) (he : s.axEn i = false) (hr : s.axReject i v = 0) :
    axCfgWrite i v s = axStart i (s.put .AX_CFG i v) := by
  simp [axCfgWrite, axCfgStore, hv, he, hr]

/-- The same of one that has a ground for refusal. -/
theorem axCfgWrite_refuse {v : Word} (hv : bitAt v 0 = true) (he : s.axEn i = false) (hr : s.axReject i v ≠ 0) :
    axCfgWrite i v s = axRefused i v s := by
  have hT : (s.put .AX_CFG i v).Tn = s.Tn := rfl
  simp [axCfgWrite, axCfgStore, axRefused, hT, hv, he, hr]

/-- A started axis has what was written, its enable tick to come and the state of its type. -/
theorem axStart_enabled {v : Word} (hv : bitAt v 0 = true) : (axStart i (s.put .AX_CFG i v)).axEn i = true ∧
    (axStart i (s.put .AX_CFG i v)).get .AX_CFG i = v ∧ (axStart i (s.put .AX_CFG i v)).fld AX_STAT_REJ i = 0 ∧
    (axStart i (s.put .AX_CFG i v)).get .AX_CORR_W i = f32.one ∧
    (axStart i (s.put .AX_CFG i v)).get .AX_CORR_R i = f32.one ∧
    ((axStart i (s.put .AX_CFG i v)).ax i).tEn = s.Tn ∧ (axStart i (s.put .AX_CFG i v)).axState i =
      (if (axStart i (s.put .AX_CFG i v)).axType i = 4 then 4 else
        if (axStart i (s.put .AX_CFG i v)).axType i = 0 ∧ s.axHas i .left = false ∧ s.axHas i .radar = false then 3
          else 1) := by
  have hcfg := axStart_regs i (s.put .AX_CFG i v) .AX_CFG i (by simp [mem_ofInst])
  have hst := axStart_state i (s.put .AX_CFG i v)
  have hty : (axStart i (s.put .AX_CFG i v)).axType i = (s.put .AX_CFG i v).axType i := fld_of_get hcfg
  rw [axHas_put _ _ _ _ _ (by decide), axHas_put _ _ _ _ _ (by decide), ← hty] at hst
  rw [get_put_same] at hcfg
  obtain ⟨hw, hr⟩ := axStart_corr i (s.put .AX_CFG i v)
  exact ⟨by rw [axEn_eq_bitAt, hcfg, hv], hcfg, axStart_rej .., hw, hr, axStart_tEn .., hst⟩

theorem axRefused_effect (v : Word) : (axRefused i v s).axEn i = false ∧
    (axRefused i v s).fld AX_STAT_REJ i = s.axReject i v ∧ (axRefused i v s).pends 32 = true := by
  have hle := axReject_le i s v
  refine ⟨?_, ?_, raiseLog_pends _ _ _ _ _ _ (by decide)⟩
  · simp (disch := decide) [axRefused, axEn, flag, setFlag, fld_raiseLog, fld_setFld_other, fld_setFld_same, b2n]
  · rw [axRefused, fld_raiseLog _ _ _ _ _ _ _ _ (by decide) (by decide), fld_setFld_lt _ _ _ _ (by decide)]
    exact Nat.lt_of_le_of_lt hle (by decide)

/-! ### Phase 2 of the enable tick (R74) -/

/-- The preset that an axis takes: of a MAINS axis without its fraction (R74, R94). -/
def presetTaken (s : State) (i : Nat) : Int := s.axPreset i - if s.axType i = 4 then s.axPreset i % 65536 else 0

theorem presetTaken_range : -2 ^ 47 ≤ s.presetTaken i ∧ s.presetTaken i < 2 ^ 47 := by
  obtain ⟨hlo, hhi⟩ := axPreset_range i s
  unfold presetTaken
  split_ifs <;> omega

theorem setVA_vel (v a : Word) : (setVA i v a s).axVel i = v := by
  rw [setVA, axVel, get_put_reg (by decide), get_put_same]
theorem setVA_acc (v a : Word) : (setVA i v a s).axAcc i = a := by rw [setVA, axAcc, get_put_same]
theorem get_setVA {r : Reg} (j : Nat) (v a : Word) (h : r ≠ .AX_VEL) (h' : r ≠ .AX_ACC) :
    (setVA i v a s).get r j = s.get r j := by
  rw [setVA, get_put_reg h', get_put_reg h]
theorem setVA_pos (v a : Word) : (setVA i v a s).axPos i = s.axPos i :=
  axPos_congr i (get_setVA _ _ _ _ _ (by decide) (by decide)) (get_setVA _ _ _ _ _ (by decide) (by decide))

@[simp] theorem regsOnly_setVA {l : List (Reg × Nat)} {t : State} {v a : Word} (hv : (.AX_VEL, i) ∈ l)
    (ha : (.AX_ACC, i) ∈ l) : regsOnly l s (setVA i v a t) ↔ regsOnly l s t := by simp [setVA, hv, ha]
@[simp] theorem regsOnly_setAxPos {l : List (Reg × Nat)} {t : State} {x : Int} (hlo : (.AX_POS_LO, i) ∈ l)
    (hhi : (.AX_POS_HI, i) ∈ l) : regsOnly l s (setAxPos i x t) ↔ regsOnly l s t := by simp [setAxPos, hlo, hhi]

/-- Position, speed and acceleration of an axis, by its registers. -/
theorem motion_congr {l : List (Reg × Nat)} {s t : State} (h : regsOnly l s t) (hlo : (.AX_POS_LO, i) ∉ l)
    (hhi : (.AX_POS_HI, i) ∉ l) (hv : (.AX_VEL, i) ∉ l) (ha : (.AX_ACC, i) ∉ l) :
    t.axPos i = s.axPos i ∧ t.axVel i = s.axVel i ∧ t.axAcc i = s.axAcc i :=
  ⟨axPos_congr i (h _ _ hlo) (h _ _ hhi), h _ _ hv, h _ _ ha⟩

/-- Beside the position, the speed and the acceleration, the enable tick writes the status alone. -/
theorem axAtEnable_regs : regsOnly (ofInst [.AX_STAT] i ++ evtRegs 46)
    (setVA i (if s.axType i = 5 then 0x49742400#32 else 0#32) 0#32 (setAxPos i (s.presetTaken i) s))
    (axAtEnable i s) := by
  have hx : (if s.axType i = tMains then s.axPreset i - s.axPreset i % 65536 else s.axPreset i) = s.presetTaken i := by
    unfold presetTaken tMains
    split_ifs <;> omega
  have ht : (setAxPos i (s.presetTaken i) s).axType i = s.axType i := fld_setAxPos _ _ _ _ _ (by decide) (by decide)
  simp [axAtEnable, hx, ht, tTime]

theorem axAtEnable_motion : (axAtEnable i s).axPos i = s.presetTaken i ∧
    (axAtEnable i s).axVel i = (if s.axType i = 5 then 0x49742400#32 else 0#32) ∧
      (axAtEnable i s).axAcc i = 0#32 := by
  obtain ⟨hlo, hhi⟩ := presetTaken_range i s
  obtain ⟨hx, hv, ha⟩ := motion_congr i (axAtEnable_regs i s) (by simp [mem_ofInst, evtRegs])
    (by simp [mem_ofInst, evtRegs]) (by simp [mem_ofInst, evtRegs]) (by simp [mem_ofInst, evtRegs])
  rw [hx, hv, ha, setVA_pos, setVA_vel, setVA_acc, axPos_setAxPos, wrap48_of_range hlo hhi]
  exact ⟨rfl, rfl, rfl⟩

/-- What an axis held at the end of the tick before, kept for the late test (R122). -/
def keepPrev (i : Nat) (s : State) : State :=
  modAx i (fun a => { a with prevX := s.axPos i, prevV := a.endV, prevA := a.endA }) s

/-- What it holds at the end of this one. -/
def keepEnd (i : Nat) (s : State) : State := modAx i (fun a => { a with endV := s.axVel i, endA := s.axAcc i }) s

@[simp] theorem get_keepPrev (r : Reg) (j : Nat) : (keepPrev i s).get r j = s.get r j := rfl
@[simp] theorem get_keepEnd (r : Reg) (j : Nat) : (keepEnd i s).get r j = s.get r j := rfl
theorem axPos_keepEnd (j : Nat) : (keepEnd i s).axPos j = s.axPos j := rfl
theorem axVel_keepEnd (j : Nat) : (keepEnd i s).axVel j = s.axVel j := rfl
theorem axAcc_keepEnd (j : Nat) : (keepEnd i s).axAcc j = s.axAcc j := rfl

theorem axUpdate_of_en (h : s.axEn i = true) : axUpdate i s = keepEnd i (axWork i (keepPrev i s)) := by
  rw [axUpdate, if_neg (by simp [h])]
  rfl

theorem axWork_at_enable (h : (s.ax i).tEn = s.T) : axWork i (keepPrev i s) = axAtEnable i (keepPrev i s) := by
  rw [axWork, if_pos (by rw [keepPrev, ax_modAx_same]; exact h)]

end
end State

/-! ### The commands -/

theorem located_axCfg (i : Fin 32) : located .AX_CFG i = true := by
  revert i
  decide

section
variable {c : Access} {i m : Nat} {v : Word} {u : State}

theorem bitAt_merged_axCfg : bitAt (u.merged m .AX_CFG i v) 0 = bitAt v 0 := by
  have h : u.merged m .AX_CFG i v = (u.get .AX_CFG i &&& ~~~ 0x1F007B#32) ||| (v &&& 0x1F007B#32) := rfl
  have h0 : bitAt (~~~ 0x1F007B#32) 0 = false := by decide
  have h1 : bitAt 0x1F007B#32 0 = true := by decide
  rw [h, bitAt_or, bitAt_and, bitAt_and, h0, h1, Bool.and_false, Bool.false_or, Bool.and_true]

theorem axEnable_bit : bitAt (u.merged m .AX_CFG i (v ||| 1#32)) 0 = true := by
  have h1 : bitAt 1#32 0 = true := by decide
  rw [bitAt_merged_axCfg, bitAt_or, h1, Bool.or_true]

/-- AX_CFG's own rules let a write pass while the axis is disabled. -/
theorem wrRes_axCfg_of_disabled (h : u.axEn i = false) :
    wrRes c .AX_CFG i v u = (axCfgWrite i (u.merged m .AX_CFG i v) u, .ok) := by
  rw [axEn_eq_bitAt] at h
  have hl : u.enLocked .AX_CFG i (u.merged m .AX_CFG i v) = false := by rw [enLocked, h, Bool.false_and]
  have hw : wrRes c .AX_CFG i v u = if u.enLocked .AX_CFG i (u.merged m .AX_CFG i v) then (u, .err) else
      (axCfgWrite i (u.merged m .AX_CFG i v) u, .ok) := rfl
  rw [hw, hl]
  rfl

/-- What the enabling write comes to. -/
theorem wrRes_axEnable (h : u.axEn i = false) (hr : u.axReject i (u.merged m .AX_CFG i (v ||| 1#32)) = 0) :
    wrRes c .AX_CFG i (v ||| 1#32) u = (axStart i (u.put .AX_CFG i (u.merged m .AX_CFG i (v ||| 1#32))), .ok) := by
  rw [wrRes_axCfg_of_disabled (m := m) h, axCfgWrite_enable _ _ axEnable_bit h hr]

/-- What one with a ground for refusal comes to. -/
theorem wrRes_axRefuse (h : u.axEn i = false) (hr : u.axReject i (u.merged m .AX_CFG i (v ||| 1#32)) ≠ 0) :
    wrRes c .AX_CFG i (v ||| 1#32) u = (axRefused i (u.merged m .AX_CFG i (v ||| 1#32)) u, .ok) := by
  rw [wrRes_axCfg_of_disabled (m := m) h, axCfgWrite_refuse _ _ axEnable_bit h hr]

end

/-- Settles O41, by the branches of an enabling write and of the enable tick. -/
theorem axisEnable : Obligations.AxisEnable := by
  refine ⟨fun m i v => ?_, fun m i v => ?_, fun i s he ht => ?_⟩
  · refine serves_of_wrRes_noted (fun _ => rfl) (located_axCfg i) (fun _ _ => rfl) (by decide) (by decide)
      (fun _ _ _ h => h) ?_
    rintro c u - - ⟨hoff, hr⟩
    refine ⟨_, wrRes_axEnable hoff hr, ?_, by simp, axStart_enabled i.val u axEnable_bit⟩
    refine regsOnly.trans ?_ ((axStart_regs i.val _).mono ?_)
    · simp
    · simp
  · refine serves_of_wrRes_noted (fun _ => rfl) (located_axCfg i) (fun _ _ => rfl) (by decide) (by decide)
      (fun _ _ _ h => h) ?_
    rintro c u - - ⟨hoff, hr⟩
    exact ⟨_, wrRes_axRefuse hoff hr, by simp [axRefused], by simp [axRefused], axRefused_effect i.val u _⟩
  · rw [axUpdate_of_en _ _ he, axWork_at_enable _ _ ht, axPos_keepEnd, axVel_keepEnd, axAcc_keepEnd]
    exact axAtEnable_motion i (keepPrev i s)

end Sys2Proof.Machine

end

section

/-!
Sources that go stale or recover, the selection after them, the stop and a lost yaw (O43).
-/

namespace Sys2Proof.Machine
open Kept State
namespace State

/-! ### What is pending -/

section
variable (s : State) (e e' i j n c t v : Nat) (f : Field) (r : Reg) (w : Word) (d : List Word) (b : Bool)

theorem bitAt_putBit_true (w : Word) {n k : Nat} (h : k < 32) :
    bitAt (putBit w k true) n = (bitAt w n || decide (n = k)) := by
  by_cases hn : n = k
  · rw [hn, bitAt_putBit_same _ _ h, decide_eq_true rfl, Bool.or_true]
  · rw [bitAt_putBit_ne _ _ hn, decide_eq_false hn, Bool.or_false]

theorem pends_raise (h : (evtHome e).2 < 32) :
    (raise e s).pends e' = (s.pends e' || decide (evtHome e' = evtHome e)) := by
  have hg : (raise e s).pends e' = (s.setRbit .EVT_PEND (evtHome e).1 (evtHome e).2 true).pends e' := by
    rw [pends, pends, rbit, rbit, raise, get_setRbit, if_neg (by simp)]
  rw [hg, pends, pends, rbit, rbit, get_setRbit]
  by_cases hp : (evtHome e').1 = (evtHome e).1
  · rw [if_pos ⟨rfl, hp⟩, bitAt_putBit_true _ h, hp]
    simp [Prod.ext_iff, hp]
  · rw [if_neg (by simp [hp]), decide_eq_false (by simp [Prod.ext_iff, hp]), Bool.or_false]

theorem pends_congr {s t : State} (h : t.get .EVT_PEND (evtHome e).1 = s.get .EVT_PEND (evtHome e).1) :
    t.pends e = s.pends e := by rw [pends, pends, rbit, rbit, h]

theorem pends_put (h : .EVT_PEND ≠ r) : (s.put r i w).pends e = s.pends e := pends_congr _ (get_put_reg h ..)
theorem pends_setFld (h : .EVT_PEND ≠ f.reg) : (s.setFld f i v).pends e = s.pends e := pends_put _ _ _ _ _ h
theorem pends_setFlag (h : .EVT_PEND ≠ f.reg) : (s.setFlag f i b).pends e = s.pends e := pends_put _ _ _ _ _ h
theorem pends_incSat (h : .EVT_PEND ≠ f.reg) : (s.incSat f i).pends e = s.pends e := pends_put _ _ _ _ _ h
theorem pends_modAx (g : Axis → Axis) : (modAx i g s).pends e = s.pends e := rfl
theorem pends_raiseOf (h : (evtHome e).2 < 32) :
    (raiseOf e n c s).pends e' = (s.pends e' || decide (evtHome e' = evtHome e)) :=
  (pends_congr _ (get_raiseOf ..)).trans (pends_raise s e e' h)
theorem pends_raiseLog (h : (evtHome e).2 < 32) :
    (raiseLog e n c t d s).pends e' = (s.pends e' || decide (evtHome e' = evtHome e)) :=
  (pends_congr _ (get_log38 ..)).trans (pends_raise s e e' h)

theorem fld_incSat_other {f g : Field} {i j : Nat} (h : f.reg ≠ g.reg ∨ f.hi < g.lo ∨ g.hi < f.lo) :
    (s.incSat g i).fld f j = s.fld f j := fld_setFld_other h

end

/-! ### The health of sources -/

section
variable (i : Nat) (k : AxSrc) (s : State)

theorem axOk_setAxOk (b : Bool) : (setAxOk i k b s).axOk i k = b := by cases k <;> simp [setAxOk, axOk]
theorem axOk_setAxRec (x : Recov) : (setAxRec i k x s).axOk i k = s.axOk i k := by
  cases k <;> simp [setAxRec, axOk]
theorem axOk_congr {s t : State} (h : t.ax i = s.ax i) : t.axOk i k = s.axOk i k := by cases k <;> simp [axOk, h]

/-- Whether the source as a whole is healthy, of which `k` is a part (R79). -/
def srcOk (s : State) (i : Nat) (k : AxSrc) : Bool :=
  match k with | .radar => s.radarOk i | .gnss => s.gnssOk i | _ => s.wheelOk i

@[simp] theorem ax_axOkBits (j : Nat) : (axOkBits i s).ax j = s.ax j := rfl

theorem axOkBits_active : (axOkBits i s).fld AX_STAT_ACTIVE i = s.fld AX_STAT_ACTIVE i := by
  simp (disch := decide) only [axOkBits, setFlag, fld_setFld_other]

theorem pends_axOkBits (e : Nat) : (axOkBits i s).pends e = s.pends e := by
  simp (disch := decide) only [axOkBits, pends_setFlag]

/-! ### The selection (R82, R86) -/

theorem axSelect_regs :
    regsOnly (ofInst [.AX_CNT, .AX_STAT] i ++ evtRegs 34 ++ evtRegs 36) s (axSelect i s) := by
  simp [axSelect]

theorem axSelect_axOk : (axSelect i s).axOk i k = s.axOk i k := by
  unfold axSelect
  dsimp only
  split_ifs <;> cases k <;> simp [axOk]

theorem bestSrc_le : s.bestSrc i ≤ 3 := by
  unfold bestSrc
  split_ifs <;> omega

/-- An event that pends before the selection pends after it. -/
theorem pends_axSelect {e : Nat} (h : s.pends e = true) : (axSelect i s).pends e = true := by
  unfold axSelect
  dsimp only
  split_ifs <;>
    simp (disch := decide) [pends_setFld, pends_raiseOf, pends_raiseLog, pends_incSat, pends_modAx, h]

/-- A change of the active source raises E034 (R82). -/
theorem axSelect_changed (h : (axSelect i s).fld AX_STAT_ACTIVE i ≠ s.fld AX_STAT_ACTIVE i) :
    (axSelect i s).pends 34 = true := by
  revert h
  unfold axSelect
  dsimp only
  split_ifs <;>
    simp (disch := decide) [pends_setFld, pends_raiseOf, pends_raiseLog, pends_incSat, pends_modAx]

/-- The loss of the last source raises E036 and starts the coast (R86). -/
theorem axSelect_lost (h : s.fld AX_STAT_ACTIVE i ≠ 3) (h3 : (axSelect i s).fld AX_STAT_ACTIVE i = 3) :
    (axSelect i s).pends 36 = true ∧ (axSelect i s).axState i = 2 := by
  have hb := bestSrc_le i s
  revert h3
  unfold axSelect axState
  dsimp only
  split_ifs with h1 h2 h4
  · exact fun h3 => absurd h3 h
  · exact fun h3 => absurd h3 h
  · intro _
    simp (disch := decide) [pends_raiseLog, fld_raiseLog, fld_modAx, fld_setFld_same, AX_STAT_STATE]
  · simp (disch := decide) [fld_setFld_other, fld_setFld_same, fld_incSat_other, fld_modAx, fld_raiseOf]
    intro h3
    rw [show 2 ^ (AX_STAT_ACTIVE.hi + 1 - AX_STAT_ACTIVE.lo) = 4 from rfl] at h3
    omega

/-! ### Staleness and recovery -/

/-- A source that goes stale, before the selection (R83). -/
def staleNoted (i : Nat) (k : AxSrc) (s : State) : State :=
  let t := when (k == .gnss) (modAx i fun a => { a with gNew := false }) (setAxRec i k {} (setAxOk i k false s))
  axOkBits i (if s.srcOk i k then (raiseLog 33 i noCause t.Tn [] t).incSat AX_CNT_STALE_CNT i else t)

theorem axStale_eq : axStale i k s = axSelect i (staleNoted i k s) := rfl

/-- A source that recovers, before the selection (R84). -/
def recoverNoted (i : Nat) (k : AxSrc) (s : State) : State :=
  let t := setAxRec i k {} (setAxOk i k true s)
  axOkBits i (when (t.srcOk i k) (raiseOf 35 i noCause) t)

theorem axRecover_eq : axRecover i k s = axSelect i (recoverNoted i k s) := rfl

@[simp] theorem regsOnly_setAxOk {l : List (Reg × Nat)} {s t : State} {b : Bool} :
    regsOnly l s (setAxOk i k b t) ↔ regsOnly l s t := .rfl
@[simp] theorem regsOnly_setAxRec {l : List (Reg × Nat)} {s t : State} {x : Recov} :
    regsOnly l s (setAxRec i k x t) ↔ regsOnly l s t := .rfl

theorem staleNoted_regs : regsOnly (ofInst [.AX_CNT, .AX_STAT] i ++ evtRegs 33) s (staleNoted i k s) := by
  simp [staleNoted, axOkBits, when]

theorem recoverNoted_regs : regsOnly (ofInst [.AX_STAT] i ++ evtRegs 35) s (recoverNoted i k s) := by
  simp [recoverNoted, axOkBits, when]

theorem ax_when_gNew (b : Bool) : axOk (when b (modAx i fun a => { a with gNew := false }) s) i k = s.axOk i k := by
  cases b
  · rfl
  · cases k <;> simp [when, axOk]

theorem staleNoted_axOk : (staleNoted i k s).axOk i k = false := by
  have h := (ax_when_gNew i k (setAxRec i k {} (setAxOk i k false s)) (k == .gnss)).trans
    ((axOk_setAxRec ..).trans (axOk_setAxOk ..))
  unfold staleNoted
  dsimp only
  rw [axOk_congr i k (ax_axOkBits ..)]
  split
  · rwa [axOk_congr i k ((ax_incSat ..).trans (ax_raiseLog ..))]
  · exact h

theorem recoverNoted_axOk : (recoverNoted i k s).axOk i k = true := by
  have h : (setAxRec i k {} (setAxOk i k true s)).axOk i k = true := (axOk_setAxRec ..).trans (axOk_setAxOk ..)
  unfold recoverNoted when
  dsimp only
  rw [axOk_congr i k (ax_axOkBits ..)]
  split
  · rwa [axOk_congr i k (ax_raiseOf ..)]
  · exact h

theorem staleNoted_active : (staleNoted i k s).fld AX_STAT_ACTIVE i = s.fld AX_STAT_ACTIVE i := by
  unfold staleNoted
  dsimp only
  rw [axOkBits_active]
  have h (t : State) : (((when (k == .gnss) (modAx i fun a => { a with gNew := false })
      (setAxRec i k {} (setAxOk i k false s)))).fld AX_STAT_ACTIVE i) = s.fld AX_STAT_ACTIVE i := by
    unfold when
    split <;> rfl
  split
  · rw [fld_incSat_other _ (by decide), fld_raiseLog _ _ _ _ _ _ _ _ (by decide) (by decide)]
    exact h s
  · exact h s

theorem recoverNoted_active : (recoverNoted i k s).fld AX_STAT_ACTIVE i = s.fld AX_STAT_ACTIVE i := by
  unfold recoverNoted when
  dsimp only
  rw [axOkBits_active]
  split
  · rw [fld_raiseOf _ _ _ _ _ _ (by decide) (by decide)]
    rfl
  · rfl

/-- A source that was healthy as a whole raises E033 as it goes stale. -/
theorem staleNoted_pends (h : s.srcOk i k = true) : (staleNoted i k s).pends 33 = true := by
  unfold staleNoted
  dsimp only
  rw [pends_axOkBits, if_pos h, pends_incSat _ _ _ _ (by decide)]
  exact raiseLog_pends _ _ _ _ _ _ (by decide)

/-- The health of a source as a whole rests on what is configured and on its parts. -/
theorem srcOk_congr {s t : State} (hs : t.get .AX_SRC i = s.get .AX_SRC i) (ho : ∀ k, t.axOk i k = s.axOk i k) :
    t.srcOk i k = s.srcOk i k := by
  have hf (f : Field) (hf : f.reg = .AX_SRC) : t.flag f i = s.flag f i := by rw [flag, flag, fld, fld, hf, hs]
  have hh (k : AxSrc) : t.axHas i k = s.axHas i k := by cases k <;> exact hf _ rfl
  have hw : t.wheelOk i = s.wheelOk i := by
    change (t.axHas i .left && t.axOk i .left && (!t.axHas i .right || t.axOk i .right)) = _
    rw [hh, hh, ho, ho]
    rfl
  cases k
  · exact hw
  · exact hw
  · exact congrArg₂ and (hh .radar) (ho .radar)
  · exact congrArg₂ and (hh .gnss) (ho .gnss)

/-- A source that is healthy as a whole after its recovery has raised E035. -/
theorem axRecover_pends (h : (axRecover i k s).srcOk i k = true) : (axRecover i k s).pends 35 = true := by
  have hs : (axRecover i k s).get .AX_SRC i = s.get .AX_SRC i := by
    rw [axRecover_eq, axSelect_regs i _ _ _ (by simp [mem_ofInst]), recoverNoted_regs i k s _ _ (by simp [mem_ofInst])]
  have ho (k' : AxSrc) : (axRecover i k s).axOk i k' = (setAxRec i k {} (setAxOk i k true s)).axOk i k' := by
    rw [axRecover_eq, axSelect_axOk, recoverNoted, axOk_congr i k' (ax_axOkBits ..), when]
    split
    · exact axOk_congr i k' (ax_raiseOf ..)
    · rfl
  have h' : (setAxRec i k {} (setAxOk i k true s)).srcOk i k = true := (srcOk_congr (s := setAxRec i k {} (setAxOk i k true s)) i k hs ho).symm.trans h
  rw [axRecover_eq]
  refine pends_axSelect _ _ ?_
  rw [recoverNoted, pends_axOkBits, h', when, if_pos rfl, pends_raiseOf _ _ _ _ _ (by decide), decide_eq_true rfl,
    Bool.or_true]

/-! ### The stop and a lost yaw -/

theorem axStopped_regs : regsOnly (ofInst [.AX_STAT, .AX_VEL, .AX_ACC] i ++ evtRegs 37) s (axStopped i s) := by
  simp [axStopped]

theorem axStopped_state : (axStopped i s).axState i = 3 ∧ (axStopped i s).axVel i = 0#32 ∧
    (axStopped i s).axAcc i = 0#32 ∧ (axStopped i s).pends 37 = true := by
  refine ⟨?_, ?_, ?_, raiseLog_pends _ _ _ _ _ _ (by decide)⟩
  · simp (disch := decide) [axStopped, axState, fld_raiseLog, fld_put_other, fld_setFld_same, AX_STAT_STATE]
  · rw [axStopped, axVel, get_raiseLog _ _ _ _ _ _ _ _ (by decide) (by decide), get_put_reg (by decide), get_put_same]
  · rw [axStopped, axAcc, get_raiseLog _ _ _ _ _ _ _ _ (by decide) (by decide), get_put_same]

/-- What the loss of yaw leaves (R90). -/
def yawGone (s : State) : State :=
  raiseLog 43 0 noCause s.Tn [] (((s.put .AX_YAW 0 0#32).setFld AX_YAW_STAT_USED 0 0).setFlag AX_YAW_STAT_LOST 0 true)

theorem yawLoss_of_due (h : (s.yawPick s.Tn).isNone = true) (hl : s.flag AX_YAW_STAT_LOST 0 = false) :
    yawLoss s = yawGone s := by rw [yawLoss, h, hl]; rfl

@[simp] theorem AX_YAW_STAT_USED_reg : AX_YAW_STAT_USED.reg = .AX_YAW_STAT := by rw [AX_YAW_STAT_USED]
@[simp] theorem AX_YAW_STAT_LOST_reg : AX_YAW_STAT_LOST.reg = .AX_YAW_STAT := by rw [AX_YAW_STAT_LOST]

theorem yawGone_regs : regsOnly ([(.AX_YAW, 0), (.AX_YAW_STAT, 0)] ++ evtRegs 43) s (yawGone s) := by simp [yawGone]

theorem yawGone_state : (yawGone s).get .AX_YAW 0 = 0#32 ∧ (yawGone s).fld AX_YAW_STAT_USED 0 = 0 ∧
    (yawGone s).flag AX_YAW_STAT_LOST 0 = true ∧ (yawGone s).pends 43 = true := by
  refine ⟨?_, ?_, ?_, raiseLog_pends _ _ _ _ _ _ (by decide)⟩
  · rw [yawGone, get_raiseLog _ _ _ _ _ _ _ _ (by decide) (by decide), setFlag, get_setFld_other _ _ _ _ _ _ (by decide),
      get_setFld_other _ _ _ _ _ _ (by decide), get_put_same]
  · simp (disch := decide) [yawGone, fld_raiseLog, setFlag, fld_setFld_other, fld_setFld_same]
  · simp (disch := decide) [yawGone, flag, fld_raiseLog, setFlag, fld_setFld_same, AX_YAW_STAT_LOST, b2n]

end
end State

/-- Settles O43: each source's own step, then the selection. -/
theorem axisSources : Obligations.AxisSources := by
  refine ⟨fun i k => ?_, fun i k => ?_, fun i => ?_, ?_⟩
  · refine arrives_of (f := srcStale i k) (fun _ => rfl) fun u h => ?_
    rw [show srcStale i k u = axSelect i (staleNoted i k u) from if_pos h]
    refine ⟨?_, by simp [← axStale_eq], ?_, fun hw => ?_, fun hc => ?_, fun h3 hn => ?_⟩
    · exact ((staleNoted_regs i.val k u).mono (by simp; tauto)).trans ((axSelect_regs i.val _).mono (by simp; tauto))
    · rw [axSelect_axOk, staleNoted_axOk]
    · exact pends_axSelect _ _ (staleNoted_pends _ _ _ hw)
    · exact axSelect_changed _ _ (by rwa [staleNoted_active])
    · exact axSelect_lost _ _ (by rwa [staleNoted_active]) h3
  · refine arrives_of (f := srcRecover i k) (fun _ => rfl) fun u h => ?_
    rw [show srcRecover i k u = axRecover i k u from if_pos h]
    refine ⟨?_, by simp, ?_, axRecover_pends i.val k u, fun hc => ?_⟩
    · rw [axRecover_eq]
      exact ((recoverNoted_regs i.val k u).mono (by simp; tauto)).trans ((axSelect_regs i.val _).mono (by simp; tauto))
    · rw [axRecover_eq, axSelect_axOk, recoverNoted_axOk]
    · rw [axRecover_eq] at hc ⊢
      exact axSelect_changed _ _ (by rwa [recoverNoted_active])
  · refine arrives_of (f := axisStopped i) (fun _ => rfl) fun u h => ?_
    rw [show axisStopped i u = axStopped i u from if_pos h]
    exact ⟨axStopped_regs _ _, by simp, axStopped_state ..⟩
  · refine arrives_of (f := yawLoss) (fun _ => rfl) fun u h => ?_
    rw [yawLoss_of_due _ h.1 h.2]
    exact ⟨yawGone_regs _, by simp [yawGone], yawGone_state _⟩

end Sys2Proof.Machine

end

section

/-!
MAINS axes (O44): what one edge does to each axis, and that the axes of an edge do not meet.
-/

namespace Sys2Proof.Machine
open Kept State
namespace State

/-! ### An axis among others -/

/-- Axis `i` stands as it stood, and every event that was pending pends. -/
structure sameAxis (i : Nat) (s t : State) : Prop where
  ax : t.ax i = s.ax i
  get : ∀ r, r ≠ .EVT_PEND → r ≠ .EVT_RAW → t.get r i = s.get r i
  pends : ∀ e, s.pends e = true → t.pends e = true

section
variable {i j : Nat} {s t u : State}

theorem sameAxis.refl (i : Nat) (s : State) : sameAxis i s s := ⟨rfl, fun _ _ _ => rfl, fun _ h => h⟩

theorem sameAxis.trans (h : sameAxis i s t) (h' : sameAxis i t u) : sameAxis i s u :=
  ⟨h'.ax.trans h.ax, fun r h1 h2 => (h'.get r h1 h2).trans (h.get r h1 h2), fun e he => h'.pends e (h.pends e he)⟩

theorem sameAxis.fld (h : sameAxis i s t) (f : Field) (h1 : f.reg ≠ .EVT_PEND := by decide)
    (h2 : f.reg ≠ .EVT_RAW := by decide) : t.fld f i = s.fld f i := fld_of_get (h.get _ h1 h2)

theorem sameAxis.flag (h : sameAxis i s t) (f : Field) (h1 : f.reg ≠ .EVT_PEND := by decide)
    (h2 : f.reg ≠ .EVT_RAW := by decide) : t.flag f i = s.flag f i := by rw [State.flag, State.flag, h.fld f h1 h2]

/-- Along a list, each step of which leaves what belongs to the others as it was, what belongs to one outside it stays. -/
theorem each_outside {R : State → State → Prop} {f : Nat → State → State} (hr : ∀ s, R s s)
    (ht : ∀ {s t u}, R s t → R t u → R s u) (hf : ∀ j s, j ≠ i → R s (f j s)) {x : List Nat} (hi : i ∉ x) (s : State) :
    R s (each x f s) := by
  induction x generalizing s with
  | nil => exact hr s
  | cons a x ih =>
    rw [List.mem_cons, not_or] at hi
    exact ht (hf a s (Ne.symm hi.1)) (ih hi.2 _)

/-- What belongs to one of the list is met as it was and left as its own step leaves it. -/
theorem each_inside {R : State → State → Prop} {f : Nat → State → State} (hr : ∀ s, R s s)
    (ht : ∀ {s t u}, R s t → R t u → R s u) (hf : ∀ j s, j ≠ i → R s (f j s)) {x : List Nat}
    (hi : i ∈ x) (hx : x.Nodup) (s : State) : ∃ v, R s v ∧ R (f i v) (each x f s) := by
  induction x generalizing s with
  | nil => cases hi
  | cons a x ih =>
    rw [List.nodup_cons] at hx
    by_cases ha : a = i
    · subst ha
      exact ⟨s, hr s, each_outside hr ht hf hx.1 _⟩
    · obtain ⟨v, hv, hv'⟩ := ih ((List.mem_cons.1 hi).resolve_left (Ne.symm ha)) hx.2 (f a s)
      exact ⟨v, ht (hf a s ha) hv, hv'⟩

theorem sameAxis_of {l : List (Reg × Nat)} (hr : regsOnly l s t) (hl : ∀ r, (r, i) ∈ l → r = .EVT_PEND ∨ r = .EVT_RAW)
    (ha : t.ax i = s.ax i) (hp : ∀ e, s.pends e = true → t.pends e = true) : sameAxis i s t :=
  ⟨ha, fun r h1 h2 => hr r i fun h => (hl r h).elim h1 h2, hp⟩

end

/-! ### Edges (R94 to R96) -/

/-- What an edge at input `h` does to axis `i`. -/
def edgeStep (h : Nat) (rising : Bool) (t i : Nat) (s : State) : State :=
  if s.axEn i && s.axType i == tMains && s.fld AX_SRC_WL i % 4 == h && (s.flag AX_MAINS_EDGE i != rising) &&
     decide ((s.ax i).tEn ≤ t) then
    match s.axState i with
    | 4 => mainsAcquire i t s
    | 3 => mainsAcquire i t (mainsReturn i t s)
    | 1 => mainsRun i t s
    | _ => s
  else s

theorem mainsEdge_eq (h t : Nat) (rising : Bool) (s : State) :
    mainsEdge h rising t s = if (rateTake (2 + h) 140 t (recNote 4 h t [BitVec.ofNat 32 (b2n rising)] s)).2
      then axOver h t (rateTake (2 + h) 140 t (recNote 4 h t [BitVec.ofNat 32 (b2n rising)] s)).1
      else each (List.range 32) (edgeStep h rising t)
        (rateTake (2 + h) 140 t (recNote 4 h t [BitVec.ofNat 32 (b2n rising)] s)).1 := rfl

/-- The frequency that two edges show (R94). -/
def edgeFreq (s : State) (t i : Nat) : Word := f32.ofRat 200000000 (t - (s.ax i).mains.last)

/-- The phase error that an edge reads, the frequency, speed and acceleration that it gives (R95). -/
def phaseErr (s : State) (t i : Nat) : Word := f32.ofScaled (signed 32 (unsig 32 (s.mainsAt i t))) 32
def nextFreq (s : State) (t i : Nat) : Word :=
  f32.mul (s.ax i).mains.f (f32.sub f32.one (f32.mul (s.phaseErr t i) 0x3D800000#32))
def nextVel (s : State) (t i : Nat) : Word :=
  f32.mul (f32.mul f65536 (s.nextFreq t i)) (f32.sub f32.one (f32.mul (s.phaseErr t i) 0x3E800000#32))
def nextAcc (s : State) (t i : Nat) : Word :=
  f32.div (f32.sub (s.nextVel t i) (s.axVel i)) (f32.ofRat (t - (s.ax i).mains.last) 200000000)

/-- The registers of a MAINS axis that its edges write. -/
def mainsRegs (i : Nat) : List (Reg × Nat) :=
  ofInst [.AX_STAT, .AX_VEL, .AX_ACC, .AX_CNT] i ++ evtRegs 40 ++ evtRegs 41 ++ evtRegs 42

section
variable (i t h : Nat) (rising : Bool) (s : State)

@[simp] theorem mainsUnlock_regs : regsOnly (mainsRegs i) s (mainsUnlock i t s) := by
  simp [mainsUnlock, mainsRegs]
@[simp] theorem mainsAcquire_regs : regsOnly (mainsRegs i) s (mainsAcquire i t s) := by
  simp [mainsAcquire, mainsRegs]
@[simp] theorem mainsReturn_regs : regsOnly (mainsRegs i) s (mainsReturn i t s) := by
  simp [mainsReturn, mainsRegs]

theorem mainsLost_regs :
    regsOnly (mainsRegs i) s (raiseLog 42 i noCause t [] (mainsReturn i t (mainsUnlock i t s))) := by
  have h := (mainsUnlock_regs i t s).trans (mainsReturn_regs i t _)
  rw [regsOnly_raiseLog (by simp [mainsRegs]) (by simp [mainsRegs])]
  exact h

/-- The branches of an edge in RUN: too early, a frequency out of range, accepted. -/
theorem mainsRun_ind {P : State → Prop}
    (early : mainsSpan (s.ax i).mains.f 3 5 (t - (s.ax i).mains.last) = false → P (s.incSat AX_CNT_STALE_CNT i))
    (lost : mainsInRange (s.nextFreq t i) = false →
      P (raiseLog 42 i noCause t [] (mainsReturn i t (mainsUnlock i t s))))
    (taken : mainsInRange (s.nextFreq t i) = true → ∀ (g : Axis → Axis) (b c : Bool),
      (∀ a, (g a).mains.f = s.nextFreq t i ∧ (g a).mains.last = t) →
      P (when c (mainsUnlock i t) (when b (fun u => raiseOf 40 i noCause (u.setFlag AX_STAT_LOCK i true))
        (setVA i (s.nextVel t i) (s.nextAcc t i) (modAx i g s))))) : P (mainsRun i t s) := by
  unfold mainsRun
  extract_lets m x e f v a ae small large s1 s2 s3
  have h3 : s3 = when (decide (8 ≤ small) && !s2.flag AX_STAT_LOCK i)
      (fun u => raiseOf 40 i noCause (u.setFlag AX_STAT_LOCK i true)) s2 := rfl
  split_ifs with h1 h2 h4
  · exact early (by simpa using h1)
  · have hf : mainsInRange f = false := by simpa using h2
    exact lost hf
  · have hf : mainsInRange f = true := by simpa using h2
    rw [h3]
    exact taken hf _ _ true fun _ => ⟨rfl, rfl⟩
  · have hf : mainsInRange f = true := by simpa using h2
    rw [h3]
    exact taken hf _ _ false fun _ => ⟨rfl, rfl⟩

theorem mainsRun_regs : regsOnly (mainsRegs i) s (mainsRun i t s) := by
  refine mainsRun_ind i t s (fun _ => by simp [mainsRegs]) (fun _ => mainsLost_regs i t s) fun _ g b c _ => ?_
  rw [regsOnly_when (mainsUnlock_regs i t _), regsOnly_when (by simp [mainsRegs])]
  simp [mainsRegs]

theorem mainsUnlock_pends {e : Nat} (h : s.pends e = true) : (mainsUnlock i t s).pends e = true := by
  unfold mainsUnlock
  split
  · simp (disch := decide) [pends_raiseLog, pends_incSat, pends_setFlag, h]
  · exact h

theorem mainsReturn_pends {e : Nat} (h : s.pends e = true) : (mainsReturn i t s).pends e = true := by
  simp (disch := decide) [mainsReturn, setVA, pends_put, pends_setFld, pends_modAx, h]

theorem mainsAcquire_pends {e : Nat} (h : s.pends e = true) : (mainsAcquire i t s).pends e = true := by
  unfold mainsAcquire
  dsimp only
  split_ifs <;> simp (disch := decide) [pends_put, pends_setFld, pends_modAx, h]

theorem mainsLost_pends {e : Nat} (h : s.pends e = true) :
    (raiseLog 42 i noCause t [] (mainsReturn i t (mainsUnlock i t s))).pends e = true := by
  rw [pends_raiseLog _ _ _ _ _ _ _ (by decide), mainsReturn_pends _ _ _ (mainsUnlock_pends _ _ _ h), Bool.true_or]

theorem mainsRun_pends {e : Nat} (h : s.pends e = true) : (mainsRun i t s).pends e = true := by
  refine mainsRun_ind i t s (P := fun u => u.pends e = true) (fun _ => ?_) (fun _ => mainsLost_pends i t s h) fun _ g b c _ => ?_
  · rwa [pends_incSat _ _ _ _ (by decide)]
  · have h2 : (when b (fun u => raiseOf 40 i noCause (u.setFlag AX_STAT_LOCK i true))
        (setVA i (s.nextVel t i) (s.nextAcc t i) (modAx i g s))).pends e = true := by
      cases b <;>
        simp (disch := decide) [when, setVA, pends_raiseOf, pends_setFlag, pends_put, pends_modAx, h]
    cases c
    · exact h2
    · exact mainsUnlock_pends _ _ _ h2

@[simp] theorem mainsUnlock_ax (j : Nat) : (mainsUnlock i t s).ax j = s.ax j := by
  unfold mainsUnlock
  split <;> simp

@[simp] theorem setVA_ax (v a : Word) (j : Nat) : (setVA i v a s).ax j = s.ax j := rfl

section
variable {j : Nat} (hj : j ≠ i)
include hj

theorem mainsReturn_ax : (mainsReturn i t s).ax j = s.ax j := by
  simp [mainsReturn, ax_modAx_ne i _ hj]

theorem mainsAcquire_ax : (mainsAcquire i t s).ax j = s.ax j := by
  unfold mainsAcquire
  dsimp only
  split_ifs <;> simp [ax_modAx_ne i _ hj]

theorem mainsRun_ax : (mainsRun i t s).ax j = s.ax j := by
  refine mainsRun_ind i t s (P := fun u => u.ax j = s.ax j) (fun _ => rfl) (fun _ => ?_) fun _ g b c _ => ?_
  · rw [ax_raiseLog, mainsReturn_ax _ _ _ hj, mainsUnlock_ax]
  · have h2 : (when b (fun u => raiseOf 40 i noCause (u.setFlag AX_STAT_LOCK i true))
        (setVA i (s.nextVel t i) (s.nextAcc t i) (modAx i g s))).ax j = s.ax j := by
      cases b <;> simp [when, ax_modAx_ne i _ hj]
    cases c
    · exact h2
    · rw [when, if_pos rfl, mainsUnlock_ax, h2]

/-- An edge's work on one axis leaves the others as they are. -/
theorem edgeStep_sameAxis : sameAxis j s (edgeStep h rising t i s) := by
  have hl (r : Reg) (hr : (r, j) ∈ mainsRegs i) : r = .EVT_PEND ∨ r = .EVT_RAW := by
    simp [mainsRegs, hj] at hr
    tauto
  unfold edgeStep
  split
  · split
    · exact sameAxis_of (mainsAcquire_regs i t s) hl (mainsAcquire_ax i t s hj) fun e => mainsAcquire_pends i t s
    · refine (sameAxis_of (mainsReturn_regs i t s) hl (mainsReturn_ax i t s hj) fun e => mainsReturn_pends i t s).trans ?_
      exact sameAxis_of (mainsAcquire_regs i t _) hl (mainsAcquire_ax i t _ hj) fun e => mainsAcquire_pends i t _
    · exact sameAxis_of (mainsRun_regs i t s) hl (mainsRun_ax i t s hj) fun e => mainsRun_pends i t s
    · exact .refl j s
  · exact .refl j s

end

theorem edgeStep_regs : regsOnly (mainsRegs i) s (edgeStep h rising t i s) := by
  unfold edgeStep
  split
  · split
    · exact mainsAcquire_regs i t s
    · exact (mainsReturn_regs i t s).trans (mainsAcquire_regs i t _)
    · exact mainsRun_regs i t s
    · exact regsOnly_refl _ s
  · exact regsOnly_refl _ s

/-! ### What an edge does to the axis that takes it -/

/-- An axis listens to the input and edge, and is enabled by then. -/
def hears (s : State) (h : Nat) (rising : Bool) (t i : Nat) : Prop :=
  s.axEn i = true ∧ s.axType i = 4 ∧ s.fld AX_SRC_WL i % 4 = h ∧ s.flag AX_MAINS_EDGE i ≠ rising ∧ (s.ax i).tEn ≤ t

theorem edgeStep_of_hears (hh : s.hears h rising t i) : edgeStep h rising t i s = match s.axState i with
    | 4 => mainsAcquire i t s
    | 3 => mainsAcquire i t (mainsReturn i t s)
    | 1 => mainsRun i t s
    | _ => s := by
  obtain ⟨h1, h2, h3, h4, h5⟩ := hh
  unfold edgeStep
  exact if_pos (by simp [h1, h2, h3, h4, h5, tMains])

theorem sameAxis.hears {s v : State} (hs : sameAxis i s v) (hh : s.hears h rising t i) : v.hears h rising t i := by
  obtain ⟨h1, h2, h3, h4, h5⟩ := hh
  exact ⟨(hs.flag AX_CFG_EN).trans h1, (hs.fld AX_CFG_TYPE).trans h2, by rw [hs.fld AX_SRC_WL, h3],
    by rwa [hs.flag AX_MAINS_EDGE], by rwa [hs.ax]⟩

theorem mainsAcquire_arms (ha : (s.ax i).mains.armed = false) : ((mainsAcquire i t s).ax i).mains.armed = true ∧
    ((mainsAcquire i t s).ax i).mains.last = t ∧ (mainsAcquire i t s).axState i = s.axState i := by
  rw [mainsAcquire, if_pos (by simp [ha]), ax_modAx_same]
  exact ⟨rfl, rfl, rfl⟩

theorem mainsAcquire_runs (ha : (s.ax i).mains.armed = true) (ht : (s.ax i).mains.last < t)
    (hf : mainsInRange (s.edgeFreq t i) = true) : (mainsAcquire i t s).axState i = 1 ∧
      (mainsAcquire i t s).axVel i = f32.mul f65536 (s.edgeFreq t i) := by
  have hf' : mainsInRange (f32.ofRat 200000000 (t - (s.ax i).mains.last)) = true := hf
  simp only [mainsAcquire, ha, Bool.not_true, Bool.false_eq_true, if_false, hf', if_true, if_neg (Nat.not_le.2 ht)]
  constructor
  · simp (disch := decide) [axState, fld_put_other, fld_setFld_same, AX_STAT_STATE]
  · exact get_put_same ..

theorem mainsRun_early (hs : mainsSpan (s.ax i).mains.f 3 5 (t - (s.ax i).mains.last) = false) :
    mainsRun i t s = s.incSat AX_CNT_STALE_CNT i := by
  simp only [mainsRun, hs, Bool.not_false, if_true]

theorem mainsLost_state : (raiseLog 42 i noCause t [] (mainsReturn i t (mainsUnlock i t s))).axState i = 4 ∧
    (raiseLog 42 i noCause t [] (mainsReturn i t (mainsUnlock i t s))).axVel i = 0#32 ∧
      (raiseLog 42 i noCause t [] (mainsReturn i t (mainsUnlock i t s))).axAcc i = 0#32 ∧
        (raiseLog 42 i noCause t [] (mainsReturn i t (mainsUnlock i t s))).pends 42 = true := by
  refine ⟨?_, ?_, ?_, raiseLog_pends _ _ _ _ _ _ (by decide)⟩
  · simp (disch := decide) [axState, fld_raiseLog, mainsReturn, setVA, fld_put_other, fld_setFld_same, AX_STAT_STATE]
  · rw [axVel, get_raiseLog _ _ _ _ _ _ _ _ (by decide) (by decide)]
    exact setVA_vel ..
  · rw [axAcc, get_raiseLog _ _ _ _ _ _ _ _ (by decide) (by decide)]
    exact setVA_acc ..

/-- An edge whose frequency leaves the range puts the axis back in ACQUIRE (R96). -/
theorem mainsRun_lost (hs : mainsSpan (s.ax i).mains.f 3 5 (t - (s.ax i).mains.last) = true)
    (hf : mainsInRange (s.nextFreq t i) = false) : (mainsRun i t s).axState i = 4 ∧ (mainsRun i t s).axVel i = 0#32 ∧
      (mainsRun i t s).axAcc i = 0#32 ∧ (mainsRun i t s).pends 42 = true := by
  refine mainsRun_ind i t s (P := fun u => u.axState i = 4 ∧ u.axVel i = 0#32 ∧ u.axAcc i = 0#32 ∧ u.pends 42 = true)
    (fun h => ?_) (fun _ => mainsLost_state i t s) fun h => ?_
  · rw [hs] at h
    cases h
  · rw [hf] at h
    cases h

/-- What a change of the lock leaves of an axis. -/
def sameRun (i : Nat) (s u : State) : Prop :=
  u.ax i = s.ax i ∧ u.axState i = s.axState i ∧ u.axVel i = s.axVel i ∧ u.axAcc i = s.axAcc i

theorem sameRun.trans {i : Nat} {s u v : State} (h : sameRun i s u) (h' : sameRun i u v) : sameRun i s v := by
  obtain ⟨h1, h2, h3, h4⟩ := h
  obtain ⟨h1', h2', h3', h4'⟩ := h'
  exact ⟨h1'.trans h1, h2'.trans h2, h3'.trans h3, h4'.trans h4⟩

theorem mainsLock_sameRun : sameRun i s (raiseOf 40 i noCause (s.setFlag AX_STAT_LOCK i true)) := by
  simp (disch := decide) [sameRun, axState, axVel, axAcc, fld_raiseOf, get_raise, setFlag, fld_setFld_other, get_setFld_other]

theorem mainsUnlock_sameRun : sameRun i s (mainsUnlock i t s) := by
  unfold mainsUnlock
  split
  · simp (disch := decide) [sameRun, axState, axVel, axAcc, fld_raiseLog, get_raiseLog, incSat, setFlag,
      fld_setFld_other, get_setFld_other]
  · exact ⟨rfl, rfl, rfl, rfl⟩

theorem sameRun_when {c : Bool} {f : State → State} (hf : sameRun i s (f s)) : sameRun i s (when c f s) := by
  cases c
  · exact ⟨rfl, rfl, rfl, rfl⟩
  · exact hf

/-- An accepted edge steers the axis (R95). -/
theorem mainsRun_taken (h1 : s.axState i = 1)
    (hs : mainsSpan (s.ax i).mains.f 3 5 (t - (s.ax i).mains.last) = true)
    (hf : mainsInRange (s.nextFreq t i) = true) : ((mainsRun i t s).ax i).mains.f = s.nextFreq t i ∧
      ((mainsRun i t s).ax i).mains.last = t ∧ (mainsRun i t s).axState i = 1 ∧
        (mainsRun i t s).axVel i = s.nextVel t i ∧ (mainsRun i t s).axAcc i = s.nextAcc t i := by
  refine mainsRun_ind i t s (P := fun u => (u.ax i).mains.f = s.nextFreq t i ∧ (u.ax i).mains.last = t ∧
    u.axState i = 1 ∧ u.axVel i = s.nextVel t i ∧ u.axAcc i = s.nextAcc t i) (fun h => ?_) (fun h => ?_)
    fun _ g b c hg => ?_
  · rw [hs] at h
    cases h
  · rw [hf] at h
    cases h
  · obtain ⟨ha, hst, hv, hac⟩ := (sameRun_when i (setVA i (s.nextVel t i) (s.nextAcc t i) (modAx i g s)) (c := b)
      (f := fun u => raiseOf 40 i noCause (u.setFlag AX_STAT_LOCK i true)) (mainsLock_sameRun i _)).trans (sameRun_when i _ (c := c) (mainsUnlock_sameRun i t _))
    rw [ha, hst, hv, hac, setVA_vel, setVA_acc, setVA_ax, ax_modAx_same]
    exact ⟨(hg _).1, (hg _).2, (fld_of_get (get_setVA _ _ _ _ _ (by decide) (by decide))).trans h1, rfl, rfl⟩

/-! ### Missing edges (R96) -/

/-- What 2 / f without an edge leaves. -/
theorem mainsMissing_of_due (hen : s.axEn i = true) (hty : s.axType i = 4) (hst : s.axState i = 1)
    (hm : (s.ax i).mains.missed = false) (hd : mainsSpan (s.ax i).mains.f 2 1 (s.Tn - (s.ax i).mains.last) = true) :
    ∃ g, mainsMissing i s = mainsUnlock i s.Tn (setVA i (f32.mul f65536 (s.ax i).mains.f) 0#32 (modAx i g s)) :=
  ⟨_, if_pos (by simp [hen, hty, hst, hm, hd, tMains])⟩

/-- What 5 / f without an edge leaves. -/
theorem mainsGone_of_due (hen : s.axEn i = true) (hty : s.axType i = 4) (hst : s.axState i = 1)
    (hd : mainsSpan (s.ax i).mains.f 5 1 (s.Tn - (s.ax i).mains.last) = true) :
    ∃ g, mainsGone i s = setVA i 0#32 0#32 ((modAx i g s).setFld AX_STAT_STATE i 3) :=
  ⟨_, if_pos (by simp [hen, hty, hst, hd, tMains])⟩

theorem mainsUnlock_lock : (mainsUnlock i t s).flag AX_STAT_LOCK i = false := by
  by_cases hl : s.flag AX_STAT_LOCK i = true
  · rw [mainsUnlock, if_pos hl]
    simp (disch := decide) [flag, fld_raiseLog, fld_incSat_other, setFlag, fld_setFld_same, b2n]
  · rw [mainsUnlock, if_neg hl]
    simpa using hl

theorem mainsUnlock_pends_of_lock (hl : s.flag AX_STAT_LOCK i = true) : (mainsUnlock i t s).pends 41 = true := by
  rw [mainsUnlock, if_pos hl]
  exact raiseLog_pends _ _ _ _ _ _ (by decide)

end
end State

/-- An event at a pad of a module that hears its pads. -/
theorem arrives_of_pad {x : Instr} {f : State → State} {ok : State → Prop} {l : List (Reg × Nat)}
    {eff : State → State → Prop} (he : ∀ s, exec x s = .next (if s.met.deaf then s.met else f s.met))
    (hd : ∀ u, ok u → u.deaf = false) (h : ∀ u, ok u → regsOnly l u (f u) ∧ (f u).kept = u.kept ∧ eff u (f u)) :
    Arrives x ok l eff := by
  refine arrives_of (f := fun u => if u.deaf then u else f u) he fun u ho => ?_
  simp only [hd u ho, Bool.false_eq_true, if_false]
  exact h u ho

/-- What an edge does to each axis, for a module whose input is within its rating. -/
theorem mainsEdge_at (h t : Nat) (e : Bool) (u : State) (hr : (rateTake (2 + h) 140 t u).2 = false) {i : Nat}
    (hi : i < 32) : ∃ v, sameAxis i u v ∧ sameAxis i (edgeStep h e t i v) (mainsEdge h e t u) := by
  have hr' : (rateTake (2 + h) 140 t (recNote 4 h t [BitVec.ofNat 32 (b2n e)] u)).2 = false := by
    obtain ⟨y, hy⟩ := recNote_eq_setRecorder 4 h t [BitVec.ofNat 32 (b2n e)] u
    rw [hy]
    exact hr
  have h0 : sameAxis i u (rateTake (2 + h) 140 t (recNote 4 h t [BitVec.ofNat 32 (b2n e)] u)).1 := by
    obtain ⟨y, hy⟩ := recNote_eq_setRecorder 4 h t [BitVec.ofNat 32 (b2n e)] u
    rw [hy]
    exact ⟨rfl, fun _ _ _ => rfl, fun _ h => h⟩
  obtain ⟨v, hv, hv'⟩ := each_inside (R := sameAxis i) (f := edgeStep h e t) (.refl i) 
    .trans (fun j s hj => edgeStep_sameAxis j t h e s (Ne.symm hj)) (List.mem_range.2 hi) List.nodup_range (rateTake (2 + h) 140 t (recNote 4 h t [BitVec.ofNat 32 (b2n e)] u)).1
  refine ⟨v, h0.trans hv, ?_⟩
  rw [mainsEdge_eq, hr']
  exact hv'

theorem mainsEdge_regs (h t : Nat) (e : Bool) (u : State) (hr : (rateTake (2 + h) 140 t u).2 = false) :
    regsOnly (ofAll [.AX_STAT, .AX_VEL, .AX_ACC, .AX_CNT] 32 ++ evtRegs 40 ++ evtRegs 41 ++ evtRegs 42) u
      (mainsEdge h e t u) := by
  obtain ⟨y, hy⟩ := recNote_eq_setRecorder 4 h t [BitVec.ofNat 32 (b2n e)] u
  rw [mainsEdge_eq, hy, if_neg (by rw [Bool.not_eq_true]; exact hr)]
  refine regsOnly.trans (fun _ _ _ => rfl) (regsOnly_each (fun i hi s => (edgeStep_regs i t h e s).mono ?_) _)
  rw [List.mem_range] at hi
  intro r j
  simp [mainsRegs]
  rintro (⟨h, rfl⟩ | h)
  · exact .inl ⟨h, hi⟩
  · exact .inr h

/-- What an edge leaves of an axis that hears it is what its step on the axis leaves. -/
theorem mainsEdge_heard {h t : Nat} {e : Bool} {u : State} {i : Nat} (hr : (rateTake (2 + h) 140 t u).2 = false)
    (hi : i < 32) (hh : u.hears h e t i) : ∃ v, sameAxis i u v ∧ sameAxis i (match u.axState i with
      | 4 => mainsAcquire i t v
      | 3 => mainsAcquire i t (mainsReturn i t v)
      | 1 => mainsRun i t v
      | _ => v) (mainsEdge h e t u) := by
  obtain ⟨v, hv, hv'⟩ := mainsEdge_at h t e u hr hi
  rw [edgeStep_of_hears i t h e v (hv.hears i t h e hh), axState, hv.fld AX_STAT_STATE] at hv'
  exact ⟨v, hv, hv'⟩

namespace State
section
variable {i : Nat} {u v : State} (hv : sameAxis i u v)
include hv

theorem sameAxis.state : v.axState i = u.axState i := hv.fld AX_STAT_STATE
theorem sameAxis.vel : v.axVel i = u.axVel i := hv.get .AX_VEL (by decide) (by decide)
theorem sameAxis.acc : v.axAcc i = u.axAcc i := hv.get .AX_ACC (by decide) (by decide)
theorem sameAxis.edgeFreq (t : Nat) : v.edgeFreq t i = u.edgeFreq t i := by rw [State.edgeFreq, State.edgeFreq, hv.ax]
theorem sameAxis.phaseErr (t : Nat) : v.phaseErr t i = u.phaseErr t i := by
  rw [State.phaseErr, State.phaseErr, mainsAt, mainsAt, hv.ax, hv.vel]
theorem sameAxis.nextFreq (t : Nat) : v.nextFreq t i = u.nextFreq t i := by
  rw [State.nextFreq, State.nextFreq, hv.phaseErr, hv.ax]
theorem sameAxis.nextVel (t : Nat) : v.nextVel t i = u.nextVel t i := by
  rw [State.nextVel, State.nextVel, hv.phaseErr, hv.nextFreq]
theorem sameAxis.nextAcc (t : Nat) : v.nextAcc t i = u.nextAcc t i := by
  rw [State.nextAcc, State.nextAcc, hv.nextVel, hv.ax, hv.vel]

end
end State

/-! ### An edge's work on a MAINS axis, by what it meets (R94 to R96) -/

section
variable {h t : Nat} {e : Bool} {u : State} {i : Nat} (hr : (rateTake (2 + h) 140 t u).2 = false) (hi : i < 32)
  (hh : u.hears h e t i)
include hr hi hh

theorem mainsEdge_arms (hst : u.axState i = 4) (ha : (u.ax i).mains.armed = false) :
    ((mainsEdge h e t u).ax i).mains.armed = true ∧ ((mainsEdge h e t u).ax i).mains.last = t ∧
      (mainsEdge h e t u).axState i = 4 := by
  obtain ⟨v, hv, ht⟩ := mainsEdge_heard hr hi hh
  rw [hst] at ht
  obtain ⟨h1, h2, h3⟩ := mainsAcquire_arms i t v (by rw [hv.ax, ha])
  rw [ht.ax, ht.state]
  exact ⟨h1, h2, h3.trans (hv.state.trans hst)⟩

theorem mainsEdge_runs (hst : u.axState i = 4) (ha : (u.ax i).mains.armed = true) (hl : (u.ax i).mains.last < t)
    (hf : mainsInRange (u.edgeFreq t i) = true) :
    (mainsEdge h e t u).axState i = 1 ∧ (mainsEdge h e t u).axVel i = f32.mul f65536 (u.edgeFreq t i) := by
  obtain ⟨v, hv, ht⟩ := mainsEdge_heard hr hi hh
  rw [hst] at ht
  obtain ⟨h1, h2⟩ := mainsAcquire_runs i t v (by rw [hv.ax, ha]) (by rwa [hv.ax]) (by rwa [hv.edgeFreq])
  rw [ht.state, ht.vel, ← hv.edgeFreq]
  exact ⟨h1, h2⟩

theorem mainsEdge_early (hst : u.axState i = 1)
    (hs : mainsSpan (u.ax i).mains.f 3 5 (t - (u.ax i).mains.last) = false) :
    (mainsEdge h e t u).fld AX_CNT_STALE_CNT i = min (u.fld AX_CNT_STALE_CNT i + 1)
      (2 ^ (AX_CNT_STALE_CNT.hi + 1 - AX_CNT_STALE_CNT.lo) - 1) ∧ (mainsEdge h e t u).axVel i = u.axVel i := by
  obtain ⟨v, hv, ht⟩ := mainsEdge_heard hr hi hh
  rw [hst] at ht
  have hm : mainsRun i t v = v.incSat AX_CNT_STALE_CNT i := mainsRun_early i t v (by rw [hv.ax, hs])
  have ht' : sameAxis i (v.incSat AX_CNT_STALE_CNT i) (mainsEdge h e t u) := hm ▸ ht
  rw [ht'.fld AX_CNT_STALE_CNT, ht'.vel, fld_incSat v AX_CNT_STALE_CNT i, hv.fld AX_CNT_STALE_CNT, ← hv.vel]
  exact ⟨rfl, get_setFld_other _ _ _ _ _ _ (by decide)⟩

theorem mainsEdge_taken (hst : u.axState i = 1)
    (hs : mainsSpan (u.ax i).mains.f 3 5 (t - (u.ax i).mains.last) = true)
    (hf : mainsInRange (u.nextFreq t i) = true) : ((mainsEdge h e t u).ax i).mains.f = u.nextFreq t i ∧
      ((mainsEdge h e t u).ax i).mains.last = t ∧ (mainsEdge h e t u).axState i = 1 ∧
        (mainsEdge h e t u).axVel i = u.nextVel t i ∧ (mainsEdge h e t u).axAcc i = u.nextAcc t i := by
  obtain ⟨v, hv, ht⟩ := mainsEdge_heard hr hi hh
  rw [hst] at ht
  rw [ht.ax, ht.state, ht.vel, ht.acc, ← hv.nextFreq, ← hv.nextVel, ← hv.nextAcc]
  exact mainsRun_taken i t v (hv.state.trans hst) (by rw [hv.ax, hs]) (by rw [hv.nextFreq, hf])

theorem mainsEdge_lost (hst : u.axState i = 1)
    (hs : mainsSpan (u.ax i).mains.f 3 5 (t - (u.ax i).mains.last) = true)
    (hf : mainsInRange (u.nextFreq t i) = false) : (mainsEdge h e t u).axState i = 4 ∧
      (mainsEdge h e t u).axVel i = 0#32 ∧ (mainsEdge h e t u).axAcc i = 0#32 ∧
        (mainsEdge h e t u).pends 42 = true := by
  obtain ⟨v, hv, ht⟩ := mainsEdge_heard hr hi hh
  rw [hst] at ht
  obtain ⟨h1, h2, h3, h4⟩ := mainsRun_lost i t v (by rw [hv.ax, hs]) (by rw [hv.nextFreq, hf])
  rw [ht.state, ht.vel, ht.acc]
  exact ⟨h1, h2, h3, ht.pends 42 h4⟩

end

/-- Settles O44: an edge is what it does to each axis (`mainsEdge_heard`); missing edges act on their axis alone. -/
theorem mainsAxis : Obligations.MainsAxis := by
  refine ⟨fun h e o => ?_, fun i => ?_, fun i => ?_⟩
  · refine arrives_of_pad (f := fun s => mainsEdge h e (s.clk o) s) (fun _ => rfl) (fun _ h => h.1) fun u hu => ?_
    obtain ⟨-, hr⟩ := hu
    exact ⟨mainsEdge_regs _ _ _ _ hr, by simp,
      fun i h1 h2 h3 h4 h5 => mainsEdge_arms hr i.isLt ⟨h1, h2, h3, h4, h5⟩,
      fun i h1 h2 h3 h4 h5 => mainsEdge_runs hr i.isLt ⟨h1, h2, h3, h4, h5⟩,
      fun i h1 h2 h3 h4 h5 => mainsEdge_early hr i.isLt ⟨h1, h2, h3, h4, h5⟩,
      fun i h1 h2 h3 h4 h5 => mainsEdge_taken hr i.isLt ⟨h1, h2, h3, h4, h5⟩,
      fun i h1 h2 h3 h4 h5 => mainsEdge_lost hr i.isLt ⟨h1, h2, h3, h4, h5⟩⟩
  · refine arrives_of (f := mainsMissing i) (fun _ => rfl) ?_
    rintro u ⟨h1, h2, h3, h4, h5⟩
    obtain ⟨g, hg⟩ := mainsMissing_of_due i u h1 h2 h3 h4 h5
    obtain ⟨-, -, hv, ha⟩ := mainsUnlock_sameRun i u.Tn (setVA i (f32.mul f65536 (u.ax i).mains.f) 0#32 (modAx i g u))
    rw [hg, hv, ha, setVA_vel, setVA_acc]
    refine ⟨?_, by simp, mainsUnlock_lock .., rfl, rfl, fun hl => mainsUnlock_pends_of_lock _ _ _ ?_⟩
    · simp [mainsUnlock]
    · rwa [flag, fld_of_get (get_setVA _ _ _ _ _ (by decide) (by decide))]
  · refine arrives_of (f := mainsGone i) (fun _ => rfl) ?_
    rintro u ⟨h1, h2, h3, h4⟩
    obtain ⟨g, hg⟩ := mainsGone_of_due i u h1 h2 h3 h4
    rw [hg]
    refine ⟨by simp, by simp, ?_, setVA_vel .., setVA_acc ..⟩
    rw [axState, fld_of_get (get_setVA _ _ _ _ _ (by decide) (by decide)), fld_setFld_lt _ _ _ _ (by decide)]
    decide

end Sys2Proof.Machine

end

section

/-!
What the disabling of an axis leaves of its motion (R74, R131, R173): the lanes it flushes and, where the geometry runs on
it, the end of RUN write none of its registers.
-/

namespace Sys2Proof.Machine
open Kept State

/-- The registers of every axis by which it is enabled, stands and moves, and the lanes. -/
structure Motion where
  cfg : Nat → Word
  stat : Nat → Word
  lo : Nat → Word
  hi : Nat → Word
  vel : Nat → Word
  acc : Nat → Word
  lanes : SMap Lane

namespace State

def motionOf (regs : SMap Word) (lanes : SMap Lane) : Motion :=
  let get (r : Reg) (i : Nat) : Word := SMap.get (r.resetAt i) regs (r.key i)
  ⟨get .AX_CFG, get .AX_STAT, get .AX_POS_LO, get .AX_POS_HI, get .AX_VEL, get .AX_ACC, lanes⟩

def motion (s : State) : Motion := motionOf s.regs s.lanes

@[simp] theorem motion_eta (s : State) : motionOf s.regs s.lanes = s.motion := by
  unfold motion
  rfl

/-- An update of other fields leaves them. -/
@[simp] theorem motion_mk (q x1 x2 x3 x4 m x6 x7 a x9 x10 x11 x12 x13 x14 x15 x16 x17 x18 x19 x20 x21 x22 x23 x24 x25
    x26 x27 x28 x29 x30 x31 x32 x33 x34 x35 x36 x37 x38 x39 x40 x41 x42 x43 x44 x45 x46 x47 x48 x49 x50 x51 x52
    x53 x54 x55 x56 x57 x58 x59 x60 x61 x62 x63 x64 x65 x66 x67 x68 x69 x70 x71 x72 x73 x74 x75 x76 x77
    x78 x79 x80 x81 x82 x83 k) :
    (State.mk q x1 x2 x3 x4 m x6 x7 a x9 x10 x11 x12 x13 x14 x15 x16 x17 x18 x19 x20 x21 x22 x23 x24 x25 x26 x27
      x28 x29 x30 x31 x32 x33 x34 x35 x36 x37 x38 x39 x40 x41 x42 x43 x44 x45 x46 x47 x48 x49 x50 x51 x52
      x53 x54 x55 x56 x57 x58 x59 x60 x61 x62 x63 x64 x65 x66 x67 x68 x69 x70 x71 x72 x73 x74 x75 x76 x77
      x78 x79 x80 x81 x82 x83 k).motion = motionOf x2 x25 := by
  unfold motion
  rfl

section
variable {α β : Type}

@[simp] theorem ite_motion (c : Prop) [Decidable c] (s t : State) :
    (if c then s else t).motion = if c then s.motion else t.motion := apply_ite ..

@[simp] theorem ite_fst_motion (c : Prop) [Decidable c] (s t : State × α) :
    (if c then s else t).1.motion = if c then s.1.motion else t.1.motion :=
  apply_ite (fun x : State × α => x.1.motion) ..

@[simp] theorem each_motion {f : α → State → State} (h : ∀ a s, (f a s).motion = s.motion) (l : List α) (s : State) :
    (each l f s).motion = s.motion := each_same motion h l s

@[simp] theorem foldl_motion {f : State → α → State} (h : ∀ s a, (f s a).motion = s.motion) (l : List α) (s : State) :
    (l.foldl f s).motion = s.motion := each_same motion (f := fun a s => f s a) (fun a s => h s a) l s

end

section
variable (s : State) (e g i j k m n p q t inst cau evt key stamp typ app : Nat) (v w : Word)

/-- The registers that `motion` reads. -/
def motionRegs : List Reg := [.AX_CFG, .AX_STAT, .AX_POS_LO, .AX_POS_HI, .AX_VEL, .AX_ACC]

theorem motion_congr_regs {s t : State} (h : ∀ r ∈ motionRegs, ∀ i, t.get r i = s.get r i) (hl : t.lanes = s.lanes) :
    t.motion = s.motion := by
  simp only [motionRegs, List.forall_mem_cons] at h
  obtain ⟨h1, h2, h3, h4, h5, h6, -⟩ := h
  unfold motion motionOf
  simp only [Motion.mk.injEq]
  exact ⟨funext h1, funext h2, funext h3, funext h4, funext h5, funext h6, hl⟩

theorem put_motion (r : Reg) (h : r ∉ motionRegs) : (s.put r i v).motion = s.motion := by
  refine motion_congr_regs (fun r' hr _ => get_put_reg ?_ ..) rfl
  rintro rfl
  exact h hr

theorem setFld_motion (f : Field) (h : f.reg ∉ motionRegs) : (s.setFld f i n).motion = s.motion := put_motion _ _ _ _ h
theorem setFlag_motion (f : Field) (b : Bool) (h : f.reg ∉ motionRegs) : (s.setFlag f i b).motion = s.motion :=
  put_motion _ _ _ _ h
theorem setRbit_motion (r : Reg) (b : Bool) (h : r ∉ motionRegs) : (s.setRbit r i n b).motion = s.motion :=
  put_motion _ _ _ _ h
theorem addSat_motion (f : Field) (h : f.reg ∉ motionRegs) : (s.addSat f i n).motion = s.motion := put_motion _ _ _ _ h

@[simp] theorem raise_motion : (raise e s).motion = s.motion := by
  simp (disch := decide) [raise, setRbit_motion]
@[simp] theorem raiseOf_motion : (raiseOf e inst cau s).motion = s.motion := by simp [raiseOf, occur]
@[simp] theorem log38_motion (d : List Word) : (log38 inst cau evt stamp d s).motion = s.motion := by
  simp [log38, logTo, occur]
@[simp] theorem raiseLog_motion (d : List Word) : (raiseLog e inst cau stamp d s).motion = s.motion := by
  simp [raiseLog]
@[simp] theorem depart_motion : (depart s).motion = s.motion := by simp (disch := decide) [depart, setFlag_motion]
theorem cause_motion (er mr : Reg) (h : er ∉ motionRegs) : (cause er mr i n e s).motion = s.motion := by
  simp [cause, setRbit_motion _ _ _ _ _ h]
@[simp] theorem wrByte_motion (b : Byte) : (s.wrByte n b).motion = s.motion := rfl
@[simp] theorem wrBytes_motion (l : List Byte) : (s.wrBytes n l).motion = s.motion := by
  induction l generalizing n s with
  | nil => rfl
  | cons b l ih => exact ih ..
@[simp] theorem wrWord_motion : (s.wrWord n w).motion = s.motion := wrBytes_motion ..
@[simp] theorem wrWords_motion (l : List Word) : (s.wrWords n l).motion = s.motion := by
  induction l generalizing n s with
  | nil => rfl
  | cons b l ih => exact (ih ..).trans (wrWord_motion ..)

/-! ### Queues -/

@[simp] theorem qCause_motion : (qCause q n s).motion = s.motion := by
  unfold qCause
  split <;> exact cause_motion _ _ _ _ _ _ (by decide)
@[simp] theorem qSetTail_motion : (qSetTail q t s).motion = s.motion := by
  simp (disch := decide) [qSetTail, qStat, setFlag_motion, setFld_motion]
@[simp] theorem qPut_motion (l : List Word) : (qPut q l s).motion = s.motion := by simp [qPut]
@[simp] theorem qReject_motion : (qReject q n s).motion = s.motion := by
  simp (disch := decide) [qReject, setFlag_motion, addSat_motion]
@[simp] theorem qDropOld_motion : (qDropOld s q).motion = s.motion := by
  have hf (i v : Nat) (u : State) : (u.setFld Q_HEAD_INDEX i v).motion = u.motion := setFld_motion _ _ _ _ (by decide)
  have ht (i v : Nat) (u : State) : (u.setFld Q_TAIL_INDEX i v).motion = u.motion := setFld_motion _ _ _ _ (by decide)
  simp [qDropOld, hf, ht]
@[simp] theorem qOfferRaw_motion (ws : Nat → List Word) : (qOfferRaw q ws s).1.motion = s.motion := by
  simp (disch := decide) [qOfferRaw, qSeqInc, setFlag_motion, addSat_motion]
@[simp] theorem qOffer_motion (ws : Nat → List Word) : (qOffer q stamp ws s).motion = s.motion := by
  simp [qOffer, qLost, qLostBy]

/-! ### Coverage and masking -/

@[simp] theorem modGeo_motion (f : Geo → Geo) : (modGeo f s).motion = s.motion := by simp [modGeo]
@[simp] theorem modApp_motion (f : Applic → Applic) : (modApp i f s).motion = s.motion := by simp [modApp]
@[simp] theorem q39_motion (r : GeoRun) : (q39 typ app r s).motion = s.motion := by simp [q39]
@[simp] theorem rpCause_motion (d : List Word) : (rpCause n stamp d s).motion = s.motion := by
  simp (disch := decide) [rpCause, cause_motion]
@[simp] theorem writeBack_motion : (writeBack key s).motion = s.motion := by
  unfold writeBack
  split
  · rfl
  · dsimp only
    split
    · split <;> simp
    · split <;> simp
@[simp] theorem writeBackAll_motion : (writeBackAll s).motion = s.motion := by simp [writeBackAll]
@[simp] theorem cacheRoom_motion : (cacheRoom s).1.motion = s.motion := by
  unfold cacheRoom
  dsimp only
  repeat' split
  all_goals simp
@[simp] theorem slotAlloc_motion (b : BitVec 4096) : (slotAlloc key b s).motion = s.motion := by
  unfold slotAlloc
  repeat' split
  all_goals simp
@[simp] theorem maskSet_motion (b : BitVec 4096) : (maskSet key b s).1.motion = s.motion := by
  unfold maskSet
  dsimp only
  split
  · simp
  · split
    · simp (disch := decide) [setFlag_motion]
    · split <;> simp
@[simp] theorem writeCells_motion (l : List (Int × Int)) : (writeCells l s).1.motion = s.motion := by
  induction l generalizing s with
  | nil => rfl
  | cons g l ih => exact (ih _).trans (maskSet_motion ..)
theorem addCnt_motion (r : Reg) (h : r ∉ motionRegs) : (addCnt r n s).motion = s.motion := put_motion _ _ _ _ h
@[simp] theorem addTotal_motion : (addTotal i n s).motion = s.motion := by simp [addTotal]
@[simp] theorem lapStep_motion (x : Sweep) : (lapStep x i j n s).motion = s.motion := by
  unfold lapStep
  dsimp only
  split <;> simp
@[simp] theorem lostStep_motion (x : Sweep) (b : Bool) : (lostStep x i n b s).motion = s.motion := by
  unfold lostStep
  dsimp only
  split <;> simp

/-- Runs that end leave their records in Q39. -/
theorem runs_motion (l : SMap (Option GeoRun)) :
    (each l (fun e s => match e.2 with | some x => q39 typ e.1 x s | none => s) s).motion = s.motion := by
  refine each_motion (fun e s => ?_) l s
  split <;> simp

@[simp] theorem runsEnd_motion (c : CovStep) : (runsEnd c s).motion = s.motion := by
  simp only [runsEnd, modGeo_motion]
  exact (runs_motion ..).trans (runs_motion ..)
@[simp] theorem sumStep_motion (c : CovStep) : (sumStep c i j s).motion = s.motion := by
  unfold sumStep
  dsimp only
  split <;> simp
@[simp] theorem covWrite_motion (b : Bool) (c : CovStep) (l : List (Int × Int)) :
    (covWrite b c l s).1.motion = s.motion := by
  simp only [covWrite, sumStep_motion]
  rw [each_motion fun _ _ => (lostStep_motion ..).trans (lapStep_motion ..)]
  simp (disch := decide) [addCnt_motion]
@[simp] theorem covDiscard_motion : (covDiscard s).motion = s.motion := by
  simp only [covDiscard, modGeo_motion]
  refine (runs_motion ..).trans ((runs_motion ..).trans ?_)
  simp

end

/-! ### Lanes -/

theorem lane_modLane (n j : Nat) (f : Lane → Lane) (s : State) :
    (modLane n f s).lane j = if j = n then f (s.lane n) else s.lane j := by
  simp [lane, modLane, setLane, SMap.get_set]

/-- Work that leaves the axes where they are, and no lane with marks that had none. -/
structure Calms (s t : State) : Prop where
  get : ∀ r ∈ motionRegs, ∀ i, t.get r i = s.get r i
  fill : ∀ n, (s.lane n).fill = 0 → (t.lane n).fill = 0

section
variable {s t u : State}

theorem Calms.trans (h : Calms s t) (h' : Calms t u) : Calms s u :=
  ⟨fun r hr i => (h'.get r hr i).trans (h.get r hr i), fun n hn => h'.fill n (h.fill n hn)⟩

theorem calms_of_motion (h : t.motion = s.motion) : Calms s t := by
  unfold motion motionOf at h
  simp only [Motion.mk.injEq] at h
  obtain ⟨h1, h2, h3, h4, h5, h6, hl⟩ := h
  refine ⟨?_, fun n hn => by rwa [lane, hl]⟩
  simp only [motionRegs, List.forall_mem_cons]
  exact ⟨congrFun h1, congrFun h2, congrFun h3, congrFun h4, congrFun h5, congrFun h6, fun _ h => nomatch h⟩

theorem calms_each {α : Type} {f : α → State → State} (h : ∀ a s, Calms s (f a s)) (l : List α) (s : State) :
    Calms s (each l f s) := by
  induction l generalizing s with
  | nil => exact calms_of_motion rfl
  | cons a l ih => exact (h a s).trans (ih _)

theorem lnFlush_fill (n : Nat) (s : State) : ((lnFlush n s).lane n).fill = 0 := by
  rw [lnFlush, lane_modLane, if_pos rfl]

theorem lnFlush_calms (n : Nat) (s : State) : Calms s (lnFlush n s) := by
  refine ⟨fun r hr i => get_put_reg (fun e => ?_) .., fun j hj => ?_⟩
  · subst e
    exact absurd hr (by decide)
  · rw [lnFlush, lane_modLane]
    split
    · rfl
    · exact hj

/-- A flush of lanes leaves each of them empty. -/
theorem each_lnFlush_fill {l : List Nat} {n : Nat} (hn : n ∈ l) (s : State) : ((each l lnFlush s).lane n).fill = 0 := by
  induction l generalizing s with
  | nil => cases hn
  | cons a l ih =>
    rcases List.mem_cons.1 hn with rfl | h
    · exact (calms_each lnFlush_calms l _).fill n (lnFlush_fill n s)
    · exact ih h _

theorem lane_raise (e n : Nat) (s : State) : (raise e s).lane n = s.lane n := rfl

theorem mem_pick {n k : Nat} {f : Nat → Bool} : k ∈ pick n f ↔ k < n ∧ f k = true := by
  simp [pick]

theorem laneFlushAxis_fill {i n : Nat} (h : n < 768) (he : s.lnEn n = true) (ha : s.lnAx n = i) :
    ((laneFlushAxis i s).lane n).fill = 0 := by
  have hm : n ∈ pick 768 fun n => s.lnEn n && s.lnAx n == i := mem_pick.2 ⟨h, by simp [he, ha]⟩
  have hne : (pick 768 fun n => s.lnEn n && s.lnAx n == i).isEmpty = false := by
    rw [List.isEmpty_eq_false_iff]
    exact List.ne_nil_of_mem hm
  rw [laneFlushAxis]
  simp only [hne, Bool.false_eq_true, if_false]
  rw [lane_raise]
  exact each_lnFlush_fill hm s

theorem laneFlushAxis_calms (i : Nat) (s : State) : Calms s (laneFlushAxis i s) := by
  unfold laneFlushAxis
  dsimp only
  split
  · exact calms_of_motion rfl
  · exact (calms_each lnFlush_calms _ s).trans (calms_of_motion (raise_motion ..))

theorem runEnd_calms (s : State) : Calms s (runEnd s) := by
  have h1 : Calms s (each (pick 768 s.gmFed) (fun n s => setDemand n false (lnFlush n s)) s) := by
    refine calms_each (fun n s => (lnFlush_calms n s).trans (calms_of_motion ?_)) _ s
    unfold setDemand
    split
    · exact setRbit_motion _ _ _ _ _ (by decide)
    · exact setFlag_motion _ _ _ _ (by decide)
  refine h1.trans (calms_of_motion ?_)
  have ha (f : Applic → Applic) (l : List Nat) (u : State) : (each l (fun i => modApp i f) u).motion = u.motion :=
    each_motion (fun _ _ => modApp_motion ..) l u
  simp only [runEnd]
  rw [setFlag_motion _ _ _ _ (by decide), setFlag_motion _ _ _ _ (by decide), motion_mk, motion_eta, ha]
  simp

theorem gmAxisStop_calms (i : Nat) (s : State) : Calms s (gmAxisStop i s) := by
  unfold gmAxisStop
  split
  · refine (runEnd_calms s).trans (calms_of_motion ?_)
    simp (disch := decide) [setFld_motion]
  · exact calms_of_motion rfl

end
end State
end Sys2Proof.Machine

end

section

/-!
Factors, steps and disables of axes, and phase 2 by type (O42).
-/

namespace Sys2Proof.Machine
open Kept State

/-! ### Factors and steps (R75, R98) -/

theorem located_axK (k : Fin 3) (i : Fin 32) : located (kReg k) i = true := by
  revert k i
  decide
theorem located_axStep (i : Fin 32) : located .AX_STEP i = true := by
  revert i
  decide

/-- A write of a register whose bits are all writable. -/
theorem merge_full (x v : Word) : (x &&& ~~~ 0xFFFFFFFF#32) ||| (v &&& 0xFFFFFFFF#32) = v := by
  rw [show 0xFFFFFFFF#32 = BitVec.allOnes 32 from rfl, BitVec.not_allOnes, BitVec.and_zero, BitVec.zero_or,
    BitVec.and_allOnes]

section
variable {c : Access} {m i : Nat} {k : Fin 3} {v : Word} {u : State}

theorem instOf_kReg (k : Fin 3) (i : Nat) (u : State) (c : Access) : u.instOf c (kReg k) i = i := by
  fin_cases k <;> rfl

theorem wrRes_axK (hv : f32.nonFinite v = false) (h : u.axEn i = true → u.axKAccepts i k v = true) :
    wrRes c (kReg k) i v u = (u.put (kReg k) i v, .ok) := by
  have he : (u.axEn i && !u.axKAccepts i k v) = false := by
    cases hen : u.axEn i
    · rfl
    · simp [h hen]
  have hw : wrRes c (kReg k) i v u = regStore c (kReg k) i ((u.view c.id (kReg k) i &&& ~~~ 0xFFFFFFFF#32) |||
      (v &&& 0xFFFFFFFF#32)) u := by fin_cases k <;> rfl
  have hr : regStore c (kReg k) i v u = if f32.nonFinite v then (u, .err) else
      if u.axEn i && !u.axKAccepts i k v then (u, .err) else (u.put (kReg k) i v, .ok) := by
    have hc : checkVal (kReg k) v = if f32.nonFinite v then none else some v := by
      fin_cases k <;> simp [checkVal, kReg, Reg.info]
    rw [regStore, hc, hv]
    fin_cases k <;> rfl
  rw [hw, merge_full, hr, hv, he]
  rfl

theorem wrRes_axStep (h : c.marked = false) : wrRes c .AX_STEP i v u = (axStep i v false u, .ok) := by
  have hm : v &&& 0xFFFFFFFF#32 = v := BitVec.and_allOnes
  have hw : wrRes c .AX_STEP i v u = (axStep i (v &&& 0xFFFFFFFF#32) c.marked u, .ok) := rfl
  rw [hw, hm, h]

theorem axStep_soft (he : u.axEn i = true) (ht : u.axType i = 6) :
    axStep i v false u = modAx i (fun a => { a with stepNew := a.stepNew + wint v }) u := by
  simp [axStep, he, ht, tSoft]

theorem axStep_other (h : u.axEn i = false ∨ u.axType i ≠ 6) : axStep i v false u = u := by
  unfold axStep
  rw [if_neg]
  rcases h with h | h <;> simp [h, tSoft]

/-! ### The disabling write (R74, R131, R173) -/

/-- What the disabling write leaves before the lanes are flushed. -/
def axOff (i : Nat) (u : State) : State := axStop i (u.put .AX_CFG i (u.get .AX_CFG i &&& ~~~1#32))

theorem putBit_clear {w : Word} (h : bitAt w 0 = true) : putBit (w &&& ~~~1#32) 0 true = w := by
  rw [bitAt_eq] at h
  refine BitVec.eq_of_getLsbD_eq fun j hj => ?_
  rw [putBit, getLsbD_putBits]
  by_cases h0 : j = 0
  · subst h0
    simp [h, b2n]
  · rw [if_neg (by omega)]
    have h1 : (1#32).getLsbD j = false := by simp [BitVec.getLsbD_one, h0]
    rw [BitVec.getLsbD_and, BitVec.getLsbD_not, h1]
    simp [hj]

theorem axCfgWrite_disable {w : Word} (hw : bitAt w 0 = false) (he : u.axEn i = true) :
    axCfgWrite i w u = gmAxisStop i (laneFlushAxis i (axStop i (u.put .AX_CFG i w))) := by
  simp [axCfgWrite, axCfgStore, he, hw]

theorem wrRes_axDisable (hen : u.axEn i = true)
    (hm : u.merged m .AX_CFG i (v &&& ~~~1#32) = u.get .AX_CFG i &&& ~~~1#32) :
    wrRes c .AX_CFG i (v &&& ~~~1#32) u = (gmAxisStop i (laneFlushAxis i (axOff i u)), .ok) := by
  have hb := axEn_eq_bitAt i u ▸ hen
  have hl : u.enLocked .AX_CFG i (u.get .AX_CFG i &&& ~~~1#32) = false := by
    rw [enLocked, putBit_clear hb, bne_self_eq_false, Bool.and_false]
  have hw : wrRes c .AX_CFG i (v &&& ~~~1#32) u =
      if u.enLocked .AX_CFG i (u.merged m .AX_CFG i (v &&& ~~~1#32)) then (u, .err) else
      (axCfgWrite i (u.merged m .AX_CFG i (v &&& ~~~1#32)) u, .ok) := rfl
  have h0 : bitAt (u.get .AX_CFG i &&& ~~~1#32) 0 = false := by
    rw [bitAt_and, show bitAt (~~~1#32) 0 = false by decide, Bool.and_false]
  rw [hw, hm, hl, axCfgWrite_disable h0 hen]
  rfl

theorem axOff_state (i : Nat) (u : State) : (axOff i u).axState i = 0 := by
  rw [axOff, axStop, axState, fld_modAx, fld_setFld_lt _ _ _ _ (by decide) (by decide)]

theorem axOff_regs (i : Nat) (u : State) : regsOnly (ofInst [.AX_CFG, .AX_STAT] i) u (axOff i u) := by
  simp [axOff, axStop]

end

theorem lnEn_congr {s t : State} {n : Nat} (h : t.get .LN_CFG n = s.get .LN_CFG n)
    (h' : t.get .LN_RCFG (n - 256) = s.get .LN_RCFG (n - 256)) : t.lnEn n = s.lnEn n ∧ t.lnAx n = s.lnAx n := by
  have h1 (f : Field) (hf : f.reg = .LN_CFG) : t.fld f n = s.fld f n := fld_of_get (by rw [hf, h])
  have h2 (f : Field) (hf : f.reg = .LN_RCFG) : t.fld f (n - 256) = s.fld f (n - 256) := fld_of_get (by rw [hf, h'])
  unfold lnEn lnAx
  rw [flag, flag, flag, flag, h1 _ rfl, h1 _ rfl, h2 _ rfl, h2 _ rfl]
  exact ⟨rfl, rfl⟩

/-- A disabled axis is off, its motion stays readable, and its lanes are empty. -/
theorem axDisable_effect (i : Nat) (u : State) : let t := gmAxisStop i (laneFlushAxis i (axOff i u))
    t.axEn i = false ∧ t.axState i = 0 ∧ t.axPos i = u.axPos i ∧ t.axVel i = u.axVel i ∧ t.axAcc i = u.axAcc i ∧
      ∀ n < 768, u.lnEn n = true → u.lnAx n = i → (t.lane n).fill = 0 := by
  intro t
  have hc : Calms (axOff i u) t := (laneFlushAxis_calms i _).trans (gmAxisStop_calms i _)
  have hr := axOff_regs i u
  obtain ⟨hx, hv, ha⟩ := motion_congr i hr (by simp) (by simp) (by simp) (by simp)
  refine ⟨?_, ?_, ?_, ?_, ?_, fun n hn he hi => ?_⟩
  · rw [axEn_eq_bitAt, hc.get .AX_CFG (by decide), axOff, axStop, get_modAx, get_setFld_other _ _ _ _ _ _ (by decide),
      get_put_same, bitAt_and, show bitAt (~~~1#32) 0 = false by decide, Bool.and_false]
  · exact (fld_of_get (hc.get .AX_STAT (by decide) i)).trans (axOff_state i u)
  · rw [← hx]
    exact axPos_congr i (hc.get _ (by decide) i) (hc.get _ (by decide) i)
  · exact (hc.get .AX_VEL (by decide) i).trans hv
  · exact (hc.get .AX_ACC (by decide) i).trans ha
  · obtain ⟨hen, hax⟩ := lnEn_congr (hr .LN_CFG n (by simp)) (hr .LN_RCFG (n - 256) (by simp))
    exact (gmAxisStop_calms i _).fill n (laneFlushAxis_fill hn (hen.trans he) (hax.trans hi))

/-- A write command whose register's own rules accept it is answered without error, and leaves what they give it, but for
the recorder's notes. -/
theorem wr_settled {m : Nat} {r : Reg} {i : Nat} {v : Word} {s t : State} (hl : located r i = true)
    (hi : ∀ (u : State) (c : Access), u.instOf c r i = i) (hk : r ≠ .GUARD_KEY) (hn : actsAtOnce r = false)
    (hm : s.mayWrite m r i = true) (h : ∀ c : Access, c.marked = false → wrRes c r i v (s.meets m r i) = (t, .ok)) :
    (wr m r i v s.begin').resp = [.ok 0#32] ∧ ∃ y, (wr m r i v s.begin').settled = setRecorder y t := by
  have h0 := h (accOf m s) rfl
  have h1 := h { accOf m s with checked := false } rfl
  have hi' : ∀ c : Access, c.id = m → c.set = m → (s.meets m r i).instOf c r i = i := fun c _ _ => hi _ c
  obtain ⟨y, hy⟩ := noted_eq_setRecorder { accOf m s with checked := false } r i v t
  refine ⟨(wr_written m r i v s hl hi' hk hn hm (by rw [h0]) (by rw [h1])).1, y, ?_⟩
  rw [(wr_ok m r i v s hl hi' hk hn hm (by rw [h0]) (by rw [h1])).2, h1, hy]

namespace State
section
variable (i : Nat) (s : State)

/-! ### Phase 2 after the enable tick, by type (R77, R93, R95, R97, R98) -/

@[simp] theorem ax_keepPrev : (keepPrev i s).ax i =
    { s.ax i with prevX := s.axPos i, prevV := (s.ax i).endV, prevA := (s.ax i).endA } := ax_modAx_same ..
theorem ax_keepPrev_ne {j : Nat} (h : j ≠ i) : (keepPrev i s).ax j = s.ax j := ax_modAx_ne _ _ h _
@[simp] theorem ax_keepEnd : (keepEnd i s).ax i = { s.ax i with endV := s.axVel i, endA := s.axAcc i } :=
  ax_modAx_same ..
@[simp] theorem regsOnly_keepPrev {l : List (Reg × Nat)} : regsOnly l (keepPrev i s) s := fun _ _ _ => rfl

/-- What phase 2 leaves of an axis that keeps going: the work of its type, on what the tick before left. -/
theorem axUpdate_only {l : List (Reg × Nat)} (he : s.axEn i = true)
    (h : regsOnly l (keepPrev i s) (axWork i (keepPrev i s))) : State.only l s (axUpdate i s) := by
  rw [axUpdate_of_en i s he]
  refine only_of_kept (fun r j hr => ?_) (by simp [keepEnd, keepPrev])
  exact h r j hr

variable {i s}

theorem axWork_time (ht : (s.ax i).tEn ≠ s.T) (h : s.axType i = 5) : axWork i s = setAxPos i (s.axPos i + 10) s := by
  simp [axWork, ht, h, tGround, tChannel, tGrain, tDerived, tMains, tTime]
theorem axWork_mains (ht : (s.ax i).tEn ≠ s.T) (h : s.axType i = 4) : axWork i s = axMains i s := by
  simp [axWork, ht, h, tGround, tChannel, tGrain, tDerived, tMains]
theorem axWork_derived (ht : (s.ax i).tEn ≠ s.T) (h : s.axType i = 2) : axWork i s = axDerived i s := by
  simp [axWork, ht, h, tGround, tChannel, tGrain, tDerived]
theorem axWork_counted (ht : (s.ax i).tEn ≠ s.T) (h : s.axType i = 1 ∨ s.axType i = 3) :
    axWork i s = axCounted i s := by
  rcases h with h | h <;> simp [axWork, ht, h, tGround, tChannel, tGrain]
theorem axWork_ground (ht : (s.ax i).tEn ≠ s.T) (h : s.axType i = 0) : axWork i s = axGround i s := by
  simp [axWork, ht, h, tGround]
theorem axWork_soft (ht : (s.ax i).tEn ≠ s.T) (h : s.axType i = 6) :
    axWork i s = setVA i (s.get .AX_SOFT_V i) (s.get .AX_SOFT_A i) (setAxPos i (s.axPos i + (s.ax i).stepDue)
      (modAx i (fun a => { a with stepDue := a.stepNew, stepNew := 0 }) s)) := by
  simp [axWork, ht, h, tGround, tChannel, tGrain, tDerived, tMains, tTime]
  rfl

/-! ### Advancing (R77) -/

section
variable (i : Nat) (s : State) (x : Int)

theorem axAdvance_pos : (axAdvance i x s).axPos i = wrap48 (s.axPos i + ((s.ax i).rem + x) / 65536) := axPos_setAxPos ..

@[simp] theorem regsOnly_axAdvance {l : List (Reg × Nat)} {s t : State} (hlo : (.AX_POS_LO, i) ∈ l)
    (hhi : (.AX_POS_HI, i) ∈ l) : regsOnly l s (axAdvance i x t) ↔ regsOnly l s t := by simp [axAdvance, hlo, hhi]

theorem get_axAdvance {r : Reg} (j : Nat) (h : r ≠ .AX_POS_LO) (h' : r ≠ .AX_POS_HI) :
    (axAdvance i x s).get r j = s.get r j := get_setAxPos _ _ _ _ h h'

theorem countUpdate_keepPrev (c T : Nat) (q : CountSrc) : (keepPrev i s).countUpdate i c T q = s.countUpdate i c T q := by
  unfold countUpdate
  rw [ax_keepPrev]
  rfl

end

end
end State

end Sys2Proof.Machine

end

section

/-!
DERIVED, CHANNEL, GRAIN and GROUND axes in phase 2, and O42.
-/

namespace Sys2Proof.Machine
open Kept State
namespace State
section
variable (i : Nat) (s : State)

/-- The move of a DERIVED axis by its source's increment. -/
def derivedMove (i j : Nat) (s : State) : State :=
  let x := (s.ax i).exactRem + mulExact (s.get .AX_K0 i)
    (if (s.ax j).tEn = s.T then 0 else diff48 (s.axPos j) (s.ax j).prevX) 200
  let t := modAx i (fun a => { a with exactRem := x % 2 ^ 200 }) s
  setAxPos i (t.axPos i + x / 2 ^ 200) t

theorem axDerived_of_source {j : Nat} (hj : s.fld AX_CFG_SRC_AX i = j) (he : s.axEn j = true) :
    axDerived i s =
      let t := derivedMove i j s
      let u := setVA i (f32.mul (t.axVel j) (s.get .AX_K0 i)) (f32.mul (t.axAcc j) (s.get .AX_K0 i)) t
      ((u.setFld AX_STAT_STATE i (u.axState j)).setFld AX_STAT_LOWSPD i (u.fld AX_STAT_LOWSPD j)).setFld
        AX_STAT_REVERSE i (u.fld AX_STAT_REVERSE j) := by
  subst hj
  simp only [axDerived, derivedMove, he, if_true]

/-- With its source enabled a DERIVED axis takes the source's increment, motion and state, each by its factor. -/
theorem axDerived_source {j : Nat} (hj : s.fld AX_CFG_SRC_AX i = j) (he : s.axEn j = true) :
    (axDerived i s).axPos i = wrap48 (s.axPos i + ((s.ax i).exactRem + mulExact (s.get .AX_K0 i)
      (if (s.ax j).tEn = s.T then 0 else diff48 (s.axPos j) (s.ax j).prevX) 200) / 2 ^ 200) ∧
    (axDerived i s).axVel i = f32.mul (s.axVel j) (s.get .AX_K0 i) ∧
    (axDerived i s).axAcc i = f32.mul (s.axAcc j) (s.get .AX_K0 i) ∧ (axDerived i s).axState i = s.axState j ∧
    regsOnly (ofInst [.AX_POS_LO, .AX_POS_HI, .AX_VEL, .AX_ACC, .AX_STAT] i) s (axDerived i s) := by
  have hx : (derivedMove i j s).axPos i = wrap48 (s.axPos i + ((s.ax i).exactRem + mulExact (s.get .AX_K0 i)
      (if (s.ax j).tEn = s.T then 0 else diff48 (s.axPos j) (s.ax j).prevX) 200) / 2 ^ 200) := axPos_setAxPos ..
  have hm (r : Reg) (n : Nat) (h : r ≠ .AX_POS_LO) (h' : r ≠ .AX_POS_HI) : (derivedMove i j s).get r n = s.get r n :=
    get_setAxPos _ _ _ _ h h'
  have hv : (derivedMove i j s).axVel j = s.axVel j := hm _ _ (by decide) (by decide)
  have ha : (derivedMove i j s).axAcc j = s.axAcc j := hm _ _ (by decide) (by decide)
  rw [axDerived_of_source i s hj he]
  dsimp only
  rw [hv, ha]
  have hs : (setVA i (f32.mul (s.axVel j) (s.get .AX_K0 i)) (f32.mul (s.axAcc j) (s.get .AX_K0 i))
      (derivedMove i j s)).axState j = s.axState j := by
    rw [axState, fld_of_get (get_setVA _ _ _ _ _ (by decide) (by decide)), fld_of_get (hm _ _ (by decide) (by decide))]
    rfl
  rw [hs]
  generalize hu : setVA i (f32.mul (s.axVel j) (s.get .AX_K0 i)) (f32.mul (s.axAcc j) (s.get .AX_K0 i))
    (derivedMove i j s) = u
  have hur : regsOnly (ofInst [.AX_POS_LO, .AX_POS_HI, .AX_VEL, .AX_ACC] i) s u := by
    rw [← hu]
    simp [derivedMove]
  have hux : u.axPos i = _ := hu ▸ (setVA_pos ..).trans hx
  have huv : u.axVel i = _ := hu ▸ setVA_vel ..
  have hua : u.axAcc i = _ := hu ▸ setVA_acc ..
  have hr (a b c : Nat) : regsOnly (ofInst [.AX_STAT] i) u
      (((u.setFld AX_STAT_STATE i a).setFld AX_STAT_LOWSPD i b).setFld AX_STAT_REVERSE i c) := by simp
  obtain ⟨h1, h2, h3⟩ := motion_congr i (hr (s.axState j) _ _) (by simp) (by simp) (by simp) (by simp)
  refine ⟨h1.trans hux, h2.trans huv, h3.trans hua, ?_, ?_⟩
  · rw [axState, fld_setFld_other (by decide), fld_setFld_other (by decide), fld_setFld_same _ _ _ _ (by decide)]
    exact Nat.mod_eq_of_lt (bitsOf_lt ..)
  · exact (hur.mono (by simp)).trans ((hr _ _ _).mono (by simp))

theorem axDerived_hold (he : s.axEn (s.fld AX_CFG_SRC_AX i) = false) :
    (axDerived i s).axPos i = s.axPos i ∧ (axDerived i s).axVel i = 0#32 ∧ (axDerived i s).axAcc i = 0#32 ∧
    (axDerived i s).axState i = 5 ∧ (s.axState i ≠ 5 → (axDerived i s).pends 46 = true) ∧
    regsOnly (ofInst [.AX_POS_LO, .AX_POS_HI, .AX_VEL, .AX_ACC, .AX_STAT] i ++ evtRegs 46) s (axDerived i s) := by
  have h : axDerived i s = setVA i 0#32 0#32 ((when (s.axState i != 5) (raiseOf 46 i noCause) s).setFld AX_STAT_STATE i 5) := by
    simp only [axDerived, he, Bool.false_eq_true, if_false]
  have hr : regsOnly (ofInst [.AX_STAT] i ++ evtRegs 46) s
      ((when (s.axState i != 5) (raiseOf 46 i noCause) s).setFld AX_STAT_STATE i 5) := by simp [when]
  rw [h, setVA_pos, setVA_vel, setVA_acc]
  refine ⟨axPos_congr i (hr _ _ (by simp)) (hr _ _ (by simp)), rfl, rfl, ?_, fun hs => ?_, ?_⟩
  · rw [axState, fld_of_get (get_setVA _ _ _ _ _ (by decide) (by decide)), fld_setFld_lt _ _ _ _ (by decide) (by decide)]
  · simp (disch := decide) [setVA, pends_put, pends_setFld, pends_raiseOf, when, hs]
  · simp [when]

/-! ### CHANNEL and GRAIN axes (R77, R78) -/

/-- What the channel of a counted axis adds to its position in a tick. -/
def countedInc (s : State) (i : Nat) : Int :=
  (countMove (s.ax i).left (s.countUpdate i (s.axChan i .left) s.T (s.ax i).left) (s.axK i .left) f32.one 0).2

theorem axCounted_eq : ∃ g : Axis → Axis, (∀ a, (g a).rem = a.rem) ∧ axCounted i s =
    setVA i ((if s.axDirInv i then f32.neg else id) (f32.mul (s.get .FB_VEL (s.axChan i .left))
      (f32.mul (s.axK i .left) f1024)))
    ((if s.axDirInv i then f32.neg else id) (f32.mul (s.get .FB_ACC (s.axChan i .left))
      (f32.mul (s.axK i .left) f1024)))
    (axAdvance i (if s.axDirInv i then -s.countedInc i else s.countedInc i) (modAx i g s)) := by
  refine ⟨fun a => { a with left := (countMove (s.ax i).left (s.countUpdate i (s.axChan i .left) s.T (s.ax i).left)
    (s.axK i .left) f32.one 0).1 }, fun _ => rfl, ?_⟩
  unfold axCounted countedInc
  cases s.axDirInv i <;> rfl

/-! ### GROUND axes (R79 to R88) -/

theorem axFlags_regs : regsOnly (ofInst [.AX_STAT] i ++ evtRegs 38 ++ evtRegs 39) s (axFlags i s) := by
  unfold axFlags
  simp

theorem axSigns_regs : regsOnly (ofInst [.AX_GNSS_V] i) s (axSigns i s) := by
  simp [axSigns]

/-- The speed that a GROUND axis takes from source `k` (R79, R80, R85). -/
def groundSpeed (s : State) (i k : Nat) : Word :=
  (if s.axDirInv i then f32.neg else id)
    (f32.mul (f32.mul ((axSigns i s).srcSpeed i k) (s.srcCorr i k)) f1024)

theorem srcSpeed_modAx (k : Nat) (g : Axis → Axis) (hg : ∀ a, (g a).signRad = a.signRad) :
    (modAx i g s).srcSpeed i k = s.srcSpeed i k := by
  have hr : ((modAx i g s).ax i).signRad = (s.ax i).signRad := by rw [ax_modAx_same, hg]
  unfold srcSpeed
  rw [hr]
  rfl

theorem srcCorr_axSigns (k : Nat) : (axSigns i s).srcCorr i k = s.srcCorr i k := by
  have h := axSigns_regs i s
  have hg (r : Reg) (hr : r ≠ .AX_GNSS_V) : (axSigns i s).get r i = s.get r i := h r i (by simpa using hr)
  have hf (f : Field) (hr : f.reg ≠ .AX_GNSS_V) : (axSigns i s).flag f i = s.flag f i := by
    rw [flag, flag, fld_of_get (hg _ hr)]
  unfold srcCorr
  rw [hf AX_GNSS_CORR_W (by decide), hf AX_GNSS_CORR_R (by decide), hg _ (by decide), hg _ (by decide)]

/-- The branches of a GROUND axis: an edge source, GNSS speed, no source; the coast; the stop. `g` moves its counted
sources on. -/
theorem axGround_ind {P : State → Prop}
    (run : s.axState i = 1 → ∀ (g : Axis → Axis) (x : Int) (a : Word), (∀ b, (g b).rem = b.rem) →
      (s.fld AX_STAT_ACTIVE i = 2 → x = tickSpan (s.groundSpeed i (s.fld AX_STAT_ACTIVE i)) ∧ a = 0#32) →
      P (axFlags i (setVA i (s.groundSpeed i (s.fld AX_STAT_ACTIVE i)) a (axAdvance i x (modAx i g (axSigns i s))))))
    (idle : s.axState i = 1 → ¬ s.fld AX_STAT_ACTIVE i < 3 → P (axGround i s))
    (coast : s.axState i = 2 → ∀ g : Axis → Axis, (∀ b, (g b).rem = b.rem) → P (axFlags i
      ((axAdvance i (tickSpan (s.axVel i)) (modAx i g (axSigns i s))).put .AX_ACC i 0#32)))
    (stop : s.axState i ≠ 1 → s.axState i ≠ 2 → ∀ g : Axis → Axis, P (axFlags i
      (setVA i 0#32 0#32 (modAx i g (axSigns i s))))) : P (axGround i s) := by
  have hs := axSigns_regs i s
  have hg (r : Reg) (hr : r ≠ .AX_GNSS_V) : (axSigns i s).get r i = s.get r i := hs r i (by simpa using hr)
  have hdir : (axSigns i s).axDirInv i = s.axDirInv i := by
    rw [axDirInv, axDirInv, flag, flag, fld_of_get (hg _ (by decide))]
  have hv (k : Nat) (g : Axis → Axis) (hg' : ∀ a, (g a).signRad = a.signRad) : (if s.axDirInv i then f32.neg else id)
      (f32.mul (f32.mul ((modAx i g (axSigns i s)).srcSpeed i k) ((modAx i g (axSigns i s)).srcCorr i k)) f1024) =
        s.groundSpeed i k := by
    rw [srcSpeed_modAx i _ k g hg', show (modAx i g (axSigns i s)).srcCorr i k = _ from srcCorr_axSigns i s k, groundSpeed]
  by_cases h3 : s.axState i = 1 ∧ ¬ s.fld AX_STAT_ACTIVE i < 3
  · exact idle h3.1 h3.2
  unfold axGround
  extract_lets s1 a inv two l r d cw ml mr md s2 act st sg sgw c v acc acc' m s3
  clear_value acc acc' m
  clear_value md mr ml cw d r l
  have hact : act = s.fld AX_STAT_ACTIVE i := fld_of_get (hg _ (by decide))
  have hst : st = s.axState i := fld_of_get (hg _ (by decide))
  have hsg (w : Word) : sgw w = (if inv then f32.neg else id) w := by
    simp only [sgw]
    split <;> rfl
  have hsv : sgw v = s.groundSpeed i act := by
    rw [hsg, show inv = s.axDirInv i from hdir,
      ← hv act (fun a => { a with left := ml.1, right := mr.1, radar := md.1 }) fun _ => rfl]
  by_cases h1 : st = 1
  · have hlt : act < 3 := by
      rw [hact]
      by_contra hn
      exact h3 ⟨hst ▸ h1, hn⟩
    rw [← hact] at run
    have hrun := run (hst ▸ h1) (fun a => { a with left := ml.1, right := mr.1, radar := md.1 })
    obtain h0 | h0 | h0 : act = 0 ∨ act = 1 ∨ act = 2 := by omega
    · have : s3 = setVA i (sgw v) (sgw acc) (axAdvance i (sg (if two then ml.2 + mr.2 else ml.2)) s2) := by
        simp only [s3, h1, if_true, h0]
      rw [this, hsv]
      exact hrun _ _ (fun _ => rfl) fun h => by omega
    · have : s3 = setVA i (sgw v) (sgw (if a.signRad then f32.neg acc' else acc')) (axAdvance i (sg m) s2) := by
        simp only [s3, h1, if_true, h0]
      rw [this, hsv]
      exact hrun _ _ (fun _ => rfl) fun h => by omega
    · have : s3 = setVA i (sgw v) 0#32 (axAdvance i (tickSpan (sgw v)) s2) := by simp only [s3, h1, if_true, h0]
      rw [this, hsv]
      exact hrun _ _ (fun _ => rfl) fun h => ⟨rfl, rfl⟩
  by_cases h2 : st = 2
  · have : s3 = (axAdvance i (tickSpan (s2.get .AX_VEL i)) s2).put .AX_ACC i 0#32 := by
      simp only [s3, h2, if_true, if_false, OfNat.ofNat_ne_one]
    rw [this, show s2.get .AX_VEL i = s.axVel i from hg _ (by decide)]
    exact coast (hst ▸ h2) _ fun _ => rfl
  · have : s3 = setVA i 0#32 0#32 s2 := by simp only [s3, h1, h2, if_false]
    rw [this]
    exact stop (hst ▸ h1) (hst ▸ h2) _

end
end State

end Sys2Proof.Machine

end

section

/-!
O42: GROUND axes on what the tick before left, and the statement.
-/

namespace Sys2Proof.Machine
open Kept State
namespace State
section
variable (i : Nat) (s : State)

/-- The registers that the speed of a source rests on. -/
def speedRegs : List Reg := [.AX_SRC, .AX_K0, .AX_K1, .AX_K2, .AX_GNSS_V, .FB_VEL]

theorem srcSpeed_congr {s t : State} (k : Nat) (h : ∀ r ∈ speedRegs, ∀ j, t.get r j = s.get r j)
    (ha : (t.ax i).signRad = (s.ax i).signRad) : t.srcSpeed i k = s.srcSpeed i k := by
  simp only [speedRegs, List.forall_mem_cons] at h
  obtain ⟨hsrc, hk0, hk1, hk2, hg, hv, -⟩ := h
  have hf (f : Field) (hf : f.reg = .AX_SRC) : t.fld f i = s.fld f i := fld_of_get (by rw [hf, hsrc])
  have hc (x : AxSrc) : t.axChan i x = s.axChan i x := by cases x <;> exact hf _ rfl
  have hk (x : AxSrc) : t.axK i x = s.axK i x := by cases x <;> simp only [axK, hk0, hk1, hk2]
  have hs (x : AxSrc) : t.chanSpeed i x = s.chanSpeed i x := by rw [chanSpeed, chanSpeed, hc, hk, hv]
  have hh : t.axHas i .right = s.axHas i .right := congrArg (· != 0) (hf AX_SRC_WR_EN rfl)
  unfold srcSpeed wheelSpeed
  rw [hs, hs, hs, hg, ha, hh]

theorem hdtSign_keepPrev (T : Nat) : (keepPrev i s).hdtSign i T = s.hdtSign i T := by
  unfold hdtSign
  rw [ax_keepPrev]
  rfl

theorem wheelOk_keepPrev : (keepPrev i s).wheelOk i = s.wheelOk i := by
  unfold wheelOk
  rw [ax_keepPrev]
  rfl

/-- The signs that the wheels and HDT give radar and GNSS speed (R80). -/
def wheelSign (s : State) (i : Nat) : Option Bool :=
  if s.wheelOk i && !f32.isZero (s.wheelSpeed i) then some (f32.isNeg (s.wheelSpeed i)) else none
def radSign (s : State) (i : Nat) : Bool := (s.wheelSign i).getD (s.ax i).signRad
def gnssSign (s : State) (i : Nat) : Bool := ((s.hdtSign i s.T).or (s.wheelSign i)).getD (s.ax i).signG

theorem axSigns_eq : axSigns i s =
    if f32.isZero (f32.abs (s.get .AX_GNSS_V i)) then
      s.setAx i { s.ax i with signRad := s.radSign i, signG := s.gnssSign i }
    else (s.setAx i { s.ax i with signRad := s.radSign i, signG := s.gnssSign i }).put .AX_GNSS_V i
      (if s.gnssSign i then f32.neg (f32.abs (s.get .AX_GNSS_V i)) else f32.abs (s.get .AX_GNSS_V i)) := rfl

theorem wheelSign_keepPrev : (keepPrev i s).wheelSign i = s.wheelSign i := by
  unfold wheelSign
  rw [wheelOk_keepPrev]
  rfl

theorem radSign_keepPrev : (keepPrev i s).radSign i = s.radSign i := by
  rw [radSign, wheelSign_keepPrev, ax_keepPrev]
  rfl

theorem gnssSign_keepPrev : (keepPrev i s).gnssSign i = s.gnssSign i := by
  rw [gnssSign, hdtSign_keepPrev, wheelSign_keepPrev, ax_keepPrev]
  rfl

theorem axSigns_keepPrev : (axSigns i (keepPrev i s)).regs = (axSigns i s).regs ∧
    ((axSigns i (keepPrev i s)).ax i).signRad = ((axSigns i s).ax i).signRad := by
  have hv : (keepPrev i s).get .AX_GNSS_V i = s.get .AX_GNSS_V i := rfl
  rw [axSigns_eq, axSigns_eq, radSign_keepPrev, gnssSign_keepPrev, hv]
  split
  · exact ⟨rfl, by rw [ax_setAx_same, ax_setAx_same]⟩
  · exact ⟨rfl, by rw [ax_put, ax_put, ax_setAx_same, ax_setAx_same]⟩

theorem groundSpeed_keepPrev (k : Nat) : (keepPrev i s).groundSpeed i k = s.groundSpeed i k := by
  obtain ⟨hr, ha⟩ := axSigns_keepPrev i s
  unfold groundSpeed
  rw [srcSpeed_congr i k (fun r _ => get_of_regs hr r) ha]
  rfl

/-- What a GROUND axis in phase 2 leaves, before the flags of LOWSPD and REVERSE. -/
theorem groundMove_regs (g : Axis → Axis) {u : State} (h : regsOnly (ofInst [.AX_POS_LO, .AX_POS_HI, .AX_VEL, .AX_ACC] i)
    (modAx i g (axSigns i s)) u) : regsOnly (ofInst [.AX_POS_LO, .AX_POS_HI, .AX_VEL, .AX_ACC, .AX_GNSS_V, .AX_STAT] i ++
      evtRegs 38 ++ evtRegs 39) s (axFlags i u) := by
  refine ((axSigns_regs i s).mono ?_).trans ((h.mono ?_).trans ((axFlags_regs i u).mono ?_))
  all_goals
    simp
    try tauto

/-! ### Phase 2 of a GROUND axis, by its state -/

variable {i s}

/-- The registers that phase 2 of a GROUND axis writes. -/
def groundRegs (i : Nat) : List (Reg × Nat) :=
  ofInst [.AX_POS_LO, .AX_POS_HI, .AX_VEL, .AX_ACC, .AX_GNSS_V, .AX_STAT] i ++ evtRegs 38 ++ evtRegs 39

theorem axFlags_motion (u : State) : (axFlags i u).axPos i = u.axPos i ∧ (axFlags i u).axVel i = u.axVel i ∧
    (axFlags i u).axAcc i = u.axAcc i :=
  motion_congr i (axFlags_regs i u) (by simp) (by simp) (by simp) (by simp)

theorem axSigns_motion (g : Axis → Axis) (hg : ∀ b, (g b).rem = b.rem) :
    (modAx i g (axSigns i s)).axPos i = s.axPos i ∧ ((modAx i g (axSigns i s)).ax i).rem = (s.ax i).rem ∧
      (modAx i g (axSigns i s)).axVel i = s.axVel i := by
  obtain ⟨hx, hv, -⟩ := motion_congr i (axSigns_regs i s) (by simp) (by simp) (by simp) (by simp)
  refine ⟨hx, ?_, hv⟩
  rw [ax_modAx_same, hg, axSigns_eq]
  split <;> simp

theorem axGround_coast (h : s.axState i = 2) :
    (axGround i s).axPos i = wrap48 (s.axPos i + ((s.ax i).rem + tickSpan (s.axVel i)) / 65536) ∧
    (axGround i s).axVel i = s.axVel i ∧ (axGround i s).axAcc i = 0#32 ∧ regsOnly (groundRegs i) s (axGround i s) := by
  refine axGround_ind i s (P := fun t => t.axPos i = wrap48 (s.axPos i + ((s.ax i).rem + tickSpan (s.axVel i)) / 65536) ∧
    t.axVel i = s.axVel i ∧ t.axAcc i = 0#32 ∧ regsOnly (groundRegs i) s t)
    (fun h1 => by omega) (fun h1 => by omega) (fun _ g hg => ?_) (fun _ h2 => absurd h h2)
  obtain ⟨hx, hr, hv⟩ := axSigns_motion (i := i) (s := s) g hg
  obtain ⟨fx, fv, fa⟩ := axFlags_motion (i := i)
    ((axAdvance i (tickSpan (s.axVel i)) (modAx i g (axSigns i s))).put .AX_ACC i 0#32)
  refine ⟨?_, ?_, fa.trans (get_put_same ..), groundMove_regs i s g (by simp)⟩
  · rw [fx, ← hx, ← hr, ← axAdvance_pos]
    exact axPos_congr i (get_put_reg (by decide) ..) (get_put_reg (by decide) ..)
  · rw [fv, ← hv]
    exact (get_put_reg (by decide) ..).trans (get_axAdvance _ _ _ _ (by decide) (by decide))

theorem axGround_stopped (h : s.axState i = 3) :
    (axGround i s).axPos i = s.axPos i ∧ (axGround i s).axVel i = 0#32 ∧ (axGround i s).axAcc i = 0#32 ∧
    regsOnly (groundRegs i) s (axGround i s) := by
  refine axGround_ind i s (P := fun t => t.axPos i = s.axPos i ∧ t.axVel i = 0#32 ∧ t.axAcc i = 0#32 ∧
    regsOnly (groundRegs i) s t)
    (fun h1 => by omega) (fun h1 => by omega) (fun h2 => by omega) (fun _ _ g => ?_)
  obtain ⟨hx, -, -⟩ := motion_congr i (axSigns_regs i s) (by simp) (by simp) (by simp) (by simp)
  obtain ⟨fx, fv, fa⟩ := axFlags_motion (i := i) (setVA i 0#32 0#32 (modAx i g (axSigns i s)))
  exact ⟨fx.trans ((setVA_pos ..).trans hx), fv.trans (setVA_vel ..), fa.trans (setVA_acc ..),
    groundMove_regs i s g (by simp)⟩

theorem axGround_run (h : s.axState i = 1) (ha : s.fld AX_STAT_ACTIVE i < 3) :
    (axGround i s).axVel i = s.groundSpeed i (s.fld AX_STAT_ACTIVE i) ∧
    (s.fld AX_STAT_ACTIVE i = 2 → (axGround i s).axPos i =
      wrap48 (s.axPos i + ((s.ax i).rem + tickSpan (s.groundSpeed i (s.fld AX_STAT_ACTIVE i))) / 65536) ∧
        (axGround i s).axAcc i = 0#32) ∧ regsOnly (groundRegs i) s (axGround i s) := by
  refine axGround_ind i s (P := fun t => t.axVel i = s.groundSpeed i (s.fld AX_STAT_ACTIVE i) ∧
    (s.fld AX_STAT_ACTIVE i = 2 → t.axPos i =
      wrap48 (s.axPos i + ((s.ax i).rem + tickSpan (s.groundSpeed i (s.fld AX_STAT_ACTIVE i))) / 65536) ∧
        t.axAcc i = 0#32) ∧ regsOnly (groundRegs i) s t)
    (fun _ g x a hg h2 => ?_) (fun _ h3 => absurd ha h3) (fun h2 => by omega) (fun h1 => absurd h h1)
  obtain ⟨hx, hr, -⟩ := axSigns_motion (i := i) (s := s) g hg
  obtain ⟨fx, fv, fa⟩ := axFlags_motion (i := i) (setVA i (s.groundSpeed i (s.fld AX_STAT_ACTIVE i)) a
    (axAdvance i x (modAx i g (axSigns i s))))
  refine ⟨fv.trans (setVA_vel ..), fun hk => ?_, groundMove_regs i s g (by simp)⟩
  obtain ⟨rfl, rfl⟩ := h2 hk
  exact ⟨by rw [fx, setVA_pos, axAdvance_pos, hx, hr], fa.trans (setVA_acc ..)⟩

end
end State

/-! ### The statement's parts -/

theorem tEn_keepPrev {i : Nat} {s : State} (ht : (s.ax i).tEn ≠ s.T) :
    ((keepPrev i s).ax i).tEn ≠ (keepPrev i s).T := by
  rw [ax_keepPrev]
  exact ht

theorem ax_setAxPos {i : Nat} (x : Int) (s : State) (j : Nat) : (setAxPos i x s).ax j = s.ax j := rfl

/-- Phase 2 of an axis that keeps going, by the work of its type, and what that leaves alone. -/
theorem axUpdate_eq {i : Nat} {s w : State} (he : s.axEn i = true) (hw : axWork i (keepPrev i s) = w) :
    axUpdate i s = keepEnd i w ∧ ∀ l, regsOnly l (keepPrev i s) w → State.only l s (axUpdate i s) :=
  ⟨by rw [axUpdate_of_en i s he, hw], fun _ h => axUpdate_only i s he (hw ▸ h)⟩

/-- Settles O42: writes by their registers' rules, disables by `Calms`, phase 2 by type. -/
theorem axisCommands : Obligations.AxisCommands := by
  refine ⟨fun m i k v => ?_, fun m i v => ?_, fun m i v => ?_, fun m i v s => ?_, fun i s he => ?_,
    fun i s he ht hty => ?_, fun i s he ht hty => ?_, fun i s he ht hty => ?_, fun i s he ht hty hlt hj => ?_,
    fun i s he ht hty hj => ?_, fun i s he ht hty => ?_, fun i s he ht hty hst => ?_, fun i s he ht hty hst => ?_,
    fun i s he ht hty hst ha => ?_⟩
  · refine serves_of_wrRes_noted (fun _ => rfl) (located_axK k i) (instOf_kReg k i) (by fin_cases k <;> decide)
      (by fin_cases k <;> decide) (fun _ _ _ h => h) ?_
    rintro c u - - ⟨hv, hk⟩
    exact ⟨_, wrRes_axK hv hk, by simp, by simp, get_put_same ..⟩
  · refine serves_of_wrRes_noted (fun _ => rfl) (located_axStep i) (fun _ _ => rfl) (by decide) (by decide)
      (fun _ _ _ h => h) ?_
    rintro c u - hm ⟨he, ht⟩
    exact ⟨_, (wrRes_axStep hm).trans (by rw [axStep_soft he ht]), by simp, by simp, by rw [ax_modAx_same]⟩
  · refine serves_of_wrRes_noted (fun _ => rfl) (located_axStep i) (fun _ _ => rfl) (by decide) (by decide)
      (fun _ _ _ h => h) ?_
    rintro c u - hm h
    exact ⟨u, (wrRes_axStep hm).trans (by rw [axStep_other h]), by simp, rfl, rfl⟩
  · intro u hm hen hv
    obtain ⟨hresp, y, hset⟩ := wr_settled (t := gmAxisStop i (laneFlushAxis i (axOff i u))) (located_axCfg i)
      (fun _ _ => rfl) (by decide) (by decide) hm fun c _ => wrRes_axDisable hen hv
    have heff := axDisable_effect i.val u
    refine ⟨wr m .AX_CFG i (v &&& ~~~1#32) s.begin', _, rfl, hresp, rfl, ?_⟩
    rw [hset]
    exact heff
  · intro t
    exact if_pos (by simp [he])
  · intro t
    obtain ⟨hu, ho⟩ := axUpdate_eq he (axWork_time (tEn_keepPrev ht) hty)
    refine ⟨?_, ho _ (by simp)⟩
    rw [show t = _ from hu, axPos_keepEnd, axPos_setAxPos]
    rfl
  · intro t
    obtain ⟨hu, ho⟩ := axUpdate_eq he (axWork_soft (tEn_keepPrev ht) hty)
    refine ⟨?_, ?_, ?_, ?_, ?_, ho _ (by simp)⟩ <;> rw [show t = _ from hu]
    · rw [axPos_keepEnd, setVA_pos, axPos_setAxPos, ax_keepPrev]
      rfl
    · rw [ax_keepEnd, setVA_ax, ax_setAxPos, ax_modAx_same, ax_keepPrev]
    · rw [ax_keepEnd, setVA_ax, ax_setAxPos, ax_modAx_same]
    · rw [axVel_keepEnd, setVA_vel]
      rfl
    · rw [axAcc_keepEnd, setVA_acc]
      rfl
  · intro t
    obtain ⟨hu, ho⟩ := axUpdate_eq he (axWork_mains (tEn_keepPrev ht) hty)
    refine ⟨?_, ho _ (by simp [axMains])⟩
    rw [show t = _ from hu, axPos_keepEnd, axMains, axPos_setAxPos, mainsAt, ax_keepPrev]
    rfl
  · intro t
    have hne : s.fld AX_CFG_SRC_AX i ≠ i := by omega
    obtain ⟨hu, ho⟩ := axUpdate_eq he (axWork_derived (tEn_keepPrev ht) hty)
    obtain ⟨h1, h2, h3, h4, h5⟩ := axDerived_source i.val (keepPrev i s) (j := s.fld AX_CFG_SRC_AX i) rfl hj
    rw [ax_keepPrev, ax_keepPrev_ne _ _ hne] at h1
    refine ⟨?_, ?_, ?_, ?_, ho _ h5⟩ <;> rw [show t = _ from hu]
    · exact (axPos_keepEnd ..).trans h1
    · exact (axVel_keepEnd ..).trans h2
    · exact (axAcc_keepEnd ..).trans h3
    · exact h4
  · intro t
    obtain ⟨hu, ho⟩ := axUpdate_eq he (axWork_derived (tEn_keepPrev ht) hty)
    obtain ⟨h1, h2, h3, h4, h5, h6⟩ := axDerived_hold i.val (keepPrev i s) hj
    refine ⟨?_, ?_, ?_, ?_, ?_, ho _ h6⟩ <;> rw [show t = _ from hu]
    · exact (axPos_keepEnd ..).trans h1
    · exact (axVel_keepEnd ..).trans h2
    · exact (axAcc_keepEnd ..).trans h3
    · exact h4
    · exact h5
  · intro t
    obtain ⟨g, hg, hc⟩ := axCounted_eq i (keepPrev i s)
    obtain ⟨hu, ho⟩ := axUpdate_eq he ((axWork_counted (tEn_keepPrev ht) hty).trans hc)
    have hi : (keepPrev i s).countedInc i = s.countedInc i := by
      rw [countedInc, countUpdate_keepPrev, ax_keepPrev]
      rfl
    refine ⟨?_, ?_, ?_, ho _ (by simp)⟩ <;> rw [show t = _ from hu]
    · rw [axPos_keepEnd, setVA_pos, axAdvance_pos, ax_modAx_same, hg, ax_keepPrev, hi]
      rfl
    · exact (axVel_keepEnd ..).trans (setVA_vel ..)
    · exact (axAcc_keepEnd ..).trans (setVA_acc ..)
  · intro t
    obtain ⟨hu, ho⟩ := axUpdate_eq he (axWork_ground (tEn_keepPrev ht) hty)
    obtain ⟨h1, h2, h3, h4⟩ := axGround_coast (i := i.val) (s := keepPrev i s) hst
    rw [ax_keepPrev] at h1
    refine ⟨?_, ?_, ?_, ho _ h4⟩ <;> rw [show t = _ from hu]
    · exact (axPos_keepEnd ..).trans h1
    · exact (axVel_keepEnd ..).trans h2
    · exact (axAcc_keepEnd ..).trans h3
  · intro t
    obtain ⟨hu, ho⟩ := axUpdate_eq he (axWork_ground (tEn_keepPrev ht) hty)
    obtain ⟨h1, h2, h3, h4⟩ := axGround_stopped (i := i.val) (s := keepPrev i s) hst
    refine ⟨?_, ?_, ?_, ho _ h4⟩ <;> rw [show t = _ from hu]
    · exact (axPos_keepEnd ..).trans h1
    · exact (axVel_keepEnd ..).trans h2
    · exact (axAcc_keepEnd ..).trans h3
  · intro t
    obtain ⟨hu, ho⟩ := axUpdate_eq he (axWork_ground (tEn_keepPrev ht) hty)
    obtain ⟨h1, h2, h3⟩ := axGround_run (i := i.val) (s := keepPrev i s) hst ha
    rw [groundSpeed_keepPrev] at h1 h2
    have hv : t.axVel i = s.groundSpeed i (s.fld AX_STAT_ACTIVE i) := by
      rw [show t = _ from hu]
      exact (axVel_keepEnd ..).trans h1
    refine ⟨hv, fun hk => ?_, ho _ h3⟩
    obtain ⟨h4, h5⟩ := h2 hk
    rw [ax_keepPrev] at h4
    rw [hv]
    refine ⟨?_, ?_⟩ <;> rw [show t = _ from hu]
    · exact (axPos_keepEnd ..).trans h4
    · exact (axAcc_keepEnd ..).trans h5

end Sys2Proof.Machine

end

section

/-!
Sentences, PPS edges and the IMU (O45).
-/

namespace Sys2Proof.Machine
open Kept State
namespace State
section
variable (r t : Nat) (s : State)

@[simp] theorem rcv_modRcv (f : Gnss → Gnss) : (s.modRcv r f).rcv r = f (s.rcv r) := SMap.get_set_same ..

@[simp] theorem regsOnly_modRcv {l : List (Reg × Nat)} {s u : State} {r : Nat} {f : Gnss → Gnss} :
    regsOnly l s (u.modRcv r f) ↔ regsOnly l s u := .rfl
@[simp] theorem regsOnly_modGeo {l : List (Reg × Nat)} {s u : State} {f : Geo → Geo} :
    regsOnly l s (modGeo f u) ↔ regsOnly l s u := .rfl
@[simp] theorem regsOnly_queueFix {l : List (Reg × Nat)} {s u : State} {f : Fix} :
    regsOnly l s (queueFix f u) ↔ regsOnly l s u := regsOnly_when (by simp)

theorem queueFix_only (f : Fix) : (queueFix f s).rcv r = s.rcv r ∧ ∀ i, (queueFix f s).ax i = s.ax i := by
  unfold queueFix when
  split <;> exact ⟨rfl, fun _ => rfl⟩

theorem rateTake_recNote (key lim k n : Nat) (b : List Word) :
    (rateTake key lim t (recNote k n t b s)).2 = (rateTake key lim t s).2 := by
  obtain ⟨y, hy⟩ := recNote_eq_setRecorder k n t b s
  rw [hy]
  rfl

/-- A state that stands for what the axes and receivers read as before. -/
structure SameAxes (s u : State) : Prop where
  get : ∀ r i, u.get r i = s.get r i
  axes : u.axes = s.axes
  gnss : u.gnss = s.gnss

theorem sameAxes_recNote (k n : Nat) (b : List Word) : SameAxes s (recNote k n t b s) := by
  obtain ⟨y, hy⟩ := recNote_eq_setRecorder k n t b s
  rw [hy]
  exact ⟨fun _ _ => rfl, rfl, rfl⟩

theorem sameAxes_rateTake (key lim k n : Nat) (b : List Word) :
    SameAxes s (rateTake key lim t (recNote k n t b s)).1 := by
  obtain ⟨y, hy⟩ := recNote_eq_setRecorder k n t b s
  rw [hy]
  exact ⟨fun _ _ => rfl, rfl, rfl⟩

/-- A sentence within its rating is taken as its kind says (R140, R99). -/
theorem gnssSentence_rated {r t : Nat} {l : List Byte} {s : State} {k : Nat} {fs : List (List Byte)}
    (hp : Nmea.parse l = some (k, fs)) (hr : (rateTake (8 + 4 * r + k) 20 t s).2 = false) :
    ∃ u, SameAxes s u ∧ gnssSentence r t l s = gnssTake r t k fs u := by
  refine ⟨_, sameAxes_rateTake t s (8 + 4 * r + k) 20 6 r (packBytes l), ?_⟩
  unfold gnssSentence
  rw [hp]
  exact if_neg (by rw [rateTake_recNote, hr]; decide)

/-! ### GGA (R140, R141) -/

theorem ppsPair_gga (tau : Option Nat) : ((ppsPair r t tau s).rcv r).ggaT = (s.rcv r).ggaT ∧
    ((ppsPair r t tau s).rcv r).ggaQ = (s.rcv r).ggaQ := by
  unfold ppsPair
  split
  · split
    · rw [rcv_modRcv]
      exact ⟨rfl, rfl⟩
    · exact ⟨rfl, rfl⟩
  · exact ⟨rfl, rfl⟩

theorem ppsPair_regs (tau : Option Nat) : regsOnly [] s (ppsPair r t tau s) := by
  unfold ppsPair
  split
  · simp
  · simp

/-- The quality of a GGA. -/
def ggaQuality (fs : List (List Byte)) : Nat := ((Nmea.dec (Nmea.fieldAt fs 5)).map fun d => d.num / d.den).getD 0

/-- What the receiver keeps of a GGA. -/
def ggaHeld (r t : Nat) (fs : List (List Byte)) (s : State) : State :=
  ppsPair r t (Nmea.utc (Nmea.fieldAt fs 0)) (s.modRcv r fun g => { g with ggaQ := ggaQuality fs, ggaT := some t })

/-- A GGA gives a fix on top of what the receiver keeps, or E064, or neither. -/
theorem gnssTake_gga (fs : List (List Byte)) : gnssTake r t 0 fs s = ggaHeld r t fs s ∨
    (∃ f, gnssTake r t 0 fs s = queueFix f (ggaHeld r t fs s)) ∨
    gnssTake r t 0 fs s = (ggaHeld r t fs s).raise 64 := by
  have hq (d : Option Dec) : (match d with | some d => d.num / d.den | none => 0) = (d.map fun d => d.num / d.den).getD 0 := by
    cases d <;> rfl
  unfold ggaHeld ggaQuality
  rw [← hq, gnssTake]
  generalize ppsPair r t _ _ = u
  split_ifs
  · split
    · exact .inr (.inl ⟨_, rfl⟩)
    · exact .inr (.inr rfl)
  · exact .inl rfl

theorem gnssTake_gga_holds (fs : List (List Byte)) : regsOnly (evtRegs 64) s (gnssTake r t 0 fs s) ∧
    ((gnssTake r t 0 fs s).rcv r).ggaT = some t ∧ ((gnssTake r t 0 fs s).rcv r).ggaQ = ggaQuality fs := by
  have hr : regsOnly (evtRegs 64) s (ggaHeld r t fs s) :=
    ((regsOnly_modRcv.2 (regsOnly_refl _ s)).trans (ppsPair_regs r t _ _)).mono (by simp)
  obtain ⟨h1, h2⟩ := ppsPair_gga r t (s.modRcv r fun g => { g with ggaQ := ggaQuality fs, ggaT := some t })
    (Nmea.utc (Nmea.fieldAt fs 0))
  rw [rcv_modRcv] at h1 h2
  obtain h | ⟨f, h⟩ | h := gnssTake_gga r t s fs
  · rw [h]
    exact ⟨hr, h1, h2⟩
  · rw [h, (queueFix_only ..).1]
    exact ⟨regsOnly_queueFix.2 hr, h1, h2⟩
  · rw [h]
    exact ⟨(regsOnly_raise (by simp) (by simp)).2 hr, h1, h2⟩

/-! ### HDT (R142) -/

theorem gnssTake_hdt {fs : List (List Byte)} {d : Dec} (hd : Nmea.dec (Nmea.fieldAt fs 0) = some d) :
    (∀ l, regsOnly l s (gnssTake r t 3 fs s)) ∧ ((gnssTake r t 3 fs s).rcv r).hdt = some (bearing d, t) := by
  simp only [gnssTake, hd]
  split
  · rw [(queueFix_only ..).1, rcv_modRcv]
    exact ⟨by simp, rfl⟩
  · rw [rcv_modRcv]
    exact ⟨by simp, rfl⟩

/-! ### Lines that are no sentence (R140) -/

theorem gnssSentence_unparsed {l : List Byte} (hp : Nmea.parse l = none) :
    regsOnly (evtRegs 64 ++ evtRegs 44) s (gnssSentence r t l s) ∧
      ∀ k, Nmea.kindAt l = some k → (gnssSentence r t l s).pends (if k = 0 ∨ k = 3 then 64 else 44) = true := by
  unfold gnssSentence
  rw [hp]
  have h64 (u : State) : regsOnly (evtRegs 64 ++ evtRegs 44) u (u.raise 64) := by simp
  have h44 (u : State) : regsOnly (evtRegs 64 ++ evtRegs 44) u (u.raise 44) := by simp
  have hrec : regsOnly (evtRegs 64 ++ evtRegs 44) s (recNote 6 r t (packBytes l) s) := by simp
  dsimp only
  split
  · next hk =>
    refine ⟨hrec.trans (h64 _), fun k h => ?_⟩
    obtain rfl := Option.some.inj (hk.symm.trans h)
    exact raise_pends _ _ (by decide)
  · next hk =>
    refine ⟨hrec.trans (h64 _), fun k h => ?_⟩
    obtain rfl := Option.some.inj (hk.symm.trans h)
    exact raise_pends _ _ (by decide)
  · next h0 h3 hk =>
    refine ⟨hrec.trans (h44 _), fun k h => ?_⟩
    obtain rfl := Option.some.inj (hk.symm.trans h)
    rw [if_neg fun h => h.elim h0 h3]
    exact raise_pends _ _ (by decide)
  · next hk =>
    refine ⟨hrec, fun k h => ?_⟩
    rw [hk] at h
    cases h

/-! ### RMC and VTG (R80, R81) -/

/-- Of a receiver's sentence, what an axis is and holds: the axis, its registers, the receivers. -/
def sameFor (i : Nat) (s u : State) : Prop := sameAxis i s u ∧ u.gnss = s.gnss

theorem sameFor.trans {i : Nat} {s u v : State} (h : sameFor i s u) (h' : sameFor i u v) : sameFor i s v :=
  ⟨h.1.trans h'.1, h'.2.trans h.2⟩

theorem sameFor.speedOk {i : Nat} {s u : State} (h : sameFor i s u) (r t k : Nat) (fs : List (List Byte)) :
    u.speedOk r t (u.axGnssTo i) k fs = s.speedOk r t (s.axGnssTo i) k fs := by
  have hr : u.rcv r = s.rcv r := by rw [rcv, rcv, h.2]
  have hg : u.axGnssTo i = s.axGnssTo i := by rw [axGnssTo, axGnssTo, h.1.fld AX_GNSS_GNSS_TO]
  unfold State.speedOk
  rw [hr, hg]

theorem sameFor_of_sameAxes {i : Nat} {s u : State} (h : SameAxes s u) : sameFor i s u :=
  ⟨⟨by rw [ax, h.axes]; rfl, fun q _ _ => h.get q i, fun e he => by rwa [pends_congr e (h.get _ _)]⟩, h.gnss⟩

section
variable (k : Nat) (fs : List (List Byte)) (i j : Nat)

/-- A sentence that passes the tests for an axis gives it the speed under the sign held, one that fails raises E044. -/
theorem speedAxis_eq : speedAxis r t k fs i s =
    if s.speedOk r t (s.axGnssTo i) k fs then
      (s.put .AX_GNSS_V i ((if (s.ax i).signG then f32.neg else id) ((speedOf k fs).getD 0#32))).modAx i fun a =>
        { a with gT := some t, gCog := (Nmea.dec (Nmea.fieldAt fs (if k = 1 then 7 else 0))).map bearing, gNew := true }
    else s.raise 44 := by
  have hsome : s.speedOk r t (s.axGnssTo i) k fs = true → ∃ v, speedOf k fs = some v := by
    intro h
    rw [← Option.isSome_iff_exists]
    exact (Bool.and_eq_true _ _ ▸ h : _ ∧ _).2
  unfold speedAxis
  by_cases h : s.speedOk r t (s.axGnssTo i) k fs = true
  · obtain ⟨v, hv⟩ := hsome h
    have hn : (if (s.ax i).signG then f32.neg else id) v = if (s.ax i).signG then f32.neg v else v := by
      split <;> rfl
    simp only [h, if_true, hv, Option.getD, hn]
  · simp only [h, if_false, Bool.false_eq_true]

theorem speedAxis_regs : regsOnly (ofInst [.AX_GNSS_V] i ++ evtRegs 44) s (speedAxis r t k fs i s) := by
  rw [speedAxis_eq]
  simp

theorem speedAxis_sameFor (h : j ≠ i) : sameFor i s (speedAxis r t k fs j s) := by
  rw [speedAxis_eq]
  split
  · exact ⟨⟨ax_modAx_ne _ _ (Ne.symm h) _, fun q _ _ => get_put_idx (Ne.symm h) .., fun e he => by
      rwa [pends_modAx, pends_put _ _ _ _ _ (by decide)]⟩, rfl⟩
  · exact ⟨⟨rfl, fun q h1 h2 => get_raise _ _ _ _ h1 h2, fun e he => by
      rw [pends_raise _ _ _ (by decide), he, Bool.true_or]⟩, rfl⟩

/-- Whether an axis takes its speed from the receiver (R80). -/
def takesSpeed (s : State) (r i : Nat) : Bool :=
  s.axEn i && s.axType i == tGround && s.axHas i .gnss && s.fld AX_SRC_GNSS_SEL i == r

/-- The course over ground is a fix or nothing (R148). -/
theorem courseTake_eq : courseTake r t k fs s = s ∨ ∃ f, courseTake r t k fs s = queueFix f s := by
  unfold courseTake
  extract_lets i slow
  split
  · exact .inl rfl
  · split
    · exact .inr ⟨_, rfl⟩
    · exact .inl rfl

theorem courseTake_only : (∀ q n, (courseTake r t k fs s).get q n = s.get q n) ∧
    ∀ n, (courseTake r t k fs s).ax n = s.ax n := by
  obtain h | ⟨f, h⟩ := courseTake_eq r t s k fs <;> rw [h]
  · exact ⟨fun _ _ => rfl, fun _ => rfl⟩
  · exact ⟨fun q n => regsOnly_queueFix.2 (regsOnly_refl [] s) q n (by simp), (queueFix_only 0 s f).2⟩

theorem gnssTake_speed (hk : k = 1 ∨ k = 2) : gnssTake r t k fs s =
    courseTake r t k fs (each (pick 32 (s.takesSpeed r)) (speedAxis r t k fs) s) := by
  obtain rfl | rfl := hk <;> rfl

/-! ### A rated speed sentence, by axis -/

variable {r t k fs i} {l : List Byte} (hp : Nmea.parse l = some (k, fs)) (hk : k = 1 ∨ k = 2)
  (hr : (rateTake (8 + 4 * r + k) 20 t s).2 = false)
include hp hk hr

theorem gnssSentence_speed : ∃ u, SameAxes s u ∧ gnssSentence r t l s =
    courseTake r t k fs (each (pick 32 (s.takesSpeed r)) (speedAxis r t k fs) u) := by
  obtain ⟨u, hu, h⟩ := gnssSentence_rated hp hr
  refine ⟨u, hu, ?_⟩
  have ht : u.takesSpeed r = s.takesSpeed r := by
    funext i
    simp only [takesSpeed, axEn, axType, axHas, flag, fld, hu.get]
  rw [h, gnssTake_speed _ _ _ _ _ hk, ht]

theorem gnssSentence_speed_regs :
    regsOnly (ofAll [.AX_GNSS_V] 32 ++ evtRegs 44) s (gnssSentence r t l s) := by
  obtain ⟨u, hu, h⟩ := gnssSentence_speed s hp hk hr
  rw [h]
  refine (regsOnly_of_get hu.get).trans (.trans ?_ (regsOnly_of_get (courseTake_only ..).1))
  refine regsOnly_each (fun i hi v => (speedAxis_regs r t v k fs i).mono ?_) u
  have hi := List.mem_range.1 (List.mem_filter.1 hi).1
  intro q j
  simp
  rintro (⟨rfl, rfl⟩ | h)
  · exact .inl ⟨rfl, hi⟩
  · exact .inr h

theorem gnssSentence_speed_of_takes (hi : i < 32) (ht : s.takesSpeed r i = true) :
    ∃ v, sameFor i s v ∧ sameAxis i (speedAxis r t k fs i v) (gnssSentence r t l s) := by
  obtain ⟨u, hu, h⟩ := gnssSentence_speed s hp hk hr
  obtain ⟨v, hv, hv'⟩ := each_inside (i := i) (R := sameFor i) (f := speedAxis r t k fs) (fun s => ⟨.refl i s, rfl⟩) .trans
    (fun j s hj => speedAxis_sameFor r t s k fs i j hj) (List.mem_filter.2 ⟨List.mem_range.2 hi, ht⟩)
    (List.nodup_range.filter _) u
  obtain ⟨hg, ha⟩ := courseTake_only r t (each (pick 32 (s.takesSpeed r)) (speedAxis r t k fs) u) k fs
  refine ⟨v, (sameFor_of_sameAxes hu).trans hv, ?_⟩
  rw [h]
  exact hv'.1.trans ⟨ha i, fun q _ _ => hg q i, fun e he => by rwa [pends_congr e (hg _ _)]⟩

theorem gnssSentence_speed_of_not (ht : s.takesSpeed r i = false) : sameAxis i s (gnssSentence r t l s) := by
  obtain ⟨u, hu, h⟩ := gnssSentence_speed s hp hk hr
  have hv := each_outside (i := i) (R := sameFor i) (f := speedAxis r t k fs) (fun s => ⟨.refl i s, rfl⟩) .trans
    (fun j s hj => speedAxis_sameFor r t s k fs i j hj) (x := pick 32 (s.takesSpeed r))
    (fun hi => by rw [(List.mem_filter.1 hi).2] at ht; cases ht) u
  obtain ⟨hg, ha⟩ := courseTake_only r t (each (pick 32 (s.takesSpeed r)) (speedAxis r t k fs) u) k fs
  rw [h]
  exact ((sameFor_of_sameAxes hu).trans hv).1.trans
    ⟨ha i, fun q _ _ => hg q i, fun e he => by rwa [pends_congr e (hg _ _)]⟩

theorem gnssSentence_speed_taken (hi : i < 32) (ht : s.takesSpeed r i = true)
    (ho : s.speedOk r t (s.axGnssTo i) k fs = true) : ((gnssSentence r t l s).ax i).gT = some t ∧
      (gnssSentence r t l s).get .AX_GNSS_V i =
        (if (s.ax i).signG then f32.neg else id) ((speedOf k fs).getD 0#32) := by
  obtain ⟨v, hv, h⟩ := gnssSentence_speed_of_takes s hp hk hr hi ht
  have hov : v.speedOk r t (v.axGnssTo i) k fs = true := (hv.speedOk ..).trans ho
  rw [h.ax, h.get _ (by decide) (by decide), speedAxis_eq, if_pos hov, ax_modAx_same, hv.1.ax]
  exact ⟨rfl, get_put_same ..⟩

theorem gnssSentence_speed_refused (hi : i < 32) (ht : s.takesSpeed r i = true)
    (ho : s.speedOk r t (s.axGnssTo i) k fs = false) : (gnssSentence r t l s).ax i = s.ax i ∧
      (gnssSentence r t l s).get .AX_GNSS_V i = s.get .AX_GNSS_V i ∧ (gnssSentence r t l s).pends 44 = true := by
  obtain ⟨v, hv, h⟩ := gnssSentence_speed_of_takes s hp hk hr hi ht
  have hov : v.speedOk r t (v.axGnssTo i) k fs = false := (hv.speedOk ..).trans ho
  rw [speedAxis_eq, hov, if_neg (by decide)] at h
  refine ⟨h.ax.trans hv.1.ax, ?_, h.pends 44 (raise_pends _ _ (by decide))⟩
  rw [h.get _ (by decide) (by decide), get_raise _ _ _ _ (by decide) (by decide), hv.1.get _ (by decide) (by decide)]

end

/-! ### The IMU (R145) -/

theorem imuStart_of_due (he : s.flag GM_IMU_CFG_EN 0 = true) (hb : s.imu.busy = false)
    (hd : (s.tick - s.imu.t0) % s.fld GM_IMU_CFG_PERIOD 0 = 0) : ∃ x, imuStart s = { s with imu := x } ∧ x.busy = true ∧
      x.sent = (wordBytes (s.get .GM_IMU_CMD 0) ++ List.replicate 11 0#8).take (s.fld GM_IMU_CFG_LEN 0) :=
  ⟨_, if_pos (by simp [he, hb, hd]), rfl, rfl⟩

/-- A record within its rating (R145). -/
theorem imuRecord_rated {l : List Byte} (hb : s.imu.busy = true) (hr : (rateTake 1 1000 t s).2 = false) :
    (∀ q n, (imuRecord t l s).get q n = s.get q n) ∧ (imuRecord t l s).imu.busy = false ∧
      (imuRecord t l s).yaw.imu = some (f32.mul (f32.ofInt (s.imuRaw (l.take (s.fld GM_IMU_CFG_LEN 0))))
        (s.get .GM_IMU_K 0), t) := by
  unfold imuRecord
  rw [if_pos hb]
  dsimp only
  generalize f32.mul (f32.ofInt _) _ = w
  obtain ⟨y, hy⟩ := recNote_eq_setRecorder 7 1 t [0x30000000#32, 0#32, 0#32, 0#32, 0#32, w, 0#32, 0#32] s
  rw [hy]
  have hr' : (rateTake 1 1000 t { setRecorder y s with
      imu := { (setRecorder y s).imu with busy := false }, acc := (setRecorder y s).acc + 4 }).2 = false := hr
  unfold yawRecord
  dsimp only
  rw [if_neg (by rw [hr']; decide)]
  exact ⟨fun _ _ => rfl, rfl, rfl⟩

end
end State
end Sys2Proof.Machine

end

section

/-!
The slip corrections (O45): they change the corrections of their own axis alone, and the observers do not rest on them.
-/

namespace Sys2Proof.Machine
open Kept State
namespace State

/-- All that the observers and the conditions of a slip correction rest on. -/
structure SameObs (s u : State) : Prop where
  get : ∀ r i, r ≠ .AX_CORR_W → r ≠ .AX_CORR_R → u.get r i = s.get r i
  fbs : u.fbs = s.fbs
  axes : u.axes = s.axes
  tick : u.tick = s.tick

section
variable {s t u : State}

theorem SameObs.refl (s : State) : SameObs s s := ⟨fun _ _ _ _ => rfl, rfl, rfl, rfl⟩

theorem SameObs.trans (h : SameObs s t) (h' : SameObs t u) : SameObs s u :=
  ⟨fun r i h1 h2 => (h'.get r i h1 h2).trans (h.get r i h1 h2), h'.fbs.trans h.fbs, h'.axes.trans h.axes,
    h'.tick.trans h.tick⟩

variable (h : SameObs s u)
include h

theorem SameObs.fld (f : Field) (i : Nat) (h1 : f.reg ≠ .AX_CORR_W := by decide) (h2 : f.reg ≠ .AX_CORR_R := by decide) :
    u.fld f i = s.fld f i := fld_of_get (h.get _ _ h1 h2)

theorem SameObs.flag (f : Field) (i : Nat) (h1 : f.reg ≠ .AX_CORR_W := by decide)
    (h2 : f.reg ≠ .AX_CORR_R := by decide) : u.flag f i = s.flag f i := by
  rw [State.flag, State.flag, h.fld f i h1 h2]

theorem SameObs.fbc (c : Nat) : u.fbc c = s.fbc c := by rw [State.fbc, State.fbc, h.fbs]
theorem SameObs.ax (i : Nat) : u.ax i = s.ax i := by rw [State.ax, State.ax, h.axes]

theorem SameObs.put (r : Reg) (i : Nat) (w : Word) : SameObs (s.put r i w) (u.put r i w) :=
  ⟨fun r' j h1 h2 => by rw [get_put, get_put, h.get r' j h1 h2], h.fbs, h.axes, h.tick⟩

theorem SameObs.setFb (c : Nat) (f : Fb) : SameObs (s.setFb c f) (u.setFb c f) :=
  ⟨h.get, by rw [State.setFb, State.setFb, h.fbs], h.axes, h.tick⟩

theorem SameObs.fbResidual (c T : Nat) (x : Int) : u.fbResidual c T x = s.fbResidual c T x := by
  have hm : u.fbMode c = s.fbMode c := h.fld FB_CFG_MODE c
  have hd : u.fbDown c = s.fbDown c := h.flag FB_STAT_DIR c
  unfold State.fbResidual fbCap
  rw [h.fbc, hm, hd, h.get .FB_VP c (by decide) (by decide)]

theorem SameObs.fbObserve (T c : Nat) : SameObs (fbObserve T c s) (fbObserve T c u) := by
  have he : u.fbEn c = s.fbEn c := h.flag FB_CFG_EN c
  have hm : u.fbMode c = s.fbMode c := h.fld FB_CFG_MODE c
  unfold State.fbObserve
  rw [he, hm]
  split
  · dsimp only
    rw [h.fbc, h.fbResidual, h.get .FB_VEL c (by decide) (by decide), h.get .FB_ACC c (by decide) (by decide),
      h.get .FB_VP c (by decide) (by decide)]
    exact ((h.setFb c _).put ..).put ..
  · exact h

/-- Observers that stand alike step alike. -/
theorem SameObs.axObs : SameObs s.axObs u.axObs := by
  have hl (T : Nat) (l : List Nat) : ∀ {a b : State}, SameObs a b → SameObs (each l (State.fbObserve T) a) (each l (State.fbObserve T) b) := by
    induction l with
    | nil => exact id
    | cons c l ih => exact fun hab => ih (hab.fbObserve T c)
  have h' : SameObs { s with tick := s.tick + 1 } { u with tick := u.tick + 1 } :=
    ⟨h.get, h.fbs, h.axes, by rw [h.tick]⟩
  have hT : State.T { u with tick := u.tick + 1 } = State.T { s with tick := s.tick + 1 } := by rw [State.T, State.T, h'.tick]
  unfold State.axObs fbObserveAll
  rw [hT]
  exact hl _ _ h'

theorem SameObs.oks (i : Nat) : u.wheelOk i = s.wheelOk i ∧ u.radarOk i = s.radarOk i ∧ u.gnssOk i = s.gnssOk i := by
  have hl : u.axHas i .left = s.axHas i .left := h.flag AX_SRC_WL_EN i
  have hr : u.axHas i .right = s.axHas i .right := h.flag AX_SRC_WR_EN i
  have hd : u.axHas i .radar = s.axHas i .radar := h.flag AX_SRC_RAD_EN i
  have hg : u.axHas i .gnss = s.axHas i .gnss := h.flag AX_SRC_GNSS_EN i
  simp only [wheelOk, radarOk, gnssOk, hl, hr, hd, hg, h.ax, and_self]

theorem SameObs.srcSpeed (i k : Nat) : u.srcSpeed i k = s.srcSpeed i k := by
  refine srcSpeed_congr i k (fun r hr j => ?_) (by rw [h.ax])
  refine h.get r j ?_ ?_ <;> rintro rfl <;> simp [speedRegs] at hr

end

/-! ### The corrections of one axis (R85) -/

/-- Whether an axis may correct at all, and whether it corrects its wheel and its radar. -/
def slipOn (s : State) (i : Nat) : Bool :=
  s.axEn i && s.axType i == tGround && (s.ax i).chgTick != s.tick + 1 && s.gnssOk i &&
    f32.le f1000 (f32.abs (s.axObs.srcSpeed i 2)) && f32.le (f32.abs (s.get .AX_YAW 0)) 0x3CA3D70A#32 &&
    f32.le (f32.abs (s.get .AX_ACC i)) 0x48FA0000#32
def slipsW (s : State) (i : Nat) : Bool :=
  s.slipOn i && (s.flag AX_GNSS_CORR_W i && s.wheelOk i && f32.le f1000 (f32.abs (s.axObs.srcSpeed i 0)))
def slipsR (s : State) (i : Nat) : Bool :=
  s.slipOn i && (s.flag AX_GNSS_CORR_R i && s.radarOk i && f32.le f1000 (f32.abs (s.axObs.srcSpeed i 1)))

/-- The corrections after a whole second. -/
def slipW (s : State) (i : Nat) : Word :=
  if s.slipsW i then slip (s.get .AX_CORR_W i) (s.axObs.srcSpeed i 2) (s.axObs.srcSpeed i 0) else s.get .AX_CORR_W i
def slipR (s : State) (i : Nat) : Word :=
  if s.slipsR i then slip (s.get .AX_CORR_R i) (s.axObs.srcSpeed i 2) (s.axObs.srcSpeed i 1) else s.get .AX_CORR_R i

theorem f500_f1024 : f32.mul 0x43FA0000#32 f1024 = 0x48FA0000#32 := by decide

section
variable (i : Nat) (s : State)

theorem sameObs_put_W (w : Word) : SameObs s (s.put .AX_CORR_W i w) :=
  ⟨fun _ _ h _ => get_put_reg h .., rfl, rfl, rfl⟩
theorem sameObs_put_R (w : Word) : SameObs s (s.put .AX_CORR_R i w) :=
  ⟨fun _ _ _ h => get_put_reg h .., rfl, rfl, rfl⟩

theorem axSlip_eq : axSlip i s =
    let t := if s.slipsW i then s.put .AX_CORR_W i (s.slipW i) else s
    if s.slipsR i then t.put .AX_CORR_R i (s.slipR i) else t := by
  have hs (w : Word) : SameObs s (s.put .AX_CORR_W i w) := sameObs_put_W i s w
  unfold axSlip
  rw [f500_f1024]
  by_cases ho : s.slipOn i = true
  · have hw : s.slipsW i = (s.flag AX_GNSS_CORR_W i && s.wheelOk i && f32.le f1000 (f32.abs (s.axObs.srcSpeed i 0))) := by
      rw [slipsW, ho, Bool.true_and]
    have hr : s.slipsR i = (s.flag AX_GNSS_CORR_R i && s.radarOk i && f32.le f1000 (f32.abs (s.axObs.srcSpeed i 1))) := by
      rw [slipsR, ho, Bool.true_and]
    refine (if_pos ho).trans ?_
    rw [slipW, slipR, ← hw]
    by_cases h : s.slipsW i = true
    · simp only [h, if_true]
      rw [(hs _).flag AX_GNSS_CORR_R i, ((hs _).oks i).2.1, ← hr, get_put_reg (by decide)]
      split <;> rfl
    · simp only [h, if_false, Bool.false_eq_true]
      rw [← hr]
      split <;> rfl
  · have hw : s.slipsW i = false := by simp [slipsW, ho]
    have hr : s.slipsR i = false := by simp [slipsR, ho]
    refine (if_neg ho).trans ?_
    simp [hw, hr]

/-- What an axis corrects with, the corrections it holds among it. -/
def SameSlip (i : Nat) (s u : State) : Prop :=
  SameObs s u ∧ u.get .AX_CORR_W i = s.get .AX_CORR_W i ∧ u.get .AX_CORR_R i = s.get .AX_CORR_R i

theorem SameSlip.refl (s : State) : SameSlip i s s := ⟨.refl s, rfl, rfl⟩

variable {i s}

theorem SameSlip.trans {t u : State} (h : SameSlip i s t) (h' : SameSlip i t u) : SameSlip i s u := by
  obtain ⟨ho, hw, hr⟩ := h
  obtain ⟨ho', hw', hr'⟩ := h'
  exact ⟨ho.trans ho', hw'.trans hw, hr'.trans hr⟩

theorem SameSlip.slip {u : State} (h : SameSlip i s u) : u.slipW i = s.slipW i ∧ u.slipR i = s.slipR i := by
  obtain ⟨ho, hw, hr⟩ := h
  obtain ⟨h1, h2, h3⟩ := ho.oks i
  have hen : u.axEn i = s.axEn i := ho.flag AX_CFG_EN i
  have hty : u.axType i = s.axType i := ho.fld AX_CFG_TYPE i
  have hon : u.slipOn i = s.slipOn i := by
    unfold slipOn
    rw [hen, hty, ho.ax, ho.tick, h3, ho.axObs.srcSpeed, ho.get .AX_YAW 0 (by decide) (by decide),
      ho.get .AX_ACC i (by decide) (by decide)]
  unfold slipW slipR slipsW slipsR
  rw [hon, ho.flag AX_GNSS_CORR_W i, ho.flag AX_GNSS_CORR_R i, h1, h2, ho.axObs.srcSpeed, ho.axObs.srcSpeed,
    ho.axObs.srcSpeed, hw, hr]
  exact ⟨rfl, rfl⟩

theorem axSlip_regs : regsOnly (ofInst [.AX_CORR_W, .AX_CORR_R] i) s (axSlip i s) := by
  rw [axSlip_eq]
  simp

theorem axSlip_sameObs : SameObs s (axSlip i s) := by
  have hw : SameObs s (if s.slipsW i then s.put .AX_CORR_W i (s.slipW i) else s) := by
    split
    · exact sameObs_put_W ..
    · exact .refl s
  rw [axSlip_eq]
  dsimp only
  split
  · exact hw.trans (sameObs_put_R ..)
  · exact hw

theorem axSlip_sameSlip {j : Nat} (h : j ≠ i) : SameSlip i s (axSlip j s) :=
  ⟨axSlip_sameObs, axSlip_regs _ _ (by simp [Ne.symm h]), axSlip_regs _ _ (by simp [Ne.symm h])⟩

theorem axSlip_corr : (axSlip i s).get .AX_CORR_W i = s.slipW i ∧ (axSlip i s).get .AX_CORR_R i = s.slipR i := by
  have hw : (if s.slipsW i then s.put .AX_CORR_W i (s.slipW i) else s).get .AX_CORR_W i = s.slipW i := by
    split
    · exact get_put_same ..
    · next h => rw [slipW, if_neg h]
  have hr : (if s.slipsW i then s.put .AX_CORR_W i (s.slipW i) else s).get .AX_CORR_R i = s.get .AX_CORR_R i := by
    split
    · exact get_put_reg (by decide) ..
    · rfl
  rw [axSlip_eq]
  dsimp only
  split
  · exact ⟨(get_put_reg (by decide) ..).trans hw, get_put_same ..⟩
  · next h =>
    refine ⟨hw, hr.trans ?_⟩
    rw [slipR, if_neg h]

/-- A whole second corrects every axis from what it was met with (R85). -/
theorem slipUpdate_corr (hi : i < 32) (h : s.Tn % 200000000 = 0) :
    (slipUpdate s).get .AX_CORR_W i = s.slipW i ∧ (slipUpdate s).get .AX_CORR_R i = s.slipR i := by
  obtain ⟨v, hv, -, hw, hr⟩ := each_inside (i := i) (R := SameSlip i) (.refl i) .trans
    (fun j s hj => axSlip_sameSlip hj) (List.mem_range.2 hi) List.nodup_range s
  obtain ⟨h1, h2⟩ := axSlip_corr (i := i) (s := v)
  obtain ⟨h3, h4⟩ := hv.slip
  rw [slipUpdate, if_pos h]
  exact ⟨hw.trans (h1.trans h3), hr.trans (h2.trans h4)⟩

theorem slipUpdate_regs (h : s.Tn % 200000000 = 0) :
    regsOnly (ofAll [.AX_CORR_W, .AX_CORR_R] 32) s (slipUpdate s) := by
  rw [slipUpdate, if_pos h]
  refine regsOnly_each (fun i hi v => axSlip_regs.mono fun r j => ?_) s
  have hi := List.mem_range.1 hi
  simp
  rintro hr rfl
  exact ⟨hr, hi⟩

end
end State

/-- Settles O45: sentences by their kind, speeds and slip corrections by axis. -/
theorem receiversAndImu : Obligations.ReceiversAndImu := by
  refine ⟨fun r o => ?_, fun r o l => ?_, fun r o l => ?_, fun r o l => ?_, fun r o l k => ?_, ?_, fun o l => ?_, ?_, ?_⟩
  · refine arrives_of_pad (f := fun s => ppsEdge r (s.clk o) s) (fun _ => rfl) (fun _ h => h) fun u _ => ?_
    obtain ⟨y, hy⟩ := recNote_eq_setRecorder 5 r (u.clk o) [] u
    refine ⟨by simp [ppsEdge], by simp, ?_⟩
    rw [ppsEdge, rcv_modRcv, hy]
    exact ⟨rfl, rfl⟩
  · refine arrives_of_pad (f := fun s => gnssSentence r (s.clk o) l s) (fun _ => rfl) (fun _ h => h.1) ?_
    rintro u ⟨-, hk, hr⟩
    obtain ⟨⟨k, fs⟩, hp, rfl⟩ := Option.map_eq_some_iff.1 hk
    obtain ⟨v, hv, h⟩ := gnssSentence_rated hp hr
    obtain ⟨h1, h2, h3⟩ := gnssTake_gga_holds r (u.clk o) v fs
    refine ⟨?_, by simp, ?_⟩
    · rw [h]
      exact (regsOnly_of_get hv.get).trans h1
    · rw [h, hp]
      exact ⟨h2, h3⟩
  · refine arrives_of_pad (f := fun s => gnssSentence r (s.clk o) l s) (fun _ => rfl) (fun _ h => h.1) ?_
    rintro u ⟨-, hp⟩
    obtain ⟨h1, h2⟩ := gnssSentence_unparsed r (u.clk o) u hp
    exact ⟨h1, by simp, h2⟩
  · refine arrives_of_pad (f := fun s => gnssSentence r (s.clk o) l s) (fun _ => rfl) (fun _ h => h.1) ?_
    rintro u ⟨-, hk, hr⟩
    obtain ⟨⟨k, fs⟩, hp, hk⟩ := (Option.any_eq_true _ _).1 hk
    rw [Bool.and_eq_true, beq_iff_eq] at hk
    obtain ⟨rfl, hd⟩ := hk
    obtain ⟨d, hd⟩ := Option.isSome_iff_exists.1 hd
    have hr' : (rateTake (8 + 4 * r + 3) 20 (u.clk o) u).2 = false := by
      rw [show 8 + 4 * r.val + 3 = 11 + 4 * r by omega, hr]
    obtain ⟨v, hv, h⟩ := gnssSentence_rated hp hr'
    obtain ⟨h1, h2⟩ := gnssTake_hdt r (u.clk o) v hd
    have hregs : regsOnly [] u (gnssSentence r (u.clk o) l u) := by
      rw [h]
      exact (regsOnly_of_get hv.get).trans (h1 [])
    refine ⟨hregs, by simp, ?_, hregs _ _ (by simp)⟩
    rw [h, hp]
    exact h2.trans (by rw [Option.bind_some, hd]; rfl)
  · refine arrives_of_pad (f := fun s => gnssSentence r (s.clk o) l s) (fun _ => rfl) (fun _ h => h.1) ?_
    rintro u ⟨-, hm, hk, hr⟩
    obtain ⟨⟨k, fs⟩, hp, rfl⟩ := Option.map_eq_some_iff.1 hm
    have htakes (i : Fin 32) (h1 : u.axEn i = true) (h2 : u.axType i = 0) (h3 : u.axHas i .gnss = true)
        (h4 : u.fld AX_SRC_GNSS_SEL i = r) : u.takesSpeed r i = true := by simp [takesSpeed, tGround, h1, h2, h3, h4]
    refine ⟨gnssSentence_speed_regs u hp hk hr, by simp, ?_, ?_, ?_⟩
    · intro i h1 h2 h3 h4 h5
      rw [hp] at h5 ⊢
      exact gnssSentence_speed_taken u hp hk hr i.isLt (htakes i h1 h2 h3 h4) h5
    · intro i h1 h2 h3 h4 h5
      rw [hp] at h5
      exact gnssSentence_speed_refused u hp hk hr i.isLt (htakes i h1 h2 h3 h4) h5
    · intro i hn
      have h := gnssSentence_speed_of_not u (i := i.val) hp hk hr (by
        rcases hn with h | h | h | h <;> simp [takesSpeed, tGround, h])
      exact ⟨h.ax, h.get _ (by decide) (by decide)⟩
  · refine acts_of (f := imuStart) (fun _ => rfl) ?_
    rintro u ⟨he, hb, hd⟩
    obtain ⟨x, hx, h1, h2⟩ := imuStart_of_due u he hb hd
    refine ⟨?_, by simp, ?_⟩ <;> rw [hx]
    · exact fun _ _ _ => rfl
    · exact ⟨h1, h2⟩
  · refine arrives_of_pad (f := fun s => imuRecord (s.clk o) l s) (fun _ => rfl) (fun _ h => h.1) ?_
    rintro u ⟨-, hb, hr⟩
    obtain ⟨h1, h2, h3⟩ := imuRecord_rated (u.clk o) u (l := l) hb hr
    exact ⟨regsOnly_of_get h1, by simp, h2, h3⟩
  · refine arrives_of (f := slipUpdate) (fun _ => rfl) fun u h => ?_
    refine ⟨slipUpdate_regs h, by simp, fun i h1 h2 h3 h4 h5 h6 h7 h8 h9 h10 => ?_,
      fun i h1 h2 h3 h4 h5 h6 h7 h8 h9 h10 => ?_, fun i hn => ?_, fun i hn => ?_⟩
    · rw [(slipUpdate_corr i.isLt h).1, slipW, if_pos (by simp_all [slipsW, slipOn, tGround])]
      rfl
    · rw [(slipUpdate_corr i.isLt h).2, slipR, if_pos (by simp_all [slipsR, slipOn, tGround])]
      rfl
    · rw [(slipUpdate_corr i.isLt h).1, slipW, if_neg]
      rcases hn with h | h | h | h <;> simp [slipsW, slipOn, h]
    · rw [(slipUpdate_corr i.isLt h).2, slipR, if_neg]
      rcases hn with h | h | h | h <;> simp [slipsR, slipOn, h]
  · refine arrives_of (f := slipUpdate) (fun _ => rfl) fun u h => ?_
    rw [slipUpdate, if_neg h]
    exact ⟨by simp, rfl, rfl⟩

end Sys2Proof.Machine

end

section

/-!
CAN controllers: what their causes, levels, FIFOs and the end of a frame change (O25).
-/

namespace Sys2Proof.Machine
open Kept State
namespace State

/-! ### Causes -/

/-- The state of the controllers, of the yaw unit and of the rated inputs. -/
structure SameBus (s u : State) : Prop where
  cans : u.cans = s.cans
  yaw : u.yaw = s.yaw
  rates : u.rates = s.rates

section
variable {s t u : State}

theorem SameBus.refl (s : State) : SameBus s s := ⟨rfl, rfl, rfl⟩
theorem SameBus.trans (h : SameBus s t) (h' : SameBus t u) : SameBus s u :=
  ⟨h'.cans.trans h.cans, h'.yaw.trans h.yaw, h'.rates.trans h.rates⟩
theorem SameBus.can (h : SameBus s u) (c : Nat) : u.can c = s.can c := by rw [State.can, State.can, h.cans]

end

section
variable (er mr : Reg) (i b e c q n inst stamp : Nat) (s : State)

@[simp] theorem regsOnly_cause {er mr : Reg} {i b e : Nat} {l : List (Reg × Nat)} {s t : State} (h : (er, i) ∈ l)
    (hp : (.EVT_PEND, (evtHome e).1) ∈ l) (hr : (.EVT_RAW, (evtHome e).1) ∈ l) :
    regsOnly l s (cause er mr i b e t) ↔ regsOnly l s t := by
  simp only [cause]
  split
  · rw [regsOnly_raiseOf hp hr, regsOnly_setRbit h]
  · rw [regsOnly_setRbit h]

theorem sameBus_raiseOf : SameBus s (raiseOf e n c s) := ⟨rfl, rfl, rfl⟩

theorem sameBus_cause : SameBus s (cause er mr i b e s) := by
  simp only [cause]
  split <;> exact ⟨rfl, rfl, rfl⟩

theorem sameBus_log38 (d : List Word) : SameBus s (log38 inst c e stamp d s) := by
  unfold log38
  split <;> exact ⟨rfl, rfl, rfl⟩

/-- An event that pends stays pending through causes. -/
theorem cause_pends_of {e' : Nat} (hr : er ≠ .EVT_PEND) (he : (evtHome e).2 < 32) (h : s.pends e' = true) :
    (cause er mr i b e s).pends e' = true := by
  have h1 : (s.setRbit er i b true).pends e' = true := by rwa [setRbit, pends_put _ _ _ _ _ hr.symm]
  simp only [cause]
  split
  · rw [pends_raiseOf _ _ _ _ _ he, h1, Bool.true_or]
  · exact h1

end

/-- The event of a cause of a controller. -/
def canEvt (c b : Nat) : Nat := if b < 8 then 208 + 2 * c else 209 + 2 * c

section
variable (c b t id : Nat) (s : State)

theorem canCause_eq : canCause c b t id s = cause .CAN_EVT .CAN_EVT_MASK c b (canEvt c b) s ∨
    ∃ d, canCause c b t id s = log38 c b (canEvt c b) t d (cause .CAN_EVT .CAN_EVT_MASK c b (canEvt c b) s) := by
  unfold canCause
  dsimp only
  unfold when
  split
  · exact .inr ⟨_, rfl⟩
  · exact .inl rfl

theorem get_canCause (r : Reg) (i : Nat) :
    (canCause c b t id s).get r i = (cause .CAN_EVT .CAN_EVT_MASK c b (canEvt c b) s).get r i := by
  obtain h | ⟨d, h⟩ := canCause_eq c b t id s <;> rw [h]
  exact get_log38 ..

theorem sameBus_canCause : SameBus s (canCause c b t id s) := by
  obtain h | ⟨d, h⟩ := canCause_eq c b t id s <;> rw [h]
  · exact sameBus_cause ..
  · exact (sameBus_cause ..).trans (sameBus_log38 ..)

@[simp] theorem regsOnly_canCause {c b t id : Nat} {l : List (Reg × Nat)} {s u : State} (h : (.CAN_EVT, c) ∈ l)
    (hp : (.EVT_PEND, (evtHome (208 + 2 * c)).1) ∈ l) (hr : (.EVT_RAW, (evtHome (208 + 2 * c)).1) ∈ l)
    (hp' : (.EVT_PEND, (evtHome (209 + 2 * c)).1) ∈ l) (hr' : (.EVT_RAW, (evtHome (209 + 2 * c)).1) ∈ l) :
    regsOnly l s (canCause c b t id u) ↔ regsOnly l s u := by
  have hc : regsOnly l s (cause .CAN_EVT .CAN_EVT_MASK c b (canEvt c b) u) ↔ regsOnly l s u := by
    unfold canEvt
    split
    · exact regsOnly_cause h hp hr
    · exact regsOnly_cause h hp' hr'
  exact (regsOnly_congr fun _ _ _ => get_canCause ..).trans hc

theorem canEvt_bit_lt (hc : c < 8) : (evtHome (canEvt c b)).2 < 32 := by
  have h : ∀ c : Fin 8, (evtHome (208 + 2 * c)).2 < 32 ∧ (evtHome (209 + 2 * c)).2 < 32 := by decide
  obtain ⟨h0, h1⟩ := h ⟨c, hc⟩
  unfold canEvt
  split
  · exact h0
  · exact h1

theorem canCause_rbit (hb : b < 32) : (canCause c b t id s).rbit .CAN_EVT c b = true := by
  rw [rbit, get_canCause]
  exact cause_rbit _ _ _ _ _ hb (by decide) (by decide)

theorem canCause_pends (hc : c < 8) (hm : s.rbit .CAN_EVT_MASK c b = true) :
    (canCause c b t id s).pends (canEvt c b) = true := by
  rw [pends_congr _ (get_canCause ..)]
  exact cause_pends (by decide) (canEvt_bit_lt c b hc) hm

/-! ### Levels (R377) -/

/-- The warning of the levels, with its cause or without. -/
def canWarned (c t : Nat) (b w : Bool) (s : State) : State :=
  (if b then canCause c 0 t 0 s else s).setFlag CAN_STAT_EWARN c w

/-- The levels warn, and then set passive, clear it, or leave it. -/
theorem canLevels_cases : ∃ b w, canLevels c t s = canWarned c t b w s ∨
    canLevels c t s = canCause c 1 t 0 ((canWarned c t b w s).setFld CAN_STAT_STATE c 3) ∨
    canLevels c t s = (canWarned c t b w s).setFld CAN_STAT_STATE c 2 := by
  refine ⟨(decide (96 ≤ s.fld CAN_ERR_TEC c) || decide (96 ≤ s.fld CAN_ERR_REC c)) && !s.flag CAN_STAT_EWARN c,
    decide (96 ≤ s.fld CAN_ERR_TEC c) || decide (96 ≤ s.fld CAN_ERR_REC c), ?_⟩
  unfold canLevels
  extract_lets tec rec' warn s1 s2 pas
  have h2 : s2 = canWarned c t _ _ s := rfl
  rw [← h2]
  split_ifs
  · exact .inr (.inl rfl)
  · exact .inr (.inr rfl)
  · exact .inl rfl

@[simp] theorem regsOnly_canLevels {c t : Nat} {l : List (Reg × Nat)} {s u : State} (hs : (.CAN_STAT, c) ∈ l)
    (h : (.CAN_EVT, c) ∈ l) (hp : (.EVT_PEND, (evtHome (208 + 2 * c)).1) ∈ l)
    (hr : (.EVT_RAW, (evtHome (208 + 2 * c)).1) ∈ l) (hp' : (.EVT_PEND, (evtHome (209 + 2 * c)).1) ∈ l)
    (hr' : (.EVT_RAW, (evtHome (209 + 2 * c)).1) ∈ l) : regsOnly l s (canLevels c t u) ↔ regsOnly l s u := by
  have hc (b v : Nat) (x : State) : regsOnly l s (canCause c b t v x) ↔ regsOnly l s x :=
    regsOnly_canCause h hp hr hp' hr'
  have hw (b w : Bool) : regsOnly l s (canWarned c t b w u) ↔ regsOnly l s u := by
    rw [canWarned, regsOnly_setFlag (f := CAN_STAT_EWARN) hs]
    cases b
    · rfl
    · exact hc ..
  obtain ⟨b, w, h | h | h⟩ := canLevels_cases c t u <;> rw [h]
  · exact hw b w
  · rw [hc, regsOnly_setFld (f := CAN_STAT_STATE) hs, hw]
  · rw [regsOnly_setFld (f := CAN_STAT_STATE) hs, hw]

theorem sameBus_canLevels : SameBus s (canLevels c t s) := by
  have hw (b w : Bool) : SameBus s (canWarned c t b w s) := by
    cases b
    · exact ⟨rfl, rfl, rfl⟩
    · exact (sameBus_canCause c 0 t 0 s).trans ⟨rfl, rfl, rfl⟩
  obtain ⟨b, w, h | h | h⟩ := canLevels_cases c t s <;> rw [h]
  · exact hw b w
  · exact ((hw b w).trans (u := (canWarned c t b w s).setFld CAN_STAT_STATE c 3) ⟨rfl, rfl, rfl⟩).trans (sameBus_canCause ..)
  · exact (hw b w).trans ⟨rfl, rfl, rfl⟩

/-! ### The heads of queues (R395) -/

variable (q h : Nat)

theorem qSetHead_cases : qSetHead q h s = qStat q (s.setFld Q_HEAD_INDEX q h) ∨
    qSetHead q h s = qCause q 3 (qStat q (s.setFld Q_HEAD_INDEX q h)) := by
  simp only [qSetHead]
  split
  · exact .inr rfl
  · exact .inl rfl

theorem evtHome_q (hq : q < 48) : (evtHome (231 + 4 * (q / 12))).1 = (evtHome (228 + 4 * (q / 12))).1 ∧
    (evtHome (231 + 4 * (q / 12))).2 < 32 := by
  have h : ∀ j : Fin 4, (evtHome (231 + 4 * j)).1 = (evtHome (228 + 4 * j)).1 ∧ (evtHome (231 + 4 * j)).2 < 32 := by
    decide
  exact h ⟨q / 12, by omega⟩

@[simp] theorem regsOnly_qStat {q : Nat} {l : List (Reg × Nat)} {s u : State} (hm : (.Q_STAT, q) ∈ l) :
    regsOnly l s (qStat q u) ↔ regsOnly l s u := by
  have h (f : Field) (hf : f.reg = .Q_STAT) : (f.reg, q) ∈ l := by rwa [hf]
  simp only [qStat]
  rw [regsOnly_setFlag (h _ rfl), regsOnly_setFlag (h _ rfl), regsOnly_setFld (h _ rfl)]

theorem qSetHead_regs (hq : q < 48) : regsOnly (qRegs q) s (qSetHead q h s) := by
  obtain ⟨he, -⟩ := evtHome_q q hq
  obtain h | h := qSetHead_cases s q h <;> rw [h]
  · simp [qRegs, Q_HEAD_INDEX]
  · simp [qRegs, qCause, he, Q_HEAD_INDEX]

theorem sameBus_qSetHead : SameBus s (qSetHead q h s) := by
  obtain h | h := qSetHead_cases s q h <;> rw [h]
  · exact ⟨rfl, rfl, rfl⟩
  · exact (show SameBus s (qStat q (s.setFld Q_HEAD_INDEX q _)) from ⟨rfl, rfl, rfl⟩).trans (sameBus_cause ..)

theorem qSetHead_pends {e : Nat} (hq : q < 48) (hp : s.pends e = true) : (qSetHead q h s).pends e = true := by
  have h0 : (qStat q (s.setFld Q_HEAD_INDEX q h)).pends e = true := by
    simp (disch := decide) only [qStat, pends_setFlag, pends_setFld, hp]
  obtain h | h := qSetHead_cases s q h <;> rw [h]
  · exact h0
  · exact cause_pends_of _ _ _ _ _ _ (by decide) (evtHome_q q hq).2 h0

theorem qStat_index (f : Field) (hf : f.reg ≠ .Q_STAT) : (qStat q s).fld f q = s.fld f q := by
  simp only [qStat, setFlag]
  rw [fld_setFld_other (.inl hf), fld_setFld_other (.inl hf), fld_setFld_other (.inl hf)]

theorem qSetHead_head : (qSetHead q h s).qHead q = h % 65536 ∧ (qSetHead q h s).qTail q = s.qTail q := by
  have h0 : (qStat q (s.setFld Q_HEAD_INDEX q h)).qHead q = h % 65536 := by
    rw [qHead, qStat_index _ _ _ (by decide), fld_setFld_same _ _ _ _ (by decide)]
    rfl
  have h1 : (qStat q (s.setFld Q_HEAD_INDEX q h)).qTail q = s.qTail q := by
    rw [qTail, qStat_index _ _ _ (by decide), fld_setFld_other (by decide)]
    rfl
  obtain h | h := qSetHead_cases s q h <;> rw [h]
  · exact ⟨h0, h1⟩
  · exact ⟨(fld_of_get (get_cause _ _ _ _ _ _ _ _ (by decide) (by decide) (by decide))).trans h0,
      (fld_of_get (get_cause _ _ _ _ _ _ _ _ (by decide) (by decide) (by decide))).trans h1⟩

theorem qFill_of_head (hh : s.qHead q = s.qTail q) : s.qFill q = 0 := by
  rw [qFill, hh]
  omega

/-! ### Flushes and the end of a frame (R376, R389) -/

@[simp] theorem can_modCan (g : Can → Can) : (s.modCan c g).can c = g (s.can c) := SMap.get_set_same ..

@[simp] theorem regsOnly_modCan {c : Nat} {l : List (Reg × Nat)} {s u : State} {g : Can → Can} :
    regsOnly l s (u.modCan c g) ↔ regsOnly l s u := .rfl

theorem pends_modCan (e : Nat) (g : Can → Can) : (s.modCan c g).pends e = s.pends e := rfl

variable (f : Nat)

theorem fifoFlush_regs (hq : canFifo c f < 48) : regsOnly (qRegs (canFifo c f)) s (fifoFlush c f s) :=
  qSetHead_regs _ _ _ hq

theorem fifoFlush_can : ∃ r, (fifoFlush c f s).can c = { s.can c with retry := r } := by
  refine ⟨if (s.can c).retry = some f then none else (s.can c).retry, ?_⟩
  unfold fifoFlush
  rw [can_modCan, (sameBus_qSetHead ..).can]

theorem fifoFlush_yaw : (fifoFlush c f s).yaw = s.yaw := (sameBus_qSetHead ..).yaw

theorem fifoFlush_empty : (fifoFlush c f s).qHead (canFifo c f) = s.qTail (canFifo c f) ∧
    (fifoFlush c f s).qFill (canFifo c f) = 0 := by
  obtain ⟨hh, ht⟩ := qSetHead_head s (canFifo c f) (s.qTail (canFifo c f))
  have ht' : s.qTail (canFifo c f) < 65536 := bitsOf_lt ..
  rw [Nat.mod_eq_of_lt ht'] at hh
  exact ⟨hh, qFill_of_head _ _ (hh.trans ht.symm)⟩

theorem fifoFlush_pends {e : Nat} (hq : canFifo c f < 48) (hp : s.pends e = true) : (fifoFlush c f s).pends e = true :=
  qSetHead_pends _ _ _ hq hp


/-- The registers that the end of a frame in hand writes. -/
def restRegs (c : Nat) : List (Reg × Nat) := (.CAN_STAT, c) :: (qRegs (canFifo c 0) ++ qRegs (canFifo c 1))

theorem canFifo_lt (hc : c < 8) (hf : f < 2) : canFifo c f < 48 := by
  unfold canFifo
  omega

/-- The frame in hand set down, before the flushes that waited. -/
def canDown (c act : Nat) (s : State) : State :=
  (s.modCan c fun q => { q with tx := none }).setFld CAN_STAT_ACT c act

/-- The flushes that waited for the end of a frame. -/
def canFlushes (c : Nat) (s : State) : State :=
  when (s.can c).flushB (fifoFlush c 1) (when (s.can c).flushA (fifoFlush c 0) s)

theorem canRest_eq (act : Nat) : canRest c act s =
    (canFlushes c (canDown c act s)).modCan c fun q => { q with flushA := false, flushB := false } := rfl

theorem canFlushes_cases {P : State → State → Prop} (hr : ∀ u, P u u) (ht : ∀ {u v w}, P u v → P v w → P u w)
    (hf : ∀ f u, f < 2 → P u (fifoFlush c f u)) : P s (canFlushes c s) := by
  have hw (b : Bool) (f : Nat) (u : State) (h : f < 2) : P u (when b (fifoFlush c f) u) := by
    cases b
    · exact hr u
    · exact hf f u h
  exact ht (hw _ 0 s (by omega)) (hw _ 1 _ (by omega))

theorem canFlushes_regs (hc : c < 8) : regsOnly (restRegs c) s (canFlushes c s) := by
  refine canFlushes_cases c s (fun _ => regsOnly_refl _ _) regsOnly.trans fun f u hf => ?_
  refine (fifoFlush_regs c u f (canFifo_lt c f hc hf)).mono fun r i hr => ?_
  unfold restRegs
  obtain rfl | rfl : f = 0 ∨ f = 1 := by omega
  · simp [hr]
  · simp [hr]

theorem canFlushes_can : ∃ r, (canFlushes c s).can c = { s.can c with retry := r } := by
  refine canFlushes_cases (P := fun u v => ∃ r, v.can c = { u.can c with retry := r }) c s (fun u => ⟨_, rfl⟩) ?_
    fun f u _ => fifoFlush_can c u f
  rintro u v w ⟨r, h⟩ ⟨r', h'⟩
  exact ⟨r', by rw [h', h]⟩

theorem canFlushes_yaw : (canFlushes c s).yaw = s.yaw :=
  canFlushes_cases (P := fun u v => v.yaw = u.yaw) c s (fun _ => rfl) (fun h h' => h'.trans h) fun f u _ =>
    fifoFlush_yaw c u f

theorem canFlushes_pends {e : Nat} (hc : c < 8) (hp : s.pends e = true) : (canFlushes c s).pends e = true :=
  canFlushes_cases (P := fun u v => u.pends e = true → v.pends e = true) c s (fun _ h => h) (fun h h' => h' ∘ h)
    (fun f u hf => fifoFlush_pends c u f (canFifo_lt c f hc hf)) hp

theorem qFill_congr {q : Nat} {s u : State} (h : u.get .Q_HEAD q = s.get .Q_HEAD q) (h' : u.get .Q_TAIL q = s.get .Q_TAIL q) :
    u.qFill q = s.qFill q := by
  have h1 : u.qHead q = s.qHead q := fld_of_get h
  have h2 : u.qTail q = s.qTail q := fld_of_get h'
  rw [qFill, qFill, h1, h2]

theorem canFlushes_fill (hc : c < 8) : ((s.can c).flushA = true → (canFlushes c s).qFill (canFifo c 0) = 0) ∧
    ((s.can c).flushB = true → (canFlushes c s).qFill (canFifo c 1) = 0) := by
  unfold canFlushes
  refine ⟨fun h => ?_, fun h => ?_⟩
  · rw [h, when, when, if_pos rfl]
    have h0 := (fifoFlush_empty c s 0).2
    split
    · have hr := fifoFlush_regs c (fifoFlush c 0 s) 1 (canFifo_lt c 1 hc (by omega))
      rw [qFill_congr (hr _ _ (by simp [qRegs, canFifo])) (hr _ _ (by simp [qRegs, canFifo])), h0]
    · exact h0
  · rw [h, when, if_pos rfl]
    exact (fifoFlush_empty ..).2

end
end State
end Sys2Proof.Machine

end

section

/-!
CAN controllers: the frames that come in, the return from bus-off, the writes of CAN_CFG and CAN_CTRL, and O25.
-/

namespace Sys2Proof.Machine
open Kept State
namespace State
section
variable (c act t : Nat) (s : State)

/-! ### The end of a frame in hand -/

theorem canDown_regs : regsOnly (restRegs c) s (canDown c act s) := by
  simp [canDown, restRegs, CAN_STAT_ACT]

theorem can_setFld (f : Field) (i v : Nat) : (s.setFld f i v).can c = s.can c := rfl

theorem canDown_can : (canDown c act s).can c = { s.can c with tx := none } :=
  (can_setFld c _ _ _ _).trans (can_modCan ..)

theorem canRest_regs (hc : c < 8) : regsOnly (restRegs c) s (canRest c act s) := by
  rw [canRest_eq, regsOnly_modCan]
  exact (canDown_regs c act s).trans (canFlushes_regs c _ hc)

theorem canRest_can : ∃ r, (canRest c act s).can c =
    { s.can c with tx := none, retry := r, flushA := false, flushB := false } := by
  obtain ⟨r, hr⟩ := canFlushes_can c (canDown c act s)
  exact ⟨r, by rw [canRest_eq, can_modCan, hr, canDown_can]⟩

theorem canRest_yaw : (canRest c act s).yaw = s.yaw := canFlushes_yaw c (canDown c act s)

theorem canRest_pends {e : Nat} (hc : c < 8) (hp : s.pends e = true) : (canRest c act s).pends e = true := by
  refine canFlushes_pends c (canDown c act s) hc ?_
  rw [canDown, pends_setFld _ _ _ _ _ (by decide), pends_modCan, hp]

theorem canRest_stat (hc : c < 8) (ha : act < 4) :
    (canRest c act s).fld CAN_STAT_ACT c = act ∧ (canRest c act s).canState c = s.canState c := by
  have hg : (canRest c act s).get .CAN_STAT c = (canDown c act s).get .CAN_STAT c := by
    refine canFlushes_cases (P := fun u v => v.get .CAN_STAT c = u.get .CAN_STAT c) c (canDown c act s) (fun _ => rfl)
      (fun h h' => h'.trans h) fun f u hf => fifoFlush_regs c u f (canFifo_lt c f hc hf) _ _ (by simp [qRegs])
  have h (f : Field) (hf : f.reg = .CAN_STAT) : (canRest c act s).fld f c = (canDown c act s).fld f c :=
    fld_of_get (by rw [hf, hg])
  rw [canState, canState, h _ rfl, h _ rfl, canDown, fld_setFld_lt _ _ _ _ (by decide) (by exact ha),
    fld_setFld_other (by decide)]
  exact ⟨rfl, rfl⟩

theorem canRest_fill (hc : c < 8) : ((s.can c).flushA = true → (canRest c act s).qFill (canFifo c 0) = 0) ∧
    ((s.can c).flushB = true → (canRest c act s).qFill (canFifo c 1) = 0) := by
  have hf := canFlushes_fill c (canDown c act s) hc
  rw [canDown_can] at hf
  exact hf

/-- At a bus idle the state is kept or becomes OFF. -/
theorem canIdle_eq : ∃ b, canIdle c s = when b (setFld · CAN_STAT_STATE c 0)
    ((canRest c 0 s).modCan c fun q => { q with leave := false }) := ⟨_, rfl⟩

theorem canIdle_regs (hc : c < 8) : regsOnly (restRegs c) s (canIdle c s) := by
  obtain ⟨b, h⟩ := canIdle_eq c s
  rw [h, regsOnly_when (by simp [restRegs, CAN_STAT_STATE]), regsOnly_modCan]
  exact canRest_regs c 0 s hc

/-- Going off the bus leaves all but the state. -/
theorem canOff_only (b : Bool) : (when b (setFld · CAN_STAT_STATE c 0) s).can c = s.can c ∧
    (when b (setFld · CAN_STAT_STATE c 0) s).yaw = s.yaw ∧
    (when b (setFld · CAN_STAT_STATE c 0) s).fld CAN_STAT_ACT c = s.fld CAN_STAT_ACT c ∧
    (∀ e, (when b (setFld · CAN_STAT_STATE c 0) s).pends e = s.pends e) ∧
    ∀ q, (when b (setFld · CAN_STAT_STATE c 0) s).qFill q = s.qFill q := by
  cases b
  · exact ⟨rfl, rfl, rfl, fun _ => rfl, fun _ => rfl⟩
  · exact ⟨rfl, rfl, fld_setFld_other (by decide), fun e => pends_setFld _ _ _ _ _ (by decide), fun q =>
      qFill_congr (get_setFld_other _ _ _ _ _ _ (by decide)) (get_setFld_other _ _ _ _ _ _ (by decide))⟩

theorem canIdle_holds (hc : c < 8) : ((canIdle c s).can c).rx = (s.can c).rx ∧ ((canIdle c s).can c).tx = none ∧
    (canIdle c s).yaw = s.yaw ∧ (canIdle c s).fld CAN_STAT_ACT c = 0 ∧ (∀ e, s.pends e = true → (canIdle c s).pends e = true) ∧
    ((s.can c).flushA = true → (canIdle c s).qFill (canFifo c 0) = 0) ∧
    ((s.can c).flushB = true → (canIdle c s).qFill (canFifo c 1) = 0) := by
  obtain ⟨r, hr⟩ := canRest_can c 0 s
  obtain ⟨ha, -⟩ := canRest_stat c 0 s hc (by decide)
  obtain ⟨h0, h1⟩ := canRest_fill c 0 s hc
  obtain ⟨b, h⟩ := canIdle_eq c s
  obtain ⟨hk, hy, hact, hp, hq⟩ := canOff_only c ((canRest c 0 s).modCan c fun q => { q with leave := false }) b
  rw [can_modCan, hr] at hk
  rw [h, hk, hy, hact, hq, hq]
  refine ⟨rfl, rfl, canRest_yaw c 0 s, ha, fun e he => ?_, h0, h1⟩
  rw [hp, pends_modCan]
  exact canRest_pends c 0 s hc he

/-! ### A frame taken in (R369, R377) -/

theorem canRecOk_eq : canRecOk c t s = canLevels c t (s.setFld CAN_ERR_REC c
    (if 127 < s.fld CAN_ERR_REC c then 127 else s.fld CAN_ERR_REC c - 1)) := rfl

theorem sameBus_canRecOk : SameBus s (canRecOk c t s) := by
  rw [canRecOk_eq]
  generalize (if 127 < s.fld CAN_ERR_REC c then 127 else s.fld CAN_ERR_REC c - 1) = n
  exact (show SameBus s (s.setFld CAN_ERR_REC c n) from ⟨rfl, rfl, rfl⟩).trans (sameBus_canLevels ..)

theorem canRecOk_err : 
    (canRecOk c t s).fld CAN_ERR_REC c = (if 127 < s.fld CAN_ERR_REC c then 127 else s.fld CAN_ERR_REC c - 1) ∧
    (canRecOk c t s).fld CAN_ERR_TEC c = s.fld CAN_ERR_TEC c := by
  have hlt : s.fld CAN_ERR_REC c < 256 := bitsOf_lt ..
  have hn : (if 127 < s.fld CAN_ERR_REC c then 127 else s.fld CAN_ERR_REC c - 1) < 256 := by
    split <;> omega
  rw [canRecOk_eq]
  generalize (if 127 < s.fld CAN_ERR_REC c then 127 else s.fld CAN_ERR_REC c - 1) = n at hn ⊢
  have he : (canLevels c t (s.setFld CAN_ERR_REC c n)).get .CAN_ERR c = (s.setFld CAN_ERR_REC c n).get .CAN_ERR c :=
    (regsOnly_canLevels (l := ofInst [.CAN_STAT, .CAN_EVT] c ++ (evtRegs (208 + 2 * c) ++ evtRegs (209 + 2 * c)))
      (by simp) (by simp) (by simp) (by simp) (by simp) (by simp)).2 (regsOnly_refl _ _) _ _ (by simp)
  have hf (f : Field) (h : f.reg = .CAN_ERR) : (canLevels c t (s.setFld CAN_ERR_REC c n)).fld f c = (s.setFld CAN_ERR_REC c n).fld f c :=
    fld_of_get (by rw [h, he])
  rw [hf _ rfl, hf _ rfl]
  exact ⟨fld_setFld_lt _ _ _ _ (by decide) hn, fld_setFld_other (by decide)⟩

/-- What the controller stores of a frame of another node. -/
def rxOf (s : State) (c t : Nat) (f : CanFrame) : CanRx :=
  { frame := f, echo := false, tag := 0, t := t, seq := (s.get .CAN_CNT_RX c).toNat }

variable (f : CanFrame)

theorem canIntake_eq : ∃ y, canIntake c t f false 0 s = canCause c 11 t 0 ((setRecorder y
    (s.put .CAN_CNT_RX c (s.get .CAN_CNT_RX c + 1#32))).modCan c fun q => { q with rx := q.rx ++ [s.rxOf c t f] }) := by
  have hn : BitVec.ofNat 32 ((s.get .CAN_CNT_RX c).toNat + 1) = s.get .CAN_CNT_RX c + 1#32 := by
    rw [BitVec.ofNat_add, BitVec.ofNat_toNat, BitVec.setWidth_eq]
  obtain ⟨y, hy⟩ := recNote_eq_setRecorder 0xD c t (((s.put .CAN_CNT_RX c (s.get .CAN_CNT_RX c + 1#32)).canElement c
    (s.rxOf c t f)).take 2 ++ packBytes (f.data.take (canLen f))) (s.put .CAN_CNT_RX c (s.get .CAN_CNT_RX c + 1#32))
  refine ⟨y, ?_⟩
  rw [← hy, ← hn]
  rfl

theorem canIntake_holds (hc : c < 8) : ((canIntake c t f false 0 s).can c).rx = (s.can c).rx ++ [s.rxOf c t f] ∧
    ((canIntake c t f false 0 s).can c).flushA = (s.can c).flushA ∧
    ((canIntake c t f false 0 s).can c).flushB = (s.can c).flushB ∧ (canIntake c t f false 0 s).yaw = s.yaw ∧
    (canIntake c t f false 0 s).rates = s.rates ∧
    (canIntake c t f false 0 s).get .CAN_CNT_RX c = s.get .CAN_CNT_RX c + 1#32 ∧
    (canIntake c t f false 0 s).rbit .CAN_EVT c 11 = true ∧
    (s.rbit .CAN_EVT_MASK c 11 = true → (canIntake c t f false 0 s).pends (209 + 2 * c) = true) := by
  obtain ⟨y, h⟩ := canIntake_eq c t s f
  rw [h]
  generalize hx : (setRecorder y (s.put .CAN_CNT_RX c (s.get .CAN_CNT_RX c + 1#32))).modCan c
    (fun q => { q with rx := q.rx ++ [s.rxOf c t f] }) = x
  have hk : x.can c = { s.can c with rx := (s.can c).rx ++ [s.rxOf c t f] } := by rw [← hx]; exact can_modCan ..
  have hg (r : Reg) (i : Nat) : x.get r i = (s.put .CAN_CNT_RX c (s.get .CAN_CNT_RX c + 1#32)).get r i := by rw [← hx]; rfl
  have hy : x.yaw = s.yaw := by rw [← hx]; rfl
  have hr : x.rates = s.rates := by rw [← hx]; rfl
  have hb := sameBus_canCause c 11 t 0 x
  rw [hb.can, hk, hb.yaw, hb.rates]
  refine ⟨rfl, rfl, rfl, hy, hr, ?_, canCause_rbit _ _ _ _ _ (by decide), fun hm => canCause_pends c 11 t 0 x hc ?_⟩
  · rw [get_canCause, get_cause _ _ _ _ _ _ _ _ (by decide) (by decide) (by decide), hg, get_put_same]
  · rwa [rbit, hg, get_put_reg (by decide)]

theorem regsOnly_canIntake {l : List (Reg × Nat)} (hx : (.CAN_CNT_RX, c) ∈ l)
    (h : (.CAN_EVT, c) ∈ l) (hp : (.EVT_PEND, (evtHome (208 + 2 * c)).1) ∈ l)
    (hr : (.EVT_RAW, (evtHome (208 + 2 * c)).1) ∈ l) (hp' : (.EVT_PEND, (evtHome (209 + 2 * c)).1) ∈ l)
    (hr' : (.EVT_RAW, (evtHome (209 + 2 * c)).1) ∈ l) : regsOnly l s (canIntake c t f false 0 s) := by
  obtain ⟨y, he⟩ := canIntake_eq c t s f
  rw [he, regsOnly_canCause h hp hr hp' hr', regsOnly_modCan]
  exact (regsOnly_put hx).2 (regsOnly_refl l s)

/-- The yaw that the extractor takes from a frame (R91). -/
def canYaw (s : State) (f : CanFrame) : Word :=
  f32.mul (f32.ofInt (let d := (f.data.drop (s.fld AX_YAW_CAN_OFS 0)).take (2 ^ min 2 (s.fld AX_YAW_CAN_LEN 0))
    let n := if s.flag AX_YAW_CAN_BE 0 then bytesBE d else bytesLE d
    if s.flag AX_YAW_CAN_SIGNED 0 then signed (8 * 2 ^ min 2 (s.fld AX_YAW_CAN_LEN 0)) n else n)) (s.get .AX_YAW_CANK 0)

/-- Whether a frame is the one of the extractor. -/
def isYaw (s : State) (c : Nat) (f : CanFrame) : Bool :=
  s.fld AX_YAW_CAN_CTRL 0 == c && !f.rtr && f.ide == s.flag AX_YAW_CANID_IDE 0 &&
    f.id == (if f.ide then s.fld AX_YAW_CANID_ID 0 else s.fld AX_YAW_CANID_ID 0 % 2048) &&
    decide (s.fld AX_YAW_CAN_OFS 0 + 2 ^ min 2 (s.fld AX_YAW_CAN_LEN 0) ≤ canLen f)

theorem yawFrame_eq : yawFrame c t f s = if s.isYaw c f then
    (if (rateTake 50 1000 t s).2 then axOver 0 t (rateTake 50 1000 t s).1 else
      { (rateTake 50 1000 t s).1 with yaw := { (rateTake 50 1000 t s).1.yaw with can := some (s.canYaw f, t) } }) else s := rfl

/-- A frame that is not the extractor's, or is within its rating, leaves the controllers and the registers. -/
theorem yawFrame_only (h : s.isYaw c f = false ∨ (rateTake 50 1000 t s).2 = false) :
    (∀ r i, (yawFrame c t f s).get r i = s.get r i) ∧ (yawFrame c t f s).cans = s.cans := by
  rw [yawFrame_eq]
  cases hy : s.isYaw c f
  · exact ⟨fun _ _ => rfl, rfl⟩
  · obtain h | h := h
    · rw [h] at hy
      cases hy
    · rw [h]
      exact ⟨fun _ _ => rfl, rfl⟩

/-- A frame taken in, before its yaw and the end of the frame in hand. -/
def canTaken (c t : Nat) (f : CanFrame) (s : State) : State := canIntake c t f false 0 (canRecOk c t s)

/-- The registers that a frame taken in writes beside those of its end. -/
def takeRegs (c : Nat) : List (Reg × Nat) :=
  ofInst [.CAN_CNT_RX, .CAN_ERR, .CAN_EVT, .CAN_STAT] c ++ (evtRegs (208 + 2 * c) ++ evtRegs (209 + 2 * c))

theorem canRecOk_get (r : Reg) (i : Nat) (h : r ∉ [Reg.CAN_ERR, .CAN_STAT, .CAN_EVT, .EVT_PEND, .EVT_RAW]) :
    (canRecOk c t s).get r i = s.get r i := by
  simp only [List.mem_cons, not_or] at h
  obtain ⟨h1, h2, h3, h4, h5, -⟩ := h
  have hr : regsOnly (ofInst [.CAN_ERR, .CAN_STAT, .CAN_EVT] c ++ (evtRegs (208 + 2 * c) ++ evtRegs (209 + 2 * c))) s
      (canRecOk c t s) := by
    rw [canRecOk_eq]
    simp [CAN_ERR_REC]
  exact hr r i (by simp [h1, h2, h3, h4, h5])

theorem canTaken_regs : regsOnly (takeRegs c) s (canTaken c t f s) := by
  refine regsOnly.trans ?_ (regsOnly_canIntake c t _ f (by simp [takeRegs]) (by simp [takeRegs]) (by simp [takeRegs])
    (by simp [takeRegs]) (by simp [takeRegs]) (by simp [takeRegs]))
  rw [canRecOk_eq]
  simp [takeRegs, CAN_ERR_REC]

theorem canTaken_holds (hc : c < 8) : ((canTaken c t f s).can c).rx = (s.can c).rx ++ [s.rxOf c t f] ∧
    ((canTaken c t f s).can c).flushA = (s.can c).flushA ∧ ((canTaken c t f s).can c).flushB = (s.can c).flushB ∧
    (canTaken c t f s).yaw = s.yaw ∧ (canTaken c t f s).rates = s.rates ∧
    (canTaken c t f s).get .CAN_CNT_RX c = s.get .CAN_CNT_RX c + 1#32 ∧
    (canTaken c t f s).fld CAN_ERR_REC c = (if 127 < s.fld CAN_ERR_REC c then 127 else s.fld CAN_ERR_REC c - 1) ∧
    (canTaken c t f s).fld CAN_ERR_TEC c = s.fld CAN_ERR_TEC c ∧ (canTaken c t f s).rbit .CAN_EVT c 11 = true ∧
    (s.rbit .CAN_EVT_MASK c 11 = true → (canTaken c t f s).pends (209 + 2 * c) = true) := by
  obtain ⟨h1, h2, h3, h4, h5, h6, h7, h8⟩ := canIntake_holds c t (canRecOk c t s) f hc
  have hb := sameBus_canRecOk c t s
  have hn := canRecOk_get c t s .CAN_CNT_RX c (by decide)
  have hm := canRecOk_get c t s .CAN_EVT_MASK c (by decide)
  have hrx : (canRecOk c t s).rxOf c t f = s.rxOf c t f := by rw [rxOf, hn]; rfl
  obtain ⟨he, he'⟩ := canRecOk_err c t s
  have hg : (canTaken c t f s).get .CAN_ERR c = (canRecOk c t s).get .CAN_ERR c :=
    regsOnly_canIntake (l := ofInst [.CAN_CNT_RX, .CAN_EVT] c ++ (evtRegs (208 + 2 * c) ++ evtRegs (209 + 2 * c))) c t _ f
      (by simp) (by simp) (by simp) (by simp) (by simp) (by simp) _ _ (by simp)
  have hf (x : Field) (hx : x.reg = .CAN_ERR) : (canTaken c t f s).fld x c = (canRecOk c t s).fld x c :=
    fld_of_get (by rw [hx, hg])
  rw [hf _ rfl, hf _ rfl]
  refine ⟨?_, ?_, ?_, h4.trans hb.yaw, h5.trans hb.rates, h6.trans (by rw [hn]), he, he', h7, fun h => h8 (by rwa [rbit, hm])⟩
  · exact h1.trans (by rw [hb.can, hrx])
  · exact h2.trans (by rw [hb.can])
  · exact h3.trans (by rw [hb.can])

/-- A controller hears its bus. -/
def hearsBus (s : State) (c : Nat) : Prop :=
  s.canOn c = true ∧ 2 ≤ s.canState c ∧ s.canMode c ≠ 2 ∧ s.inReplay = false

theorem canFrame_of_hears (h : s.hearsBus c) : canFrame c t f s = canIdle c (yawFrame c t f (canTaken c t f s)) := by
  obtain ⟨h1, h2, h3, h4⟩ := h
  exact if_pos (by simp [h1, h2, h3, h4])

theorem isYaw_canTaken : (canTaken c t f s).isYaw c f = s.isYaw c f ∧ (canTaken c t f s).canYaw f = s.canYaw f := by
  have hg (r : Reg) (h : r ∉ [Reg.CAN_CNT_RX, .CAN_ERR, .CAN_STAT, .CAN_EVT, .EVT_PEND, .EVT_RAW]) :
      (canTaken c t f s).get r 0 = s.get r 0 := by
    simp only [List.mem_cons, not_or] at h
    obtain ⟨h0, h1, h2, h3, h4, h5, -⟩ := h
    exact canTaken_regs c t s f r 0 (by simp [takeRegs, h0, h1, h2, h3, h4, h5])
  have hf (x : Field) (h : x.reg ∉ [Reg.CAN_CNT_RX, .CAN_ERR, .CAN_STAT, .CAN_EVT, .EVT_PEND, .EVT_RAW]) :
      (canTaken c t f s).fld x 0 = s.fld x 0 := fld_of_get (hg _ h)
  unfold isYaw canYaw flag
  rw [hf _ (by decide), hf _ (by decide), hf _ (by decide), hf _ (by decide), hf _ (by decide), hf _ (by decide),
    hf _ (by decide), hg _ (by decide)]
  exact ⟨rfl, rfl⟩

/-- The registers of a frame, as the obligation lists them. -/
def frameRegs (c : Nat) : List (Reg × Nat) :=
  ofInst [.CAN_CNT_RX, .CAN_ERR, .CAN_EVT, .CAN_STAT, .CAN_CNT_TX, .CAN_CNT_ERR, .CAN_COLL_ID, .CAN_TDCR] c ++
    evtRegs (208 + 2 * c) ++ evtRegs (209 + 2 * c) ++ qRegs (8 + 2 * c) ++ qRegs (9 + 2 * c)

theorem canFifo_one : canFifo c 1 = 9 + 2 * c := by
  unfold canFifo
  omega

theorem mem_frameRegs_of_rest {r : Reg} {i : Nat} (h : (r, i) ∈ restRegs c) : (r, i) ∈ frameRegs c := by
  rw [restRegs, canFifo_one, show canFifo c 0 = 8 + 2 * c from rfl, List.mem_cons, List.mem_append] at h
  unfold frameRegs
  obtain h | h | h := h
  · simp_all
  · exact List.mem_append_left _ (List.mem_append_right _ h)
  · exact List.mem_append_right _ h

theorem mem_frameRegs_of_take {r : Reg} {i : Nat} (h : (r, i) ∈ takeRegs c) : (r, i) ∈ frameRegs c := by
  rw [takeRegs, List.mem_append, List.mem_append] at h
  unfold frameRegs
  refine List.mem_append_left _ (List.mem_append_left _ ?_)
  rw [List.mem_append, List.mem_append]
  obtain h | h | h := h
  · refine .inl (.inl ?_)
    rw [mem_ofInst] at h ⊢
    exact ⟨List.mem_append_left [Reg.CAN_CNT_TX, .CAN_CNT_ERR, .CAN_COLL_ID, .CAN_TDCR] h.1, h.2⟩
  · exact .inl (.inr h)
  · exact .inr h

end
end State
end Sys2Proof.Machine

end

section

/-!
CAN controllers: what arrives from the bus, the writes of CAN_CFG and CAN_CTRL, and O25.
-/

namespace Sys2Proof.Machine
open Kept State
namespace State
section
variable (c t : Nat) (s : State) (f : CanFrame)

theorem inReplay_of_deaf {s : State} (h : s.deaf = false) : s.inReplay = false := by
  rw [deaf, Bool.or_eq_false_iff] at h
  exact h.2

theorem canOn_of_en {s : State} {c : Nat} (h : s.canEn c = true) : s.canOn c = true := by rw [canOn, h, Bool.true_or]

theorem hearsBus_of {s : State} {c : Nat} (h : s.deaf = false) (he : s.canEn c = true) (hs : 2 ≤ s.canState c)
    (hm : s.canMode c ≠ 2) : s.hearsBus c := ⟨canOn_of_en he, hs, hm, inReplay_of_deaf h⟩

section
variable {c t s f} (hc : c < 8) (hy : s.isYaw c f = false ∨ (rateTake 50 1000 t s).2 = false)
include hc hy

/-- The frame's yaw, before the end of the frame in hand. -/
theorem canTaken_yaw_only : (∀ r i, (yawFrame c t f (canTaken c t f s)).get r i = (canTaken c t f s).get r i) ∧
    (yawFrame c t f (canTaken c t f s)).cans = (canTaken c t f s).cans := by
  obtain ⟨-, -, -, -, hr, -⟩ := canTaken_holds c t s f hc
  refine yawFrame_only c t _ f ?_
  rw [(isYaw_canTaken c t s f).1, rateTake, hr]
  exact hy

variable (hh : s.hearsBus c)
include hh

theorem canFrame_regs : regsOnly (frameRegs c) s (canFrame c t f s) := by
  obtain ⟨hg, -⟩ := canTaken_yaw_only hc hy
  rw [canFrame_of_hears c t s f hh]
  exact (((canTaken_regs c t s f).mono fun r i h => mem_frameRegs_of_take c h).trans (regsOnly_of_get hg)).trans
    ((canIdle_regs c _ hc).mono fun r i h => mem_frameRegs_of_rest c h)

theorem canFrame_get {r : Reg} (h : (r, c) ∉ restRegs c) :
    (canFrame c t f s).get r c = (canTaken c t f s).get r c := by
  obtain ⟨hg, -⟩ := canTaken_yaw_only hc hy
  rw [canFrame_of_hears c t s f hh, canIdle_regs c _ hc r c h, hg]

theorem canFrame_holds : ((canFrame c t f s).can c).rx = (s.can c).rx ++ [s.rxOf c t f] ∧
    ((canFrame c t f s).can c).tx = none ∧ (canFrame c t f s).fld CAN_STAT_ACT c = 0 ∧
    ((s.can c).flushA = true → (canFrame c t f s).qFill (8 + 2 * c) = 0) ∧
    ((s.can c).flushB = true → (canFrame c t f s).qFill (9 + 2 * c) = 0) ∧
    (s.rbit .CAN_EVT_MASK c 11 = true → (canFrame c t f s).pends (209 + 2 * c) = true) ∧
    (canFrame c t f s).yaw = (yawFrame c t f (canTaken c t f s)).yaw := by
  obtain ⟨hg, hk⟩ := canTaken_yaw_only hc hy
  have hcan : (yawFrame c t f (canTaken c t f s)).can c = (canTaken c t f s).can c := by rw [can, can, hk]
  obtain ⟨k1, k2, k3, -, -, -, -, -, -, k4⟩ := canTaken_holds c t s f hc
  obtain ⟨h1, h2, h3, h4, h5, h6, h7⟩ := canIdle_holds c (yawFrame c t f (canTaken c t f s)) hc
  rw [hcan, k1] at h1
  rw [hcan, k2] at h6
  rw [hcan, k3, canFifo_one] at h7
  rw [canFrame_of_hears c t s f hh]
  exact ⟨h1, h2, h4, h6, h7, fun hm => h5 _ (by rw [pends_congr _ (hg _ _)]; exact k4 hm), h3⟩

end

/-- A start of frame, or a frame, is heard by no controller off its bus. -/
theorem canReceive_of_not {x : CanBusIn} (h : s.canOn c = false ∨ s.canState c < 2 ∨ s.canMode c = 2) :
    canReceive c t x s = s := by
  have hn : (s.canOn c && decide (2 ≤ s.canState c) && s.canMode c != 2 && !s.inReplay) = false := by
    obtain h | h | h := h
    · simp [h]
    · simp [h]
    · simp [h]
  cases x with
  | start => exact if_neg (by rw [hn]; decide)
  | frame f => exact if_neg (by rw [hn]; decide)

/-! ### Bus-off and the transceiver (R378, R380) -/

/-- What the return from bus-off leaves before its cause. -/
def canBack (c : Nat) (s : State) : State :=
  ((((s.setFld CAN_ERR_TEC c 0).setFld CAN_ERR_REC c 0).setFld CAN_STAT_STATE c (if s.canEn c then 2 else 0)).setFlag
    CAN_STAT_EWARN c false)

theorem canBusOn_of (h : s.canState c = 5) : canBusOn c t s = canCause c 3 t 0 (canBack c s) := by
  rw [canBusOn, if_pos h]
  rfl

theorem canBack_holds : (canBack c s).canState c = (if s.canEn c = true then 2 else 0) ∧ (canBack c s).fld CAN_ERR_TEC c = 0 ∧
    (canBack c s).fld CAN_ERR_REC c = 0 ∧ (canBack c s).flag CAN_STAT_EWARN c = false := by
  have hv : (if s.canEn c then 2 else 0) < 8 := by split <;> omega
  unfold canBack
  generalize (if s.canEn c then 2 else 0) = v at hv
  refine ⟨?_, ?_, ?_, flag_setFlag_same ..⟩
  · rw [canState, setFlag, fld_setFld_other (by decide), fld_setFld_lt _ _ _ _ (by decide) hv]
  · rw [setFlag, fld_setFld_other (by decide), fld_setFld_other (by decide), fld_setFld_other (by decide),
      fld_setFld_lt _ _ _ _ (by decide) (by decide)]
  · rw [setFlag, fld_setFld_other (by decide), fld_setFld_other (by decide),
      fld_setFld_lt _ _ _ _ (by decide) (by decide)]

theorem canBack_mask : (canBack c s).get .CAN_EVT_MASK c = s.get .CAN_EVT_MASK c := by
  simp (disch := decide) only [canBack, setFlag, get_setFld_other]

theorem get_canCause_other {b id : Nat} {r : Reg} (i : Nat) (h0 : r ≠ .CAN_EVT) (h1 : r ≠ .EVT_PEND) (h2 : r ≠ .EVT_RAW) :
    (canCause c b t id s).get r i = s.get r i := (get_canCause ..).trans (get_cause _ _ _ _ _ _ _ _ h0 h1 h2)

theorem fld_canCause {b id : Nat} {x : Field} (i : Nat) (h0 : x.reg ≠ .CAN_EVT := by decide)
    (h1 : x.reg ≠ .EVT_PEND := by decide) (h2 : x.reg ≠ .EVT_RAW := by decide) :
    (canCause c b t id s).fld x i = s.fld x i := fld_of_get (get_canCause_other c t s i h0 h1 h2)

end
end State

/-! ### The writes of CAN_CFG (R389) -/

theorem located_canCfg (c : Fin 8) : located .CAN_CFG c = true := by
  revert c
  decide
theorem located_canCtrl (c : Fin 8) : located .CAN_CTRL c = true := by
  revert c
  decide

section
variable {a : Access} {c m : Nat} {v w : Word} {u : State}

theorem canEn_eq_bitAt (c : Nat) (u : State) : u.canEn c = bitAt (u.get .CAN_CFG c) 0 := by
  rw [canEn, flag, fld, CAN_CFG_EN, bitsOf_one, b2n_ne_zero]

theorem bitAt_merged_canCfg : bitAt (u.merged m .CAN_CFG c v) 0 = bitAt v 0 := by
  have h : u.merged m .CAN_CFG c v = (u.get .CAN_CFG c &&& ~~~ 0xE31#32) ||| (v &&& 0xE31#32) := rfl
  have h0 : bitAt (~~~ 0xE31#32) 0 = false := by decide
  have h1 : bitAt 0xE31#32 0 = true := by decide
  rw [h, bitAt_or, bitAt_and, bitAt_and, h0, h1, Bool.and_false, Bool.false_or, Bool.and_true]

theorem canEnable_bit : bitAt (u.merged m .CAN_CFG c (v ||| 1#32)) 0 = true := by
  have h1 : bitAt 1#32 0 = true := by decide
  rw [bitAt_merged_canCfg, bitAt_or, h1, Bool.or_true]

theorem canDisable_bit : bitAt (u.merged m .CAN_CFG c (v &&& ~~~1#32)) 0 = false := by
  have h1 : bitAt (~~~1#32) 0 = false := by decide
  rw [bitAt_merged_canCfg, bitAt_and, h1, Bool.and_false]

/-- CAN_CFG's own rule refuses a change of a controller that is enabled. -/
theorem wrRes_canCfg (h : u.canCfgErr c (u.merged m .CAN_CFG c v) = false) :
    wrRes a .CAN_CFG c v u = (canCfgStore c (u.merged m .CAN_CFG c v) u, .ok) := by
  have hw : wrRes a .CAN_CFG c v u = if u.canCfgErr c (u.merged m .CAN_CFG c v) then (u, .err) else
      (canCfgStore c (u.merged m .CAN_CFG c v) u, .ok) := rfl
  rw [hw, h]
  rfl

/-- What a refused enable leaves. -/
def canRefused (c : Nat) (w : Word) (u : State) : State :=
  raiseOf (208 + 2 * c) c noCause ((u.put .CAN_CFG c (putBit w 0 false)).setFld CAN_STAT_REJ c (u.canReject c w))

theorem canCfgStore_refused (hb : bitAt w 0 = true) (he : u.canEn c = false) (hr : u.canReject c w ≠ 0) :
    canCfgStore c w u = canRefused c w u := by
  simp only [canCfgStore, hb, he, Bool.not_false, Bool.and_self, if_true, if_pos hr]
  rfl

/-- An accepted enable: off the bus the controller integrates, unless bus-off, and still on it goes on. -/
theorem canCfgStore_enabled (hb : bitAt w 0 = true) (he : u.canEn c = false) (hr : u.canReject c w = 0) :
    canCfgStore c w u = if (u.can c).leave then
        ((u.put .CAN_CFG c w).setFld CAN_STAT_REJ c 0).modCan c fun q => { q with leave := false }
      else when (u.canState c != 5) (setFld · CAN_STAT_STATE c 1) ((u.put .CAN_CFG c w).setFld CAN_STAT_REJ c 0) := by
  have hs : ((u.put .CAN_CFG c w).setFld CAN_STAT_REJ c 0).canState c = u.canState c :=
    (fld_setFld_other (by decide)).trans (fld_put_other _ _ _ _ _ _ (by decide))
  have hk : ((u.put .CAN_CFG c w).setFld CAN_STAT_REJ c 0).can c = u.can c := rfl
  simp only [canCfgStore, hb, he, Bool.not_false, Bool.and_self, if_true, hr, ne_eq, not_true_eq_false, if_false, hs, hk]

/-- A disable: at once without a frame under way, else at the next bus idle. -/
theorem canCfgStore_disabled (hb : bitAt w 0 = false) (he : u.canEn c = true) :
    canCfgStore c w u = if (u.can c).tx.isSome || u.fld CAN_STAT_ACT c == 1 then
        (u.put .CAN_CFG c w).modCan c fun q => { q with leave := true }
      else when (u.canState c != 5) (setFld · CAN_STAT_STATE c 0) (u.put .CAN_CFG c w) := by
  have hf (x : Field) (h : x.reg = .CAN_STAT) : (u.put .CAN_CFG c w).fld x c = u.fld x c :=
    fld_put_other _ _ _ _ _ _ (by rw [h]; decide)
  have hs : (u.put .CAN_CFG c w).canState c = u.canState c := hf _ rfl
  have hk : (u.put .CAN_CFG c w).can c = u.can c := rfl
  simp only [canCfgStore, hb, he, Bool.false_and, Bool.not_false, Bool.and_self, if_true, Bool.false_eq_true, if_false,
    hk, hs, hf CAN_STAT_ACT rfl]

theorem canEn_of_cfg {t : State} (h : t.get .CAN_CFG c = w) : t.canEn c = bitAt w 0 := by rw [canEn_eq_bitAt, h]

/-- What an accepted enable leaves of the bus (R389). -/
theorem canEnabled_holds (hb : bitAt w 0 = true) (he : u.canEn c = false) (hr : u.canReject c w = 0) :
    regsOnly (ofInst [.CAN_CFG, .CAN_STAT] c) u (canCfgStore c w u) ∧ (canCfgStore c w u).get .CAN_CFG c = w ∧
    ((u.can c).leave = false → (canCfgStore c w u).canState c = (if u.canState c = 5 then 5 else 1)) ∧
    ((u.can c).leave = true → (canCfgStore c w u).canState c = u.canState c ∧
      ((canCfgStore c w u).can c).tx = (u.can c).tx) ∧
    (canCfgStore c w u).fld CAN_STAT_REJ c = 0 ∧ ((canCfgStore c w u).can c).leave = false := by
  have hs : ((u.put .CAN_CFG c w).setFld CAN_STAT_REJ c 0).canState c = u.canState c :=
    (fld_setFld_other (by decide)).trans (fld_put_other _ _ _ _ _ _ (by decide))
  have hj : ((u.put .CAN_CFG c w).setFld CAN_STAT_REJ c 0).fld CAN_STAT_REJ c = 0 :=
    fld_setFld_lt _ _ _ _ (by decide) (by decide)
  have hw : ((u.put .CAN_CFG c w).setFld CAN_STAT_REJ c 0).get .CAN_CFG c = w :=
    (get_setFld_other _ _ _ _ _ _ (by decide)).trans (get_put_same ..)
  have hrg : regsOnly (ofInst [.CAN_CFG, .CAN_STAT] c) u ((u.put .CAN_CFG c w).setFld CAN_STAT_REJ c 0) := by
    simp [CAN_STAT_REJ]
  have hk : ((u.put .CAN_CFG c w).setFld CAN_STAT_REJ c 0).can c = u.can c := rfl
  rw [canCfgStore_enabled hb he hr]
  generalize (u.put .CAN_CFG c w).setFld CAN_STAT_REJ c 0 = x at hs hj hw hrg hk
  cases hl : (u.can c).leave
  · rw [if_neg (by decide)]
    by_cases h5 : u.canState c = 5
    · rw [h5, bne_self_eq_false, if_pos rfl]
      exact ⟨hrg, hw, fun _ => hs.trans h5, fun h => (by cases h), hj, by rw [show (when false _ x).can c = _ from hk, hl]⟩
    · rw [if_neg h5, bne_iff_ne.2 h5]
      refine ⟨(regsOnly_setFld (by simp [CAN_STAT_STATE])).2 hrg, ?_, fun _ => ?_, fun h => (by cases h), ?_, ?_⟩
      · exact (get_setFld_other _ _ _ _ _ _ (by decide)).trans hw
      · exact fld_setFld_lt _ _ _ _ (by decide) (by decide)
      · exact (fld_setFld_other (by decide)).trans hj
      · rw [show (when true (setFld · CAN_STAT_STATE c 1) x).can c = _ from hk, hl]
  · rw [if_pos rfl, can_modCan, hk]
    exact ⟨hrg, hw, fun h => (by cases h), fun _ => ⟨hs, rfl⟩, hj, rfl⟩

/-- What a refused one leaves. -/
theorem canRefused_holds (hc : c < 8) : (canRefused c w u).canEn c = false ∧
    (canRefused c w u).get .CAN_CFG c = putBit w 0 false ∧ (canRefused c w u).fld CAN_STAT_REJ c = u.canReject c w ∧
    (canRefused c w u).pends (208 + 2 * c) = true ∧ (canRefused c w u).cans = u.cans := by
  have hrej : u.canReject c w < 16 := by
    unfold canReject
    dsimp only
    split_ifs <;> omega
  have hcfg : (canRefused c w u).get .CAN_CFG c = putBit w 0 false := by
    rw [canRefused, get_raiseOf, get_raise _ _ _ _ (by decide) (by decide), get_setFld_other _ _ _ _ _ _ (by decide),
      get_put_same]
  refine ⟨?_, hcfg, ?_, ?_, rfl⟩
  · rw [canEn_of_cfg hcfg]
    exact bitAt_putBit_same _ _ (by decide)
  · rw [canRefused, fld_raiseOf _ _ _ _ _ _ (by decide) (by decide), fld_setFld_lt _ _ _ _ (by decide) hrej]
  · have hh : (evtHome (208 + 2 * c)).2 < 32 := canEvt_bit_lt c 0 hc
    rw [canRefused, pends_raiseOf _ _ _ _ _ hh, decide_eq_true rfl, Bool.or_true]

/-- What a disable leaves (R389). -/
theorem canDisabled_holds (hb : bitAt w 0 = false) (he : u.canEn c = true) :
    regsOnly (ofInst [.CAN_CFG, .CAN_STAT] c) u (canCfgStore c w u) ∧ (canCfgStore c w u).canEn c = false ∧
    ((u.can c).tx = none → u.fld CAN_STAT_ACT c ≠ 1 →
      (canCfgStore c w u).canState c = (if u.canState c = 5 then 5 else 0) ∧ (canCfgStore c w u).cans = u.cans) ∧
    ((u.can c).tx ≠ none ∨ u.fld CAN_STAT_ACT c = 1 → ((canCfgStore c w u).can c).leave = true ∧
      (canCfgStore c w u).canState c = u.canState c ∧ ((canCfgStore c w u).can c).tx = (u.can c).tx) := by
  have hs : (u.put .CAN_CFG c w).canState c = u.canState c := fld_put_other _ _ _ _ _ _ (by decide)
  have hw : (u.put .CAN_CFG c w).get .CAN_CFG c = w := get_put_same ..
  have hrg : regsOnly (ofInst [.CAN_CFG, .CAN_STAT] c) u (u.put .CAN_CFG c w) := by simp
  have hk : (u.put .CAN_CFG c w).cans = u.cans := rfl
  have hk' : (u.put .CAN_CFG c w).can c = u.can c := rfl
  have hor : ((u.can c).tx.isSome || u.fld CAN_STAT_ACT c == 1) = true ↔ (u.can c).tx ≠ none ∨ u.fld CAN_STAT_ACT c = 1 := by
    rw [Bool.or_eq_true, beq_iff_eq, Option.isSome_iff_ne_none]
  rw [canCfgStore_disabled hb he]
  generalize u.put .CAN_CFG c w = x at hs hw hrg hk hk'
  by_cases h : (u.can c).tx ≠ none ∨ u.fld CAN_STAT_ACT c = 1
  · rw [if_pos (hor.2 h), can_modCan, hk']
    exact ⟨hrg, (canEn_of_cfg hw).trans hb, fun h1 h2 => absurd h (by simp [h1, h2]), fun _ => ⟨rfl, hs, rfl⟩⟩
  · rw [if_neg (by rw [hor]; exact h)]
    refine ⟨?_, ?_, fun _ _ => ?_, fun h' => absurd h' h⟩
    · exact (regsOnly_when (by simp [CAN_STAT_STATE])).2 hrg
    · refine (canEn_of_cfg ?_).trans hb
      unfold when
      split
      · exact (get_setFld_other _ _ _ _ _ _ (by decide)).trans hw
      · exact hw
    · by_cases h5 : u.canState c = 5
      · rw [h5, bne_self_eq_false, if_pos rfl]
        exact ⟨hs.trans h5, hk⟩
      · rw [if_neg h5, bne_iff_ne.2 h5]
        exact ⟨fld_setFld_lt _ _ _ _ (by decide) (by decide), hk⟩

/-! ### The writes of CAN_CTRL (R376, R389) -/

theorem canCtrlStore_flushA : canCtrlStore c 1#32 u = if (u.can c).tx.any (fun e => e.1 == 0) then
    u.modCan c fun q => { q with flushA := true } else fifoFlush c 0 u := by
  rw [canCtrlStore, show bitAt 1#32 2 = false by decide, show bitAt 1#32 0 = true by decide,
    show bitAt 1#32 1 = false by decide]
  rfl

theorem canCtrlStore_flushB : canCtrlStore c 2#32 u = if (u.can c).tx.any (fun e => e.1 == 1) then
    u.modCan c fun q => { q with flushB := true } else fifoFlush c 1 u := by
  rw [canCtrlStore, show bitAt 2#32 2 = false by decide, show bitAt 2#32 0 = false by decide,
    show bitAt 2#32 1 = true by decide]
  rfl

theorem canCtrlStore_cclr : canCtrlStore c 4#32 u = (u.put .CAN_CNT_TX c 0#32).put .CAN_CNT_ERR c 0#32 := by
  rw [canCtrlStore, show bitAt 4#32 2 = true by decide, show bitAt 4#32 0 = false by decide,
    show bitAt 4#32 1 = false by decide]
  rfl

theorem wrRes_canCtrl : wrRes a .CAN_CTRL c v u = (canCtrlStore c (v &&& 7#32) u, .ok) := rfl

end

/-- A write of CAN_CTRL serves with what CAN_CTRL does. -/
theorem serves_canCtrl {x : Instr} {m c : Fin 8} {v : Word} {ok : State → Prop} {l : List (Reg × Nat)}
    {eff : State → State → Prop} (he : ∀ s, exec x s = .next (wr m .CAN_CTRL c v s.begin')) (hv : v &&& 7#32 = v)
    (hrec : ∀ u t y, eff u t → eff u (setRecorder y t))
    (h : ∀ u, ok u → regsOnly l u (canCtrlStore c v u) ∧ eff u (canCtrlStore c v u)) : Serves x m .CAN_CTRL c ok l eff := by
  refine serves_of_wrRes_noted he (located_canCtrl c) (fun _ _ => rfl) (by decide) (by decide) hrec fun a u _ _ ho => ?_
  obtain ⟨h1, h2⟩ := h u ho
  exact ⟨_, by rw [wrRes_canCtrl, hv], h1, by simp, h2⟩

/-- Settles O25: writes by their registers' rules, what arrives by its effect on the one controller. -/
theorem canControllers : Obligations.CanControllers := by
  refine ⟨fun m c v => ?_, fun m c v => ?_, fun m c v => ?_, fun c => ?_, fun c => ?_, fun c o f => ?_, fun c o f => ?_,
    fun c o => ?_, fun c o f => ?_, fun c o => ?_, fun c o => ?_, fun m c => ?_, fun m c => ?_, fun m c => ?_,
    fun m c => ?_, fun m c => ?_⟩
  · refine serves_of_wrRes_noted (fun _ => rfl) (located_canCfg c) (fun _ _ => rfl) (by decide) (by decide)
      (fun _ _ _ h => h) ?_
    rintro a u - - ⟨he, hr⟩
    obtain ⟨h1, h2, h3, h4, h5, h6⟩ := canEnabled_holds canEnable_bit he hr
    exact ⟨_, wrRes_canCfg (by rw [canCfgErr, he, Bool.false_and]), h1, by simp, h2,
      (canEn_of_cfg h2).trans canEnable_bit, h3, h4, h5, h6⟩
  · refine serves_of_wrRes_noted (fun _ => rfl) (located_canCfg c) (fun _ _ => rfl) (by decide) (by decide)
      (fun _ _ _ h => h) ?_
    rintro a u - - ⟨he, hr⟩
    refine ⟨_, (wrRes_canCfg (m := m) (by rw [canCfgErr, he, Bool.false_and])).trans
      (by rw [canCfgStore_refused canEnable_bit he hr]), ?_, by simp [canRefused], canRefused_holds c.isLt⟩
    simp [canRefused, CAN_STAT_REJ]
  · refine serves_of_wrRes_noted (fun _ => rfl) (located_canCfg c) (fun _ _ => rfl) (by decide) (by decide)
      (fun _ _ _ h => h) ?_
    rintro a u - - ⟨he, hm⟩
    obtain ⟨h1, h2⟩ := canDisabled_holds (canDisable_bit (m := m) (v := v)) he
    exact ⟨_, wrRes_canCfg (by rw [canCfgErr, hm, bne_self_eq_false, Bool.and_false]), h1, by simp, h2⟩
  · refine arrives_of_pad (f := canIntegrated c) (fun _ => rfl) (fun _ h => h.1) ?_
    rintro u ⟨-, he, hs⟩
    rw [show canIntegrated c u = u.setFld CAN_STAT_STATE c 2 from if_pos (by simp [he, hs])]
    exact ⟨by simp [CAN_STAT_STATE], by simp, fld_setFld_lt _ _ _ _ (by decide) (by decide), rfl⟩
  · refine arrives_of (f := fun u => if u.deaf then u else canIntegrated c u) (fun _ => rfl) fun u h => ?_
    have hn : canIntegrated c u = u := if_neg (by obtain h | h := h <;> simp [h])
    simp only [hn, ite_self]
    exact ⟨by simp, trivial, trivial⟩
  · refine arrives_of_pad (f := fun s => canReceive c (s.clk o) (.frame f) s) (fun _ => rfl) (fun _ h => h.1) ?_
    rintro u ⟨hd, he, hs, hm, hy⟩
    have hh := hearsBus_of hd he hs hm
    have hn : u.isYaw c f = false := by simp [isYaw, hy]
    have hn' : (canTaken c (u.clk o) f u).isYaw c f = false := (isYaw_canTaken ..).1.trans hn
    obtain ⟨h1, h2, h3, h4, h5, h6, h7⟩ := canFrame_holds (t := u.clk o) c.isLt (.inl hn) hh
    obtain ⟨-, -, -, k1, -, k2, k3, k4, k5, -⟩ := canTaken_holds c (u.clk o) u f c.isLt
    have hg {r : Reg} (h : (r, c.val) ∉ restRegs c) := canFrame_get (t := u.clk o) c.isLt (.inl hn) hh h
    have herr := hg (r := .CAN_ERR) (by simp [restRegs, qRegs])
    refine ⟨canFrame_regs c.isLt (.inl hn) hh, by simp, h1, (hg (by simp [restRegs, qRegs])).trans k2, h2, h3, ?_, ?_, ?_,
      h6, ?_, h4, h5⟩
    · exact (fld_of_get (f := CAN_ERR_REC) herr).trans k3
    · exact (fld_of_get (f := CAN_ERR_TEC) herr).trans k4
    · rw [← k5]
      exact congrArg (bitAt · 11) (hg (r := .CAN_EVT) (by simp [restRegs, qRegs]))
    · refine h7.trans (.trans ?_ k1)
      rw [yawFrame_eq, hn']
      rfl
  · refine arrives_of_pad (f := fun s => canReceive c (s.clk o) (.frame f) s) (fun _ => rfl) (fun _ h => h.1) ?_
    rintro u ⟨hd, he, hs, hm, hy1, hy2, hy3, hy4, hy5, hr⟩
    have hh := hearsBus_of hd he hs hm
    have hn : u.isYaw c f = true := by simp [isYaw, hy1, hy2, ← hy3, ← hy4, hy5]
    obtain ⟨hi, hv⟩ := isYaw_canTaken c (u.clk o) u f
    obtain ⟨-, -, -, -, k1, -⟩ := canTaken_holds c (u.clk o) u f c.isLt
    obtain ⟨h1, -, -, -, -, -, h7⟩ := canFrame_holds (t := u.clk o) c.isLt (.inr hr) hh
    refine ⟨canFrame_regs c.isLt (.inr hr) hh, by simp, h1, ?_⟩
    have hr' : (rateTake 50 1000 (u.clk o) (canTaken c (u.clk o) f u)).2 = false := by
      rw [rateTake, k1]
      exact hr
    refine (congrArg (·.can) h7).trans ?_
    rw [yawFrame_eq, hi, hn, hr', hv]
    rfl
  · refine arrives_of_pad (f := fun s => canReceive c (s.clk o) .start s) (fun _ => rfl) (fun _ h => h.1) ?_
    rintro u ⟨hd, he, hs, hm⟩
    obtain ⟨h1, h2, h3, h4⟩ := hearsBus_of hd he hs hm
    have h : canReceive c (u.clk o) .start u = canRest c 1 u := if_pos (by simp [h1, h2, h3, h4])
    obtain ⟨r, hk⟩ := canRest_can c 1 u
    obtain ⟨ha, hst⟩ := canRest_stat c 1 u c.isLt (by decide)
    refine ⟨?_, by simp, ?_⟩ <;> simp only [h]
    · exact (canRest_regs c 1 u c.isLt).mono fun r i h => mem_frameRegs_of_rest c h
    · rw [hk]
      exact ⟨ha, rfl, rfl, rfl, hst⟩
  · refine arrives_of (f := fun u => if u.deaf then u else canReceive c (u.clk o) f u) (fun _ => rfl) fun u h => ?_
    simp only [canReceive_of_not c (u.clk o) u h, ite_self]
    exact ⟨by simp, trivial, trivial⟩
  · refine arrives_of_pad (f := fun s => canBusOn c (s.clk o) s) (fun _ => rfl) (fun _ h => h.1) ?_
    rintro u ⟨-, hs⟩
    obtain ⟨h1, h2, h3, h4⟩ := canBack_holds c u
    simp only [canBusOn_of c (u.clk o) u hs]
    refine ⟨?_, by simp [canBack], (fld_canCause ..).trans h1, (fld_canCause ..).trans h2, (fld_canCause ..).trans h3, ?_,
      canCause_rbit _ _ _ _ _ (by decide), fun hm => ?_, (sameBus_canCause ..).cans⟩
    · simp [canBack, CAN_ERR_TEC, CAN_ERR_REC, CAN_STAT_STATE, CAN_STAT_EWARN]
    · rw [flag, fld_canCause]
      exact h4
    · refine canCause_pends c 3 _ _ _ c.isLt ?_
      rwa [rbit, canBack_mask]
  · refine arrives_of_pad (f := fun s => canTxdTo c (s.clk o) s) (fun _ => rfl) (fun _ h => h.1) ?_
    rintro u ⟨-, he⟩
    have h : canTxdTo c (u.clk o) u = canCause c 5 (u.clk o) (u.canIdNow c) u := if_pos (canOn_of_en he)
    simp only [h]
    exact ⟨by simp, by simp, canCause_rbit _ _ _ _ _ (by decide), fun hm => canCause_pends c 5 _ _ _ c.isLt hm,
      (sameBus_canCause ..).cans⟩
  · refine serves_canCtrl (fun _ => rfl) (by decide) (fun _ _ _ h => h) fun u h => ?_
    rw [canCtrlStore_flushA, h]
    exact ⟨fifoFlush_regs c u 0 (canFifo_lt c 0 c.isLt (by decide)), fifoFlush_empty c u 0⟩
  · refine serves_canCtrl (fun _ => rfl) (by decide) (fun _ _ _ h => h) fun u h => ?_
    rw [canCtrlStore_flushA, h, if_pos rfl, can_modCan]
    exact ⟨by simp, rfl, rfl⟩
  · refine serves_canCtrl (fun _ => rfl) (by decide) (fun _ _ _ h => h) fun u h => ?_
    rw [canCtrlStore_flushB, h]
    have hr := fifoFlush_regs c u 1 (canFifo_lt c 1 c.isLt (by decide))
    have he := fifoFlush_empty c u 1
    rw [canFifo_one] at hr he
    exact ⟨hr, he⟩
  · refine serves_canCtrl (fun _ => rfl) (by decide) (fun _ _ _ h => h) fun u h => ?_
    rw [canCtrlStore_flushB, h, if_pos rfl, can_modCan]
    exact ⟨by simp, rfl, rfl⟩
  · refine serves_canCtrl (fun _ => rfl) (by decide) (fun _ _ _ h => h) fun u _ => ?_
    rw [canCtrlStore_cclr]
    exact ⟨by simp, (get_put_reg (by decide) ..).trans (get_put_same ..), get_put_same .., rfl⟩

end Sys2Proof.Machine

end

section

/-!
Drying paths: what the work on parcels, columns and records changes (O23).
-/

namespace Sys2Proof.Machine
open Kept State
namespace State

/-! ### Work that changes the listed registers and the marked bytes -/

/-- Beside the path's own state, work changes the registers of `l` and the bytes that `M` marks. -/
structure Frame (l : List (Reg × Nat)) (M : Nat → Bool) (s t : State) : Prop where
  regs : regsOnly l s t
  mem : ∀ a, M a = false → t.rdByte a = s.rdByte a
  tick : t.tick = s.tick
  resp : t.resp = s.resp

section
variable {l : List (Reg × Nat)} {M : Nat → Bool} {s t u : State}

theorem Frame.refl (l : List (Reg × Nat)) (M : Nat → Bool) (s : State) : Frame l M s s :=
  ⟨regsOnly_refl l s, fun _ _ => rfl, rfl, rfl⟩

theorem Frame.trans (h : Frame l M s t) (h' : Frame l M t u) : Frame l M s u :=
  ⟨h.regs.trans h'.regs, fun a ha => (h'.mem a ha).trans (h.mem a ha), h'.tick.trans h.tick, h'.resp.trans h.resp⟩

theorem Frame.onlyBut (h : Frame l M s t) : State.onlyBut l M s t := ⟨h.regs, h.mem⟩

theorem Frame.get (h : Frame l M s t) {r : Reg} {i : Nat} (hr : (r, i) ∉ l) : t.get r i = s.get r i := h.regs r i hr

theorem Frame.fld (h : Frame l M s t) (f : Field) {i : Nat} (hr : (f.reg, i) ∉ l) : t.fld f i = s.fld f i :=
  fld_of_get (h.get hr)

theorem Frame.clockT (h : Frame l M s t) : t.T = s.T := by rw [T, T, h.tick]

/-- Work that leaves memory, tick and answers. -/
theorem Frame.of_regs (hr : regsOnly l s t) (hm : t.mem = s.mem) (ht : t.tick = s.tick) (hp : t.resp = s.resp) :
    Frame l M s t := ⟨hr, fun a _ => congrArg (SMap.get unlistedByte · a) hm, ht, hp⟩

/-- Words written where `M` marks. -/
theorem Frame.wrWords (a : Nat) (w : List Word) (h : ∀ b, a ≤ b → b < a + 4 * w.length → M b = true) :
    Frame l M s (s.wrWords a w) := by
  have hk : ∀ (w : List Word) (s : State) (a : Nat), (s.wrWords a w).tick = s.tick ∧ (s.wrWords a w).resp = s.resp := by
    intro w
    induction w with
    | nil => exact fun _ _ => ⟨rfl, rfl⟩
    | cons x w ih => exact fun s a => ih _ _
  refine ⟨fun _ _ _ => get_wrWords .., fun b hb => ?_, (hk w s a).1, (hk w s a).2⟩
  refine rdByte_wrWords_ne w s a ?_
  by_contra hn
  rw [h b (by omega) (by omega)] at hb
  cases hb

theorem Frame.each {α : Type} {f : α → State → State} {x : List α} (hf : ∀ a ∈ x, ∀ s, Frame l M s (f a s))
    (s : State) : Frame l M s (each x f s) := by
  induction x generalizing s with
  | nil => exact .refl l M s
  | cons a x ih => exact (hf a List.mem_cons_self s).trans (ih (fun b hb => hf b (List.mem_cons_of_mem _ hb)) _)

end

/-! ### A path's own state -/

section
variable (p : Nat) (s : State)

@[simp] theorem dp_modDp (f : Dp → Dp) : (s.modDp p f).dp p = f (s.dp p) := SMap.get_set_same ..
theorem dp_modDp_ne {x : Nat} (h : x ≠ p) (f : Dp → Dp) : (s.modDp p f).dp x = s.dp x := SMap.get_set_ne _ _ _ _ h
@[simp] theorem regsOnly_modDp {p : Nat} {l : List (Reg × Nat)} {s u : State} {f : Dp → Dp} :
    regsOnly l s (u.modDp p f) ↔ regsOnly l s u := .rfl
theorem get_modDp (f : Dp → Dp) (r : Reg) (i : Nat) : (s.modDp p f).get r i = s.get r i := rfl
theorem frame_modDp (l : List (Reg × Nat)) (M : Nat → Bool) (f : Dp → Dp) : Frame l M s (s.modDp p f) :=
  .of_regs (fun _ _ _ => rfl) rfl rfl rfl

/-- Work that leaves the paths' states. -/
theorem dp_of_dps {s t : State} (h : t.dps = s.dps) (p : Nat) : t.dp p = s.dp p := by rw [dp, dp, h]

theorem wrWords_dps (w : List Word) : ∀ (s : State) (a : Nat), (s.wrWords a w).dps = s.dps := by
  induction w with
  | nil => exact fun _ _ => rfl
  | cons x w ih => exact fun s a => ih _ _

theorem cause_dps (er mr : Reg) (i b e : Nat) : (cause er mr i b e s).dps = s.dps := by
  simp only [cause]
  split <;> rfl

theorem log38_dps (i c e t : Nat) (d : List Word) : (log38 i c e t d s).dps = s.dps := by
  unfold log38
  split <;> rfl

/-! ### Causes and values (R352, R362) -/

theorem dpCause_eq (b : Nat) : dpCause p b s = cause .DP_EVT .DP_EVT_MASK p b (200 + p) s ∨
    ∃ d t, dpCause p b s = log38 p b (200 + p) t d (cause .DP_EVT .DP_EVT_MASK p b (200 + p) s) := by
  unfold dpCause
  dsimp only
  unfold when
  split
  · exact .inr ⟨_, _, rfl⟩
  · exact .inl rfl

theorem dpCause_dps (b : Nat) : (dpCause p b s).dps = s.dps := by
  obtain h | ⟨d, t, h⟩ := dpCause_eq p s b <;> rw [h]
  · exact cause_dps ..
  · exact (log38_dps ..).trans (cause_dps ..)

theorem get_dpCause (b : Nat) (r : Reg) (i : Nat) :
    (dpCause p b s).get r i = (cause .DP_EVT .DP_EVT_MASK p b (200 + p) s).get r i := by
  obtain h | ⟨d, t, h⟩ := dpCause_eq p s b <;> rw [h]
  exact get_log38 ..

theorem dpCause_tick (b : Nat) : (dpCause p b s).tick = s.tick := by
  have hc : (cause .DP_EVT .DP_EVT_MASK p b (200 + p) s).tick = s.tick := by
    simp only [cause]
    split <;> rfl
  obtain h | ⟨d, t, h⟩ := dpCause_eq p s b <;> rw [h]
  · exact hc
  · refine .trans ?_ hc
    unfold log38
    split <;> rfl

theorem frame_of_kept {l : List (Reg × Nat)} {M : Nat → Bool} {s t : State} (hr : regsOnly l s t) (hk : t.kept = s.kept)
    (ht : t.tick = s.tick) : Frame l M s t := ⟨hr, fun a _ => rdByte_of_kept hk a, ht, resp_of_kept hk⟩

theorem frame_dpCause {l : List (Reg × Nat)} (M : Nat → Bool) (b : Nat) (h : (.DP_EVT, p) ∈ l)
    (hp : (.EVT_PEND, (evtHome (200 + p)).1) ∈ l) (hr : (.EVT_RAW, (evtHome (200 + p)).1) ∈ l) :
    Frame l M s (dpCause p b s) := by
  refine frame_of_kept ?_ (dpCause_kept ..) (dpCause_tick ..)
  exact ((regsOnly_congr fun _ _ _ => get_dpCause ..).trans (regsOnly_cause h hp hr)).2 (regsOnly_refl l s)

theorem dpCause_rbit (b : Nat) (hb : b < 32) : (dpCause p b s).rbit .DP_EVT p b = true := by
  rw [rbit, get_dpCause]
  exact cause_rbit _ _ _ _ _ hb (by decide) (by decide)

theorem dpEvt_bit_lt (hp : p < 4) : (evtHome (200 + p)).2 < 32 := by
  have h : ∀ p : Fin 4, (evtHome (200 + p)).2 < 32 := by decide
  exact h ⟨p, hp⟩

theorem dpCause_pends (b : Nat) (hp : p < 4) (hm : s.rbit .DP_EVT_MASK p b = true) :
    (dpCause p b s).pends (200 + p) = true := by
  rw [pends_congr _ (get_dpCause ..)]
  exact cause_pends (by decide) (dpEvt_bit_lt p hp) hm

theorem get_put4 (r r' : Reg) (i j : Nat) (v : Word) :
    (put4 r i v s).get r' j = if r' = r ∧ j = i then v else s.get r' j := get_put ..

theorem frame_put4 {l : List (Reg × Nat)} (M : Nat → Bool) (r : Reg) (i : Nat) (v : Word) (h : (r, i) ∈ l) :
    Frame l M s (put4 r i v s) := by
  refine .of_regs (fun r' j hr => ?_) rfl rfl rfl
  rw [get_put4, if_neg]
  rintro ⟨rfl, rfl⟩
  exact hr h

theorem put4_dps (r : Reg) (i : Nat) (v : Word) : (put4 r i v s).dps = s.dps := rfl

/-! ### Parcels (R345, R346) -/

variable (a : Parcel)

/-- The bytes of a slot, and of a path's whole store. -/
def slotMem (p slot : Nat) (b : Nat) : Bool := decide (parcelAt p slot ≤ b) && decide (b < parcelAt p slot + 64)
def pathMem (p b : Nat) : Bool := decide (0x01138000 + 0x10000 * p ≤ b) && decide (b < 0x01148000 + 0x10000 * p)

theorem slotMem_iff {p slot b : Nat} : slotMem p slot b = true ↔ parcelAt p slot ≤ b ∧ b < parcelAt p slot + 64 := by
  rw [slotMem, Bool.and_eq_true, decide_eq_true_eq, decide_eq_true_eq]
theorem pathMem_iff {p b : Nat} : pathMem p b = true ↔ 0x01138000 + 0x10000 * p ≤ b ∧ b < 0x01148000 + 0x10000 * p := by
  rw [pathMem, Bool.and_eq_true, decide_eq_true_eq, decide_eq_true_eq]

theorem pathMem_of_slot {slot b : Nat} (h : slot < 1024) (hb : slotMem p slot b = true) : pathMem p b = true := by
  rw [slotMem_iff, parcelAt] at hb
  rw [pathMem_iff]
  omega

theorem frame_parcelStore {l : List (Reg × Nat)} {M : Nat → Bool} (h : ∀ b, slotMem p a.slot b = true → M b = true) :
    Frame l M s (parcelStore p a s) := by
  refine .wrWords _ _ fun b h1 h2 => h b ?_
  simp only [List.length_cons, List.length_nil] at h2
  rw [slotMem_iff]
  omega

theorem frame_parcelFree {l : List (Reg × Nat)} {M : Nat → Bool} (h : ∀ b, slotMem p a.slot b = true → M b = true) :
    Frame l M s (parcelFree p a s) := by
  refine Frame.wrWords (s := s) _ [0#32] fun b h1 h2 => h b ?_
  simp only [List.length_cons, List.length_nil] at h2
  rw [slotMem_iff]
  omega

theorem parcelStore_dps : (parcelStore p a s).dps = s.dps := wrWords_dps ..
theorem parcelFree_dps : (parcelFree p a s).dps = s.dps := wrWords_dps [0#32] ..

theorem rdWord_parcelFree : (parcelFree p a s).rdWord (parcelAt p a.slot) = 0#32 := rdWord_wrWord ..

theorem frame_parcShow {l : List (Reg × Nat)} (M : Nat → Bool) (h : (.DP_PARC, p) ∈ l) : Frame l M s (parcShow p s) := by
  refine .of_regs ?_ rfl rfl rfl
  unfold parcShow
  exact (regsOnly_setFld (f := DP_PARC_COUNT) h).2 ((regsOnly_setFld (f := DP_PARC_TOP) h).2 (regsOnly_refl l s))

theorem parcShow_dps : (parcShow p s).dps = s.dps := rfl

/-- The parcel that a creation puts at the top of the column (R345). -/
def topParcel (s : State) (p : Nat) (pc : Int) (m tg : Word) (seed filled noMeas : Bool) : Parcel :=
  { slot := ((s.dp p).top + 1) % 1024, seq := (s.dp p).seq, pc := pc, m := m, mIn := m, tg := tg, tgMax := tg, pred := m,
    seed := seed, filled := filled, noMeas := noMeas }

variable (pc : Int) (m tg : Word) (seed filled noMeas : Bool)

theorem parcelNew_dp : (parcelNew p pc m tg seed filled noMeas s).dp p = { s.dp p with
    col := (s.dp p).col ++ [s.topParcel p pc m tg seed filled noMeas], top := ((s.dp p).top + 1) % 1024,
    seq := modInc 16 (s.dp p).seq, last := some (m, tg) } := by
  unfold parcelNew
  dsimp only
  rw [dp_of_dps (parcShow_dps ..), dp_of_dps (parcelStore_dps ..), dp_modDp]
  rfl

theorem frame_parcelNew {l : List (Reg × Nat)} {M : Nat → Bool} (hl : (.DP_PARC, p) ∈ l)
    (h : ∀ b, slotMem p (((s.dp p).top + 1) % 1024) b = true → M b = true) :
    Frame l M s (parcelNew p pc m tg seed filled noMeas s) := by
  unfold parcelNew
  exact ((frame_modDp p s l M _).trans (frame_parcelStore p _ _ h)).trans (frame_parcShow p _ M hl)

end
end State
end Sys2Proof.Machine

end

section

/-!
Drying paths: how a column is seeded, filled and placed (R350, R351).
-/

namespace Sys2Proof.Machine
open Kept State
namespace State

/-- The registers of a path that its work writes. -/
def dpRegs (p : Nat) : List (Reg × Nat) :=
  ofInst [.DP_STAT, .DP_PARC, .DP_EVT, .DP_CNT] p ++ (List.range 4).map (fun i => (.DP_OUT, 4 * p + i)) ++
    evtRegs (200 + p)

section
variable (p : Nat) (s : State)

@[simp] theorem mem_dpRegs {r : Reg} {i : Nat} : (r, i) ∈ dpRegs p ↔
    (r ∈ [Reg.DP_STAT, .DP_PARC, .DP_EVT, .DP_CNT] ∧ i = p) ∨
    (r = .DP_OUT ∧ ∃ k < 4, i = 4 * p + k) ∨ (r = .EVT_PEND ∨ r = .EVT_RAW) ∧ i = (evtHome (200 + p)).1 := by
  unfold dpRegs
  rw [List.mem_append, List.mem_append, mem_ofInst, mem_evtRegs, List.mem_map, or_assoc]
  refine or_congr Iff.rfl (or_congr ?_ Iff.rfl)
  constructor
  · rintro ⟨k, hk, h⟩
    obtain ⟨rfl, rfl⟩ := Prod.ext_iff.1 h
    exact ⟨rfl, k, List.mem_range.1 hk, rfl⟩
  · rintro ⟨rfl, k, hk, rfl⟩
    exact ⟨k, List.mem_range.2 hk, rfl⟩

/-! ### A column that grows -/

/-- The column has taken `n` parcels on top, each with `Q`, and nothing else of the path has changed but its store's
pointers. -/
structure Grown (p n : Nat) (Q : Parcel → Prop) (s t : State) : Prop where
  frame : Frame (dpRegs p) (pathMem p) s t
  grows : ∃ l top seq last, t.dp p = { s.dp p with col := (s.dp p).col ++ l, top := top, seq := seq, last := last } ∧
    l.length = n ∧ ∀ b ∈ l, Q b ∧ b.slot < 1024

theorem Grown.refl (Q : Parcel → Prop) : Grown p 0 Q s s :=
  ⟨.refl _ _ s, [], (s.dp p).top, (s.dp p).seq, (s.dp p).last, by rw [List.append_nil], rfl, fun _ h => by cases h⟩

theorem Grown.trans {p n m : Nat} {Q : Parcel → Prop} {s t u : State} (h : Grown p n Q s t) (h' : Grown p m Q t u) :
    Grown p (n + m) Q s u := by
  obtain ⟨hf, l, top, seq, last, hd, hn, hq⟩ := h
  obtain ⟨hf', l', top', seq', last', hd', hn', hq'⟩ := h'
  refine ⟨hf.trans hf', l ++ l', top', seq', last', ?_, by rw [List.length_append, hn, hn'], fun b hb => ?_⟩
  · rw [hd', hd, List.append_assoc]
  · exact (List.mem_append.1 hb).elim (hq b) (hq' b)

theorem grown_parcelNew (pc : Int) (m tg : Word) (seed filled noMeas : Bool) {Q : Parcel → Prop}
    (h : Q (s.topParcel p pc m tg seed filled noMeas)) : Grown p 1 Q s (parcelNew p pc m tg seed filled noMeas s) := by
  have hs : ((s.dp p).top + 1) % 1024 < 1024 := Nat.mod_lt _ (by decide)
  refine ⟨frame_parcelNew p s _ _ _ _ _ _ (by simp) fun b => pathMem_of_slot p hs, _, _, _, _, parcelNew_dp .., rfl, ?_⟩
  intro b hb
  rw [List.mem_singleton.1 hb]
  exact ⟨h, hs⟩

/-- Parcels created one after another, as each creation finds the path's other registers. -/
theorem grown_each {α : Type} {g : α → State → State} {Q : Parcel → Prop} {s₀ : State} {p : Nat}
    (hg : ∀ i u, Frame (dpRegs p) (pathMem p) s₀ u → Grown p 1 Q u (g i u)) (x : List α) :
    ∀ s, Frame (dpRegs p) (pathMem p) s₀ s → Grown p x.length Q s (each x g s) := by
  induction x with
  | nil => exact fun s _ => .refl p s Q
  | cons i x ih =>
    intro s hs
    have h1 := hg i s hs
    have h2 := ih _ (hs.trans h1.frame)
    rw [List.length_cons, Nat.add_comm]
    exact h1.trans h2

/-! ### Entries into FILL and RUN (R344, R351) -/

/-- The state and the flags at the entry to RUN. -/
def dpRunFlags (p : Nat) (s : State) : State :=
  ((s.setFld DP_STAT_STATE p 2).setFlag DP_STAT_REV p false).setFlag DP_STAT_BATCH_DONE p false

/-- What the entry to RUN leaves before the mean of a batch. -/
def dpRunning (p : Nat) (x : Int) (s : State) : State :=
  (dpRunFlags p s).modDp p fun d =>
    { d with p0 := x, fmax := x, nb := wrap48 (x + litres ((dpRunFlags p s).dpVp p)), ins := [], bins := [] }

theorem dpVp_frame {l : List (Reg × Nat)} {M : Nat → Bool} {s t : State} (h : Frame l M s t) (hl : (.DP_GEOM, p) ∉ l) :
    t.dpVp p = s.dpVp p ∧ t.dpVcol p = s.dpVcol p ∧ t.dpN p = s.dpN p := by
  have hv : t.dpVp p = s.dpVp p := h.fld DP_GEOM_VP hl
  have hc : t.dpVcol p = s.dpVcol p := h.fld DP_GEOM_VCOL hl
  exact ⟨hv, hc, by rw [dpN, dpN, hv, hc]⟩

variable (x : Int) (M : Nat → Bool)

theorem frame_dpRunning : Frame (dpRegs p) M s (dpRunning p x s) := by
  have h : Frame (dpRegs p) M s (dpRunFlags p s) := by
    refine .of_regs ?_ rfl rfl rfl
    unfold dpRunFlags
    rw [regsOnly_setFlag (by simp [DP_STAT_BATCH_DONE]), regsOnly_setFlag (by simp [DP_STAT_REV]),
      regsOnly_setFld (by simp [DP_STAT_STATE])]
    exact regsOnly_refl _ s
  exact h.trans (frame_modDp ..)

theorem dpState_modDp (f : Dp → Dp) : (s.modDp p f).dpState p = s.dpState p := rfl

theorem dpRunning_state : (dpRunning p x s).dpState p = 2 := by
  rw [dpRunning, dpState_modDp, dpRunFlags, dpState, setFlag, setFlag, fld_setFld_other (by decide),
    fld_setFld_other (by decide), fld_setFld_lt _ _ _ _ (by decide) (by decide)]

theorem dpRunFlags_dps : (dpRunFlags p s).dps = s.dps := rfl

theorem dpRunning_dp : ∃ n, (dpRunning p x s).dp p = { s.dp p with p0 := x, fmax := x, nb := n, ins := [], bins := [] } :=
  ⟨wrap48 (x + litres ((dpRunFlags p s).dpVp p)), by rw [dpRunning, dp_modDp, dp_of_dps (dpRunFlags_dps p s)]⟩

/-- A batch with layers shows their mean (R352). -/
theorem dpRun_eq : dpRun p x s = if (dpRunning p x s).dpBatch p then
    (if ((dpRunning p x s).dp p).col.isEmpty then dpRunning p x s else
      put4 .DP_OUT (4 * p + 3) (meanOf (((dpRunning p x s).dp p).col.map (·.mIn))) (dpRunning p x s))
    else dpRunning p x s := rfl

theorem frame_out (v : Word) : Frame (dpRegs p) M s (put4 .DP_OUT (4 * p + 3) v s) :=
  frame_put4 s M _ _ _ (by simp)

theorem dpState_out (v : Word) : (put4 .DP_OUT (4 * p + 3) v s).dpState p = s.dpState p :=
  fld_of_get ((get_put4 ..).trans (if_neg (by simp [DP_STAT_STATE])))

theorem dpRun_holds : Frame (dpRegs p) M s (dpRun p x s) ∧ (dpRun p x s).dpState p = 2 ∧ ∃ n, (dpRun p x s).dp p =
    { s.dp p with p0 := x, fmax := x, nb := n, ins := [], bins := [] } := by
  have hf := frame_dpRunning p s x M
  have hs := dpRunning_state p s x
  have hd := dpRunning_dp p s x
  rw [dpRun_eq]
  generalize dpRunning p x s = u at hf hs hd
  split_ifs
  · exact ⟨hf, hs, hd⟩
  · exact ⟨hf.trans (frame_out ..), (dpState_out ..).trans hs, hd⟩
  · exact ⟨hf, hs, hd⟩

theorem dpNewest_holds : Frame (dpRegs p) M s (dpNewest p s) ∧ (dpNewest p s).dps = s.dps := by
  unfold dpNewest
  split
  · split
    · exact ⟨.refl _ _ s, rfl⟩
    · exact ⟨frame_out .., rfl⟩
  · exact ⟨.refl _ _ s, rfl⟩

theorem dpFill_holds (t : Nat) : Frame (dpRegs p) M s (dpFill p t s) ∧ (dpFill p t s).dpState p = 1 ∧
    ∃ b, (dpFill p t s).dp p =
    { s.dp p with ts := t, bins := [], bin := b, seeds := (s.dp p).col.length, ins := [] } := by
  refine ⟨.of_regs ?_ rfl rfl rfl, ?_, _, dp_modDp ..⟩
  · unfold dpFill
    rw [regsOnly_modDp, regsOnly_setFld (by simp [DP_STAT_STATE])]
    exact regsOnly_refl _ s
  · exact fld_setFld_lt _ _ _ _ (by decide) (by decide)

/-! ### The column placed (R351) -/

theorem parcelPc_frame {l : List (Reg × Nat)} {M : Nat → Bool} {s t : State} (h : Frame l M s t) (hl : (.DP_GEOM, p) ∉ l)
    (n : Nat) : t.parcelPc p x n = s.parcelPc p x n := by
  obtain ⟨hv, hc, -⟩ := dpVp_frame p h hl
  rw [parcelPc, parcelPc, hv, hc]

/-- The parcels of the column at their places. -/
def placed (s : State) (p : Nat) (x : Int) : List Parcel :=
  ((s.dp p).col.zip (List.range (s.dp p).col.length)).map fun e => { e.1 with pc := s.parcelPc p x (e.2 + 1) }

theorem placed_pc : (s.placed p x).map (·.pc) = (List.range (s.dp p).col.length).map fun i => s.parcelPc p x (i + 1) := by
  have h : (List.range (s.dp p).col.length) = ((s.dp p).col.zip (List.range (s.dp p).col.length)).map Prod.snd :=
    (List.map_snd_zip (by rw [List.length_range])).symm
  rw [placed, List.map_map]
  conv_rhs => rw [h, List.map_map]
  rfl

theorem placed_slot (hs : ∀ b ∈ (s.dp p).col, b.slot < 1024) {b : Parcel} (hb : b ∈ s.placed p x) : b.slot < 1024 := by
  obtain ⟨e, he, rfl⟩ := List.mem_map.1 hb
  exact hs e.1 (List.of_mem_zip he).1

theorem dpPlace_holds (hs : ∀ b ∈ (s.dp p).col, b.slot < 1024) : Frame (dpRegs p) (pathMem p) s (dpPlace p x s) ∧
    (dpPlace p x s).dp p = { s.dp p with enter := 0, col := s.placed p x } := by
  have hd : (s.modDp p fun d => { d with enter := 0, col := (d.col.zip (List.range d.col.length)).map fun e =>
      { e.1 with pc := s.parcelPc p x (e.2 + 1) } }).dp p = { s.dp p with enter := 0, col := s.placed p x } := dp_modDp ..
  have he (l : List Parcel) (u : State) : (each l (fun a s => parcelStore p a s) u).dp p = u.dp p :=
    dp_of_dps (each_same (·.dps) (fun a s => parcelStore_dps p s a) l u) p
  refine ⟨(frame_modDp p s _ _ _).trans (Frame.each (fun a ha u => ?_) _), (he _ _).trans hd⟩
  rw [hd] at ha
  exact frame_parcelStore p u a fun b => pathMem_of_slot p (placed_slot p s x hs ha)

/-! ### The end of FILL (R351) -/

theorem grown_fillParcels (t : Nat) : Grown p (s.dpN p - (s.dp p).seeds) (fun _ => True) s (fillParcels p t s) := by
  have hl : Grown p (List.range (s.dpN p - (s.dp p).seeds)).length (fun _ => True) s (fillParcels p t s) :=
    grown_each (fun _ u _ => grown_parcelNew p u 0 _ _ false true false trivial) _ s (.refl _ _ s)
  rwa [List.length_range] at hl

end
end State
end Sys2Proof.Machine

end

section

/-!
Drying paths: the end of FILL and the enable (R350, R351, R362).
-/

namespace Sys2Proof.Machine
open Kept State
namespace State
section
variable (p : Nat) (s : State)

theorem frame_dpCause_path (M : Nat → Bool) (b : Nat) : Frame (dpRegs p) M s (dpCause p b s) :=
  frame_dpCause p s M b (by simp) (by simp) (by simp)

theorem dpCause_state (b : Nat) : (dpCause p b s).dpState p = s.dpState p :=
  (frame_dpCause (l := (.DP_EVT, p) :: evtRegs (200 + p)) p s (fun _ => false) b (by simp) (by simp) (by simp)).fld
    DP_STAT_STATE (by simp [DP_STAT_STATE])

/-- The end of FILL: the column has its parcels in place and the path runs from the axis position (R351). -/
theorem dpFillEnd_holds (t : Nat) (hp : p < 4) (hs : ∀ b ∈ (s.dp p).col, b.slot < 1024) :
    Frame (dpRegs p) (pathMem p) s (dpFillEnd p t s) ∧ (dpFillEnd p t s).dpState p = 2 ∧
    ((dpFillEnd p t s).dp p).p0 = s.dpPos p ∧ ((dpFillEnd p t s).dp p).col.map (·.pc) =
      (List.range ((s.dp p).col.length + (s.dpN p - (s.dp p).seeds))).map (fun i => s.parcelPc p (s.dpPos p) (i + 1)) ∧
    (dpFillEnd p t s).rbit .DP_EVT p 4 = true ∧
    (s.rbit .DP_EVT_MASK p 4 = true → (dpFillEnd p t s).pends (200 + p) = true) ∧
    ((dpFillEnd p t s).dp p).bins = [] ∧ ((dpFillEnd p t s).dp p).enter = 0 := by
  obtain ⟨hf1, l, top, seq, last, hd1, hn1, hq1⟩ := grown_fillParcels p s t
  have hs1 : ∀ b ∈ ((fillParcels p t s).dp p).col, b.slot < 1024 := by
    intro b hb
    rw [hd1] at hb
    exact (List.mem_append.1 hb).elim (hs b) fun h => (hq1 b h).2
  obtain ⟨hf2, hd2⟩ := dpPlace_holds p (fillParcels p t s) (s.dpPos p) hs1
  obtain ⟨hf3, hd3⟩ := dpNewest_holds p (dpPlace p (s.dpPos p) (fillParcels p t s)) (pathMem p)
  obtain ⟨hf4, hst4, n, hd4⟩ := dpRun_holds p (dpNewest p (dpPlace p (s.dpPos p) (fillParcels p t s))) (s.dpPos p)
      (pathMem p)
  have hf := ((hf1.trans hf2).trans hf3).trans hf4
  have hd5 : (dpFillEnd p t s).dp p = { (dpPlace p (s.dpPos p) (fillParcels p t s)).dp p with
      p0 := s.dpPos p, fmax := s.dpPos p, nb := n, ins := [], bins := [] } := by
    rw [dpFillEnd, dp_of_dps (dpCause_dps ..), hd4, dp_of_dps hd3]
  rw [hd2] at hd5
  rw [hd5]
  refine ⟨hf.trans (frame_dpCause_path ..), (dpCause_state ..).trans hst4, rfl, ?_, dpCause_rbit _ _ _ (by decide),
    fun hm => dpCause_pends p _ 4 hp ?_, rfl, rfl⟩
  · refine (placed_pc p _ _).trans ?_
    have hlen : ((fillParcels p t s).dp p).col.length = (s.dp p).col.length + (s.dpN p - (s.dp p).seeds) := by
      rw [hd1, List.length_append, hn1]
    rw [hlen]
    exact List.map_congr_left fun i _ => parcelPc_frame p _ hf1 (by simp) _
  · rw [rbit, hf.get (by simp)]
    exact hm

/-! ### An accepted enable (R350, R351) -/

theorem ringEmpty_nil (M : Nat → Bool) (hc : (s.dp p).col = []) (ho : (s.dp p).out = []) :
    Frame (dpRegs p) M s (ringEmpty p s) ∧ (ringEmpty p s).dp p = { s.dp p with col := [], out := [], last := none } := by
  unfold ringEmpty
  dsimp only
  rw [hc, ho]
  exact ⟨(frame_modDp p s _ M _).trans (frame_parcShow p _ M (by simp)),
      (dp_of_dps (parcShow_dps ..) p).trans (dp_modDp ..)⟩

/-- The seed parcels of an enable. -/
def dpSeeded (p : Nat) (x : Int) (n : Nat) (s : State) : State :=
  each (List.range n) (fun i s => parcelNew p (s.parcelPc p x (i + 1)) (s.get .DP_MSEED p) twenty true false false s)
    (ringEmpty p s)

/-- The number of them. -/
def dpSeeds (s : State) (p : Nat) : Nat :=
  if s.fld DP_CFG_START p = 2 then s.dpN p
  else if s.fld DP_CFG_START p = 1 then min (s.fld DP_FILL_FILL p) (s.dpVcol p) / s.dpVp p else 0

/-- The column seeded, and its newest parcel shown. -/
def dpSown (p : Nat) (s : State) : State :=
  when (s.dpSeeds p != 0) (dpNewest p) (dpSeeded p (s.dpPos p) (s.dpSeeds p) s)

theorem dpStart_eq : dpStart p s = if s.fld DP_CFG_START p = 2 then
    (dpRun p (s.dpPos p) (dpSown p s)).modDp p fun d => { d with enter :=
        2 } else dpFill p (dpSown p s).Tn (dpSown p s) := rfl

/-- Seeds fill the column and change nothing else of it; without seeds no memory changes. -/
theorem dpSown_holds {M : Nat → Bool} (hM : s.dpSeeds p ≠ 0 → M = pathMem p) (hc : (s.dp p).col = [])
    (ho : (s.dp p).out = []) : Frame (dpRegs p) M s (dpSown p s) ∧ ∃ l top seq last,
      (dpSown p s).dp p = { s.dp p with col := l, out := [], top := top, seq := seq, last := last } ∧
      l.length = s.dpSeeds p ∧ (l.all fun b => b.m == s.get .DP_MSEED p && b.seed) = true := by
  obtain ⟨hf, hd⟩ := ringEmpty_nil p s M hc ho
  unfold dpSown
  by_cases hn : s.dpSeeds p = 0
  · rw [hn, bne_self_eq_false]
    exact ⟨hf, [], _, _, _, hd, rfl, rfl⟩
  · have hM := hM hn
    subst hM
    have hg : Grown p (List.range (s.dpSeeds p)).length (fun b => b.m = s.get .DP_MSEED p ∧ b.seed = true) (ringEmpty p s)
        (dpSeeded p (s.dpPos p) (s.dpSeeds p) s) :=
      grown_each (s₀ := s) (fun i u hu => grown_parcelNew p u _ _ _ _ _ _ ⟨hu.get (by simp), rfl⟩) _ _ hf
    obtain ⟨hf1, l, top, seq, last, hd1, hl, hq⟩ := hg
    obtain ⟨hf2, hd2⟩ := dpNewest_holds p (dpSeeded p (s.dpPos p) (s.dpSeeds p) s) (pathMem p)
    rw [bne_iff_ne.2 hn]
    refine ⟨(hf.trans hf1).trans hf2, l, top, seq, last, ?_, by rw [hl, List.length_range], ?_⟩
    · exact (dp_of_dps hd2 p).trans (by rw [hd1, hd, List.nil_append])
    · refine List.all_eq_true.2 fun b hb => ?_
      obtain ⟨⟨h1, h2⟩, -⟩ := hq b hb
      rw [h1, h2, beq_self_eq_true, Bool.and_self]

end
end State
end Sys2Proof.Machine

end

section

/-!
Drying paths: the writes of DP_CFG and DP_CTRL (R350, R351, R362).
-/

namespace Sys2Proof.Machine
open Kept State

theorem located_dpCfg (p : Fin 4) : located .DP_CFG p = true := by
  revert p
  decide
theorem located_dpCtrl (p : Fin 4) : located .DP_CTRL p = true := by
  revert p
  decide

/-- The value that a write gives DP_CFG, its FILLBIN held to its range. -/
def dpCfgVal (w : Word) : Word := putBits w 31 24 (clampN 1 255 (bitsOf w 31 24))

section
variable {a : Access} {m p : Nat} {v w : Word} {u : State}

theorem dpEn_eq_bitAt (p : Nat) (u : State) : u.dpEn p = bitAt (u.get .DP_CFG p) 0 := by
  rw [dpEn, flag, fld, DP_CFG_EN, bitsOf_one, b2n_ne_zero]

theorem bitAt_dpCfgVal : bitAt (dpCfgVal w) 0 = bitAt w 0 := by
  rw [dpCfgVal, bitAt_eq, bitAt_eq, getLsbD_putBits, if_neg (by omega)]

theorem bitAt_merged_dpCfg : bitAt (u.merged m .DP_CFG p v) 0 = bitAt v 0 := by
  have h : u.merged m .DP_CFG p v = (u.get .DP_CFG p &&& ~~~ 0xFF031FFB#32) ||| (v &&& 0xFF031FFB#32) := rfl
  have h0 : bitAt (~~~ 0xFF031FFB#32) 0 = false := by decide
  have h1 : bitAt 0xFF031FFB#32 0 = true := by decide
  rw [h, bitAt_or, bitAt_and, bitAt_and, h0, h1, Bool.and_false, Bool.false_or, Bool.and_true]

theorem dpEnable_bit : bitAt (dpCfgVal (u.merged m .DP_CFG p (v ||| 1#32))) 0 = true := by
  have h1 : bitAt 1#32 0 = true := by decide
  rw [bitAt_dpCfgVal, bitAt_merged_dpCfg, bitAt_or, h1, Bool.or_true]

/-- DP_CFG's own rule lets a write pass while the path is disabled. -/
theorem wrRes_dpCfg (h : u.dpEn p = false) :
    wrRes a .DP_CFG p v u = (dpCfgStore p (dpCfgVal (u.merged m .DP_CFG p v)) u, .ok) := by
  have hw : wrRes a .DP_CFG p v u = if u.dpCfgErr p (dpCfgVal (u.merged m .DP_CFG p v)) then (u, .err) else
      (dpCfgStore p (dpCfgVal (u.merged m .DP_CFG p v)) u, .ok) := rfl
  rw [hw, dpCfgErr, h]
  rfl

theorem dpCfgStore_refused (hb : bitAt w 0 = true) (he : u.dpEn p = false) (hr : u.dpReject p w ≠ 0) :
    dpCfgStore p w u = (u.put .DP_CFG p (putBit w 0 false)).setFld DP_STAT_REJ p (u.dpReject p w) := by
  simp only [dpCfgStore, hb, he, Bool.not_false, Bool.and_self, if_true, if_pos hr]

theorem dpCfgStore_enabled (hb : bitAt w 0 = true) (he : u.dpEn p = false) (hr : u.dpReject p w = 0) :
    dpCfgStore p w u = dpStart p (u.put .DP_CFG p w) := by
  simp only [dpCfgStore, hb, he, Bool.not_false, Bool.and_self, if_true, hr, ne_eq, not_true_eq_false, if_false]

theorem dpReject_lt : u.dpReject p w < 16 := by
  unfold dpReject
  extract_lets ax nz vp lv chans
  split_ifs <;> omega

/-- What a refused enable leaves. -/
theorem dpRefused_holds (hb : bitAt w 0 = true) (he : u.dpEn p = false) (hr : u.dpReject p w ≠ 0) :
    (dpCfgStore p w u).dpEn p = false ∧ (dpCfgStore p w u).get .DP_CFG p = putBit w 0 false ∧
      (dpCfgStore p w u).fld DP_STAT_REJ p = u.dpReject p w ∧ (dpCfgStore p w u).dps = u.dps := by
  rw [dpCfgStore_refused hb he hr]
  have hg : ((u.put .DP_CFG p (putBit w 0 false)).setFld DP_STAT_REJ p (u.dpReject p w)).get .DP_CFG p =
      putBit w 0 false := (get_setFld_other _ _ _ _ _ _ (by decide)).trans (get_put_same ..)
  refine ⟨?_, hg, fld_setFld_lt _ _ _ _ (by decide) dpReject_lt, rfl⟩
  rw [dpEn_eq_bitAt, hg]
  exact bitAt_putBit_same _ _ (by decide)

/-! ### What an accepted enable meets -/

theorem fld_put_cfg {f : Field} (h : f.reg = .DP_CFG) : (u.put .DP_CFG p w).fld f p = bitsOf w f.hi f.lo := by
  rw [fld, h, get_put_same]

theorem dpPos_put_cfg : (u.put .DP_CFG p w).dpPos p = u.axPos (bitsOf w 12 8) := by
  rw [dpPos, fld_put_cfg (f := DP_CFG_AX) rfl]
  exact axPos_congr _ (get_put_reg (by decide) ..) (get_put_reg (by decide) ..)

theorem fld_put_cfg_other {f : Field} (h : f.reg ≠ .DP_CFG) (i : Nat) : (u.put .DP_CFG p w).fld f i = u.fld f i :=
  fld_put_other _ _ _ _ _ _ h

theorem dpN_put_cfg : (u.put .DP_CFG p w).dpVp p = u.dpVp p ∧ (u.put .DP_CFG p w).dpVcol p = u.dpVcol p ∧
    (u.put .DP_CFG p w).dpN p = u.dpN p := by
  have hv : (u.put .DP_CFG p w).dpVp p = u.dpVp p := fld_put_cfg_other (by decide) p
  have hc : (u.put .DP_CFG p w).dpVcol p = u.dpVcol p := fld_put_cfg_other (by decide) p
  exact ⟨hv, hc, by rw [dpN, dpN, hv, hc]⟩

/-- The registers that an accepted enable writes. -/
def enableRegs (p : Nat) : List (Reg × Nat) :=
  ofInst [.DP_CFG] p ++ ofInst [.DP_STAT, .DP_PARC, .DP_EVT, .DP_CNT] p ++
    (List.range 4).map (fun i => (.DP_OUT, 4 * p + i)) ++ evtRegs (200 + p)

theorem enableRegs_eq : enableRegs p = ofInst [.DP_CFG] p ++ dpRegs p := by
  simp only [enableRegs, dpRegs, List.append_assoc]

theorem onlyBut_enable {M : Nat → Bool} {t : State} (h : Frame (dpRegs p) M (u.put .DP_CFG p w) t) :
    State.onlyBut (enableRegs p) M u t := by
  refine ⟨?_, h.mem⟩
  rw [enableRegs_eq]
  exact regsOnly.trans ((regsOnly_put (by simp)).2 (regsOnly_refl _ u))
    (h.regs.mono fun r i hr => List.mem_append_right _ hr)

variable {M : Nat → Bool} (hc : (u.dp p).col = []) (ho : (u.dp p).out = [])
include hc ho

/-- START 2: a full column of seed parcels runs (R350). -/
theorem dpStart_full (hs : bitsOf w 4 3 = 2) :
    State.onlyBut (enableRegs p) (pathMem p) u (dpStart p (u.put .DP_CFG p w)) ∧
    (dpStart p (u.put .DP_CFG p w)).get .DP_CFG p = w ∧ (dpStart p (u.put .DP_CFG p w)).dpState p = 2 ∧
    ((dpStart p (u.put .DP_CFG p w)).dp p).p0 = u.axPos (bitsOf w 12 8) ∧
    ((dpStart p (u.put .DP_CFG p w)).dp p).col.length = u.dpN p ∧
    (((dpStart p (u.put .DP_CFG p w)).dp p).col.all fun b => b.m == u.get .DP_MSEED p && b.seed) = true ∧
    ((dpStart p (u.put .DP_CFG p w)).dp p).step = (u.dp p).step := by
  have hst : (u.put .DP_CFG p w).fld DP_CFG_START p = 2 := (fld_put_cfg rfl).trans hs
  have hn : (u.put .DP_CFG p w).dpSeeds p = u.dpN p := by rw [dpSeeds, if_pos hst, (dpN_put_cfg).2.2]
  have hms : (u.put .DP_CFG p w).get .DP_MSEED p = u.get .DP_MSEED p := get_put_reg (by decide) ..
  have hdp : (u.put .DP_CFG p w).dp p = u.dp p := rfl
  obtain ⟨hf, l, top, seq, last, hd, hl, ha⟩ := dpSown_holds p (u.put .DP_CFG p w) (M := pathMem p) (fun _ => rfl) hc ho
  rw [hn] at hl
  rw [hms] at ha
  rw [hdp] at hd
  obtain ⟨hf', hs', n, hd'⟩ := dpRun_holds p (dpSown p (u.put .DP_CFG p w)) ((u.put .DP_CFG p w).dpPos p) (pathMem p)
  have hfr := (hf.trans hf').trans (frame_modDp p _ (dpRegs p) (pathMem p) fun d => { d with enter := 2 })
  rw [dpStart_eq, if_pos hst, dp_modDp, hd', hd]
  exact ⟨onlyBut_enable hfr, (hfr.get (by simp)).trans (get_put_same ..), hs', dpPos_put_cfg, hl, ha, rfl⟩

/-- START 0 and 1: FILL above the seed parcels of DP_FILL (R350). -/
theorem dpStart_fill (hs : bitsOf w 4 3 ≠ 2) (hM : (u.put .DP_CFG p w).dpSeeds p ≠ 0 → M = pathMem p) :
    State.onlyBut (enableRegs p) M u (dpStart p (u.put .DP_CFG p w)) ∧
    (dpStart p (u.put .DP_CFG p w)).get .DP_CFG p = w ∧ (dpStart p (u.put .DP_CFG p w)).dpState p = 1 ∧
    ((dpStart p (u.put .DP_CFG p w)).dp p).col.length = (u.put .DP_CFG p w).dpSeeds p ∧
    (((dpStart p (u.put .DP_CFG p w)).dp p).col.all fun b => b.m == u.get .DP_MSEED p && b.seed) = true ∧
    ((dpStart p (u.put .DP_CFG p w)).dp p).seeds = ((dpStart p (u.put .DP_CFG p w)).dp p).col.length ∧
    ((dpStart p (u.put .DP_CFG p w)).dp p).ts = u.Tn ∧ ((dpStart p (u.put .DP_CFG p w)).dp p).bins = [] := by
  have hst : (u.put .DP_CFG p w).fld DP_CFG_START p ≠ 2 := fun h => hs ((fld_put_cfg rfl).symm.trans h)
  have hms : (u.put .DP_CFG p w).get .DP_MSEED p = u.get .DP_MSEED p := get_put_reg (by decide) ..
  obtain ⟨hf, l, top, seq, last, hd, hl, ha⟩ := dpSown_holds p (u.put .DP_CFG p w) hM hc ho
  rw [hms] at ha
  obtain ⟨hf', hs', b, hd'⟩ := dpFill_holds p (dpSown p (u.put .DP_CFG p w)) M (dpSown p (u.put .DP_CFG p w)).Tn
  have ht : (dpSown p (u.put .DP_CFG p w)).Tn = u.Tn := by
    rw [Tn, hf.tick]
    rfl
  have hfr := hf.trans hf'
  rw [dpStart_eq, if_neg hst, hd', hd]
  exact ⟨onlyBut_enable hfr, (hfr.get (by simp)).trans (get_put_same ..), hs', hl, ha, rfl, ht, rfl⟩

end

/-! ### DP_CTRL (R351) -/

section
variable {a : Access} {p : Nat} {u : State}

theorem wrRes_dpCtrl : wrRes a .DP_CTRL p 1#32 u = (dpCtrlStore p 1#32 u, .ok) := rfl

theorem dpCtrlStore_full : dpCtrlStore p 1#32 u =
    when (u.dpState p == 1) (modDp p fun d => { d with enter := 1 }) u := by
  rw [dpCtrlStore, show bitAt 1#32 3 = false by decide, show bitAt 1#32 2 = false by decide,
    show bitAt 1#32 1 = false by decide, show bitAt 1#32 0 = true by decide]
  rfl

end

end Sys2Proof.Machine

end

section

/-!
Drying paths: PARCEL_BOUNDARY (R344, R345).
-/

namespace Sys2Proof.Machine
open Kept State
namespace State
section
variable (p : Nat) (s : State)

/-! ### Bits that causes keep -/

theorem dpCause_keeps (b : Nat) (hp : p < 4) (hb : b < 32) :
    (∀ k, s.rbit .DP_EVT p k = true → (dpCause p b s).rbit .DP_EVT p k = true) ∧
      ∀ e, s.pends e = true → (dpCause p b s).pends e = true := by
  refine ⟨fun k hk => ?_, fun e he => ?_⟩
  · have h : (s.setRbit .DP_EVT p b true).rbit .DP_EVT p k = true := by
      rw [rbit, get_setRbit, if_pos ⟨rfl, rfl⟩, bitAt_putBit_true _ hb]
      exact Bool.or_eq_true_iff.2 (.inl hk)
    rw [rbit, get_dpCause]
    simp only [cause]
    split
    · rwa [get_raiseOf, get_raise _ _ _ _ (by decide) (by decide)]
    · exact h
  · rw [pends_congr _ (get_dpCause ..)]
    exact cause_pends_of _ _ _ _ _ _ (by decide) (dpEvt_bit_lt p hp) he

/-- The newest parcel shown leaves the path's events and counters. -/
theorem dpNewest_get {r : Reg} (i : Nat) (h : r ≠ .DP_OUT) : (dpNewest p s).get r i = s.get r i := by
  unfold dpNewest
  split
  · split
    · rfl
    · exact (get_put4 ..).trans (if_neg fun h' => h h'.1)
  · rfl

/-! ### The steps of a boundary -/

/-- The boundaries of the present tick, with the one at hand. -/
def boundaryCount (s : State) (p : Nat) : Nat := if (s.dp p).nbTick = s.tick then (s.dp p).nbN + 1 else 1

/-- The next boundary, and the counts of the tick. -/
def boundaryNext (p : Nat) (s : State) : State :=
  s.modDp p fun d => { d with nbTick := s.tick, nbN := s.boundaryCount p, nb := wrap48 (d.nb + litres (s.dpVp p)) }

/-- A fifth boundary of one tick departs from the promise. -/
def boundaryMark (p : Nat) (s : State) : State :=
  if s.boundaryCount p = 5 then depart (dpCause p 8 (boundaryNext p s)) else boundaryNext p s

/-- The bottom parcel of a full column leaves. -/
def boundaryLeave (p : Nat) (d : Dp) (s : State) : State :=
  match d.col with
  | a :: r =>
    if s.dpN p ≤ d.col.length then
      parcelStore p { a with dis := true } (s.modDp p fun d => { d with col := r, out := d.out ++ [{ a with dis :=
          true }] })
    else s
  | [] => s

/-- The readings of the new parcel. -/
def boundaryReads (s : State) (p : Nat) : List (Int × Word × Option Word) :=
  (s.dp p).ins.filter fun e =>
    decide (0 ≤ diff48 e.1 (wrap48 ((s.dp p).nb - litres (s.dpVp p)))) && decide (diff48 e.1 (s.dp p).nb < 0)

/-- They are taken off. -/
def boundaryTake (p : Nat) (nb : Int) (s : State) : State :=
  s.modDp p fun d' => { d' with ins := d'.ins.filter fun e => decide (0 ≤ diff48 e.1 nb) }

/-- The new parcel. -/
def boundaryNew (p : Nat) (d : Dp) (q : List (Int × Word × Option Word)) (s : State) : State :=
  if q.isEmpty then
    dpNewest p (dpCause p 1 ((parcelNew p d.nb (d.last.getD (s.get .DP_MSEED p, twenty)).1
      (d.last.getD (s.get .DP_MSEED p, twenty)).2 false false true s).incSat DP_CNT_NOMEAS p))
  else
    dpNewest p (parcelNew p d.nb (meanOf (q.map (·.2.1)))
      (s.meanTemp p (f32.sum (q.filterMap (·.2.2))) (q.filterMap (·.2.2)).length) false false false s)

theorem dpBoundary_of_due (h : s.dpBoundaryDue p = true) : dpBoundary p s = boundaryNew p (s.dp p) (s.boundaryReads p)
    (boundaryTake p (s.dp p).nb (boundaryLeave p (s.dp p) (boundaryMark p s))) := by
  rw [dpBoundary, if_pos h]
  rfl

variable (M : Nat → Bool)

/-- A boundary that keeps the promise moves the path on to the next one. -/
theorem boundaryMark_kept (l : List (Reg × Nat)) (hn : s.boundaryCount p ≠ 5) : Frame l M s (boundaryMark p s) ∧
    (boundaryMark p s).dp p =
      { s.dp p with nbTick := s.tick, nbN := s.boundaryCount p, nb := wrap48 ((s.dp p).nb + litres (s.dpVp p)) } := by
  rw [boundaryMark, if_neg hn]
  exact ⟨frame_modDp .., dp_modDp ..⟩

theorem frame_depart {l : List (Reg × Nat)} (h : (.MOD_FAULT, 0) ∈ l) : Frame l M s (depart s) := by
  refine .of_regs ?_ rfl rfl rfl
  unfold depart
  exact (regsOnly_setFlag (f := MOD_FAULT_PROMISE) h).2 (regsOnly_refl l s)

theorem depart_pends (e : Nat) (h : s.pends e = true) : (depart s).pends e = true := by
  unfold depart
  rwa [pends_setFlag _ _ _ _ _ (by decide)]

/-- One that does not marks the departure and its cause (R33). -/
theorem boundaryMark_departed (hp : p < 4) (hn : s.boundaryCount p = 5) :
    Frame (dpRegs p ++ [(.MOD_FAULT, 0)]) M s (boundaryMark p s) ∧ (boundaryMark p s).dp p =
      { s.dp p with nbTick := s.tick, nbN := 5, nb := wrap48 ((s.dp p).nb + litres (s.dpVp p)) } ∧
    (boundaryMark p s).flag MOD_FAULT_PROMISE 0 = true ∧ (boundaryMark p s).rbit .DP_EVT p 8 = true ∧
    (s.rbit .DP_EVT_MASK p 8 = true → (boundaryMark p s).pends (200 + p) = true) := by
  rw [boundaryMark, if_pos hn]
  refine ⟨?_, ?_, depart_promise _, ?_, fun hm => depart_pends _ _ (dpCause_pends _ _ _ hp hm)⟩
  · exact ((frame_modDp p s _ M _).trans (frame_dpCause p _ M 8 (by simp) (by simp) (by simp))).trans
      (frame_depart _ M (by simp))
  · refine (dp_of_dps (s := dpCause p 8 (boundaryNext p s)) rfl p).trans ((dp_of_dps (dpCause_dps ..) p).trans ?_)
    rw [boundaryNext, dp_modDp, hn]
  · have hd : (depart (dpCause p 8 (boundaryNext p s))).get .DP_EVT p = (dpCause p 8 (boundaryNext p s)).get .DP_EVT p :=
      get_put_reg (by decide) ..
    rw [rbit, hd]
    exact dpCause_rbit _ _ _ (by decide)

/-- A column with room keeps its bottom. -/
theorem boundaryLeave_room {d : Dp} (h : d.col.length < s.dpN p) : boundaryLeave p d s = s := by
  unfold boundaryLeave
  split
  · rw [if_neg (by omega)]
  · rfl

theorem boundaryLeave_full (l : List (Reg × Nat)) {d : Dp} {a : Parcel} {r : List Parcel} (hc : d.col = a :: r) (h :
    s.dpN p ≤ r.length + 1)
    (hM : ∀ b, slotMem p a.slot b = true → M b = true) : Frame l M s (boundaryLeave p d s) ∧
    (boundaryLeave p d s).dp p = { s.dp p with col := r, out := (s.dp p).out ++ [{ a with dis := true }] } := by
  unfold boundaryLeave
  rw [hc]
  dsimp only
  rw [if_pos (by rw [List.length_cons]; exact h)]
  exact ⟨(frame_modDp p s _ M _).trans (frame_parcelStore p _ { a with dis := true } hM),
    (dp_of_dps (parcelStore_dps ..) p).trans (dp_modDp ..)⟩

/-- Words read where nothing is marked. -/
theorem Frame.rdWord {l : List (Reg × Nat)} {s t : State} (h : Frame l (fun _ => false) s t) (a : Nat) :
    t.rdWord a = s.rdWord a := rdWord_congr fun b _ _ => h.mem b rfl

theorem rdWord_wrWords_head (a : Nat) (w : Word) (l : List Word) : (s.wrWords a (w :: l)).rdWord a = w := by
  rw [wrWords]
  exact (rdWord_congr fun b _ _ => rdByte_wrWords_ne _ _ _ (by omega)).trans (rdWord_wrWord s a w)

theorem rdWord_parcelStore (a : Parcel) : (parcelStore p a s).rdWord (parcelAt p a.slot + 12) = a.m := by
  unfold parcelStore
  dsimp only
  rw [wrWords, wrWords, wrWords]
  exact rdWord_wrWords_head ..

theorem rdWord_parcelNew (pc : Int) (m tg : Word) (seed filled noMeas : Bool) :
    (parcelNew p pc m tg seed filled noMeas s).rdWord (parcelAt p (((s.dp p).top + 1) % 1024) + 12) = m := by
  unfold parcelNew
  exact ((frame_parcShow (l := [(.DP_PARC, p)]) p _ (fun _ => false) (by simp)).rdWord _).trans
    (rdWord_parcelStore p _ (s.topParcel p pc m tg seed filled noMeas))

theorem frame_incSat {l : List (Reg × Nat)} (f : Field) (i : Nat) (h : (f.reg, i) ∈ l) : Frame l M s (s.incSat f i) :=
  .of_regs ((regsOnly_incSat h).2 (regsOnly_refl l s)) rfl rfl rfl

/-- Without a reading the new parcel takes the last values, and is counted and told (R345). -/
theorem boundaryNew_blind (d : Dp) (hp : p < 4) (hM : ∀ b, slotMem p (((s.dp p).top + 1) % 1024) b = true → M b = true) :
    Frame (dpRegs p) M s (boundaryNew p d [] s) ∧
    (boundaryNew p d [] s).dp p = { s.dp p with
      col := (s.dp p).col ++ [s.topParcel p d.nb (d.last.getD (s.get .DP_MSEED p, twenty)).1
        (d.last.getD (s.get .DP_MSEED p, twenty)).2 false false true],
      top := ((s.dp p).top + 1) % 1024, seq := modInc 16 (s.dp p).seq,
      last := some ((d.last.getD (s.get .DP_MSEED p, twenty)).1, (d.last.getD (s.get .DP_MSEED p, twenty)).2) } ∧
    (boundaryNew p d [] s).rdWord (parcelAt p (((s.dp p).top + 1) % 1024) + 12) =
      (d.last.getD (s.get .DP_MSEED p, twenty)).1 ∧
    (boundaryNew p d [] s).fld DP_CNT_NOMEAS p =
      min (s.fld DP_CNT_NOMEAS p + 1) (2 ^ (DP_CNT_NOMEAS.hi + 1 - DP_CNT_NOMEAS.lo) - 1) ∧
    (boundaryNew p d [] s).rbit .DP_EVT p 1 = true ∧
    (s.rbit .DP_EVT_MASK p 1 = true → (boundaryNew p d [] s).pends (200 + p) = true) ∧
    (∀ k, s.rbit .DP_EVT p k = true → (boundaryNew p d [] s).rbit .DP_EVT p k = true) ∧
    ∀ e, s.pends e = true → (boundaryNew p d [] s).pends e = true := by
  unfold boundaryNew
  rw [if_pos List.isEmpty_nil]
  generalize (d.last.getD (s.get .DP_MSEED p, twenty)).1 = m
  generalize (d.last.getD (s.get .DP_MSEED p, twenty)).2 = tg
  have hd := parcelNew_dp p s d.nb m tg false false true
  have hw := rdWord_parcelNew p s d.nb m tg false false true
  have hf := frame_parcelNew (l := [(.DP_PARC, p)]) (M := M) p s d.nb m tg false false true (by simp) hM
  generalize parcelNew p d.nb m tg false false true s = x at hd hw hf
  have hx : ∀ r i, r ≠ .DP_PARC → x.get r i = s.get r i := fun r i h => hf.get (by simp [h])
  have hi : ∀ r i, r ≠ .DP_CNT → (x.incSat DP_CNT_NOMEAS p).get r i = x.get r i := fun r i h => get_put_reg h ..
  obtain ⟨k1, k2⟩ := dpCause_keeps p (x.incSat DP_CNT_NOMEAS p) 1 hp (by decide)
  have hn : ∀ r i, r ≠ .DP_OUT → (dpNewest p (dpCause p 1 (x.incSat DP_CNT_NOMEAS p))).get r i =
      (dpCause p 1 (x.incSat DP_CNT_NOMEAS p)).get r i := fun r i h => dpNewest_get _ _ i h
  have hp0 (e : Nat) (he : s.pends e = true) : (x.incSat DP_CNT_NOMEAS p).pends e = true := by
    rwa [pends_congr _ (hi _ _ (by decide)), pends_congr _ (hx _ _ (by decide))]
  have hv (k : Nat) : (dpNewest p (dpCause p 1 (x.incSat DP_CNT_NOMEAS p))).rbit .DP_EVT p k =
      (dpCause p 1 (x.incSat DP_CNT_NOMEAS p)).rbit .DP_EVT p k := congrArg (bitAt · k) (hn .DP_EVT p (by decide))
  have he (e : Nat) : (dpNewest p (dpCause p 1 (x.incSat DP_CNT_NOMEAS p))).pends e =
      (dpCause p 1 (x.incSat DP_CNT_NOMEAS p)).pends e := pends_congr _ (hn _ _ (by decide))
  refine ⟨?_, ?_, ?_, ?_, ?_, fun hm => ?_, fun k hk => ?_, fun e h => ?_⟩
  · have hfx : Frame (dpRegs p) M s x := ⟨hf.regs.mono (by simp), hf.mem, hf.tick, hf.resp⟩
    exact ((hfx.trans (frame_incSat x M DP_CNT_NOMEAS p (by simp [DP_CNT_NOMEAS]))).trans (frame_dpCause_path ..)).trans
      (dpNewest_holds ..).1
  · rw [dp_of_dps (dpNewest_holds p _ M).2, dp_of_dps (dpCause_dps ..), ← hd]
    rfl
  · refine ((dpNewest_holds p _ fun _ => false).1.rdWord _).trans (((frame_dpCause_path p _ _ 1).rdWord _).trans ?_)
    exact ((frame_incSat (l := [(.DP_CNT, p)]) x _ DP_CNT_NOMEAS p (by simp [DP_CNT_NOMEAS])).rdWord _).trans hw
  · have hc : (dpCause p 1 (x.incSat DP_CNT_NOMEAS p)).fld DP_CNT_NOMEAS p = (x.incSat DP_CNT_NOMEAS p).fld
      DP_CNT_NOMEAS p :=
      fld_of_get ((get_dpCause ..).trans (get_cause _ _ _ _ _ _ _ _ (by decide) (by decide) (by decide)))
    have h0 : x.fld DP_CNT_NOMEAS p = s.fld DP_CNT_NOMEAS p := fld_of_get (hx _ _ (by decide))
    rw [fld_of_get (hn _ _ (by decide)), hc, fld_incSat x DP_CNT_NOMEAS p, h0]
  · rw [hv]
    exact dpCause_rbit _ _ _ (by decide)
  · rw [he]
    refine dpCause_pends _ _ _ hp ?_
    rwa [rbit, hi _ _ (by decide), hx _ _ (by decide)]
  · rw [hv]
    refine k1 k ?_
    rwa [rbit, hi _ _ (by decide), hx _ _ (by decide)]
  · rw [he]
    exact k2 e (hp0 e h)

/-- With readings it takes their mean (R345). -/
theorem boundaryNew_read (d : Dp) {q : List (Int × Word × Option Word)} (hq : q.isEmpty = false)
    (hM : ∀ b, slotMem p (((s.dp p).top + 1) % 1024) b = true → M b = true) :
    Frame (dpRegs p) M s (boundaryNew p d q s) ∧
    (∃ tg, (boundaryNew p d q s).dp p = { s.dp p with
      col := (s.dp p).col ++ [s.topParcel p d.nb (meanOf (q.map (·.2.1))) tg false false false],
      top := ((s.dp p).top + 1) % 1024, seq := modInc 16 (s.dp p).seq, last := some (meanOf (q.map (·.2.1)), tg) }) ∧
    (∀ r i, r ≠ .DP_PARC → r ≠ .DP_OUT → (boundaryNew p d q s).get r i = s.get r i) := by
  unfold boundaryNew
  rw [hq, if_neg (by decide)]
  generalize s.meanTemp p (f32.sum (q.filterMap (·.2.2))) (q.filterMap (·.2.2)).length = tg
  have hf := frame_parcelNew (l := [(.DP_PARC, p)]) (M := M) p s d.nb (meanOf (q.map (·.2.1))) tg false false false
      (by simp) hM
  refine ⟨?_, ⟨tg, ?_⟩, fun r i h h' => ?_⟩
  · exact (Frame.mk (hf.regs.mono (by simp)) hf.mem hf.tick hf.resp).trans (dpNewest_holds ..).1
  · rw [dp_of_dps (dpNewest_holds p _ M).2, parcelNew_dp]
  · rw [dpNewest_get _ _ _ h', hf.get (by simp [h])]

end
end State
end Sys2Proof.Machine

end

section

/-!
Drying paths: the discharge records (R349, R353, R356).
-/

namespace Sys2Proof.Machine
open Kept State
namespace State

/-! ### An element put into a queue with room (R394) -/

section
variable (q t : Nat) (s : State) (w : List Word)

theorem qSetTail_cases : qSetTail q t s = qStat q (s.setFld Q_TAIL_INDEX q t) ∨
    qSetTail q t s = qCause q 0 (qStat q (s.setFld Q_TAIL_INDEX q t)) := by
  simp only [qSetTail]
  split
  · exact .inr rfl
  · exact .inl rfl

theorem cause_tick (er mr : Reg) (i b e : Nat) : (cause er mr i b e s).tick = s.tick := by
  simp only [cause]
  split <;> rfl

theorem frame_qSetTail (M : Nat → Bool) : Frame (qRegs q) M s (qSetTail q t s) ∧ (qSetTail q t s).dps = s.dps ∧
    (qSetTail q t s).qTail q = t % 65536 := by
  have h1 : (qStat q (s.setFld Q_TAIL_INDEX q t)).qTail q = t % 65536 := by
    rw [qTail, qStat_index _ _ _ (by decide), fld_setFld_same _ _ _ _ (by decide)]
    rfl
  refine ⟨frame_of_kept ?_ (qSetTail_kept ..) ?_, ?_, ?_⟩
  all_goals obtain h | h := qSetTail_cases q t s <;> rw [h]
  · simp [qRegs, Q_TAIL_INDEX]
  · simp [qRegs, qCause, Q_TAIL_INDEX]
  · rfl
  · exact cause_tick ..
  · rfl
  · exact cause_dps ..
  · exact h1
  · exact (fld_of_get (get_cause _ _ _ _ _ _ _ _ (by decide) (by decide) (by decide))).trans h1

theorem qOffer_roomy (h : s.roomy q = true) :
    qOffer q t (fun _ => w) s = qSetTail q ((s.qTail q + 1) % 65536) ((qSeqInc q s).wrWords (s.qNext q) w) := by
  rw [roomy, Bool.and_eq_true, decide_eq_true_eq] at h
  obtain ⟨he, hr⟩ := h
  have hraw : qOfferRaw q (fun _ => w) s = (qPut q w (qSeqInc q s), true) := by
    unfold qOfferRaw
    dsimp only
    rw [show (qSeqInc q s).flag Q_GEOM_EN q = true from he,
      if_neg (by decide), if_pos (show (qSeqInc q s).qFill q < (qSeqInc q s).qN q from hr)]
  rw [qOffer, hraw]
  rfl

theorem rdBytes_congr {s u : State} {a n : Nat} (h : ∀ b, a ≤ b → b < a + n → u.rdByte b = s.rdByte b) :
    u.rdBytes a n = s.rdBytes a n := by
  induction n generalizing a with
  | zero => rfl
  | succ n ih => rw [rdBytes, rdBytes, h a (by omega) (by omega), ih fun b h1 h2 => h b (by omega) (by omega)]

theorem wrBytes_append (l l' : List Byte) : ∀ (s : State) (a : Nat),
    s.wrBytes a (l ++ l') = (s.wrBytes a l).wrBytes (a + l.length) l' := by
  induction l with
  | nil => exact fun _ _ => rfl
  | cons b l ih =>
    intro s a
    rw [List.cons_append, wrBytes, wrBytes, ih, List.length_cons, Nat.add_assoc, Nat.add_comm 1]

theorem wrWords_eq_wrBytes (w : List Word) : ∀ (s : State) (a :
    Nat), s.wrWords a w = s.wrBytes a (w.flatMap wordBytes) := by
  induction w with
  | nil => exact fun _ _ => rfl
  | cons x w ih =>
    intro s a
    have hl : (wordBytes x).length = 4 := rfl
    rw [wrWords, ih, List.flatMap_cons, wrBytes_append, hl, wrWord]

/-- A queue with room takes the element. -/
theorem qOffer_takes (h : s.roomy q = true) (hw : 4 * w.length ≤ qSize q) :
    Frame (qRegs q) (s.inSlot q) s (qOffer q t (fun _ => w) s) ∧ (qOffer q t (fun _ => w) s).dps = s.dps ∧
      took q (w.flatMap wordBytes) s (qOffer q t (fun _ => w) s) := by
  rw [qOffer_roomy q t s w h]
  have h0 : Frame (qRegs q) (s.inSlot q) s (qSeqInc q s) := .of_regs (fun _ _ _ => rfl) rfl rfl rfl
  have h1 : Frame (qRegs q) (s.inSlot q) (qSeqInc q s) ((qSeqInc q s).wrWords (s.qNext q) w) := by
    refine .wrWords _ _ fun b hb hb' => ?_
    rw [inSlot, Bool.and_eq_true, decide_eq_true_eq, decide_eq_true_eq]
    omega
  obtain ⟨h2, h3, h4⟩ := frame_qSetTail q ((s.qTail q + 1) % 65536) ((qSeqInc q s).wrWords (s.qNext q) w) (s.inSlot q)
  obtain ⟨h5, -, -⟩ := frame_qSetTail q ((s.qTail q + 1) % 65536) ((qSeqInc q s).wrWords (s.qNext q) w) fun _ => false
  refine ⟨(h0.trans h1).trans h2, h3.trans (wrWords_dps ..), h4.trans (Nat.mod_mod _ _), ?_⟩
  rw [rdBytes_congr fun b _ _ => h5.mem b rfl, wrWords_eq_wrBytes]
  exact rdBytes_wrBytes ..

end

/-! ### The record (R356) -/

section
variable (p typ : Nat) (a : Parcel) (mOut : Option Word) (s : State)

/-- The words of a discharge record. -/
def outWords (s : State) (p typ : Nat) (a : Parcel) (mOut : Option Word) : List Word :=
  [BitVec.ofNat 32 (typ * 2 ^ 28 + p * 2 ^ 26 + (b2n a.seed * 16 + b2n a.filled * 8 + b2n a.noMeas * 4 + b2n
      mOut.isNone * 2 +
      b2n a.zl) * 2 ^ 21 + a.seq), loW s.T, hiW s.T, loW (unsig 48 (s.dpPos p)), hiW (unsig 48 (s.dpPos p)), a.mIn, a.m,
    mOut.getD f32.nan, s.get .DP_BIAS p, a.tgMax, BitVec.ofNat 32 a.steps, 0#32]

theorem dischargeRecord_eq : dischargeRecord p typ a mOut s =
    incMod (qOffer (46 + s.fld DP_CFG_Q p) s.T (fun _ => s.outWords p typ a mOut) s) DP_CNT_RECORDS p := rfl

variable {q : Nat} (hq : q = 46 + s.fld DP_CFG_Q p) (hroom : s.roomy q = true)
include hq hroom

/-- The record goes into the path's queue and is counted. -/
theorem dischargeRecord_holds : Frame ((.DP_CNT, p) :: qRegs q) (s.inSlot q) s (dischargeRecord p typ a mOut s) ∧
    (dischargeRecord p typ a mOut s).dps = s.dps ∧
    took q ((s.outWords p typ a mOut).flatMap wordBytes) s (dischargeRecord p typ a mOut s) ∧
    (dischargeRecord p typ a mOut s).fld DP_CNT_RECORDS p =
      (s.fld DP_CNT_RECORDS p + 1) % 2 ^ (DP_CNT_RECORDS.hi + 1 - DP_CNT_RECORDS.lo) := by
  have hsz : qSize q = 48 := by
    rw [hq]
    unfold qSize
    split_ifs <;> omega
  obtain ⟨h1, h2, h3, h4⟩ := qOffer_takes q s.T s (s.outWords p typ a mOut) hroom (by rw [hsz]; exact le_refl 48)
  rw [dischargeRecord_eq, ← hq]
  generalize qOffer q s.T (fun _ => s.outWords p typ a mOut) s = x at h1 h2 h3 h4
  have hc : x.fld DP_CNT_RECORDS p = s.fld DP_CNT_RECORDS p := h1.fld DP_CNT_RECORDS (by simp [qRegs, DP_CNT_RECORDS])
  have hi : Frame [(.DP_CNT, p)] (fun _ => false) x (incMod x DP_CNT_RECORDS p) :=
    .of_regs ((regsOnly_setFld (f := DP_CNT_RECORDS) (by simp [DP_CNT_RECORDS])).2 (regsOnly_refl _ x)) rfl rfl rfl
  refine ⟨?_, h2, ⟨?_, ?_⟩, ?_⟩
  · exact .trans ⟨h1.regs.mono fun r i hr => List.mem_cons_of_mem _ hr, h1.mem, h1.tick, h1.resp⟩
      ⟨hi.regs.mono (by simp), fun b _ => hi.mem b rfl, hi.tick, hi.resp⟩
  · exact (hi.fld Q_TAIL_INDEX (by simp [Q_TAIL_INDEX])).trans h3
  · exact (rdBytes_congr fun b _ _ => hi.mem b rfl).trans h4
  · rw [incMod, fld_setFld_same _ _ _ _ (by decide), hc]

end
end State
end Sys2Proof.Machine

end

section

/-!
Drying paths: the discharge of a parcel and of a batch (R349, R353, R356).
-/

namespace Sys2Proof.Machine
open Kept State
namespace State

theorem f32_not_le_of_lt {a b : Word} (h : f32.lt a b = true) : f32.le b a = false := by
  rw [f32.lt, Bool.and_eq_true] at h
  rw [f32.le, h.2, Bool.not_true, Bool.and_false]

/-- A frame within a longer list and more bytes. -/
theorem Frame.mono {l l' : List (Reg × Nat)} {M M' : Nat → Bool} {s t : State} (h : Frame l M s t)
    (hl : ∀ r i, (r, i) ∈ l → (r, i) ∈ l') (hM : ∀ b, M b = true → M' b = true) : Frame l' M' s t := by
  refine ⟨h.regs.mono hl, fun b hb => h.mem b ?_, h.tick, h.resp⟩
  rw [Bool.eq_false_iff] at hb ⊢
  exact mt (hM b) hb

/-- A queue's slot lies outside the stores of the paths. -/
def apart (s : State) (q : Nat) : Prop := s.qNext q + qSize q ≤ 0x01138000 ∨ 0x01178000 ≤ s.qNext q

theorem qSetTail_pends {q e : Nat} (t : Nat) (s : State) (hq : q < 48) (hp : s.pends e = true) :
    (qSetTail q t s).pends e = true := by
  have h0 : (qStat q (s.setFld Q_TAIL_INDEX q t)).pends e = true := by
    simp (disch := decide) only [qStat, pends_setFlag, pends_setFld, hp]
  have hb : ∀ j : Fin 4, (evtHome (228 + 4 * j)).2 < 32 := by decide
  obtain h | h := qSetTail_cases q t s <;> rw [h]
  · exact h0
  · exact cause_pends_of _ _ _ _ _ _ (by decide) (hb ⟨q / 12, by omega⟩) h0

section
variable {p q typ : Nat} {a : Parcel} {w : List Word} {s x t u : State}

/-! ### From the record to the slot's release -/

/-- A record of the words `w` is in the queue and counted, and nothing else has changed but the path's output 1. -/
structure Recorded (p q : Nat) (w : List Word) (s x : State) : Prop where
  frame : Frame ((.DP_CNT, p) :: (.DP_OUT, 4 * p + 1) :: qRegs q) (s.inSlot q) s x
  dps : x.dps = s.dps
  took : took q (w.flatMap wordBytes) s x
  count : x.fld DP_CNT_RECORDS p = (s.fld DP_CNT_RECORDS p + 1) % 2 ^ (DP_CNT_RECORDS.hi + 1 - DP_CNT_RECORDS.lo)
  pends : ∀ e, s.pends e = true → x.pends e = true

/-- The record's path has one of the two queues of discharge records. -/
theorem outQueue (hq : q = 46 + s.fld DP_CFG_Q p) : q < 48 ∧ qSize q = 48 := by
  have h : s.fld DP_CFG_Q p < 2 := bitsOf_lt ..
  refine ⟨by omega, ?_⟩
  rw [hq]
  unfold qSize
  split_ifs <;> omega

theorem recorded_dischargeRecord (mOut : Option Word) (hq : q = 46 + s.fld DP_CFG_Q p) (hroom : s.roomy q = true) :
    Recorded p q (s.outWords p typ a mOut) s (dischargeRecord p typ a mOut s) := by
  obtain ⟨h1, h2, h3, h4⟩ := dischargeRecord_holds p typ a mOut s hq hroom
  have hl (r : Reg) (i : Nat) (h : (r, i) ∈ (.DP_CNT, p) :: qRegs q) :
      (r, i) ∈ (.DP_CNT, p) :: (.DP_OUT, 4 * p + 1) :: qRegs q :=
    (List.mem_cons.1 h).elim (fun h => h ▸ List.mem_cons_self) fun h => List.mem_cons_of_mem _ (List.mem_cons_of_mem _ h)
  refine ⟨h1.mono hl fun _ h => h, h2, h3, h4, fun e he => ?_⟩
  rw [dischargeRecord_eq, ← hq, incMod, pends_setFld _ _ _ _ _ (by decide), qOffer_roomy _ _ _ _ hroom]
  refine qSetTail_pends _ _ (outQueue hq).1 ?_
  rwa [pends_congr e (get_wrWords ..)]

theorem Recorded.out (h : Recorded p q w s x) (v : Word) : Recorded p q w s (put4 .DP_OUT (4 * p + 1) v x) := by
  have hf : Frame [(.DP_OUT, 4 * p + 1)] (fun _ => false) x (put4 .DP_OUT (4 * p + 1) v x) :=
      frame_put4 x _ _ _ v (by simp)
  refine ⟨h.frame.trans (hf.mono (by simp) (by simp)), h.dps, ⟨?_, ?_⟩, ?_, fun e he => ?_⟩
  · exact (hf.fld Q_TAIL_INDEX (by simp [Q_TAIL_INDEX])).trans h.took.1
  · exact (rdBytes_congr fun b _ _ => hf.mem b rfl).trans h.took.2
  · exact (hf.fld DP_CNT_RECORDS (by simp [DP_CNT_RECORDS])).trans h.count
  · rw [pends_congr e (hf.get (by simp))]
    exact h.pends e he

/-- The registers of a release, and its bytes: the record's slot of the queue and the parcel's of the store. -/
def releaseRegs (p q : Nat) : List (Reg × Nat) :=
  (.DP_PARC, p) :: (.DP_STAT, p) :: (.DP_CNT, p) :: (.DP_OUT, 4 * p + 1) :: qRegs q
def outMem (s : State) (q p slot b : Nat) : Bool := s.inSlot q b || slotMem p slot b

/-- The record is in the queue, the parcel's slot is free. -/
structure Released (p q slot : Nat) (w : List Word) (s t : State) : Prop where
  frame : Frame (releaseRegs p q) (s.outMem q p slot) s t
  took : took q (w.flatMap wordBytes) s t
  count : t.fld DP_CNT_RECORDS p = (s.fld DP_CNT_RECORDS p + 1) % 2 ^ (DP_CNT_RECORDS.hi + 1 - DP_CNT_RECORDS.lo)
  pends : ∀ e, s.pends e = true → t.pends e = true
  free : t.rdWord (parcelAt p slot) = 0#32

/-- What the queue took stays while only a parcel's slot is written. -/
theorem took_of_slotMem {slot : Nat} {l : List Byte} (hp : p < 4) (hs : slot < 1024) (ha : s.apart q)
    (hl : l.length ≤ qSize q) (h : State.took q l s t) (hf : Frame [] (slotMem p slot) t u) : State.took q l s u := by
  refine ⟨(hf.fld Q_TAIL_INDEX (by simp)).trans h.1, (rdBytes_congr fun b h1 h2 => hf.mem b ?_).trans h.2⟩
  rw [Bool.eq_false_iff, Ne, slotMem_iff, parcelAt]
  unfold apart at ha
  omega

theorem Recorded.freed (h : Recorded p q w s x) (f : Dp → Dp) (hp : p < 4) (hs : a.slot < 1024) (ha : s.apart q)
    (hw : (w.flatMap wordBytes).length ≤ qSize q) : Released p q a.slot w s (parcelFree p a (x.modDp p f)) := by
  have hf : Frame [] (slotMem p a.slot) x (parcelFree p a (x.modDp p f)) :=
    (frame_modDp p x _ _ f).trans (frame_parcelFree p _ a fun _ h => h)
  refine ⟨?_, took_of_slotMem hp hs ha hw h.took hf, (hf.fld DP_CNT_RECORDS (by simp)).trans h.count, fun e he => ?_,
    rdWord_parcelFree ..⟩
  · refine (h.frame.mono ?_ fun b hb => ?_).trans (hf.mono (by simp) fun b hb => ?_)
    · exact fun r i hr => List.mem_cons_of_mem _ (List.mem_cons_of_mem _ hr)
    · exact Bool.or_eq_true_iff.2 (.inl hb)
    · exact Bool.or_eq_true_iff.2 (.inr hb)
  · rw [pends_congr e (hf.get (by simp))]
    exact h.pends e he

/-- The path's status and DP_PARC may follow. -/
theorem Released.andThen {slot : Nat} (h : Released p q slot w s t)
    (hf : Frame [(.DP_PARC, p), (.DP_STAT, p)] (fun _ => false) t u) : Released p q slot w s u := by
  have hl (r : Reg) (i : Nat) (h : (r, i) ∈ [(.DP_PARC, p), (.DP_STAT, p)]) : (r, i) ∈ releaseRegs p q :=
    (List.prefix_append _ _).subset h
  refine ⟨h.frame.trans (hf.mono hl (by simp)), ⟨?_, ?_⟩, ?_, fun e he => ?_,
    (hf.rdWord _).trans h.free⟩
  · exact (hf.fld Q_TAIL_INDEX (by simp [Q_TAIL_INDEX])).trans h.took.1
  · exact (rdBytes_congr fun b _ _ => hf.mem b rfl).trans h.took.2
  · exact (hf.fld DP_CNT_RECORDS (by simp [DP_CNT_RECORDS])).trans h.count
  · rw [pends_congr e (hf.get (by simp))]
    exact h.pends e he

theorem outWords_length (mOut : Option Word) : ((s.outWords p typ a mOut).flatMap wordBytes).length = 48 := rfl

theorem get_freed (p : Nat) (x : State) (a : Parcel) (f : Dp → Dp) {r : Reg} {i : Nat} (h : r ≠ .DP_PARC) :
    (parcShow p (parcelFree p a (x.modDp p f))).get r i = x.get r i := by
  have hf : Frame [(.DP_PARC, p)] (slotMem p a.slot) x (parcShow p (parcelFree p a (x.modDp p f))) :=
    ((frame_modDp p x _ _ f).trans (frame_parcelFree p _ a fun _ h => h)).trans (frame_parcShow p _ _ (by simp))
  exact hf.get (by simp [h])

/-! ### The discharge of a parcel (R349) -/

/-- The registers that a discharge writes. -/
def outRegs (p q : Nat) : List (Reg × Nat) := dpRegs p ++ [(.DP_BIAS, p)] ++ qRegs q

theorem dpRegs_outRegs {r : Reg} {i : Nat} (h : (r, i) ∈ dpRegs p) : (r, i) ∈ outRegs p q :=
  List.mem_append_left _ (List.mem_append_left _ h)

theorem releaseRegs_outRegs {r : Reg} {i : Nat} (h : (r, i) ∈ releaseRegs p q) : (r, i) ∈ outRegs p q := by
  simp only [releaseRegs, List.mem_cons, Prod.mk.injEq] at h
  obtain ⟨rfl, rfl⟩ | ⟨rfl, rfl⟩ | ⟨rfl, rfl⟩ | ⟨rfl, rfl⟩ | h := h
  · exact dpRegs_outRegs (by simp)
  · exact dpRegs_outRegs (by simp)
  · exact dpRegs_outRegs (by simp)
  · exact dpRegs_outRegs (by simp)
  · exact List.mem_append_right _ h

/-- What precedes the record of a discharge: its bias, or the cause of a parcel without reading. -/
def biasRegs (p : Nat) : List (Reg × Nat) := [(.DP_EVT, p), (.DP_BIAS, p)] ++ evtRegs (200 + p)

theorem biasRegs_outRegs {r : Reg} {i : Nat} (h : (r, i) ∈ biasRegs p) : (r, i) ∈ outRegs p q := by
  simp only [biasRegs, List.mem_append, List.mem_cons, Prod.mk.injEq, List.not_mem_nil, or_false] at h
  obtain (⟨rfl, rfl⟩ | ⟨rfl, rfl⟩) | h := h
  · exact dpRegs_outRegs (by simp)
  · exact List.mem_append_left _ (List.mem_append_right _ (List.mem_singleton.2 rfl))
  · exact dpRegs_outRegs (List.mem_append_right _ h)

theorem not_mem_biasRegs {r : Reg} (i : Nat) (h : r ∉ [Reg.DP_EVT, .DP_BIAS, .EVT_PEND, .EVT_RAW]) :
    (r, i) ∉ biasRegs p := by
  simp only [List.mem_cons, List.not_mem_nil, or_false, not_or] at h
  simp [biasRegs, h]

/-- It leaves the record's queue, its position and its clock. -/
theorem biased_keeps (h : Frame (biasRegs p) (fun _ => false) s t) : t.fld DP_CFG_Q p = s.fld DP_CFG_Q p ∧
    t.roomy q = s.roomy q ∧ t.qNext q = s.qNext q ∧ t.qTail q = s.qTail q ∧ t.dpPos p = s.dpPos p ∧ t.T = s.T := by
  have hf (f : Field) (i : Nat) (hr : f.reg ∉ [Reg.DP_EVT, .DP_BIAS, .EVT_PEND, .EVT_RAW] := by decide) :
      t.fld f i = s.fld f i := h.fld f (not_mem_biasRegs i hr)
  have hg (r : Reg) (i : Nat) (hr : r ∉ [Reg.DP_EVT, .DP_BIAS, .EVT_PEND, .EVT_RAW] := by decide) :
      t.get r i = s.get r i := h.get (not_mem_biasRegs i hr)
  refine ⟨hf DP_CFG_Q p, ?_, ?_, hf Q_TAIL_INDEX q, ?_, h.clockT⟩
  · rw [roomy, roomy, flag, flag, hf Q_GEOM_EN, qFill, qFill, qTail, qTail, hf Q_TAIL_INDEX, qHead, qHead,
      hf Q_HEAD_INDEX, qN, qN, hf Q_GEOM_LOG2N]
  · rw [qNext, qNext, qSlot, qSlot, qTail, qTail, hf Q_TAIL_INDEX, qN, qN, hf Q_GEOM_LOG2N, hg .Q_BASE]
  · rw [dpPos, dpPos, hf DP_CFG_AX]
    exact axPos_congr _ (hg ..) (hg ..)

/-- A discharge in full, from the state after its bias: the record, output 1, the parcel gone. -/
def discharged (p : Nat) (a : Parcel) (r : List Parcel) (mOut : Option Word) (s : State) : State :=
  parcShow p (parcelFree p a ((put4 .DP_OUT (4 * p + 1) (mOut.getD f32.nan) (dischargeRecord p 1 a mOut s)).modDp p
    fun d => { d with out := r }))

/-- The same with the state after its bias. -/
def dischargeBias (p : Nat) (a : Parcel) (mOut : Option Word) (s : State) : State :=
  match mOut with
  | some m => if a.seed then s else biasUpdate p a m s
  | none => dpCause p 2 s

/-- The mean of the parcel's outlet readings, if it had one. -/
def outletMean (s : State) (p : Nat) (a : Parcel) : Option Word :=
  if s.flag DP_SENS_OUT_EN p && a.outN != 0 then some (f32.div a.outSum (f32.ofInt a.outN)) else none

theorem dpDischarge_of_due {r : List Parcel} (h : s.dpOutletDue p = true) (ho : (s.dp p).out = a :: r) :
    dpDischarge p s = discharged p a r (s.outletMean p a) (dischargeBias p a (s.outletMean p a) s) := by
  rw [dpDischarge, if_pos h, ho]
  rfl

variable {r : List Parcel} {mOut : Option Word}

/-- The words of the record of a discharge, with the bias it meets. -/
theorem outWords_biased (h : Frame (biasRegs p) (fun _ => false) s t) : t.outWords p typ a mOut =
    [BitVec.ofNat 32 (typ * 2 ^ 28 + p * 2 ^ 26 + (b2n a.seed * 16 + b2n a.filled * 8 + b2n a.noMeas * 4 +
      b2n mOut.isNone * 2 + b2n a.zl) * 2 ^ 21 + a.seq), loW s.T, hiW s.T, loW (unsig 48 (s.dpPos p)),
      hiW (unsig 48 (s.dpPos p)), a.mIn, a.m, mOut.getD f32.nan, t.get .DP_BIAS p, a.tgMax, BitVec.ofNat 32 a.steps,
          0#32] := by
  obtain ⟨-, -, -, -, hx, ht⟩ := biased_keeps (q := 0) h
  rw [outWords, hx, ht]

theorem discharged_holds (h : Frame (biasRegs p) (fun _ => false) s t) (hp : p < 4) (hs : a.slot < 1024)
    (hq : q = 46 + s.fld DP_CFG_Q p) (hroom : s.roomy q = true) (ha : s.apart q) :
    Frame (outRegs p q) (s.outMem q p a.slot) s (discharged p a r mOut t) ∧
    ((discharged p a r mOut t).dp p).out = r ∧ (discharged p a r mOut t).get .DP_OUT (4 * p + 1) = mOut.getD f32.nan ∧
    (discharged p a r mOut t).get .DP_BIAS p = t.get .DP_BIAS p ∧ (discharged p a r mOut t).fld DP_CNT_RECORDS p =
      (s.fld DP_CNT_RECORDS p + 1) % 2 ^ (DP_CNT_RECORDS.hi + 1 - DP_CNT_RECORDS.lo) ∧
    (discharged p a r mOut t).get .DP_EVT p = t.get .DP_EVT p ∧
    (∀ e, t.pends e = true → (discharged p a r mOut t).pends e = true) ∧
    (discharged p a r mOut t).rdWord (parcelAt p a.slot) = 0#32 ∧
    took q ((t.outWords p 1 a mOut).flatMap wordBytes) s (discharged p a r mOut t) := by
  obtain ⟨kq, kr, kn, kt, -, -⟩ := biased_keeps (q := q) h
  have hq' : q = 46 + t.fld DP_CFG_Q p := by rw [kq, hq]
  have hr := (recorded_dischargeRecord (typ := 1) (a := a) mOut hq' (kr.trans hroom)).out (mOut.getD f32.nan)
  have hfr : Released p q a.slot (t.outWords p 1 a mOut) t (discharged p a r mOut t) := by
    refine (hr.freed (fun d => { d with out := r }) hp hs ?_ ?_).andThen (frame_parcShow p _ _ (by simp))
    · rwa [apart, kn]
    · rw [outWords_length, (outQueue hq').2]
  obtain ⟨g1, g2, g3, g4, g5⟩ := hfr
  have hM : t.outMem q p a.slot = s.outMem q p a.slot := by
    funext b
    rw [outMem, outMem, inSlot, inSlot, kn]
  rw [hM] at g1
  refine ⟨(h.mono (fun _ _ => biasRegs_outRegs) (by simp)).trans (g1.mono (fun _ _ => releaseRegs_outRegs) fun _ h => h),
    ?_, ?_, g1.get (by simp [releaseRegs, qRegs]), ?_, g1.get (by simp [releaseRegs, qRegs]), g4, g5, ?_⟩
  · rw [discharged, dp_of_dps (parcShow_dps ..), dp_of_dps (parcelFree_dps ..), dp_modDp]
  · exact (get_freed p _ a _ (by decide)).trans ((get_put4 ..).trans (if_pos ⟨rfl, rfl⟩))
  · rw [g3, h.fld DP_CNT_RECORDS (not_mem_biasRegs _ (by decide))]
  · rw [State.took, kn, kt] at g2
    exact g2

end
end State
end Sys2Proof.Machine

end

section

/-!
Drying paths: a batch that unloads (R353), and the movement with the axis (R344, R350).
-/

namespace Sys2Proof.Machine
open Kept State
namespace State

theorem each_unchanged {α : Type} {f : α → State → State} {x : List α} {s : State} (h : ∀ a ∈ x, f a s = s) :
    each x f s = s := by
  induction x with
  | nil => rfl
  | cons a x ih =>
    have hx := ih fun b hb => h b (List.mem_cons_of_mem _ hb)
    rw [each, List.foldl_cons, h a List.mem_cons_self]
    exact hx

/-! ### A batch that unloads (R353) -/

section
variable {p q : Nat} {a : Parcel} {r : List Parcel} {s : State}

/-- The bottom layer goes out with its record. -/
def unloaded (p : Nat) (a : Parcel) (r : List Parcel) (s : State) : State :=
  parcelFree p a ((dischargeRecord p 2 a none s).modDp p fun d => { d with col := r })

/-- After the last one the path fills again. -/
def unloadStep (p : Nat) (s : State) : State :=
  match (s.dp p).col with
  | a :: r =>
    parcShow p (if r.isEmpty then dpFill p (unloaded p a r s).T ((unloaded p a r s).modDp p fun d => { d with last :=
        none })
      else unloaded p a r s)
  | [] => dpFill p s.T s

theorem dpUnloadPhase_eq : dpUnloadPhase s = each (pick 4 fun p => s.dpState p == 3) unloadStep s := rfl

theorem dpUnloadPhase_one {p : Fin 4} (h : s.dpState p = 3) (ho : ∀ x : Fin 4, x ≠ p → s.dpState x ≠ 3) :
    dpUnloadPhase s = unloadStep p s := by
  have hp : (pick 4 fun x => s.dpState x == 3) = pick 4 fun x => x == p.val := by
    refine List.filter_congr fun x hx => ?_
    by_cases hxp : x = p.val
    · rw [hxp, h, beq_self_eq_true, beq_self_eq_true]
    · rw [beq_false_of_ne hxp, beq_false_of_ne (ho ⟨x, List.mem_range.1 hx⟩ fun he => hxp (congrArg Fin.val he))]
  have h1 : ∀ p : Fin 4, (pick 4 fun x => x == p.val) = [p.val] := by decide
  rw [dpUnloadPhase_eq, hp, h1]
  rfl

theorem dpState_parcShow : (parcShow p s).dpState p = s.dpState p :=
  (frame_parcShow (l := [(.DP_PARC, p)]) p s (fun _ => false) (by simp)).fld DP_STAT_STATE (by simp [DP_STAT_STATE])

theorem frame_dpFill (t : Nat) : Frame [(.DP_STAT, p)] (fun _ => false) s (dpFill p t s) := by
  refine .of_regs ?_ rfl rfl rfl
  unfold dpFill
  rw [regsOnly_modDp, regsOnly_setFld (by simp [DP_STAT_STATE])]
  exact regsOnly_refl _ s

theorem unloadStep_holds (hp : p < 4) (h : s.dpState p = 3) (hc : (s.dp p).col = a :: r) (hs : a.slot < 1024)
    (hq : q = 46 + s.fld DP_CFG_Q p) (hroom : s.roomy q = true) (ha : s.apart q) :
    ((unloadStep p s).dp p).col = r ∧ (unloadStep p s).dpState p = (if r = [] then 1 else 3) ∧
      Released p q a.slot (s.outWords p 2 a none) s (unloadStep p s) := by
  have hr := recorded_dischargeRecord (typ := 2) (a := a) none hq hroom
  have hf : Released p q a.slot (s.outWords p 2 a none) s (unloaded p a r s) :=
    hr.freed (fun d => { d with col := r }) hp hs ha (by rw [outWords_length, (outQueue hq).2])
  have hd : ((unloaded p a r s).dp p).col = r := by rw [unloaded, dp_of_dps (parcelFree_dps ..), dp_modDp]
  have hst : (unloaded p a r s).dpState p = 3 := by
    have h1 : (unloaded p a r s).get .DP_STAT p = (dischargeRecord p 2 a none s).get .DP_STAT p :=
      get_wrWords _ _ [0#32] _ (parcelAt p a.slot)
    refine (fld_of_get h1).trans (.trans ?_ h)
    exact hr.frame.fld DP_STAT_STATE (by simp [DP_STAT_STATE, qRegs])
  unfold unloadStep
  rw [hc]
  dsimp only
  generalize unloaded p a r s = x at hf hd hst
  rw [dp_of_dps (parcShow_dps ..), dpState_parcShow]
  have hsh (y : State) : Frame [(.DP_PARC, p), (.DP_STAT, p)] (fun _ => false) y (parcShow p y) :=
      frame_parcShow p _ _ (by simp)
  cases r with
  | nil =>
    obtain ⟨-, h1, b, h2⟩ := dpFill_holds p (x.modDp p fun d => { d with last := none }) (fun _ => false) x.T
    refine ⟨?_, h1, hf.andThen (Frame.trans ?_ (hsh _))⟩
    · rw [if_pos List.isEmpty_nil, h2, dp_modDp, ← hd]
    · exact ((frame_modDp p x _ _ fun d => { d with last := none }).trans (frame_dpFill _)).mono (by simp) (by simp)
  | cons b r => exact ⟨hd, hst, hf.andThen (hsh _)⟩

end

/-! ### Movement (R344) -/

section
variable {p : Nat} {s t u : State}

/-- One path's forward maximum and REV. -/
def trackStep (p : Nat) (s : State) : State :=
  if diff48 (s.dpPos p) (s.dp p).fmax < 0 then
    if s.flag DP_STAT_REV p then s else dpCause p 3 (s.setFlag DP_STAT_REV p true)
  else if 0 < diff48 (s.dpPos p) (s.dp p).fmax then
    (s.setFlag DP_STAT_REV p false).modDp p fun q => { q with fmax := s.dpPos p }
  else s

/-- Whether a path moves with its axis. -/
def tracks (s : State) (p : Nat) : Bool := s.dpEn p && s.dpState p == 2 && !s.dpBatch p

theorem dpTrack_eq : dpTrack s =
    each (pick 4 (each (List.range 4) dpEnter s).tracks) trackStep (each (List.range 4) dpEnter s) := rfl

theorem dpEnter_none (h : (s.dp p).enter = 0) : dpEnter p s = s := by
  rw [dpEnter, h]
  rfl

theorem dpTrack_steady (h : ∀ x : Fin 4, (s.dp x).enter = 0) : dpTrack s = each (pick 4 s.tracks) trackStep s := by
  have he : each (List.range 4) dpEnter s = s :=
    each_unchanged fun x hx => dpEnter_none (h ⟨x, List.mem_range.1 hx⟩)
  rw [dpTrack_eq, he]

/-- The registers of one path's movement, and those of all. -/
def trackRegs (p : Nat) : List (Reg × Nat) := ofInst [.DP_STAT, .DP_EVT] p ++ evtRegs (200 + p)
def tracksRegs : List (Reg × Nat) :=
  ofAll [.DP_STAT, .DP_EVT] 4 ++ evtRegs 200 ++ evtRegs 201 ++ evtRegs 202 ++ evtRegs 203

theorem trackRegs_subset : ∀ p : Fin 4, trackRegs p ⊆ tracksRegs := by decide

theorem frame_setRev (b : Bool) : Frame (trackRegs p) (fun _ => false) s (s.setFlag DP_STAT_REV p b) :=
  .of_regs ((regsOnly_setFlag (by simp [trackRegs, DP_STAT_REV])).2 (regsOnly_refl _ s)) rfl rfl rfl

theorem frame_trackStep : Frame (trackRegs p) (fun _ => false) s (trackStep p s) := by
  unfold trackStep
  split_ifs
  · exact .refl ..
  · exact (frame_setRev true).trans (frame_dpCause p _ _ 3 (by simp [trackRegs]) (by simp [trackRegs]) (by simp
      [trackRegs]))
  · exact (frame_setRev false).trans (frame_modDp ..)
  · exact .refl ..

theorem only_dpTrack (h : ∀ x : Fin 4, (s.dp x).enter = 0) : State.only tracksRegs s (dpTrack s) := by
  have hf : Frame tracksRegs (fun _ => false) s (dpTrack s) := by
    rw [dpTrack_steady h]
    refine Frame.each (fun x hx u => frame_trackStep.mono (fun r i hr => ?_) (by simp)) s
    exact trackRegs_subset ⟨x, List.mem_range.1 (List.mem_filter.1 hx).1⟩ hr
  exact ⟨hf.regs, fun a => hf.mem a rfl⟩

/-- What is path `p`'s, and what is no path's, stays; what is pending stays so. -/
structure SamePath (p : Nat) (s t : State) : Prop where
  dp : t.dp p = s.dp p
  get : ∀ r, r ≠ .EVT_PEND → r ≠ .EVT_RAW → t.get r p = s.get r p
  pos : t.dpPos p = s.dpPos p
  pends : ∀ e, s.pends e = true → t.pends e = true

theorem SamePath.refl (p : Nat) (s : State) : SamePath p s s := ⟨rfl, fun _ _ _ => rfl, rfl, fun _ h => h⟩

theorem SamePath.trans (h : SamePath p s t) (h' : SamePath p t u) : SamePath p s u :=
  ⟨h'.dp.trans h.dp, fun r h1 h2 => (h'.get r h1 h2).trans (h.get r h1 h2), h'.pos.trans h.pos,
    fun e he => h'.pends e (h.pends e he)⟩

theorem trackStep_dps_ne {x : Nat} (h : p ≠ x) : (trackStep x s).dp p = s.dp p := by
  unfold trackStep
  split_ifs
  · rfl
  · exact dp_of_dps (dpCause_dps ..) p
  · exact dp_modDp_ne _ _ h _
  · rfl

theorem trackStep_pends (e : Nat) (hp : p < 4) (h : s.pends e = true) : (trackStep p s).pends e = true := by
  have hr (b : Bool) : (s.setFlag DP_STAT_REV p b).pends e = true := by rwa [pends_setFlag _ _ _ _ _ (by decide)]
  unfold trackStep
  split_ifs
  · exact h
  · exact (dpCause_keeps p _ 3 hp (by decide)).2 e (hr true)
  · exact hr false
  · exact h

theorem trackStep_samePath {x : Nat} (hx : x < 4) (h : p ≠ x) : SamePath p s (trackStep x s) := by
  have hf := frame_trackStep (p := x) (s := s)
  refine ⟨trackStep_dps_ne h, fun r h1 h2 => hf.get (by simp [trackRegs, h, h1, h2]), ?_, fun e => trackStep_pends e hx⟩
  rw [dpPos, dpPos, hf.fld DP_CFG_AX (by simp [trackRegs, DP_CFG_AX])]
  exact axPos_congr _ (hf.get (by simp [trackRegs])) (hf.get (by simp [trackRegs]))

theorem samePath_each {l : List Nat} (h : ∀ x ∈ l, x < 4 ∧ p ≠ x) (s : State) :
    SamePath p s (each l trackStep s) := by
  induction l generalizing s with
  | nil => exact .refl p s
  | cons x l ih =>
    obtain ⟨h1, h2⟩ := h x List.mem_cons_self
    exact (trackStep_samePath h1 h2).trans (ih (fun y hy => h y (List.mem_cons_of_mem _ hy)) _)

/-- A path that moves meets its step as it stands, and is left as its step leaves it. -/
theorem dpTrack_inside (hp : p < 4) (h : ∀ x : Fin 4, (s.dp x).enter = 0) (ht : s.tracks p = true) :
    ∃ v, SamePath p s v ∧ SamePath p (trackStep p v) (dpTrack s) := by
  have hlt : ∀ x ∈ pick 4 s.tracks, x < 4 := fun x hx => List.mem_range.1 (List.mem_filter.1 hx).1
  have hnd : (pick 4 s.tracks).Nodup := List.nodup_range.filter _
  obtain ⟨l, l', hl⟩ := List.append_of_mem (mem_pick.2 ⟨hp, ht⟩)
  rw [hl] at hlt hnd
  obtain ⟨-, hnd', hne⟩ := List.nodup_append.1 hnd
  have hne' := (List.nodup_cons.1 hnd').1
  rw [dpTrack_steady h, hl, each, List.foldl_append, List.foldl_cons]
  refine ⟨each l trackStep s, samePath_each (fun x hx => ⟨hlt x (List.mem_append_left _ hx), ?_⟩) s,
    samePath_each (fun x hx => ⟨hlt x (List.mem_append_right _ (List.mem_cons_of_mem _ hx)), ?_⟩) _⟩
  · exact Ne.symm (hne x hx p List.mem_cons_self)
  · rintro rfl
    exact hne' hx

theorem SamePath.flag (h : SamePath p s t) (f : Field) (h1 : f.reg ≠ .EVT_PEND) (h2 : f.reg ≠ .EVT_RAW) :
    t.flag f p = s.flag f p := by rw [State.flag, State.flag, fld_of_get (h.get _ h1 h2)]

/-- Below its forward maximum a path runs backwards (R344). -/
theorem dpTrack_back (hp : p < 4) (h : ∀ x : Fin 4, (s.dp x).enter = 0) (ht : s.tracks p = true)
    (hd : diff48 (s.dpPos p) (s.dp p).fmax < 0) : (dpTrack s).flag DP_STAT_REV p = true ∧ (dpTrack s).dp p = s.dp p ∧
    (s.flag DP_STAT_REV p = false → (dpTrack s).rbit .DP_EVT p 3 = true ∧
      (s.rbit .DP_EVT_MASK p 3 = true → (dpTrack s).pends (200 + p) = true)) := by
  obtain ⟨v, hv, hv'⟩ := dpTrack_inside hp h ht
  have hrev : v.flag DP_STAT_REV p = s.flag DP_STAT_REV p := hv.flag _ (by decide) (by decide)
  have hmask : v.rbit .DP_EVT_MASK p 3 = s.rbit .DP_EVT_MASK p 3 :=
    congrArg (bitAt · 3) (hv.get .DP_EVT_MASK (by decide) (by decide))
  have hs : trackStep p v = if v.flag DP_STAT_REV p then v else dpCause p 3 (v.setFlag DP_STAT_REV p true) := by
    rw [trackStep, hv.pos, hv.dp, if_pos hd]
  rw [hs, hrev] at hv'
  rw [hv'.flag _ (by decide) (by decide), hv'.dp]
  by_cases hr : s.flag DP_STAT_REV p = true
  · rw [if_pos hr]
    exact ⟨hrev.trans hr, hv.dp, fun h => by rw [hr] at h; cases h⟩
  · rw [if_neg hr] at hv' ⊢
    refine ⟨?_, (dp_of_dps (dpCause_dps ..) p).trans hv.dp, fun _ => ⟨?_, fun hm => ?_⟩⟩
    · have hf : (dpCause p 3 (v.setFlag DP_STAT_REV p true)).fld DP_STAT_REV p = (v.setFlag DP_STAT_REV p true).fld
        DP_STAT_REV p :=
        fld_of_get ((get_dpCause ..).trans (get_cause _ _ _ _ _ _ _ _ (by decide) (by decide) (by decide)))
      rw [State.flag, hf]
      exact flag_setFlag_same _ _ _ _
    · refine (congrArg (bitAt · 3) (hv'.get .DP_EVT (by decide) (by decide))).trans ?_
      exact dpCause_rbit _ _ _ (by decide)
    · refine hv'.pends _ (dpCause_pends _ _ _ hp ?_)
      exact (congrArg (bitAt · 3) (get_setFld_other _ _ _ _ _ _ (by decide))).trans (hmask.trans hm)

/-- Above it the forward maximum follows (R344). -/
theorem dpTrack_forward (hp : p < 4) (h : ∀ x : Fin 4, (s.dp x).enter = 0) (ht : s.tracks p = true)
    (hd : 0 < diff48 (s.dpPos p) (s.dp p).fmax) : (dpTrack s).flag DP_STAT_REV p = false ∧
    (dpTrack s).dp p = { s.dp p with fmax := s.dpPos p } := by
  obtain ⟨v, hv, hv'⟩ := dpTrack_inside hp h ht
  have hs : trackStep p v = (v.setFlag DP_STAT_REV p false).modDp p fun q => { q with fmax := s.dpPos p } := by
    rw [trackStep, hv.pos, hv.dp, if_neg (by omega), if_pos hd]
  rw [hs] at hv'
  rw [hv'.flag _ (by decide) (by decide), hv'.dp, dp_modDp]
  refine ⟨?_, ?_⟩
  · rw [State.flag, fld_of_get (get_modDp ..)]
    exact flag_setFlag_same v DP_STAT_REV p false
  · rw [dp_of_dps (t := v.setFlag DP_STAT_REV p false) (s := v) rfl, hv.dp]

end

/-! ### The entry into RUN by FULL (R351) -/

theorem dpEnter_full {p : Nat} {s : State} (he : s.dpEn p = true) (hs : s.dpState p = 1) (h : (s.dp p).enter = 1) :
    dpEnter p s = dpFillEnd p s.T s := by
  rw [dpEnter, h]
  exact if_pos (by rw [he, hs]; rfl)

end State
end Sys2Proof.Machine

end

section

/-!
Drying paths: what a due boundary does (R344, R345).
-/

namespace Sys2Proof.Machine
open Kept State
namespace State
section
variable {p : Nat} {s : State}

/-- The boundary as it stands before its new parcel. -/
def boundaryReady (p : Nat) (s : State) : State :=
  boundaryTake p (s.dp p).nb (boundaryLeave p (s.dp p) (boundaryMark p s))

theorem dpBoundary_ready (h : s.dpBoundaryDue p = true) :
    dpBoundary p s = boundaryNew p (s.dp p) (s.boundaryReads p) (boundaryReady p s) := dpBoundary_of_due p s h

theorem boundaryCount_ne (h : (s.dp p).nbTick ≠ s.tick ∨ (s.dp p).nbN ≠ 4) : s.boundaryCount p ≠ 5 := by
  unfold boundaryCount
  split_ifs with ht
  · have := h.resolve_left (not_not_intro ht)
    omega
  · decide

theorem boundaryCount_five (ht : (s.dp p).nbTick = s.tick) (hn : (s.dp p).nbN = 4) : s.boundaryCount p = 5 := by
  rw [boundaryCount, if_pos ht, hn]

/-- With room in the column. -/
theorem boundaryReady_room {l : List (Reg × Nat)} {d : Dp} (hf : Frame l (fun _ => false) s (boundaryMark p s))
    (hl : (.DP_GEOM, p) ∉ l) (hd : (boundaryMark p s).dp p = d) (hr : (s.dp p).col.length < s.dpN p) :
    Frame l (fun _ => false) s (boundaryReady p s) ∧ (boundaryReady p s).dp p =
      { d with ins := d.ins.filter fun e => decide (0 ≤ diff48 e.1 (s.dp p).nb) } := by
  unfold boundaryReady
  rw [boundaryLeave_room _ _ (by rwa [(dpVp_frame p hf hl).2.2])]
  exact ⟨hf.trans (frame_modDp ..), (dp_modDp ..).trans (by rw [hd])⟩

/-- No reading since the last boundary: the parcel takes the last values (R345). -/
theorem dpBoundary_blind (hp : p < 4) (hdue : s.dpBoundaryDue p = true) (hi : (s.dp p).ins = [])
    (hr : (s.dp p).col.length < s.dpN p) (hn : (s.dp p).nbTick ≠ s.tick ∨ (s.dp p).nbN ≠ 4) :
    Frame (dpRegs p) (slotMem p (((s.dp p).top + 1) % 1024)) s (dpBoundary p s) ∧
    (∃ n, (dpBoundary p s).dp p = { s.dp p with
      col := (s.dp p).col ++ [s.topParcel p (s.dp p).nb ((s.dp p).last.getD (s.get .DP_MSEED p, twenty)).1
        ((s.dp p).last.getD (s.get .DP_MSEED p, twenty)).2 false false true],
      nb := wrap48 ((s.dp p).nb + litres (s.dpVp p)), nbTick := s.tick, nbN := n, ins := [],
      top := ((s.dp p).top + 1) % 1024, seq := modInc 16 (s.dp p).seq,
      last := some ((s.dp p).last.getD (s.get .DP_MSEED p, twenty)) }) ∧
    (dpBoundary p s).rdWord (parcelAt p (((s.dp p).top + 1) % 1024) + 12) =
      ((s.dp p).last.getD (s.get .DP_MSEED p, twenty)).1 ∧
    (dpBoundary p s).fld DP_CNT_NOMEAS p =
      min (s.fld DP_CNT_NOMEAS p + 1) (2 ^ (DP_CNT_NOMEAS.hi + 1 - DP_CNT_NOMEAS.lo) - 1) ∧
    (dpBoundary p s).rbit .DP_EVT p 1 = true ∧
    (s.rbit .DP_EVT_MASK p 1 = true → (dpBoundary p s).pends (200 + p) = true) := by
  have hq : s.boundaryReads p = [] := by rw [boundaryReads, hi, List.filter_nil]
  obtain ⟨hf, hd⟩ := boundaryMark_kept p s (fun _ => false) [] (boundaryCount_ne hn)
  obtain ⟨hf0, hd0⟩ := boundaryReady_room hf (by simp) hd hr
  rw [dpBoundary_ready hdue, hq]
  have hms : (boundaryReady p s).get .DP_MSEED p = s.get .DP_MSEED p := hf0.get (by simp)
  have hcnt : (boundaryReady p s).fld DP_CNT_NOMEAS p = s.fld DP_CNT_NOMEAS p := hf0.fld _ (by simp)
  have hmask : (boundaryReady p s).rbit .DP_EVT_MASK p 1 = s.rbit .DP_EVT_MASK p 1 :=
    congrArg (bitAt · 1) (hf0.get (by simp))
  have htop : ((boundaryReady p s).dp p).top = (s.dp p).top := by rw [hd0]
  obtain ⟨g1, g2, g3, g4, g5, g6, -, -⟩ := boundaryNew_blind p (boundaryReady p s)
    (slotMem p (((s.dp p).top + 1) % 1024)) (s.dp p) hp (fun b hb => by rwa [htop] at hb)
  rw [hms] at g2 g3
  rw [htop] at g3
  rw [hcnt] at g4
  rw [hmask] at g6
  refine ⟨(hf0.mono (by simp) (by simp)).trans g1, ⟨s.boundaryCount p, ?_⟩, g3, g4, g5, g6⟩
  rw [g2, topParcel, hd0, topParcel]
  simp only [hi, List.filter_nil]

/-- The bytes of the parcel that leaves and of the new one. -/
def boundaryMem (s : State) (p : Nat) (a : Parcel) (b : Nat) : Bool :=
  slotMem p a.slot b || slotMem p (((s.dp p).top + 1) % 1024) b

/-- The bottom parcel of a full column leaves, and a reading gives the new one its moisture (R344, R345). -/
theorem dpBoundary_read {a : Parcel} {r : List Parcel} {x : Int} {y : Word} (hdue : s.dpBoundaryDue p = true)
    (hc : (s.dp p).col = a :: r) (hfull : s.dpN p ≤ r.length + 1) (hi : (s.dp p).ins = [(x, y, none)])
    (hlo : 0 ≤ diff48 x (wrap48 ((s.dp p).nb - litres (s.dpVp p)))) (hhi : diff48 x (s.dp p).nb < 0)
    (hn : (s.dp p).nbTick ≠ s.tick ∨ (s.dp p).nbN ≠ 4) :
    Frame (dpRegs p) (s.boundaryMem p a) s (dpBoundary p s) ∧
    (∃ n ins tg, (dpBoundary p s).dp p = { s.dp p with
      col := r ++ [s.topParcel p (s.dp p).nb (meanOf [y]) tg false false false],
      out := (s.dp p).out ++ [{ a with dis := true }],
      nb := wrap48 ((s.dp p).nb + litres (s.dpVp p)), nbTick := s.tick, nbN := n, ins := ins,
      top := ((s.dp p).top + 1) % 1024, seq := modInc 16 (s.dp p).seq, last := some (meanOf [y], tg) }) ∧
    (dpBoundary p s).fld DP_CNT_NOMEAS p = s.fld DP_CNT_NOMEAS p := by
  have hq : s.boundaryReads p = [(x, y, none)] := by
    rw [boundaryReads, hi, List.filter_cons_of_pos, List.filter_nil]
    rw [Bool.and_eq_true, decide_eq_true_eq, decide_eq_true_eq]
    exact ⟨hlo, hhi⟩
  obtain ⟨hf, hd⟩ := boundaryMark_kept p s (s.boundaryMem p a) [] (boundaryCount_ne hn)
  obtain ⟨hf1, hd1⟩ := boundaryLeave_full p (boundaryMark p s) (s.boundaryMem p a) [] hc (by rwa [(dpVp_frame p hf
      (by simp)).2.2])
    fun b hb => Bool.or_eq_true_iff.2 (.inl hb)
  have hd0 : (boundaryReady p s).dp p = { (boundaryLeave p (s.dp p) (boundaryMark p s)).dp p with
      ins := ((boundaryLeave p (s.dp p) (boundaryMark p s)).dp p).ins.filter fun e =>
        decide (0 ≤ diff48 e.1 (s.dp p).nb) } := dp_modDp ..
  rw [hd1, hd] at hd0
  have hf0 : Frame [] (s.boundaryMem p a) s (boundaryReady p s) := by
    unfold boundaryReady boundaryTake
    exact (hf.trans hf1).trans (frame_modDp ..)
  have htop : ((boundaryReady p s).dp p).top = (s.dp p).top := by rw [hd0]
  rw [dpBoundary_ready hdue, hq]
  obtain ⟨g1, ⟨tg, g2⟩, g3⟩ := boundaryNew_read p (boundaryReady p s) (s.boundaryMem p a) (s.dp p) (q :=
      [(x, y, none)]) rfl
    fun b hb => Bool.or_eq_true_iff.2 (.inr (by rwa [htop] at hb))
  refine ⟨(hf0.mono (by simp) fun _ h => h).trans g1, ⟨s.boundaryCount p,
      (s.dp p).ins.filter fun e => decide (0 ≤ diff48 e.1 (s.dp p).nb), tg, ?_⟩, ?_⟩
  · rw [g2, topParcel, hd0, topParcel]
    rfl
  · exact (fld_of_get (g3 _ _ (by decide) (by decide))).trans (hf0.fld DP_CNT_NOMEAS (by simp))

/-- The fifth boundary of a tick departs from the promise (R33). -/
theorem dpBoundary_fifth (hp : p < 4) (hdue : s.dpBoundaryDue p = true) (hr : (s.dp p).col.length < s.dpN p)
    (ht : (s.dp p).nbTick = s.tick) (hn : (s.dp p).nbN = 4) :
    Frame (dpRegs p ++ [(.MOD_FAULT, 0)]) (slotMem p (((s.dp p).top + 1) % 1024)) s (dpBoundary p s) ∧
    (dpBoundary p s).flag MOD_FAULT_PROMISE 0 = true ∧ (dpBoundary p s).rbit .DP_EVT p 8 = true ∧
    (s.rbit .DP_EVT_MASK p 8 = true → (dpBoundary p s).pends (200 + p) = true) ∧ ((dpBoundary p s).dp p).nbN = 5 := by
  obtain ⟨hf, hd, hpr, hrb, hpe⟩ := boundaryMark_departed p s (fun _ => false) hp (boundaryCount_five ht hn)
  obtain ⟨hf0, hd0⟩ := boundaryReady_room hf (by simp) hd hr
  have h8 : (boundaryReady p s).flag MOD_FAULT_PROMISE 0 = true ∧ (boundaryReady p s).rbit .DP_EVT p 8 = true ∧
      (s.rbit .DP_EVT_MASK p 8 = true → (boundaryReady p s).pends (200 + p) = true) := by
    rw [boundaryReady, boundaryLeave_room _ _ (by rwa [(dpVp_frame p hf (by simp)).2.2])]
    exact ⟨hpr, hrb, hpe⟩
  have htop : ((boundaryReady p s).dp p).top = (s.dp p).top := by rw [hd0]
  have hnbN : ((boundaryReady p s).dp p).nbN = 5 := by rw [hd0]
  rw [dpBoundary_ready hdue]
  generalize boundaryReady p s = x at hf0 h8 htop hnbN
  obtain ⟨e1, e2, e3⟩ := h8
  have hfx := hf0.mono (M' := slotMem p (((s.dp p).top + 1) % 1024)) (fun _ _ h => h) (by simp)
  have hout (t : State) (h : Frame (dpRegs p) (slotMem p (((s.dp p).top + 1) % 1024)) x t) :
      Frame (dpRegs p ++ [(.MOD_FAULT, 0)]) (slotMem p (((s.dp p).top + 1) % 1024)) s t ∧
        t.flag MOD_FAULT_PROMISE 0 = true :=
    ⟨hfx.trans (h.mono (fun _ _ h => List.mem_append_left _ h) fun _ h => h),
      by
      rw [flag, h.fld MOD_FAULT_PROMISE (by simp [ MOD_FAULT_PROMISE])]
      exact e1⟩
  cases hq : (s.boundaryReads p).isEmpty
  case true =>
    rw [List.isEmpty_iff.1 hq]
    obtain ⟨g1, g2, -, -, -, -, g3, g4⟩ := boundaryNew_blind p x (slotMem p (((s.dp p).top + 1) % 1024)) (s.dp p) hp
      fun b hb => by rwa [htop] at hb
    exact ⟨(hout _ g1).1, (hout _ g1).2, g3 8 e2, fun hm => g4 _ (e3 hm), by rw [g2]; exact hnbN⟩
  case false =>
    obtain ⟨g1, ⟨tg, g2⟩, g3⟩ := boundaryNew_read p x (slotMem p (((s.dp p).top + 1) % 1024)) (s.dp p) hq
      fun b hb => by rwa [htop] at hb
    refine ⟨(hout _ g1).1, (hout _ g1).2, ?_, fun hm => ?_, by rw [g2]; exact hnbN⟩
    · exact (congrArg (bitAt · 8) (g3 .DP_EVT p (by decide) (by decide))).trans e2
    · rw [pends_congr _ (g3 _ _ (by decide) (by decide))]
      exact e3 hm

end
end State
end Sys2Proof.Machine

end

section

/-!
Drying paths: O23 settled, each command and work by what it leaves.
-/

namespace Sys2Proof.Machine
open Kept State

/-- A work that is a function of the model, and stores to memory. -/
theorem actsTo_of {x : Instr} {f : State → State} {ok : State → Prop} {l : List (Reg × Nat)} {p : State → Nat → Bool}
    {eff : State → State → Prop} (he : ∀ s, exec x s = .next (f s.begin')) (h :
        ∀ u, ok u → Frame l (p u) u (f u) ∧ eff u (f u)) :
    ActsTo x ok l p eff := by
  intro s ho
  obtain ⟨hf, heff⟩ := h _ ho
  exact ⟨_, he s, hf.resp.trans (begin'_resp s), hf.onlyBut, heff⟩

/-- A work that finds nothing to do. -/
theorem acts_idle {x : Instr} {f : State → State} {ok : State → Prop} (he : ∀ s, exec x s = .next (f s.begin'))
    (h : ∀ u, ok u → f u = u) : Acts x ok [] fun u t => t.dps = u.dps :=
  acts_of he fun u ho => by rw [h u ho]; exact ⟨regsOnly_refl _ u, rfl, rfl⟩

namespace State
section
variable {p q : Nat} {a : Parcel} {r : List Parcel} {s : State}

/-! ### The discharge without and with an outlet reading (R349) -/

/-- The bias that a reading leads to while it stays within its limit. -/
def biasOf (s : State) (p : Nat) (a : Parcel) : Word :=
  f32.add (s.get .DP_BIAS p) (f32.mul (f32.sub (f32.sub (f32.div a.outSum (f32.ofInt a.outN)) a.m) (s.get .DP_BIAS p))
    (f32.ofScaled 1 (s.fld DP_BIASCFG_BK p)))

theorem dpDischarge_unread (h : s.dpOutletDue p = true) (ho : (s.dp p).out = a :: r) (hs :
    s.flag DP_SENS_OUT_EN p = false) :
    dpDischarge p s = discharged p a r none (dpCause p 2 s) := by
  have hm : s.outletMean p a = none := by rw [outletMean, hs]; rfl
  rw [dpDischarge_of_due h ho, hm]
  rfl

theorem dpDischarge_read (h : s.dpOutletDue p = true) (ho : (s.dp p).out = a :: r) (hs : s.flag DP_SENS_OUT_EN p = true)
    (hn : a.outN ≠ 0) (hseed : a.seed = false)
    (hl : f32.lt (f32.abs (s.biasOf p a)) (f32.ofRat (s.fld DP_BIASCFG_BLIM p) 100) = true) :
    dpDischarge p s =
      discharged p a r (some (f32.div a.outSum (f32.ofInt a.outN))) (s.put .DP_BIAS p (s.biasOf p a)) := by
  have hm : s.outletMean p a = some (f32.div a.outSum (f32.ofInt a.outN)) := by
    rw [outletMean, hs, bne_iff_ne.2 hn]
    rfl
  have hb : dischargeBias p a (some (f32.div a.outSum (f32.ofInt a.outN))) s = s.put .DP_BIAS p (s.biasOf p a) := by
    have hle := f32_not_le_of_lt hl
    rw [biasOf] at hle
    rw [dischargeBias, hseed, if_neg (by decide), biasUpdate, hle]
    rfl
  rw [dpDischarge_of_due h ho, hm, hb]

theorem frame_put_bias (v : Word) : Frame (biasRegs p) (fun _ => false) s (s.put .DP_BIAS p v) :=
  .of_regs ((regsOnly_put (by simp [biasRegs])).2 (regsOnly_refl _ s)) rfl rfl rfl

theorem frame_unread : Frame (biasRegs p) (fun _ => false) s (dpCause p 2 s) :=
  frame_dpCause p s _ 2 (by simp [biasRegs]) (by simp [biasRegs]) (by simp [biasRegs])

theorem dpCause_get_bias (b : Nat) : (dpCause p b s).get .DP_BIAS p = s.get .DP_BIAS p :=
  (get_dpCause ..).trans (get_cause _ _ _ _ _ _ _ _ (by decide) (by decide) (by decide))

/-! ### FILL_DONE (R351) -/

theorem dpFillDone_idle (h : s.dpEn p = false ∨ s.dpState p ≠ 1 ∨ s.flag DP_SENS_LVL_EN p = false) :
    dpFillDone p s = s := by
  rw [dpFillDone, if_neg]
  intro hb
  simp only [Bool.and_eq_true, beq_iff_eq] at hb
  obtain ⟨⟨⟨h1, h2⟩, h3⟩, -⟩ := hb
  simp [h1, h2, h3] at h

theorem dpFillDone_full (h1 : s.dpEn p = true) (h2 : s.dpState p = 1) (h3 : s.flag DP_SENS_LVL_EN p = true)
    (h4 : (s.fld FB_STAT_LVL (s.fld DP_SENS_LVL_FB p) % 2 == 1) = s.flag DP_SENS_LVL_POL p) :
    dpFillDone p s = dpFillEnd p s.T s := by
  rw [dpFillDone, if_pos]
  rw [h1, h2, h3, h4, beq_self_eq_true, beq_self_eq_true]
  rfl

/-! ### The writes (R350, R351) -/

theorem dpSeeds_put (w : Word) : (s.put .DP_CFG p w).dpSeeds p = if bitsOf w 4 3 = 2 then s.dpN p
    else if bitsOf w 4 3 = 1 then min (s.fld DP_FILL_FILL p) (s.dpVcol p) / s.dpVp p else 0 := by
  obtain ⟨hv, hc, hn⟩ := dpN_put_cfg (p := p) (w := w) (u := s)
  have hst : (s.put .DP_CFG p w).fld DP_CFG_START p = bitsOf w 4 3 := fld_put_cfg rfl
  rw [dpSeeds, hst, hv, hc, hn, fld_put_cfg_other (f := DP_FILL_FILL) (by decide)]

theorem wrRes_dpEnabled {c : Access} {m : Nat} {v : Word} (he : s.dpEn p = false)
    (hr : s.dpReject p (dpCfgVal (s.merged m .DP_CFG p (v ||| 1#32))) = 0) : wrRes c .DP_CFG p (v ||| 1#32) s =
      (dpStart p (s.put .DP_CFG p (dpCfgVal (s.merged m .DP_CFG p (v ||| 1#32)))), .ok) :=
  (wrRes_dpCfg (m := m) he).trans (by rw [dpCfgStore_enabled dpEnable_bit he hr])

theorem wrRes_dpFull {c : Access} (hs : s.dpState p = 1) :
    wrRes c .DP_CTRL p 1#32 s = (s.modDp p fun d => { d with enter := 1 }, .ok) := by
  rw [wrRes_dpCtrl, dpCtrlStore_full, hs]
  rfl

theorem wrRes_dpFull_idle {c : Access} (hs : s.dpState p ≠ 1) : wrRes c .DP_CTRL p 1#32 s = (s, .ok) := by
  rw [wrRes_dpCtrl, dpCtrlStore_full, beq_false_of_ne hs]
  rfl

end
end State

/-- Settles O23: the writes by their registers' rules, the works by what is due, each with its frame. -/
theorem dryingPaths : Obligations.DryingPaths := by
  refine ⟨fun m p v => ?_, fun m p v => ?_, fun m p v => ?_, fun m p v => ?_, fun p => ?_, fun p => ?_,
    fun p b r x y => ?_, fun p => ?_, fun p => ?_, fun p q b r => ?_, fun p q b r => ?_, fun p => ?_, fun p => ?_,
    fun m p => ?_, fun p s he hs h1 hslot => ?_, fun p s h0 he hs hb hd => ?_, fun p s h0 he hs hb hd => ?_,
    fun p q b r s hs ho hc hslot hq hr ha => ?_, fun m p => ?_⟩
  · refine serves_of_wrRes_noted (fun _ => rfl) (located_dpCfg p) (fun _ _ => rfl) (by decide) (by decide)
      (fun _ _ _ h => h) ?_
    rintro a u - - ⟨he, hr⟩
    refine ⟨_, wrRes_dpCfg he, ?_, ?_, dpRefused_holds dpEnable_bit he hr⟩
    · rw [dpCfgStore_refused dpEnable_bit he hr, regsOnly_setFld (by simp [DP_STAT_REJ]), regsOnly_put (by simp)]
      exact regsOnly_refl _ u
    · rw [dpCfgStore_refused dpEnable_bit he hr]
      rfl
  · refine servesTo_of_wrRes (fun _ => rfl) (located_dpCfg p) (fun _ _ => rfl) (by decide) (by decide)
      (fun _ _ _ h => h) ?_
    rintro a u - - ⟨he, hr, hs, hc, ho⟩
    obtain ⟨h1, h2⟩ := dpStart_full hc ho hs
    exact ⟨_, wrRes_dpEnabled he hr, h1, h2⟩
  · refine serves_of_servesTo (servesTo_of_wrRes (fun _ => rfl) (located_dpCfg p) (fun _ _ => rfl) (by decide) (by decide)
      (fun _ _ _ h => h) ?_)
    rintro a u - - ⟨he, hr, hs, hc, ho⟩
    have hn := dpSeeds_put (s := u) (p := p) (dpCfgVal (u.merged m .DP_CFG p (v ||| 1#32)))
    rw [dpCfgVal, hs, if_neg (by decide), if_neg (by decide)] at hn
    obtain ⟨h1, h2, h3, h4, -, -, h7, h8⟩ := dpStart_fill (M :=
        fun _ => false) hc ho (by rw [hs]; decide) fun h => absurd hn h
    exact ⟨_, wrRes_dpEnabled he hr, h1, h2, h3, h7, List.length_eq_zero_iff.1 (h4.trans hn), h8⟩
  · refine servesTo_of_wrRes (fun _ => rfl) (located_dpCfg p) (fun _ _ => rfl) (by decide) (by decide)
      (fun _ _ _ h => h) ?_
    rintro a u - - ⟨he, hr, hs, hc, ho⟩
    have hn := dpSeeds_put (s := u) (p := p) (dpCfgVal (u.merged m .DP_CFG p (v ||| 1#32)))
    rw [dpCfgVal, hs, if_neg (by decide), if_pos rfl] at hn
    obtain ⟨h1, h2, h3, h4, h5, h6, h7, h8⟩ := dpStart_fill (M := pathMem p) hc ho (by rw [hs]; decide) fun _ => rfl
    exact ⟨_, wrRes_dpEnabled he hr, h1, h2, h3, h4.trans hn, h5, h6, h7, h8⟩
  · exact acts_idle (f := dpBoundary p) (fun _ => rfl) fun u h => if_neg (by rw [h]; decide)
  · refine actsTo_of (f := dpBoundary p) (fun _ => rfl) ?_
    rintro u ⟨hdue, hi, hroom, hn⟩
    obtain ⟨h1, ⟨n, h2⟩, h3, h4, h5, h6⟩ := dpBoundary_blind p.isLt hdue hi hroom hn
    refine ⟨h1, ?_, ?_, ?_, ?_, ?_, h3, h4, h5, h6⟩ <;> rw [h2]
    · rw [List.length_append, List.length_singleton]
    · rw [List.getLast?_concat]
      rfl
  · refine actsTo_of (f := dpBoundary p) (fun _ => rfl) ?_
    rintro u ⟨hdue, hc, hfull, hi, hlo, hhi, hn⟩
    obtain ⟨h1, ⟨n, ins, tg, h2⟩, h3⟩ := dpBoundary_read hdue hc hfull hi hlo hhi hn
    refine ⟨h1, ?_, ?_, ?_, ?_, ?_, h3⟩ <;> rw [h2]
    · rw [List.length_append, List.length_singleton]
    · rw [List.getLast?_concat]
      rfl
  · refine actsTo_of (f := dpBoundary p) (fun _ => rfl) ?_
    rintro u ⟨hdue, hroom, ht, hn⟩
    exact dpBoundary_fifth p.isLt hdue hroom ht hn
  · exact acts_idle (f := dpDischarge p) (fun _ => rfl) fun u h => if_neg (by rw [h]; decide)
  · refine actsTo_of (f := dpDischarge p) (fun _ => rfl) ?_
    rintro u ⟨hq, hr, hdue, ho, hslot, ha, hs⟩
    rw [dpDischarge_unread hdue ho hs]
    obtain ⟨g1, g2, g3, g4, g5, g6, g7, g8, g9⟩ := discharged_holds (a := b) (r := r) (mOut :=
        none) frame_unread p.isLt hslot hq hr ha
    rw [outWords_biased frame_unread, dpCause_get_bias] at g9
    refine ⟨g1, g2, g3, g4.trans (dpCause_get_bias _), g5, ?_, fun hm => g7 _ (dpCause_pends _ _ _ p.isLt hm), g8, g9⟩
    exact (congrArg (bitAt · 2) g6).trans (dpCause_rbit _ _ _ (by decide))
  · refine actsTo_of (f := dpDischarge p) (fun _ => rfl) ?_
    rintro u ⟨hq, hr, hdue, ho, hslot, ha, hs, hn, hseed, hl⟩
    rw [dpDischarge_read hdue ho hs hn hseed hl]
    obtain ⟨g1, g2, g3, g4, -, -, -, g8, g9⟩ := discharged_holds (a := b) (r := r)
      (mOut := some (f32.div b.outSum (f32.ofInt b.outN))) (frame_put_bias (u.biasOf p b)) p.isLt hslot hq hr ha
    rw [outWords_biased (frame_put_bias _), get_put_same] at g9
    exact ⟨g1, g2, g3, g4.trans (get_put_same ..), g8, g9⟩
  · exact acts_idle (f := dpFillDone p) (fun _ => rfl) fun u h => dpFillDone_idle h
  · refine actsTo_of (f := dpFillDone p) (fun _ => rfl) ?_
    rintro u ⟨h1, h2, h3, h4, hslot⟩
    rw [dpFillDone_full h1 h2 h3 h4]
    obtain ⟨g1, g2, g3, g4, g5, g6, g7, -⟩ := dpFillEnd_holds p u u.T p.isLt hslot
    exact ⟨g1, by rw [h2]; decide, g2, g3, g4, g5, g6, g7⟩
  · refine serves_of_wrRes_noted (fun _ => rfl) (located_dpCtrl p) (fun _ _ => rfl) (by decide) (by decide)
      (fun _ _ _ h => h) fun a u _ _ hs => ?_
    refine ⟨_, wrRes_dpFull hs, fun _ _ _ => rfl, rfl, ?_⟩
    rw [dp_modDp]
    exact ⟨rfl, hs, rfl, rfl⟩
  · obtain ⟨g1, g2, g3, g4, g5, g6, g7, g8⟩ := dpFillEnd_holds p s s.T p.isLt hslot
    rw [dpEnter_full he hs h1]
    exact ⟨by rw [hs]; decide, g2, g3, g4, g5, g6, g7, g8, g1.onlyBut⟩
  · have ht : s.tracks p = true := by rw [tracks, he, hs, hb]; rfl
    obtain ⟨g1, g2, g3⟩ := dpTrack_back p.isLt h0 ht hd
    exact ⟨g1, g2, g3, only_dpTrack h0⟩
  · have ht : s.tracks p = true := by rw [tracks, he, hs, hb]; rfl
    obtain ⟨g1, g2⟩ := dpTrack_forward p.isLt h0 ht hd
    exact ⟨g1, g2, only_dpTrack h0⟩
  · obtain ⟨g1, g2, g3⟩ := unloadStep_holds p.isLt hs hc hslot hq hr ha
    rw [dpUnloadPhase_one hs ho]
    exact ⟨g1, g2, g3.free, g3.count, g3.took,
      (g3.frame.mono (fun _ _ => releaseRegs_outRegs) fun _ h => h).onlyBut⟩
  · refine serves_of_wrRes_noted (fun _ => rfl) (located_dpCtrl p) (fun _ _ => rfl) (by decide) (by decide)
      (fun _ _ _ h => h) fun a u _ _ hs => ?_
    exact ⟨_, wrRes_dpFull_idle hs, fun _ _ _ => rfl, rfl, rfl⟩

end Sys2Proof.Machine

end

section

/-!
Lanes: what the writes of their registers, the flushes and the check of the leads change (O47, O49).
-/

namespace Sys2Proof.Machine
open Kept State

/-! ### Fields of masked words (R48) -/

section
variable {w w' : Word} {hi lo : Nat}

theorem bitsOf_congr (h : ∀ n, lo ≤ n → n ≤ hi → w'.getLsbD n = w.getLsbD n) : bitsOf w' hi lo = bitsOf w hi lo := by
  refine Nat.eq_of_testBit_eq fun n => ?_
  rw [testBit_bitsOf, testBit_bitsOf]
  by_cases hn : n < hi + 1 - lo
  · rw [h _ (by omega) (by omega)]
  · simp [hn]

theorem getLsbD_maskOf_in {n : Nat} (hh : hi < 32) (h : lo ≤ n) (h' : n ≤ hi) : (maskOf hi lo).getLsbD n = true := by
  rw [getLsbD_maskOf]
  simp only [Bool.and_eq_true, decide_eq_true_eq]
  omega

/-- The field of a value that a mask lets through is the value's. -/
theorem bitsOf_and_maskOf (v : Word) (hh : hi < 32) : bitsOf (v &&& maskOf hi lo) hi lo = bitsOf v hi lo :=
  bitsOf_congr fun n h h' => by rw [BitVec.getLsbD_and, getLsbD_maskOf_in hh h h', Bool.and_true]

theorem bitsOf_merge_maskOf (x v : Word) (hh : hi < 32) :
    bitsOf ((x &&& ~~~ maskOf hi lo) ||| (v &&& maskOf hi lo)) hi lo = bitsOf v hi lo :=
  bitsOf_congr fun n h h' => by
    rw [BitVec.getLsbD_or, BitVec.getLsbD_and, BitVec.getLsbD_and, BitVec.getLsbD_not, getLsbD_maskOf_in hh h h']
    simp

end

namespace State

section
variable (n : Nat) (s : State)

/-! ### A lane among others, and the check of its leads (R117) -/

theorem lane_of_lanes {s t : State} (h : t.lanes = s.lanes) (n : Nat) : t.lane n = s.lane n := by rw [lane, lane, h]

theorem get_modLane (f : Lane → Lane) (r : Reg) (i : Nat) : (modLane n f s).get r i = s.get r i := rfl

@[simp] theorem regsOnly_depart {l : List (Reg × Nat)} {s t : State} (h : (.MOD_FAULT, 0) ∈ l) :
    regsOnly l s (depart t) ↔ regsOnly l s t := regsOnly_put h

@[simp] theorem regsOnly_modLane {l : List (Reg × Nat)} {n : Nat} {f : Lane → Lane} {s t : State} :
    regsOnly l s (modLane n f t) ↔ regsOnly l s t := .rfl

theorem lane_raiseOf (e inst c : Nat) : (raiseOf e inst c s).lane n = s.lane n := rfl
theorem lead_raiseOf (e inst c : Nat) (on : Bool) : (raiseOf e inst c s).leadE n on = s.leadE n on ∧
    (raiseOf e inst c s).leadR n on = s.leadR n on := ⟨rfl, rfl⟩

/-- Beside the event E053 of a lead that becomes clamped, the check notes in its lane alone which leads are. -/
theorem leadCheck_eq : ∃ b c d, leadCheck n s =
    modLane n (fun l => { l with clampOn := c, clampOff := d }) (when b (raiseOf 53 n noCause) s) := ⟨_, _, _, rfl⟩

@[simp] theorem regsOnly_leadCheck {l : List (Reg × Nat)} {n : Nat} {s t : State}
    (hp : (.EVT_PEND, (evtHome 53).1) ∈ l) (hr : (.EVT_RAW, (evtHome 53).1) ∈ l) :
    regsOnly l s (leadCheck n t) ↔ regsOnly l s t := by
  obtain ⟨b, c, d, h⟩ := leadCheck_eq n t
  rw [h, regsOnly_modLane, regsOnly_when]
  exact (regsOnly_raiseOf hp hr).2 (regsOnly_refl l t)

theorem leadCheck_get {r : Reg} (hp : r ≠ .EVT_PEND) (hr : r ≠ .EVT_RAW) (i : Nat) :
    (leadCheck n s).get r i = s.get r i :=
  (regsOnly_leadCheck (l := evtRegs 53) (by simp) (by simp)).2 (regsOnly_refl _ s) r i (by simp [hp, hr])

theorem leadCheck_lane : ∃ c d, (leadCheck n s).lane n = { s.lane n with clampOn := c, clampOff := d } := by
  obtain ⟨b, c, d, h⟩ := leadCheck_eq n s
  refine ⟨c, d, ?_⟩
  rw [h, lane_modLane, if_pos rfl, when]
  split <;> rfl

/-! ### Flushes (R107, R134) -/

@[simp] theorem regsOnly_lnFlush {l : List (Reg × Nat)} {n : Nat} {s t : State} (h : (.LN_CNT_FLUSH, 0) ∈ l) :
    regsOnly l s (lnFlush n t) ↔ regsOnly l s t := regsOnly_put h

theorem lnFlush_get {r : Reg} (h : r ≠ .LN_CNT_FLUSH) (i : Nat) : (lnFlush n s).get r i = s.get r i := get_put_reg h ..

theorem lnFlush_lane_ne {k : Nat} (hk : k ≠ n) : (lnFlush n s).lane k = s.lane k := by
  rw [lnFlush, lane_modLane, if_neg hk, lane_of_lanes (put_lanes ..)]

/-- A flush counts the marks it empties (R134). -/
theorem lnFlush_count : ((lnFlush n s).get .LN_CNT_FLUSH 0).toNat =
    min ((s.get .LN_CNT_FLUSH 0).toNat + (s.lane n).fill) (2 ^ 32 - 1) := by
  rw [lnFlush, get_modLane, get_put_same, BitVec.toNat_ofNat]
  omega

/-- The flushes of a list of lanes leave the other lanes as they are. -/
theorem each_lnFlush_lane {l : List Nat} {n : Nat} (hn : n ∉ l) (s : State) : (each l lnFlush s).lane n = s.lane n := by
  induction l generalizing s with
  | nil => rfl
  | cons a l ih =>
    rw [List.mem_cons, not_or] at hn
    exact (ih hn.2 _).trans (lnFlush_lane_ne a s hn.1)

/-! ### The enable bits, demands and forces (R104 to R107) -/

theorem flag_eq_bitAt (f : Field) (i : Nat) (h : f.hi = f.lo) : s.flag f i = bitAt (s.get f.reg i) f.lo := by
  rw [flag, fld, h, bitsOf_one, b2n_ne_zero]

theorem lnEn_local {n : Nat} (hn : n < 256) : s.lnEn n = bitAt (s.get .LN_CFG n) 0 := by
  rw [lnEn, if_pos hn, flag_eq_bitAt _ _ _ rfl]
  rfl

theorem lnEn_remote : s.lnEn (256 + n) = bitAt (s.get .LN_RCFG n) 0 := by
  rw [lnEn, if_neg (by omega), flag_eq_bitAt _ _ _ rfl, Nat.add_sub_cancel_left]
  rfl

theorem lnDemand_local {n : Nat} (hn : n < 256) : s.lnDemand n = s.rbit .LN_CMD (n / 32) (n % 32) := if_pos hn

theorem lnForce_remote : s.lnForce (256 + n) = s.flag LN_RCFG_FORCE n := by
  rw [lnForce, if_neg (by omega), Nat.add_sub_cancel_left]

end

/-! ### The stores of LN_CFG and LN_RCFG (R107) -/

section
variable {n : Nat} {w : Word} {s : State}

/-- What a write of LN_RCFG leaves before the flush: FILL and HEAD are the lane's, FORCE is the module's own. -/
def rcfgPut (n : Nat) (w : Word) (s : State) : State :=
  setForce (256 + n) (s.lnForce (256 + n)) (s.put .LN_RCFG n (w &&& 0x05FFFF81#32))

theorem lnCfgStore_enable (hw : bitAt w 0 = true) : lnCfgStore n w s = leadCheck n (s.put .LN_CFG n w) := by
  simp [lnCfgStore, hw, when]

theorem lnCfgStore_disable (hw : bitAt w 0 = false) (he : s.lnEn n = true) :
    lnCfgStore n w s = leadCheck n (lnFlush n (s.put .LN_CFG n w)) := by
  simp [lnCfgStore, hw, he, when]

theorem lnRcfgStore_enable (hw : bitAt w 0 = true) : lnRcfgStore (256 + n) w s = leadCheck (256 + n) (rcfgPut n w s) := by
  simp [lnRcfgStore, rcfgPut, hw, when]

theorem lnRcfgStore_disable (hw : bitAt w 0 = false) (he : s.lnEn (256 + n) = true) :
    lnRcfgStore (256 + n) w s = leadCheck (256 + n) (lnFlush (256 + n) (rcfgPut n w s)) := by
  simp [lnRcfgStore, rcfgPut, hw, he, when]

theorem setForce_remote (b : Bool) : setForce (256 + n) b s = s.setFlag LN_RCFG_FORCE n b := by
  rw [setForce, if_neg (by omega), Nat.add_sub_cancel_left]

@[simp] theorem regsOnly_rcfgPut {l : List (Reg × Nat)} {s t : State} (h : (.LN_RCFG, n) ∈ l) :
    regsOnly l s (rcfgPut n w t) ↔ regsOnly l s t := by
  rw [rcfgPut, setForce_remote, regsOnly_setFlag (f := LN_RCFG_FORCE) h, regsOnly_put h]

theorem rcfgPut_get {r : Reg} (h : r ≠ .LN_RCFG) (i : Nat) : (rcfgPut n w s).get r i = s.get r i := by
  rw [rcfgPut, setForce_remote, setFlag, get_setFld_other _ _ _ _ _ _ h, get_put_reg h]

theorem rcfgPut_lane (k : Nat) : (rcfgPut n w s).lane k = s.lane k := by
  rw [rcfgPut, setForce_remote]
  rfl

theorem rcfgPut_force : (rcfgPut n w s).lnForce (256 + n) = s.lnForce (256 + n) := by
  rw [lnForce_remote, rcfgPut, setForce_remote, flag_setFlag_same _ LN_RCFG_FORCE]

theorem rcfgPut_en : (rcfgPut n w s).lnEn (256 + n) = bitAt w 0 := by
  have h : (rcfgPut n w s).flag LN_RCFG_EN n = (s.put .LN_RCFG n (w &&& 0x05FFFF81#32)).flag LN_RCFG_EN n := by
    rw [rcfgPut, setForce_remote, flag, flag, setFlag, fld_setFld_other (by decide)]
  have hm : bitAt 0x05FFFF81#32 0 = true := by decide
  rw [lnEn, if_neg (by omega), Nat.add_sub_cancel_left, h, flag_eq_bitAt _ _ _ rfl]
  exact (congrArg (bitAt · 0) (get_put_same ..)).trans (by rw [bitAt_and, hm, Bool.and_true])

end

/-! ### A lane's estimate of a delay (R119) -/

/-- The estimate of a direction and the count of its rejections, set. -/
def setLead (n : Nat) (on : Bool) (e r : Nat) (s : State) : State :=
  leadCheck n (s.modLane n fun l => if on then { l with e8On := e, rejOn := r } else { l with e8Off := e, rejOff := r })

section
variable (n e r : Nat) (on : Bool) (s : State)

@[simp] theorem regsOnly_setLead {l : List (Reg × Nat)} {n e r : Nat} {on : Bool} {s t : State}
    (hp : (.EVT_PEND, (evtHome 53).1) ∈ l) (hr : (.EVT_RAW, (evtHome 53).1) ∈ l) :
    regsOnly l s (setLead n on e r t) ↔ regsOnly l s t := by
  rw [setLead, regsOnly_leadCheck hp hr, regsOnly_modLane]

theorem setLead_lane : ∃ c d, (setLead n on e r s).lane n = if on then
    { s.lane n with e8On := e, rejOn := r, clampOn := c, clampOff := d } else
    { s.lane n with e8Off := e, rejOff := r, clampOn := c, clampOff := d } := by
  obtain ⟨c, d, h⟩ := leadCheck_lane n (s.modLane n fun l =>
    if on then { l with e8On := e, rejOn := r } else { l with e8Off := e, rejOff := r })
  refine ⟨c, d, ?_⟩
  rw [setLead, h, lane_modLane, if_pos rfl]
  cases on <;> rfl

/-- The estimate and the count read what was set, those of the other direction stand. -/
theorem setLead_lead : (setLead n on e r s).leadE n on = e ∧ (setLead n on e r s).leadR n on = r ∧
    (setLead n on e r s).leadE n (!on) = s.leadE n (!on) ∧ (setLead n on e r s).leadR n (!on) = s.leadR n (!on) := by
  obtain ⟨c, d, h⟩ := setLead_lane n e r on s
  simp only [leadE, leadR, h]
  cases on <;> exact ⟨rfl, rfl, rfl, rfl⟩

theorem setLead_reports : ((setLead n on e r s).lane n).reports = (s.lane n).reports := by
  obtain ⟨c, d, h⟩ := setLead_lane n e r on s
  rw [h]
  cases on <;> rfl

theorem setLead_kept : (setLead n on e r s).kept = s.kept := (leadCheck_kept ..).trans (modLane_kept ..)

end
end State
end Sys2Proof.Machine
end

section

/-!
Lanes are enabled, disabled, flushed and given delays (O47).
-/

namespace Sys2Proof.Machine
open Kept State

theorem located_lnCfg : ∀ n : Fin 256, located .LN_CFG n = true := by decide +kernel
theorem located_lnRcfg : ∀ n : Fin 512, located .LN_RCFG n = true := by decide +kernel
theorem located_lnFlush : ∀ k : Fin 8, located .LN_FLUSH k = true := by decide +kernel
theorem located_lnRflush : ∀ k : Fin 16, located .LN_RFLUSH k = true := by decide +kernel
theorem located_delayReg (on : Bool) : ∀ n : Fin 256, located (delayReg on) n = true := by
  cases on <;> decide +kernel

section
variable {c : Access} {m i n : Nat} {r : Reg} {v : Word} {u : State}

/-! ### What the registers' own rules make of a write -/

/-- A bit that a write may change takes the value written (R48). -/
theorem bitAt_merged {b : Nat} (h : bitAt r.info.wmask b = true) : bitAt (u.merged m r i v) b = bitAt v b := by
  rw [bitAt_eq] at h
  simp [merged, bitAt_eq, h]

/-- The enabling and the disabling write of a register that holds its EN in bit 0. -/
theorem bit_merged_enable (h : bitAt r.info.wmask 0 = true) : bitAt (u.merged m r i (v ||| 1#32)) 0 = true := by
  rw [bitAt_merged h, bitAt_or, show bitAt 1#32 0 = true by decide, Bool.or_true]

theorem bit_merged_disable (h : bitAt r.info.wmask 0 = true) : bitAt (u.merged m r i (v &&& ~~~1#32)) 0 = false := by
  rw [bitAt_merged h, bitAt_and, show bitAt (~~~1#32) 0 = false by decide, Bool.and_false]

theorem wmask_lnCfg : bitAt (Reg.info .LN_CFG).wmask 0 = true := by decide
theorem wmask_lnRcfg : bitAt (Reg.info .LN_RCFG).wmask 0 = true := by decide

theorem wrRes_lnCfg (h : u.lnCfgErr i (u.merged m .LN_CFG i v) = false) :
    wrRes c .LN_CFG i v u = (lnCfgStore i (u.merged m .LN_CFG i v) u, .ok) := by
  have hw : wrRes c .LN_CFG i v u = if u.lnCfgErr i (u.merged m .LN_CFG i v) then (u, .err) else
      (lnCfgStore i (u.merged m .LN_CFG i v) u, .ok) := rfl
  rw [hw, h]
  rfl

theorem wrRes_lnRcfg (h : u.lnRcfgErr (256 + i) (u.merged m .LN_RCFG i v) = false) :
    wrRes c .LN_RCFG i v u = (lnRcfgStore (256 + i) (u.merged m .LN_RCFG i v) u, .ok) := by
  have hw : wrRes c .LN_RCFG i v u = if u.lnRcfgErr (256 + i) (u.merged m .LN_RCFG i v) then (u, .err) else
      (lnRcfgStore (256 + i) (u.merged m .LN_RCFG i v) u, .ok) := rfl
  rw [hw, h]
  rfl

theorem wrRes_lnFlush (h : c.marked = false) : wrRes c .LN_FLUSH i v u = (lnFlushWrite (32 * i) v false u, .ok) := by
  have hm : v &&& 0xFFFFFFFF#32 = v := BitVec.and_allOnes
  have hw : wrRes c .LN_FLUSH i v u = (lnFlushWrite (32 * i) (v &&& 0xFFFFFFFF#32) c.marked u, .ok) := rfl
  rw [hw, hm, h]

theorem wrRes_lnRflush (h : c.marked = false) :
    wrRes c .LN_RFLUSH i v u = (lnFlushWrite (256 + 32 * i) v false u, .ok) := by
  have hm : v &&& 0xFFFFFFFF#32 = v := BitVec.and_allOnes
  have hw : wrRes c .LN_RFLUSH i v u = (lnFlushWrite (256 + 32 * i) (v &&& 0xFFFFFFFF#32) c.marked u, .ok) := rfl
  rw [hw, hm, h]

theorem lnDelayStore_eq (on : Bool) : lnDelayStore n on v u = setLead n on (8 * bitsOf v 20 0) 0 u := rfl

theorem bitsOf_delay (x : Word) : bitsOf ((x &&& ~~~0x1FFFFF#32) ||| (v &&& 0x1FFFFF#32)) 20 0 = bitsOf v 20 0 := by
  have h := bitsOf_merge_maskOf (hi := 20) (lo := 0) x v (by decide)
  rwa [show maskOf 20 0 = 0x1FFFFF#32 by decide] at h

/-- A delay's bits are those of the value written (R48). -/
theorem lnDelayStore_congr {w w' : Word} (on : Bool) (h : bitsOf w' 20 0 = bitsOf w 20 0) :
    lnDelayStore n on w' u = lnDelayStore n on w u := by rw [lnDelayStore, lnDelayStore, h]

theorem wrRes_delay (on : Bool) : wrRes c (delayReg on) n v u = (lnDelayStore n on v u, .ok) := by
  cases on
  · exact congrArg (·, WRes.ok) (lnDelayStore_congr false (bitsOf_delay _))
  · exact congrArg (·, WRes.ok) (lnDelayStore_congr true (bitsOf_delay _))

/-! ### What the stores leave (R107, R119, R134) -/

/-- An enabled local lane keeps its marks. -/
theorem lnCfgStore_enables (hn : n < 256) (hw : bitAt v 0 = true) :
    regsOnly ([(.LN_CFG, n)] ++ evtRegs 53) u (lnCfgStore n v u) ∧ (lnCfgStore n v u).lnEn n = true ∧
      (lnCfgStore n v u).get .LN_CFG n = v ∧ ((lnCfgStore n v u).lane n).fill = (u.lane n).fill := by
  rw [lnCfgStore_enable hw]
  have hg : (leadCheck n (u.put .LN_CFG n v)).get .LN_CFG n = v := by
    rw [leadCheck_get _ _ (by decide) (by decide), get_put_same]
  obtain ⟨c, d, hl⟩ := leadCheck_lane n (u.put .LN_CFG n v)
  exact ⟨by simp, by rw [lnEn_local _ hn, hg, hw], hg, by rw [hl]; rfl⟩

/-- A disabled local lane loses its marks, which are counted, and keeps its demand. -/
theorem lnCfgStore_disables (hn : n < 256) (hw : bitAt v 0 = false) (he : u.lnEn n = true) :
    regsOnly ([(.LN_CFG, n), (.LN_CNT_FLUSH, 0)] ++ evtRegs 53) u (lnCfgStore n v u) ∧
      (lnCfgStore n v u).lnEn n = false ∧ ((lnCfgStore n v u).lane n).fill = 0 ∧
      (lnCfgStore n v u).lnDemand n = u.lnDemand n ∧ ((lnCfgStore n v u).get .LN_CNT_FLUSH 0).toNat =
        min ((u.get .LN_CNT_FLUSH 0).toNat + (u.lane n).fill) (2 ^ 32 - 1) := by
  rw [lnCfgStore_disable hw he]
  have hr : regsOnly ([(.LN_CFG, n), (.LN_CNT_FLUSH, 0)] ++ evtRegs 53) u
      (leadCheck n (lnFlush n (u.put .LN_CFG n v))) := by simp
  have hg : (leadCheck n (lnFlush n (u.put .LN_CFG n v))).get .LN_CFG n = v := by
    rw [leadCheck_get _ _ (by decide) (by decide), lnFlush_get _ _ (by decide), get_put_same]
  obtain ⟨c, d, hl⟩ := leadCheck_lane n (lnFlush n (u.put .LN_CFG n v))
  refine ⟨hr, by rw [lnEn_local _ hn, hg, hw], by rw [hl]; exact lnFlush_fill .., ?_, ?_⟩
  · rw [lnDemand_local _ hn, lnDemand_local _ hn, rbit, rbit, hr _ _ (by simp)]
  · rw [leadCheck_get _ _ (by decide) (by decide), lnFlush_count, get_put_reg (by decide), lane_of_lanes (put_lanes ..)]

/-- An enabled remote lane keeps its force bit, which is the module's own. -/
theorem lnRcfgStore_enables (hw : bitAt v 0 = true) :
    regsOnly ([(.LN_RCFG, n)] ++ evtRegs 53) u (lnRcfgStore (256 + n) v u) ∧
      (lnRcfgStore (256 + n) v u).lnEn (256 + n) = true ∧
      (lnRcfgStore (256 + n) v u).lnForce (256 + n) = u.lnForce (256 + n) := by
  rw [lnRcfgStore_enable hw]
  have hg : (leadCheck (256 + n) (rcfgPut n v u)).get .LN_RCFG n = (rcfgPut n v u).get .LN_RCFG n :=
    leadCheck_get _ _ (by decide) (by decide) n
  refine ⟨by simp, ?_, ?_⟩
  · rw [lnEn_remote, hg, ← lnEn_remote, rcfgPut_en, hw]
  · rw [← rcfgPut_force (n := n) (w := v) (s := u), lnForce_remote, lnForce_remote]
    exact congrArg (· != 0) (fld_of_get hg)

theorem lnRcfgStore_disables (hw : bitAt v 0 = false) (he : u.lnEn (256 + n) = true) :
    regsOnly ([(.LN_RCFG, n), (.LN_CNT_FLUSH, 0)] ++ evtRegs 53) u (lnRcfgStore (256 + n) v u) ∧
      (lnRcfgStore (256 + n) v u).lnEn (256 + n) = false ∧ ((lnRcfgStore (256 + n) v u).lane (256 + n)).fill = 0 ∧
      ((lnRcfgStore (256 + n) v u).get .LN_CNT_FLUSH 0).toNat =
        min ((u.get .LN_CNT_FLUSH 0).toNat + (u.lane (256 + n)).fill) (2 ^ 32 - 1) := by
  rw [lnRcfgStore_disable hw he]
  have hg : (leadCheck (256 + n) (lnFlush (256 + n) (rcfgPut n v u))).get .LN_RCFG n = (rcfgPut n v u).get .LN_RCFG n := by
    rw [leadCheck_get _ _ (by decide) (by decide), lnFlush_get _ _ (by decide)]
  obtain ⟨c, d, hl⟩ := leadCheck_lane (256 + n) (lnFlush (256 + n) (rcfgPut n v u))
  refine ⟨by simp, ?_, by rw [hl]; exact lnFlush_fill .., ?_⟩
  · rw [lnEn_remote, hg, ← lnEn_remote, rcfgPut_en, hw]
  · rw [leadCheck_get _ _ (by decide) (by decide), lnFlush_count, rcfgPut_get (by decide), rcfgPut_lane]

/-- A flush word empties the lanes that it names, of the 32 from `b`, and no other. -/
theorem lnFlushWrite_lanes {b : Nat} (hb : b + 32 ≤ 768) : regsOnly [(.LN_CNT_FLUSH, 0)] u (lnFlushWrite b v false u) ∧
    (∀ j < 32, bitAt v j = true → ((lnFlushWrite b v false u).lane (b + j)).fill = 0) ∧
    ∀ k, (k < b ∨ b + 32 ≤ k ∨ bitAt v (k - b) = false) → (lnFlushWrite b v false u).lane k = u.lane k := by
  have he : lnFlushWrite b v false u = each ((pick 32 fun j => bitAt v j && decide (b + j < 768)).map (b + ·)) lnFlush u := by
    simp [lnFlushWrite, each, List.foldl_map]
  rw [he]
  refine ⟨regsOnly_each (fun a _ s => by simp) u, fun j hj hv => each_lnFlush_fill ?_ u, fun k hk => each_lnFlush_lane ?_ u⟩
  · refine List.mem_map.2 ⟨j, mem_pick.2 ⟨hj, ?_⟩, rfl⟩
    rw [hv, Bool.true_and, decide_eq_true_eq]
    omega
  · intro h
    obtain ⟨j, hj, rfl⟩ := List.mem_map.1 h
    obtain ⟨hj, hv⟩ := mem_pick.1 hj
    rw [Bool.and_eq_true] at hv
    rw [Nat.add_sub_cancel_left, hv.1] at hk
    simp at hk
    omega


/-- A lane that a flush word `k` does not name. -/
theorem unnamed_of_word {k : Nat} (h : n / 32 ≠ k ∨ bitAt v (n % 32) = false) :
    n < 32 * k ∨ 32 * k + 32 ≤ n ∨ bitAt v (n - 32 * k) = false := by
  by_cases hk : n / 32 = k
  · have hn : n - 32 * k = n % 32 := by omega
    rw [hn]
    exact .inr (.inr (h.resolve_left (absurd hk)))
  · omega

end

/-! ### The register a lane command writes (R104, R134) -/

theorem lnEnable_local {n : Nat} (hn : n < 256) (m : Nat) (v : Word) (s : State) :
    lnEnable m n v s = wr m .LN_CFG n v s := if_pos hn

theorem lnEnable_remote (m n : Nat) (v : Word) (s : State) : lnEnable m (256 + n) v s = wr m .LN_RCFG n v s := by
  rw [lnEnable, if_neg (by omega), Nat.add_sub_cancel_left]

theorem lnFlushWord_local {k : Nat} (hk : k < 8) (m : Nat) (v : Word) (s : State) :
    lnFlushWord m k v s = wr m .LN_FLUSH k v s := if_pos hk

theorem lnFlushWord_remote (m k : Nat) (v : Word) (s : State) : lnFlushWord m (8 + k) v s = wr m .LN_RFLUSH k v s := by
  rw [lnFlushWord, if_neg (by omega), Nat.add_sub_cancel_left]

/-- Settles O47: what each register's store leaves, and the rules that let it pass. -/
theorem laneCommands : Obligations.LaneCommands := by
  refine ⟨fun m n v => ?_, fun m n v => ?_, fun m n v => ?_, fun m n v => ?_, fun m k v => ?_, fun m k v => ?_,
    fun m n v => ?_, fun m n v => ?_⟩
  · refine serves_of_wrRes_noted (fun _ => congrArg Host.Outcome.next (lnEnable_local n.isLt ..)) (located_lnCfg n)
      (fun _ _ => rfl) (by decide) (by decide) (fun _ _ _ h => h) fun c u _ _ hok => ?_
    obtain ⟨hr, heff⟩ := lnCfgStore_enables (u := u) n.isLt (bit_merged_enable (m := m) (v := v) wmask_lnCfg)
    exact ⟨_, wrRes_lnCfg hok, hr, lnCfgStore_kept .., heff⟩
  · refine serves_of_wrRes_noted (fun _ => congrArg Host.Outcome.next (lnEnable_remote ..)) (located_lnRcfg n)
      (fun _ _ => rfl) (by decide) (by decide) (fun _ _ _ h => h) fun c u _ _ hok => ?_
    obtain ⟨hr, heff⟩ := lnRcfgStore_enables (u := u) (bit_merged_enable (m := m) (v := v) wmask_lnRcfg)
    exact ⟨_, wrRes_lnRcfg hok, hr, lnRcfgStore_kept .., heff⟩
  · refine serves_of_wrRes_noted (fun _ => congrArg Host.Outcome.next (lnEnable_local n.isLt ..)) (located_lnCfg n)
      (fun _ _ => rfl) (by decide) (by decide) (fun _ _ _ h => h) ?_
    rintro c u - - ⟨hen, hok⟩
    obtain ⟨hr, heff⟩ := lnCfgStore_disables (u := u) n.isLt (bit_merged_disable (m := m) (v := v) wmask_lnCfg) hen
    exact ⟨_, wrRes_lnCfg hok, hr, lnCfgStore_kept .., heff⟩
  · refine serves_of_wrRes_noted (fun _ => congrArg Host.Outcome.next (lnEnable_remote ..)) (located_lnRcfg n)
      (fun _ _ => rfl) (by decide) (by decide) (fun _ _ _ h => h) ?_
    rintro c u - - ⟨hen, hok⟩
    obtain ⟨hr, heff⟩ := lnRcfgStore_disables (u := u) (bit_merged_disable (m := m) (v := v) wmask_lnRcfg) hen
    exact ⟨_, wrRes_lnRcfg hok, hr, lnRcfgStore_kept .., heff⟩
  · refine serves_of_wrRes_noted (fun _ => congrArg Host.Outcome.next (lnFlushWord_local k.isLt ..)) (located_lnFlush k)
      (fun _ _ => rfl) (by decide) (by decide) (fun _ _ _ h => h) fun c u _ hm _ => ?_
    obtain ⟨hr, hin, hout⟩ := lnFlushWrite_lanes (v := v) (u := u) (b := 32 * k) (by omega)
    exact ⟨_, wrRes_lnFlush hm, hr, lnFlushWrite_kept .., fun b hb => hin b b.isLt hb, fun n hn =>
      hout n (unnamed_of_word hn)⟩
  · refine serves_of_wrRes_noted (fun _ => congrArg Host.Outcome.next (lnFlushWord_remote ..)) (located_lnRflush k)
      (fun _ _ => rfl) (by decide) (by decide) (fun _ _ _ h => h) fun c u _ hm _ => ?_
    obtain ⟨hr, hin, hout⟩ := lnFlushWrite_lanes (v := v) (u := u) (b := 256 + 32 * k) (by omega)
    refine ⟨_, wrRes_lnRflush hm, hr, lnFlushWrite_kept .., fun b hb => hin b b.isLt hb, fun n hn => hout _ ?_⟩
    rw [Nat.add_sub_add_left, Nat.add_lt_add_iff_left, Nat.add_assoc, Nat.add_le_add_iff_left]
    exact unnamed_of_word hn
  · refine serves_of_wrRes_noted (fun _ => rfl) (located_delayReg true n) (fun _ _ => rfl) (by decide) (by decide)
      (fun _ _ _ h => h) fun c u _ _ _ => ?_
    obtain ⟨h1, h2, h3, -⟩ := setLead_lead n (8 * bitsOf v 20 0) 0 true u
    exact ⟨_, wrRes_delay true, by simp [lnDelayStore_eq], lnDelayStore_kept .., h1, h2, h3⟩
  · refine serves_of_wrRes_noted (fun _ => rfl) (located_delayReg false n) (fun _ _ => rfl) (by decide) (by decide)
      (fun _ _ _ h => h) fun c u _ _ _ => ?_
    obtain ⟨h1, h2, h3, -⟩ := setLead_lead n (8 * bitsOf v 20 0) 0 false u
    exact ⟨_, wrRes_delay false, by simp [lnDelayStore_eq], lnDelayStore_kept .., h1, h2, h3⟩

end Sys2Proof.Machine
end

section

/-!
A measured delay seeds, moves or is tested against the estimate of its direction (O49).
-/

namespace Sys2Proof.Machine
open Kept State
namespace State

section
variable {n q k : Nat} {d : Bool} {r : List (Bool × Nat × Nat)} {s u : State}

/-- What a measurement of `q` µs makes of the estimate `e`, after `c` rejections (R119). -/
def measured (n : Nat) (on : Bool) (q e c : Nat) (s : State) : State :=
  if e = 0 then setLead n on (8 * q) 0 s
  else if 16 * q < e ∨ e < 4 * q then
    raiseOf 51 n noCause
      (if c + 1 = 8 then raiseOf 52 n noCause (setLead n on (8 * q) 0 s) else setLead n on e (c + 1) s)
  else setLead n on (e + q - e / 8) 0 s

theorem lnMeasure_eq (h : s.lnHold n = false) : lnMeasure n d q s = measured n d q (s.leadE n d) (s.leadR n d) s := by
  rw [lnMeasure, if_neg (by simp [h])]
  rfl

theorem lnMeasure_held (h : s.lnHold n = true) : lnMeasure n d q s = s := if_pos h

theorem measured_regs (e c : Nat) : regsOnly (evtRegs 51 ++ evtRegs 52 ++ evtRegs 53) s (measured n d q e c s) := by
  unfold measured
  split_ifs <;> simp [evtHome]

theorem measured_kept (e c : Nat) : (measured n d q e c s).kept = s.kept := by
  unfold measured
  split_ifs <;> simp [setLead_kept]

/-- A measurement acts on the estimate of its direction and leaves the other's, and the reports. -/
theorem measured_lane (e c : Nat) : ((measured n d q e c s).lane n).reports = (s.lane n).reports ∧
    (measured n d q e c s).leadE n (!d) = s.leadE n (!d) ∧ (measured n d q e c s).leadR n (!d) = s.leadR n (!d) := by
  have h (e' r' : Nat) := And.intro (setLead_reports n e' r' d s) (setLead_lead n e' r' d s).2.2
  unfold measured
  split_ifs
  · exact h _ _
  · simpa only [lane_raiseOf, lead_raiseOf] using h _ _
  · simpa only [lane_raiseOf, lead_raiseOf] using h _ _
  · exact h _ _

theorem measured_seed (c : Nat) : (measured n d q 0 c s).leadE n d = 8 * q ∧ (measured n d q 0 c s).leadR n d = 0 := by
  obtain ⟨h1, h2, -⟩ := setLead_lead n (8 * q) 0 d s
  exact ⟨h1, h2⟩

theorem measured_reject {e c : Nat} (he : e ≠ 0) (ho : 16 * q < e ∨ e < 4 * q) (hc : c + 1 ≠ 8) :
    (measured n d q e c s).leadE n d = e ∧ (measured n d q e c s).leadR n d = c + 1 ∧
      (measured n d q e c s).pends 51 = true := by
  obtain ⟨h1, h2, -⟩ := setLead_lead n e (c + 1) d s
  rw [measured, if_neg he, if_pos ho, if_neg hc]
  simp only [lead_raiseOf]
  exact ⟨h1, h2, by rw [pends_raiseOf _ _ _ _ _ (by decide)]; simp⟩

theorem measured_reseed {e c : Nat} (he : e ≠ 0) (ho : 16 * q < e ∨ e < 4 * q) (hc : c + 1 = 8) :
    (measured n d q e c s).leadE n d = 8 * q ∧ (measured n d q e c s).leadR n d = 0 ∧
      (measured n d q e c s).pends 51 = true ∧ (measured n d q e c s).pends 52 = true := by
  obtain ⟨h1, h2, -⟩ := setLead_lead n (8 * q) 0 d s
  rw [measured, if_neg he, if_pos ho, if_pos hc]
  simp only [lead_raiseOf]
  refine ⟨h1, h2, ?_, ?_⟩
  · rw [pends_raiseOf _ _ _ _ _ (by decide)]
    simp
  · rw [pends_raiseOf _ _ _ _ _ (by decide), pends_raiseOf _ _ _ _ _ (by decide)]
    simp

theorem measured_move {e c : Nat} (he : e ≠ 0) (h1 : e ≤ 16 * q) (h2 : 4 * q ≤ e) :
    (measured n d q e c s).leadE n d = e + q - e / 8 ∧ (measured n d q e c s).leadR n d = 0 := by
  obtain ⟨h3, h4, -⟩ := setLead_lead n (e + q - e / 8) 0 d s
  rw [measured, if_neg he, if_neg (by omega)]
  exact ⟨h3, h4⟩

/-! ### The oldest report (R118) -/

/-- The lane without the report that is taken. -/
def takeReport (n : Nat) (r : List (Bool × Nat × Nat)) (u : State) : State :=
  u.modLane n fun l => { l with reports := r }

theorem lnApplyReport_due (h : (u.lane n).reports = (d, q, k) :: r) (hk : k ≤ u.tick) :
    lnApplyReport n u = lnMeasure n d q (takeReport n r u) := by
  simp [lnApplyReport, takeReport, h, hk]

theorem lnApplyReport_early (h : ((u.lane n).reports.all fun e => decide (u.tick < e.2.2)) = true) :
    lnApplyReport n u = u := by
  unfold lnApplyReport
  split
  · rfl
  · next d q k r hr =>
    rw [hr, List.all_cons, Bool.and_eq_true, decide_eq_true_eq] at h
    exact if_neg (by simpa using h.1)

theorem takeReport_lane (n : Nat) (r : List (Bool × Nat × Nat)) (u : State) :
    (takeReport n r u).lane n = { u.lane n with reports := r } := by
  rw [takeReport, lane_modLane, if_pos rfl]

/-- Taking a report leaves the estimates. -/
theorem takeReport_lead (d : Bool) : (takeReport n r u).leadE n d = u.leadE n d ∧
    (takeReport n r u).leadR n d = u.leadR n d := by
  simp only [leadE, leadR, takeReport_lane, and_self]

end
end State

/-- Settles O49: the report is taken, and the measurement seeds, moves or is tested against the estimate. -/
theorem leadLearning : Obligations.LeadLearning := by
  refine ⟨fun n d q k r => ?_, fun n d q k r => ?_, fun n => ?_⟩
  · refine arrives_of (f := lnApplyReport n) (fun _ => rfl) ?_
    rintro u ⟨hr, hk, hh⟩
    obtain ⟨he, hc⟩ := takeReport_lead (n := n) (r := r) (u := u) d
    obtain ⟨he', hc'⟩ := takeReport_lead (n := n) (r := r) (u := u) (!d)
    rw [lnApplyReport_due hr hk, lnMeasure_eq (s := takeReport n r u) hh, he, hc]
    obtain ⟨h1, h2, h3⟩ := measured_lane (n := n) (d := d) (q := q) (s := takeReport n r u)
      (u.leadE n d) (u.leadR n d)
    have hregs := measured_regs (n := n) (d := d) (q := q) (s := takeReport n r u)
      (u.leadE n d) (u.leadR n d)
    refine ⟨hregs, measured_kept .., ?_, fun h0 => ?_, fun h0 ho hn => measured_reject h0 ho hn,
      fun h0 ho hn => measured_reseed h0 ho hn, fun h0 hl hu => measured_move h0 hl hu, h2.trans he', h3.trans hc'⟩
    · rw [h1, takeReport_lane]
    · rw [h0]
      exact measured_seed _
  · refine arrives_of (f := lnApplyReport n) (fun _ => rfl) ?_
    rintro u ⟨hr, hk, hh⟩
    rw [lnApplyReport_due hr hk, lnMeasure_held (s := takeReport n r u) hh]
    exact ⟨regsOnly_refl _ u, modLane_kept .., takeReport_lane ..⟩
  · refine arrives_of (f := lnApplyReport n) (fun _ => rfl) fun u h => ?_
    rw [lnApplyReport_early h]
    exact ⟨regsOnly_refl _ u, rfl, rfl⟩

end Sys2Proof.Machine
end

section

/-!
A committed mark joins its lane at the tail or is refused with its code (O48).
-/

namespace Sys2Proof.Machine
open Kept State
namespace State

/-! ### A refused write that leaves a trace (R110) -/

section
variable {m : Nat} {r : Reg} {i : Nat} {v : Word} {s t u : State} {w : Waiting}

/-- A waiting write that its register's own rules refuse leaves what the refusal does. -/
theorem applyWaiting_err (hs : u.served = true) (h : spaceApply w.acc w.addr w.val u = (t, .err)) :
    applyWaiting w u = t := by
  unfold applyWaiting
  simp [hs, h]

/-- The entry that a refused commit leaves among the waiting writes. -/
def shownRefusal (m : Nat) (r : Reg) (i : Nat) (v : Word) (s : State) : Waiting :=
  { acc := { Access.of m with t := s.nowClk }, addr := regAddr r i, val := v, refused := true }

/-- A commit refused by its register's own rules waits, to leave its trace. -/
theorem hold_shown (hl : located r i = true) (hs : refusalShows r = true)
    (h : spaceApply { Access.of m with t := s.nowClk } (regAddr r i) v s.spend.settled = (t, .err)) :
    hold (Access.of m) (regAddr r i) v s =
      ({ s.spend with writes := s.spend.writes ++ [shownRefusal m r i v s] }, .err) := by
  obtain ⟨hat, hvw, hlt, -, -⟩ := located_spec hl
  have hmod : regAddr r i % 4096 = regAddr r i % 1024 := by omega
  unfold hold
  simp only [h, hmod, hat, hs, hlt, decide_true, Bool.and_self, if_true]
  rfl

/-- A commit that only its register's own rules refuse is answered with an error, and the trace of its refusal is left
as it is applied. -/
theorem wr_refused_shown (h2 : 2 ≤ m) (hl : located r i = true) (hi : ∀ (u : State) (c : Access), u.instOf c r i = i)
    (hk : r ≠ .GUARD_KEY) (hn : actsAtOnce r = false) (hkw : r.info.acc ≠ .kw) (hs : refusalShows r = true)
    (hm : s.mayWrite m r i = true) (h : wrRes (accOf m s) r i v (s.meets m r i) = (t, .err)) :
    (wr m r i v s.begin').resp = [.error] ∧ (wr m r i v s.begin').settled = t := by
  rw [mayWrite, Bool.and_eq_true] at hm
  obtain ⟨hma, ht⟩ := hm
  have hserved : (s.meets m r i).served = true := by
    rw [takes, Bool.and_eq_true] at ht
    exact ht.1
  have hclk : (s.metBy m).nowClk = s.nowClk := by
    simp only [metBy, attach]
    split <;> rfl
  have hmeets : (s.metBy m).spend.settled = s.meets m r i := by simp [meets, taken, hkw, when]
  have happ : spaceApply { Access.of m with t := (s.metBy m).nowClk } (regAddr r i) v (s.meets m r i) = (t, .err) := by
    rw [hclk]
    exact (spaceApply_reg _ _ _ _ _ hl (hi _ _) hk ht).trans h
  have hpage : pageWrite (Access.of m) (regAddr r i) v (s.metBy m) = ({ (s.metBy m).spend with
      writes := (s.metBy m).spend.writes ++ [shownRefusal m r i v (s.metBy m)] }, .err) := by
    have hat := (located_spec hl).1
    simp [pageWrite, hat, hk, hkw, hn, hold_shown hl hs (hmeets ▸ happ)]
  rw [wr_of_pageWrite_err h2 hl hma hpage]
  refine ⟨by simp [answer, spend, metBy], ?_⟩
  rw [answer_settled, settled_hold, hmeets]
  exact applyWaiting_err hserved happ

end

/-! ### The refusal codes of a push (R110) -/

section
variable {n : Nat} {m k : Mark} {p q : Bool} {c : Access} {s u : State} {v : Word}

theorem pushCode_lt : s.pushCode n k p q < 16 := by
  unfold pushCode
  split_ifs <;> decide

/-- A record accepted from a master is accepted also where its right is no longer asked for. -/
theorem pushCode_zero_right (h : s.pushCode n k p q = 0) : s.pushCode n k p true = 0 := by
  by_cases h8 : mkAct k = 8
  · cases q
    · unfold pushCode at h
      split_ifs at h
      all_goals simp_all
    · exact h
  · simpa [pushCode, h8] using h

/-- The record that a set of staging words holds (R110). -/
def stagedMark (s : State) (set : Nat) : Mark :=
  ⟨s.get .LN_PUSH0 set, s.get .LN_PUSH1 set, s.get .LN_PUSH2 set, s.get .LN_PUSH3 set⟩

/-- The code that a commit by the access `c` gets. -/
def codeOf (s : State) (c : Access) (n : Nat) : Nat :=
  s.pushCode n (s.stagedMark c.set) (markTarget (s.stagedMark c.set).arg.toNat)
    (s.markRight c (s.stagedMark c.set).arg.toNat)

theorem pushGo_accept (h : s.codeOf c n = 0) : pushGo c n s = (pushAccept c.id n (s.stagedMark c.set) s, .ok) :=
  if_pos h

theorem pushGo_refuse (h : s.codeOf c n ≠ 0) (h6 : s.codeOf c n ≠ 6) :
    pushGo c n s = (s.setFld LN_PUSH_RES_CODE c.id (s.codeOf c n), .err) := by
  have hw : pushGo c n s = (s.setFld LN_PUSH_RES_CODE c.id (s.codeOf c n),
      if s.codeOf c n = 6 then .viol 4 (s.stagedMark c.set).arg.toNat else .err) := if_neg h
  rw [hw, if_neg h6]

theorem wrRes_pushGo : wrRes c .LN_PUSH_GO 0 v s = pushGo c (bitsOf v 9 0) s := by
  have hw : wrRes c .LN_PUSH_GO 0 v s = pushGo c (bitsOf (v &&& 0x3FF#32) 9 0) s := rfl
  have h := bitsOf_and_maskOf (hi := 9) (lo := 0) v (by decide)
  rw [show maskOf 9 0 = 0x3FF#32 by decide] at h
  rw [hw, h]

/-! ### A mark put at the tail (R108, R110) -/

/-- The address of the slot behind the last mark. -/
def tailSlot (s : State) (n : Nat) : Nat := lnSlot n (((s.lane n).head + (s.lane n).fill) % lnDepth n)

theorem lnPut_fill (n : Nat) (k : Mark) (s : State) : ((lnPut n k s).lane n).fill = (s.lane n).fill + 1 := by
  have hl (w : List Word) : ∀ (s : State) (a : Nat), (s.wrWords a w).lanes = s.lanes := by
    induction w with
    | nil => exact fun _ _ => rfl
    | cons x w ih => exact fun s a => ih _ _
  rw [lnPut, lane_modLane, if_pos rfl, lane_of_lanes (hl ..)]

theorem lnPut_get (n : Nat) (k : Mark) (s : State) (r : Reg) (i : Nat) : (lnPut n k s).get r i = s.get r i := by
  rw [lnPut, get_modLane]
  exact get_wrWords ..

/-- The words of a mark, in the order of its slot (R108). -/
def Mark.words (k : Mark) : List Word := [k.w0, k.w1, k.arg, k.data]

theorem lnPut_rdByte (n : Nat) (k : Mark) (s : State) (a : Nat) :
    (lnPut n k s).rdByte a = (s.wrWords (s.tailSlot n) k.words).rdByte a := by
  have h : (lnPut n k s).mem = (s.wrWords (s.tailSlot n) k.words).mem := rfl
  rw [rdByte, h, rdByte]

/-- The sixteen bytes of the slot hold the mark. -/
theorem lnPut_words (n : Nat) (k : Mark) (s : State) : (lnPut n k s).rdWord (s.tailSlot n) = k.w0 ∧
    (lnPut n k s).rdWord (s.tailSlot n + 4) = k.w1 ∧ (lnPut n k s).rdWord (s.tailSlot n + 8) = k.arg ∧
    (lnPut n k s).rdWord (s.tailSlot n + 12) = k.data := by
  have hw (a : Nat) : (lnPut n k s).rdWord a = (s.wrWords (s.tailSlot n) k.words).rdWord a :=
    rdWord_congr fun b _ _ => lnPut_rdByte ..
  have h : (s.wrWords (s.tailSlot n) k.words).rdWords (s.tailSlot n) 4 = [k.w0, k.w1, k.arg, k.data] :=
    rdWords_wrWords k.words s (s.tailSlot n)
  simp only [rdWords, List.cons.injEq, Nat.add_assoc, ← hw] at h
  simpa only [and_true] using h

theorem lnPut_bytes (n : Nat) (k : Mark) (s : State) {a : Nat} (h : a < s.tailSlot n ∨ s.tailSlot n + 16 ≤ a) :
    (lnPut n k s).rdByte a = s.rdByte a := by
  rw [lnPut_rdByte, rdByte_wrWords_ne k.words s (s.tailSlot n) h]

end
end State

theorem located_pushGo : located .LN_PUSH_GO 0 = true := by decide

/-- A record as it stands in a lane: from a master (R108). -/
def State.Mark.byMaster (k : Mark) : Mark := { k with w1 := putBit k.w1 10 false }

section
variable {n id : Nat} {k : Mark} {u : State}

/-- The result of an accepted push: CODE 0 and the next sequence number. -/
def pushResult (id : Nat) (x : State) : State := (x.incMod LN_PUSH_RES_SEQ id).setFld LN_PUSH_RES_CODE id 0

theorem pushResult_code (x : State) : (pushResult id x).fld LN_PUSH_RES_CODE id = 0 :=
  fld_setFld_lt _ LN_PUSH_RES_CODE id 0 (by decide) (by decide)

theorem pushResult_seq (x : State) : (pushResult id x).fld LN_PUSH_RES_SEQ id =
    (x.fld LN_PUSH_RES_SEQ id + 1) % 2 ^ (LN_PUSH_RES_SEQ.hi + 1 - LN_PUSH_RES_SEQ.lo) := by
  rw [pushResult, fld_setFld_other (by decide), incMod, fld_setFld_same _ _ _ _ (by decide)]

theorem pushResult_regs (x : State) : regsOnly [(.LN_PUSH_RES, id)] x (pushResult id x) := by
  have h (f : Field) (hf : f.reg = .LN_PUSH_RES) : (f.reg, id) ∈ [(Reg.LN_PUSH_RES, id)] := by simp [hf]
  rw [pushResult, regsOnly_setFld (h _ rfl), incMod, regsOnly_setFld (h _ rfl)]
  exact regsOnly_refl _ x

theorem pushAccept_eq (hf : (u.lane n).flushDue = false) :
    pushAccept id n k u = pushResult id (lnPut n k.byMaster u) := by
  rw [pushAccept, lnFlushDue, hf]
  rfl

/-- What an accepted push leaves: the mark with HW clear at the tail, its result and its sequence number. -/
theorem pushResult_lnPut (y : Recorder) {t : State} (ht : t = setRecorder y (pushResult id (lnPut n k.byMaster u))) :
    (t.lane n).fill = (u.lane n).fill + 1 ∧ t.fld LN_PUSH_RES_CODE id = 0 ∧
      t.fld LN_PUSH_RES_SEQ id =
        (u.fld LN_PUSH_RES_SEQ id + 1) % 2 ^ (LN_PUSH_RES_SEQ.hi + 1 - LN_PUSH_RES_SEQ.lo) ∧
      t.rdWord (u.tailSlot n) = k.w0 ∧ t.rdWord (u.tailSlot n + 4) = putBit k.w1 10 false ∧
      t.rdWord (u.tailSlot n + 8) = k.arg ∧ t.rdWord (u.tailSlot n + 12) = k.data ∧
      regsOnly [(.LN_PUSH_RES, id)] u t ∧ ∀ a, (a < u.tailSlot n ∨ u.tailSlot n + 16 ≤ a) → t.rdByte a = u.rdByte a := by
  have hmem : t.mem = (lnPut n k.byMaster u).mem := by rw [ht]; rfl
  have hb (a : Nat) : t.rdByte a = (lnPut n k.byMaster u).rdByte a := by rw [rdByte, hmem, rdByte]
  have hw (a : Nat) : t.rdWord a = (lnPut n k.byMaster u).rdWord a := rdWord_congr fun b _ _ => hb b
  have hl : t.lane n = (lnPut n k.byMaster u).lane n := lane_of_lanes (by rw [ht]; rfl) n
  have hg (r : Reg) (i : Nat) : t.get r i = (pushResult id (lnPut n k.byMaster u)).get r i := by
    rw [ht, get_setRecorder]
  obtain ⟨h0, h1, h2, h3⟩ := lnPut_words n k.byMaster u
  have hx : regsOnly [(.LN_PUSH_RES, id)] u (lnPut n k.byMaster u) := regsOnly_of_get fun r i => lnPut_get ..
  have hs := pushResult_seq (id := id) (lnPut n k.byMaster u)
  rw [fld_of_get (lnPut_get ..)] at hs
  refine ⟨?_, ?_, ?_, (hw _).trans h0, (hw _).trans h1, (hw _).trans h2, (hw _).trans h3, ?_, fun a ha => ?_⟩
  · rw [hl, lnPut_fill]
  · rw [fld_of_get (hg ..), pushResult_code]
  · rw [fld_of_get (hg ..), hs]
  · exact (hx.trans (pushResult_regs _)).trans fun r i _ => hg r i
  · rw [hb, lnPut_bytes n k.byMaster u ha]

end

section
variable {m : Nat} {v : Word} {s u : State} (hu : s.meets m .LN_PUSH_GO 0 = u) (hm : s.mayWrite m .LN_PUSH_GO 0 = true)
include hu hm

/-- A commit that passes every test is answered, and leaves what an accepted push does, but for the recorder's notes. -/
theorem wr_pushGo_accepted (hc : u.codeOf (Access.of m) (bitsOf v 9 0) = 0) :
    (wr m .LN_PUSH_GO 0 v s.begin').resp = [.ok 0#32] ∧ ∃ y, (wr m .LN_PUSH_GO 0 v s.begin').settled =
      setRecorder y (pushAccept m (bitsOf v 9 0) (u.stagedMark m) u) := by
  subst hu
  have h0 := (wrRes_pushGo (c := accOf m s) (v := v)).trans (pushGo_accept hc)
  have h1 := (wrRes_pushGo (c := { accOf m s with checked := false }) (v := v)).trans
    (pushGo_accept (pushCode_zero_right hc))
  have hi (c : Access) (_ : c.id = m) (_ : c.set = m) : (s.meets m .LN_PUSH_GO 0).instOf c .LN_PUSH_GO 0 = 0 := rfl
  have e0 := congrArg Prod.snd h0
  have e1 := congrArg Prod.snd h1
  obtain ⟨y, hy⟩ := noted_eq_setRecorder { accOf m s with checked := false } .LN_PUSH_GO 0 v
    (pushAccept m (bitsOf v 9 0) ((s.meets m .LN_PUSH_GO 0).stagedMark m) (s.meets m .LN_PUSH_GO 0))
  refine ⟨(wr_written m .LN_PUSH_GO 0 v s located_pushGo hi (by decide) (by decide) hm e0 e1).1, y, ?_⟩
  rw [(wr_ok m .LN_PUSH_GO 0 v s located_pushGo hi (by decide) (by decide) hm e0 e1).2, h1]
  exact hy

/-- One that a test other than the right's refuses leaves its code. -/
theorem wr_pushGo_refused (h2 : 2 ≤ m) (hc : u.codeOf (Access.of m) (bitsOf v 9 0) ≠ 0)
    (h6 : u.codeOf (Access.of m) (bitsOf v 9 0) ≠ 6) :
    (wr m .LN_PUSH_GO 0 v s.begin').resp = [.error] ∧ (wr m .LN_PUSH_GO 0 v s.begin').settled =
      u.setFld LN_PUSH_RES_CODE m (u.codeOf (Access.of m) (bitsOf v 9 0)) := by
  subst hu
  exact wr_refused_shown h2 located_pushGo (fun _ _ => rfl) (by decide) (by decide) (by decide) (by decide) hm
    (wrRes_pushGo.trans (pushGo_refuse (c := accOf m s) hc h6))

end

end Sys2Proof.Machine
end

section

/-!
Forces, the test of the head marks, and the head that fires (O48).
-/

namespace Sys2Proof.Machine
open Kept State
namespace State

/-! ### A lane's bit: in the row of a register of the local lanes, or a field of LN_RCFG (R104 to R106) -/

/-- The bit of a lane in the rows of `r`, or in the field `f` of the remote lanes. -/
def laneBit (r : Reg) (f : Field) (n : Nat) (s : State) : Bool :=
  if n < 256 then s.rbit r (n / 32) (n % 32) else s.flag f (n - 256)

def setLaneBit (r : Reg) (f : Field) (n : Nat) (b : Bool) (s : State) : State :=
  if n < 256 then s.setRbit r (n / 32) (n % 32) b else s.setFlag f (n - 256) b

/-- The register that holds it. -/
def laneBitReg (r : Reg) (f : Field) (n : Nat) : List (Reg × Nat) :=
  if n < 256 then [(r, n / 32)] else [(f.reg, n - 256)]

section
variable (r : Reg) (f : Field) (n k : Nat) (b : Bool) (s : State)

theorem lnDemand_eq : s.lnDemand n = laneBit .LN_CMD LN_RCFG_CMD n s := rfl
theorem setDemand_eq : setDemand n b s = setLaneBit .LN_CMD LN_RCFG_CMD n b s := rfl
theorem lnForce_eq : s.lnForce n = laneBit .LN_FORCE LN_RCFG_FORCE n s := rfl
theorem setForce_eq : setForce n b s = setLaneBit .LN_FORCE LN_RCFG_FORCE n b s := rfl

theorem setLaneBit_regs : regsOnly (laneBitReg r f n) s (setLaneBit r f n b s) := by
  unfold setLaneBit laneBitReg
  split <;> simp

theorem laneBit_set_same (hf : f.hi < 32) (hl : f.lo ≤ f.hi) : laneBit r f n (setLaneBit r f n b s) = b := by
  unfold laneBit setLaneBit
  split
  · exact rbit_setRbit_same _ _ _ _ _ (by omega)
  · exact flag_setFlag_same _ _ _ _ hf hl

/-- The bits of the other lanes stand. -/
theorem laneBit_set_ne (hr : f.reg ≠ r) (h : k ≠ n) : laneBit r f k (setLaneBit r f n b s) = laneBit r f k s := by
  unfold laneBit setLaneBit
  split_ifs with hk hn
  · rw [rbit, rbit, get_setRbit]
    split_ifs with hi
    · rw [bitAt_putBit_ne _ _ (by omega), hi.2]
    · rfl
  · rw [rbit, rbit, setFlag, get_setFld_other _ _ _ _ _ _ hr.symm]
  · exact congrArg (· != 0) (fld_of_get (get_put_reg hr ..))
  · exact congrArg (· != 0) (fld_setFld_ne _ _ _ _ _ _ (.inr (.inl (by omega))))

/-- A field of another register, or another field of the remote lanes', stands. -/
theorem fld_setLaneBit (g : Field) (i : Nat) (hr : g.reg ≠ r) (hf : g.reg ≠ f.reg ∨ g.hi < f.lo ∨ f.hi < g.lo) :
    (setLaneBit r f n b s).fld g i = s.fld g i := by
  unfold setLaneBit
  split
  · exact fld_put_other _ _ _ _ _ _ hr
  · exact fld_setFld_other hf

theorem setLaneBit_lanes : (setLaneBit r f n b s).lanes = s.lanes := by
  unfold setLaneBit
  split <;> rfl

end

/-! ### The force update (R106) -/

section
variable (n k : Nat) (b : Bool) (s : State)

theorem fld_setForce (g : Field) (i : Nat) (h : g.reg ≠ .LN_FORCE)
    (hf : g.reg ≠ .LN_RCFG ∨ g.hi < 25 ∨ 25 < g.lo) : (setForce n b s).fld g i = s.fld g i :=
  fld_setLaneBit _ LN_RCFG_FORCE _ _ _ g i h hf

theorem lnForced_setForce : (setForce n b s).lnForced k = s.lnForced k := by
  simp (disch := decide) only [lnForced, lnAx, lnApply, axEn, axState, flag, fld_setForce]

theorem lnDemand_setForce : (setForce n b s).lnDemand k = s.lnDemand k := by
  have hg (i : Nat) : (setForce n b s).get .LN_CMD i = s.get .LN_CMD i := by
    refine setLaneBit_regs .LN_FORCE LN_RCFG_FORCE n b s _ _ ?_
    unfold laneBitReg
    split <;> simp [LN_RCFG_FORCE]
  simp (disch := decide) only [lnDemand, rbit, flag, hg, fld_setForce]

/-- The update of a list of lanes sets each of them from its axis, and leaves the others and every demand. -/
theorem each_setForce (l : List Nat) (n : Nat) (s : State) :
    let t := each l (fun n s => setForce n (s.lnForced n) s) s
    t.lnForce n = (if n ∈ l then s.lnForced n else s.lnForce n) ∧ t.lnDemand n = s.lnDemand n := by
  induction l generalizing s with
  | nil => exact ⟨rfl, rfl⟩
  | cons a l ih =>
    obtain ⟨h1, h2⟩ := ih (setForce a (s.lnForced a) s)
    refine ⟨h1.trans ?_, h2.trans (lnDemand_setForce ..)⟩
    rw [lnForced_setForce]
    by_cases hn : n = a
    · subst hn
      rw [if_pos List.mem_cons_self, lnForce_eq, setForce_eq, laneBit_set_same _ _ _ _ _ (by decide) (by decide), ite_self]
    · rw [lnForce_eq, setForce_eq, laneBit_set_ne _ _ _ _ _ _ (by decide) hn]
      simp [hn, lnForce_eq]

theorem forceUpdate_holds (h : n < 768) :
    (forceUpdate s).lnForce n = s.lnForced n ∧ (forceUpdate s).lnDemand n = s.lnDemand n := by
  obtain ⟨h1, h2⟩ := each_setForce (List.range 768) n s
  exact ⟨h1.trans (if_pos (List.mem_range.2 h)), h2⟩

/-! ### The test of a head mark (R115, R122) -/

theorem lnTest_some (s : State) (n : Nat) (f : Fire) : s.lnTest n = some f ↔
    s.lnEn n = true ∧ (s.lane n).fill ≠ 0 ∧ f.lane = n ∧
      f.past = markPast (s.headMark n) (s.predict n (s.markLead n (s.headMark n))) ∧ 0 ≤ f.past ∧
      (f.late = true ↔ (s.lane n).tested = false ∧
        0 ≤ markPast (s.headMark n) (s.predictPrev n (s.markLead n (s.headMark n)))) := by
  obtain ⟨k, late, past⟩ := f
  simp only [lnTest]
  by_cases he : s.lnEn n = true ∧ (s.lane n).fill ≠ 0
  · obtain ⟨hen, hfill⟩ := he
    rw [if_pos (by simp [hen, hfill])]
    split_ifs with hd
    · simp only [Option.some.injEq, Fire.mk.injEq, Bool.eq_iff_iff (b := late), Bool.and_eq_true, Bool.not_eq_true',
        decide_eq_true_eq]
      constructor
      · rintro ⟨rfl, hl, rfl⟩
        exact ⟨hen, hfill, rfl, rfl, hd, hl.symm⟩
      · rintro ⟨-, -, rfl, rfl, -, hl⟩
        exact ⟨rfl, hl.symm, rfl⟩
    · refine ⟨nofun, ?_⟩
      rintro ⟨-, -, -, rfl, h, -⟩
      exact absurd h hd
  · rw [if_neg (by simpa using he)]
    exact ⟨nofun, fun h => absurd ⟨h.1, h.2.1⟩ he⟩

end
end State
end Sys2Proof.Machine
end

section

/-!
A mark fires (O48): it leaves its lane and is counted, and has its effect.
-/

namespace Sys2Proof.Machine
open Kept State
namespace State

/-! ### The head leaves its lane (R115) -/

/-- The lane's mark has left it and is counted. -/
def fired (n : Nat) (s : State) : State := (lnPop n s).put .LN_CNT_FIRE 0 (s.get .LN_CNT_FIRE 0 + 1#32)

/-- What a mark that fires does to its lane and the count, with `l` the registers of its effect. -/
structure Fires (n : Nat) (l : List (Reg × Nat)) (s t : State) : Prop where
  lane : t.lane n =
    { s.lane n with head := ((s.lane n).head + 1) % lnDepth n, fill := (s.lane n).fill - 1, tested := false }
  count : t.get .LN_CNT_FIRE 0 = s.get .LN_CNT_FIRE 0 + 1#32
  only : State.only ([(.LN_CNT_FIRE, 0)] ++ l) s t

section
variable {n : Nat} {d : Int} {l : List (Reg × Nat)} {s t : State} {mw : Word → Word → State → State × Bool}

theorem fired_get {r : Reg} (h : r ≠ .LN_CNT_FIRE) (i : Nat) : (fired n s).get r i = s.get r i := get_put_reg h ..

theorem fires_of_fired (hl : t.lanes = (fired n s).lanes) (hr : regsOnly l (fired n s) t) (hm : (.LN_CNT_FIRE, 0) ∉ l)
    (hk : t.kept = (fired n s).kept) : Fires n l s t := by
  have h0 : regsOnly ([(.LN_CNT_FIRE, 0)] ++ l) s (fired n s) :=
    (regsOnly_put (r := .LN_CNT_FIRE) (i := 0) (t := lnPop n s) (by simp)).2 (regsOnly_refl _ s)
  refine ⟨?_, ?_, h0.trans (hr.mono fun r i h => List.mem_append_right _ h), fun a => ?_⟩
  · have hf : (fired n s).lane n = (lnPop n s).lane n := lane_of_lanes (put_lanes ..) n
    rw [lane_of_lanes hl, hf, lnPop, lane_modLane, if_pos rfl]
  · rw [hr _ _ hm]
    exact get_put_same ..
  · exact rdByte_of_kept (hk.trans ((put_kept ..).trans (lnPop_kept ..))) a

/-- A mark that is no WRITE and in time. -/
theorem fireMark_act (h : mkAct (s.headMark n) ≠ 8) :
    fireMark mw ⟨n, false, d⟩ s = markAct n (s.headMark n) (fired n s) := if_neg h

theorem fireMark_late (h : mkAct (s.headMark n) ≠ 8) :
    fireMark mw ⟨n, true, d⟩ s = markAct n (s.headMark n) (markLate n (s.headMark n) d (fired n s)) := if_neg h

theorem fireMark_write (h : mkAct (s.headMark n) = 8) {x : State × Bool}
    (hx : mw (s.headMark n).arg (s.headMark n).data (fired n s) = x) :
    fireMark mw ⟨n, false, d⟩ s = if x.2 then x.1 else mwError n (s.headMark n) (fired n s) := by
  subst hx
  exact if_pos h

end

/-! ### ON, OFF and EVENT (R109) -/

section
variable (n : Nat) (b : Bool) (m : Mark) (s : State)

/-- A demand set, with the template of a remote lane asked for. -/
def demanded (n : Nat) (b : Bool) (s : State) : State :=
  when (decide (256 ≤ n)) (modTpl (s.lnTpl n) fun t => { t with asked := true }) (setDemand n b s)

theorem markAct_on (h : mkAct m = 1) : markAct n m s = demanded n true s := by
  simp only [markAct, h]
  rfl

theorem markAct_off (h : mkAct m = 2) : markAct n m s = demanded n false s := by
  simp only [markAct, h]
  rfl

theorem demanded_get (r : Reg) (i : Nat) : (demanded n b s).get r i = (setDemand n b s).get r i := by
  unfold demanded when
  split <;> rfl

theorem demanded_lanes : (demanded n b s).lanes = s.lanes := by
  have h : (setDemand n b s).lanes = s.lanes := setLaneBit_lanes ..
  rw [← h]
  unfold demanded when
  split <;> rfl

theorem demanded_kept : (demanded n b s).kept = s.kept := by
  unfold demanded when
  split <;> simp

theorem lnDemand_congr {s t : State} (h : ∀ i, t.get .LN_CMD i = s.get .LN_CMD i)
    (h' : ∀ i, t.get .LN_RCFG i = s.get .LN_RCFG i) (n : Nat) : t.lnDemand n = s.lnDemand n := by
  have hf (i : Nat) : t.flag LN_RCFG_CMD i = s.flag LN_RCFG_CMD i := congrArg (· != 0) (fld_of_get (h' i))
  rw [lnDemand, lnDemand, rbit, rbit, h, hf]

theorem lnDemand_demanded : (demanded n b s).lnDemand n = b ∧
    ∀ k ≠ n, (demanded n b s).lnDemand k = s.lnDemand k := by
  have hg := lnDemand_congr (s := setDemand n b s) (t := demanded n b s) (fun _ => demanded_get ..) fun _ =>
    demanded_get ..
  refine ⟨?_, fun k hk => ?_⟩
  · rw [hg, setDemand_eq, lnDemand_eq, laneBit_set_same _ _ _ _ _ (by decide) (by decide)]
  · rw [hg, setDemand_eq, lnDemand_eq, laneBit_set_ne _ _ _ _ _ _ (by decide) hk, ← lnDemand_eq]

theorem demanded_regs : regsOnly (laneBitReg .LN_CMD LN_RCFG_CMD n) s (demanded n b s) := fun r i h =>
  (demanded_get ..).trans (setLaneBit_regs .LN_CMD LN_RCFG_CMD n b s r i h)

theorem fired_notin_laneBitReg : (Reg.LN_CNT_FIRE, 0) ∉ laneBitReg .LN_CMD LN_RCFG_CMD n := by
  unfold laneBitReg
  split <;> simp [LN_RCFG_CMD]

/-- A mark that sets the demand of its lane. -/
theorem demanded_fired : Fires n (laneBitReg .LN_CMD LN_RCFG_CMD n) s (demanded n b (fired n s)) ∧
    (demanded n b (fired n s)).lnDemand n = b ∧ ∀ k ≠ n, (demanded n b (fired n s)).lnDemand k = s.lnDemand k := by
  obtain ⟨h1, h2⟩ := lnDemand_demanded n b (fired n s)
  have hg := lnDemand_congr (s := s) (t := fired n s) (fun _ => fired_get (by decide) _) fun _ => fired_get (by decide) _
  have hr := demanded_regs n b (fired n s)
  exact ⟨fires_of_fired (demanded_lanes ..) hr (fired_notin_laneBitReg n) (demanded_kept ..), h1,
    fun k hk => (h2 k hk).trans (hg k)⟩

theorem markAct_event (h : mkAct m = 5) : markAct n m s = log41 n noCause (56 + bitsOf m.arg 2 0) s.T
    [BitVec.ofNat 32 (mkTag m)] (raise (56 + bitsOf m.arg 2 0) s) := by
  simp only [markAct, h]

/-- An event with its record in the general log. -/
theorem logged_raise (e i c t : Nat) (w : List Word) (he : (evtHome e).2 < 32) :
    (log41 i c e t w (raise e s)).lanes = s.lanes ∧ regsOnly (evtRegs e) s (log41 i c e t w (raise e s)) ∧
      (log41 i c e t w (raise e s)).kept = s.kept ∧ (log41 i c e t w (raise e s)).pends e = true := by
  have hg (r : Reg) (j : Nat) : (log41 i c e t w (raise e s)).get r j = (raise e s).get r j := get_logTo ..
  refine ⟨rfl, ?_, by simp, ?_⟩
  · rw [regsOnly_congr fun r j _ => hg r j]
    simp
  · rw [pends_congr _ (hg ..), pends_raise _ _ _ he, decide_eq_true rfl, Bool.or_true]

end

/-! ### WRITE marks on AX_STEP (R125) -/

section
variable {c : Access} {n i : Nat} {v : Word} {s u : State}

theorem axStep_page : ∀ i : Fin 32, wrPage .AX_STEP i = regPage .AX_STEP i ∧ 0x40 ≤ wrOff .AX_STEP i ∧
    (BitVec.ofNat 32 (regAddr .AX_STEP i)).toNat = regAddr .AX_STEP i := by decide

/-- A write without checks reaches a register that its page does not hold in a domain reset. -/
theorem spaceApply_open {r : Reg} (hl : located r i = true) (hi : u.instOf c r i = i) (hk : r ≠ .GUARD_KEY)
    (hd : u.flag PAGE_STAT_DRST_BUSY (wrPage r i) = false) : spaceApply c (regAddr r i) v u = wrRes c r i v u := by
  obtain ⟨hat, hvw, hlt, -, -⟩ := located_spec hl
  have hvw0 : regAddr r i % 4096 / 1024 = 0 := by omega
  rw [wrPage] at hd
  rw [spaceApply, bitAlias_reg hlt]
  cases hacc : r.info.acc <;> simp only [regWrite, wrRes, hat, hi, hvw0, aliasVal, hk, hd, hacc, Bool.false_and,
    if_true, if_false, Bool.false_eq_true]

/-- In a domain reset it is refused (R47). -/
theorem spaceApply_busy {r : Reg} (hl : located r i = true) (ho : 0x40 ≤ wrOff r i)
    (hd : u.flag PAGE_STAT_DRST_BUSY (wrPage r i) = true) : spaceApply c (regAddr r i) v u = (u, .err) := by
  obtain ⟨hat, -, hlt, -, -⟩ := located_spec hl
  rw [wrPage] at hd
  rw [wrOff] at ho
  rw [spaceApply, bitAlias_reg hlt]
  simp only [regWrite, hat, hd, ho, decide_true, Bool.and_self, if_true]

/-- The steps of a marked write, made in phase 2 of the next tick (R98, R125). -/
def markedStep (i : Nat) (v : Word) (s : State) : State := modAx i (fun a => { a with stepDue := a.stepDue + wint v }) s

theorem wrRes_axStep_marked (h : c.marked = true) (he : u.axEn i = true) (ht : u.axType i = 6) :
    wrRes c .AX_STEP i v u = (markedStep i v u, .ok) := by
  have hm : v &&& 0xFFFFFFFF#32 = v := BitVec.and_allOnes
  have hw : wrRes c .AX_STEP i v u = (axStep i (v &&& 0xFFFFFFFF#32) c.marked u, .ok) := rfl
  rw [hw, hm, h]
  simp [axStep, markedStep, he, ht, tSoft]

/-- The access of an axis-marked write, and the state it is made in: the coming tick is the present one. -/
def markAccess (s : State) : Access := { id := 0, set := 0, t := 2000 * s.tick, checked := false, marked := true }
def stepBack (s : State) : State := { s with tick := s.tick - 1 }

theorem markedWrite_eq (a : Nat) : markedWrite a v s =
    ({ (spaceApply (markAccess s) a v (stepBack s)).1 with tick := s.tick },
      (spaceApply (markAccess s) a v (stepBack s)).2 == .ok) := rfl

theorem markedWrite_axStep (i : Fin 32) (he : s.axEn i = true) (ht : s.axType i = 6)
    (hd : s.flag PAGE_STAT_DRST_BUSY (regPage .AX_STEP i) = false) :
    markedWrite (regAddr .AX_STEP i) v s = (markedStep i v s, true) := by
  obtain ⟨hp, -, -⟩ := axStep_page i
  have hd' : (stepBack s).flag PAGE_STAT_DRST_BUSY (wrPage .AX_STEP i) = false := by
    rw [hp]
    exact hd
  have hw := wrRes_axStep_marked (c := markAccess s) (v := v) (u := stepBack s) rfl he ht
  rw [markedWrite_eq, spaceApply_open (located_axStep i) rfl (by decide) hd', hw]
  rfl

theorem markedWrite_busy (i : Fin 32) (hd : s.flag PAGE_STAT_DRST_BUSY (regPage .AX_STEP i) = true) :
    (markedWrite (regAddr .AX_STEP i) v s).2 = false := by
  obtain ⟨hp, ho, -⟩ := axStep_page i
  have hd' : (stepBack s).flag PAGE_STAT_DRST_BUSY (wrPage .AX_STEP i) = true := by
    rw [hp]
    exact hd
  rw [markedWrite_eq, spaceApply_busy (located_axStep i) ho hd']
  rfl

/-- A WRITE without effect is counted, with its event (R125). -/
theorem mwError_holds (n : Nat) (m : Mark) (s : State) : (mwError n m s).lanes = s.lanes ∧
    regsOnly ([(.LN_CNT_ERR, 0)] ++ evtRegs 55) s (mwError n m s) ∧ (mwError n m s).pends 55 = true ∧
    (mwError n m s).axes = s.axes := by
  obtain ⟨hl, hr, -, hp⟩ := logged_raise (s.incSat LN_CNT_ERR_MW_ERR 0) 55 n noCause s.T
    [BitVec.ofNat 32 (mkTag m)] (by decide)
  have h0 : regsOnly ([(.LN_CNT_ERR, 0)] ++ evtRegs 55) s (s.incSat LN_CNT_ERR_MW_ERR 0) :=
    (regsOnly_incSat (f := LN_CNT_ERR_MW_ERR) (by simp [LN_CNT_ERR_MW_ERR])).2 (regsOnly_refl _ s)
  exact ⟨hl, h0.trans (hr.mono fun r i h => List.mem_append_right _ h), hp, rfl⟩

end

/-! ### Late marks (R122) -/

section
variable (n : Nat) (m : Mark) (past : Int) (t : Nat) (s : State)

/-- The registers of a late mark's record. -/
def lateRegs : List (Reg × Nat) :=
  ofInst [.LN_LLOG_LANE, .LN_LLOG_SHORT, .LN_LLOG_TIME_LO, .LN_LLOG_TIME_HI, .LN_CNT_ERR, .MOD_FAULT] 0 ++ evtRegs 48 ++
    ofAll [.LN_LATE] 8 ++ ofAll [.LN_RLATE] 16

/-- The lane's bit set, and the log written. -/
def lateSet (n : Nat) (s : State) : State :=
  if n < 256 then s.setRbit .LN_LATE (n / 32) (n % 32) true else s.setRbit .LN_RLATE ((n - 256) / 32) (n % 32) true

def lateNoted (n : Nat) (m : Mark) (past : Int) (t : Nat) (s : State) : State :=
  ((((lateSet n s).put .LN_LLOG_LANE 0 (markWord n m)).put .LN_LLOG_SHORT 0
    (BitVec.ofNat 32 (min past.toNat (2 ^ 32 - 1)))).put64 .LN_LLOG_TIME_LO .LN_LLOG_TIME_HI 0 t).incSat LN_CNT_ERR_LATE 0

theorem markLate_eq : ∃ t t' w, markLate n m past s =
    depart (raiseLog 48 n noCause t w (lateNoted n m past t' s)) := ⟨_, _, _, rfl⟩

theorem depart_lanes : (depart s).lanes = s.lanes := rfl
theorem raise_lanes (e : Nat) : (raise e s).lanes = s.lanes := rfl

theorem log38_lanes (i c e stamp : Nat) (w : List Word) : (log38 i c e stamp w s).lanes = s.lanes := by
  unfold log38
  split <;> rfl

theorem markLate_lanes : (markLate n m past s).lanes = s.lanes := by
  obtain ⟨t, t', w, he⟩ := markLate_eq n m past s
  have h : (lateSet n s).lanes = s.lanes := by
    unfold lateSet
    split <;> rfl
  have hn : (lateNoted n m past t' s).lanes = (lateSet n s).lanes := by
    rw [lateNoted, incSat, setFld, put_lanes, put64, put_lanes, put_lanes, put_lanes, put_lanes]
  rw [he, depart_lanes, raiseLog, log38_lanes, raise_lanes, hn, h]

theorem lateSet_regs (hn : n < 768) : regsOnly lateRegs s (lateSet n s) := by
  have h1 : (.LN_LATE, n / 32) ∈ lateRegs ∨ 256 ≤ n := by
    simp [lateRegs]
    omega
  have h2 : (.LN_RLATE, (n - 256) / 32) ∈ lateRegs := by
    simp [lateRegs]
    omega
  unfold lateSet
  split_ifs with h
  · exact (regsOnly_setRbit (h1.resolve_right (by omega))).2 (regsOnly_refl _ s)
  · exact (regsOnly_setRbit h2).2 (regsOnly_refl _ s)

theorem lateRegs_mem : (.LN_LLOG_LANE, 0) ∈ lateRegs ∧ (.LN_LLOG_SHORT, 0) ∈ lateRegs ∧
    (.LN_LLOG_TIME_LO, 0) ∈ lateRegs ∧ (.LN_LLOG_TIME_HI, 0) ∈ lateRegs ∧ (LN_CNT_ERR_LATE.reg, 0) ∈ lateRegs ∧
    (.MOD_FAULT, 0) ∈ lateRegs ∧ (.EVT_PEND, (evtHome 48).1) ∈ lateRegs ∧
    (.EVT_RAW, (evtHome 48).1) ∈ lateRegs := by decide

theorem markLate_regs (hn : n < 768) : regsOnly lateRegs s (markLate n m past s) := by
  obtain ⟨t, t', w, he⟩ := markLate_eq n m past s
  obtain ⟨h1, h2, h3, h4, h5, h6, h7, h8⟩ := lateRegs_mem
  rw [he, regsOnly_depart h6, regsOnly_raiseLog h7 h8, lateNoted, regsOnly_incSat h5, put64, regsOnly_put h4,
    regsOnly_put h3, regsOnly_put h2, regsOnly_put h1]
  exact lateSet_regs n s hn

theorem lateNoted_get {r : Reg} (h1 : r ≠ .LN_LLOG_LANE) (h2 : r ≠ .LN_LLOG_SHORT) (h3 : r ≠ .LN_LLOG_TIME_LO)
    (h4 : r ≠ .LN_LLOG_TIME_HI) (h5 : r ≠ .LN_CNT_ERR) (i : Nat) :
    (lateNoted n m past t s).get r i = (lateSet n s).get r i := by
  rw [lateNoted, incSat, get_setFld_other _ _ _ _ _ _ h5, put64, get_put_reg h4, get_put_reg h3, get_put_reg h2,
    get_put_reg h1]

theorem lateNoted_short : (lateNoted n m past t s).get .LN_LLOG_SHORT 0 =
    BitVec.ofNat 32 (min past.toNat (2 ^ 32 - 1)) := by
  rw [lateNoted, incSat, get_setFld_other _ _ _ _ _ _ (by decide), put64, get_put_reg (by decide),
    get_put_reg (by decide), get_put_same]

theorem markLate_get : ∃ t, ∀ r ≠ .MOD_FAULT, r ≠ .EVT_PEND → r ≠ .EVT_RAW → ∀ i,
    (markLate n m past s).get r i = (lateNoted n m past t s).get r i := by
  obtain ⟨t, t', w, he⟩ := markLate_eq n m past s
  exact ⟨t', fun r hf hp hr i => by rw [he, get_depart _ _ _ hf, get_raiseLog _ _ _ _ _ _ _ _ hp hr]⟩

theorem lateSet_bit : (if n < 256 then (lateSet n s).rbit .LN_LATE (n / 32) (n % 32) else
    (lateSet n s).rbit .LN_RLATE ((n - 256) / 32) (n % 32)) = true := by
  unfold lateSet
  split
  · exact rbit_setRbit_same _ _ _ _ _ (by omega)
  · exact rbit_setRbit_same _ _ _ _ _ (by omega)

/-- A late mark sets its lane's bit, is logged, raises E048 and leaves the promise. -/
theorem markLate_holds : (if n < 256 then (markLate n m past s).rbit .LN_LATE (n / 32) (n % 32) else
      (markLate n m past s).rbit .LN_RLATE ((n - 256) / 32) (n % 32)) = true ∧
    (markLate n m past s).pends 48 = true ∧
    (markLate n m past s).get .LN_LLOG_SHORT 0 = BitVec.ofNat 32 (min past.toNat (2 ^ 32 - 1)) ∧
    ¬ (markLate n m past s).promised := by
  obtain ⟨t, hg⟩ := markLate_get n m past s
  refine ⟨?_, ?_, ?_, ?_⟩
  · have hb := lateSet_bit n s
    rwa [rbit, rbit, hg _ (by decide) (by decide) (by decide), hg _ (by decide) (by decide) (by decide),
      lateNoted_get _ _ _ _ _ (by decide) (by decide) (by decide) (by decide) (by decide),
      lateNoted_get _ _ _ _ _ (by decide) (by decide) (by decide) (by decide) (by decide)]
  · obtain ⟨t, t', w, he⟩ := markLate_eq n m past s
    rw [he, depart, pends_setFlag _ _ _ _ _ (by decide), pends_raiseLog _ _ _ _ _ _ _ (by decide)]
    simp
  · rw [hg _ (by decide) (by decide) (by decide), lateNoted_short]
  · obtain ⟨t, t', w, he⟩ := markLate_eq n m past s
    rw [promised, he, depart_promise]
    decide

theorem markAct_none (h : mkAct m = 0) : markAct n m s = s := by
  simp only [markAct, h]

end
end State

section
variable {n : Nat} {d : Int} {s : State} {mw : Word → Word → State → State × Bool}

/-- ON and OFF, as the mark fires. -/
theorem fireMark_demand (h : mkAct (s.headMark n) = 1 ∨ mkAct (s.headMark n) = 2) :
    fireMark mw ⟨n, false, d⟩ s = demanded n (decide (mkAct (s.headMark n) = 1)) (fired n s) := by
  rw [fireMark_act (by omega)]
  rcases h with h | h
  · rw [markAct_on _ _ _ h, h]
    rfl
  · rw [markAct_off _ _ _ h, h]
    rfl

theorem evtHome_mark : ∀ k : Fin 8, (evtHome (56 + k)).2 < 32 := by decide

theorem evtRegs_mark {k : Nat} (hk : k < 8) {r : Reg} {i : Nat} (h : (r, i) ∈ evtRegs (56 + k)) :
    (r, i) ∈ (List.range 8).flatMap fun e => evtRegs (56 + e) :=
  List.mem_flatMap.2 ⟨k, List.mem_range.2 hk, h⟩

/-- EVENT, as the mark fires. -/
theorem fireMark_event (h : mkAct (s.headMark n) = 5) :
    Fires n ((List.range 8).flatMap fun e => evtRegs (56 + e)) s (fireMark mw ⟨n, false, d⟩ s) ∧
      (fireMark mw ⟨n, false, d⟩ s).pends (56 + bitsOf (s.headMark n).arg 2 0) = true := by
  have hk : bitsOf (s.headMark n).arg 2 0 < 8 := bitsOf_lt _ 2 0
  rw [fireMark_act (by omega), markAct_event _ _ _ h]
  obtain ⟨hl, hr, hkept, hp⟩ := logged_raise (fired n s) (56 + bitsOf (s.headMark n).arg 2 0) n noCause (fired n s).T
    [BitVec.ofNat 32 (mkTag (s.headMark n))] (evtHome_mark ⟨_, hk⟩)
  exact ⟨fires_of_fired hl (hr.mono fun r i => evtRegs_mark hk) (by simp) hkept, hp⟩

/-- A WRITE to AX_STEP of an enabled axis of that type, as the mark fires. -/
theorem fireMark_step {i : Fin 32} (h : mkAct (s.headMark n) = 8)
    (ha : (s.headMark n).arg = BitVec.ofNat 32 (regAddr .AX_STEP i)) (he : s.axEn i = true) (ht : s.axType i = 6)
    (hd : s.flag PAGE_STAT_DRST_BUSY (regPage .AX_STEP i) = false) :
    fireMark (fun a v => markedWrite a.toNat v) ⟨n, false, d⟩ s =
      markedStep i (s.headMark n).data (fired n s) := by
  have hf (f : Field) (j : Nat) (hr : f.reg ≠ .LN_CNT_FIRE) : (fired n s).fld f j = s.fld f j :=
    fld_of_get (fired_get hr j)
  have hw := markedWrite_axStep (v := (s.headMark n).data) (s := fired n s) i
    ((congrArg (· != 0) (hf AX_CFG_EN i (by decide))).trans he) ((hf AX_CFG_TYPE i (by decide)).trans ht)
    ((congrArg (· != 0) (hf PAGE_STAT_DRST_BUSY _ (by decide))).trans hd)
  rw [← (axStep_page i).2.2, ← ha] at hw
  rw [fireMark_write h hw, if_pos rfl]

theorem fireMark_step_busy {i : Fin 32} (h : mkAct (s.headMark n) = 8)
    (ha : (s.headMark n).arg = BitVec.ofNat 32 (regAddr .AX_STEP i))
    (hd : s.flag PAGE_STAT_DRST_BUSY (regPage .AX_STEP i) = true) :
    fireMark (fun a v => markedWrite a.toNat v) ⟨n, false, d⟩ s = mwError n (s.headMark n) (fired n s) := by
  have hd' : (fired n s).flag PAGE_STAT_DRST_BUSY (regPage .AX_STEP i) = true :=
    (congrArg (· != 0) (fld_of_get (fired_get (by decide) _))).trans hd
  have hw := markedWrite_busy (v := (s.headMark n).data) (s := fired n s) i hd'
  rw [← (axStep_page i).2.2, ← ha] at hw
  rw [fireMark_write h rfl, hw]
  rfl

end

end Sys2Proof.Machine
end

section

/-!
Marks are pushed, tested and fire: O48 settled, each clause by the lemma of its case.
-/

namespace Sys2Proof.Machine
open Kept State

section
variable {n : Nat} {i : Fin 32} {d : Int} {s : State}

theorem fires_step (v : Word) : Fires n [] s (markedStep i v (fired n s)) ∧
    ((markedStep i v (fired n s)).ax i).stepDue = (s.ax i).stepDue + wint v := by
  refine ⟨fires_of_fired rfl (fun _ _ _ => rfl) (by simp) (modAx_kept ..), ?_⟩
  rw [markedStep, ax_modAx, if_pos rfl]
  rfl

theorem fires_mwError (m : Mark) : Fires n ([(.LN_CNT_ERR, 0)] ++ evtRegs 55) s (mwError n m (fired n s)) ∧
    (mwError n m (fired n s)).pends 55 = true ∧ (mwError n m (fired n s)).axes = s.axes := by
  obtain ⟨hl, hr, hp, ha⟩ := mwError_holds n m (fired n s)
  exact ⟨fires_of_fired hl hr (by simp) (mwError_kept ..), hp, ha⟩

theorem fires_late (m : Mark) (hn : n < 768) : Fires n lateRegs s (markLate n m d (fired n s)) :=
  fires_of_fired (markLate_lanes ..) (markLate_regs _ _ _ _ hn) (by decide) (markLate_kept ..)

end

/-- Settles O48: the push by what its tests make of it, the fire by the action of the mark. -/
theorem marksArePushed : Obligations.MarksArePushed := by
  refine ⟨?_, ?_, fun n s => forceUpdate_holds n s n.isLt, fun n s f => lnTest_some s n f, ?_, ?_, ?_, ?_, ?_⟩
  · intro m v s u n k l hm hc hf
    obtain ⟨hr, y, hy⟩ := wr_pushGo_accepted rfl hm hc
    rw [pushAccept_eq hf] at hy
    exact ⟨_, _, rfl, hr, rfl, pushResult_lnPut y hy⟩
  · intro m v s u n k c h2 hm hc h6
    obtain ⟨hr, hset⟩ := wr_pushGo_refused rfl hm h2 hc h6
    refine ⟨_, _, rfl, hr, rfl, ?_⟩
    rw [hset]
    have hr : regsOnly [(.LN_PUSH_RES, m.val)] u (u.setFld LN_PUSH_RES_CODE m c) :=
      (regsOnly_setFld (f := LN_PUSH_RES_CODE) List.mem_cons_self).2 (regsOnly_refl _ u)
    exact ⟨fld_setFld_lt _ _ _ _ (by decide) pushCode_lt, rfl, hr, fun _ => rfl⟩
  · intro n d s h t
    obtain ⟨⟨hl, hc, ho⟩, hd, hk⟩ := demanded_fired n (decide (mkAct (s.headMark n) = 1)) s
    have hf : t = _ := fireMark_demand h
    rw [hf]
    exact ⟨hl, hc, hd, fun k => hk k, ho⟩
  · intro n d s h t
    obtain ⟨⟨hl, hc, ho⟩, hp⟩ := fireMark_event (d := d) (mw := fun a v => markedWrite a.toNat v) h
    exact ⟨hl, hc, hp, ho⟩
  · intro n d i s h ha he ht hd t
    have hf : t = _ := fireMark_step h ha he ht hd
    obtain ⟨⟨hl, hc, ho⟩, hs⟩ := fires_step (n := n) (i := i) (s := s) (s.headMark n).data
    rw [hf]
    exact ⟨hl, hc, hs, ho⟩
  · intro n d i s h ha hd t
    have hf : t = _ := fireMark_step_busy h ha hd
    obtain ⟨⟨hl, hc, ho⟩, hp, hx⟩ := fires_mwError (n := n) (s := s) (s.headMark n)
    rw [hf]
    exact ⟨hl, hc, hp, hx, ho⟩
  · intro n d s h t
    have hf : t = markLate n (s.headMark n) d (fired n s) := by
      rw [← markAct_none n _ (markLate n (s.headMark n) d (fired n s)) h]
      exact fireMark_late (by omega)
    obtain ⟨hl, hc, ho⟩ := fires_late (d := d) (s := s) (s.headMark n) n.isLt
    obtain ⟨hb, hp, hs, hpr⟩ := markLate_holds n (s.headMark n) d (fired n s)
    rw [hf]
    exact ⟨hl, hc, hb, hp, hs, hpr, ho⟩

end Sys2Proof.Machine
end

section

/-!
A template's frames: queued where the transmit FIFO has room, lost where it has none, or waiting for the gap (O12).
-/

namespace Sys2Proof.Machine
open Kept State
namespace State

/-! ### Templates and queues -/

section
variable (x q t : Nat) (s : State) (w : List Word)

theorem tpl_modTpl (f : Tpl → Tpl) : (modTpl x f s).tpl x = f (s.tpl x) := SMap.get_set_same ..

theorem tpl_of_tpls {s t : State} (h : t.tpls = s.tpls) (x : Nat) : t.tpl x = s.tpl x := by rw [tpl, tpl, h]

theorem frame_modTpl (l : List (Reg × Nat)) (M : Nat → Bool) (f : Tpl → Tpl) : Frame l M s (modTpl x f s) :=
  .of_regs (fun _ _ _ => rfl) rfl rfl rfl

theorem cause_tpls (er mr : Reg) (i b e : Nat) : (cause er mr i b e s).tpls = s.tpls := by
  simp only [cause]
  split <;> rfl

theorem wrWords_tpls (w : List Word) : ∀ (s : State) (a : Nat), (s.wrWords a w).tpls = s.tpls := by
  induction w with
  | nil => exact fun _ _ => rfl
  | cons y w ih => exact fun s a => ih _ _

theorem qStat_tpls : (qStat q s).tpls = s.tpls := rfl

theorem qSetTail_tpls : (qSetTail q t s).tpls = s.tpls := by
  obtain h | h := qSetTail_cases q t s <;> rw [h]
  · rw [qStat_tpls, setFld, put_tpls]
  · rw [qCause, cause_tpls, qStat_tpls, setFld, put_tpls]

theorem log38_tpls (i c e stamp : Nat) (d : List Word) : (log38 i c e stamp d s).tpls = s.tpls := by
  unfold log38
  split <;> rfl

/-- A queue with room takes what it is offered, in its slot. -/
theorem qOfferRaw_roomy (h : s.roomy q = true) :
    qOfferRaw q (fun _ => w) s = (qOffer q t (fun _ => w) s, true) := by
  have hoff := qOffer_roomy q t s w h
  rw [roomy, Bool.and_eq_true, decide_eq_true_eq] at h
  obtain ⟨he, hr⟩ := h
  rw [hoff]
  unfold qOfferRaw
  dsimp only
  rw [show (qSeqInc q s).flag Q_GEOM_EN q = true from he,
    if_neg (by decide), if_pos (show (qSeqInc q s).qFill q < (qSeqInc q s).qN q from hr)]
  rfl

theorem qOffer_tpls (h : s.roomy q = true) : (qOffer q t (fun _ => w) s).tpls = s.tpls := by
  rw [qOffer_roomy q t s w h, qSetTail_tpls, wrWords_tpls]
  rfl

/-- A full queue that drops nothing rejects (R394). -/
theorem qOfferRaw_full (he : s.flag Q_GEOM_EN q = true) (hf : s.qN q ≤ s.qFill q) (hd : qDet q = true) :
    qOfferRaw q (fun _ => w) s = (qReject q 1 (qSeqInc q s), false) := by
  unfold qOfferRaw
  dsimp only
  rw [show (qSeqInc q s).flag Q_GEOM_EN q = true from he, if_neg (by decide),
    if_neg (show ¬ (qSeqInc q s).qFill q < (qSeqInc q s).qN q from Nat.not_lt.2 hf), hd]
  simp

end

/-! ### A frame that is sent (R127, R129) -/

section
variable {x q : Nat} {s : State}

/-- The transmit FIFO of a template. -/
def tplQ (s : State) (x : Nat) : Nat := 8 + 2 * s.fld LN_TPL_CFG_CTRL x + s.fld LN_TPL_CFG_FIFO x

/-- The template, its frame offered. -/
def tplSent (x k : Nat) (s : State) : State := s.modTpl x fun p => { p with last := some k, waits := false, asked := false }

theorem tplElement_length : (s.tplElement x).length = 20 := by
  simp [tplElement]

theorem qSize_tx (h : 8 ≤ q) (h' : q < 24) : qSize q = 80 := by
  rw [qSize, if_neg (by omega), if_pos h']

theorem tplSend_roomy (hr : s.roomy (s.tplQ x) = true) : tplSend x s =
    (tplSent x s.tick (qOffer (s.tplQ x) s.T (fun _ => s.tplElement x) s)).modTpl x fun p =>
      { p with seq := (p.seq + 1) % 256 } := by
  have h := qOfferRaw_roomy (s.tplQ x) s.T s (s.tplElement x) hr
  rw [tplQ] at h ⊢
  rw [tplSend, h]
  rfl

theorem tplSend_full (he : s.flag Q_GEOM_EN (s.tplQ x) = true) (hf : s.qN (s.tplQ x) ≤ s.qFill (s.tplQ x))
    (hd : qDet (s.tplQ x) = true) : ∃ k, tplSend x s = qLostBy (s.tplQ x) k [BitVec.ofNat 32 x]
      (raise 54 (tplSent x s.tick (qReject (s.tplQ x) 1 (qSeqInc (s.tplQ x) s)))) := by
  have h := qOfferRaw_full (s.tplQ x) s (s.tplElement x) he hf hd
  rw [tplQ] at h ⊢
  rw [tplSend, h]
  exact ⟨_, rfl⟩

/-- A frame of a template whose FIFO has room. -/
theorem tplSend_takes (h8 : 8 ≤ q) (h24 : q < 24) (hq : q = s.tplQ x) (hr : s.roomy q = true) :
    Frame (qRegs q) (s.inSlot q) s (tplSend x s) ∧ took q ((s.tplElement x).flatMap wordBytes) s (tplSend x s) ∧
      ((tplSend x s).tpl x).seq = ((s.tpl x).seq + 1) % 256 ∧ ((tplSend x s).tpl x).last = some s.tick ∧
      ((tplSend x s).tpl x).waits = false := by
  have hlen : 4 * (s.tplElement x).length ≤ qSize q := by rw [qSize_tx h8 h24, tplElement_length]
  obtain ⟨hf, -, ht, hb⟩ := qOffer_takes q s.T s (s.tplElement x) hr hlen
  have htp := tpl_of_tpls (qOffer_tpls q s.T s (s.tplElement x) hr) x
  rw [hq] at hr
  rw [tplSend_roomy hr, ← hq]
  generalize qOffer q s.T (fun _ => s.tplElement x) s = y at hf ht hb htp
  have hm (M : Nat → Bool) : Frame (qRegs q) M y ((tplSent x s.tick y).modTpl x fun p => { p with seq := (p.seq + 1) % 256 }) :=
    (frame_modTpl ..).trans (frame_modTpl ..)
  refine ⟨hf.trans (hm _), ⟨ht, (rdBytes_congr fun b _ _ => (hm fun _ => false).mem b rfl).trans hb⟩, ?_⟩
  rw [tpl_modTpl, tplSent, tpl_modTpl, htp]
  exact ⟨rfl, rfl, rfl⟩

end

/-! ### A frame that is lost (R129, R394) -/

section
variable (q x k c : Nat) (d : List Word) (s : State)

/-- The rejection of a producer's element by a queue that is no log of its own: a record, and the promise left. -/
theorem qLostBy_eq (hd : qDet q = true) (hq : q ≠ 38) : ∃ i c e t w, qLostBy q k d s = depart (log38 i c e t w s) := by
  rw [qLostBy, if_neg hq, hd]
  exact ⟨_, _, _, _, _, rfl⟩

theorem qReject_get {r : Reg} (h0 : r ≠ .Q_EVT0) (hp : r ≠ .EVT_PEND) (hr : r ≠ .EVT_RAW) (i : Nat) :
    (qReject q k s).get r i = ((s.addSat Q_CNT_OVF q k).setFlag Q_STAT_OVF q true).get r i :=
  get_cause _ _ _ _ _ _ _ _ h0 hp hr

theorem evtHome_qOvf (h : q < 48) : (evtHome (229 + 4 * (q / 12))).1 = (evtHome (228 + 4 * (q / 12))).1 := by
  have h' : ∀ j : Fin 4, (evtHome (229 + 4 * j)).1 = (evtHome (228 + 4 * j)).1 := by decide
  exact h' ⟨q / 12, by omega⟩

theorem qReject_regs (h : q < 48) : regsOnly (qRegs q) s (qReject q k s) := by
  have hm (r : Reg) (hr : r ∈ [Reg.Q_CNT, .Q_STAT]) : (r, q) ∈ qRegs q := by
    simp only [List.mem_cons, List.not_mem_nil, or_false] at hr
    rcases hr with rfl | rfl <;> simp [qRegs]
  have he := evtHome_qOvf q h
  rw [qReject, qCause, regsOnly_cause (by simp [qRegs]) (by simp [qRegs, he]) (by simp [qRegs, he]),
    regsOnly_setFlag (hm _ (by decide)), addSat, regsOnly_setFld (hm _ (by decide))]
  exact regsOnly_refl _ s

theorem qReject_tpls : (qReject q k s).tpls = s.tpls := (cause_tpls ..).trans rfl

/-- A rejection shows in Q_STAT and Q_CNT and leaves TAIL. -/
theorem qReject_holds : (qReject q k s).qTail q = s.qTail q ∧ (qReject q k s).flag Q_STAT_OVF q = true ∧
    (qReject q k s).fld Q_CNT_OVF q = min (s.fld Q_CNT_OVF q + k) (2 ^ (Q_CNT_OVF.hi + 1 - Q_CNT_OVF.lo) - 1) := by
  have hg (f : Field) (h0 : f.reg ≠ .Q_EVT0) (hp : f.reg ≠ .EVT_PEND) (hr : f.reg ≠ .EVT_RAW) :
      (qReject q k s).fld f q = ((s.addSat Q_CNT_OVF q k).setFlag Q_STAT_OVF q true).fld f q :=
    fld_of_get (qReject_get q k s h0 hp hr q)
  refine ⟨?_, ?_, ?_⟩
  · rw [qTail, hg _ (by decide) (by decide) (by decide), setFlag, fld_setFld_other (by decide), addSat,
      fld_setFld_other (by decide)]
    rfl
  · rw [flag, hg _ (by decide) (by decide) (by decide)]
    exact flag_setFlag_same _ Q_STAT_OVF _ _
  · rw [hg _ (by decide) (by decide) (by decide), setFlag, fld_setFld_other (by decide), addSat,
      fld_setFld_lt _ _ _ _ (by decide)]
    have : 0 < 2 ^ (Q_CNT_OVF.hi + 1 - Q_CNT_OVF.lo) := by positivity
    omega

end

section
variable {x q : Nat} {s : State}

/-- What is left of a lost frame: E054, a record and the promise broken. -/
theorem lostFrame_holds (i c e t : Nat) (w : List Word) (y : State) {z : State}
    (hz : z = depart (log38 i c e t w (raise 54 y))) : regsOnly (evtRegs 54 ++ [(.MOD_FAULT, 0)]) y z ∧
      z.kept = y.kept ∧ z.tpls = y.tpls ∧ z.pends 54 = true ∧ ¬ z.promised := by
  rw [hz]
  refine ⟨?_, by simp, ?_, ?_, ?_⟩
  · simp
  · rw [depart, setFlag, setFld, put_tpls, log38_tpls, raise, setRbit, put_tpls, setRbit, put_tpls]
  · rw [depart, pends_setFlag _ _ _ _ _ (by decide), pends_congr _ (get_log38 ..), pends_raise _ _ _ (by decide)]
    simp
  · rw [promised, depart_promise]
    decide

/-- A frame of a template whose FIFO is full. -/
theorem tplSend_lost (h8 : 8 ≤ q) (h24 : q < 24) (hq : q = s.tplQ x) (he : s.flag Q_GEOM_EN q = true)
    (hf : s.qN q ≤ s.qFill q) : regsOnly (qRegs q ++ evtRegs 54 ++ [(.MOD_FAULT, 0)]) s (tplSend x s) ∧
      (tplSend x s).kept = s.kept ∧ (tplSend x s).qTail q = s.qTail q ∧ (tplSend x s).flag Q_STAT_OVF q = true ∧
      (tplSend x s).fld Q_CNT_OVF q = min (s.fld Q_CNT_OVF q + 1) (2 ^ (Q_CNT_OVF.hi + 1 - Q_CNT_OVF.lo) - 1) ∧
      (tplSend x s).pends 54 = true ∧ ¬ (tplSend x s).promised ∧ ((tplSend x s).tpl x).seq = (s.tpl x).seq := by
  have hd : qDet q = true := by
    simp [qDet]
    omega
  obtain ⟨k, hs⟩ := tplSend_full (x := x) (hq ▸ he) (hq ▸ hf) (hq ▸ hd)
  rw [← hq] at hs
  let y := tplSent x s.tick (qReject q 1 (qSeqInc q s))
  obtain ⟨i, c, e, t, w, hl⟩ := qLostBy_eq q k [BitVec.ofNat 32 x] (raise 54 y) hd (by omega)
  obtain ⟨hr, hk, ht, hp, hpr⟩ := lostFrame_holds i c e t w y (hs.trans hl)
  have hy : regsOnly (qRegs q) s y := qReject_regs q 1 (qSeqInc q s) (by omega)
  have hfld (f : Field) (h : f.reg ∈ [Reg.Q_TAIL, .Q_STAT, .Q_CNT]) : (tplSend x s).fld f q = y.fld f q := by
    refine fld_of_get (hr _ _ fun hm => ?_)
    simp only [List.mem_cons, List.not_mem_nil, or_false] at h
    rcases h with h | h | h <;> simp [h] at hm
  obtain ⟨h1, h2, h3⟩ := qReject_holds q 1 (qSeqInc q s)
  refine ⟨?_, ?_, (hfld _ (by decide)).trans h1, (congrArg (· != 0) (hfld Q_STAT_OVF (by decide))).trans h2,
    (hfld _ (by decide)).trans h3, hp, hpr, ?_⟩
  · refine (hy.mono fun r i h => ?_).trans (hr.mono fun r i h => ?_)
    · exact List.mem_append_left _ (List.mem_append_left _ h)
    · rw [List.append_assoc]
      exact List.mem_append_right _ h
  · exact hk.trans ((modTpl_kept ..).trans ((qReject_kept ..).trans (qSeqInc_kept ..)))
  · have hseq : (y.tpl x).seq = ((qReject q 1 (qSeqInc q s)).tpl x).seq := by
      simp only [y, tplSent, tpl_modTpl]
    rw [tpl_of_tpls ht, hseq, tpl_of_tpls (qReject_tpls ..)]
    rfl

/-! ### The frames that are due (R129) -/

theorem tplRefresh_due (he : s.flag LN_TPL_CFG_EN x = true) (hr : s.fld LN_TPL_CFG_REFRESH x ≠ 0)
    (ht : 1000 * s.fld LN_TPL_CFG_REFRESH x ≤ s.tick - (s.tpl x).last.getD (s.tpl x).tEn) (hg : s.tplGapOk x = true) :
    tplRefresh x s = tplSend x s := by
  simp [tplRefresh, tplDue, he, hr, ht, hg]

theorem tplGap_due (he : s.flag LN_TPL_CFG_EN x = true) (hw : (s.tpl x).waits = true) (hg : s.tplGapOk x = true) :
    tplGap x s = tplSend x s := by
  simp [tplGap, he, hw, hg]

theorem tplGap_early (hg : s.tplGapOk x = false) : tplGap x s = s := by
  simp [tplGap, hg]

end
end State

/-- Settles O12: a frame due is sent, and taken or lost by what room its FIFO has. -/
theorem templateFrames : Obligations.TemplateFrames := by
  refine ⟨fun x q => ?_, fun x => ?_, fun x q => ?_, fun x q => ?_⟩
  · refine actsTo_of (f := tplRefresh x) (fun _ => rfl) ?_
    rintro u ⟨hq, he, hr, ht, hg, hroom⟩
    rw [tplRefresh_due he hr ht hg]
    exact tplSend_takes (by omega) q.isLt hq hroom
  · refine acts_of (f := tplGap x) (fun _ => rfl) fun u hg => ?_
    rw [tplGap_early hg]
    exact ⟨regsOnly_refl _ u, rfl, rfl⟩
  · refine actsTo_of (f := tplGap x) (fun _ => rfl) ?_
    rintro u ⟨hq, he, hw, hg, hroom⟩
    rw [tplGap_due he hw hg]
    exact tplSend_takes (by omega) q.isLt hq hroom
  · refine acts_of (f := tplRefresh x) (fun _ => rfl) ?_
    rintro u ⟨hq, he, hr, ht, hg, hen, hfull⟩
    rw [tplRefresh_due he hr ht hg]
    exact tplSend_lost (by omega) q.isLt hq hen hfull

end Sys2Proof.Machine
end
